-- ==== Sys2Proof/Word.lean ====
section
/-!
DEFINITION. Word.lean: the byte type of packets, frames and messages, and their byte strings.
-/
namespace Sys2Proof

/-- One byte of a packet, a frame or a message. -/
abbrev Byte := BitVec 8

/-- A byte string, first byte first. -/
abbrev Bytes := List Byte

/-- A byte from a number, modulo 256. -/
abbrev byte (n : Nat) : Byte := BitVec.ofNat 8 n

end Sys2Proof
end

