-- ==== Sys2Proof/Args.lean ====
section
/-!
DEFINITION. Args.lean: the operand types of the commands: who sends a command, on which path, and the TLVs it carries.
-/
namespace Sys2Proof

/-- The association a command arrives on: the one of a virtual controller, or a service session of a credential index (R133, R537). -/
inductive AssocKey where
  /-- the association of vCtl `v` -/
  | vctl (v : Nat)
  /-- a service session of service credential index `idx`, acting for vCtl 0 -/
  | svc (idx : Nat)
deriving DecidableEq, Repr

/-- The path a packet arrives on (R129). -/
inductive Path where
  /-- uplink `u` -/
  | uplink (u : Nat)
  /-- the service link -/
  | service
  /-- the USB CDC-NCM function of UX1 -/
  | ux1
  /-- the spine relay -/
  | spine
deriving DecidableEq, Repr

/-- Where a single command comes from: its association, its packet's SEQ, its CMDID and its NO_DATA flag (R135, R138). -/
structure Src where
  /-- the association whose traffic keys opened the record -/
  key : AssocKey
  /-- SEQ of the packet that holds the command -/
  seq : Nat
  /-- CMDID, echoed in the reply -/
  cmdid : Nat
  /-- CFLAGS.NO_DATA: the reply entry carries no TLV but DETAIL (R143) -/
  noData : Bool
deriving DecidableEq, Repr

/-- One TLV of a command (R139). -/
structure Tlv where
  /-- type bit 15, the must-understand bit -/
  must : Bool
  /-- type bits [14:0], the identity -/
  id : Nat
  /-- the value, without padding -/
  val : Bytes
deriving DecidableEq, Repr

/-- What a ClientHello offers (R130, R131). -/
structure Hello where
  /-- the host name of its server_name extension, one byte a character -/
  name : Option Bytes
  /-- its protocol versions, DTLS 1.3 being 0xFEFC -/
  versions : List Nat
  /-- its cipher suites, by their IANA numbers -/
  suites : List Nat
  /-- its key exchange groups -/
  groups : List Nat
  /-- the signature schemes it accepts -/
  sigs : List Nat
  /-- the connection identifier by which it wants to receive, where it offers connection identifiers -/
  cid : Option Bytes
  /-- it offers 0-RTT data, a PSK or post-handshake authentication -/
  early : Bool
deriving DecidableEq, Repr

/-- The body of ENUM_REPORT (R202). -/
structure PoleReport where
  /-- EUI-64 of the pole node -/
  eui : Nat
  /-- maker identifier -/
  maker : Nat
  /-- model -/
  model : Nat
  /-- firmware version: major, minor, patch, build -/
  fw : Nat
  /-- MSL majors: bit 3 for MSL 3, bit 4 for MSL 4 -/
  majors : Nat
  /-- slot count, 1 to 16 -/
  slots : Nat
  /-- capability field (R191) -/
  caps : Nat
  /-- basic profile number of each slot -/
  profiles : List Nat
  /-- supply group of each slot -/
  supply : List Nat
  /-- stored fallback level, a slate code -/
  fallback : Nat
  /-- downstream port: 0 link, 1 no signal, 2 signal without lock -/
  down : Nat
deriving DecidableEq, Repr

/-- What arrives with a message from a pole node: its header (R195), the trailer outside it (R221), and whether the tag verifies under the key of
the association that AID names (R196). -/
structure MslHdr where
  /-- association identifier -/
  aid : Nat
  /-- message counter -/
  ctr : Nat
  /-- the tag verifies -/
  ok : Bool
  /-- MVER -/
  mver : Nat := 0x42
  /-- the sender's hop -/
  hop : Nat := 1
  /-- FLAGS: bit 0 PROT, bit 1 GROUP, bit 2 LAST, bits 4 and 3 the credit class -/
  flags : Nat := 1
  /-- it came round a closed loop to the higher port (R205) -/
  round : Bool := false
  /-- the 8-byte trailer of a DELAY_REQ, in units of 2^-16 ns -/
  trailer : Int := 0
deriving DecidableEq, Repr

/-- Wake work that is unfinished at a handoff epoch (R307). -/
structure LateWake where
  /-- strata whose first phase is unfinished -/
  strata : List Nat
  /-- tracks of those strata whose handoff and spills are not complete -/
  tracks : List Nat
deriving DecidableEq, Repr

/-- What a PAIR_RESP carries (R209 step 2), and where its certificate chain ends. -/
structure PairResp where
  /-- the pole node's ephemeral P-256 key: x and y -/
  key : Bytes
  /-- its nonce -/
  nonce : Bytes
  /-- SHA-384 digest of the public key in which its certificate chain ends -/
  anchor : Bytes
deriving DecidableEq, Repr

/-- What the module finds on the carrier at a start (R54, R55): the bytes of the description EEPROM, none when it does not answer, and the
port codes (R140) of the fitted cages that do not answer. -/
structure StartIn where
  /-- bytes 0x00 to 0x4B of the EEPROM -/
  eeprom : Option Bytes
  /-- fitted cages that do not answer on their management address -/
  silent : List Nat
deriving DecidableEq, Repr

/-- What the module measures on the carrier as a frame begins (R69, R79): input power, and the feeds' voltages. -/
structure TickIn where
  /-- input power in W -/
  watts : Nat := 0
  /-- voltage of feed A in mV -/
  mvA : Nat := 0
  /-- voltage of feed B in mV -/
  mvB : Nat := 0
  /-- what a restart in that frame finds on the carrier -/
  start : StartIn := ⟨none, []⟩
deriving DecidableEq, Repr

/-- What the module finds on its contacts as a beat begins (R67, R79). -/
structure BeatIn where
  /-- levels on the 16 GPIO contacts -/
  gpio : Nat := 0
  /-- resistance of KX1 in ohm -/
  ohm : Nat := 0
deriving DecidableEq, Repr

/-- Feed A or feed B (R69). -/
inductive FeedId where
  /-- feed A, on CX1 -/
  | a
  /-- feed B, on CX2 -/
  | b
deriving DecidableEq, Repr

/-- A feed and its voltage (R69). -/
structure FeedMv where
  /-- the feed -/
  id : FeedId
  /-- mV -/
  mv : Nat
deriving DecidableEq, Repr

/-- How firmware configures a timer channel (R103, R104, R108). -/
structure TmrCfg where
  /-- DEST -/
  dest : Nat
  /-- compare value in ns -/
  cmp : Nat
  /-- period in ns -/
  per : Nat := 0
  /-- pulse width in µs -/
  wid : Nat := 1
deriving DecidableEq, Repr

/-- How a PTP message comes: its domainNumber, and the Lodestone ticks since the latest event (R80, R91). -/
structure PtpHdr where
  /-- domainNumber -/
  domain : Nat
  /-- ticks -/
  ticks : Nat := 0
deriving DecidableEq, Repr

/-- Class of the KX1 loop (R67, coded as SVC_KX1_STAT.CLASS). -/
inductive LoopClass where
  /-- 0 -/
  | closed
  /-- 1 -/
  | open_
  /-- 2 -/
  | short
  /-- 3 -/
  | fault
deriving DecidableEq, Repr

/-- A fixed supply offer of a UX1 source: voltage in mV and current in mA (R550). -/
structure Pdo where
  /-- mV -/
  mv : Nat
  /-- mA -/
  ma : Nat
deriving DecidableEq, Repr

/-- A reference of Lodestone (R94). -/
inductive Ref where
  /-- rank 0 -/
  | fsync
  /-- rank 1 -/
  | pps
  /-- rank 2 -/
  | ptp
  /-- rank 3, frequency only -/
  | ref10
deriving DecidableEq, Repr

/-- What an Announce message says of its grandmaster and its sender (R91, R93). -/
structure AnnData where
  /-- grandmasterPriority1 -/
  prio1 : Nat
  /-- grandmasterClockQuality.clockClass -/
  cls : Nat
  /-- grandmasterClockQuality.clockAccuracy -/
  acc : Nat
  /-- grandmasterClockQuality.offsetScaledLogVariance -/
  var : Nat
  /-- grandmasterPriority2 -/
  prio2 : Nat
  /-- grandmasterIdentity -/
  gm : Nat
  /-- stepsRemoved -/
  steps : Nat
  /-- clockIdentity of the sender -/
  src : Nat
  /-- portNumber of the sender -/
  srcPort : Nat
deriving DecidableEq, Repr

/-- What a received PTP message brings to the instance (R91); times in ns, corrections in tenths of a ns. -/
inductive PtpMsg where
  /-- uses a part that R91 does not list: UDP over IPv4, a management message, unicast negotiation, security, an alternate timescale -/
  | unsupported
  /-- an Announce -/
  | announce (d : AnnData)
  /-- a Sync: two-step, sequence, origin, correction -/
  | sync (two : Bool) (seq : Nat) (origin : Nat) (corr : Int)
  /-- a Follow_Up: sequence, precise origin, correction -/
  | followUp (seq : Nat) (origin : Nat) (corr : Int)
  /-- a Delay_Req: sequence, identity of the requester -/
  | delayReq (seq : Nat) (src : Nat)
  /-- a Delay_Resp: sequence, receive time, correction -/
  | delayResp (seq : Nat) (rx : Nat) (corr : Int)
  /-- a Pdelay_Req: sequence, identity of the requester -/
  | pdelayReq (seq : Nat) (src : Nat)
  /-- a Pdelay_Resp: two-step, sequence, request receipt time (0 for one-step), correction -/
  | pdelayResp (two : Bool) (seq : Nat) (rx : Nat) (corr : Int)
  /-- a Pdelay_Resp_Follow_Up: sequence, response origin, correction -/
  | pdelayFollowUp (seq : Nat) (tx : Nat) (corr : Int)
deriving DecidableEq, Repr

/-- A sentence on TOD_RX (R97). -/
inductive TodSentence where
  /-- $PZTOD: seconds since the PTP epoch, TAI minus UTC, quality digit -/
  | pztod (s u q : Nat)
  /-- ZDA: UTC seconds since 1970-01-01 00:00:00 UTC, leap seconds not counted -/
  | zda (utc : Nat)
deriving DecidableEq, Repr

/-- A record of LAMP_SAMPLES (R312), FLAGS and TEMP as their raw bits. -/
structure LampRec where
  /-- slot -/
  slot : Nat
  /-- bit 0 ONWIN, bit 1 COMPLIANCE -/
  flags : Nat
  /-- DUTY in 1/64,000 -/
  duty : Nat
  /-- N -/
  n : Nat
  /-- VF_MEAN in 10 mV -/
  vfMean : Nat
  /-- VF_MIN in 10 mV -/
  vfMin : Nat
  /-- VF_MAX in 10 mV -/
  vfMax : Nat
  /-- IF_MEAN in 0.1 mA -/
  ifMean : Nat
  /-- TEMP, 16 bits; 0x8000 not measured -/
  temp : Nat
deriving DecidableEq, Repr

/-- A record of DETECTION (R294). -/
structure DetRec where
  /-- sensor slot -/
  slot : Nat
  /-- direction; 3 is read as 0 -/
  dir : Nat
  /-- user class -/
  cls : Nat
  /-- speed class -/
  speed : Nat
  /-- network time in ns -/
  time : Nat
deriving DecidableEq, Repr

/-- A wake record of the spine (R305). -/
structure WakeRec where
  /-- 0 track, 1 spill, 2 claim, 3 refusal -/
  kind : Nat
  /-- the receiver's number of the border -/
  border : Nat
  /-- user class -/
  cls : Nat
  /-- dm/s -/
  speed : Nat
  /-- the sender's track number -/
  track : Nat
  /-- mm -/
  dist : Nat
  /-- TIME of the last confirmation -/
  confirm : Nat
  /-- frame number of the sending epoch -/
  epoch : Nat
deriving DecidableEq, Repr

/-- One sample of an input of the Geode (R333, R337): 0 to 63 circuits, 64 to 66 L1 to L3; a value of ±2^23 is the full scale of its path. -/
structure GSample where
  /-- input code (R357) -/
  input : Nat
  /-- path A -/
  a : Int
  /-- path B at its own gain; 0 for a voltage -/
  b : Int
deriving DecidableEq, Repr

/-- A COSEM object (R375). -/
inductive Cosem where
  /-- logical device name -/
  | ldn
  /-- clock -/
  | clock
  /-- register `ix` of R365 of circuit `c` -/
  | register (c ix : Nat)
  /-- pulse count of input `q` -/
  | pulse (q : Nat)
  /-- load profile; its write is the capture period -/
  | profile
  /-- legal log from a sequence number -/
  | legalLog (seq : Nat)
  /-- non-legal log from a sequence number -/
  | nonLegalLog (seq : Nat)
  /-- signed reading by sequence number -/
  | reading (seq : Nat)
  /-- circuit or phase record, 0 to 63 or 0x40 to 0x42 -/
  | circuit (c : Nat)
  /-- pulse weights -/
  | weights
  /-- parameter activation -/
  | activation
  /-- image transfer -/
  | image
  /-- HDLC setup: baud rate identifier and inactivity timeout in s -/
  | hdlc
  /-- security setup: the Geode certificate is read, the trust anchor written -/
  | security
  /-- association -/
  | association
  /-- SAP assignment -/
  | sap
  /-- any other object or attribute -/
  | other
deriving DecidableEq, Repr

/-- What a valid HDLC frame on OX1 carries (R372, R374 to R376). -/
inductive HdlcMsg where
  /-- link set-up -/
  | connect
  /-- disconnection -/
  | disconnect
  /-- association request of a client SAP; whether its authentication succeeds -/
  | associate (sap : Nat) (ok : Bool)
  /-- release of an association -/
  | release (sap : Nat)
  /-- read an object -/
  | get (sap : Nat) (obj : Cosem)
  /-- write an object -/
  | set (sap : Nat) (obj : Cosem) (val : Bytes)
  /-- the image transfer completes with this image; whether its signature is valid -/
  | image (sap : Nat) (version svn : Nat) (good : Bool)
  /-- activation method: 1 activate the staged parameters, 2 discard, 3 activate the image -/
  | activate (sap : Nat) (method : Nat)
  /-- any other request -/
  | other (sap : Nat)
deriving DecidableEq, Repr

/-- What a tenant frame holds, as far as the module looks (R92, R194, R423). -/
inductive EthKind where
  /-- any other payload -/
  | data
  /-- TPID 0x88B5 after its tags -/
  | msl
  /-- a PTP event message: sequence, one-step, correctionField as it stands, in 2^-16 ns, and the two-byte trailer of UDP over IPv6 -/
  | ptpEvent (seq : Nat) (oneStep : Bool) (corr : Int) (trailer : Option Nat)
  /-- the Follow_Up of a two-step Sync, likewise -/
  | followUp (seq : Nat) (corr : Int) (trailer : Option Nat)
  /-- an IPv6 fragment of a datagram to UDP port 49400 of the module -/
  | fragment
  /-- addressed to the module's MAC address, or a PTP message of Lodestone's instance -/
  | control
deriving DecidableEq, Repr

/-- An Ethernet frame on a string or an uplink (R423, R424). -/
structure EthFrame where
  /-- VLAN ID of the service tag -/
  svid : Option Nat
  /-- VLAN ID of the customer tag -/
  cvid : Option Nat
  /-- priority code point of the customer tag -/
  pcp : Nat
  /-- destination MAC address, 48 bits -/
  dst : Nat
  /-- source MAC address, 48 bits -/
  src : Nat
  /-- bytes, tags included -/
  len : Nat
  /-- content -/
  kind : EthKind
deriving DecidableEq, Repr

/-- One port's copy of an air reception (R453): port 0 to 3, RSSI in dBm, and whether the port was blocked by another port's transmission for
want of isolation (R65). -/
structure AirCopy where
  /-- port -/
  port : Nat
  /-- dBm -/
  rssi : Int
  /-- lost to blocking -/
  blocked : Bool
deriving DecidableEq, Repr

/-- A reception of the air unit (R445, R453): the octets of its PSDU, and what the AES-CCM engine finds in it (log 2, 87). -/
structure AirRx where
  /-- channel -/
  ch : Nat
  /-- network time of its end in µs -/
  endT : Nat
  /-- LDS_NS at its end -/
  stamp : Nat
  /-- the copies that R453 merges -/
  copies : List AirCopy
  /-- the PSDU, FCS included -/
  psdu : Bytes
  /-- the MIC verifies under the key that ORIGIN, or the EUI-64, names (R457, R462) -/
  mic : Bool
  /-- the payload of a DATA frame as decrypted -/
  plain : Bytes
deriving DecidableEq, Repr

/-- The header of a received spine message (R475). -/
structure SpHdr where
  /-- LAID -/
  laid : Nat
  /-- CTR -/
  ctr : Nat
  /-- the tag verifies -/
  ok : Bool
  /-- TTL -/
  ttl : Nat
  /-- DEST; none for ALL -/
  dest : Option Nat
  /-- SRC -/
  src : Nat
  /-- URGENT -/
  urgent : Bool
deriving DecidableEq, Repr

/-- What changes the state of a spine port (R478). -/
inductive LinkEv where
  /-- the PCS gains block lock -/
  | lock
  /-- the PCS loses block lock -/
  | lost
  /-- a HELLO -/
  | hello (h : SpHdr)
deriving DecidableEq, Repr

/-- What the other end of a spine link says of itself (R476). -/
structure LinkPeer where
  /-- its chain ends at the Turquendi device CA, and what it signs verifies -/
  chain : Bool
  /-- its OWNER_TAG -/
  tag : Option Bytes
  /-- its ephemeral P-256 key: x and y -/
  key : Bytes
  /-- its nonce -/
  nonce : Bytes
deriving DecidableEq, Repr

/-- A message of the link setup (R476). -/
inductive LinkMsg where
  /-- LINK_INIT -/
  | init (peer : LinkPeer)
  /-- LINK_RESP, with the LAID it assigns -/
  | resp (peer : LinkPeer) (laid : Nat)
  /-- LINK_CONFIRM of a LAID: its tag and its signature verify -/
  | confirm (ok : Bool) (laid : Nat)
deriving DecidableEq, Repr

/-- The ENUMERATE token of a ring (R480): ring, the master's EUI-64, census number and the sender's position. -/
structure EnumTok where
  /-- ring number -/
  ring : Nat
  /-- EUI-64 of the master -/
  master : Nat
  /-- census number -/
  number : Nat
  /-- position of the sender -/
  pos : Nat
deriving DecidableEq, Repr

/-- What the relay takes (R482). -/
inductive RelayIn where
  /-- an IPv6 packet on an uplink (its port code) or on the service link (0xFFFF): destination address, UDP port, DSCP, whether it came in the
  management VLAN, and the packet -/
  | entry (port dst udp dscp : Nat) (mgmt : Bool) (packet : Bytes)
  /-- a RELAY message on a spine port; whether it travels back to the entry module, and the association of the record inside -/
  | msg (east : Bool) (h : SpHdr) (back : Bool) (key : Option AssocKey) (packet : Bytes)
  /-- an IPv6 fragment of a datagram to UDP port 49400, on the service link or UX1 (R129) -/
  | fragment
deriving DecidableEq, Repr

/-- Why a spine frame is discarded (R475, R477). -/
inductive SpDrop where
  /-- neither a spine message nor PTP -/
  | other
  /-- a reserved STYPE -/
  | reserved
  /-- TTL 0 and not addressed to the module -/
  | ttl
deriving DecidableEq, Repr

end Sys2Proof
end

