-- ==== Sys2Proof/Syntax.lean ====
section
/-!
DEFINITION. Syntax.lean: the commands the block takes, one constructor for each row of spec/opcode_table.json.
A row of an opcode (R153) carries the association it arrives on and the TLVs of its command; a row of an event carries what
the outside world brings with it.
-/
namespace Sys2Proof

/-- The commands of the block. -/
inductive Instr where
  /-- FEED_USABLE (R73): A 54 V feed becomes usable, and the module starts its rails and service domain, or moves the service domain off UX1 power. -/
  | feedUsable (feed : FeedMv) (start : StartIn)
  /-- FEED_LOST (R70): One usable feed is lost while the other remains, and the module continues without interruption and raises FEED_LOST. -/
  | feedLost (feed : FeedId)
  /-- ALL_FEEDS_LOST (R72): No usable feed remains, so no new flash program operation starts and the main rails are removed before the service rails. -/
  | allFeedsLost
  /-- INPUT_LOW (R69): A feed enters the 40.0 V to 44 V band and INPUT_LOW is raised once. -/
  | inputLow (feed : FeedMv)
  /-- INPUT_HIGH (R69): A feed enters the 57 V to 59 V band and INPUT_HIGH is raised once. -/
  | inputHigh (feed : FeedMv)
  /-- OVP_TRIP (R69): A feed above 59 V is disconnected by overvoltage protection and OVP_TRIP is raised. -/
  | ovpTrip (feed : FeedId)
  /-- OVP_RECONNECT (R69): A feed disconnected for overvoltage falls below 57.5 V and is reconnected. -/
  | ovpReconnect (feed : FeedMv) (start : StartIn)
  /-- CARRIER_RST (R50): CARRIER_RST_N is held low for at least 10 µs, and the main and service domains are reset after any flash program operation completes. -/
  | carrierRst
  /-- CARRIER_RST_RELEASE (R50): Both CARRIER_RST_N contacts return high and the module starts under R73. -/
  | carrierRstRelease (start : StartIn)
  /-- EMERG_ASSERT (R122): The EMERG input asserts, and the service logic writes the EMERG preset into the urgent overlay and dispatches it for activation at beat b + 4. -/
  | emergAssert (a b : Bool)
  /-- EMERG_DEASSERT (R122): The EMERG input deasserts, and its EMERGENCY source is removed at the next commit. -/
  | emergDeassert (a b : Bool)
  /-- TAMPER_LOOP (R67): 80 consecutive KX1 samples agree on a new class, which becomes the reported class, and TAMPER_LOOP is raised. -/
  | tamperLoop (n ohm : Nat)
  /-- GPIO_DIR_WRITE (R79): A write to SVC_GPIO_DIR changes GPIO directions within 1 beat. -/
  | gpioDirWrite (dir : Nat)
  /-- UX1_ATTACH (R549): A partner attaches to UX1, and the module takes its power and data roles. -/
  | ux1Attach (source : Bool)
  /-- UX1_SOURCE_CAPS (R550): Source capabilities arrive or change on UX1, and the module requests the supply chosen under R62. -/
  | ux1SourceCaps (offers : List Pdo) (unconstrained : Bool) (typeC3A : Bool) (start : StartIn)
  /-- UX1_PR_SWAP_REQUEST (R551): A partner's PR_Swap is accepted or rejected depending on whether a feed is usable. -/
  | ux1PrSwapRequest
  /-- UX1_DR_SWAP_REQUEST (R551): A partner's DR_Swap is accepted, or answered Wait during a PR_Swap. -/
  | ux1DrSwapRequest
  /-- UX1_PR_SWAP_INITIATE (R551): After a feed has been usable for 1 s while the module sinks from a constrained source, the module initiates PR_Swap to become source. -/
  | ux1PrSwapInitiate
  /-- UX1_DR_SWAP_INITIATE (R551): As DFP with no CDC-NCM function from the partner within 2 s, the module initiates DR_Swap to become UFP. -/
  | ux1DrSwapInitiate
  /-- UX1_COLLISION (R552): Power Delivery requests cross, and the source's request proceeds while the sink retries after a random delay. -/
  | ux1Collision
  /-- UX1_DETACH (R553): A CC detach or VBUS out of range ends the UX1 connection, closes its sessions and raises UX1_STATE. -/
  | ux1Detach (vbus : Bool)
  /-- UX1_PS_RDY_TIMEOUT (R553): No PS_RDY arrives within tPSSourceOn while the module becomes sink, so it sends Hard Reset and returns to the roles of R549. -/
  | ux1PsRdyTimeout
  /-- LDS_INC_WRITE (R81): A write to LDS_INC is clamped to the permitted range and takes effect at the next beat boundary. -/
  | ldsIncWrite (v : Nat)
  /-- LDS_OFFSET_LOAD (R82): A write of 1 to LDS_CTL.LOAD performs the single offset load, or sets LOAD_REFUSED. -/
  | ldsOffsetLoad (full : Nat)
  /-- LDS_NS_READ (R85): A read of LDS_NS latches LDS_WRAP, and firmware extends time or raises TIME_EXTEND_GAP. -/
  | ldsNsRead (beats ticks : Nat)
  /-- LDS_FRAME_LO_READ (R86): A read of LDS_FRAME_LO latches LDS_FRAME_HI. -/
  | ldsFrameLoRead
  /-- COUNTER_WRAP (R85): The nanosecond counter wraps and LDS_WRAP increments. -/
  | counterWrap
  /-- TIMER_ARM (R105): Setting ARM on a timer channel arms it, or leaves it disarmed and sets CFG_ERR. -/
  | timerArm (n : Nat) (periodic : Bool) (cfg : TmrCfg)
  /-- TIMER_FIRE (R103): An armed timer channel reaches its compare value, sets FIRED, drives its destination, and rearms or disarms. -/
  | timerFire (n : Nat)
  /-- TIMER_PULSE_END (R104): An output pulse of a timer channel ends after WID microseconds. -/
  | timerPulseEnd (n : Nat)
  /-- BEAT_BOUNDARY (R86): A beat begins, LDS_BEAT advances, and the beat edge is carried to the Geode. -/
  | beatBoundary (io : BeatIn)
  /-- PTP_MESSAGE (R91): A PTP message arrives on an enabled uplink or spine port and is processed by the PTP instance, or is discarded and counted. -/
  | ptpMessage (port : Nat) (hdr : PtpHdr) (m : PtpMsg)
  /-- PPS_IN_EDGE (R94): A PPS_IN edge is taken with its time of day for qualification, offset measurement or steering. -/
  | ppsInEdge (ticks : Nat)
  /-- PPS_IN_MISSING (R94): Two consecutive PPS edges are missing, so 1PPS is lost. -/
  | ppsInMissing
  /-- TOD_RX_SENTENCE (R97): A time-of-day sentence arrives on TOD_RX and labels the preceding PPS edge, or invalidates it. -/
  | todRxSentence (ticks : Nat) (t : TodSentence) (sumOk : Bool)
  /-- FSYNC_IN_EDGE (R100): An FSYNC_IN edge is measured against the nearest frame boundary in frame-sync slave mode. -/
  | fsyncInEdge (beats ticks : Nat)
  /-- FSYNC_LOST (R94): Eight frames pass without a usable FSYNC edge, FSYNC_IN is lost, and FSYNC_LOST is raised. -/
  | fsyncLost
  /-- REF10_QUALIFY (R94): REF10_IN stays within tolerance for 10 s and qualifies for frequency steering. -/
  | ref10Qualify
  /-- REF10_LOST (R101): REF10_IN loses amplitude or frequency, and Lodestone holds the mean increment. -/
  | ref10Lost
  /-- ACQ_TIMEOUT (R101): LDS_ACQ.TMO_S expires in UNSET, time is loaded from TIME_SET, the journal or the epoch, and Lodestone enters FREERUN. -/
  | acqTimeout
  /-- SLEW_COMPLETE (R95): A slew holds within ±50 ns for 16 measurements, and SWITCH becomes LOCKED. -/
  | slewComplete
  /-- HOLDOVER_EXPIRED (R101): Twenty-four hours in HOLDOVER elapse and HOLDOVER_EXPIRED is raised. -/
  | holdoverExpired
  /-- TOD_TX_SENTENCE (R98): Ten milliseconds after each PPS_OUT rising edge, a $PZTOD sentence is sent on TOD_TX. -/
  | todTxSentence
  /-- FRAME_TICK (R109): At beat 0 the slates swap, commands of the previous frame are committed, replies and events are released, and the TIME message is sent to the Geode. -/
  | frameTick (room : Nat) (inp : TickIn)
  /-- EVENT_RESEND (R148): An event record unacknowledged after 100 frames is sent again. -/
  | eventResend (key : AssocKey)
  /-- SCHEDULE_FIRE (R274): A schedule entry's firing time is reached, and it sets its SCHEDULE-rank source as a fade. -/
  | scheduleFire (v no ix : Nat)
  /-- BACK_SLATE_FREEZE (R117): At beat 64 the back slate is frozen, unfinished work is carried, and frames are booked to the attribution ledgers. -/
  | backSlateFreeze (unfinished unsent nodes : List Nat)
  /-- URGENT_PACKET (R120): A DSCP 46 packet meeting R120 is opened on the urgent lane and interpreted in the urgent core slot, or queued. -/
  | urgentPacket (key : AssocKey) (bytes : Bytes)
  /-- URGENT_ACCEPT (R121): At the next beat boundary an urgent command is accepted, writes the overlay and sends URGENT messages for beat b + 4. -/
  | urgentAccept
  /-- CLIENT_HELLO (R134): A ClientHello is answered with a HelloRetryRequest, starts a handshake, or is discarded under the handshake rate limit. -/
  | clientHello (id : Nat) (hello : Hello) (path : Path) (cookie : Bool)
  /-- SERVER_FLIGHT (R132): Forty frames after the ClientHello, the server flight is sent at beat 0 with the vCtl's or a substitute certificate. -/
  | serverFlight (id : Nat)
  /-- CLIENT_FINISHED (R134): The client's Finished is verified, and at the next beat 0 the association opens or bad_certificate is sent. -/
  | clientFinished (id : Nat) (key : Bytes)
  /-- DTLS_ALERT (R134): An alert during a handshake discards it. -/
  | dtlsAlert (id : Nat)
  /-- DTLS_RETRANSMIT (R132): A DTLS retransmission timer expires, and the module retransmits at beat 0. -/
  | dtlsRetransmit (id : Nat)
  /-- HANDSHAKE_TIMEOUT (R134): A handshake receives no client flight for 6,000 frames and is discarded. -/
  | handshakeTimeout (id : Nat)
  /-- ASSOC_IDLE_TIMEOUT (R134): An open association receives no authenticated record for 30,000 frames and is discarded without alert. -/
  | assocIdleTimeout (key : AssocKey)
  /-- DTLS_KEY_UPDATE (R134): After 2^23 records under one traffic key, the module sends KeyUpdate. -/
  | dtlsKeyUpdate (key : AssocKey) (acked : Bool)
  /-- DTLS_RECORD_LIMIT (R134): After 2^24 records without an acknowledged KeyUpdate, the module sends close_notify. -/
  | dtlsRecordLimit (key : AssocKey)
  /-- COMMAND_PACKET (R136): A command packet is opened, its header is checked in order, and its commands are examined or the whole packet is refused. -/
  | commandPacket (key : AssocKey) (bytes : Bytes)
  /-- SESSION_OPEN (R156): Negotiates the major version and capabilities and opens the session, or refreshes them and compacts a tenant's numbering. -/
  | sessionOpen (vmaj : Nat) (src : Src) (tlvs : List Tlv)
  /-- SESSION_CLOSE (R134): Closes the association after its reply with close_notify. -/
  | sessionClose (src : Src) (tlvs : List Tlv)
  /-- KEEPALIVE (R134): Keeps an idle association open and does nothing else. -/
  | keepalive (src : Src) (tlvs : List Tlv)
  /-- DEVICE_INFO (R500): Returns the virtual identity, version and quota, and for the owner an attestation record or a certificate. -/
  | deviceInfo (src : Src) (tlvs : List Tlv)
  /-- REG_READ (R154): Reads 1 to 64 consecutive registers at its commit. -/
  | regRead (src : Src) (tlvs : List Tlv)
  /-- REG_WRITE (R154): Writes 1 to 64 consecutive registers field by field at its commit, honouring access types and locks. -/
  | regWrite (src : Src) (tlvs : List Tlv)
  /-- LIGHT_LEVEL (R262): Sets or releases the vCtl's level source on an endpoint list or group. -/
  | lightLevel (src : Src) (tlvs : List Tlv)
  /-- LIGHT_FADE (R265): Installs a step-limited fade source toward LEVEL. -/
  | lightFade (src : Src) (tlvs : List Tlv)
  /-- LIGHT_LEASE (R175): Acquires or releases the LIGHT lease endpoint by endpoint. -/
  | lightLease (src : Src) (tlvs : List Tlv)
  /-- LIGHT_READ (R263): Returns front-slate codes and source information per endpoint. -/
  | lightRead (src : Src) (tlvs : List Tlv)
  /-- LIGHT_EMERGENCY (R261): Sets or clears an EMERGENCY-rank level, or adds to or empties the EMERG preset. -/
  | lightEmergency (src : Src) (tlvs : List Tlv)
  /-- LIGHT_LEVEL_X (R254): Sets any slate code, special codes included. -/
  | lightLevelX (src : Src) (tlvs : List Tlv)
  /-- STEP_TABLE (R266): Writes a step table and optionally starts it on endpoints. -/
  | stepTable (src : Src) (tlvs : List Tlv)
  /-- FACTOR_SET (R279): Sets the global factor, group factors, derate profiles and derate assignments. -/
  | factorSet (src : Src) (tlvs : List Tlv)
  /-- SLATE_WINDOW (R264): Returns up to 256 raw front-slate entries with the overlay applied. -/
  | slateWindow (src : Src) (tlvs : List Tlv)
  /-- GROUP_DEFINE (R269): Creates, renames or removes a group. -/
  | groupDefine (src : Src) (tlvs : List Tlv)
  /-- GROUP_MEMBERS (R270): Sets primary and secondary group memberships. -/
  | groupMembers (src : Src) (tlvs : List Tlv)
  /-- SCHEDULE_WRITE (R271): Replaces a schedule of clock and solar entries. -/
  | scheduleWrite (src : Src) (tlvs : List Tlv)
  /-- SCHEDULE_WRITE_X (R271): Replaces a schedule that may include entries at raw frame numbers. -/
  | scheduleWriteX (src : Src) (tlvs : List Tlv)
  /-- SCHEDULE_READ (R271): Returns a schedule. -/
  | scheduleRead (src : Src) (tlvs : List Tlv)
  /-- AON_DEFINE (R322): Flags a group all-or-none with its fail state, or unflags it. -/
  | aonDefine (src : Src) (tlvs : List Tlv)
  /-- AON_CLEAR (R326): Clears a latched all-or-none group whose latch number matches. -/
  | aonClear (src : Src) (tlvs : List Tlv)
  /-- ATTR_READ (R230): Reads profile attributes by name number, or profile descriptions. -/
  | attrRead (src : Src) (tlvs : List Tlv)
  /-- ATTR_WRITE (R230): Writes one profile attribute by name number through the bridge. -/
  | attrWrite (src : Src) (tlvs : List Tlv)
  /-- BRIDGE_READ (R229): Queues a split read of 1 to 64 endpoint registers under a tag. -/
  | bridgeRead (src : Src) (tlvs : List Tlv)
  /-- BRIDGE_WRITE (R229): Queues a posted or non-posted write of 1 to 64 endpoint registers. -/
  | bridgeWrite (src : Src) (tlvs : List Tlv)
  /-- SEM_ACQUIRE (R244): Grants, renews, queues or refuses a semaphore on a register block at commit. -/
  | semAcquire (src : Src) (tlvs : List Tlv)
  /-- SEM_RELEASE (R247): Frees or passes a held semaphore, or force-breaks it for the owner. -/
  | semRelease (src : Src) (tlvs : List Tlv)
  /-- EVT_SUBSCRIBE (R149): Sets the vCtl's event family mask. -/
  | evtSubscribe (src : Src) (tlvs : List Tlv)
  /-- EVT_ACK (R148): Acknowledges sent event records up to an ESEQ. -/
  | evtAck (src : Src) (tlvs : List Tlv)
  /-- TELEMETRY_READ (R328): Returns lamp-check telemetry records for up to 64 endpoints. -/
  | telemetryRead (src : Src) (tlvs : List Tlv)
  /-- TELEMETRY_STREAM (R329): Starts or stops periodic TELEMETRY events. -/
  | telemetryStream (src : Src) (tlvs : List Tlv)
  /-- METER_READ (R382): Returns register copies, readings, reading headers or log records, or requests them from the Geode. -/
  | meterRead (src : Src) (tlvs : List Tlv)
  /-- METER_PERIOD (R383): Returns period values of the register copies for a settlement period. -/
  | meterPeriod (src : Src) (tlvs : List Tlv)
  /-- ATTRIB_READ (R404): Returns closed or provisional ledger totals or shares. -/
  | attribRead (src : Src) (tlvs : List Tlv)
  /-- WAVEFORM_STREAM (R384): Starts or stops raw waveform export of selected inputs. -/
  | waveformStream (src : Src) (tlvs : List Tlv)
  /-- CORRECTION_READ (R384): Requests a circuit or phase correction record from the Geode. -/
  | correctionRead (src : Src) (tlvs : List Tlv)
  /-- ATTRIB_MODEL (R405): Returns the attribution models of up to 16 endpoints. -/
  | attribModel (src : Src) (tlvs : List Tlv)
  /-- PROBE_DITHER (R406): Turns probe dither on or off with its scope and steady time. -/
  | probeDither (src : Src) (tlvs : List Tlv)
  /-- SNAPSHOT (R385): Arms timer channel 3, or a pool channel, for a Geode snapshot at SNAP_TIME. -/
  | snapshot (src : Src) (tlvs : List Tlv)
  /-- TIME_READ (R101): Returns the time of day and the reference state. -/
  | timeRead (src : Src) (tlvs : List Tlv)
  /-- SOLAR_READ (R273): Returns the solar event times for a date. -/
  | solarRead (src : Src) (tlvs : List Tlv)
  /-- TIME_SET (R534): Supplies the owner's time for the offset load before frame service. -/
  | timeSet (src : Src) (tlvs : List Tlv)
  /-- UTC_TABLE (R272): Sets the TAI − UTC offset and leap-second table. -/
  | utcTable (src : Src) (tlvs : List Tlv)
  /-- PTP_PORT (R89): Configures PTP per port, with delays and asymmetry. -/
  | ptpPort (src : Src) (tlvs : List Tlv)
  /-- TIME_RAW_READ (R90): Returns raw stamps with their correction constants. -/
  | timeRawRead (src : Src) (tlvs : List Tlv)
  /-- TIMED_PULSE (R107): Arms one of the vCtl's pool timer channels with DEST 0 to 2. -/
  | timedPulse (src : Src) (tlvs : List Tlv)
  /-- STAMP_MARK (R88): Marks tenant frames for egress stamping. -/
  | stampMark (src : Src) (tlvs : List Tlv)
  /-- AIR_ENROL (R461): Enrols an air endpoint at the lowest free air index. -/
  | airEnrol (src : Src) (tlvs : List Tlv)
  /-- AIR_SEND (R466): Queues a message, register read or register write to a joined air endpoint. -/
  | airSend (src : Src) (tlvs : List Tlv)
  /-- AIR_REMOVE (R463): Ends an air enrolment and erases its keys. -/
  | airRemove (src : Src) (tlvs : List Tlv)
  /-- AIR_RAW_TX (R469): Queues a raw air frame for transmission. -/
  | airRawTx (src : Src) (tlvs : List Tlv)
  /-- CHANNEL_PLAN (R472): Sets the region, the US window and the per-port configuration. -/
  | channelPlan (src : Src) (tlvs : List Tlv)
  /-- AIR_RAW_CAPTURE (R470): Starts or stops raw air capture into the raw FIFO. -/
  | airRawCapture (src : Src) (tlvs : List Tlv)
  /-- VEMER_SET (R471): Places one port on Vemer slotted hopping, or takes it off. -/
  | vemerSet (src : Src) (tlvs : List Tlv)
  /-- KEY_SESSION (R514): Forces a KeyUpdate on the association after its reply. -/
  | keySession (src : Src) (tlvs : List Tlv)
  /-- SLOT_LOAD (R510): Loads a blob, a generated key or an imported key into a key slot. -/
  | slotLoad (src : Src) (tlvs : List Tlv)
  /-- SLOT_UNLOAD (R510): Empties a key slot and/or deletes a registry entry. -/
  | slotUnload (src : Src) (tlvs : List Tlv)
  /-- SLOT_USE (R512): Performs an operation permitted by its usage mask with a loaded slot. -/
  | slotUse (src : Src) (tlvs : List Tlv)
  /-- VLAN_ATTACH (R428): Creates a tenant VLAN domain if needed and adds endpoint or uplink members. -/
  | vlanAttach (src : Src) (tlvs : List Tlv)
  /-- VLAN_DETACH (R429): Removes members or a whole tenant domain. -/
  | vlanDetach (src : Src) (tlvs : List Tlv)
  /-- SHAPER_SET (R430): Caps a tenant class's rate below the committed rate. -/
  | shaperSet (src : Src) (tlvs : List Tlv)
  /-- QUEUE_SET (R430): Sets the PCP map and the per-class queue limits. -/
  | queueSet (src : Src) (tlvs : List Tlv)
  /-- EXPORT_BLOCK (R441): Exports a workspace block as EXPORT_DATA events on channel 0. -/
  | exportBlock (src : Src) (tlvs : List Tlv)
  /-- WORKSPACE_INFO (R441): Returns the workspace size, the written granules and the channel count. -/
  | workspaceInfo (src : Src) (tlvs : List Tlv)
  /-- DMA_DESCRIPTOR (R437): Queues a two-dimensional DMA descriptor on a channel. -/
  | dmaDescriptor (src : Src) (tlvs : List Tlv)
  /-- DMA_FENCE (R440): Queues a FENCE on a channel. -/
  | dmaFence (src : Src) (tlvs : List Tlv)
  /-- VCTL_CREATE (R162): Creates a tenant vCtl, increments its incarnation and reserves its quotas. -/
  | vctlCreate (src : Src) (tlvs : List Tlv)
  /-- VCTL_REMOVE (R163): Removes a tenant vCtl and begins REMOVING with the removal actions. -/
  | vctlRemove (src : Src) (tlvs : List Tlv)
  /-- RIGHTS_SET (R169): Adds, removes or sets a tenant's endpoint and module-wide rights. -/
  | rightsSet (src : Src) (tlvs : List Tlv)
  /-- QUOTA_SET (R171): Sets a vCtl's quotas and chooses its token phase. -/
  | quotaSet (src : Src) (tlvs : List Tlv)
  /-- CRED_SET (R581): Registers a client key, a vCtl certificate, service credentials or the image key. -/
  | credSet (src : Src) (tlvs : List Tlv)
  /-- SEGMENT_CONFIG (R572): Applies string, light, wake, lamp-check, attribution and traffic settings whole or not at all. -/
  | segmentConfig (src : Src) (tlvs : List Tlv)
  /-- SPINE_CONFIG (R479): Sets the ring number, the master role, the owner tag or census acceptance. -/
  | spineConfig (src : Src) (tlvs : List Tlv)
  /-- SWEEP_ORDER (R485): Orders a sweep, recollects one, or reads a record or a result. -/
  | sweepOrder (src : Src) (tlvs : List Tlv)
  /-- REGWIN_GRANT (R582): Grants or removes a register window of a vCtl. -/
  | regwinGrant (src : Src) (tlvs : List Tlv)
  /-- IMAGE_STAGE (R538): Writes an image chunk into the STAGED slot of a class. -/
  | imageStage (src : Src) (tlvs : List Tlv)
  /-- IMAGE_VERIFIED (R538): A fully staged image is verified, and its RESULT carries OK or a refusal. -/
  | imageVerified (cls : Nat)
  /-- IMAGE_ACTIVATE (R539): Checks an update manifest and starts a hitless or restart activation. -/
  | imageActivate (src : Src) (tlvs : List Tlv)
  /-- DIAG_READ (R548): Returns diagnostic data selected by CODE. -/
  | diagRead (src : Src) (tlvs : List Tlv)
  /-- JOURNAL_EXPORT (R548): Exports the configuration records as JOURNAL_DATA events. -/
  | journalExport (src : Src) (tlvs : List Tlv)
  /-- VCTL_REMOVAL_END (R163): No tag or DMA channel of a REMOVING vCtl remains, or 20 frames pass, so its pools are released and it becomes ABSENT. -/
  | vctlRemovalEnd (v : Nat)
  /-- STRING_LINK (R26): A string port gains or loses link, STRING_LINK is raised, and a census is triggered or the string is folded. -/
  | stringLink (port : Nat) (up : Bool) (rate : Nat)
  /-- RATE_TRY_TIMEOUT (R189): Under AUTO no block lock is reached within 50 ms, so the grain tries the other rate. -/
  | rateTryTimeout (port : Nat)
  /-- CENSUS_START (R201): At the first beat 0 after a trigger, the grain sends ENUMERATE and begins a census pass. -/
  | censusStart (port : Nat)
  /-- ENUM_REPORT (R202): A pole node's census report is recorded, and a LAST report ends the pass. -/
  | enumReport (port number hop : Nat) (rep : PoleReport) (last : Bool)
  /-- ENUMERATE_LOOP_RETURN (R201): The grain's ENUMERATE arrives at the loop partner port, marking the loop closed. -/
  | enumerateLoopReturn (port number : Nat)
  /-- CENSUS_PASS_TIMEOUT (R201): One frame passes after the latest report, and the pass ends as if with a LAST. -/
  | censusPassTimeout (port : Nat)
  /-- LINK_CHANGE (R206): A LINK_CHANGE from a pole node aborts any running census and triggers a new one. -/
  | linkChange (port : Nat)
  /-- CENSUS_RETRY (R206): Two frames after an abort, or 100 frames after 8 aborts, a new census starts. -/
  | censusRetry (port : Nat)
  /-- PAIR_RESP (R209): A pole node's pairing response is checked against the pole anchors, and a pairwise key is stored and PAIR_DONE sent. -/
  | pairResp (str pos : Nat) (resp : PairResp) (eui : Nat) (sigOk : Bool)
  /-- PAIR_TIMEOUT (R209): No PAIR_RESP arrives within 2 frames, so pairing is retried, or POLE_AUTH_FAIL is raised after three tries. -/
  | pairTimeout (str pos : Nat)
  /-- PAIR_RETRY (R209): Every 6,000 frames, pairing of a failed pole node is tried again. -/
  | pairRetry (str pos : Nat)
  /-- ASSOC_CONFIRM (R210): A verified ASSOC_CONFIRM opens the pole node's association. -/
  | assocConfirm (str pos : Nat) (hdr : MslHdr)
  /-- ASSOC_INIT_TIMEOUT (R210): An unanswered association start is retried after 2 frames, or after three tries raises ASSOC_CLOSED and retries every 100 frames. -/
  | assocInitTimeout (str pos : Nat)
  /-- ASSOC_CLOSE (R210): A pole node closes its association, ASSOC_CLOSED is raised, and a new association starts. -/
  | assocClose (str pos : Nat) (hdr : MslHdr)
  /-- ASSOC_REKEY (R212): A counter reaches 2^62, and a new association is started while the old one continues. -/
  | assocRekey (str pos : Nat)
  /-- ASSOC_OLD_KEY_ERASE (R212): Eight frames after the switch to new keys, the old keys are erased. -/
  | assocOldKeyErase (str pos : Nat)
  /-- ASSOC_EXHAUSTED (R212): A counter reaches 2^64 − 1, the association closes with EXHAUSTED, and a fresh one starts. -/
  | assocExhausted (str pos : Nat)
  /-- GROUP_KEY_REPLACE (R214): The string group key is replaced and delivered in GROUP_KEY with a new epoch. -/
  | groupKeyReplace (str : Nat)
  /-- TIME_SYNC_SEND (R221): At beat 32 TIME_SYNC is sent under the group key to every pole node. -/
  | timeSyncSend (str : Nat)
  /-- DELAY_REQ (R221): A pole node's DELAY_REQ is answered with DELAY_RESP. -/
  | delayReq (str pos : Nat) (hdr : MslHdr)
  /-- RESYNC_REQ (R223): A pole node's RESYNC_REQ makes its next FRAME message a full refresh. -/
  | resyncReq (str pos : Nat) (hdr : MslHdr)
  /-- CREDIT (R216): A CREDIT message returns freed credits per class. -/
  | credit (str pos : Nat) (hdr : MslHdr) (counts : List Nat)
  /-- CREDIT_QUERY (R217): A class has waited 10 frames without credit, so CREDIT_QUERY is sent and the class may be held as stalled. -/
  | creditQuery (str pos cls : Nat)
  /-- BRIDGE_ISSUE (R236): In its vCtl's issue slot, a queued bridge operation is sent down the string and its tag timer starts. -/
  | bridgeIssue (str v : Nat)
  /-- BR_READ_RESP (R239): A read response retires its tag with a RESULT, or is discarded as late or mismatched. -/
  | brReadResp (str pos : Nat) (hdr : MslHdr) (slot tag reg count estat : Nat) (data : Bytes)
  /-- BR_WRITE_ACK (R239): A non-posted write acknowledgement retires its tag, or is discarded as late or mismatched. -/
  | brWriteAck (str pos : Nat) (hdr : MslHdr) (slot tag reg count estat : Nat)
  /-- TAG_TIMEOUT (R239): An in-flight tag reaches T, BRIDGE_TIMEOUT is delivered, and the tag enters TIMED_OUT. -/
  | tagTimeout (str tag : Nat)
  /-- TAG_SECOND_TIMEOUT (R239): A timed-out tag reaches T again and returns to FREE. -/
  | tagSecondTimeout (str tag : Nat)
  /-- SEM_WAIT_TIMEOUT (R244): A semaphore waiter not granted by its deadline receives SEM_BUSY and leaves the queue. -/
  | semWaitTimeout (str : Nat)
  /-- SEM_BROKEN_EXPIRE (R246): A broken-semaphore record unreported for 250 frames is erased. -/
  | semBrokenExpire (str : Nat)
  /-- DETECTION (R294): A DETECTION message delivers sensor records to the wake evaluator. -/
  | detection (str pos : Nat) (hdr : MslHdr) (recs : List DetRec)
  /-- WAKE_HANDOFF_EPOCH (R303): At the handoff epoch, tracks and spills pass between strata, and spine wake records are sent. -/
  | wakeHandoffEpoch (pool : Bool) (late : LateWake)
  /-- WAKE_MESSAGE (R306): A spine WAKE message's track and spill records are claimed, used, refused or discarded by the receiver. -/
  | wakeMessage (east : Bool) (h : SpHdr) (recs : List WakeRec)
  /-- LAMP_SAMPLES (R313): A LAMP_SAMPLES message is stored for classification, or discarded as late or bad. -/
  | lampSamples (str pos : Nat) (hdr : MslHdr) (frame8 : Nat) (recs : List LampRec)
  /-- LAMP_CLASSIFY (R317): At beat 40 each lighting channel gets a verdict, persistence is applied, and LAMP_CLASS is raised on change. -/
  | lampClassify
  /-- GEODE_BEAT_EDGE (R336): A beat edge reaches the Geode, which steers its sample clock and takes one sample of every input. -/
  | geodeBeatEdge (edge : Bool) (spacing : Nat) (err : Int) (smp : List GSample)
  /-- GEODE_EDGES_MISSING (R336): Sixteen consecutive beat edges are missing, and the Geode holds its rate and enters FREE. -/
  | geodeEdgesMissing
  /-- GEODE_TIME (R337): The TIME message labels the Geode's samples and is checked against its label count. -/
  | geodeTime (frame : Nat) (ok : Bool)
  /-- CYCLE_END (R342): An accepted zero crossing ends a cycle, and its quantities are accumulated and overcurrent is evaluated. -/
  | cycleEnd (phase : Nat) (cross : Option Nat)
  /-- GEODE_NO_CROSSING (R343): No accepted crossing for 25 ms, or low voltage, switches the phase to 160-sample blocks. -/
  | geodeNoCrossing (phase : Nat)
  /-- GEODE_LINK_PACKET (R362): The Geode sends its per-frame link packet of status, record, copies, events and readings. -/
  | geodeLinkPacket
  /-- LINK_PACKET_RECEIVED (R362): The main side receives a Geode link packet and updates its mirror registers, copies and events. -/
  | linkPacketReceived
  /-- GEODE_LINK_SILENT (R386): No link packet arrives for 10 frames, and GEODE_LINK is raised. -/
  | geodeLinkSilent
  /-- GEODE_SNAPSHOT_MSG (R352): A SNAPSHOT message reaches the Geode and fixes latch edge E, or is recorded as SNAPSHOT_MISSED. -/
  | geodeSnapshotMsg (t src : Nat) (ok : Bool)
  /-- SNAPSHOT_LATCH (R354): At E the cycles in progress end and the legal registers are latched. -/
  | snapshotLatch
  /-- READING_SIGNED (R368): A latched reading is signed with the next reading sequence number and READING_READY is raised. -/
  | readingSigned
  /-- PROFILE_CLOSE (R366): A profile capture boundary is reached, and a kind 2 reading is latched. -/
  | profileClose (e : Nat)
  /-- INRUSH_HINT (R350): An INRUSH message opens or extends the overcurrent mask of its circuit, or is ignored. -/
  | inrushHint (c a : Nat) (ok : Bool)
  /-- INRUSH_MASK_CLOSE (R350): An inrush mask closes at frame a + 5 or after 20 frames, reporting any pending overcurrent. -/
  | inrushMaskClose (c : Nat)
  /-- READ_REQ (R364): A READ_REQ is answered in a later link packet with data or a code. -/
  | readReq (id obj ix : Nat) (ok : Bool)
  /-- READ_REQ_FAILED (R382): A request to the Geode unanswered for 10 frames fails with GEODE_UNREACHABLE. -/
  | readReqFailed (id : Nat)
  /-- PULSE_INPUT_CHANGE (R351): An accepted level change of a pulse input counts a pulse or a glitch. -/
  | pulseInputChange (q : Nat) (high : Bool) (t : Nat)
  /-- PULSE_STUCK (R351): A pulse input stays ON for 10 s and becomes STUCK. -/
  | pulseStuck (q : Nat)
  /-- GEODE_SAVE (R378): Each second the Geode saves accumulators, counts and sequence numbers to FRAM. -/
  | geodeSave
  /-- GEODE_POWER_FAIL (R378): No line input carries 90 V for 10 ms, and a final PF save is made. -/
  | geodePowerFail (ok : Bool)
  /-- GEODE_LINE_RETURN (R378): The line returns within hold-up, and the Geode continues and writes SUPPLY_INTERRUPTION. -/
  | geodeLineReturn (ms : Nat)
  /-- GEODE_HOLDUP_END (R378): The Geode's hold-up ends and it stops. -/
  | geodeHoldupEnd
  /-- GEODE_START (R379): At start the Geode resumes from its latest valid save, signs late readings and writes its log records. -/
  | geodeStart
  /-- GEODE_TEMP_READ (R380): A Geode temperature reading may suspend metering after two readings at 105 °C. -/
  | geodeTempRead (t : Int)
  /-- GEODE_TEMP_RESUME (R380): After 60 s below 100 °C the Geode resumes metering. -/
  | geodeTempResume
  /-- COVER_OPENED (R370): The cartridge cover switch opens while powered, and COVER_OPENED is logged. -/
  | coverOpened
  /-- OPTICAL_FLOOD (R373): The photocurrent exceeds the threshold for 2 bit times, and the receiver declares FLOOD. -/
  | opticalFlood
  /-- OPTICAL_FLOOD_END (R373): The photocurrent stays below the threshold for 50 ms, and FLOOD ends. -/
  | opticalFloodEnd
  /-- HDLC_FRAME (R372): A valid HDLC frame on OX1 is processed, and the Geode answers as secondary station. -/
  | hdlcFrame (m : HdlcMsg)
  /-- HDLC_INACTIVITY (R372): The HDLC inactivity timeout disconnects the link and releases its associations. -/
  | hdlcInactivity
  /-- SAP_LOCK_END (R374): Ten minutes after a lock, the SAP accepts associations again. -/
  | sapLockEnd (sap : Nat)
  /-- METERING_RESUME (R376): Accumulation resumes at E1 with a kind 4 reading and METERING_PAUSED logged. -/
  | meteringResume (e1 : Nat)
  /-- FIRMWARE_REVERT (R376): New Geode firmware has not resumed by E0 + 25 s, so the previous bank starts and FIRMWARE_REVERTED is logged. -/
  | firmwareRevert
  /-- PERIOD_CLOSE (R394): A settlement period closes, shares and residuals are computed, and ATTRIB_PERIOD_CLOSED is raised. -/
  | periodClose
  /-- TENANT_FRAME (R423): A frame received on an uplink or string is classified, looked up and enqueued, or discarded. -/
  | tenantFrame (port : Nat) (f : EthFrame) (t : Nat) (round full : Bool)
  /-- EGRESS_SERVE (R413): An egress port selects its next frame by class priority and virtual clock and transmits it. -/
  | egressServe (port t : Nat) (banks : List (Nat × Nat))
  /-- MAC_AGE_OUT (R425): A learned address unseen for 30,000 frames is forgotten. -/
  | macAgeOut (v vid mac : Nat)
  /-- RAW_BLOCK_WRITE (R432): A waveform or capture block is written whole into a raw FIFO, or discarded on overflow. -/
  | rawBlockWrite
  /-- DMA_REQUEST (R439): A pacing request releases a burst of the heading paced descriptor, or is counted as pending. -/
  | dmaRequest (n line tch : Nat)
  /-- DMA_DESCRIPTOR_COMPLETE (R440): A descriptor's last write leaves the engine, and its RESULT is released at the next beat 0. -/
  | dmaDescriptorComplete (n : Nat)
  /-- DMA_FENCE_COMPLETE (R440): Every earlier write of the channel is acknowledged, so the FENCE completes and AFTER descriptors may start. -/
  | dmaFenceComplete (n : Nat)
  /-- AIR_FRAME_RX (R445): A received air frame is checked, merged across ports, authenticated and dispatched by type. -/
  | airFrameRx (r : AirRx)
  /-- AIR_ACK_TX (R453): An allocated acknowledgement is sent 1,000 µs after the frame's end. -/
  | airAckTx (t : Nat)
  /-- JOIN_ACCEPT_TX (R462): Five milliseconds after the JOIN_REQ, the JOIN_ACCEPT is sent if a port and dwell are free. -/
  | joinAcceptTx (t : Nat)
  /-- AIR_TX_START (R465): The transmit scheduler starts the next queued air frame that its payer's dwell budget admits. -/
  | airTxStart (t : Nat)
  /-- AIR_TX_END (R450): An air transmission ends, and its port's receiver unmutes 100 µs later. -/
  | airTxEnd (port t vswr : Nat)
  /-- AIR_RETRY (R466): An unacknowledged air frame is sent again after a random delay, or fails after its retries. -/
  | airRetry (id : Nat)
  /-- AIR_REG_RESP_TIMEOUT (R466): No REG_RESP arrives within 2 s, and the read ends in BRIDGE_TIMEOUT. -/
  | airRegRespTimeout (id : Nat)
  /-- AIR_HOLD_EXPIRY (R466): A frame held for a WINDOW endpoint exceeds its hold time and fails. -/
  | airHoldExpiry (id : Nat)
  /-- AIR_RAW_TX_EXPIRY (R469): A raw frame not sent within 100 frames is dropped with QUOTA_EXCEEDED. -/
  | airRawTxExpiry (id : Nat)
  /-- AIR_LIGHT_REFRESH (R467): An air lantern without a LIGHT frame for half its fallback time is sent its current code. -/
  | airLightRefresh (n : Nat)
  /-- AIR_SILENT (R467): No authenticated uplink from an endpoint for its fallback time raises AIR_SILENT. -/
  | airSilent (n : Nat)
  /-- AIR_REJOIN_DUE (R458): A session counter passes 0xF000_0000, so REJOIN is sent or AIR_REJOIN_DUE is raised. -/
  | airRejoinDue (n : Nat) (down : Bool)
  /-- SPINE_PORT_LINK (R478): A spine port goes up or down, SPINE_LINK is raised and LINK_NOTICE is sent. -/
  | spinePortLink (east : Bool) (ev : LinkEv)
  /-- HELLO_TIMEOUT (R478): No HELLO arrives for 3 frames, and the spine port goes down. -/
  | helloTimeout (east : Bool)
  /-- HELLO_SEND (R477): At beat 20 of every frame, each spine link sends HELLO. -/
  | helloSend
  /-- SPINE_LINK_SETUP (R476): LINK_INIT, LINK_RESP or LINK_CONFIRM set up the link association, or the peer is refused. -/
  | spineLinkSetup (east : Bool) (m : LinkMsg)
  /-- SPINE_LINK_INIT_RETRY (R476): Every 100 frames a refused spine port sends a new LINK_INIT. -/
  | spineLinkInitRetry (east : Bool)
  /-- LINK_NOTICE (R481): A LINK_NOTICE updates the ring routes and may start a census at the master. -/
  | linkNotice (east : Bool) (h : SpHdr) (eastUp westUp : Bool)
  /-- RING_CENSUS_START (R479): The ring master starts a ring census by sending ENUMERATE. -/
  | ringCensusStart
  /-- SPINE_ENUMERATE (R480): A module takes its position from the ENUMERATE token and forwards it, or raises SPINE_MASTER_CONFLICT. -/
  | spineEnumerate (east : Bool) (h : SpHdr) (t : EnumTok) (reach : List (Nat × Nat))
  /-- RING_TABLE (R480): A RING_TABLE is kept and sets the module's spine address. -/
  | ringTable (east : Bool) (h : SpHdr) (result : Nat) (mods : List (Nat × Nat))
  /-- RELAY (R482): A RELAY message is forwarded, or its packet is taken as arriving on the spine path. -/
  | relay (r : RelayIn)
  /-- SWEEP_ORDER_MSG (R486): A SWEEP_ORDER message is forwarded and answered with ORDER_REPLY, arming channel 4 when accepted. -/
  | sweepOrderMsg (east : Bool) (h : SpHdr) (id t : Nat)
  /-- ORDER_REPLY (R489): An ORDER_REPLY is recorded by the sweep origin. -/
  | orderReply (east : Bool) (h : SpHdr) (id code : Nat)
  /-- SWEEP_LATCH (R487): Channel 4 fires, the sweep unit sends the Geode a SNAPSHOT and records its state. -/
  | sweepLatch
  /-- SWEEP_RECORD_FORM (R487): The kind 1 reading reaches the main side, or T + 10 frames pass, and the sweep record is formed and held. -/
  | sweepRecordForm
  /-- SWEEP_PARTICIPANT_CLOSE (R486): At T + 10 frames a participant's sweep closes. -/
  | sweepParticipantClose
  /-- COLLECTION_START (R488): At the first beat 0 after T + 10 frames, the origin sends COLLECT east. -/
  | collectionStart
  /-- COLLECT (R488): A module sends its SWEEP_RECORD and forwards COLLECT, or turns it. -/
  | collect (east : Bool) (h : SpHdr) (id : Nat) (map : List Nat)
  /-- SWEEP_RECORD (R488): The origin receives a sweep record. -/
  | sweepRecord (east : Bool) (h : SpHdr) (id pos : Nat) (body : Bytes)
  /-- COLLECT_TURN (R488): The origin receives COLLECT_TURN and starts the west pass or ends collection. -/
  | collectTurn (east : Bool) (h : SpHdr) (id : Nat)
  /-- COLLECTION_TIMEOUT (R488): Collection reaches 20 frames and ends. -/
  | collectionTimeout
  /-- SWEEP_RESULT_FINAL (R489): At the beat 0 after collection ends, per-position states are fixed and the RESULT is released next. -/
  | sweepResultFinal
  /-- RNG_HEALTH_FAIL (R502): A generator health test fails, Flint issues no random value, and FLINT_RNG_FAULT is raised. -/
  | rngHealthFail
  /-- RNG_RESUME (R502): After 1,024 passing health tests, Flint reseeds and resumes. -/
  | rngResume
  /-- RNG_RESEED (R502): At least once per 100 frames the generator is reseeded. -/
  | rngReseed
  /-- SLOT_INTEGRITY_CHECK (R509): The periodic tag check of every loaded slot marks failing slots BAD. -/
  | slotIntegrityCheck (v n : Nat) (ok : Bool)
  /-- FLINT_HALT (R495): Flint halts on a root ECC error, a boot ROM digest mismatch, a self-test failure or a generator failure at start. -/
  | flintHalt (cause : Nat)
  /-- KEY_MIGRATION_COMPLETE (R518): Every registry entry is re-wrapped under m_k′, KEY_MIGRATION CODE 1 is raised, and the set is ready. -/
  | keyMigrationComplete
  /-- FUSE_ADVANCE (R517): After 24 h without revert, or at ADVANCE_NOW, a fuse bank is advanced fuse by fuse. -/
  | fuseAdvance (bank : Nat) (bad : List Nat)
  /-- GEODE_FW_CHECK (R517): A change of GEO_FW is checked against the manifest and bank 3, or bank 3 advances after 24 h. -/
  | geodeFwCheck
  /-- FLINT_MEASURE (R496): Flint measures the image set and derives the alias key at start or on a change of image. -/
  | flintMeasure
  /-- START_STEP_TIMEOUT (R532): A start step exceeds its bound, and its blocks are left out of service. -/
  | startStepTimeout (step : Nat) (blk : Nat)
  /-- FRAME_SERVICE_ENTRY (R533): At the first frame boundary meeting R533, FSVC is set and frame service begins. -/
  | frameServiceEntry
  /-- BANK_WATCHDOG (R524): A bank shows no frame progress for 10 frames, is reset, and rejoins or stays out after three resets. -/
  | bankWatchdog (b : Bool) (rejoin : Bool)
  /-- WATCHDOG_RESET (R535): Both banks are reset by watchdog, a failed start is counted, and the previous set is chosen after three. -/
  | watchdogReset (start : StartIn)
  /-- BANK_B_READY (R541): Bank B is ready on the new main image, and handover follows at the next tick. -/
  | bankBReady
  /-- MAIN_HANDOVER (R541): At a tick bank B takes over commit and interpretation, and bank A restarts on the new image. -/
  | mainHandover
  /-- BANK_A_JOIN (R541): Bank A joins on the new image and capacity returns to two banks. -/
  | bankAJoin
  /-- MAIN_UPDATE_TIMEOUT (R542): Bank B is not ready, or bank A does not join, within 3,000 frames, so the update is abandoned or ends on one bank. -/
  | mainUpdateTimeout (replayFail : Bool)
  /-- GRAIN_STRATUM_SWAP (R543): At its frame's tick a stratum swaps its grains to the new microcode bank, or swaps back on failure. -/
  | grainStratumSwap (ok : Bool)
  /-- AIR_IMAGE_TAKEOVER (R544): The new air image takes over at a frame tick within 50 µs. -/
  | airImageTakeover
  /-- AIR_IMAGE_HANDBACK (R544): A new air image handles no reception for 100 frames and hands back to the old one. -/
  | airImageHandback
  /-- FLINT_IMAGE_TAKEOVER (R545): The new Flint image takes over at beat 2 within 20 µs, or hands back on self-test failure. -/
  | flintImageTakeover (ok : Bool)
  /-- JOURNAL_COMMIT (R547): A configuration journal commit record is written to both flash devices and completes. -/
  | journalCommit (complete : Bool)
  /-- FLASH_DEVICE_FAIL (R547): A flash device fails a read or write, is taken out of use, and FLASH_DEGRADED is raised. -/
  | flashDeviceFail (dev : Nat)
  /-- THERMAL_STEP (R559): On the T_f of beat 64, the next throttle step engages or the highest releases at beat 0. -/
  | thermalStep (die : List Int) (last : List Int)
  /-- THERMAL_WARNING (R561): T_f reaches 110 °C or an HBM sensor 95 °C, and THERMAL_WARNING is raised. -/
  | thermalWarning (hbm : Bool) (sensor : Nat) (t : Int)
  /-- HBM_HOT (R561): An HBM sensor reaches 85 °C or falls below 80 °C, and refresh doubles or returns to normal. -/
  | hbmHot (stack : Nat) (t : Int)
  /-- IDLE_PORT_PROBE (R560): Once per 100 frames an idled port powers its receiver for 50 ms and powers up if it detects a signal. -/
  | idlePortProbe (port : Nat) (signal : Bool)
  /-- THERMAL_SHUTDOWN (R562): A sensor stays at its shutdown limit for 8 samples, and the module sends farewells and removes its rails. -/
  | thermalShutdown (sensor : Nat) (temps : List Int)
  /-- THERMAL_TRIP (R563): A 125 °C comparator trips, and both domains lose their rails within 10 µs. -/
  | thermalTrip (sensor : Nat) (t : Int)
  /-- THERMAL_RESTART (R564): The base sensor reads at most 70 °C for 6,000 frames, and the power controller restarts the module. -/
  | thermalRestart (start : StartIn)
  /-- HBM_ECC_ERROR (R568): An HBM read meets an ECC error that is corrected or refused, and HBM_ECC is raised. -/
  | hbmEccError (addr : Nat) (correctable : Bool)
  /-- AIR_PORT_TX_EN_WRITE (R474): A write of 1 to AIR_PORT_CFG.TX_EN re-enables the port's transmitter as PORT_CFG would. -/
  | airPortTxEnWrite (port v : Nat)
  /-- ANNOUNCE_RECEIPT_TIMEOUT (R91): A PTP port's announceReceiptTimeout expires, so the port leaves SLAVE and PTP may count as lost. -/
  | announceReceiptTimeout (port : Nat)
  /-- UPLINK_LINK (R89): An uplink gains or loses PCS link; on link-up the lane deskew is measured and FEC is applied, and QRY_UPL_STAT.LINK follows. -/
  | uplinkLink (u : Nat) (up : Bool)
  /-- OPTICAL_SIGN_ON (R372): An IEC 62056-21 sign-on request at 300 baud on OX1 is answered with the identification message and a switch to the HDLC baud rate. -/
  | opticalSignOn
  /-- MSL_RESERVED_TYPE (R197): An MSL message of a reserved type arrives at a grain and is discarded and counted in GRN_DROP.TYPE. -/
  | mslReservedType (port type : Nat)
  /-- SPINE_FRAME_DISCARDED (R475): A non-spine, non-PTP frame, a reserved spine type, or a TTL-0 message not addressed to the module arrives and is discarded and counted in SPN_DROP. -/
  | spineFrameDiscarded (why : SpDrop)
  /-- SPINE_LINK_REKEY (R476): A spine link counter reaches 2^62, or 2^64 − 1, and the link association is renewed, with the old keys erased after 8 frames. -/
  | spineLinkRekey (east : Bool)
  /-- RING_CENSUS_TIMEOUT (R479): A ring census pass gets no further token progress for 1 frame and ends as if at a last module. -/
  | ringCensusTimeout (reach : List (Nat × Nat))
deriving DecidableEq, Repr

end Sys2Proof
end

