-- ==== Sys2Proof/Decode.lean ====
section
/-!
DEFINITION. Decode.lean: the opcode table gives no row bits of its own, so no word spells a command.
-/
namespace Sys2Proof

/-- The command a word of `nbits` bits spells by the table: none, because every row of spec/opcode_table.json has an empty list of fields
(log 5). -/
def decodeTableWord (_nbits _w : Nat) : Option Instr := none

end Sys2Proof
end

