-- ==== Sys2Proof/Config.lean ====
section
/-!
DEFINITION. Config.lean: the values the spec leaves open. Each constant has no body, so nothing can evaluate it.
-/
namespace Sys2Proof.Config

/-- A fresh free value: applied to the counter of State that every use of it advances (log 3). -/
opaque freeNat : Nat → Nat

/-- One attribute of the profile table of the main image (R227): name number, register address, count, access (0 RO, 1 RW, 2 WO), MODULE_HELD. -/
structure ProfAttr where
  /-- name number, from 0x0100 -/
  name : Nat
  /-- register byte address -/
  addr : Nat
  /-- registers -/
  count : Nat
  /-- 0 RO, 1 RW, 2 WO -/
  access : Nat
  /-- MODULE_HELD -/
  held : Bool
deriving DecidableEq, Repr

/-- The profile table of the main image, by basic profile number (R227); none: not in the table (log 8). -/
opaque profileTable : Nat → Option (List ProfAttr)

/-- Whether the profile table marks a basic profile as a lighting class (R253, log 8). -/
opaque lightingClass : Nat → Bool

/-- Whether a basic profile has a tenant port (R428, log 8). -/
opaque tenantPort : Nat → Bool

/-- The number of the basic endpoint profile, which every slot of a pole node with unapproved firmware counts as (R192, log 8). -/
opaque basicProfile : Nat

/-- Altitude of the sun's centre in 10^-6 degree, refraction taken into account, at a latitude and longitude in 10^-6 degree and a UTC second since
1970-01-01 (R273, log 14). -/
opaque sunAltitude : Int → Int → Nat → Int

/-- The error in s of the module's computation of a solar event: latitude, longitude, local date in days since 1970-01-01, and 1 sunrise, 2 sunset,
3 civil dawn, 4 civil dusk (R273, log 14). -/
opaque solarError : Int → Int → Nat → Nat → Int

/-- EUI-64 of the Geode, as in its certificate (R367, log 17). -/
opaque geodeSerial : Nat

/-- The Geode's certificate and logical device name, by object: 0 name, 1 certificate (R368, R375, log 17). -/
opaque geodeText : Nat → List (BitVec 8)

/-- ECDSA P-256 signature r and s, as numbers below 2^256, of the 3,776 bytes of a reading under the Geode's key (R368, log 17). -/
opaque geodeSign : List (BitVec 8) → Nat × Nat

/-- The frequency in mHz at which corrections act while the measured frequency of a phase is invalid (R335, R341, R343, log 22). -/
opaque invalidFreq : Nat

/-- The fractional-delay filter (R341): a time in ps, below one sample period, after the first of the samples up to there, the latest first, and the
samples that follow them; the value at that time (log 22). -/
opaque fracDelay : Nat → List Int → List Int → Int

/-- The MAC address of a port, below 2^48, by port code (R193, log 85). -/
opaque portMac : Nat → Nat

/-- The P-256 public key of an ephemeral private key: x and y, below 2^256 (R209, log 85). -/
opaque p256Pub : Nat → Nat × Nat

/-- The ECDH secret of an ephemeral private key and a public key, below 2^256 (R209, log 85). -/
opaque ecdh : Nat → List (BitVec 8) → Nat

/-- HKDF-SHA-384 to 256 bits: key material, salt, info (R209, R210, log 85). -/
opaque hkdf : List (BitVec 8) → List (BitVec 8) → List (BitVec 8) → Nat

/-- AES-256-GCM: key, nonce, additional data, plaintext; ciphertext and tag as a number (R196, log 85). -/
opaque aesGcm : List (BitVec 8) → List (BitVec 8) → List (BitVec 8) → List (BitVec 8) → Nat

/-- The minor version of the module's spine messages, below 16 (R475, log 87). -/
opaque spineMinor : Nat

/-- The IPv6 packet that carries a record of an association: key of the association, records sent before it, and the packet inside (R482, log 87). -/
opaque ipPacket : Nat → Nat → List (BitVec 8) → List (BitVec 8)

/-- The reference, below 2^64, to the wrapped keys of an air index (R459, log 87). -/
opaque keyRef : Nat → Nat

/-- AES-CCM: key, nonce, additional data, plaintext, bytes of the MIC; ciphertext and MIC as a number (R457, log 87). -/
opaque aesCcm : List (BitVec 8) → List (BitVec 8) → List (BitVec 8) → List (BitVec 8) → Nat → Nat

/-- The first 16 bytes of HKDF-SHA-256 over a key, a salt and an EUI-64, as a number (R462, log 87). -/
opaque hkdf256 : List (BitVec 8) → Nat → Nat → Nat

/-- ECDSA P-384 signature r and s under the device identity key (R209, log 85). -/
opaque deviceSign : List (BitVec 8) → Nat × Nat

/-- Bytes on the wire of a handshake message, by whom it names and its arguments (R415, log 61). -/
opaque flightLen : Nat → List Nat → Nat

/-- SHA-384 of a byte string, as a number below 2^384 (R496, R498, log 30). -/
opaque sha384 : List (BitVec 8) → Nat

/-- AES-256-KWP of a header and a key under the KEK of a measurement m_k, as a number (R497, R504): the digests that m_k covers, the vCtl, its
incarnation count, and the plain bytes (log 30). -/
opaque kwp : List (List (BitVec 8)) → Nat → Nat → List (BitVec 8) → Nat

/-- The load IV of a key and a load salt, as a number below 2^64 (R513, log 30). -/
opaque loadIv : List (BitVec 8) → List (BitVec 8) → Nat

/-- AES-256-GCM under the load subkey of a key and a salt: nonce, additional data, plaintext; ciphertext and tag as a number (R513, log 30). -/
opaque gcmSeal : List (BitVec 8) → List (BitVec 8) → List (BitVec 8) → List (BitVec 8) → List (BitVec 8) → Nat

/-- The opening: key, salt, nonce, additional data, ciphertext and tag; the plaintext as a number, none where the tag fails (R513, log 30). -/
opaque gcmOpen : List (BitVec 8) → List (BitVec 8) → List (BitVec 8) → List (BitVec 8) → List (BitVec 8) → Option Nat

/-- HMAC-SHA-384 of a key and a message, as a number (R512, log 30). -/
opaque hmac384 : List (BitVec 8) → List (BitVec 8) → Nat

/-- ECDSA signature r and s of a digest under a slot key: algorithm 3 P-256 or 4 P-384 (R512, log 30). -/
opaque ecdsaSign : Nat → List (BitVec 8) → List (BitVec 8) → Nat × Nat

/-- The public key of a slot key: algorithm 3 or 4; x and y (R512, log 30). -/
opaque ecdsaPub : Nat → List (BitVec 8) → Nat × Nat

/-- Measurement m_k, or m_a, of the digests it covers, as a number below 2^384 (R496, log 30). -/
opaque measure : List (List (BitVec 8)) → Nat

/-- The subject public key of a DER certificate is the virtual identity key of a vCtl and an incarnation count (R497, R499, log 31). -/
opaque certMatches : List (BitVec 8) → Nat → Nat → Bool

/-- The module's EUI-64, given at manufacture (R498, log 32). -/
opaque moduleEui : Nat

/-- An ECDSA P-384 signature verifies: the public key (empty: the Turquendi image key, R528), the signed bytes, the signature (log 34). -/
opaque verify : List (BitVec 8) → List (BitVec 8) → List (BitVec 8) → Bool

/-- The self-signed certificate, in DER, of the virtual identity of a vCtl number and an incarnation count (R497, R498, log 36). -/
opaque selfCert : Nat → Nat → List (BitVec 8)

/-- The module's certificates in DER: 0 device CA, 1 device identity, 2 alias, with the digests that m_a covers (R498, R500, log 36). -/
opaque moduleCert : Nat → List (List (BitVec 8)) → List (BitVec 8)

/-- ECDSA P-384 signature r and s under the alias key of the digests that m_a covers (R497, R500, log 36). -/
opaque aliasSign : List (List (BitVec 8)) → List (BitVec 8) → Nat × Nat

end Sys2Proof.Config
end

