-- ==== Sys2Proof/Machine/StBase.lean ====
section
/-!
DEFINITION. Machine/StBase.lean: sparse tables, reply entries, event records, and what the block sends to the outside.
-/
namespace Sys2Proof.Machine

/-- A sparse table: key and value pairs, keys strictly rising. -/
abbrev Tbl (α : Type) := List (Nat × α)

/-- A TLV the module sends: identity and value (the module never sets must-understand, R139). -/
abbrev OTlv := Nat × Bytes

/-- A reply entry (R143). -/
structure Reply where
  /-- OPCODE -/
  op : Nat
  /-- CMDID -/
  cmdid : Nat
  /-- STATUS (R155) -/
  status : Nat
  /-- RFLAGS (R144) -/
  flags : Nat := 0
  /-- the TLVs of the entry -/
  tlvs : List OTlv := []
deriving DecidableEq, Repr

/-- An event record (R147). -/
structure EvRec where
  /-- CODE -/
  code : Nat
  /-- ESEQ -/
  eseq : Nat
  /-- FRAME: the frame in which it was raised -/
  frame : Nat
  /-- the TLVs of the record -/
  tlvs : List OTlv
deriving DecidableEq, Repr

/-- The messages the block sends besides replies and events: on pins, strings, the narrow path, the spine and the air, and as
DTLS handshake records. The arguments of each stand in its docstring. -/
inductive Msg where
  /-- HelloRetryRequest with cookie (R134); dst: the vCtl named or 0xFFFF -/
  | dtlsHelloRetry
  /-- a frame of the module's own TC5 leaves an uplink (R415); dst: the port; args: the vCtl, its tag in ps; data: the packet it carries -/
  | ctlTx
  /-- an alert that refuses a ClientHello (R130); args: its code -/
  | dtlsAlert
  /-- the server flight (R132); dst: the vCtl of the certificate, args: incarnation count, 1 when it is the self-signed certificate, cipher suite, group;
  data: the module's connection identifier -/
  | dtlsServerFlight
  /-- the acknowledgement of the client's Finished (R132) -/
  | dtlsFinishedAck
  /-- the bad_certificate alert (R131) -/
  | dtlsBadCertificate
  /-- the close_notify alert; dst: the association's code -/
  | dtlsCloseNotify
  /-- KeyUpdate (R134, R514); dst: the association's code -/
  | dtlsKeyUpdate
  /-- a handshake flight sent again (R132) -/
  | dtlsRetransmit
  /-- the driven GPIO contacts (R48, R79); args: direction bits, driven levels -/
  | pinGpio
  /-- STAT1:STAT0 (R51); args: the value -/
  | pinStat
  /-- a Power Delivery request on UX1 (R550); args: mV, mA -/
  | ux1Request
  /-- UX1 sources 5 V at 1.5 A (R62); args: 1 on, 0 off -/
  | ux1Source
  /-- source capabilities on UX1: voltage in mV and current in mA of the one fixed supply, with the dual-role power, dual-role data and unconstrained
  power bits (R550) -/
  | ux1Caps
  /-- Rp as source, in mA: 1500 is SinkTxNG, 3000 SinkTxOk (R552) -/
  | ux1Rp
  /-- a swap is accepted (R551); args: 0 PR_Swap, 1 DR_Swap -/
  | ux1Accept
  /-- a swap is rejected (R551) -/
  | ux1Reject
  /-- a DR_Swap is answered Wait (R551) -/
  | ux1Wait
  /-- the module initiates a swap (R551); args: 0 PR_Swap, 1 DR_Swap -/
  | ux1Swap
  /-- the module, as sink, abandons its request and retries after a random delay (R552); args: microseconds -/
  | ux1Retry
  /-- Hard Reset (R553) -/
  | ux1HardReset
  /-- the beat edge to the Geode (R87); args: beat -/
  | beatEdge
  /-- a timer channel's trigger to an internal destination (R104, R106); dst: DEST, args: channel -/
  | trigger
  /-- PPS_OUT (R98, R104); args: level, LDS_NS value of the edge as advanced for the cable (R99) -/
  | ppsOut
  /-- FSYNC_OUT (R98, R104); args: level, LDS_NS value of the edge as advanced for the cable (R99) -/
  | fsyncOut
  /-- a sentence on TOD_TX (R98) -/
  | todTx
  /-- a PTP message of the instance (R91); dst: port code, args: messageType, sequenceId, domain; then for a Sync 0 and its time in ns, or 1 and 0 for
  two-step; for a Follow_Up and a Delay_Resp the time, for a Delay_Resp, a Pdelay_Resp and its follow-up the requester first; for an Announce the
  grandmaster's priority1, clockClass, accuracy, variance, priority2, identity, stepsRemoved, and TAI minus UTC -/
  | ptpTx
  /-- REF10_OUT is driven or not (R99, R108); args: 1 or 0 -/
  | ref10Out
  /-- ENUMERATE (R201); dst: port, args: HOP, census number; data of this and every message below to a pole node: the Ethernet frame (R193) -/
  | mslEnumerate
  /-- PAIR_INIT (R209); dst: handle of slot 0, args: port, hop -/
  | mslPairInit
  /-- PAIR_DONE (R209); dst: handle of slot 0, args: port, hop -/
  | mslPairDone
  /-- ASSOC_INIT (R210); dst: handle of slot 0, args: port, hop, AID, CTR, return AID, major, capabilities, position -/
  | mslAssocInit
  /-- ASSOC_CLOSE (R197, R212); dst: handle of slot 0 -/
  | mslAssocClose
  /-- GROUP_KEY (R214); dst: handle of slot 0, args: port, hop, AID, CTR, epoch, group AID -/
  | mslGroupKey
  /-- FRAME (R218); dst: handle of slot 0, args: port, hop, AID, CTR, activation frame, FULL, then slot and code of each entry -/
  | mslFrame
  /-- URGENT (R219); dst: handle of slot 0, args: port, hop, AID, CTR, activation frame, activation beat, then slot and code of each entry -/
  | mslUrgent
  /-- TIME_SYNC to every pole node of a port (R221); dst: port, args: HOP 0xFF, group AID, counter, epoch, seconds, nanoseconds, frame; the trailer follows the message -/
  | mslTimeSync
  /-- DELAY_RESP (R221); dst: handle of slot 0, args: port, hop, AID, CTR, seconds and nanoseconds of the request's ingress; the request's trailer
  follows the message -/
  | mslDelayResp
  /-- CREDIT_QUERY (R217); dst: handle of slot 0, args: port, hop, AID, CTR, class -/
  | mslCreditQuery
  /-- a bridge request (R231, R232); dst: handle of slot 0, args: port, hop, AID, CTR, MTYPE, slot, tag, REG, COUNT -/
  | mslBridge
  /-- a message to the Geode on the narrow path (R363); dst: type 1 TIME, 2 SNAPSHOT, 3 INRUSH, 4 READ_REQ; data: its content -/
  | narrow
  /-- the identification message on OX1 (R372); args: baud rate identifier -/
  | ox1Ident
  /-- a response on OX1 (R372, R375); dst: client SAP, args: result (0 success, 1 read-write-denied, 2 object-unavailable, 3 refused); data: the value -/
  | ox1Reply
  /-- a tenant frame leaves a port (R413, R423, R424); dst: port code, args: 1 + S-VID or 0, VLAN ID, priority code point, destination, source, bytes; data: the correctionField of a PTP frame in tenths of a ns -/
  | ethTx
  /-- the module programs a slot's VLAN table (R424); dst: handle, args: S-VID or 0 and VLAN ID of each pair -/
  | vlanTable
  /-- a frame of the air unit (R449, R451, R452, R454, R462, R465); dst: port, args: channel, its centre in kHz, conducted power in dBm plus 128; data: the PSDU -/
  | airTx
  /-- a spine message (R475 to R477); dst: port code, args: STYPE, TTL, DEST (0x8000 for ALL), SRC, URGENT, LAID, CTR, then the fields of the body; data: the Ethernet frame -/
  | spine
  /-- a relayed packet leaves the entry module (R482); dst: port code, 0xFFFF the service link; data: the packet -/
  | ipTx
deriving DecidableEq, Repr

/-- What the block sends in one step. -/
inductive Out where
  /-- one part of a reply or an event packet, as one record of an association (R129, R135, R143, R147) -/
  | packet (key : AssocKey) (bytes : Bytes)
  /-- any other message: its kind, whom it goes to (a port, a pole node's handle, a vCtl), its arguments, its bytes -/
  | msg (kind : Msg) (dst : Nat) (args : List Nat) (data : Bytes)
deriving DecidableEq, Repr

end Sys2Proof.Machine
end

