-- ==== Sys2Proof/Machine/StAir.lean ====
section
/-!
DEFINITION. Machine/StAir.lean: air endpoints, transmit queues, acknowledgement windows and the dwell record (R445 to R474).
-/
namespace Sys2Proof.Machine

/-- An enrolled air endpoint with its directory entry (R459, R461). -/
structure AirEp where
  /-- it is a lighting channel, AIR_MODE bit 1 (R253, R472) -/
  lighting : Bool
  /-- EUI-64; 0 for a Vemer node -/
  eui : Nat := 0
  /-- device key; empty for a Vemer node -/
  devKey : Bytes := []
  /-- AIR_MODE -/
  mode : Nat := 0
  /-- listen channel -/
  listen : Nat := 0
  /-- TTL_max -/
  ttlMax : Nat := 3
  /-- fallback time in minutes -/
  fallback : Nat := 15
  /-- the vCtl that enrolled it -/
  owner : Nat := 0
  /-- a Vemer node (R471) -/
  vemer : Bool := false
  /-- JOINED -/
  joined : Bool := false
  /-- session key: of the latest join, or of AIR_VEMER_STATE (R462, R471) -/
  session : Bytes := []
  /-- last accepted join counter -/
  joinCtr : Nat := 0
  /-- highest accepted uplink FCNT -/
  upHi : Nat := 0
  /-- window: bit i for FCNT upHi - 1 - i -/
  window : Nat := 0
  /-- last downlink FCNT used -/
  down : Nat := 0
  /-- learned hop count h -/
  hops : Nat := 0
  /-- the uplink by whose copies h is learned, and their largest TTL -/
  upTtl : Nat × Nat := (0, 0)
  /-- best port -/
  bestPort : Option Nat := none
  /-- best RSSI in dBm -/
  bestRssi : Int := 0
  /-- frame of the last authenticated uplink; at enrolment or join, that frame -/
  lastUp : Nat := 0
  /-- code last sent in a LIGHT payload -/
  lastCode : Nat := 0
  /-- frame of the last LIGHT frame sent, or of the join -/
  lastLight : Nat := 0
  /-- AIR_JOINED has been raised once -/
  everJoined : Bool := false
  /-- no uplink has been authenticated under the present key -/
  fresh : Bool := false
  /-- AIR_SILENT has been raised since the last uplink -/
  silent : Bool := false
  /-- AIR_REJOIN_DUE raised for the uplink counter of this session -/
  upDue : Bool := false
  /-- AIR_REJOIN_DUE raised for the downlink counter of this session -/
  downDue : Bool := false
deriving DecidableEq, Repr

/-- What a queued air frame carries. -/
inductive AirKind where
  /-- LIGHT: code, and activation in µs of network time, 0 for an urgent one (R467) -/
  | light (code act : Nat)
  /-- REJOIN -/
  | rejoin
  /-- MESSAGE -/
  | message (data : Bytes)
  /-- REG_READ: address, count -/
  | regRead (addr count : Nat)
  /-- REG_WRITE: address, count, registers -/
  | regWrite (addr count : Nat) (data : Bytes)
  /-- a raw frame: port or 0xFF, channel, PSDU without FCS (R469) -/
  | raw (port ch : Nat) (psdu : Bytes)
deriving DecidableEq, Repr

/-- Phase of a queued frame (R465, R466). -/
inductive AirPhase where
  /-- in its queue -/
  | waiting
  /-- on the air -/
  | sending
  /-- sent with h = 0 and not acknowledged -/
  | unacked
  /-- sent or acknowledged, waiting for REG_RESP -/
  | resp
deriving DecidableEq, Repr

/-- A queued frame (R465). -/
structure AirTx where
  /-- its number -/
  id : Nat
  /-- item of R465: 2 urgent, 3 REJOIN, 4 LIGHT, 5 a vCtl's own -/
  item : Nat
  /-- air handle, none for a raw frame -/
  handle : Option Nat
  /-- the vCtl whose dwell share it uses; none: the module -/
  payer : Option Nat
  /-- content -/
  kind : AirKind
  /-- frame in which it was queued -/
  since : Nat
  /-- command: series, SEQ, CMDID -/
  cmd : Option (Nat × Nat × Nat) := none
  /-- hold time in frames (R466) -/
  hold : Nat := 360000
  /-- retransmissions left -/
  retries : Nat := 0
  /-- phase -/
  phase : AirPhase := .waiting
  /-- MSGIDs it has been sent under -/
  msgids : List Nat := []
  /-- end in µs and channel of the uplink that opened the window of a WINDOW endpoint (R464) -/
  rel : Option (Nat × Nat) := none
  /-- frame of its last transmission -/
  lastTx : Nat := 0
deriving DecidableEq, Repr

/-- A transmission: its payer (4,096 the module), channel, port, start and end in µs, whether an acknowledgement, and the queued frame. -/
structure AirOn where
  /-- payer -/
  payer : Nat
  /-- channel -/
  ch : Nat
  /-- port -/
  port : Nat
  /-- start -/
  start : Nat
  /-- end -/
  stop : Nat
  /-- acknowledgement -/
  ack : Bool
  /-- queued frame -/
  qid : Option Nat
  /-- TX_END has come -/
  ended : Bool := false
deriving DecidableEq, Repr

/-- An allocated acknowledgement window (R454). -/
structure AckWin where
  /-- port -/
  port : Nat
  /-- channel -/
  ch : Nat
  /-- start in µs -/
  start : Nat
  /-- ORIGIN echoed -/
  origin : Nat
  /-- MSGID echoed -/
  msgid : Nat
deriving DecidableEq, Repr

/-- A JOIN_ACCEPT that is due (R462). -/
structure JoinAcc where
  /-- air index -/
  n : Nat
  /-- channel of the JOIN_REQ -/
  ch : Nat
  /-- its end in µs -/
  endT : Nat
  /-- MSGID echoed -/
  msgid : Nat
  /-- FCNT echoed -/
  fcnt : Nat
  /-- the join's salt -/
  salt : Nat
deriving DecidableEq, Repr

/-- PORT_CFG of an antenna port: gain in 0.1 dBi, cap in dBm (R449, R472). -/
structure AirPort where
  /-- TX_EN -/
  en : Bool := false
  /-- gain -/
  gain : Int := 0
  /-- cap -/
  cap : Int := 27
  /-- disabled under R66 -/
  fault : Bool := false
  /-- VSWR of the last transmission × 10 -/
  vswr : Nat := 0
  /-- frames received with a valid FCS, modulo 2^16 -/
  rx : Nat := 0
  /-- frames lost while blocked, saturating -/
  blocked : Nat := 0
  /-- frames lost while the port transmitted, saturating -/
  muted : Nat := 0
deriving DecidableEq, Repr

/-- Vemer mode (R471). -/
structure VemerCfg where
  /-- port -/
  port : Nat
  /-- offset -/
  offset : Nat
  /-- sequence of 16 channels -/
  chans : List Nat
deriving DecidableEq, Repr

/-- The air unit. -/
structure Air where
  /-- enrolled endpoints by air index, each with its directory entry (R459, R461); width: 262,144 entries; reset: empty (log 4) -/
  eps : Tbl AirEp := []
  /-- freed indexes and the frame from which each may be given again (R461); width: table; reset: empty (log 4) -/
  freed : Tbl Nat := []
  /-- region (R447, R474); width: 2 bits; reset: 0, NONE -/
  region : Nat := 0
  /-- US window W (R447, R474); width: 7 bits; reset: 0 -/
  usWin : Nat := 0
  /-- the four antenna ports (R472, R474); width: record; reset: TX_EN, FAULT, VSWR and the counts 0; gain 0 and cap 27 dBm, DESIGN CHOICE (log 4) -/
  ports : Tbl AirPort := []
  /-- Vemer mode (R471, R474); width: record; reset: off -/
  vemer : Option VemerCfg := none
  /-- Vemer frames received, modulo 2^16 (R474); width: 16 bits; reset: 0 -/
  vemerRx : Nat := 0
  /-- queued frames, in the order of R465; width: table; reset: empty (log 4) -/
  q : List AirTx := []
  /-- next number of a queued frame; width: model's own counter; reset: DESIGN CHOICE 0 (log 4) -/
  nextId : Nat := 0
  /-- next MSGID to try (R456); width: 16 bits; reset: DESIGN CHOICE 0 (log 29) -/
  nextMsg : Nat := 0
  /-- frame of the latest use of each MSGID (R456); width: 65,536 entries; reset: empty (log 4) -/
  msgUse : Tbl Nat := []
  /-- transmissions of the last hour, present ones included (R450, R468); width: table; reset: empty (log 4) -/
  onAir : List AirOn := []
  /-- allocated acknowledgement windows (R454); width: table; reset: empty (log 4) -/
  acks : List AckWin := []
  /-- JOIN_ACCEPTs that are due (R462); width: table; reset: empty (log 4) -/
  joins : List JoinAcc := []
  /-- captures by vCtl: CAPTURE_FILTER (R470); width: table; reset: empty (log 4) -/
  capture : Tbl Nat := []
  /-- frame of the latest AIR_DWELL_WAIT of each vCtl (R468); width: 64 bits each; reset: empty (log 4) -/
  dwellEv : Tbl Nat := []
  /-- acknowledgements sent, modulo 2^16 (R474); width: 16 bits; reset: 0 -/
  ackSent : Nat := 0
  /-- frame of the latest reception handled (R544); width: 64 bits; reset: none (log 4) -/
  rxFrame : Option Nat := none
  /-- AIR_DW_SEL.CHANNEL (R474); width: 6 bits; reset: 0 -/
  dwSel : Nat := 0
deriving DecidableEq, Repr

end Sys2Proof.Machine
end

