-- ==== Sys2Proof/Machine/Float64.lean ====
section
/-!
DEFINITION. Machine/Float64.lean: IEEE 754 double precision, round to nearest even, over finite values, infinities and NaN (R399). The sign of
zero is not kept: no operation of R399 makes it visible.
-/
namespace Sys2Proof.Machine

/-- A double: m × 2^e with |m| below 2^53, an infinity, or NaN. -/
inductive F64 where
  /-- m × 2^e -/
  | fin (m e : Int)
  /-- infinity; true: negative -/
  | inf (neg : Bool)
  /-- not a number -/
  | nan
deriving DecidableEq, Repr

/-- Zero. -/
def F64.zero : F64 := .fin 0 0

/-- Round m × 2^e, with more below when `sticky`, to 53 bits, to nearest even; subnormals end at 2^-1074. -/
def F64.round (neg : Bool) (m : Nat) (e : Int) (sticky : Bool := false) : F64 :=
  if m = 0 then .zero
  else
    let len : Int := (Nat.log2 m : Int) + 1
    let t : Int := max (e + len - 53) (-1074)
    let (q, t) : Nat × Int :=
      if t ≤ e then (m * 2 ^ (e - t).toNat, t)
      else
        let k := (t - e).toNat
        let q := m / 2 ^ k
        let r := m % 2 ^ k
        let half := 2 ^ (k - 1)
        (if r > half || (r == half && (sticky || q % 2 == 1)) then q + 1 else q, t)
    let (q, t) := if q = 2 ^ 53 then (2 ^ 52, t + 1) else (q, t)
    if q = 0 then .zero
    else if t > 971 then .inf neg
    else .fin (if neg then -(q : Int) else q) t

/-- A double of an integer. -/
def F64.ofInt (i : Int) : F64 := .round (decide (i < 0)) i.natAbs 0

/-- Quotient of two integers, the divisor positive. -/
def F64.ofRat (a : Int) (b : Nat) : F64 :=
  let k := 120 + Nat.log2 b
  let n := a.natAbs * 2 ^ k
  .round (decide (a < 0)) (n / b) (-(k : Int)) (n % b != 0)

/-- Negation. -/
def F64.neg : F64 → F64
  | .fin m e => .fin (-m) e
  | .inf s => .inf (!s)
  | .nan => .nan

/-- Sum. -/
def F64.add : F64 → F64 → F64
  | .fin a e, .fin b f =>
    let t := min e f
    let m := a * 2 ^ (e - t).toNat + b * 2 ^ (f - t).toNat
    .round (decide (m < 0)) m.natAbs t
  | .inf s, .fin _ _ => .inf s
  | .fin _ _, .inf s => .inf s
  | .inf s, .inf t => if s = t then .inf s else .nan
  | _, _ => .nan

/-- Difference. -/
def F64.sub (x y : F64) : F64 := x.add y.neg

/-- Product. -/
def F64.mul : F64 → F64 → F64
  | .fin a e, .fin b f => .round (decide (a * b < 0)) (a * b).natAbs (e + f)
  | .inf s, .fin b _ => if b = 0 then .nan else .inf (s != decide (b < 0))
  | .fin a _, .inf s => if a = 0 then .nan else .inf (s != decide (a < 0))
  | .inf s, .inf t => .inf (s != t)
  | _, _ => .nan

/-- Quotient. -/
def F64.div : F64 → F64 → F64
  | .fin a e, .fin b f =>
    if b = 0 then (if a = 0 then .nan else .inf (decide (a < 0)))
    else
      let k := 120 + Nat.log2 b.natAbs
      let n := a.natAbs * 2 ^ k
      .round (decide (a < 0) != decide (b < 0)) (n / b.natAbs) (e - f - (k : Int)) (n % b.natAbs != 0)
  | .fin _ _, .inf _ => .zero
  | .inf s, .fin b _ => .inf (s != decide (b < 0))
  | _, _ => .nan

/-- Strictly less; false where one is NaN. -/
def F64.lt : F64 → F64 → Bool
  | .fin a e, .fin b f => let t := min e f; decide (a * 2 ^ (e - t).toNat < b * 2 ^ (f - t).toNat)
  | .inf s, .fin _ _ => s
  | .fin _ _, .inf s => !s
  | .inf s, .inf t => s && !t
  | _, _ => false

/-- Clamp to a range. -/
def F64.clamp (lo hi x : F64) : F64 := if x.lt lo then lo else if hi.lt x then hi else x

/-- The nearest whole number of a value that is not negative, halves up; 0 for NaN and below zero, `cap` for what exceeds it. -/
def F64.toNat (cap : Nat) : F64 → Nat
  | .fin m e => if m < 0 then 0 else
    let v := if e ≥ 0 then m.toNat * 2 ^ e.toNat else (m.toNat * 2 + 2 ^ (-e).toNat) / (2 * 2 ^ (-e).toNat)
    min v cap
  | .inf s => if s then 0 else cap
  | .nan => 0

/-- Sum of a list, from the left. -/
def F64.sum (l : List F64) : F64 := l.foldl F64.add .zero

/-- Scalar product, from the left. -/
def F64.dot (a b : List F64) : F64 := F64.sum (List.zipWith F64.mul a b)

end Sys2Proof.Machine
end

