-- ==== Sys2Proof/Machine/StAttrib.lean ====
section
/-!
DEFINITION. Machine/StAttrib.lean: attribution: ledgers, periods, power models and probe dither (R388 to R408).
-/
namespace Sys2Proof.Machine

/-- What an endpoint has booked on a circuit in a period (R389, R390). -/
structure Book where
  /-- booked units of 10 µJ -/
  units : Nat := 0
  /-- frames booked -/
  frames : Nat := 0
  /-- unknown frames -/
  unknown : Nat := 0
deriving DecidableEq, Repr

/-- A circuit's ledger (R393). -/
structure CirLed where
  /-- provisional energy in units of 10 µJ -/
  prov : Int := 0
  /-- bookings by handle -/
  eps : Tbl Book := []
deriving DecidableEq, Repr

/-- Register copies at a frame boundary (R383): the nine registers of each circuit. -/
structure Copy where
  /-- frame of the link packet -/
  frame : Nat
  /-- registers of circuits 0 to 63 -/
  regs : List (List Nat)
deriving DecidableEq, Repr

/-- The ledger of a period that has not closed (R391 to R394). -/
structure Period where
  /-- first frame -/
  first : Nat
  /-- first frame of the next period -/
  end_ : Nat
  /-- SHORT -/
  short : Bool := false
  /-- a record is missing, or the ledger began within the period -/
  gap : Bool := false
  /-- SUSPENDED was seen -/
  suspended : Bool := false
  /-- PAUSED was seen -/
  paused : Bool := false
  /-- FREE was seen -/
  free : Bool := false
  /-- copy at its first boundary -/
  start : Option Copy := none
  /-- the packet of the first frame itself gave it -/
  startOk : Bool := false
  /-- copy at its end -/
  stop : Option Copy := none
  /-- the packet of the next period's first frame itself gave it -/
  stopOk : Bool := false
  /-- ledgers by circuit -/
  cirs : Tbl CirLed := []
deriving DecidableEq, Repr

/-- A circuit of a closed period (R383, R394). -/
structure CirClosed where
  /-- differences of the nine registers -/
  diffs : List Nat
  /-- E_k in mWh -/
  e : Int
  /-- Σ S_e in mWh -/
  shares : Int
  /-- R_k in mWh -/
  resid : Int
  /-- endpoints booked -/
  booked : Nat
  /-- unknown endpoint-frames -/
  unknown : Nat
deriving DecidableEq, Repr

/-- A share of a closed period (R394). -/
structure Share where
  /-- circuit -/
  circuit : Nat
  /-- handle -/
  handle : Nat
  /-- mWh -/
  mwh : Nat
  /-- frames booked -/
  frames : Nat
  /-- frames unknown -/
  unknown : Nat
deriving DecidableEq, Repr

/-- A closed period (R383, R404). -/
structure Closed where
  /-- first frame -/
  first : Nat
  /-- flags: bit 0 GAP, bit 1 SHORT, bit 2 SUSPENDED, bit 3 PAUSED, bit 4 FREE -/
  flags : Nat
  /-- circuits 0 to 63 -/
  cirs : List CirClosed
  /-- shares, kept for the latest 96 periods -/
  shares : List Share
deriving DecidableEq, Repr

/-- A power model (R396 to R400). -/
structure Model where
  /-- p_0 in mW -/
  p0 : Nat
  /-- p_1 to p_8 in mW -/
  p : List F64
  /-- M, 8 × 8, row by row, in mW² -/
  m : List F64
  /-- updates since the seed -/
  n : Nat := 0
  /-- it entered FITTED in the period in progress -/
  entered : Bool := false
deriving DecidableEq, Repr

/-- A model as a seed leaves it: p_j = s + (r − s) × j / 8, M = (max(r, 10,000) / 4)² × I (R397). -/
def freshModel (s r : Nat) : Model :=
  let v : Nat := (max r 10000 / 4) ^ 2
  { p0 := s, p := (List.range 8).map (fun j => F64.ofInt (s + (r - s) * (j + 1) / 8 : Nat)),
    m := (List.range 64).map (fun i => if i % 9 = 0 then F64.ofInt v else F64.zero) }

/-- A booked frame of an endpoint (R389, R398): the frame, its circuit, and the code; none: unknown. -/
structure Hist where
  /-- frame -/
  frame : Nat
  /-- circuit -/
  circuit : Nat
  /-- code of a level -/
  code : Option Nat
deriving DecidableEq, Repr

/-- Booking state of an endpoint. -/
structure EpAtt where
  /-- the latest booked frames, newest first, at most 6 -/
  hist : List Hist := []
  /-- the last code that was booked for a level (R389) -/
  level : Option Nat := none
  /-- its composed code, and the frame since which it is unchanged (R401) -/
  code : Option (Nat × Nat) := none
  /-- frame of its last dither (R401) -/
  dithered : Option Nat := none
deriving DecidableEq, Repr

/-- What the engine keeps of a frame measurement record (R398). -/
structure ObsRec where
  /-- its frame -/
  frame : Nat
  /-- P_win of each circuit in 0.1 W -/
  pwin : List Int
  /-- T1 of each phase in µs -/
  t1 : List Nat
  /-- metering phase of each circuit -/
  mphase : List Nat
  /-- circuits that are UNUSED, in OVERCURRENT, with CLIP seen, or starting-suppressed -/
  bad : List Nat
  /-- FREE, PAUSED or SUSPENDED_TEMP -/
  off : Bool
deriving DecidableEq, Repr

/-- Attribution. -/
structure Attrib where
  /-- L in minutes (R391, R408); width: 6 bits; reset: 15 -/
  l : Nat := 15
  /-- the period in progress (R391, R393); width: record; reset: none until frame service (R390, R408) -/
  cur : Option Period := none
  /-- periods that have ended and not closed (R394); width: table; reset: empty (log 4) -/
  closing : List Period := []
  /-- closed periods, the latest last: 2,880, with shares in the latest 96 (R383, R404); width: table; reset: empty (R406) -/
  closed : List Closed := []
  /-- power models by handle, where they differ from the unseeded model (R396, R397); width: table; reset: s = 0 and r = 0 (R397) -/
  models : Tbl Model := []
  /-- the models as at the last beat 0 (R405); width: table; reset: as above -/
  models0 : Tbl Model := []
  /-- seeds by handle, kept in the journal: standby and rated mW (R397, R406); width: 64 bits each; reset: none, s = 0 and r = 0 -/
  seeds : Tbl (Nat × Nat) := []
  /-- booking state by handle (R389, R398, R401); width: table; reset: empty (log 4) -/
  eps : Tbl EpAtt := []
  /-- the latest two frame measurement records, newest first (R398); width: 2 records; reset: none (log 4) -/
  recs : List ObsRec := []
  /-- probe dither: on, FRAMES, DITHER_SCOPE (R401, R406, R408); width: 1, 32 and 64 bits; reset: off -/
  dither : Bool × Nat × Nat := (false, 30000, 2 ^ 64 - 1)
  /-- dithers applied to the frame composed last, by circuit: handle and code before (R401); width: table; reset: none (log 4) -/
  active : Tbl (Nat × Nat) := []
  /-- frame in which the circuit's last dither returned (R401); width: 64 bits each; reset: none (log 4) -/
  returned : Tbl Nat := []
  /-- observations fitted, skipped and discarded in the last frame (R408); width: 8 bits each; reset: 0 -/
  obs : Nat × Nat × Nat := (0, 0, 0)
  /-- SYS_ATR_CNT.OUTLIERS (R408); width: 16 bits; reset: 0 -/
  outliers : Nat := 0
  /-- SYS_ATR_CNT.DITHERS (R408); width: 16 bits; reset: 0 -/
  dithers : Nat := 0
deriving DecidableEq, Repr

end Sys2Proof.Machine
end

