-- ==== Sys2Proof/Machine/StBoot.lean ====
section
/-!
DEFINITION. Machine/StBoot.lean: service level, start, images, activation, the journal and flash (R523 to R555).
-/
namespace Sys2Proof.Machine

/-- A manifest entry (R529). -/
structure ManEntry where
  /-- kind, 1 to 5 -/
  kind : Nat
  /-- class or bank -/
  cls : Nat
  /-- low version -/
  lo : Nat
  /-- high version -/
  hi : Nat
  /-- extra -/
  extra : Nat
deriving DecidableEq, Repr

/-- A whole image in a slot (R527). -/
structure Image where
  /-- version: major, minor, patch, build -/
  version : Nat
  /-- security version -/
  svn : Nat
  /-- flag ADVANCE_NOW -/
  advanceNow : Bool
  /-- SHA-384 of the payload -/
  digest : Bytes
  /-- the manifest -/
  manifest : List ManEntry
  /-- bytes 0 to 159 + m: header, manifest and Turquendi signature -/
  head : Bytes
  /-- owner countersignature; empty for classes 0 and 2 -/
  csig : Bytes
  /-- Turquendi signature and payload digest verify -/
  good : Bool
  /-- installed at manufacture (R528) -/
  factory : Bool
deriving DecidableEq, Repr

/-- A staging of a class (R538): total length, the chunks written with their offsets, and the command that completed it. -/
structure Staging where
  /-- IMG_TOTAL -/
  total : Nat
  /-- chunks: offset and bytes, the latest last -/
  chunks : List (Nat × Bytes)
  /-- the completing command: series, SEQ, CMDID -/
  waiting : Option (Nat × Nat × Nat)
  /-- STAGE: 1 loading, 2 verified, 3 failed -/
  stage : Nat
deriving DecidableEq, Repr

/-- The three slots of an image class (R526). -/
structure ImgSlots where
  /-- ACTIVE -/
  act : Option Image := none
  /-- PREVIOUS -/
  prev : Option Image := none
  /-- STAGED, once verified -/
  stg : Option Image := none
  /-- the staging of STAGED -/
  staging : Option Staging := none
deriving DecidableEq, Repr

/-- An activation in progress (R539 to R546). -/
structure Activation where
  /-- the command: series, SEQ, CMDID -/
  cmd : Nat × Nat × Nat
  /-- classes still to hand over, in the order Flint, main, grain, air -/
  todo : List Nat
  /-- classes of the activation -/
  classes : List Nat
  /-- restart mode -/
  restart : Bool
  /-- no migration is needed: m_k stays -/
  keepKeys : Bool
  /-- the images that ran before -/
  old : Tbl Image
  /-- frame of the commit, or of the main handover, from which R542 counts -/
  since : Nat
  /-- bank B has left (R541 step 1) -/
  left : Bool
  /-- bank B is ready on the new main image -/
  bReady : Bool
  /-- main has been handed over to bank B -/
  handed : Bool
  /-- frame of the last handover of Flint or main, after whose first frame step 6 of R518 takes place -/
  handAt : Option Nat
  /-- level held before -/
  level : Nat
  /-- strata already swapped to the new microcode -/
  swapped : Nat
  /-- frame of the latest swap (R543) -/
  lastSwap : Option Nat
  /-- strata are swapping back -/
  back : Bool
  /-- frame in which the new air image took over (R544) -/
  airSince : Option Nat
deriving DecidableEq, Repr

/-- A service credential (R537). -/
structure SvcCred where
  /-- role mask: bit 0 DIAG, 1 STAGE, 2 ACTIVATE -/
  roles : Nat
  /-- SHA-384 of the client public key -/
  digest : Bytes
deriving DecidableEq, Repr

/-- Start and update. -/
structure Boot where
  /-- Flint has reached MAINTENANCE (R523, R532); width: 1 bit; reset: no, SVC_LEVEL.LEVEL is 0b00 (R555) -/
  maint : Bool := false
  /-- frame service has been entered (R533); width: 1 bit; reset: no, LDS_STAT.FSVC is 0 (R108) -/
  inService : Bool := false
  /-- highest step of R532 reached (R555); width: 4 bits; reset: 0 -/
  step : Nat := 0
  /-- steps reached, each with its frame and network time (R548); width: table; reset: empty (log 4) -/
  stepLog : List (Nat × Nat × Nat) := []
  /-- no approved image set, SVC_LEVEL.NO_SET (R531, R555); width: 1 bit; reset: 0 -/
  noSet : Bool := false
  /-- strata out of service (R524, R555); width: 16 bits; reset: 0 -/
  strataOut : Nat := 0
  /-- bank A out of service (R555); width: 1 bit; reset: 0 -/
  bankAOut : Bool := false
  /-- bank B out of service (R555); width: 1 bit; reset: 0 -/
  bankBOut : Bool := false
  /-- air unit out of service (R555); width: 1 bit; reset: 0 -/
  airOut : Bool := false
  /-- uplink pipe out of service (R555); width: 1 bit; reset: 0 -/
  uplinkOut : Bool := false
  /-- frames of watchdog resets of banks A and B (R524); width: table; reset: empty (log 4) -/
  resets : List Nat × List Nat := ([], [])
  /-- first frame boundary at which Lodestone was out of UNSET (R533); width: 64 bits; reset: none (log 4) -/
  timed : Option Nat := none
  /-- level last announced by SERVICE_LEVEL and shown on STAT1:STAT0 (R51, R554); width: 2 bits; reset: 0b00 -/
  stat : Nat := 0
  /-- the image classes (R526, R555); width: 4 entries; reset: versions 0, every slot empty (R555) -/
  images : Tbl ImgSlots := []
  /-- the image that runs on each class, none while it runs none (R524, R531); width: 4 entries; reset: none (log 4) -/
  run : Tbl Image := []
  /-- the restart-mode activation whose RESULT awaits the level held before: series, SEQ, CMDID, and the level (R539, R540); width: record; reset: none (log 4) -/
  owed : Option ((Nat × Nat × Nat) × Nat) := none
  /-- the activation in progress (R539); width: record; reset: none, SVC_UPD.STATE is 0 (R555) -/
  act : Option Activation := none
  /-- consecutive failed starts (R535, R555); width: 2 bits; reset: 0 -/
  attempts : Nat := 0
  /-- the running set came from PREVIOUS slots (R555); width: 1 bit; reset: 0 -/
  prev : Bool := false
  /-- frames spent in frame service since the start (R535); width: 64 bits; reset: 0, DESIGN CHOICE (log 4) -/
  served : Nat := 0
  /-- last reset cause (R555); width: 4 bits; reset: 0 -/
  cause : Nat := 0
  /-- the last 16 reset causes with their network times (R548); width: table; reset: empty (log 4) -/
  causes : List (Nat × Nat) := []
  /-- starts since manufacture (R555); width: 16 bits; reset: 0 -/
  starts : Nat := 0
  /-- service credentials by index (R537); width: 8 entries; reset: empty (log 4) -/
  creds : Tbl SvcCred := []
  /-- the owner's image key (R528, R537); width: 97 bytes; reset: none (log 4) -/
  imageKey : Option Bytes := none
  /-- flash device 0 in use (R547, R555); width: 1 bit; reset: 0 -/
  dev0 : Bool := false
  /-- flash device 1 in use (R547, R555); width: 1 bit; reset: 0 -/
  dev1 : Bool := false
  /-- flash devices taken out of use (R547); width: 2 bits; reset: none, DESIGN CHOICE (log 4) -/
  failed : List Nat := []
  /-- commit sequence number of the journal (R547); width: 64 bits; reset: 0 -/
  jseq : Nat := 0
  /-- a commit record is being written to the devices (R547); width: 1 bit; reset: no (log 4) -/
  jopen : Bool := false
  /-- frame-progress silence: commits since start, model's bookkeeping of BROWNOUT (R553); width: 1 bit; reset: no (log 4) -/
  brownout : Bool := false
deriving DecidableEq, Repr

end Sys2Proof.Machine
end

