-- ==== Sys2Proof/Machine/StBridge.lean ====
section
/-!
DEFINITION. Machine/StBridge.lean: bridge operations, tags and semaphores of the grains (R226 to R250).
-/
namespace Sys2Proof.Machine

/-- Kind of a bridge operation (R232, R235). -/
inductive BrKind where
  /-- BR_READ -/
  | read
  /-- BR_WRITE_P -/
  | posted
  /-- BR_WRITE_NP -/
  | nonPosted
deriving DecidableEq, Repr

/-- A bridge operation in a grain's queue, or in flight. -/
structure BrOp where
  /-- vCtl that committed it -/
  vctl : Nat
  /-- its association's series -/
  key : Nat
  /-- SEQ of its packet -/
  seq : Nat
  /-- CMDID -/
  cmdid : Nat
  /-- kind -/
  kind : BrKind
  /-- endpoint handle -/
  handle : Nat
  /-- first register byte address -/
  reg : Nat
  /-- number of registers -/
  count : Nat
  /-- registers written -/
  data : Bytes
  /-- its tag; none for a posted write -/
  tag : Option Nat
  /-- name numbers and counts of an ATTR_READ, by which the result is cut (R230) -/
  names : List Nat
deriving DecidableEq, Repr

/-- State of a tag that is not FREE (R239). -/
inductive TagSt where
  /-- IN_FLIGHT, not yet issued -/
  | queued
  /-- IN_FLIGHT, issued with timeout T in µs; the timer started at `start` ns of network time (R239, R240) -/
  | issued (t start : Nat)
  /-- TIMED_OUT; the timer started again at `start` ns -/
  | timedOut (t start : Nat)
deriving DecidableEq, Repr

/-- The state is TIMED_OUT. -/
def TagSt.late : TagSt → Bool
  | .timedOut _ _ => true
  | _ => false

/-- A tag that is not FREE. -/
structure Tag where
  /-- its operation -/
  op : BrOp
  /-- its state -/
  st : TagSt
  /-- charged to the vCtl's quota (R238, R242) -/
  charged : Bool := true
deriving DecidableEq, Repr

/-- A request that waits on a semaphore block or on an entry (R244). -/
structure Waiter where
  /-- vCtl -/
  vctl : Nat
  /-- its association's series -/
  key : Nat
  /-- SEQ of its packet -/
  seq : Nat
  /-- CMDID -/
  cmdid : Nat
  /-- endpoint -/
  handle : Nat
  /-- block address -/
  block : Nat
  /-- lease in frames -/
  lease : Nat
  /-- frame at whose commit it gives up -/
  deadline : Nat
deriving DecidableEq, Repr

/-- A semaphore entry (R243). -/
structure Sem where
  /-- endpoint -/
  handle : Nat
  /-- block address, a multiple of 256 -/
  block : Nat
  /-- holder -/
  holder : Nat
  /-- frame at whose commit its lease ends -/
  until_ : Nat
  /-- waiters in the order in which they joined -/
  waiters : List Waiter
deriving DecidableEq, Repr

/-- A broken semaphore not yet reported (R246). -/
structure Broken where
  /-- former holder -/
  vctl : Nat
  /-- endpoint -/
  handle : Nat
  /-- block -/
  block : Nat
  /-- frame of the break -/
  since : Nat
deriving DecidableEq, Repr

/-- The bridge engine of a grain. -/
structure GrainBr where
  /-- FREE tags, the longest free first (R238) -/
  free : List Nat
  /-- tags that are not FREE -/
  tags : Tbl Tag := []
  /-- operations not yet issued, in commit order (R234) -/
  queue : List BrOp := []
  /-- operations whose issue slot has come and that wait for credits, in order: not yet issued (R234, R235) -/
  credit : List BrOp := []
  /-- the next issue slot, counted in steps of 100 ns from frame 0 (R236) -/
  slot : Nat := 0
  /-- semaphore entries in use, at most 64 -/
  sems : List Sem := []
  /-- requests waiting for an entry, at most 16 -/
  entryQ : List Waiter := []
  /-- broken records -/
  broken : List Broken := []
  /-- late answers discarded in the current frame, for BRIDGE_LATE (R248) -/
  lateNow : Nat := 0
  /-- posted writes discarded in the current frame, by vCtl and endpoint, for BRIDGE_DISCARD (R237) -/
  dropNow : List (Nat × Nat × Nat) := []
deriving DecidableEq, Repr

/-- The bridge. -/
structure Bridge where
  /-- the bridge engines, by grain (R238, R243); width: 256 engines of 256 tags and 64 semaphore entries; reset: every tag FREE, GRN_BR_TAGS.FREE is 256 (R249), tag 0 free longest (DESIGN CHOICE, log 7) -/
  grains : Tbl GrainBr := []
deriving DecidableEq, Repr

end Sys2Proof.Machine
end

