-- ==== Sys2Proof/Machine/StFlint.lean ====
section
/-!
DEFINITION. Machine/StFlint.lean: measurements, the generator, key slots, the blob registry, fuses and migration (R494 to R522).
-/
namespace Sys2Proof.Machine

/-- A measurement as what is measured: the digest of each image with its manifest, in order (R496, log 30). -/
abbrev Meas := List Bytes

/-- A loaded or bad key slot (R509, R510). -/
structure Slot where
  /-- key -/
  key : Bytes
  /-- algorithm -/
  alg : Nat
  /-- usage mask -/
  usage : Nat
  /-- incarnation of the owner -/
  incarn : Nat
  /-- load salt, 12 bytes -/
  salt : Bytes
  /-- encryption counter -/
  ctr : Nat
  /-- registry number -/
  regNo : Nat
  /-- the integrity tag, as the bytes it covers (log 30) -/
  tag : Bytes
  /-- BAD -/
  bad : Bool
deriving DecidableEq, Repr

/-- A WORKING entry of the registry (R505, R506). -/
structure Blob where
  /-- key -/
  key : Bytes
  /-- algorithm -/
  alg : Nat
  /-- usage mask -/
  usage : Nat
  /-- incarnation of the owner -/
  incarn : Nat
  /-- workspace offset of BLOB_LOC; none: the journal -/
  loc : Option Nat
  /-- STALE -/
  stale : Bool
  /-- the measurements m_k under whose KEK it is wrapped: at most the old and the new generation -/
  gens : List Meas
deriving DecidableEq, Repr

/-- A migration (R518, R519). -/
structure Migr where
  /-- m_k of the staged set -/
  target : Meas
  /-- step 4 is reached -/
  done : Bool
deriving DecidableEq, Repr

/-- Flint. -/
structure Flint where
  /-- FLT_STAT.STATE (R522): 0 starting, 1 running, 2 migrating, 3 halted; width: 2 bits; reset: 0b00 -/
  st : Nat := 0
  /-- FLT_STAT.HALT_CAUSE (R522); width: 4 bits; reset: 0 -/
  halt : Nat := 0
  /-- FLT_STAT.RNG_OK (R502, R522); width: 1 bit; reset: 0 -/
  rngOk : Bool := false
  /-- slot integrity key (R509); width: 16 bytes; reset: none until Flint draws it (log 4) -/
  intKey : Bytes := []
  /-- frame of the latest reseeding of the generator (R502); width: 64 bits; reset: 0 (log 4) -/
  reseed : Nat := 0
  /-- m_k of the running set (R496); width: 384 bits; reset: nothing measured (log 4) -/
  mK : Meas := []
  /-- m_a of the running set (R496); width: 384 bits; reset: nothing measured (log 4) -/
  mA : Meas := []
  /-- slots that are LOADED or BAD, by 64 × vCtl + number (R508, R510); width: 1,024 slots; reset: every slot EMPTY (R510) -/
  slots : Tbl Slot := []
  /-- WORKING entries by 2^32 × vCtl + registry number (R506); width: table; reset: empty (log 4) -/
  reg : Tbl Blob := []
  /-- the measurements m_k under whose KEK the module-class blobs are wrapped (R505, R518); width: at most two; reset: none (log 4) -/
  modGens : List Meas := []
  /-- the migration in progress (R518); width: record; reset: none (log 4) -/
  migr : Option Migr := none
  /-- FLT_MIGR.DONE (R522); width: 20 bits; reset: 0 -/
  migrDone : Nat := 0
  /-- values of the fuse banks 0 to 3 (R516, R522); width: 7 bits each; reset: 0 -/
  fuses : Tbl Nat := []
  /-- frame since which each bank's image runs without a revert: 0 Flint, 1 main, 2 air (R517); width: 64 bits each; reset: none (log 4) -/
  runs : Tbl Nat := []
  /-- GEO_FW as last seen, and since which frame (R517); width: 96 bits; reset: none (log 4) -/
  geoFw : Option (Nat × Nat) := none
deriving DecidableEq, Repr

end Sys2Proof.Machine
end

