-- ==== Sys2Proof/Machine/StFrame.lean ====
section
/-!
DEFINITION. Machine/StFrame.lean: the frame and beat count, accepted commands, replies that are due, and the urgent queue (R109 to R128).
-/
namespace Sys2Proof.Machine

/-- An accepted command, with its endpoints resolved to handles at acceptance (R110, R165). -/
structure Cmd where
  /-- number by which its reply entry finds it -/
  uid : Nat
  /-- opcode (R153) -/
  op : Nat
  /-- the association it came on -/
  key : AssocKey
  /-- SEQ of its packet, for CMD_REF -/
  seq : Nat
  /-- CMDID -/
  cmdid : Nat
  /-- CFLAGS.NO_DATA -/
  noData : Bool
  /-- RFLAGS fixed at acceptance: TLV_IGNORED, URGENT_DEFERRED -/
  flags : Nat
  /-- TLVs of the reply fixed at acceptance: IGNORED_TYPES -/
  pre : List OTlv
  /-- the TLVs the opcode defines, in order: identity and value -/
  tlvs : List (Nat × Bytes)
  /-- handles of EP_LIST, in order -/
  eps : List Nat
  /-- negotiated major: 2 or 3 -/
  major : Nat
deriving DecidableEq, Repr

/-- One reply entry of a packet whose reply is due: refused at once, or of an accepted command. -/
inductive Entry where
  /-- refused at acceptance, or answered already -/
  | done (r : Reply)
  /-- the entry of the accepted command `uid` -/
  | wait (uid : Nat)
deriving DecidableEq, Repr

/-- A packet whose reply is due (R111, R142). -/
structure PendPkt where
  /-- its association -/
  key : AssocKey
  /-- its SEQ -/
  seq : Nat
  /-- frame at whose beat 0 the reply is released (R111, R125) -/
  due : Nat
  /-- VMAJ and VMIN of a refusal sent before SESSION_OPEN (R136); none: the negotiated ones -/
  ver : Option (Nat × Nat)
  /-- its reply is kept under R137; not so for a packet that R136 refuses by checks 1 to 5 -/
  keep : Bool
  /-- the entries, in packet order -/
  entries : List Entry
deriving DecidableEq, Repr

/-- An urgent command that is in the urgent slot or waits for it (R123). -/
structure UrgCmd where
  /-- the command -/
  cmd : Cmd
  /-- the beat in which its packet arrived, counted from frame 0 -/
  since : Nat
deriving DecidableEq, Repr

/-- The frame engine. -/
structure FrameSt where
  /-- the current frame number (R9); width: 64 bits; reset: 0, DESIGN CHOICE until Lodestone sets the time (log 4) -/
  now : Nat := 0
  /-- the current beat 0 to 79 (R9); width: 7 bits; reset: 0, DESIGN CHOICE (log 4) -/
  beat : Nat := 0
  /-- commands accepted in the current frame, in order of acceptance (R110); width: table; reset: empty (log 4) -/
  accepted : List Cmd := []
  /-- packets whose replies are due, in order of acceptance (R142); width: table; reset: empty (log 4) -/
  pkts : List PendPkt := []
  /-- kept replies to be sent again at the next beat 0 (R137): association and SEQ; width: table; reset: empty (log 4) -/
  dups : List (AssocKey × Nat) := []
  /-- next command number; width: model's own counter; reset: DESIGN CHOICE 0 (log 4) -/
  uid : Nat := 0
  /-- the urgent command in the urgent slot, and behind it at most 16 that wait (R123); width: table; reset: empty, SYS_URG_STAT.QUEUE is 0 (R128) -/
  urgQ : List UrgCmd := []
  /-- the beat of the latest acceptance from the urgent slot, counted from frame 0 (R123); width: 64 bits; reset: none (log 4) -/
  urgBeat : Option Nat := none
  /-- urgent commands accepted in the current frame whose overlay was not written everywhere, by command number (R181); width: table; reset: empty (log 4) -/
  urgLost : List Nat := []
  /-- urgent commands and EMERG assertions accepted, SYS_URG_STAT.ACCEPTED (R128); width: 16 bits; reset: 0 -/
  urgCount : Nat := 0
  /-- compositions carried into the next frame, by handle, in order (R117); width: table; reset: empty, SYS_FRM_CARRY is 0 (R128) -/
  carried : List Nat := []
  /-- firings of schedule entries carried into the next frame: schedule key and index, in order (R117); width: table; reset: empty (log 4) -/
  lateFires : List (Nat × Nat) := []
  /-- capacity C of the current frame (R113, R128); width: 13 bits; reset: 0 -/
  cap : Nat := 0
  /-- strings whose dispatch was unfinished at the tick (R118); width: 256 bits; reset: empty (log 4) -/
  late : List Nat := []
  /-- BEAT_BOUNDARY has reached beat 0 of the next frame, and its tick is due (R86, R109); width: 1 bit; reset: DESIGN CHOICE no (log 38) -/
  tickDue : Bool := false
deriving DecidableEq, Repr

end Sys2Proof.Machine
end

