-- ==== Sys2Proof/Machine/StGeode.lean ====
section
/-!
DEFINITION. Machine/StGeode.lean: the Geode, its legal registers, readings and logs, its link to the main side, and the main side's copies (R333
to R387).
-/
namespace Sys2Proof.Machine

/-- A circuit or phase record (R340). -/
structure CirRec where
  /-- sensor type: 0 current transformer, 1 Rogowski -/
  sensor : Nat := 0
  /-- metering phase, 0 unused -/
  mphase : Nat := 0
  /-- I_n in mA -/
  inMa : Nat := 20000
  /-- U_n in µV -/
  un : Nat := 333000
  /-- fast overcurrent threshold in percent of I_n -/
  oc : Nat := 150
  /-- gain and phase of the eight breakpoints -/
  pts : List (Nat × Int) := List.replicate 8 (0x40000000, 0)
deriving DecidableEq, Repr

/-- The legal parameters (R361). -/
structure LegalParams where
  /-- circuit records 0 to 63 and phase records 0x40 to 0x42, where they differ from the default -/
  cirs : Tbl CirRec := []
  /-- pulse weights in mWh, by input; 1 where none is listed -/
  weights : Tbl Nat := []
  /-- profile capture period in minutes -/
  period : Nat := 15
  /-- HDLC baud rate identifier, 5 or 6 -/
  baud : Nat := 5
  /-- HDLC inactivity timeout in s -/
  timeout : Nat := 120
  /-- the metrology authority's trust anchor -/
  anchor : Bytes := []
deriving DecidableEq, Repr

/-- An INRUSH mask (R350): the frame at whose start it opens, and the frame before whose start it covers half-cycles. -/
structure Mask where
  /-- first frame -/
  from_ : Nat
  /-- frame of its end -/
  until_ : Nat
deriving DecidableEq, Repr

/-- Measurement state of a circuit. -/
structure GeoCir where
  /-- path P: 1, 4, 16 or 64 (R338) -/
  p : Nat := 1
  /-- settle count -/
  settle : Nat := 0
  /-- quiet count -/
  quiet : Nat := 0
  /-- clipped samples, GEO_CIR_H.CLIP -/
  clip : Nat := 0
  /-- clipped samples since the last CURRENT_CLIP -/
  clipNew : Nat := 0
  /-- frame of the last CURRENT_CLIP -/
  clipEv : Option Nat := none
  /-- clipping was seen since the last record -/
  clipSeen : Bool := false
  /-- the nine accumulators, 96 bits each: 48 bits of whole units of 0.1 and 48 bits of fraction (R365) -/
  acc : List Nat := List.replicate 9 0
  /-- the integrator of a Rogowski circuit (R335) -/
  integ : Int := 0
  /-- samples of the piece in progress, before correction: label time in ns and sample, the latest last (R342) -/
  buf : List (Nat × Int) := []
  /-- the four samples before them, the latest first -/
  past : List Int := []
  /-- the last four corrected samples of the ended pieces: label time in ns and sample, the latest last (R344) -/
  tail : List (Nat × Int) := []
  /-- the accumulators before the first piece that ended at or after the start of the frame of the label (R362) -/
  accB : Option (List Nat) := none
  /-- power of the samples of the ended pieces: label time in ns and µW, those of the last 25 ms (R348) -/
  hist : List (Nat × Int) := []
  /-- corrected RMS current of the previous cycle, block or partial cycle in µA (R341) -/
  xrms : Nat := 0
  /-- corrected RMS current of the last complete cycle in µA (R344) -/
  irms : Nat := 0
  /-- P1 of the last complete cycle in µW -/
  p1 : Int := 0
  /-- Q1 of the last complete cycle in µvar -/
  q1 : Int := 0
  /-- THD of the last window -/
  thd : Nat := 0xFFFF
  /-- the window in progress: per cycle the squares of I_1 and of I_2 to I_40 (R344) -/
  win : List (Nat × Nat) := []
  /-- the last cycle was starting-suppressed (R345) -/
  suppressed : Bool := false
  /-- OVERCURRENT (R349) -/
  oc : Bool := false
  /-- consecutive half-cycles above the threshold -/
  ocHi : Nat := 0
  /-- consecutive half-cycles below 90% of it -/
  ocLo : Nat := 0
  /-- the half-cycle RMS current last evaluated, in µA -/
  half : Nat := 0
  /-- INRUSH mask -/
  mask : Option Mask := none
  /-- the mask that closed last, for half-cycles that ended in it (R350) -/
  shut : Option Mask := none
  /-- frame before which hints are ignored after a mask closed at 20 frames -/
  deaf : Nat := 0
deriving DecidableEq, Repr

/-- State of a phase (R342, R343). -/
structure GeoPhase where
  /-- blocks of 160 samples in place of cycles -/
  blocks : Bool := true
  /-- frequency in mHz, 0 invalid -/
  freq : Nat := 0
  /-- V_rms in 10 mV -/
  vrms : Nat := 0
  /-- the cycle in progress began at a latch edge (R346, R354) -/
  cut : Bool := false
  /-- time in ns of the last crossing -/
  last : Option Nat := none
  /-- time in ns of the last accepted crossing (R342) -/
  start : Option Nat := none
  /-- voltage samples of the piece in progress, before correction: label time in ns and sample, the latest last -/
  buf : List (Nat × Int) := []
  /-- the four samples before them, the latest first -/
  past : List Int := []
  /-- the last four corrected samples of the ended pieces: label time in ns and sample, the latest last (R344) -/
  tail : List (Nat × Int) := []
deriving DecidableEq, Repr

/-- A pulse input (R351). -/
structure PulseIn where
  /-- time in ns of the accepted rise while ON or STUCK -/
  rise : Option Nat := none
  /-- STUCK -/
  stuck : Bool := false
  /-- count, 48 bits -/
  count : Nat := 0
  /-- network time in ns of the pulse counted last -/
  last : Nat := 0
  /-- frame of the last PULSE_FAULT -/
  fault : Option Nat := none
deriving DecidableEq, Repr

/-- A circuit of a latch. -/
structure LatchCir where
  /-- UNUSED -/
  unused : Bool
  /-- the nine registers -/
  regs : List Nat
deriving DecidableEq, Repr

/-- A pulse input of a latch. -/
structure LatchPulse where
  /-- STUCK -/
  stuck : Bool
  /-- count -/
  count : Nat
deriving DecidableEq, Repr

/-- What a latch edge holds for its reading (R353, R367). -/
structure Latch where
  /-- reading sequence number -/
  seq : Nat
  /-- flags -/
  flags : Nat
  /-- sequence number of the latest legal log record at E -/
  logSeq : Nat
  /-- parameter set number -/
  pset : Nat
  /-- Geode firmware version -/
  fw : Nat
  /-- circuits 0 to 63 -/
  cirs : List LatchCir
  /-- pulse inputs 0 to 15 -/
  pulses : List LatchPulse
deriving DecidableEq, Repr

/-- A latched or awaited reading (R353, R366). -/
structure PendRead where
  /-- kind 0 to 4 -/
  kind : Nat
  /-- trigger time in ns -/
  t : Nat
  /-- latch edge in ns -/
  e : Nat
  /-- what was latched; none before E -/
  latch : Option Latch := none
  /-- signed at a later start (R379) -/
  late : Bool := false
deriving DecidableEq, Repr

/-- A signed reading (R367): its sequence number, kind, T, and its 3,840 bytes. -/
structure Reading where
  /-- reading sequence number -/
  seq : Nat
  /-- kind -/
  kind : Nat
  /-- T -/
  t : Nat
  /-- the bytes -/
  bytes : Bytes
deriving DecidableEq, Repr

/-- A log record (R370, R371). -/
structure LogRec where
  /-- log sequence number -/
  seq : Nat
  /-- network time in ns -/
  time : Nat
  /-- code -/
  code : Nat
  /-- flags: bit 0 FREE -/
  flags : Nat
  /-- 12 bytes of data -/
  data : Bytes
deriving DecidableEq, Repr

/-- A save (R378). -/
structure Save where
  /-- save sequence number -/
  seq : Nat
  /-- final save of a power failure -/
  pf : Bool
  /-- time in ns -/
  time : Nat
  /-- accumulators by circuit -/
  acc : Tbl (List Nat)
  /-- pulse counts by input -/
  counts : Tbl Nat
  /-- last reading sequence number -/
  rseq : Nat
  /-- readings latched and not yet signed -/
  pend : List PendRead
deriving DecidableEq, Repr

/-- An answer to a READ_REQ (R364): identifier, code (0 data, 1 absent, 2 overwritten, 3 invalid object), and the data. -/
structure GeoAnswer where
  /-- request identifier -/
  id : Nat
  /-- code -/
  code : Nat
  /-- data -/
  data : Bytes
deriving DecidableEq, Repr

/-- Per-circuit part of a link packet (R348, R362). -/
structure PktCir where
  /-- P_win in 0.1 W -/
  pwin : Int
  /-- I_rms in mA -/
  irms : Nat
  /-- P1 in 0.1 W -/
  p1 : Int
  /-- Q1 in 0.1 var -/
  q1 : Int
  /-- THD -/
  thd : Nat
  /-- path P -/
  path : Nat
  /-- UNUSED -/
  unused : Bool
  /-- CLIP seen -/
  clipSeen : Bool
  /-- clipped samples -/
  clip : Nat
  /-- OVERCURRENT -/
  oc : Bool
  /-- MASK open -/
  mask : Bool
  /-- starting-suppressed -/
  suppressed : Bool
  /-- metering phase -/
  mphase : Nat
  /-- register copies -/
  regs : List Nat
deriving DecidableEq, Repr

/-- A frame measurement record, with the copies of R362 that go with it (R348). -/
structure FrameRec where
  /-- frame -/
  frame : Nat
  /-- last complete cycle's length in µs, by phase -/
  t1 : List Nat
  /-- circuits -/
  cirs : List PktCir
  /-- phases: V_rms and frequency -/
  phases : List (Nat × Nat)
  /-- pulse inputs: count, ON, STUCK -/
  pulses : List (Nat × Bool × Bool)
  /-- sync state -/
  sync : Nat
  /-- FREE flag -/
  free : Bool
deriving DecidableEq, Repr

/-- A link packet (R362). -/
structure LinkPkt where
  /-- frame -/
  frame : Nat
  /-- 0 METERING, 1 PAUSED, 2 SUSPENDED_TEMP -/
  state : Nat
  /-- FLOOD -/
  flood : Bool
  /-- an association is open on OX1 -/
  optAssoc : Bool
  /-- parameter set number -/
  pset : Nat
  /-- last reading sequence number -/
  rseq : Nat
  /-- last legal log sequence number -/
  logSeq : Nat
  /-- Geode temperature in 1/16 degree -/
  temp : Int
  /-- firmware version -/
  fw : Nat
  /-- sync state -/
  sync : Nat
  /-- FREE flag -/
  free : Bool
  /-- a snapshot exists, and one is in progress -/
  snap : Bool × Bool
  /-- SNAPSHOT_MISSED, HINT_IGN, GLITCH, FLOOD and AUTH_FAIL counts -/
  counts : List Nat
  /-- last complete cycle's length in µs, by phase -/
  t1 : List Nat
  /-- circuits -/
  cirs : List PktCir
  /-- phases: V_rms and frequency -/
  phases : List (Nat × Nat)
  /-- pulse inputs: count, ON, STUCK -/
  pulses : List (Nat × Bool × Bool)
  /-- events: code, circuit or 0xFF, TLVs -/
  evs : List (Nat × Nat × List OTlv)
  /-- readings signed since the previous packet -/
  readings : List Reading
  /-- answers -/
  answers : List GeoAnswer
  /-- blocks of sample words by input (R357) -/
  wave : Tbl (List Nat)
deriving DecidableEq, Repr

/-- A change by the metrology authority (R376). -/
structure GeoAct where
  /-- E0 in ns; none while the Geode waits -/
  e0 : Option Nat
  /-- new firmware version and security version, for a firmware change that has not been reverted -/
  fw : Option (Nat × Nat)
  /-- a firmware change -/
  firmware : Bool
deriving DecidableEq, Repr

/-- A request of the main side to the Geode (R364, R382, R384). -/
structure MainReq where
  /-- request identifier -/
  id : Nat
  /-- object and index -/
  object : Nat
  /-- index -/
  index : Nat
  /-- the command: series, SEQ, CMDID -/
  cmd : Nat × Nat × Nat
  /-- offset of a reading, or count of records -/
  arg : Nat
  /-- frame of the request -/
  since : Nat
deriving DecidableEq, Repr

/-- The main side's copies. -/
structure Mirror where
  /-- the latest link packet -/
  pkt : Option LinkPkt := none
  /-- frame in which it arrived -/
  at_ : Nat := 0
  /-- GEODE_LINK has been raised for the present silence -/
  silent : Bool := false
  /-- signed readings, the latest last, at most 4,096 -/
  readings : List Reading := []
  /-- legal log records held -/
  log : Tbl Bytes := []
  /-- non-legal log records held -/
  nlog : Tbl Bytes := []
  /-- requests not yet answered -/
  reqs : List MainReq := []
  /-- next request identifier -/
  nextId : Nat := 0
  /-- SNAPSHOT commands: series, SEQ, CMDID, T -/
  snaps : List (Nat × Nat × Nat × Nat) := []
  /-- frame of the last OPTICAL_FLOOD event, and the FLOOD count it reported -/
  flood : Option (Nat × Nat) := none
  /-- WAVEFORM_STREAM selections: vCtl and input -/
  wave : List (Nat × Nat) := []
deriving DecidableEq, Repr

/-- The Geode. -/
structure Geode where
  /-- the Geode runs (R378, R379); width: 1 bit; reset: DESIGN CHOICE off until GEODE_START (log 4) -/
  on : Bool := false
  /-- it runs on hold-up since this time in ns (R378); width: 64 bits; reset: no (log 4) -/
  failing : Option Nat := none
  /-- sync state: 0 FREE, 1 ACQUIRE, 2 LOCKED (R336, R360); width: 2 bits; reset: FREE -/
  sync : Nat := 0
  /-- consecutive good edges, and consecutive edges beyond ±1 µs (R336); width: 7 bits and 4 bits; reset: DESIGN CHOICE 0 (log 4) -/
  run : Nat × Nat := (0, 0)
  /-- consecutive missing edges (R336); width: 5 bits; reset: DESIGN CHOICE 0 (log 4) -/
  gone : Nat := 0
  /-- sample label: frame and beat (R337); width: 64 and 7 bits; reset: DESIGN CHOICE 0 (log 4) -/
  label : Nat × Nat := (0, 0)
  /-- narrow-path frames accepted in the frame (R363); width: 7 bits; reset: DESIGN CHOICE 0 (log 4) -/
  narrow : Nat := 0
  /-- accumulation is stopped by a change (R376); width: 1 bit; reset: no, GEO_CUST.STATE is 0 (R387) -/
  paused : Bool := false
  /-- accumulation is stopped by temperature, since this time in ns (R380); width: 64 bits; reset: no -/
  suspended : Option Nat := none
  /-- circuits (R338 to R350, R365); width: 64 records; reset: P 1 (R338), registers 0, THD 0xFFFF (R360) -/
  cirs : Tbl GeoCir := []
  /-- phases (R342, R343, R360); width: 3 records; reset: 0; blocks until the first crossing, DESIGN CHOICE (log 4) -/
  phases : Tbl GeoPhase := []
  /-- length in ns of the last complete cycle of each phase (R348); width: 25 bits each; reset: 20,000,000, DESIGN CHOICE (log 4) -/
  t1 : Tbl Nat := []
  /-- the latest frame measurement record (R348); width: record; reset: none (log 4) -/
  frec : Option FrameRec := none
  /-- pulse inputs (R351, R360); width: 16 records; reset: count 0, OFF -/
  pulses : Tbl PulseIn := []
  /-- legal parameters (R361, R340); width: record; reset: PRESUMED every circuit unused with default values (log 18), period 15 min (R366), overcurrent 150% (R340), 120 s (R372) -/
  params : LegalParams := {}
  /-- staged parameters (R376); width: record; reset: none (log 4) -/
  staged : Option LegalParams := none
  /-- transferred image: version (R376); width: 32 bits; reset: none (log 4) -/
  image : Option (Nat × Nat) := none
  /-- parameter set number (R376, R387); width: 32 bits; reset: 0 -/
  pset : Nat := 0
  /-- firmware version (R362, R387); width: 32 bits; reset: 0 -/
  fw : Nat := 0
  /-- security version of the running firmware (R376); width: 32 bits; reset: DESIGN CHOICE 0 (log 4) -/
  svn : Nat := 0
  /-- the previous firmware version and security version (R376); width: 64 bits; reset: DESIGN CHOICE 0 (log 4) -/
  prevFw : Nat × Nat := (0, 0)
  /-- a change in progress (R376); width: record; reset: none (log 4) -/
  act : Option GeoAct := none
  /-- last reading sequence number (R368, R387); width: 64 bits; reset: 0 -/
  rseq : Nat := 0
  /-- readings that are awaited, latched or being signed (R353, R366); width: table; reset: empty, GEO_SNAP_STAT.BUSY is 0 (R360) -/
  pend : List PendRead := []
  /-- signed readings kept, the latest last (R369); width: table; reset: empty (log 4) -/
  readings : List Reading := []
  /-- a snapshot exists (R356, R360); width: 1 bit; reset: 0 -/
  snapValid : Bool := false
  /-- SNAPSHOT_MISSED count (R360); width: 16 bits; reset: 0 -/
  missed : Nat := 0
  /-- HINT_IGN count (R350, R360); width: 16 bits; reset: 0 -/
  hintIgn : Nat := 0
  /-- GLITCH count (R351, R360); width: 16 bits; reset: 0 -/
  glitch : Nat := 0
  /-- legal log, the latest last (R370); width: 8,192 records of 32 bytes; reset: empty (log 4) -/
  log : List LogRec := []
  /-- last legal log sequence number (R370, R387); width: 64 bits; reset: 0 -/
  logSeq : Nat := 0
  /-- non-legal log, the latest last (R371); width: 1,024 records of 32 bytes; reset: empty (log 4) -/
  nlog : List LogRec := []
  /-- last non-legal log sequence number (R371); width: 64 bits; reset: DESIGN CHOICE 0 (log 4) -/
  nlogSeq : Nat := 0
  /-- save slots A and B (R378); width: 2 records; reset: none (log 4) -/
  saves : Option Save × Option Save := (none, none)
  /-- time in ns of the last save of each second (R378); width: 64 bits; reset: DESIGN CHOICE 0 (log 4) -/
  savedAt : Nat := 0
  /-- temperature in 1/16 degree (R380, R387); width: 16 bits; reset: 0 -/
  temp : Int := 0
  /-- consecutive readings at or above 105 °C (R380); width: 2 bits; reset: DESIGN CHOICE 0 (log 4) -/
  hot : Nat := 0
  /-- time in ns since which it has stayed below 100 °C (R380); width: 64 bits; reset: none (log 4) -/
  cool : Option Nat := none
  /-- an HDLC link is set up on OX1, after a sign-on (R372); width: 2 bits; reset: none (log 4) -/
  ox1 : Nat := 0
  /-- time in ns of the last frame of the HDLC link (R372); width: 64 bits; reset: DESIGN CHOICE 0 (log 4) -/
  ox1At : Nat := 0
  /-- client SAPs with an association (R374, R387); width: table; reset: none, GEO_CUST.OPT_ASSOC is 0 -/
  saps : List Nat := []
  /-- consecutive failed authentications by SAP (R374); width: 3 bits each; reset: DESIGN CHOICE 0 (log 4) -/
  fails : Tbl Nat := []
  /-- time in ns until which a SAP is refused (R374); width: 64 bits each; reset: none (log 4) -/
  locked : Tbl Nat := []
  /-- the optical receiver is in FLOOD (R373, R387); width: 1 bit; reset: 0 -/
  flood : Bool := false
  /-- FLOOD declarations (R387); width: 16 bits; reset: 0 -/
  floods : Nat := 0
  /-- failed HLS authentications (R387); width: 16 bits; reset: 0 -/
  authFail : Nat := 0
  /-- events for the next link packet: code, circuit or 0xFF, TLVs (R362); width: table; reset: empty (log 4) -/
  evs : List (Nat × Nat × List OTlv) := []
  /-- readings for the next link packet (R362); width: table; reset: empty (log 4) -/
  outR : List Reading := []
  /-- READ_REQs outstanding: identifier, object, index (R363, R364); width: 8 entries; reset: empty (log 4) -/
  reqs : List (Nat × Nat × Nat) := []
  /-- frame of the last link packet (R362); width: 64 bits; reset: none (log 4) -/
  sent : Option Nat := none
  /-- sample words of the frame in progress by input (R357); width: 67 × 80 words; reset: empty (log 4) -/
  wave : Tbl (List Nat) := []
  /-- sample words of the last whole frame by input (R357); width: 67 × 80 words; reset: empty (log 4) -/
  waveDone : Tbl (List Nat) := []
  /-- the link packet on its way to the main side (R362); width: record; reset: none (the model's own field, log 19) -/
  wire : Option LinkPkt := none
  /-- the main side's copies (R360, R369, R382 to R387); width: record; reset: none received, the mirror registers read their reset values -/
  mir : Mirror := {}
deriving DecidableEq, Repr

end Sys2Proof.Machine
end

