-- ==== Sys2Proof/Machine/StLamps.lean ====
section
/-!
DEFINITION. Machine/StLamps.lean: lamp checks and all-or-none groups (R312 to R332).
-/
namespace Sys2Proof.Machine

/-- A check profile (R315). -/
structure CheckProf where
  /-- persistence P in frames -/
  p : Nat := 3
  /-- junction count N_j -/
  nj : Nat := 0
  /-- V_j in mV -/
  vj : Nat := 0
  /-- TC in µV/K -/
  tc : Int := 0
  /-- I_min in 0.1 mA -/
  imin : Nat := 20
  /-- V_short in mV -/
  vshort : Nat := 0
  /-- V_tol in mV -/
  vtol : Nat := 0
  /-- V_spread in mV -/
  vspread : Nat := 0
deriving DecidableEq, Repr

/-- State of a checked channel (R317 to R321). -/
structure LampCh where
  /-- reported class (R318) -/
  cls : Nat := 5
  /-- reported k -/
  k : Nat := 0
  /-- verdicts that count, newest first: class and k, at most 255 -/
  hist : List (Nat × Nat) := []
  /-- classes of its last 17 verdicts before R319 replaces them, newest first -/
  raw : List Nat := []
  /-- the record of the frame that is to be classified: its frame number and the record -/
  fresh : Option (Nat × LampRec) := none
  /-- the last record -/
  rec_ : Option LampRec := none
  /-- the last verdict was suspended -/
  suspended : Bool := false
  /-- frame of the last verdict other than none -/
  lastV : Option Nat := none
  /-- starts of the switch-on windows that cover it -/
  wins : List Nat := []
  /-- codes dispatched for the coming frame and for the two frames before, newest first -/
  codes : List Nat := []
  /-- its telemetry record as at the last classification beat (R328), if there was one -/
  tele : Option Bytes := none
deriving DecidableEq, Repr

/-- An all-or-none group (R322, R324). -/
structure Aon where
  /-- stratum of its members, also after the last one has left (R322) -/
  st : Nat
  /-- level of the fail state, 0 for OFF -/
  level : Nat
  /-- AON_EXTRA -/
  extra : Nat
  /-- it is latched -/
  latched : Bool := false
  /-- its fail sources are installed -/
  installed : Bool := false
deriving DecidableEq, Repr

/-- A telemetry stream (R329). -/
structure Stream where
  /-- vCtl -/
  vctl : Nat
  /-- frame of the start -/
  start : Nat
  /-- interval in frames -/
  frames : Nat
  /-- endpoints -/
  eps : List Nat
deriving DecidableEq, Repr

/-- Lamp checks and all-or-none groups. -/
structure Lamps where
  /-- check profiles 1 to 63 (R315); width: 20 bytes each; reset: none defined (log 4) -/
  profs : Tbl CheckProf := []
  /-- check profile of a handle where it is not 0 (R315); width: 6 bits each; reset: profile 0 -/
  assign : Tbl Nat := []
  /-- new assignments and definitions in use take effect at the next classification (R316); width: table; reset: empty (log 4) -/
  fresh : List Nat := []
  /-- checked channels by handle (R317 to R321); width: record each; reset: class NO_DATA, empty history (R320) -/
  chans : Tbl LampCh := []
  /-- all-or-none groups by 1,024 × vCtl + number (R322); width: table; reset: empty, STR_AON_STAT is 0 (R332) -/
  aon : Tbl Aon := []
  /-- latch numbers by the same key, never reset (R324); width: 32 bits each; reset: DESIGN CHOICE 0 (log 4) -/
  latchNo : Tbl Nat := []
  /-- telemetry streams (R329); width: table; reset: empty (log 4) -/
  streams : List Stream := []
deriving DecidableEq, Repr

end Sys2Proof.Machine
end

