-- ==== Sys2Proof/Machine/StLodestone.lean ====
section
/-!
DEFINITION. Machine/StLodestone.lean: the counter, references, the PTP instance and the timer channels (R80 to R108, R578, R579).
-/
namespace Sys2Proof.Machine

/-- States of R101. -/
inductive LdsState where
  /-- 0 -/
  | unset
  /-- 1 -/
  | freerun
  /-- 2 -/
  | locked
  /-- 3 -/
  | switch
  /-- 4 -/
  | holdover
deriving DecidableEq, Repr

/-- State of a PTP port (R91). -/
inductive PtpState where
  /-- LISTENING -/
  | listening
  /-- SLAVE -/
  | slave
  /-- MASTER -/
  | master
  /-- PASSIVE -/
  | passive
deriving DecidableEq, Repr

/-- One measurement of a phase reference (R94): with it the steering that Lodestone applied since an earlier one is known. -/
structure Obs where
  /-- target minus local time in ns -/
  off : Int
  /-- the counter as extended, in units of 2^-24 ns -/
  at_ : Nat
  /-- Lodestone ticks since the release of the main domain -/
  tick : Nat
  /-- LDS_INC in force -/
  inc : Nat
deriving DecidableEq, Repr

/-- A foreign master heard on a port (R91, IEEE 1588-2019 clause 9.3.2). -/
structure Foreign where
  /-- its latest Announce -/
  data : AnnData
  /-- frames in which its latest two Announce messages came -/
  last : Nat
  /-- frame of the one before; none while there is one -/
  prev : Option Nat
deriving DecidableEq, Repr

/-- A port of the PTP instance (R89, R91). -/
structure PtpPort where
  /-- delay mechanism: 0 end to end, 1 peer to peer -/
  mech : Nat := 0
  /-- 0 two-step, 1 one-step transmission -/
  step : Nat := 0
  /-- port state chosen by the owner: 0 BMCA, 1 MASTER, 2 SLAVE -/
  role : Nat := 0
  /-- ingress delay in ns beyond the reference plane -/
  inDelay : Int := 0
  /-- egress delay in ns beyond the reference plane -/
  egDelay : Int := 0
  /-- asymmetry in ns -/
  asym : Int := 0
  /-- logSyncInterval, -7 to 0 -/
  logSync : Int := 0
  /-- logMinDelayReqInterval and logMinPdelayReqInterval, -7 to 0 -/
  logDelay : Int := 0
  /-- logAnnounceInterval, -3 to 3 -/
  logAnn : Int := 1
  /-- announceReceiptTimeout, 2 to 10 -/
  annTmo : Nat := 3
  /-- its state -/
  st : PtpState := .listening
  /-- measurements of the last 64 Sync intervals, newest first -/
  offs : List Obs := []
  /-- foreign masters heard, newest first -/
  foreign : List Foreign := []
  /-- frame of the latest Announce of the port's master, or of the start of the port -/
  annAt : Nat := 0
  /-- a two-step Sync that waits for its Follow_Up: sequence, corrected ingress time and correction, in tenths of a ns -/
  sync : Option (Nat × Int × Int) := none
  /-- corrected ingress time of the latest Sync less its origin and correction, in tenths of a ns -/
  m2s : Option Int := none
  /-- Delay_Req or Pdelay_Req sent: sequence and corrected egress time in tenths of a ns -/
  req : Option (Nat × Int) := none
  /-- a two-step Pdelay_Resp that waits for its follow-up: sequence, request receipt time, corrected ingress time and correction, in tenths of a ns -/
  presp : Option (Nat × Int × Int × Int) := none
  /-- meanPathDelay in tenths of a ns -/
  mpd : Int := 0
  /-- sequence of the next message it sends -/
  seq : Nat := 0
  /-- messages discarded under R91 -/
  drops : Nat := 0
deriving DecidableEq, Repr

/-- A leap-second entry of UTC_TABLE (R97, R272): from this PTP second on, TAI minus UTC is `tai`. -/
structure Leap where
  /-- PTP seconds from which it holds -/
  from_ : Nat
  /-- TAI minus UTC in seconds -/
  tai : Nat
deriving DecidableEq, Repr

/-- Lodestone. -/
structure Lodestone where
  /-- Lodestone runs: the main domain is powered and out of reset (R116, R532); width: 1 bit; reset: no (R73) -/
  on : Bool := false
  /-- the counter in units of 2^-24 ns: 32 bits of ns and 24 of fraction (R80, R578); width: 56 bits; reset: 0 (R108) -/
  time : Nat := 0
  /-- Lodestone ticks since the release of the main domain (R80, R94, R101); width: counter, the model's own; reset: DESIGN CHOICE 0 (log 4) -/
  ticks : Nat := 0
  /-- ticks at the latest read of LDS_NS (R84, R85); width: counter, the model's own; reset: DESIGN CHOICE 0 (log 4) -/
  readTick : Nat := 0
  /-- LDS_INC in force (R80, R81); width: 32 bits; reset: 0x0200_0000 -/
  inc : Nat := 0x02000000
  /-- LDS_INC written and not yet in force (R81); width: 32 bits; reset: none (R108: the register reads 0x0200_0000) -/
  incNext : Option Nat := none
  /-- the LDS_INC that firmware last wrote for frequency, about which a slew moves (R81, R95); width: 32 bits; reset: 0x0200_0000 -/
  freq : Nat := 0x02000000
  /-- what is left of a slew in units of 2^-24 ns, positive forward (R95); width: signed; reset: DESIGN CHOICE 0 (log 4) -/
  slewLeft : Int := 0
  /-- the slew runs at the rate limit of R81, not at SLEW_PPB (R101); width: 1 bit; reset: DESIGN CHOICE no (log 4) -/
  slewFull : Bool := false
  /-- LDS_LOAD (R82); width: 32 bits; reset: 0 -/
  load : Nat := 0
  /-- the one offset load since reset has been used (R82); width: 1 bit; reset: no (R82) -/
  loadUsed : Bool := false
  /-- LDS_WRAP, the wrap count (R85); width: 16 bits; reset: 0 -/
  wrap : Nat := 0
  /-- the wrap count latched at the last LDS_NS read (R85); width: 16 bits; reset: 0 -/
  wrapLatch : Nat := 0
  /-- the last extended read e of firmware in ns (R84); width: 80 bits; reset: 0, DESIGN CHOICE (log 4) -/
  ext : Nat := 0
  /-- LDS_FRAME_HI latched at the last LDS_FRAME_LO read (R86); width: 32 bits; reset: 0 -/
  hiLatch : Nat := 0
  /-- LDS_STAT.STATE (R101); width: 3 bits; reset: UNSET -/
  st : LdsState := .unset
  /-- phase reference of the target in LOCKED and SWITCH (R101); width: 2 bits; reset: none (R579) -/
  target : Option Ref := none
  /-- Lodestone steers frequency to REF10_IN (R101, R579); width: 1 bit; reset: no -/
  steer10 : Bool := false
  /-- qualified references (R94, R108); width: 4 bits; reset: none -/
  qual : List Ref := []
  /-- LDS_CTL.FSYNC_SLAVE (R100, R108); width: 1 bit; reset: 0 -/
  fsyncSlave : Bool := false
  /-- LDS_CTL.TOD_BAUD (R97); width: 1 bit; reset: 0 -/
  todBaud : Bool := false
  /-- LDS_CTL.TOD_FMT: true for ZDA (R97); width: 1 bit; reset: 0 -/
  todZda : Bool := false
  /-- LDS_CTL.REF10_OUT_EN (R99); width: 1 bit; reset: 0 -/
  ref10Out : Bool := false
  /-- LDS_REF_CFG.EN_PPS (R108); width: 1 bit; reset: 1 -/
  enPps : Bool := true
  /-- LDS_REF_CFG.EN_PTP (R108); width: 1 bit; reset: 1 -/
  enPtp : Bool := true
  /-- LDS_REF_CFG.EN_REF10 (R108); width: 1 bit; reset: 1 -/
  enRef10 : Bool := true
  /-- LDS_REF_CFG.EN_FSYNC (R108); width: 1 bit; reset: 0 -/
  enFsync : Bool := false
  /-- LDS_REF_CFG.SLEW_PPB (R95, R108); width: 16 bits; reset: 8,000 -/
  slewPpb : Nat := 8000
  /-- LDS_PTP_THR.SD_NS (R108); width: 16 bits; reset: 100 -/
  sdNs : Nat := 100
  /-- LDS_ACQ.TMO_S (R108); width: 12 bits; reset: 120 -/
  tmoS : Nat := 120
  /-- measurements of valid PPS edges in a row, newest first, at most 60 (R94); width: table; reset: empty (log 4) -/
  ppsRun : List Obs := []
  /-- the PPS edge that waits for its sentence: the measurement, its off still the local time of the edge in ns (R97); width: 64 bits; reset: none (log 4) -/
  ppsWait : Option Obs := none
  /-- the local time of the latest PPS edge in ns (R94); width: 64 bits; reset: none (log 4) -/
  ppsLast : Option Nat := none
  /-- measurements of FSYNC edges in a row, newest first, at most 6,000 (R94); width: table; reset: empty (log 4) -/
  fsRun : List Obs := []
  /-- frames in a row without a usable FSYNC edge (R94, R100); width: counter; reset: 0 (log 4) -/
  fsMiss : Nat := 0
  /-- a usable FSYNC edge came in the current frame (R100); width: 1 bit; reset: no (log 4) -/
  fsSeen : Bool := false
  /-- FSYNC edges more than 50 microseconds off, counted and not used (R100); width: counter; reset: 0 (log 4) -/
  fsFar : Nat := 0
  /-- FSYNC_IN is ignored for a label conflict (R100); width: 1 bit; reset: no (log 4) -/
  fsConflict : Bool := false
  /-- last offset of the target minus local time, signed ns (R108); width: 32 bits; reset: 0 -/
  offset : Int := 0
  /-- offset measurements in a row within 50 ns of the target (R95); width: counter; reset: 0 (log 4) -/
  within : Nat := 0
  /-- LDS_HOLD: frames since entry into HOLDOVER (R108); width: counter; reset: 0 -/
  holdFrames : Nat := 0
  /-- HOLDOVER_EXPIRED has been raised (R101); width: 1 bit; reset: no (log 4) -/
  holdExpired : Bool := false
  /-- LDS_ACQ.TMO_S has expired since the release of the main domain (R101); width: 1 bit; reset: no (log 4) -/
  acqOver : Bool := false
  /-- LDS_REF_IGN (R108); width: 32 bits; reset: 0 -/
  ignored : Nat := 0
  /-- LDS_INC in force, one sample per second, newest first, at most 1,000 (R101); width: table; reset: empty (log 9) -/
  incHist : List Nat := []
  /-- the owner's TIME_SET: VALUE in ns, and the frame of its commit (R534); width: 64 bits; reset: none (log 4) -/
  timeSet : Option (Nat × Nat) := none
  /-- the last time journaled in flash in ns (R101); width: 64 bits; reset: none, DESIGN CHOICE (log 4) -/
  journaled : Option Nat := none
  /-- the time in use is untraceable (R85, R101); width: 1 bit; reset: no (log 4) -/
  untraceable : Bool := false
  /-- TAI minus UTC in seconds before the first entry of the table (R97, R272); width: 16 bits; reset: DESIGN CHOICE 37 (log 10) -/
  taiUtc : Nat := 37
  /-- leap-second table (R97, R272); width: table; reset: empty (log 10) -/
  leaps : List Leap := []
  /-- PTP domain (R91); width: 7 bits; reset: 0, the default of R91 -/
  domain : Nat := 0
  /-- ports on which PTP is enabled, by port code (R91, R140); width: table; reset: empty (log 4) -/
  ptp : Tbl PtpPort := []
  /-- channels with a pulse on PPS_OUT, each with the LDS_NS value at which it ends (R104, R106); width: 16 × 32 bits; reset: none (R98: inactive until UNSET is left) -/
  ppsOut : Tbl Nat := []
  /-- channels with a pulse on FSYNC_OUT, each with the LDS_NS value at which it ends (R104, R106); width: 16 × 32 bits; reset: none -/
  fsyncOut : Tbl Nat := []
  /-- pool channels of vCtls: vCtl and channel (R107, R171); width: table; reset: channels 6 and 7 for the owner, as its quota of first start gives them (R171) -/
  pool : List (Nat × Nat) := [(0, 6), (0, 7)]
  /-- raw stamps delivered by the next TIME_RAW_READ: vCtl, port, egress, stamp (R88, R90); width: table; reset: empty (log 4) -/
  stamps : List (Nat × Nat × Bool × Nat) := []
  /-- the latest ingress stamp of each port, by port code (R88); width: 32 bits each; reset: empty (log 4) -/
  stampIn : Tbl Nat := []
  /-- the latest egress stamp of a marked frame of each port, by port code (R88); width: 32 bits each; reset: empty (log 4) -/
  stampEg : Tbl Nat := []
  /-- marks of STAMP_MARK: vCtl, port, frames left (R88); width: table; reset: empty (log 4) -/
  marks : List (Nat × Nat × Nat) := []
deriving DecidableEq, Repr

end Sys2Proof.Machine
end

