-- ==== Sys2Proof/Machine/StPower.lean ====
section
/-!
DEFINITION. Machine/StPower.lean: feeds, power domains, carrier contacts, the seal loop and the service port UX1 (R41 to R79, R549 to R553).
-/
namespace Sys2Proof.Machine

/-- A 54 V feed (R69). -/
structure Feed where
  /-- usable: used by the module since it reached 42.5 V -/
  usable : Bool := false
  /-- its voltage in mV as last measured; 0 while it is not used -/
  mv : Nat := 0
  /-- disconnected by overvoltage protection -/
  ovp : Bool := false
  /-- frame since which it has been usable -/
  since : Nat := 0
deriving DecidableEq, Repr

/-- The carrier description in force (R54, R55). -/
structure Carrier where
  /-- fitted string cages, 256 bits -/
  strings : Nat := 2 ^ 256 - 1
  /-- fitted uplink cages, 16 bits -/
  uplinks : Nat := 0xFFFF
  /-- spine east cage fitted -/
  spineE : Bool := true
  /-- spine west cage fitted -/
  spineW : Bool := true
  /-- EMERG_A_N wired -/
  emergA : Bool := true
  /-- EMERG_B_N wired -/
  emergB : Bool := true
  /-- the record was valid -/
  valid : Bool := false
  /-- port codes whose cage did not answer; their lanes stay powered down -/
  absent : List Nat := []
deriving DecidableEq, Repr

/-- The service port UX1 (R549 to R553). -/
structure Ux1 where
  /-- a partner is attached -/
  attached : Bool := false
  /-- power role source -/
  source : Bool := false
  /-- data role DFP -/
  dfp : Bool := false
  /-- the frame in which the module last took the data role DFP -/
  dfpAt : Nat := 0
  /-- an explicit contract exists -/
  contract : Bool := false
  /-- contract voltage in mV -/
  mv : Nat := 0
  /-- contract current in mA -/
  ma : Nat := 0
  /-- a PR_Swap is under way -/
  swapping : Bool := false
  /-- the partner's source capabilities have the unconstrained power bit -/
  unconstrained : Bool := false
  /-- fixed supplies the partner offers -/
  offers : List Pdo := []
  /-- Type-C Current advertised is 3.0 A -/
  typeC3A : Bool := false
deriving DecidableEq, Repr

/-- Power and outside contacts. -/
structure Power where
  /-- feed A (R69); width: record; reset: SYS_PWR_STAT.FEED_A is 0 (R79) -/
  feedA : Feed := {}
  /-- feed B (R69); width: record; reset: SYS_PWR_STAT.FEED_B is 0 (R79) -/
  feedB : Feed := {}
  /-- input power, SYS_PWR_STAT.INPUT_W (R79); width: 16 bits; reset: 0 -/
  inputW : Nat := 0
  /-- the service domain has its rails (R36); width: 1 bit; reset: off, as before the first usable feed (R73) -/
  service : Bool := false
  /-- the main domain has its rails (R36); width: 1 bit; reset: off (R73) -/
  main : Bool := false
  /-- the service domain is powered from UX1, SYS_PWR_STAT.UX1_PWR (R79); width: 1 bit; reset: 0 -/
  fromUx1 : Bool := false
  /-- both domains are held in reset by CARRIER_RST_N (R50); width: 1 bit; reset: DESIGN CHOICE not held (log 4) -/
  held : Bool := false
  /-- no new flash program operation may start (R72, R562); width: 1 bit; reset: DESIGN CHOICE allowed (log 4) -/
  noFlash : Bool := false
  /-- EMERG_A_N asserted (R49, R79); width: 1 bit; reset: 0 -/
  emergA : Bool := false
  /-- EMERG_B_N asserted (R49, R79); width: 1 bit; reset: 0 -/
  emergB : Bool := false
  /-- reported class of KX1 (R67, R79); width: 2 bits; reset: CLOSED -/
  loop : LoopClass := .closed
  /-- the class that the latest samples of KX1 agree on, and how many in a row, up to 80 (R67); width: 2 and 7 bits; reset: DESIGN CHOICE CLOSED, 0 (log 4) -/
  loopRun : LoopClass × Nat := (.closed, 0)
  /-- KX1 resistance in units of 10 ohm (R79); width: 16 bits; reset: 0 -/
  loopOhm : Nat := 0
  /-- levels on the GPIO contacts (R79); width: 16 bits; reset: 0 -/
  gpioIn : Nat := 0
  /-- the carrier description in force (R54, R55); width: record; reset: every cage fitted and not valid, CARRIER_ID_OK is 0 (R79) -/
  carrier : Carrier := {}
  /-- UX1 (R549, R555); width: record; reset: detached, SVC_UX1 is 0 -/
  ux1 : Ux1 := {}
deriving DecidableEq, Repr

end Sys2Proof.Machine
end

