-- ==== Sys2Proof/Machine/StQuarry.lean ====
section
/-!
DEFINITION. Machine/StQuarry.lean: tenant VLANs, egress queues, the shared buffer, raw FIFOs, the DMA engine and HBM workspaces (R409 to R444).
-/
namespace Sys2Proof.Machine

/-- A learned address (R425): its port and the frame of the latest frame from it. -/
structure Mac where
  /-- port code -/
  port : Nat
  /-- frame -/
  last : Nat
deriving DecidableEq, Repr

/-- A tenant VLAN: a bridge domain of one vCtl (R423 to R425). -/
structure Domain where
  /-- endpoint members, by handle -/
  eps : List Nat := []
  /-- uplink members -/
  uplinks : List Nat := []
  /-- learned addresses, at most 64 -/
  macs : Tbl Mac := []
  /-- frame of the latest LEARN_FULL -/
  fullEv : Option Nat := none
  /-- frames dropped since the latest TRAFFIC_DROP, and its frame -/
  drops : Nat := 0
  /-- frame of the latest TRAFFIC_DROP -/
  dropEv : Option Nat := none
deriving DecidableEq, Repr

/-- Queue settings of a vCtl (R426, R430). -/
structure TrafficCfg where
  /-- tenant class of PCP 0 to 7 -/
  pcp : List Nat := [0, 0, 1, 1, 2, 3, 4, 4]
  /-- percent of A by tenant class, 100 where none is listed -/
  limit : Tbl Nat := []
  /-- rate cap in Mbit/s by tenant class -/
  peak : Tbl Nat := []
deriving DecidableEq, Repr

/-- A frame stored once in the buffer (R417, R422). -/
structure Stored where
  /-- the frame -/
  frame : EthFrame
  /-- its vCtl -/
  vctl : Nat
  /-- cells -/
  cells : Nat
  /-- copies not yet dequeued -/
  refs : Nat
  /-- ingress stamp in ns -/
  stamp : Nat
  /-- ingress port -/
  port : Nat
deriving DecidableEq, Repr

/-- A copy of a stored frame on an egress port. -/
structure QCopy where
  /-- number of the stored frame -/
  id : Nat
  /-- vCtl -/
  vctl : Nat
  /-- tenant class 0 to 4 -/
  cls : Nat
  /-- bytes -/
  len : Nat
  /-- cells charged -/
  cells : Nat
  /-- charged to the borrowing reserve -/
  borrowed : Bool
deriving DecidableEq, Repr

/-- The virtual clock of a vCtl on a port (R413, R430). -/
structure VClock where
  /-- tag of its previous frame, in ps -/
  prev : Nat := 0
  /-- the frame at the head, its tag and its duration at the committed rate -/
  head : Option (Nat × Nat × Nat) := none
  /-- tags of the previous frames of the capped classes -/
  cls : Tbl Nat := []
  /-- tag of the head at its class's cap -/
  capTag : Nat := 0
  /-- no idle time is used before this time, in ps (R416) -/
  idle : Nat := 0
deriving DecidableEq, Repr

/-- A frame of the module's TC5 that waits on an uplink (R415). -/
structure CtlFrame where
  /-- the vCtl it goes to -/
  vctl : Nat
  /-- bytes on the wire -/
  len : Nat
  /-- its tag in ps, once it heads its vCtl's frames -/
  tag : Option Nat
  /-- the packet it carries -/
  data : Bytes
deriving DecidableEq, Repr

/-- An egress port (R413, R420). -/
structure QPort where
  /-- copies in order of arrival -/
  q : List QCopy := []
  /-- virtual clocks by vCtl -/
  vc : Tbl VClock := []
  /-- the module's TC5 on an uplink, in order of release (R415) -/
  ctl : List CtlFrame := []
  /-- tag of each vCtl's latest TC5 frame in ps (R413, R415) -/
  ctlPrev : Tbl Nat := []
  /-- residence times in tenths of a ns of two-step events, by source address × 2^16 + sequence (R92) -/
  resid : Tbl Nat := []
deriving DecidableEq, Repr

/-- A DMA descriptor (R437). -/
structure Desc where
  /-- PACED -/
  paced : Bool
  /-- request line: 0 level, 1 frame tick, 2 timer channel -/
  line : Nat
  /-- timer channel in the module's numbering -/
  timer : Nat
  /-- burst in bytes -/
  burst : Nat
  /-- source space -/
  sspace : Nat
  /-- destination space -/
  dspace : Nat
  /-- source address -/
  saddr : Nat
  /-- source line length -/
  sline : Nat
  /-- source stride -/
  sstride : Nat
  /-- source line count -/
  scount : Nat
  /-- destination address -/
  daddr : Nat
  /-- destination line length -/
  dline : Nat
  /-- destination stride -/
  dstride : Nat
  /-- destination line count -/
  dcount : Nat
  /-- AFTER: channel in the module's numbering, and the number of its FENCE that must be complete -/
  after : Option (Nat × Nat)
  /-- bytes moved -/
  moved : Nat := 0
  /-- a never-written granule was read -/
  nw : Bool := false
  /-- the FIFO was read while empty -/
  under : Bool := false
  /-- an uncorrectable error was met (R568) -/
  err : Bool := false
deriving DecidableEq, Repr

/-- What a channel runs (R437, R440, R441). -/
inductive DmaKind where
  /-- a descriptor -/
  | desc (d : Desc)
  /-- a FENCE with its number on the channel -/
  | fence (no : Nat)
  /-- an export of the workspace: offset and length -/
  | export_ (off len : Nat)
deriving DecidableEq, Repr

/-- A queued operation with its command: series, SEQ, CMDID. -/
structure DmaOp where
  /-- the command -/
  cmd : Nat × Nat × Nat
  /-- the operation -/
  kind : DmaKind
deriving DecidableEq, Repr

/-- A DMA channel with its raw FIFO (R432 to R440). -/
structure DmaCh where
  /-- the vCtl that holds it -/
  holder : Option Nat := none
  /-- queued operations, the running one first -/
  q : List DmaOp := []
  /-- words in the FIFO, oldest first -/
  fifo : List Nat := []
  /-- the last word read -/
  lastWord : Nat := 0
  /-- level in words -/
  level : Nat := 8192
  /-- UNDERRUN -/
  under : Bool := false
  /-- OVERFLOW -/
  ovf : Bool := false
  /-- LEVEL_HIT -/
  hit : Bool := false
  /-- pending requests -/
  pending : Nat := 0
  /-- REQ_OVR -/
  reqOvr : Bool := false
  /-- bursts moved, modulo 2^16 -/
  bursts : Nat := 0
  /-- descriptors completed, modulo 2^16 -/
  done : Nat := 0
  /-- fences completed, modulo 2^16 -/
  fences : Nat := 0
  /-- fences committed and completed on the channel since it was given to its holder -/
  fenceNo : Nat × Nat := (0, 0)
  /-- blocks discarded since the latest RAW_OVERFLOW, and its frame -/
  lost : Nat := 0
  /-- frame of the latest RAW_OVERFLOW -/
  overEv : Option Nat := none
  /-- requests discarded since the latest DMA_REQ_OVERRUN -/
  reqLost : Nat := 0
  /-- frame of the latest DMA_REQ_OVERRUN -/
  reqEv : Option Nat := none
deriving DecidableEq, Repr

/-- A whole block on its way to a raw FIFO (R432). -/
structure RawBlock where
  /-- vCtl -/
  vctl : Nat
  /-- air capture; otherwise a waveform -/
  air : Bool
  /-- words -/
  words : List Nat
deriving DecidableEq, Repr

/-- An uplink (R89, R443). -/
structure Uplink where
  /-- link up -/
  link : Bool := false
  /-- RS-FEC in force since the last link-up -/
  fec : Bool := false
deriving DecidableEq, Repr

/-- The bytes of HBM, in a canonical form: addresses strictly rising, no listed zero (R567). -/
abbrev Hbm := Tbl Byte

/-- Quarry, raw FIFOs and DMA. -/
structure Quarry where
  /-- tenant VLANs, by 4,096 × vCtl + VLAN ID (R423); width: table of at most 16,384; reset: empty (log 4) -/
  doms : Tbl Domain := []
  /-- queue settings by vCtl (R426, R430); width: table; reset: the default PCP map, limits of 100% (R426, R427) -/
  cfg : Tbl TrafficCfg := []
  /-- TENANT_UPLINK by vCtl: uplink mask and S-VID (R427); width: 28 bits each; reset: empty (log 4) -/
  tup : Tbl (Nat × Nat) := []
  /-- MGMT_ADDR: address, prefix length and gateway (R427); width: 264 bits; reset: none (log 4) -/
  mgmtAddr : Option (Nat × Nat × Nat) := none
  /-- uplinks (R89, R443); width: 2 bits each; reset: LINK 0 -/
  upl : Tbl Uplink := []
  /-- stored tenant frames by number (R417, R422); width: 262,144 cells; reset: empty, FREE is 262,144 (R443) -/
  store : Tbl Stored := []
  /-- next number of a stored frame; width: model's own counter; reset: DESIGN CHOICE 0 (log 4) -/
  nextId : Nat := 0
  /-- egress ports by port code (R413); width: table; reset: empty (log 4) -/
  ports : Tbl QPort := []
  /-- readers at the pointers of the 16 banks (R419, R443); width: 9 bits each; reset: 0 -/
  bankPtr : Tbl Nat := []
  /-- longest reader wait of each bank in clocks (R443); width: 9 bits each; reset: 0 -/
  bankWait : Tbl Nat := []
  /-- frame of the latest MODULE_DROP by port, and frames dropped since (R442); width: table; reset: empty (log 4) -/
  modDrop : Tbl (Nat × Nat) := []
  /-- DMA channels (R436, R444); width: 32 records; reset: channels 0 to 7 held by the owner, as its quota of first start gives them (R171, R436) -/
  dma : Tbl DmaCh := (List.range 8).map (fun n => (n, { holder := some 0 }))
  /-- DMA_REQ_OVR (R444); width: 32 bits; reset: 0 -/
  reqOvr : List Nat := []
  /-- blocks on their way to the FIFOs (R432); width: table; reset: empty (log 4) -/
  blocks : List RawBlock := []
  /-- workspace of each vCtl: the MiB of HBM that hold it, in order (R160, R171); width: table; reset: the first 64 MiB for the owner (R171), DESIGN CHOICE of place (log 23) -/
  pages : Tbl (List Nat) := [(0, List.range 64)]
  /-- bytes of HBM by absolute address (R567); width: 32 GiB; an unlisted byte reads 0; reset: empty -/
  mem : Hbm := []
deriving DecidableEq, Repr

end Sys2Proof.Machine
end

