-- ==== Sys2Proof/Machine/StSession.lean ====
section
/-!
DEFINITION. Machine/StSession.lean: DTLS handshakes, associations and event queues (R129 to R158).
-/
namespace Sys2Proof.Machine

/-- What the server name of a ClientHello names (R131, R537). -/
inductive HelloName where
  /-- a vCtl number -/
  | vctl (v : Nat)
  /-- a service credential index -/
  | service (i : Nat)
  /-- any other name, or none -/
  | missing
deriving DecidableEq, Repr

/-- What the module selects of a ClientHello (R130). -/
structure Selected where
  /-- cipher suite -/
  suite : Nat
  /-- key exchange group -/
  group : Nat
  /-- the client's connection identifier and the module's own of 8 bytes, where the client offers them -/
  cid : Option (Bytes × Bytes)
deriving DecidableEq, Repr

/-- A handshake in progress (R132 to R134). -/
structure Handshake where
  /-- the name of the ClientHello (R131) -/
  name : HelloName
  /-- the path of the handshake -/
  path : Path
  /-- what was selected for it (R130) -/
  sel : Selected
  /-- frame in which the ClientHello with a valid cookie arrived -/
  hello : Nat
  /-- the server flight has been sent -/
  flightSent : Bool
  /-- frame of the latest client flight -/
  lastFlight : Nat
  /-- the client's Finished has been verified, and whether the name and the client key were accepted -/
  finished : Option Bool
deriving DecidableEq, Repr

/-- Phase of an association after its handshake (R134). -/
inductive Phase where
  /-- AWAIT_OPEN: no SESSION_OPEN accepted yet -/
  | awaitOpen
  /-- OPEN -/
  | opened
deriving DecidableEq, Repr

/-- A kept reply (R137): the packet's SEQ, and its parts once the reply is released. -/
structure Kept where
  /-- SEQ of the packet -/
  seq : Nat
  /-- the parts of the released reply; none while it is owed -/
  parts : Option (List (List Reply))
  /-- VMAJ and VMIN of the released reply -/
  ver : Nat × Nat := (3, 2)
deriving DecidableEq, Repr

/-- An association (R133, R134). -/
structure Assoc where
  /-- the path it was opened on (R129) -/
  path : Path
  /-- its cipher suite, group and connection identifiers (R130) -/
  sel : Selected := ⟨0x1302, 23, none⟩
  /-- AWAIT_OPEN or OPEN -/
  phase : Phase := .awaitOpen
  /-- negotiated major (R156), 0 before SESSION_OPEN -/
  major : Nat := 0
  /-- negotiated capabilities (R157), 64 bits -/
  caps : Nat := 0
  /-- highest accepted SEQ (R137); none before the baseline -/
  high : Option Nat := none
  /-- replies of the 64 most recently accepted packets, newest first -/
  kept : List Kept := []
  /-- frame of the latest authenticated record (R134) -/
  lastRx : Nat
  /-- event packets sent on the association (R147) -/
  evSeq : Nat := 0
  /-- the largest packet received on the association (R145) -/
  maxPkt : Nat := 0
  /-- records sent under the current traffic key (R134) -/
  sent : Nat := 0
  /-- a KeyUpdate is sent and not yet acknowledged -/
  keyUpdate : Bool := false
  /-- KeyUpdate follows the replies of the next beat 0 (R514) -/
  kuDue : Bool := false
  /-- the association closes after the replies of the next beat 0 (R134, R581) -/
  closing : Bool := false
  /-- commands accepted in the current frame, for the allowance of MAINTENANCE (R116) -/
  accepted : Nat := 0
  /-- urgent packets of the current frame (R120) -/
  urgent : Nat := 0
deriving DecidableEq, Repr

/-- A queued event record and the frame in which it was last sent (R148). -/
structure QRec where
  /-- the record -/
  rec_ : EvRec
  /-- frame of its latest sending on the present association; none while it waits to be sent -/
  sent : Option Nat
  /-- it has been sent, on this association or an earlier one -/
  ever : Bool := false
deriving DecidableEq, Repr

/-- An event series and its queue (R133, R147 to R149). -/
structure EvQueue where
  /-- next ESEQ -/
  next : Nat := 1
  /-- unacknowledged records in ESEQ order, at most 4,096 -/
  recs : List QRec := []
  /-- records discarded for a full queue since EVENTS_LOST was last queued -/
  lost : Nat := 0
  /-- family mask of EVT_SUBSCRIBE, 16 bits; every family is enabled at reset -/
  mask : Nat := 0xFFFF
deriving DecidableEq, Repr

/-- Sessions: handshakes, associations, event queues. -/
structure Sessions where
  /-- handshakes in progress, keyed by a handshake number the sender of the rows chooses (R134); width: table; reset: empty (R134: CLOSED) -/
  hs : Tbl Handshake := []
  /-- frame of the latest handshake start of each name code (R133); width: 64 bits each; reset: empty, DESIGN CHOICE none started (log 4) -/
  lastHs : Tbl Nat := []
  /-- open or opening associations, keyed by vCtl number, or 0x10000 + service credential index (R133); width: table; reset: empty (R134: CLOSED) -/
  assoc : Tbl Assoc := []
  /-- event queues by the same key (R133, R147, R148); width: table; reset: empty, every family enabled (R149) -/
  evq : Tbl EvQueue := []
deriving DecidableEq, Repr

end Sys2Proof.Machine
end

