-- ==== Sys2Proof/Machine/StSlates.lean ====
section
/-!
DEFINITION. Machine/StSlates.lean: slates, light sources, step programs, groups, schedules, inrush queues and derating (R250 to R288).
-/
namespace Sys2Proof.Machine

/-- What gives a source its level (R256, R265, R266). -/
inductive Prog where
  /-- a fixed code -/
  | level (code : Nat)
  /-- a fade from `l0` to `target` over `n` compositions, `k` of which are done -/
  | fade (l0 target n k : Nat)
  /-- step table `no` at entry `idx`, in `mode`, of the start `start` -/
  | table (no idx mode start : Nat)
deriving DecidableEq, Repr

/-- A light source on an endpoint (R256). -/
structure LSrc where
  /-- rank: 0 SCHEDULE, 1 TENANT, 2 OWNER, 3 FUNCTION, 4 EMERGENCY -/
  rank : Nat
  /-- its vCtl; 0 for the EMERG input -/
  vctl : Nat
  /-- its level -/
  prog : Prog
  /-- the EMERG input's source -/
  pin : Bool := false
  /-- the schedule that set it -/
  sched : Option Nat := none
deriving DecidableEq, Repr

/-- A step table (R266). -/
structure StepTbl where
  /-- length -/
  len : Nat := 0
  /-- entries that do not read 0xFFFF -/
  entries : Tbl Nat := []
deriving DecidableEq, Repr

/-- A start of a step table (R266). -/
structure StepStart where
  /-- vCtl -/
  vctl : Nat
  /-- table number -/
  no : Nat
  /-- endpoints of the start -/
  count : Nat
  /-- endpoints on which the program has not reached its end -/
  left : List Nat
deriving DecidableEq, Repr

/-- An entry of the urgent overlay (R121, R124). -/
structure Overlay where
  /-- code -/
  code : Nat
  /-- vCtl that wrote it -/
  vctl : Nat
  /-- frame at whose swap it is cleared -/
  clear : Nat
deriving DecidableEq, Repr

/-- A schedule entry (R271). -/
inductive SEntry where
  /-- SCHED_ENTRY: type, days, seconds, level, fade frames -/
  | at_ (type days : Nat) (time : Int) (level fade : Nat)
  /-- SCHED_ENTRY_X: frame, code, fade frames, and whether it has fired -/
  | x (frame code fade : Nat) (fired : Bool)
deriving DecidableEq, Repr

/-- A schedule (R271). -/
structure Sched where
  /-- SCHED_ENABLE -/
  enabled : Bool
  /-- GROUP target -/
  group : Option Nat
  /-- EP_LIST target, as handles -/
  eps : List Nat
  /-- entries -/
  entries : List SEntry
  /-- the frame boundary for which an entry acted last; 0 for none -/
  last : Nat := 0
deriving DecidableEq, Repr

/-- A group of a vCtl (R269, R270). -/
structure Grp where
  /-- GROUP_NAME -/
  name : Bytes
  /-- primary members, by handle -/
  primary : List Nat := []
  /-- secondary members, by handle -/
  secondary : List Nat := []
deriving DecidableEq, Repr

/-- A derate profile (R279): knee temperature and points, temperatures in 1/16 degree. -/
structure DerateProf where
  /-- T0 -/
  t0 : Int
  /-- temperatures and factors -/
  pts : List (Int × Nat)
deriving DecidableEq, Repr

/-- Derating of a channel (R279, R280). -/
structure Derate where
  /-- derate profile assigned -/
  prof : Nat := 0
  /-- D_c -/
  d : Nat := 4096
  /-- latest driver temperature and the frame of its report -/
  temp : Option (Int × Nat) := none
  /-- frame of the latest DERATE_CHANGE -/
  last : Option Nat := none
deriving DecidableEq, Repr

/-- A switch-on that waits for admission (R276): circuit (64 unmapped), frame of joining, handle. -/
structure Switch where
  /-- circuit -/
  circuit : Nat
  /-- frame of joining -/
  since : Nat
  /-- handle -/
  handle : Nat
deriving DecidableEq, Repr

/-- The EMERG input's hold on the preset (R283). -/
inductive PinSt where
  /-- inactive -/
  | idle
  /-- asserted; its sources are installed -/
  | held (installed : Bool)
  /-- deasserted; its sources go at the next commit -/
  | released
  /-- its sources are gone; PRESET_ACT is cleared at the next swap -/
  | ending
deriving DecidableEq, Repr

/-- Slates and light. -/
structure Slates where
  /-- the front slate, where it differs from 0xFFFF (R250, R251); width: 16 bits for each of 524,288 handles; reset: every entry 0xFFFF -/
  front : Tbl Nat := []
  /-- the back slate, likewise (R250 to R252); width: 16 bits for each of 524,288 handles; reset: every entry 0xFFFF -/
  back : Tbl Nat := []
  /-- SLT_STAT.FRONT (R287); width: 1 bit; reset: 0 -/
  frontNo : Nat := 0
  /-- SLT_STAT.FROZEN (R287); width: 1 bit; reset: 0 -/
  frozen : Bool := false
  /-- SLT_STAT.PRESET_ACT (R287); width: 1 bit; reset: 0 -/
  presetAct : Bool := false
  /-- the EMERG input's hold (R283); width: 2 bits; reset: idle, SYS_URG_STAT.PIN_ACTIVE is 0 (R128) -/
  pin : PinSt := .idle
  /-- SLT_STAT.COMPOSED, entries written in the last frame (R287); width: 16 bits in units of 16; reset: 0 -/
  composed : Nat := 0
  /-- the urgent overlay by handle (R250, R251); width: 16 bits and a valid bit each; reset: no valid entry -/
  overlay : Tbl Overlay := []
  /-- the EMERG preset by handle: requested level and valid bit (R251, R282); width: 16 bits and a valid bit each; reset: DESIGN CHOICE empty, no lighting channel has been adopted yet (log 4) -/
  preset : Tbl (Nat × Bool) := []
  /-- active light sources by handle (R256); width: table; reset: empty (log 4) -/
  srcs : Tbl (List LSrc) := []
  /-- global factor G (R258, R287); width: 13 bits; reset: 0x1000 -/
  g : Nat := 4096
  /-- owner group factors F where they differ from 0x1000 (R258); width: 13 bits each; reset: 0x1000, DESIGN CHOICE (log 4) -/
  factors : Tbl Nat := []
  /-- ceilings where they differ from 64,000 (R285); width: 16 bits each; reset: 64,000 -/
  ceilings : Tbl Nat := []
  /-- step tables, by 16 × vCtl + number (R266); width: 4,096 entries each; reset: length 0, DESIGN CHOICE (log 4) -/
  tables : Tbl StepTbl := []
  /-- starts of step tables, by start number (R266); width: table; reset: empty (log 4) -/
  starts : Tbl StepStart := []
  /-- next start number; width: model's own counter; reset: DESIGN CHOICE 0 (log 4) -/
  nextStart : Nat := 0
  /-- groups, by 1,024 × vCtl + number (R269); width: table; reset: empty (log 4) -/
  groups : Tbl Grp := []
  /-- schedules, by 256 × vCtl + number (R271); width: table; reset: empty (log 4) -/
  scheds : Tbl Sched := []
  /-- LOCATION: latitude and longitude in 10^-6 degree (R285); width: 64 bits; reset: none set (R273) -/
  location : Option (Int × Int) := none
  /-- the latest local date that the schedules have seen begin, in days since 1970-01-01 (R273); width: 64 bits; reset: none (log 14) -/
  localDate : Option Int := none
  /-- STD_OFFSET in minutes (R285); width: 16 bits; reset: 0 -/
  stdOffset : Int := 0
  /-- DST_TABLE: PTP seconds and minutes, in ascending time (R285); width: 32 entries; reset: empty (log 4) -/
  dst : List (Nat × Int) := []
  /-- circuit of each mapped handle (R28, R285); width: 6 bits each; reset: unmapped (R29) -/
  circuits : Tbl Nat := []
  /-- phase of each circuit, 1 to 3 (R285, R287); width: 2 bits each; reset: none -/
  phases : Tbl Nat := []
  /-- N_ir of each circuit where it differs from 16 (R277, R287); width: 8 bits each; reset: 16 -/
  nir : Tbl Nat := []
  /-- switch-ons that wait, ordered by frame of joining and handle (R276); width: table; reset: empty -/
  queue : List Switch := []
  /-- turn of L1, L2, L3 (R277, R287); width: 7 bits each; reset: 0x7F -/
  turn : Nat × Nat × Nat := (0x7F, 0x7F, 0x7F)
  /-- circuits with a non-empty queue: frame since, and whether INRUSH_BACKLOG was raised (R277); width: table; reset: empty -/
  backlog : Tbl (Nat × Bool) := []
  /-- SLT_INR_CNT.ADMITTED (R287); width: 32 bits; reset: 0 -/
  admitted : Nat := 0
  /-- SLT_INR_SEL.CIRCUIT (R287); width: 7 bits; reset: 0 -/
  inrSel : Nat := 0
  /-- handles that a wake lift raised in the last frame (R263, R288); width: table; reset: empty -/
  lifted : List Nat := []
  /-- derate profiles 1 to 63 (R279); width: 20 bytes each; reset: none defined (log 4) -/
  derateProfs : Tbl DerateProf := []
  /-- derating by handle, where it differs from profile 0 and 0x1000 (R279, R280); width: record; reset: profile 0, D_c 0x1000 (R279) -/
  derate : Tbl Derate := []
deriving DecidableEq, Repr

end Sys2Proof.Machine
end

