-- ==== Sys2Proof/Machine/StSpine.lean ====
section
/-!
DEFINITION. Machine/StSpine.lean: spine links, the ring, and sweeps (R475 to R493).
-/
namespace Sys2Proof.Machine

/-- An association of a spine link (R476, R211). -/
structure SpAssoc where
  /-- LAID -/
  laid : Nat
  /-- link key, of 32 bytes -/
  key : Bytes := []
  /-- CTR of the latest message sent -/
  tx : Nat := 0
  /-- highest CTR accepted -/
  high : Nat := 0
  /-- CTRs accepted among the 64 below it -/
  seen : List Nat := []
deriving DecidableEq, Repr

/-- A spine port (R476, R478). -/
structure SpPort where
  /-- block lock -/
  lock : Bool := false
  /-- the open association -/
  assoc : Option SpAssoc := none
  /-- the one before, accepted until this frame (R212) -/
  old : Option (SpAssoc × Nat) := none
  /-- frame of the latest LINK_INIT sent -/
  init : Nat := 0
  /-- a LINK_INIT of this module awaits its answer -/
  waiting : Bool := false
  /-- the ephemeral private key and the nonce of that LINK_INIT -/
  eph : Option (Nat × Bytes) := none
  /-- LAID and link key of the LINK_RESP that awaits its LINK_CONFIRM -/
  offer : Option (Nat × Bytes) := none
  /-- the peer was refused -/
  refused : Bool := false
  /-- frame of the latest HELLO -/
  hello : Option Nat := none
  /-- up -/
  up : Bool := false
deriving DecidableEq, Repr

/-- A running ring census of the master (R479). -/
structure RingCensus where
  /-- the west pass runs -/
  west : Bool
  /-- frame of the start of the pass -/
  since : Nat
  /-- modules the east pass reached, in order: EUI-64 and management address -/
  east : List (Nat × Nat)
  /-- the east pass came back -/
  closed : Bool
deriving DecidableEq, Repr

/-- A RING_TABLE (R480): the result, and EUI-64 and management address by position. -/
structure RingTab where
  /-- result of the census -/
  result : Nat
  /-- entries of positions 0 to N - 1 -/
  mods : List (Nat × Nat)
deriving DecidableEq, Repr

/-- Stage of an open sweep (SPN_SWEEP.STATE, R493). -/
inductive SweepStage where
  /-- 0b01 waiting for T -/
  | waiting
  /-- 0b10 latching -/
  | latching
  /-- 0b11 collecting -/
  | collecting
deriving DecidableEq, Repr

/-- A sweep as its origin keeps it (R489). -/
structure SweepRes where
  /-- SWEEP_ID -/
  id : Nat
  /-- T in ns -/
  t : Nat
  /-- N of the RING_TABLE at the order's commit -/
  n : Nat
  /-- ORDER_REPLY codes by position -/
  replies : Tbl Nat := []
  /-- records by position; empty bytes for an empty record -/
  recs : Tbl Bytes := []
deriving DecidableEq, Repr

/-- The open sweep of the module (R485 to R488). -/
structure Sweep where
  /-- SWEEP_ID -/
  id : Nat
  /-- T in ns -/
  t : Nat
  /-- this module is the origin -/
  origin : Bool
  /-- stage -/
  stage : SweepStage := .waiting
  /-- the header recorded at the latch: frame, flags FREE_RUNNING and GEODE_UNREACHABLE, LDS_STAT.STATE, LDS_OFFSET -/
  latch : Option (Nat × Nat × Nat × Int) := none
  /-- the record is formed -/
  formed : Bool := false
  /-- the command of the origin: series, SEQ, CMDID -/
  cmd : Nat × Nat × Nat := (0, 0, 0)
  /-- frame in which collection began -/
  start : Nat := 0
  /-- COLLECT has been sent west -/
  west : Bool := false
  /-- frame in which collection ended -/
  ended : Option Nat := none
deriving DecidableEq, Repr

/-- The spine. -/
structure Spine where
  /-- RING, RING_SET (R479, R493); width: 7 bits; reset: not set, SPN_CFG is 0 -/
  ring : Option Nat := none
  /-- MASTER (R479, R493); width: 1 bit; reset: 0 -/
  master : Bool := false
  /-- OWNER_TAG (R491); width: 48 bytes; reset: none (log 4) -/
  tag : Option Bytes := none
  /-- the east port (R478, R493); width: record; reset: down, EAST_UP is 0 -/
  east : SpPort := {}
  /-- the west port (R478, R493); width: record; reset: down, WEST_UP is 0 -/
  west : SpPort := {}
  /-- ports up, east and west, by position, as LINK_NOTICEs report them (R478, R481); width: 64 entries; reset: empty (log 4) -/
  notices : Tbl (Bool × Bool) := []
  /-- latest LAID that the module assigned (R476); width: 32 bits; reset: DESIGN CHOICE 0 (log 87) -/
  laid : Nat := 0
  /-- frame of the latest HELLO sent (R477); width: 64 bits; reset: none (log 4) -/
  helloAt : Option Nat := none
  /-- EUI-64 of positions 1 to N - 1 in the record (R479); width: 63 entries; reset: no record (log 4) -/
  record : Option (List Nat) := none
  /-- the order of the last census of result CHANGED (R491); width: 63 entries; reset: none (log 4) -/
  changed : Option (List Nat) := none
  /-- census number (R480, R493); width: 16 bits; reset: 0 -/
  census : Nat := 0
  /-- the running census (R479); width: record; reset: none (log 4) -/
  run : Option RingCensus := none
  /-- frame of the latest census start, by which the next is due (R479); width: 64 bits; reset: none (log 4) -/
  last : Option Nat := none
  /-- the latest RING_TABLE (R480, R493); width: 64 entries; reset: none, SPN_POS is 0 -/
  table : Option RingTab := none
  /-- the master whose token was followed last: EUI-64, frame and the position it gave (R480); width: record; reset: none (log 4) -/
  token : Option (Nat × Nat × Nat) := none
  /-- entry modules by association: spine address (R482); width: table; reset: empty (log 4) -/
  entry : Tbl Nat := []
  /-- ports of relayed packets by destination position (R482); width: table; reset: empty (log 4) -/
  relayed : Tbl Nat := []
  /-- the open sweep (R485, R486, R493); width: record; reset: none, SPN_SWEEP.STATE is 0b00 -/
  sweep : Option Sweep := none
  /-- sweep identifiers already seen, newest first, at most 64 (R486); width: table; reset: empty (log 4) -/
  seen : List Nat := []
  /-- sweep records held: identifier, T and the 3,904 bytes, newest first, at most 16 (R487); width: table; reset: empty, HELD is 0 (R493) -/
  held : List (Nat × Nat × Bytes) := []
  /-- sweeps of this origin, newest first, at most 16 (R489); width: table; reset: empty (log 4) -/
  results : List SweepRes := []
deriving DecidableEq, Repr

end Sys2Proof.Machine
end

