-- ==== Sys2Proof/Machine/StStrings.lean ====
section
/-!
DEFINITION. Machine/StStrings.lean: string ports, censuses, pole nodes, associations, credits and the group key (R188 to R225).
-/
namespace Sys2Proof.Machine

/-- Pairing of a pole node (R209). -/
inductive PairSt where
  /-- not started -/
  | none
  /-- PAIR_INIT sent in frame `since`, try number `tries` -/
  | waiting (since tries : Nat)
  /-- POLE_AUTH_FAIL, at frame `since` -/
  | failed (since : Nat)
  /-- a pairwise key is stored -/
  | paired
deriving DecidableEq, Repr

/-- A message held for credits (R215): class, cost, kind, arguments and body. -/
structure Held where
  /-- credit class -/
  cls : Nat
  /-- credits it costs -/
  cost : Nat
  /-- message -/
  kind : Msg
  /-- its arguments -/
  args : List Nat
  /-- its body -/
  body : Bytes
deriving DecidableEq, Repr

/-- Keys of one association: its two AIDs, its two keys and its two counters with the replay window (R210, R211). -/
structure PoleKeys where
  /-- AID of the module-to-pole direction -/
  aidTx : Nat
  /-- AID of the pole-to-module direction -/
  aidRx : Nat
  /-- CTR of the last message sent -/
  ctrTx : Nat
  /-- key of the module-to-pole direction, 32 bytes; empty until its ASSOC_INIT has its salt -/
  keyTx : Bytes := []
  /-- key of the pole-to-module direction, 32 bytes -/
  keyRx : Bytes := []
  /-- highest CTR accepted -/
  high : Nat := 0
  /-- accepted CTRs among the 64 below the highest -/
  seen : List Nat := []
deriving DecidableEq, Repr

/-- An outstanding ASSOC_INIT (R210). -/
structure PoleInit where
  /-- the keys it would open -/
  keys : PoleKeys
  /-- frame of the latest ASSOC_INIT -/
  since : Nat
  /-- tries so far; at 3 without answer it waits 100 frames -/
  tries : Nat
  /-- frame until which the latest ASSOC_INIT awaits its answer -/
  wait : Nat := 0
  /-- ASSOC_CLOSED with NO_ANSWER has been raised -/
  gaveUp : Bool := false
deriving DecidableEq, Repr

/-- A pole node of a string's record, by position (R200 to R223). -/
structure Pole where
  /-- its latest census report -/
  rep : PoleReport
  /-- adopted at its position; otherwise PENDING (R204) -/
  adopted : Bool := true
  /-- reached by the last census -/
  reached : Bool := true
  /-- its firmware is not on the list of the main image (R192) -/
  unknownFw : Bool := false
  /-- pairing -/
  pair : PairSt := .none
  /-- the module's ephemeral private key and nonce of the latest PAIR_INIT (R209) -/
  pairEph : Option (Nat × Bytes) := none
  /-- the open association -/
  assoc : Option PoleKeys := none
  /-- an association start that is outstanding -/
  init : Option PoleInit := none
  /-- keys of the previous association, and the frame in which they are erased (R212) -/
  old : Option (PoleKeys × Nat) := none
  /-- available credits of classes 0 to 3 (R215) -/
  credits : List Nat := [32, 32, 32, 32]
  /-- credits freed since association start, of the last CREDIT, modulo 2^16 (R216) -/
  freed : List Nat := [0, 0, 0, 0]
  /-- messages held for credits, in order -/
  held : List Held := []
  /-- frame from which a class has had traffic waiting and no available credit, by class (R217) -/
  stall : Tbl Nat := []
  /-- frame of the last CREDIT_QUERY for a class that is still stalled, by class (R217) -/
  queried : Tbl Nat := []
  /-- what ENDPOINT_STATE last told of it: 0 reachable, 1 unreachable (R224) -/
  told : Nat := 0
  /-- epoch of the group key it holds -/
  group : Option Nat := none
  /-- dispatch value last sent, by slot (R109, R284) -/
  sent : Tbl Nat := []
  /-- the next FRAME message is a full refresh (R223) -/
  full : Bool := true
  /-- FRAME messages in a row that were unsent when the tick came (R118) -/
  behind : Nat := 0
  /-- slots whose deltas those messages held -/
  owed : List Nat := []
  /-- EUI-64 found at a PENDING position -/
  found : Option PoleReport := none
deriving DecidableEq, Repr

/-- Role of a port (R22, R23). -/
inductive PortRole where
  /-- open string -/
  | single
  /-- lower port of a loop with `peer` -/
  | lower (peer : Nat)
  /-- higher port of a loop with `peer` -/
  | higher (peer : Nat)
deriving DecidableEq, Repr

/-- A running census of a string (R201, R203): its number, the pass, the reports by hop. -/
structure Census where
  /-- census number -/
  number : Nat
  /-- the higher pass runs -/
  higherPass : Bool
  /-- frame of the latest report, or of the start -/
  last : Nat
  /-- reports of the lower pass by hop -/
  lower : Tbl PoleReport
  /-- reports of the higher pass by hop -/
  higher : Tbl PoleReport
  /-- the loop is closed -/
  closed : Bool
  /-- a report with HOP 65 -/
  far : Bool
deriving DecidableEq, Repr

/-- Rate choice of a port under AUTO (R189). -/
inductive RateTry where
  /-- no link is sought -/
  | off
  /-- trying rate 1 (MSL 4) or 2 (MSL 3) -/
  | trying (rate : Nat)
  /-- locked; the first census may call for one further census at the other rate -/
  | locked
  /-- running the further census at the other rate; the reach and the rate of the first -/
  | second (firstReach firstRate : Nat)
  /-- the rate holds -/
  | settled
deriving DecidableEq, Repr

/-- A string port and, for an open string or a lower port, its string. -/
structure Grain where
  /-- GRN_LINK.RATE: 0 no link, 1 MSL 4, 2 MSL 3 -/
  rate : Nat := 0
  /-- GRN_LINK.RATE_CFG: 0 AUTO, 1 MSL 4 only, 2 MSL 3 only -/
  rateCfg : Nat := 0
  /-- GRN_LINK.FEC: RS-FEC at the next MSL 4 link-up -/
  fec : Bool := false
  /-- RATE_CFG and FEC as the owner's SEGMENT_CONFIG set them, restored at a restart (R576) -/
  cfg : Nat × Bool := (0, false)
  /-- RS-FEC in use since the last MSL 4 link-up -/
  fecOn : Bool := false
  /-- search for the rate (R189) -/
  try_ : RateTry := .off
  /-- beat, counted from frame 0, in which the present try began (R189) -/
  trySince : Nat := 0
  /-- GRN_LINK.ROLE and PEER -/
  role : PortRole := .single
  /-- GRN_LINK.FOLDED -/
  folded : Bool := false
  /-- the last position that a folded loop serves from its lower port: a of the census that folded it, or what a port that lost link since left
  (R203, R205) -/
  foldA : Nat := 0
  /-- pole nodes that the last census of result CHANGED found beyond the record, by position: PENDING (R204) -/
  beyond : Tbl PoleReport := []
  /-- the record: pole nodes by position (R200) -/
  record : Tbl Pole := []
  /-- a running census -/
  census : Option Census := none
  /-- the frame of a trigger that waits for the next beat 0 (R200) -/
  trigger : Option Nat := none
  /-- frame from which the next census may start after an abort (R206) -/
  waitUntil : Option Nat := none
  /-- GRN_CENSUS_CNT.NUMBER -/
  number : Nat := 0
  /-- GRN_CENSUS_CNT.ABORTS -/
  aborts : Nat := 0
  /-- CENSUS_UNSTABLE has been raised since the last census that was not aborted -/
  unstable : Bool := false
  /-- GRN_CENSUS.RESULT -/
  result : Nat := 0
  /-- GRN_CENSUS.REACH_A -/
  reachA : Nat := 0
  /-- GRN_CENSUS.REACH_B -/
  reachB : Nat := 0
  /-- AUTO_REPLACE (R204) -/
  autoReplace : Bool := true
  /-- the order of the last census that CENSUS_ACCEPT may adopt -/
  candidate : Option (Tbl PoleReport) := none
  /-- epoch of the group key (R214) -/
  gEpoch : Nat := 0
  /-- counter of the group key -/
  gCtr : Nat := 0
  /-- AID of the group key -/
  gAid : Nat := 0
  /-- the group key; empty before the first -/
  gKey : Bytes := []
  /-- frame in which TIME_SYNC was last due (R221) -/
  syncAt : Option Nat := none
  /-- ports whose TIME_SYNC waits for class 1 credits (R215, R221) -/
  syncHeld : List Nat := []
deriving DecidableEq, Repr

/-- Strings. -/
structure Strings where
  /-- the string ports, by number (R34, R188 to R225); width: 256 entries; reset: every port without link, as R225 gives -/
  grains : Tbl Grain := []
  /-- pole-maker CA digests of POLE_ANCHOR (R208); width: 48 bytes each, at most 16; reset: empty (log 4) -/
  anchors : List Bytes := []
  /-- pairwise keys by EUI-64: the plain contents of the blobs of class POLE_PAIR, bound to vCtl 0 and wrapped under the measurements of
  `Flint.modGens` (R209, R505); width: 256 bits each; reset: empty (log 4) -/
  pairs : Tbl Bytes := []
  /-- next AID the grains assign (R210); width: 32 bits; reset: DESIGN CHOICE 1 (log 6) -/
  nextAid : Nat := 1
  /-- beat, counted from frame 0, in which the ports were last powered (R189); width: 64 bits; reset: 0 (log 4) -/
  since : Nat := 0
deriving DecidableEq, Repr

end Sys2Proof.Machine
end

