-- ==== Sys2Proof/Machine/StTenancy.lean ====
section
/-!
DEFINITION. Machine/StTenancy.lean: virtual controllers, their rights, quotas, tokens and leases (R159 to R187).
-/
namespace Sys2Proof.Machine

/-- The quotas of a vCtl (R171). -/
structure Quotas where
  /-- token refill R' per period -/
  refill : Nat := 0
  /-- log2 of the period P in frames -/
  logP : Nat := 0
  /-- token burst B -/
  burst : Nat := 0
  /-- bridge tags per string -/
  tags : Nat := 0
  /-- HBM workspace in MiB -/
  workspace : Nat := 0
  /-- key slots -/
  keySlots : Nat := 0
  /-- groups -/
  groups : Nat := 0
  /-- schedules -/
  schedules : Nat := 0
  /-- pool timer channels -/
  timers : Nat := 0
  /-- DMA channels -/
  dmaCh : Nat := 0
  /-- VLANs -/
  vlans : Nat := 0
  /-- committed traffic rate in Mbit/s -/
  rate : Nat := 0
  /-- air dwell share in parts per 1,000 -/
  dwell : Nat := 0
  /-- air enrolments -/
  airEp : Nat := 0
  /-- idle-share borrowing -/
  borrow : Nat := 0
deriving DecidableEq, Repr

/-- One local number of a tenant's view (R164, R165). -/
inductive LocalEp where
  /-- the endpoint of this handle -/
  | live (handle : Nat)
  /-- void; the ESEQ of its EP_MAP_CHANGED, none when that event was never queued or was discarded -/
  | void (eseq : Option Nat)
deriving DecidableEq, Repr

/-- Life cycle of an existing vCtl (R162). -/
inductive VState where
  /-- ACTIVE -/
  | active
  /-- REMOVING, since the commit of frame `since` -/
  | removing (since : Nat)
deriving DecidableEq, Repr

/-- A virtual controller that exists (R159 to R162). -/
structure VCtl where
  /-- ACTIVE or REMOVING -/
  st : VState := .active
  /-- its quotas -/
  q : Quotas := {}
  /-- committed traffic rate in force: a lower one waits for the beat 0 after its commit (R172, R577) -/
  rateNow : Nat := 0
  /-- air dwell share in force, likewise -/
  dwellNow : Nat := 0
  /-- phase of its turn frames (R173) -/
  phase : Nat := 0
  /-- token bucket T_v (R173) -/
  tokens : Nat := 0
  /-- units spent in the current frame (R174) -/
  spent : Nat := 0
  /-- allowance S_v of the current frame (R115, R174) -/
  allow : Nat := 0
  /-- TOKENS_EXHAUSTED refusals (SYS_VCTL_REFUSE), saturating at 32 bits -/
  refused : Nat := 0
  /-- module-wide rights as in MOD_RIGHTS (R168), 7 bits -/
  modRights : Nat := 0
  /-- circuit mask (R168), 64 bits -/
  circuits : Nat := 0
  /-- endpoint rights by handle as in EP_RIGHTS (R168), 5 bits; the owner's are implicit -/
  rights : Tbl Nat := []
  /-- asset labels by handle (R166), 64 bits -/
  labels : Tbl Nat := []
  /-- local numbers #0, #1, … (R164); unused for the owner -/
  view : List LocalEp := []
  /-- register windows: first byte and length (R185, R582) -/
  windows : List (Nat × Nat) := []
  /-- registered client public key (R131, R581) -/
  clientKey : Option Bytes := none
  /-- certificate registered by VCTL_CERT (R499) -/
  cert : Option Bytes := none
deriving DecidableEq, Repr

/-- A LIGHT lease (R175 to R177). -/
structure Lease where
  /-- the vCtl that holds it -/
  holder : Nat
  /-- frame at whose commit it expires; none when it does not -/
  expires : Option Nat
deriving DecidableEq, Repr

/-- Quotas of the owner at first start (R171). -/
def ownerQuotas : Quotas :=
  { refill := 200, logP := 0, burst := 400, tags := 64, workspace := 64, keySlots := 64, groups := 1024, schedules := 256,
    timers := 2, dmaCh := 8, vlans := 256, rate := 1000, dwell := 100, airEp := 262144, borrow := 0 }

/-- Tenant defaults (R171). -/
def tenantQuotas : Quotas :=
  { refill := 20, logP := 0, burst := 40, tags := 16, workspace := 4, keySlots := 8, groups := 64, schedules := 16,
    timers := 0, dmaCh := 0, vlans := 4, rate := 100, dwell := 0, airEp := 0, borrow := 0 }

/-- Tenancy. -/
structure Tenancy where
  /-- the vCtls that exist (R159, R162); width: table; reset: vCtl 0 with the owner's quotas, vCtl 1 with METER_READ on 64 circuits and quotas 0 (R167, R171) -/
  vctls : Tbl VCtl := [(0, { q := ownerQuotas, rateNow := 1000, dwellNow := 100, modRights := 0x7F, circuits := 2 ^ 64 - 1 }),
    (1, { modRights := 2, circuits := 2 ^ 64 - 1 })]
  /-- incarnation counts by vCtl number (R161); width: 32 bits each; reset: DESIGN CHOICE 0 where none is listed (log 4) -/
  incarn : Tbl Nat := []
  /-- LIGHT leases by handle (R175); width: table; reset: empty, no lease is held (log 4) -/
  leases : Tbl Lease := []
  /-- SYS_VCTL_SEL.VCTL (R187); width: 12 bits; reset: 0 -/
  sel : Nat := 0
  /-- SYS_TOK_LOAD.PHASE_SEL (R187); width: 4 bits; reset: 0 -/
  phaseSel : Nat := 0
deriving DecidableEq, Repr

end Sys2Proof.Machine
end

