-- ==== Sys2Proof/Machine/StThermal.lean ====
section
/-!
DEFINITION. Machine/StThermal.lean: sensors, the throttle ladder, shutdown, and the health of HBM (R556 to R571).
-/
namespace Sys2Proof.Machine

/-- Heat and HBM health. -/
structure Thermal where
  /-- last sample of each sensor in 1/16 degrees C (R556, R570); width: 24 entries of 16 bits; reset: 0 -/
  temp : Tbl Int := []
  /-- highest sample of each sensor since reset (R570); width: 24 entries of 16 bits; reset: 0 -/
  tmax : Tbl Int := []
  /-- T_f of the last beat 64 (R557, R570); width: 16 bits; reset: 0 -/
  tf : Int := 0
  /-- the die sensor that gave T_f (R570); width: 5 bits; reset: 0 -/
  hottest : Nat := 0
  /-- steps engaged (R558, R570); width: 2 bits; reset: 0 -/
  step : Nat := 0
  /-- the step count that takes force at the next beat 0 (R559); width: 2 bits; reset: none (log 4) -/
  next : Option Nat := none
  /-- frame of the latest change of step (R559); width: 64 bits; reset: none (log 4) -/
  changed : Option Nat := none
  /-- consecutive frames with T_f at most 90 degrees C (R559); width: counter; reset: 0 (log 4) -/
  cool : Nat := 0
  /-- ports whose lane is idled under step 2, by port code (R560); width: 274 bits; reset: none (log 4) -/
  idled : List Nat := []
  /-- ports that a probe has powered up since step 2 engaged, by port code (R560); width: 274 bits; reset: none (log 4) -/
  woken : List Nat := []
  /-- frame of the latest probe of an idled port, by port code (R560); width: 274 entries; reset: empty (log 4) -/
  probes : Tbl Nat := []
  /-- frame of the latest decision of the ladder (R557, R559); width: 64 bits; reset: none (log 4) -/
  judged : Option Nat := none
  /-- die warning in force (R561, R570); width: 1 bit; reset: 0 -/
  warn : Bool := false
  /-- HBM stacks at doubled refresh (R561, R570); width: 2 bits; reset: 0 -/
  hot : List Nat := []
  /-- HBM stacks whose warning has been raised and not re-armed (R561); width: 2 bits; reset: none (log 4) -/
  hbmWarned : List Nat := []
  /-- THM_LAST.TEMP (R570); width: 16 bits; reset: 0 -/
  lastTemp : Int := 0
  /-- THM_LAST.SENSOR (R570); width: 5 bits; reset: 0 -/
  lastSensor : Nat := 0
  /-- THM_LAST.HARD (R570); width: 1 bit; reset: 0 -/
  lastHard : Bool := false
  /-- frames of the automatic restarts of the last hour (R564, R570); width: table; reset: empty, RESTARTS is 0 -/
  restarts : List Nat := []
  /-- no automatic restart is left after the third one of an hour (R564); width: 1 bit; reset: no (log 4) -/
  barred : Bool := false
  /-- the power controller holds both domains off after a thermal stop (R562, R563); width: 1 bit; reset: no (log 4) -/
  off : Bool := false
  /-- frames counted by the power controller, by which the hour of R564 is measured; width: 64 bits; reset: 0 (log 4) -/
  pcFrames : Nat := 0
  /-- written granules of HBM by granule number (R567); width: 8,388,608 bits; reset: none set -/
  written : List Nat := []
  /-- HBM words with an uncorrectable error, by byte address (R568); width: table; reset: empty (log 4) -/
  bad : List Nat := []
  /-- frame of the latest HBM_ECC event with CODE 0 (R568); width: 64 bits; reset: none (log 4) -/
  lastCe : Option Nat := none
deriving DecidableEq, Repr

end Sys2Proof.Machine
end

