-- ==== Sys2Proof/Machine/StWakes.lean ====
section
/-!
DEFINITION. Machine/StWakes.lean: road graphs, tracks, tails and the handoff of wakes (R289 to R311).
-/
namespace Sys2Proof.Machine

/-- An edge of a road graph (R289). -/
structure Edge where
  /-- FROM, a node key -/
  a : Nat
  /-- TO, a node key -/
  b : Nat
  /-- LENGTH in dm -/
  len : Nat
  /-- FWD -/
  fwd : Bool
  /-- REV -/
  rev : Bool
deriving DecidableEq, Repr

/-- A traversal: stratum of the edge, its index, and whether it is taken from TO to FROM (R289). -/
structure Trav where
  /-- stratum -/
  st : Nat
  /-- edge index -/
  ix : Nat
  /-- REV -/
  rev : Bool
deriving DecidableEq, Repr

/-- The graph of a stratum (R289, R290). -/
structure Graph where
  /-- edges of the active graph -/
  edges : List Edge := []
  /-- the staged copy: 8-byte records by index -/
  staged : Tbl Bytes := []
  /-- active graph commits, modulo 256 -/
  gen : Nat := 0
deriving DecidableEq, Repr

/-- A wake class (R296). -/
structure WClass where
  /-- enabled -/
  on : Bool
  /-- level -/
  level : Nat
  /-- lead time F in frames -/
  lead : Nat
deriving DecidableEq, Repr

/-- A border entry (R292). -/
structure Border where
  /-- partner border number -/
  partner : Nat
  /-- the neighbour's spine address -/
  addr : Nat
  /-- node key of the entry pole -/
  entry : Nat
deriving DecidableEq, Repr

/-- A track (R297). -/
structure Track where
  /-- user class -/
  cls : Nat
  /-- speed v in dm/s -/
  v : Nat
  /-- the traversal, none while it stands -/
  trav : Option Trav
  /-- offset x in mm; past a border, mm past it -/
  x : Nat
  /-- start node of the traversal, or the node it stands at; a border key once it has crossed -/
  node : Nat
  /-- the traversal by which it came to the node it stands at -/
  arr : Option Trav := none
  /-- border by which it was claimed, while it stands at the entry pole -/
  via : Option Nat := none
  /-- TIME of the last confirmation -/
  confirm : Nat
  /-- frame of the last confirmation -/
  frame : Nat
  /-- owning stratum -/
  st : Nat
deriving DecidableEq, Repr

/-- A spill (R301): where it goes on, what remains of the look-ahead in mm, user class, and the track that gave it. -/
structure Spill where
  /-- node or border key -/
  into : Nat
  /-- remaining mm -/
  rem : Nat
  /-- user class -/
  cls : Nat
  /-- v of the track in dm/s (R305) -/
  v : Nat
  /-- the track: its number, or 2^32 × (1 + border) + the neighbour's number -/
  own : Nat
  /-- stratum that produced it; 16 for one that came over a border -/
  st : Nat
  /-- border by which it came, if any -/
  via : Option Nat := none
deriving DecidableEq, Repr

/-- A running tail of a node (R302). -/
structure Tail where
  /-- user class -/
  cls : Nat
  /-- entry -/
  k : Nat
deriving DecidableEq, Repr

/-- A track record that awaits its answer (R306): border, track number, epoch. -/
structure SentTrack where
  /-- border -/
  border : Nat
  /-- track -/
  track : Nat
  /-- EPOCH -/
  epoch : Nat
deriving DecidableEq, Repr

/-- Defaults of the wake classes (R296). -/
def defClass (k : Nat) : WClass := ⟨true, if k = 0 then 32000 else if k = 1 then 40000 else 48000, 600⟩

/-- Wakes. -/
structure Wakes where
  /-- the graphs by stratum (R289, R310); width: 65,536 edges each; reset: empty, STR_WAKE_GRAPH is 0 -/
  graphs : Tbl Graph := []
  /-- bindings by sensor handle: traversals of direction 1 and 2 (R293); width: table; reset: empty (log 4) -/
  binds : Tbl (Option Trav × Option Trav) := []
  /-- node masks where they differ from 0xFFFE, by node key (R291); width: 16 bits each; reset: 0xFFFE -/
  masks : Tbl Nat := []
  /-- wake classes where they differ from the defaults (R296); width: 8 records; reset: the defaults of R296 -/
  classes : Tbl WClass := []
  /-- tails written by WAKE_TAIL (R302); width: 256 codes each; reset: none, the default tables of R302 -/
  tails : Tbl (List Nat) := []
  /-- speeds of classes 1 to 15 in dm/s (R296); width: 15 entries; reset: the defaults of R296 -/
  speeds : List Nat := [12, 20, 40, 60, 80, 100, 120, 140, 170, 200, 230, 260, 300, 350, 420]
  /-- the border table (R292); width: 16 entries; reset: empty (log 4) -/
  borders : Tbl Border := []
  /-- node key by attached air handle (R291, R311); width: 16,384 entries; reset: empty, ATTACHED is 0 -/
  attach : Tbl Nat := []
  /-- tracks by number (R297, R311); width: 16,384 records; reset: empty, TRACKS is 0 -/
  tracks : Tbl Track := []
  /-- next track number (R298); width: 32 bits; reset: DESIGN CHOICE 0 (log 33) -/
  next : Nat := 0
  /-- records received and not yet evaluated: sensor handle and record (R295); width: table; reset: empty (log 4) -/
  recs : List (Nat × DetRec) := []
  /-- nodes each track has lifted in this frame, by track, with its user class (R301, R302); width: table; reset: empty (log 4) -/
  cur : Tbl (Nat × List Nat) := []
  /-- the same of the last frame (R297); width: table; reset: empty (log 4) -/
  prev : Tbl (Nat × List Nat) := []
  /-- running tails by node key (R302); width: table; reset: empty (log 4) -/
  running : Tbl Tail := []
  /-- lifts of the last frame by node key (R302); width: 16 bits each; reset: empty, LIFTED is 0 (R310) -/
  lifts : Tbl Nat := []
  /-- spills that await the epoch (R303); width: table; reset: empty (log 4) -/
  spills : List Spill := []
  /-- spills that continue in the next first phase (R303); width: table; reset: empty (log 4) -/
  later : List Spill := []
  /-- wake records received: own border number, sender's address is the entry's (R306); width: table; reset: empty (log 4) -/
  inbox : List WakeRec := []
  /-- track records that await an answer (R306); width: table; reset: empty (log 4) -/
  sent : List SentTrack := []
  /-- claims and refusals to send at the epoch (R306); width: table; reset: empty (log 4) -/
  answers : List WakeRec := []
  /-- records evaluated in the last frame, by stratum (R310); width: 8 bits each; reset: 0 -/
  taken : Tbl Nat := []
  /-- records discarded, by stratum (R310); width: 16 bits each, saturating; reset: 0 -/
  dropped : Tbl Nat := []
  /-- records discarded since the latest WAKE_EVENTS_DROPPED, and its frame (R309); width: table; reset: empty (log 4) -/
  dropEv : Tbl (Nat × Option Nat) := []
  /-- tracks not created or received and not yet told of in a TRACKS_FULL, by stratum (R297, R309); width: table; reset: empty (log 4) -/
  fullEv : Tbl Nat := []
  /-- frame of the latest TRACKS_FULL (R297); width: 64 bits; reset: none (log 4) -/
  fullAt : Option Nat := none
  /-- track records lost since the latest WAKE_HANDOFF_LOST of each border, and its frame (R306, R309); width: table; reset: empty (log 4) -/
  lostEv : Tbl (Nat × Option Nat) := []
  /-- SLT_WAKE_BORDER.SENT and LOST (R311); width: 16 bits each; reset: 0 -/
  borderCnt : Nat × Nat := (0, 0)
  /-- SLT_WAKE_CLAIM.CLAIMED and REFUSED (R311); width: 16 bits each; reset: 0 -/
  claimCnt : Nat × Nat := (0, 0)
deriving DecidableEq, Repr

end Sys2Proof.Machine
end

