-- ==== Sys2Proof/Machine/State.lean ====
section
/-!
DEFINITION. Machine/State.lean: the whole state of the block, and the state after reset.
-/
namespace Sys2Proof.Machine

/-- The state of the block. -/
structure State where
  /-- the commands that wait, first in, first out; width: list; reset: empty (the model's own field, log 1) -/
  pending : List Instr := []
  /-- what the block sent in the latest step; width: list; reset: empty (the model's own field, log 2) -/
  out : List Out := []
  /-- how many free values have been used; width: a counter; reset: DESIGN CHOICE 0 (the model's own field, log 3) -/
  free : Nat := 0
  /-- stored register words by byte address, where they differ from the reset word; width: 32 bits each; reset: empty, so every stored field reads its reset value (R14) -/
  regs : Tbl Nat := []
  /-- power, connectors, UX1 (R41 to R79, R549 to R554) -/
  pw : Power := {}
  /-- network time, references, timers (R80 to R108) -/
  lds : Lodestone := {}
  /-- the frame (R109 to R128) -/
  frm : FrameSt := {}
  /-- handshakes, associations, event queues (R129 to R158) -/
  ses : Sessions := {}
  /-- virtual controllers (R159 to R187) -/
  ten : Tenancy := {}
  /-- strings and pole nodes (R188 to R226) -/
  strs : Strings := {}
  /-- the endpoint bridge (R227 to R250) -/
  brg : Bridge := {}
  /-- slates and light (R251 to R288) -/
  slt : Slates := {}
  /-- traffic wakes (R289 to R311) -/
  wak : Wakes := {}
  /-- lamp checks and all-or-none groups (R312 to R332) -/
  lmp : Lamps := {}
  /-- the Geode, with its mirror on the main side (R333 to R388) -/
  geo : Geode := {}
  /-- attribution (R389 to R408) -/
  att : Attrib := {}
  /-- fabric, queues, DMA, HBM workspaces (R409 to R444) -/
  qry : Quarry := {}
  /-- the air unit (R445 to R474) -/
  air : Air := {}
  /-- the spine (R475 to R493) -/
  spn : Spine := {}
  /-- keys (R494 to R522) -/
  flt : Flint := {}
  /-- start, images, service port (R523 to R555, R578, R579) -/
  boot : Boot := {}
  /-- heat and HBM health (R556 to R571) -/
  thm : Thermal := {}
deriving DecidableEq, Repr

/-- Why a step stops with a fault. -/
inductive Fault where
  /-- Raised by no command: every command of the block has a next state. The type is closed with this one name, which is safe, because a fault
  would only stop a run. -/
  | none
deriving DecidableEq, Repr

/-- Why a command is refused by the model. -/
inductive Refusal where
  /-- The command `mnemonic` has no meaning yet. Raised by an arm of exec only; safe, because the model then says nothing of it. -/
  | notModelled (mnemonic : String)
deriving DecidableEq, Repr

/-- The outcome of a command. -/
abbrev Outcome := Host.Outcome State Fault Refusal

/-- The block right after reset: nothing is powered, every field at the value of its docstring. -/
def State.reset : State := {}

end Sys2Proof.Machine
end

