-- ==== Sys2Proof/Machine/Ops.lean ====
section
/-!
DEFINITION. Machine/Ops.lean: the named operations over sparse tables, byte strings, stored registers, free values, events and messages.
-/
namespace Sys2Proof.Machine

/-! ### Sparse tables -/

/-- The entry of key `k`. -/
def tget {α : Type} : Tbl α → Nat → Option α
  | [], _ => none
  | (j, v) :: r, k => if j = k then some v else tget r k

/-- The entry of key `k`, or `d`. -/
def tgetD {α : Type} (t : Tbl α) (k : Nat) (d : α) : α := (tget t k).getD d

/-- Set the entry of key `k`, keys kept rising. -/
def tset {α : Type} : Tbl α → Nat → α → Tbl α
  | [], k, v => [(k, v)]
  | (j, w) :: r, k, v => if k < j then (k, v) :: (j, w) :: r else if j = k then (k, v) :: r else (j, w) :: tset r k v

/-- Remove the entry of key `k`. -/
def terase {α : Type} (t : Tbl α) (k : Nat) : Tbl α := t.filter (fun e => e.1 != k)

/-- Set the entry of key `k` unless `v` is what an unlisted key reads as. -/
def tput {α : Type} [DecidableEq α] (d : α) (t : Tbl α) (k : Nat) (v : α) : Tbl α :=
  if v = d then terase t k else tset t k v

/-- Change the entry of key `k` where there is one. -/
def tmod {α : Type} (t : Tbl α) (k : Nat) (f : α → α) : Tbl α := t.map (fun e => if e.1 = k then (e.1, f e.2) else e)

/-- Change the entry of key `k`, starting from `d` where there is none. -/
def tupd {α : Type} (t : Tbl α) (k : Nat) (d : α) (f : α → α) : Tbl α := tset t k (f (tgetD t k d))

/-- Change every entry. -/
def tmap {α β : Type} (t : Tbl α) (f : Nat → α → β) : Tbl β := t.map (fun e => (e.1, f e.1 e.2))

/-- Keep the entries that satisfy `p`. -/
def tkeep {α : Type} (t : Tbl α) (p : Nat → α → Bool) : Tbl α := t.filter (fun e => p e.1 e.2)

/-- The canonical form: keys strictly rising. -/
def twf {α : Type} : Tbl α → Bool
  | [] => true
  | [_] => true
  | (j, _) :: (k, w) :: r => decide (j < k) && twf ((k, w) :: r)

/-- The canonical form of a memory: keys strictly rising, and no entry equal to what an unlisted key reads as. -/
def tcanon {α : Type} [DecidableEq α] (d : α) (t : Tbl α) : Bool := twf t && t.all (fun e => decide (e.2 ≠ d))

/-! ### Byte strings -/

/-- The number a byte string spells, most significant byte first (R5). -/
def beNat (b : Bytes) : Nat := b.foldl (fun a x => a * 256 + x.toNat) 0

/-- The `n` bytes of a number, most significant byte first (R5). -/
def beBytes : Nat → Nat → Bytes
  | 0, _ => []
  | n + 1, v => byte (v / 256 ^ n) :: beBytes n v

/-- The signed number a byte string spells in two's complement. -/
def beInt (b : Bytes) : Int :=
  if 2 * beNat b ≥ 256 ^ b.length then (beNat b : Int) - 256 ^ b.length else beNat b

/-- The `n` bytes of a signed number in two's complement. -/
def beIntBytes (n : Nat) (v : Int) : Bytes := beBytes n (v % (256 ^ n)).toNat

/-- Cut a byte string into pieces of `n` bytes, with fuel. -/
def chunksAux : Nat → Nat → Bytes → List Bytes
  | 0, _, _ => []
  | f + 1, n, b => if b.isEmpty then [] else b.take n :: chunksAux f n (b.drop n)

/-- Cut a byte string into pieces of `n` bytes. -/
def chunks (n : Nat) (b : Bytes) : List Bytes := chunksAux b.length n b

/-- The numbers of a list of `n`-byte entries. -/
def beNats (n : Nat) (b : Bytes) : List Nat := (chunks n b).map beNat

/-- Bit `k` of a number. -/
def bit (v k : Nat) : Bool := v / 2 ^ k % 2 == 1

/-- A number with bit `k` set. -/
def setBit (v k : Nat) : Nat := if bit v k then v else v + 2 ^ k

/-- A number with bit `k` cleared. -/
def clrBit (v k : Nat) : Nat := if bit v k then v - 2 ^ k else v

/-- 1 for true. -/
def b2n (b : Bool) : Nat := if b then 1 else 0

/-- The bytes of a bitmap of `n` bytes whose listed bits are set: bit k is bit k mod 8 of byte k / 8 (R140). -/
def bitmapBytes (n : Nat) (bits : List Nat) : Bytes :=
  (List.range n).map (fun i => byte ((List.range 8).foldl (fun a j => a + (if bits.contains (8 * i + j) then 2 ^ j else 0)) 0))

/-- The bits set in a bitmap (R140). -/
def bitmapBits (b : Bytes) : List Nat :=
  (List.range (8 * b.length)).filter (fun k => bit ((b.getD (k / 8) 0).toNat) (k % 8))

/-- Saturating sum: the counter stays at `2^w - 1`. -/
def satAdd (w v n : Nat) : Nat := min (v + n) (2 ^ w - 1)

/-- Insert a number into a rising list, once. -/
def insNat (n : Nat) : List Nat → List Nat
  | [] => [n]
  | x :: r => if n < x then n :: x :: r else if n = x then x :: r else x :: insNat n r

/-- The numbers of a list in rising order, each once. -/
def sortNat (l : List Nat) : List Nat := l.foldl (fun a n => insNat n a) []

/-- Ceiling of a quotient; 0 for a zero divisor. -/
def cdiv (a b : Nat) : Nat := (a + b - 1) / b

/-- Truncation of a quotient toward zero (R7). -/
def tdiv (a b : Int) : Int := Int.tdiv a b

/-- The largest number of a list, or `d`. -/
def maxOf (d : Nat) (l : List Nat) : Nat := l.foldl max d

/-! ### Stored registers -/

/-- A stored register word; an unlisted word reads `d`, the reset word of the register. -/
def State.regD (s : State) (a d : Nat) : Nat := tgetD s.regs a d

/-- A stored register word whose reset word is 0. -/
def State.reg (s : State) (a : Nat) : Nat := s.regD a 0

/-- Store a register word. -/
def State.setReg (s : State) (a v : Nat) : State := { s with regs := tset s.regs a (v % 2 ^ 32) }

/-- Field [lo + w - 1 : lo] of a word. -/
def fieldOf (v lo w : Nat) : Nat := v / 2 ^ lo % 2 ^ w

/-- A word with its field [lo + w - 1 : lo] replaced. -/
def withField (v lo w x : Nat) : Nat := v - fieldOf v lo w * 2 ^ lo + x % 2 ^ w * 2 ^ lo

/-- Set a field of a stored register whose reset word is 0. -/
def State.setField (s : State) (a lo w x : Nat) : State := s.setReg a (withField (s.reg a) lo w x)

/-- Set one bit of a stored register: a hardware event of a W1C field (R15). -/
def State.setFlag (s : State) (a k : Nat) : State := s.setReg a (setBit (s.reg a) k)

/-- Count `n` in a saturating field of a stored register. -/
def State.count (s : State) (a lo w : Nat) (n : Nat := 1) : State :=
  s.setField a lo w (satAdd w (fieldOf (s.reg a) lo w) n)

/-! ### Outputs, free values -/

/-- Send something to the outside. -/
def State.emit (s : State) (o : Out) : State := { s with out := s.out ++ [o] }

/-- Send a message. -/
def State.send (s : State) (k : Msg) (dst : Nat := 0) (args : List Nat := []) (data : Bytes := []) : State :=
  s.emit (.msg k dst args data)

/-- A message of type `ty` to the Geode on the narrow path: its content (R363). -/
def State.toGeode (s : State) (ty : Nat) (content : Bytes) : State := s.send .narrow ty [] content

/-- The content of a SNAPSHOT message: T in ns, and its source, 0 a timer channel, 1 a sweep (R352, R363). -/
def snapContent (t src : Nat) : Bytes := beBytes 8 t ++ [byte src, 0, 0, 0]

/-- Use one free value: its counter, and the state with the counter advanced (log 3). -/
def State.fresh (s : State) : Nat × State := (Config.freeNat s.free, { s with free := s.free + 1 })

/-- The form of every meaning: the outputs of the latest step are dropped, and the effect is applied to everything but the queue (log 1, 2). -/
def done (s : State) (f : State → State) : Outcome := .next { f { s with out := [] } with pending := s.pending }

/-- An event whose guard does not hold has no effect and leaves the state unchanged (R18). -/
def guardS (p : Bool) (f : State → State) (s : State) : State := if p then f s else s

/-! ### Virtual controllers -/

/-- The vCtl of a number, where it exists. -/
def State.vctl? (s : State) (v : Nat) : Option VCtl := tget s.ten.vctls v

/-- Change a vCtl. -/
def State.modVctl (s : State) (v : Nat) (f : VCtl → VCtl) : State :=
  { s with ten := { s.ten with vctls := tmod s.ten.vctls v f } }

/-- The vCtl is ACTIVE. -/
def State.active (s : State) (v : Nat) : Bool :=
  match s.vctl? v with
  | some c => c.st == .active
  | none => false

/-- The endpoint rights of a vCtl on a handle: the owner holds all five (R168). -/
def State.epRights (s : State) (v h : Nat) : Nat :=
  if v = 0 then 31 else match s.vctl? v with
    | some c => tgetD c.rights h 0
    | none => 0

/-- The vCtl holds endpoint right `k` (0 VIEW, 1 LIGHT, 2 CONFIG, 3 RAW, 4 EVENT) on the handle (R168). -/
def State.hasEp (s : State) (v h k : Nat) : Bool := bit (s.epRights v h) k

/-- The vCtl holds module-wide right `k` (0 EMERGENCY, 1 METER_READ, 2 METER_RAW, 3 AIR, 4 TRAFFIC, 5 TIME_RAW, 6 DMA) (R168). -/
def State.hasMod (s : State) (v k : Nat) : Bool :=
  v == 0 || match s.vctl? v with
    | some c => bit c.modRights k
    | none => false

/-- The handles of a tenant's view. -/
def viewHandles (view : List LocalEp) : List Nat :=
  view.filterMap (fun e => match e with | .live h => some h | .void _ => none)

/-- The local number of a handle in a vCtl's view; the owner's is the handle (R160). -/
def State.localOf (s : State) (v h : Nat) : Option Nat :=
  if v = 0 then some h else match s.vctl? v with
    | none => none
    | some c => c.view.findIdx? (fun e => e == .live h)

/-- The vCtls that view a handle, the owner first, in ascending order. -/
def State.viewers (s : State) (h : Nat) : List Nat :=
  (s.ten.vctls.filter (fun e => e.1 == 0 || bit (tgetD e.2.rights h 0) 0)).map (·.1)

/-! ### Events -/

/-- Whether the mask of a queue enables an event code; RESULT and EVENTS_LOST always are (R149). -/
def evEnabled (q : EvQueue) (code : Nat) : Bool := code == 1 || code == 2 || bit q.mask (code / 256)

/-- Queue an event record for a series: a disabled family queues nothing (R149), and a full queue counts it as lost (R148). -/
def queueEv (q : EvQueue) (code frame : Nat) (tlvs : List OTlv) : EvQueue :=
  if !evEnabled q code then q
  else if q.recs.length ≥ 4096 then { q with lost := q.lost + 1 }
  else { q with next := q.next + 1, recs := q.recs ++ [{ rec_ := ⟨code, q.next, frame, tlvs⟩, sent := none }] }

/-- Raise an event to the series of a key: a vCtl, or 0x10000 plus a service credential index (R133). -/
def State.raise (s : State) (key code : Nat) (tlvs : List OTlv) : State :=
  { s with ses := { s.ses with evq := tset s.ses.evq key (queueEv (tgetD s.ses.evq key {}) code s.frm.now tlvs) } }

/-- Raise an event to the owner. -/
def State.owner (s : State) (code : Nat) (tlvs : List OTlv := []) : State := s.raise 0 code tlvs

/-- Raise an event to every vCtl that holds right `k` on the handle, the owner first; `mk` builds its TLVs from its local number. -/
def State.raiseEp (s : State) (h k code : Nat) (mk : Nat → List OTlv) : State :=
  s.ten.vctls.foldl (fun s e =>
    if s.hasEp e.1 h k then match s.localOf e.1 h with
      | some l => s.raise e.1 code (mk l)
      | none => s
    else s) s

/-- The event series of an association. -/
def evKey : AssocKey → Nat
  | .vctl v => v
  | .svc i => 0x10000 + i

/-- The vCtl an association acts for (R133). -/
def actsFor : AssocKey → Nat
  | .vctl v => v
  | .svc _ => 0

/-- The key of an association in the table. -/
def assocIx (k : AssocKey) : Nat := evKey k

/-! TLVs of the common identities (R140). -/

/-- EP_LIST. -/
def tEp (l : List Nat) : OTlv := (0x0001, l.flatMap (beBytes 4))
/-- GROUP. -/
def tGroup (g : Nat) : OTlv := (0x0002, beBytes 2 g)
/-- LEVEL. -/
def tLevel (c : Nat) : OTlv := (0x0003, beBytes 2 c)
/-- DATA. -/
def tData (b : Bytes) : OTlv := (0x0009, b)
/-- DETAIL: identity and index of what is refused. -/
def tDetail (id ix : Nat) : OTlv := (0x000A, beBytes 2 id ++ beBytes 2 ix)
/-- PORT. -/
def tPort (p : Nat) : OTlv := (0x000B, beBytes 2 p)
/-- VALUE. -/
def tValue (v : Int) : OTlv := (0x000C, beIntBytes 8 v)
/-- CODE. -/
def tCode (c : Nat) : OTlv := (0x000D, [byte c])
/-- FRAME. -/
def tFrame (f : Nat) : OTlv := (0x000E, beBytes 8 f)
/-- COUNT. -/
def tCount (n : Nat) : OTlv := (0x000F, beBytes 4 n)
/-- BITMAP. -/
def tBitmap (b : Bytes) : OTlv := (0x0010, b)
/-- ADDRESS. -/
def tAddress (a : Nat) : OTlv := (0x0011, beBytes 4 a)
/-- STATUS. -/
def tStatus (c : Nat) : OTlv := (0x0012, beBytes 2 c)
/-- CMD_REF: SEQ, CMDID and 16 reserved bits. -/
def tCmdRef (seq cmdid : Nat) : OTlv := (0x0008, beBytes 4 seq ++ beBytes 2 cmdid ++ [0, 0])

/-- The RESULT event of an earlier command (R146): to its series, with CMD_REF, STATUS and the result TLVs. -/
def State.result (s : State) (key seq cmdid status : Nat) (tlvs : List OTlv := []) : State :=
  s.raise key 0x0001 ([tCmdRef seq cmdid, tStatus status] ++ tlvs)

end Sys2Proof.Machine
end

