-- ==== Sys2Proof/Machine/Hbm.lean ====
section
/-!
DEFINITION. Machine/Hbm.lean: HBM and the workspaces (R160, R171, R567, R568).
-/
namespace Sys2Proof.Machine

/-- Bytes of HBM. -/
def hbmSize : Nat := 2 ^ 35

/-- The canonical form of HBM: addresses strictly rising and inside HBM, no listed zero (R567). -/
def Hbm.wf (m : Hbm) : Bool := tcanon 0 m && m.all (fun e => decide (e.1 < hbmSize))

/-- The byte at an address; an unlisted one reads 0. -/
def Hbm.read (m : Hbm) (a : Nat) : Byte := tgetD m a 0

/-- The bytes with one written. -/
def Hbm.write (m : Hbm) (a : Nat) (b : Byte) : Hbm := if a < hbmSize then tput 0 m a b else m

/-- Granule of an address (R567). -/
def granule (a : Nat) : Nat := a / 4096

/-- A granule has been written since the reset (R567). -/
def State.isWritten (s : State) (a : Nat) : Bool := s.thm.written.contains (granule a)

/-- The 32-byte word of an address carries an uncorrectable error; a never-written granule is read without an ECC check (R567, R568). -/
def State.isBad (s : State) (a : Nat) : Bool := s.isWritten a && s.thm.bad.contains (a / 32 * 32)

/-- The words that a write of one byte writes again: its own, and every other one of a granule that was never written, whose bytes get zeros
(R567, R568). -/
def State.rewritten (s : State) (a w : Nat) : Bool := w == a / 32 * 32 || (!s.isWritten a && granule w == granule a)

/-- Write one byte: its granule counts as written, and its words as written again (R567, R568). -/
def State.hbmWrite (s : State) (a : Nat) (b : Byte) : State :=
  { s with
    qry := { s.qry with mem := s.qry.mem.write a b },
    thm := { s.thm with written := insNat (granule a) s.thm.written, bad := s.thm.bad.filter (fun w => !s.rewritten a w) } }

/-- Mark a MiB of HBM as never written: it reads zeros (R163, R567). -/
def State.unwriteMib (s : State) (p : Nat) : State :=
  { s with
    qry := { s.qry with mem := s.qry.mem.filter (fun e => e.1 / 2 ^ 20 != p) },
    thm := { s.thm with written := s.thm.written.filter (fun g => g / 256 != p) } }

/-- Workspace of a vCtl, as the MiB of HBM that hold it. -/
def State.pages (s : State) (v : Nat) : List Nat := tgetD s.qry.pages v []

/-- HBM address of a workspace address (R160). -/
def State.wsAddr (s : State) (v a : Nat) : Nat := (s.pages v).getD (a / 2 ^ 20) 0 * 2 ^ 20 + a % 2 ^ 20

/-- The `n` lowest MiB that no workspace holds, below 24,576 MiB (R171, log 23). -/
def State.freeMib (s : State) (n : Nat) : List Nat :=
  ((List.range 24576).filter (fun p => !s.qry.pages.any (fun e => e.2.contains p))).take n

/-- Give a vCtl a workspace of `n` MiB: it keeps its first ones, and what it loses is never-written (log 23). -/
def setWorkspace (v n : Nat) (s : State) : State :=
  let old := s.pages v
  let s := (old.drop n).foldl (fun s p => s.unwriteMib p) s
  let new := old.take n ++ s.freeMib (n - old.length)
  { s with qry := { s.qry with pages := tput [] s.qry.pages v new } }

/-- Written granules of a workspace (R441). -/
def State.wsWritten (s : State) (v : Nat) : Nat := (s.thm.written.filter (fun g => (s.pages v).contains (g / 256))).length

end Sys2Proof.Machine
end

