-- ==== Sys2Proof/Machine/Flags.lean ====
section
/-!
DEFINITION. Machine/Flags.lean: the status codes (R155), the reply flags (R144) and the addresses of the registers that hold flags and counters.
-/
namespace Sys2Proof.Machine

/-! ### Status codes (R155) -/
/-- OK: accepted -/
def stOk : Nat := 0x0000
/-- BAD_MAGIC: MAGIC is not 0x5A43 -/
def stBadMagic : Nat := 0x0101
/-- BAD_LENGTH: LEN or CLEN inconsistent (R136, R138) -/
def stBadLength : Nat := 0x0102
/-- VERSION_UNSUPPORTED: no common major, or VMAJ differs from the negotiated one -/
def stVersionUnsupported : Nat := 0x0103
/-- SEQ_OLD: SEQ not accepted (R137), or sequence space exhausted (R134) -/
def stSeqOld : Nat := 0x0104
/-- UNKNOWN_OPCODE: opcode not in R153 -/
def stUnknownOpcode : Nat := 0x0105
/-- TLV_MALFORMED: TLV overrun, non-zero padding or repeated type -/
def stTlvMalformed : Nat := 0x0106
/-- TLV_MUST_UNDERSTAND: undefined TLV with must-understand set -/
def stTlvMustUnderstand : Nat := 0x0107
/-- TLV_MISSING: required TLV absent -/
def stTlvMissing : Nat := 0x0108
/-- PARAM_RANGE: value outside its range; DETAIL names it -/
def stParamRange : Nat := 0x0109
/-- VCTL_MISMATCH: VCTL differs from the association's vCtl -/
def stVctlMismatch : Nat := 0x010A
/-- FEATURE_NOT_NEGOTIATED: opcode or TLV needs a version or capability not negotiated -/
def stFeatureNotNegotiated : Nat := 0x010B
/-- CHAIN_SKIPPED: CHAIN set and the previous command was refused -/
def stChainSkipped : Nat := 0x010C
/-- REPLY_TOO_LARGE: reply entry did not fit (R145) -/
def stReplyTooLarge : Nat := 0x010D
/-- SESSION_NOT_OPEN: command before SESSION_OPEN -/
def stSessionNotOpen : Nat := 0x010E
/-- RIGHT_MISSING: the vCtl lacks the right, or the address is outside its window -/
def stRightMissing : Nat := 0x0201
/-- TOKENS_EXHAUSTED: cost exceeds the tokens or the frame allowance (R115) -/
def stTokensExhausted : Nat := 0x0202
/-- QUOTA_EXCEEDED: a pool is exhausted: workspace, key slots, groups, schedules -/
def stQuotaExceeded : Nat := 0x0203
/-- TAGS_EXHAUSTED: the vCtl's bridge tags on the string are in use -/
def stTagsExhausted : Nat := 0x0204
/-- OWNER_ONLY: owner function from another vCtl -/
def stOwnerOnly : Nat := 0x0205
/-- SERVICE_LINK_ONLY: 0xF0xx on another path -/
def stServiceLinkOnly : Nat := 0x0206
/-- CONFLICT_LOST: lost an equal-rank conflict at commit -/
def stConflictLost : Nat := 0x0301
/-- LEASE_BUSY: LIGHT lease held or taken by another in the same frame -/
def stLeaseBusy : Nat := 0x0302
/-- SWEEP_BUSY: a sweep is open -/
def stSweepBusy : Nat := 0x0303
/-- LEASE_NOT_HELD: level command without the LIGHT lease -/
def stLeaseNotHeld : Nat := 0x0304
/-- CONFIG_REFUSED: configuration breaks a placement rule, such as R22 or an all-or-none group across strata; names a vCtl in the wrong state (R162, R169); or enables a port that the carrier description marks absent (R55) -/
def stConfigRefused : Nat := 0x0305
/-- ENDPOINT_UNKNOWN: local number or handle not present -/
def stEndpointUnknown : Nat := 0x0401
/-- ENDPOINT_UNREACHABLE: string without link, or pole node not enumerated -/
def stEndpointUnreachable : Nat := 0x0402
/-- BRIDGE_TIMEOUT: read or non-posted write timed out -/
def stBridgeTimeout : Nat := 0x0403
/-- SEM_BUSY: semaphore held, and the request chose refusal -/
def stSemBusy : Nat := 0x0404
/-- SEM_BROKEN: lease expired; semaphore broken -/
def stSemBroken : Nat := 0x0405
/-- SEM_NOT_HELD: access or release without the semaphore -/
def stSemNotHeld : Nat := 0x0406
/-- ENDPOINT_ERROR: the endpoint reported an error -/
def stEndpointError : Nat := 0x0407
/-- FRAME_SERVICE_ACTIVE: time set after entry into frame service (R83) -/
def stFrameServiceActive : Nat := 0x0501
/-- TIME_PASSED: compare or sweep time already passed -/
def stTimePassed : Nat := 0x0502
/-- NO_TIMER_CHANNEL: no pool channel free (R107) -/
def stNoTimerChannel : Nat := 0x0503
/-- KEY_SLOT_BAD: slot failed its integrity check -/
def stKeySlotBad : Nat := 0x0601
/-- BLOB_NOT_BOUND: blob not bound to the vCtl -/
def stBlobNotBound : Nat := 0x0602
/-- COUNTER_EXHAUSTED: subkey counter reached its limit -/
def stCounterExhausted : Nat := 0x0603
/-- NOT_VALID: no snapshot or reading exists yet -/
def stNotValid : Nat := 0x0701
/-- METER_SUSPENDED: the Geode is suspended or updating -/
def stMeterSuspended : Nat := 0x0702
/-- GEODE_UNREACHABLE: no data from the Geode over the one-way path -/
def stGeodeUnreachable : Nat := 0x0703
/-- IMAGE_SIGNATURE: signature or countersignature invalid -/
def stImageSignature : Nat := 0x0801
/-- IMAGE_ROLLBACK: security version below the fuses -/
def stImageRollback : Nat := 0x0802
/-- MANIFEST_UNCOVERED: image pair not approved -/
def stManifestUncovered : Nat := 0x0803
/-- UPDATE_IN_PROGRESS: another update runs -/
def stUpdateInProgress : Nat := 0x0804
/-- INTERNAL_ERROR: internal fault; the command had no effect -/
def stInternalError : Nat := 0x0F01
/-- MAINTENANCE_ONLY: module in MAINTENANCE; the function is unavailable -/
def stMaintenanceOnly : Nat := 0x0F02

/-! ### Reply flags (R144) -/

/-- PENDING. -/
def rfPending : Nat := 1
/-- TLV_IGNORED. -/
def rfIgnored : Nat := 2
/-- URGENT_DEFERRED. -/
def rfDeferred : Nat := 4
/-- NEVER_WRITTEN. -/
def rfNeverWritten : Nat := 8
/-- LOCKED_FIELD. -/
def rfLocked : Nat := 16
/-- NOT_FOR_BILLING. -/
def rfNotBilling : Nat := 32
/-- FREE_RUNNING. -/
def rfFreeRunning : Nat := 64

end Sys2Proof.Machine
end

