-- ==== Sys2Proof/Machine/Level.lean ====
section
/-!
DEFINITION. Machine/Level.lean: the service level (R523), the capacity (R113), network time, and where a handle leads (R198, R199).
-/
namespace Sys2Proof.Machine

/-- One unit of the counter: 2^24 per nanosecond (R80). -/
def ldsUnit : Nat := 2 ^ 24

/-- LDS_NS: the integer nanoseconds of the counter (R80). -/
def Lodestone.nsReg (l : Lodestone) : Nat := l.time / ldsUnit % 2 ^ 32

/-- Extend a 32-bit value against the last extended read (R84). -/
def extend (e v : Nat) : Int :=
  let d : Int := ((v : Int) - e) % 4294967296
  (e : Int) + (if d ≥ 2147483648 then d - 4294967296 else d)

/-- Network time in ns as firmware holds it: the counter extended against the last extended read (R84, R578). -/
def State.ns (s : State) : Nat := (extend s.lds.ext s.lds.nsReg).toNat

/-- A block of R524 is out of service. -/
def State.blockOut (s : State) : Bool :=
  s.boot.strataOut != 0 || s.boot.bankAOut || s.boot.bankBOut || s.boot.airOut || s.boot.uplinkOut

/-- The needs of LIGHT beyond MAINTENANCE hold, frame service apart (R523, R524). -/
def State.lightNeeds (s : State) : Bool :=
  s.pw.main && !s.boot.noSet && !(s.boot.bankAOut && s.boot.bankBOut) && s.lds.st != .unset && s.boot.strataOut != 0xFFFF && !s.boot.uplinkOut

/-- The service level as STAT1:STAT0: 0 below MAINTENANCE, 1 MAINTENANCE, 2 LIGHT with a block out, 3 full service (R51, R523). -/
def State.level (s : State) : Nat :=
  if !(s.pw.service && s.boot.maint) then 0
  else if s.lightNeeds && s.boot.inService then if s.blockOut then 2 else 3
  else 1

/-- In MAINTENANCE (R525). -/
def State.inMaint (s : State) : Bool := s.level == 1

/-- In LIGHT or full service. -/
def State.inLight (s : State) : Bool := s.level ≥ 2

/-- The module is unclaimed: no owner key is registered (R536). -/
def State.unclaimed (s : State) : Bool :=
  match s.vctl? 0 with
  | some c => c.clientKey.isNone
  | none => true

/-- Capacity C of a frame in the present state of the banks and the core clock (R113). -/
def State.capacity (s : State) : Nat :=
  if !s.inLight then 0
  else
    let perBank := if s.thm.step ≥ 1 then 1500 else 2000
    perBank * (b2n (!s.boot.bankAOut) + b2n (!s.boot.bankBOut))

/-- Minor version the module sets for a major (R156). -/
def minorOf (major : Nat) : Nat := if major = 2 then 9 else 2

/-- The manifest of the running main image (R529). -/
def State.mainManifest (s : State) : List ManEntry := ((tget s.boot.run 1).map (·.manifest)).getD []

/-- The main image approves pole-node firmware of a maker, a model and a version: an entry of kind 4 (R192, R529). -/
def State.fwApproved (s : State) (maker model fw : Nat) : Bool :=
  s.mainManifest.any (fun e => e.kind == 4 && e.lo ≤ fw && fw ≤ e.hi && e.extra == maker * 65536 + model)

/-! ### Handles (R11, R198) -/

/-- Realm of a handle. -/
def hRealm (h : Nat) : Nat := h / 2 ^ 18
/-- String number of a string-realm handle. -/
def hString (h : Nat) : Nat := h / 1024 % 256
/-- Position of a string-realm handle: pole index plus 1. -/
def hPos (h : Nat) : Nat := h / 16 % 64 + 1
/-- Slot of a string-realm handle. -/
def hSlot (h : Nat) : Nat := h % 16
/-- Air index of an air-realm handle. -/
def hAir (h : Nat) : Nat := h % 2 ^ 18
/-- The string-realm handle s/p/l of a string, a position and a slot. -/
def mkHandle (str pos slot : Nat) : Nat := str * 1024 + (pos - 1) * 16 + slot
/-- The air-realm handle a:n. -/
def mkAir (n : Nat) : Nat := 2 ^ 18 + n
/-- Stratum of a string (R34). -/
def stratumOf (str : Nat) : Nat := str / 16

/-- The grain of a port; one that never had link is at its reset state. -/
def State.grain (s : State) (g : Nat) : Grain := tgetD s.strs.grains g {}

/-- Change the grain of a port. -/
def State.modGrain (s : State) (g : Nat) (f : Grain → Grain) : State :=
  { s with strs := { s.strs with grains := tset s.strs.grains g (f (s.grain g)) } }

/-- The pole node in the record at a position of a string. -/
def State.pole? (s : State) (g p : Nat) : Option Pole := tget (s.grain g).record p

/-- Change a pole node of a record. -/
def State.modPole (s : State) (g p : Nat) (f : Pole → Pole) : State :=
  s.modGrain g (fun gr => { gr with record := tmod gr.record p f })

/-- The carrier description marks the cage of a port code as fitted (R55, R140). -/
def Carrier.fits (c : Carrier) (p : Nat) : Bool :=
  if p < 0x100 then bit c.strings p
  else if p < 0x110 then bit c.uplinks (p - 0x100)
  else if p = 0x110 then c.spineE
  else if p = 0x111 then c.spineW
  else true

/-- The carrier description marks the cage of a port code as fitted: what a command that names the port asks (R55). -/
def State.codeFitted (s : State) (p : Nat) : Bool := s.pw.carrier.fits p

/-- String port `g` is powered: its cage is fitted, and it answered (R55). -/
def State.portFitted (s : State) (g : Nat) : Bool := bit s.pw.carrier.strings g && !s.pw.carrier.absent.contains g

/-- Uplink `u` is powered: its cage is fitted, and it answered (R55). -/
def State.uplinkFitted (s : State) (u : Nat) : Bool := bit s.pw.carrier.uplinks u && !s.pw.carrier.absent.contains (0x100 + u)

/-- The stratum of a string is out of service (R524). -/
def State.stratumOut (s : State) (st : Nat) : Bool := bit s.boot.strataOut st

/-- The string of a port: an open string and a lower port serve their own, a higher port serves the lower port's (R23). -/
def State.stringOf (s : State) (port : Nat) : Nat :=
  match (s.grain port).role with
  | .higher l => l
  | _ => port

/-- A string has link: an open one while its port has, a looped one while either port has (R26). -/
def State.stringLink (s : State) (g : Nat) : Bool :=
  (s.grain g).rate != 0 || match (s.grain g).role with
    | .lower h => (s.grain h).rate != 0
    | _ => false

/-- The port through which a string is served as a whole: its own while that has link, the partner of a loop while only that has (R26, R203). -/
def State.leadPort (s : State) (g : Nat) : Nat :=
  match (s.grain g).role with
  | .lower h => if (s.grain g).rate = 0 && (s.grain h).rate != 0 then h else g
  | _ => g

/-- The one line rate of a string (R188), coded as GRN_LINK.RATE. -/
def State.stringRate (s : State) (g : Nat) : Nat := (s.grain (s.leadPort g)).rate

/-- The present beat, counted from frame 0. -/
def State.absBeat (s : State) : Nat := 80 * s.frm.now + s.frm.beat

/-- What R199, and R461, R458 and R471 for the air realm, answer for a handle that a command names: OK, or the status of the first row that
applies. -/
def State.epStatus (s : State) (h : Nat) : Nat :=
  if hRealm h ≥ 2 then stParamRange
  else if hRealm h = 1 then match tget s.air.eps (hAir h) with
    | none => stEndpointUnknown
    | some e => if e.joined && e.down < 0xFFFF0000 && (!e.vemer || s.air.vemer.isSome) then stOk else stEndpointUnreachable
  else match (s.grain (hString h)).role with
    | .higher _ => stEndpointUnknown
    | _ => match s.pole? (hString h) (hPos h) with
      | none => stEndpointUnknown
      | some p =>
        if !p.adopted && p.found.isNone then stEndpointUnknown
        else if hSlot h ≥ p.rep.slots then stEndpointUnknown
        else if !p.adopted || !p.reached || p.assoc.isNone || !s.stringLink (hString h) then stEndpointUnreachable
        else stOk

/-- Raise ENDPOINT_STATE (0x0328) to each tenant that holds EVENT on one of the handles, with its local numbers only (R224). -/
def State.endpointState (s : State) (hs : List Nat) (code : Nat) : State :=
  s.ten.vctls.foldl (fun s e =>
    if e.1 ≤ 1 then s else
      let ls := hs.filterMap (fun h => if s.hasEp e.1 h 4 then s.localOf e.1 h else none)
      if ls.isEmpty then s else s.raise e.1 0x0328 [tEp ls, tCode code]) s

/-- The handles of a pole node. -/
def poleHandles (g p : Nat) (pole : Pole) : List Nat := (List.range pole.rep.slots).map (mkHandle g p)

end Sys2Proof.Machine
end

