-- ==== Sys2Proof/Machine/Presets.lean ====
section
/-!
DEFINITION. Machine/Presets.lean: which handles are lighting channels, their ceilings, and the EMERG preset (R192, R253, R282 to R285).
-/
namespace Sys2Proof.Machine

/-- Change the slates. -/
def State.sl (s : State) (f : Slates → Slates) : State := { s with slt := f s.slt }

/-- The basic profile a slot counts as (R192). -/
def profileOf (q : Pole) (slot : Nat) : Nat := if q.unknownFw then Config.basicProfile else q.rep.profiles.getD slot 0

/-- The handle is a lighting channel (R253). -/
def State.isLamp (s : State) (h : Nat) : Bool :=
  if hRealm h = 1 then (match tget s.air.eps (hAir h) with | some e => e.lighting | none => false)
  else if hRealm h ≥ 2 then false
  else match (s.grain (hString h)).role with
    | .higher _ => false
    | _ => match s.pole? (hString h) (hPos h) with
      | some q => hSlot h ≠ 0 && hSlot h < q.rep.slots && Config.lightingClass (profileOf q (hSlot h))
      | none => false

/-- The slate entries of the handles that `keep` does not keep read 0xFFFF. -/
def keepEntries (keep : Nat → Bool) (s : State) : State :=
  s.sl (fun t => { t with front := tkeep t.front (fun h _ => keep h), back := tkeep t.back (fun h _ => keep h) })

/-- A handle of a string. -/
def onString (g h : Nat) : Bool := hRealm h == 0 && hString h == g

/-- A handle on the pole node at a position. -/
def onNode (g p h : Nat) : Bool := onString g h && hPos h == p

/-- Ceiling of a channel (R285). -/
def State.ceiling (s : State) (h : Nat) : Nat := tgetD s.slt.ceilings h 64000

/-- The preset level of a valid preset entry (R282). -/
def State.presetLevel (s : State) (h : Nat) : Option Nat :=
  match tget s.slt.preset h with
  | some (l, true) => some (min l (s.ceiling h))
  | _ => none

/-- What the overlay or the active preset supplies for a handle (R284). -/
def State.overlaid (s : State) (h : Nat) : Option Nat :=
  match (if s.slt.presetAct then s.presetLevel h else none) with
  | some l => some l
  | none => (tget s.slt.overlay h).map (·.code)

/-- A lighting channel with no journaled preset takes the default preset (R283). -/
def State.defaultPreset (s : State) (h : Nat) : State :=
  if s.isLamp h && (tget s.slt.preset h).isNone then s.sl (fun t => { t with preset := tset t.preset h (64000, true) }) else s

/-- Every lighting channel of a pole node takes the default preset where it has none (R283). -/
def presetPole (g p : Nat) (s : State) : State :=
  match s.pole? g p with
  | some q => (poleHandles g p q).foldl (fun s h => s.defaultPreset h) s
  | none => s

end Sys2Proof.Machine
end

