-- ==== Sys2Proof/Machine/RegTable.lean ====
section
/-!
DEFINITION. Machine/RegTable.lean: every register of R574 with its address, its instances, and its fields with their access types and
reset values, from the register tables of the spec.
-/
namespace Sys2Proof.Machine

/-- Access types (R15). -/
inductive Acc where
  /-- RO -/
  | ro
  /-- RW -/
  | rw
  /-- W1C -/
  | w1c
  /-- WO -/
  | wo
  /-- RWL -/
  | rwl
deriving DecidableEq, Repr

/-- A field: its lowest bit, its width, its access type, its reset value. -/
structure Fld where
  /-- lowest bit -/
  lo : Nat
  /-- width -/
  w : Nat
  /-- access type -/
  acc : Acc
  /-- reset value -/
  rst : Nat
deriving DecidableEq, Repr

/-- A register, or `count` instances of one, `stride` bytes apart. -/
structure RegDef where
  /-- name -/
  name : String
  /-- byte address of instance 0 -/
  base : Nat
  /-- instances -/
  count : Nat
  /-- bytes from one instance to the next -/
  stride : Nat
  /-- fields; every bit of no field is reserved and reads 0 (R6) -/
  fields : List Fld
deriving DecidableEq, Repr

/-! ### Addresses (R573, R574) -/

/-- SYS_PWR_STAT -/
def aSysPwrStat : Nat := 0x40
/-- SVC_CARRIER -/
def aSvcCarrier : Nat := 0x480100
/-- SVC_GPIO_DIR -/
def aSvcGpioDir : Nat := 0x480104
/-- SVC_GPIO_OUT -/
def aSvcGpioOut : Nat := 0x480108
/-- SVC_GPIO_IN -/
def aSvcGpioIn : Nat := 0x48010c
/-- SVC_KX1_STAT -/
def aSvcKx1Stat : Nat := 0x480110
/-- LDS_NS -/
def aLdsNs : Nat := 0x10000
/-- LDS_INC -/
def aLdsInc : Nat := 0x10004
/-- LDS_LOAD -/
def aLdsLoad : Nat := 0x10008
/-- LDS_CTL -/
def aLdsCtl : Nat := 0x1000c
/-- LDS_STAT -/
def aLdsStat : Nat := 0x10010
/-- LDS_FRAME_LO -/
def aLdsFrameLo : Nat := 0x10014
/-- LDS_FRAME_HI -/
def aLdsFrameHi : Nat := 0x10018
/-- LDS_BEAT -/
def aLdsBeat : Nat := 0x1001c
/-- LDS_WRAP -/
def aLdsWrap : Nat := 0x10020
/-- LDS_REF_CFG -/
def aLdsRefCfg : Nat := 0x10024
/-- LDS_PTP_THR -/
def aLdsPtpThr : Nat := 0x10028
/-- LDS_ACQ -/
def aLdsAcq : Nat := 0x1002c
/-- LDS_SX1_DLY -/
def aLdsSx1Dly : Nat := 0x10030
/-- LDS_OFFSET -/
def aLdsOffset : Nat := 0x10034
/-- LDS_HOLD -/
def aLdsHold : Nat := 0x10038
/-- LDS_REF_IGN -/
def aLdsRefIgn : Nat := 0x1003c
/-- LDS_CLK_ID_LO -/
def aLdsClkIdLo : Nat := 0x10040
/-- LDS_CLK_ID_HI -/
def aLdsClkIdHi : Nat := 0x10044
/-- LDS_TMR_CTL of instance `n` -/
def aLdsTmrCtl (n : Nat) : Nat := 0x10100 + n * 0x10
/-- LDS_TMR_CMP of instance `n` -/
def aLdsTmrCmp (n : Nat) : Nat := 0x10104 + n * 0x10
/-- LDS_TMR_PER of instance `n` -/
def aLdsTmrPer (n : Nat) : Nat := 0x10108 + n * 0x10
/-- LDS_TMR_WID of instance `n` -/
def aLdsTmrWid (n : Nat) : Nat := 0x1010c + n * 0x10
/-- SYS_FRM_CAP -/
def aSysFrmCap : Nat := 0x80
/-- SYS_FRM_OVR -/
def aSysFrmOvr : Nat := 0x84
/-- SYS_DISP_OVR -/
def aSysDispOvr : Nat := 0x88
/-- SYS_URG_STAT -/
def aSysUrgStat : Nat := 0x8c
/-- SYS_FRM_CARRY -/
def aSysFrmCarry : Nat := 0x90
/-- SYS_VCTL_SEL -/
def aSysVctlSel : Nat := 0xc0
/-- SYS_VCTL_STAT -/
def aSysVctlStat : Nat := 0xc4
/-- SYS_VCTL_SPEND -/
def aSysVctlSpend : Nat := 0xc8
/-- SYS_VCTL_REFUSE -/
def aSysVctlRefuse : Nat := 0xcc
/-- SYS_TOK_LOAD -/
def aSysTokLoad : Nat := 0xd0
/-- SYS_VCTL_COUNT -/
def aSysVctlCount : Nat := 0xd4
/-- SYS_VCTL_INC -/
def aSysVctlInc : Nat := 0xd8
/-- GRN_LINK of instance `n` -/
def aGrnLink (n : Nat) : Nat := 0x100000 + n * 0x1000
/-- GRN_CENSUS of instance `n` -/
def aGrnCensus (n : Nat) : Nat := 0x100004 + n * 0x1000
/-- GRN_CENSUS_CNT of instance `n` -/
def aGrnCensusCnt (n : Nat) : Nat := 0x100008 + n * 0x1000
/-- GRN_CREDIT of instance `n` -/
def aGrnCredit (n : Nat) : Nat := 0x10000c + n * 0x1000
/-- GRN_ASSOC of instance `n` -/
def aGrnAssoc (n : Nat) : Nat := 0x100010 + n * 0x1000
/-- GRN_STAT of instance `n` -/
def aGrnStat (n : Nat) : Nat := 0x100014 + n * 0x1000
/-- GRN_DROP of instance `n` -/
def aGrnDrop (n : Nat) : Nat := 0x100018 + n * 0x1000
/-- GRN_BR_CFG of instance `n` -/
def aGrnBrCfg (n : Nat) : Nat := 0x100040 + n * 0x1000
/-- GRN_BR_TAGS of instance `n` -/
def aGrnBrTags (n : Nat) : Nat := 0x100044 + n * 0x1000
/-- GRN_BR_SEM of instance `n` -/
def aGrnBrSem (n : Nat) : Nat := 0x100048 + n * 0x1000
/-- GRN_BR_STAT of instance `n` -/
def aGrnBrStat (n : Nat) : Nat := 0x10004c + n * 0x1000
/-- GRN_BR_CNT of instance `n` -/
def aGrnBrCnt (n : Nat) : Nat := 0x100050 + n * 0x1000
/-- GRN_BR_DROP of instance `n` -/
def aGrnBrDrop (n : Nat) : Nat := 0x100054 + n * 0x1000
/-- SLT_STAT -/
def aSltStat : Nat := 0x20000
/-- SLT_GLOBAL -/
def aSltGlobal : Nat := 0x20004
/-- SLT_URG -/
def aSltUrg : Nat := 0x20008
/-- SLT_PRESET -/
def aSltPreset : Nat := 0x2000c
/-- SLT_INR_SEL -/
def aSltInrSel : Nat := 0x20010
/-- SLT_INR_STAT -/
def aSltInrStat : Nat := 0x20014
/-- SLT_INR_TURN -/
def aSltInrTurn : Nat := 0x20018
/-- SLT_INR_CNT -/
def aSltInrCnt : Nat := 0x2001c
/-- STR_SLT_STAT of instance `n` -/
def aStrSltStat (n : Nat) : Nat := 0x200000 + n * 0x10000
/-- STR_SLT_FRAME of instance `n` -/
def aStrSltFrame (n : Nat) : Nat := 0x200004 + n * 0x10000
/-- STR_WAKE_STAT of instance `n` -/
def aStrWakeStat (n : Nat) : Nat := 0x200040 + n * 0x10000
/-- STR_WAKE_EV of instance `n` -/
def aStrWakeEv (n : Nat) : Nat := 0x200044 + n * 0x10000
/-- STR_WAKE_GRAPH of instance `n` -/
def aStrWakeGraph (n : Nat) : Nat := 0x200048 + n * 0x10000
/-- STR_WAKE_FLAGS of instance `n` -/
def aStrWakeFlags (n : Nat) : Nat := 0x20004c + n * 0x10000
/-- SLT_WAKE_TRK -/
def aSltWakeTrk : Nat := 0x20020
/-- SLT_WAKE_BORDER -/
def aSltWakeBorder : Nat := 0x20024
/-- SLT_WAKE_CLAIM -/
def aSltWakeClaim : Nat := 0x20028
/-- SLT_WAKE_AIR -/
def aSltWakeAir : Nat := 0x2002c
/-- GRN_LC_STAT of instance `n` -/
def aGrnLcStat (n : Nat) : Nat := 0x100080 + n * 0x1000
/-- GRN_LC_SUSP of instance `n` -/
def aGrnLcSusp (n : Nat) : Nat := 0x100084 + n * 0x1000
/-- GRN_LC_FLAGS of instance `n` -/
def aGrnLcFlags (n : Nat) : Nat := 0x100088 + n * 0x1000
/-- GRN_LC_CNT of instance `n` -/
def aGrnLcCnt (n : Nat) : Nat := 0x10008c + n * 0x1000
/-- STR_AON_STAT of instance `n` -/
def aStrAonStat (n : Nat) : Nat := 0x200080 + n * 0x10000
/-- STR_AON_MEMB of instance `n` -/
def aStrAonMemb (n : Nat) : Nat := 0x200084 + n * 0x10000
/-- STR_AON_FLAGS of instance `n` -/
def aStrAonFlags (n : Nat) : Nat := 0x200088 + n * 0x10000
/-- GEO_STAT -/
def aGeoStat : Nat := 0x440000
/-- GEO_FRAME -/
def aGeoFrame : Nat := 0x440004
/-- GEO_SNAP_STAT -/
def aGeoSnapStat : Nat := 0x440010
/-- GEO_CNT -/
def aGeoCnt : Nat := 0x440014
/-- GEO_PH_V of instance `n` -/
def aGeoPhV (n : Nat) : Nat := 0x440100 + n * 0x8
/-- GEO_PH_F of instance `n` -/
def aGeoPhF (n : Nat) : Nat := 0x440104 + n * 0x8
/-- GEO_PULSE of instance `n` -/
def aGeoPulse (n : Nat) : Nat := 0x440200 + n * 0x8
/-- GEO_PULSE_ST of instance `n` -/
def aGeoPulseSt (n : Nat) : Nat := 0x440204 + n * 0x8
/-- GEO_CIR_I of instance `n` -/
def aGeoCirI (n : Nat) : Nat := 0x441000 + n * 0x10
/-- GEO_CIR_P of instance `n` -/
def aGeoCirP (n : Nat) : Nat := 0x441004 + n * 0x10
/-- GEO_CIR_Q of instance `n` -/
def aGeoCirQ (n : Nat) : Nat := 0x441008 + n * 0x10
/-- GEO_CIR_H of instance `n` -/
def aGeoCirH (n : Nat) : Nat := 0x44100c + n * 0x10
/-- GEO_CUST -/
def aGeoCust : Nat := 0x440020
/-- GEO_PSET -/
def aGeoPset : Nat := 0x440024
/-- GEO_RSEQ_LO -/
def aGeoRseqLo : Nat := 0x440028
/-- GEO_RSEQ_HI -/
def aGeoRseqHi : Nat := 0x44002c
/-- GEO_LOG -/
def aGeoLog : Nat := 0x440030
/-- GEO_OPT -/
def aGeoOpt : Nat := 0x440034
/-- GEO_FW -/
def aGeoFw : Nat := 0x440038
/-- SYS_ATR_CFG -/
def aSysAtrCfg : Nat := 0x140
/-- SYS_ATR_PERIOD -/
def aSysAtrPeriod : Nat := 0x144
/-- SYS_ATR_OBS -/
def aSysAtrObs : Nat := 0x148
/-- SYS_ATR_CNT -/
def aSysAtrCnt : Nat := 0x14c
/-- SYS_ATR_FLAGS -/
def aSysAtrFlags : Nat := 0x150
/-- QRY_CELLS -/
def aQryCells : Nat := 0x300000
/-- QRY_CELLS_USE -/
def aQryCellsUse : Nat := 0x300004
/-- QRY_POOL -/
def aQryPool : Nat := 0x300008
/-- QRY_POOL_BORROW -/
def aQryPoolBorrow : Nat := 0x30000c
/-- QRY_STAT -/
def aQryStat : Nat := 0x300010
/-- QRY_DROP -/
def aQryDrop : Nat := 0x300014
/-- QRY_DROP_MOD -/
def aQryDropMod : Nat := 0x300018
/-- QRY_BANK_SEL -/
def aQryBankSel : Nat := 0x300020
/-- QRY_BANK -/
def aQryBank : Nat := 0x300024
/-- QRY_UPL_CFG of instance `n` -/
def aQryUplCfg (n : Nat) : Nat := 0x300100 + n * 0x10
/-- QRY_UPL_STAT of instance `n` -/
def aQryUplStat (n : Nat) : Nat := 0x300104 + n * 0x10
/-- QRY_UPL_RATE of instance `n` -/
def aQryUplRate (n : Nat) : Nat := 0x300108 + n * 0x10
/-- DMA_BUSY -/
def aDmaBusy : Nat := 0x340000
/-- DMA_REQ_OVR -/
def aDmaReqOvr : Nat := 0x340004
/-- DMA_CH_STAT of instance `n` -/
def aDmaChStat (n : Nat) : Nat := 0x340100 + n * 0x20
/-- DMA_CH_FIFO of instance `n` -/
def aDmaChFifo (n : Nat) : Nat := 0x340104 + n * 0x20
/-- DMA_CH_LEVEL of instance `n` -/
def aDmaChLevel (n : Nat) : Nat := 0x340108 + n * 0x20
/-- DMA_CH_REQ of instance `n` -/
def aDmaChReq (n : Nat) : Nat := 0x34010c + n * 0x20
/-- DMA_CH_CNT of instance `n` -/
def aDmaChCnt (n : Nat) : Nat := 0x340110 + n * 0x20
/-- AIR_CFG -/
def aAirCfg : Nat := 0x380000
/-- AIR_EP -/
def aAirEp : Nat := 0x380004
/-- AIR_EP_JOINED -/
def aAirEpJoined : Nat := 0x380008
/-- AIR_SEC -/
def aAirSec : Nat := 0x380010
/-- AIR_SEC2 -/
def aAirSec2 : Nat := 0x380014
/-- AIR_ACK -/
def aAirAck : Nat := 0x380018
/-- AIR_FLAGS -/
def aAirFlags : Nat := 0x38001c
/-- AIR_URG -/
def aAirUrg : Nat := 0x380020
/-- AIR_DW_SEL -/
def aAirDwSel : Nat := 0x380030
/-- AIR_DW -/
def aAirDw : Nat := 0x380034
/-- AIR_DW_BUD -/
def aAirDwBud : Nat := 0x380038
/-- AIR_VEMER -/
def aAirVemer : Nat := 0x380040
/-- AIR_PORT_CFG of instance `n` -/
def aAirPortCfg (n : Nat) : Nat := 0x380100 + n * 0x10
/-- AIR_PORT_STAT of instance `n` -/
def aAirPortStat (n : Nat) : Nat := 0x380104 + n * 0x10
/-- AIR_PORT_CNT of instance `n` -/
def aAirPortCnt (n : Nat) : Nat := 0x380108 + n * 0x10
/-- SPN_CFG -/
def aSpnCfg : Nat := 0x3c0000
/-- SPN_POS -/
def aSpnPos : Nat := 0x3c0004
/-- SPN_LINK -/
def aSpnLink : Nat := 0x3c0008
/-- SPN_SWEEP -/
def aSpnSweep : Nat := 0x3c000c
/-- SPN_STAT -/
def aSpnStat : Nat := 0x3c0010
/-- SPN_DROP -/
def aSpnDrop : Nat := 0x3c0014
/-- FLT_STAT -/
def aFltStat : Nat := 0x400000
/-- FLT_SLOTS -/
def aFltSlots : Nat := 0x400004
/-- FLT_FUSE -/
def aFltFuse : Nat := 0x400008
/-- FLT_REG -/
def aFltReg : Nat := 0x40000c
/-- FLT_MIGR -/
def aFltMigr : Nat := 0x400010
/-- FLT_KEKTAG_LO -/
def aFltKektagLo : Nat := 0x400014
/-- FLT_KEKTAG_HI -/
def aFltKektagHi : Nat := 0x400018
/-- FLT_FLAGS -/
def aFltFlags : Nat := 0x40001c
/-- SVC_LEVEL -/
def aSvcLevel : Nat := 0x480000
/-- SVC_BLOCKS -/
def aSvcBlocks : Nat := 0x480004
/-- SVC_UPD -/
def aSvcUpd : Nat := 0x480008
/-- SVC_START -/
def aSvcStart : Nat := 0x48000c
/-- SVC_FRAG_DROP -/
def aSvcFragDrop : Nat := 0x480010
/-- SVC_FLASH -/
def aSvcFlash : Nat := 0x480014
/-- SVC_UX1 -/
def aSvcUx1 : Nat := 0x480018
/-- SVC_UX1_FLAGS -/
def aSvcUx1Flags : Nat := 0x48001c
/-- SVC_IMG_ACT of instance `n` -/
def aSvcImgAct (n : Nat) : Nat := 0x480020 + n * 0x10
/-- SVC_IMG_PREV of instance `n` -/
def aSvcImgPrev (n : Nat) : Nat := 0x480024 + n * 0x10
/-- SVC_IMG_STG of instance `n` -/
def aSvcImgStg (n : Nat) : Nat := 0x480028 + n * 0x10
/-- SVC_IMG_ST of instance `n` -/
def aSvcImgSt (n : Nat) : Nat := 0x48002c + n * 0x10
/-- THM_STAT -/
def aThmStat : Nat := 0x4c0000
/-- THM_FLAGS -/
def aThmFlags : Nat := 0x4c0004
/-- THM_LAST -/
def aThmLast : Nat := 0x4c0008
/-- THM_CNT -/
def aThmCnt : Nat := 0x4c000c
/-- THM_T of instance `n` -/
def aThmT (n : Nat) : Nat := 0x4c0100 + n * 0x4
/-- SYS_ID -/
def aSysId : Nat := 0x0
/-- SYS_HBM_STAT -/
def aSysHbmStat : Nat := 0x100
/-- SYS_HBM_ECC -/
def aSysHbmEcc : Nat := 0x104
/-- SYS_HBM_FLAGS -/
def aSysHbmFlags : Nat := 0x108

/-! ### The table -/

/-- Registers of block SYS. -/
def regsSys : List RegDef := [
  ⟨"SYS_PWR_STAT", 0x40, 1, 0x0, [⟨0, 1, .ro, 0⟩, ⟨1, 1, .ro, 0⟩, ⟨2, 1, .ro, 0⟩, ⟨3, 1, .ro, 0⟩, ⟨4, 1, .ro, 0⟩, ⟨8, 1, .w1c, 0⟩, ⟨9, 1, .w1c, 0⟩, ⟨16, 16, .ro, 0⟩]⟩,
  ⟨"SYS_FRM_CAP", 0x80, 1, 0x0, [⟨0, 13, .ro, 0⟩, ⟨13, 2, .ro, 0⟩, ⟨15, 1, .ro, 0⟩]⟩,
  ⟨"SYS_FRM_OVR", 0x84, 1, 0x0, [⟨0, 32, .ro, 0⟩]⟩,
  ⟨"SYS_DISP_OVR", 0x88, 1, 0x0, [⟨0, 32, .ro, 0⟩]⟩,
  ⟨"SYS_URG_STAT", 0x8c, 1, 0x0, [⟨0, 5, .ro, 0⟩, ⟨8, 1, .w1c, 0⟩, ⟨9, 1, .ro, 0⟩, ⟨16, 16, .ro, 0⟩]⟩,
  ⟨"SYS_FRM_CARRY", 0x90, 1, 0x0, [⟨0, 24, .ro, 0⟩]⟩,
  ⟨"SYS_VCTL_SEL", 0xc0, 1, 0x0, [⟨0, 12, .rw, 0⟩]⟩,
  ⟨"SYS_VCTL_STAT", 0xc4, 1, 0x0, [⟨0, 2, .ro, 0⟩, ⟨2, 1, .ro, 0⟩, ⟨4, 3, .ro, 0⟩, ⟨8, 4, .ro, 0⟩, ⟨16, 12, .ro, 0⟩]⟩,
  ⟨"SYS_VCTL_SPEND", 0xc8, 1, 0x0, [⟨0, 13, .ro, 0⟩, ⟨16, 13, .ro, 0⟩]⟩,
  ⟨"SYS_VCTL_REFUSE", 0xcc, 1, 0x0, [⟨0, 32, .ro, 0⟩]⟩,
  ⟨"SYS_TOK_LOAD", 0xd0, 1, 0x0, [⟨0, 4, .rw, 0⟩, ⟨16, 11, .ro, 0⟩]⟩,
  ⟨"SYS_VCTL_COUNT", 0xd4, 1, 0x0, [⟨0, 13, .ro, 0⟩, ⟨16, 13, .ro, 0⟩]⟩,
  ⟨"SYS_VCTL_INC", 0xd8, 1, 0x0, [⟨0, 32, .ro, 0⟩]⟩,
  ⟨"SYS_ATR_CFG", 0x140, 1, 0x0, [⟨0, 6, .ro, 15⟩, ⟨8, 1, .ro, 0⟩]⟩,
  ⟨"SYS_ATR_PERIOD", 0x144, 1, 0x0, [⟨0, 32, .ro, 0⟩]⟩,
  ⟨"SYS_ATR_OBS", 0x148, 1, 0x0, [⟨0, 8, .ro, 0⟩, ⟨16, 8, .ro, 0⟩, ⟨24, 8, .ro, 0⟩]⟩,
  ⟨"SYS_ATR_CNT", 0x14c, 1, 0x0, [⟨0, 16, .ro, 0⟩, ⟨16, 16, .ro, 0⟩]⟩,
  ⟨"SYS_ATR_FLAGS", 0x150, 1, 0x0, [⟨0, 1, .w1c, 0⟩, ⟨1, 1, .w1c, 0⟩, ⟨2, 1, .w1c, 0⟩]⟩,
  ⟨"SYS_ID", 0x0, 1, 0x0, [⟨0, 16, .ro, 598⟩, ⟨16, 8, .ro, 176⟩]⟩,
  ⟨"SYS_HBM_STAT", 0x100, 1, 0x0, [⟨0, 24, .ro, 0⟩]⟩,
  ⟨"SYS_HBM_ECC", 0x104, 1, 0x0, [⟨0, 16, .ro, 0⟩, ⟨16, 16, .ro, 0⟩]⟩,
  ⟨"SYS_HBM_FLAGS", 0x108, 1, 0x0, [⟨0, 1, .w1c, 0⟩, ⟨1, 1, .w1c, 0⟩]⟩]

/-- Registers of block SVC. -/
def regsSvc : List RegDef := [
  ⟨"SVC_CARRIER", 0x480100, 1, 0x0, [⟨0, 1, .ro, 0⟩, ⟨1, 1, .ro, 0⟩, ⟨2, 1, .w1c, 0⟩, ⟨4, 2, .ro, 0⟩, ⟨6, 1, .ro, 0⟩]⟩,
  ⟨"SVC_GPIO_DIR", 0x480104, 1, 0x0, [⟨0, 16, .rw, 0⟩]⟩,
  ⟨"SVC_GPIO_OUT", 0x480108, 1, 0x0, [⟨0, 16, .rw, 0⟩]⟩,
  ⟨"SVC_GPIO_IN", 0x48010c, 1, 0x0, [⟨0, 16, .ro, 0⟩]⟩,
  ⟨"SVC_KX1_STAT", 0x480110, 1, 0x0, [⟨0, 2, .ro, 0⟩, ⟨4, 1, .w1c, 0⟩, ⟨16, 16, .ro, 0⟩]⟩,
  ⟨"SVC_LEVEL", 0x480000, 1, 0x0, [⟨0, 2, .ro, 0⟩, ⟨4, 4, .ro, 0⟩, ⟨8, 1, .ro, 0⟩, ⟨9, 1, .ro, 0⟩]⟩,
  ⟨"SVC_BLOCKS", 0x480004, 1, 0x0, [⟨0, 16, .ro, 0⟩, ⟨16, 1, .ro, 0⟩, ⟨17, 1, .ro, 0⟩, ⟨18, 1, .ro, 0⟩, ⟨19, 1, .ro, 0⟩]⟩,
  ⟨"SVC_UPD", 0x480008, 1, 0x0, [⟨0, 3, .ro, 0⟩, ⟨8, 4, .ro, 0⟩, ⟨16, 1, .w1c, 0⟩, ⟨17, 1, .w1c, 0⟩]⟩,
  ⟨"SVC_START", 0x48000c, 1, 0x0, [⟨0, 2, .ro, 0⟩, ⟨2, 1, .ro, 0⟩, ⟨8, 4, .ro, 0⟩, ⟨16, 16, .ro, 0⟩]⟩,
  ⟨"SVC_FRAG_DROP", 0x480010, 1, 0x0, [⟨0, 32, .ro, 0⟩]⟩,
  ⟨"SVC_FLASH", 0x480014, 1, 0x0, [⟨0, 1, .ro, 0⟩, ⟨1, 1, .ro, 0⟩, ⟨2, 1, .w1c, 0⟩, ⟨3, 1, .w1c, 0⟩, ⟨16, 16, .ro, 0⟩]⟩,
  ⟨"SVC_UX1", 0x480018, 1, 0x0, [⟨0, 1, .ro, 0⟩, ⟨1, 1, .ro, 0⟩, ⟨2, 1, .ro, 0⟩, ⟨3, 1, .ro, 0⟩, ⟨8, 8, .ro, 0⟩, ⟨16, 8, .ro, 0⟩]⟩,
  ⟨"SVC_UX1_FLAGS", 0x48001c, 1, 0x0, [⟨0, 1, .w1c, 0⟩, ⟨1, 1, .w1c, 0⟩, ⟨2, 1, .w1c, 0⟩, ⟨3, 1, .w1c, 0⟩]⟩,
  ⟨"SVC_IMG_ACT", 0x480020, 4, 0x10, [⟨0, 32, .ro, 0⟩]⟩,
  ⟨"SVC_IMG_PREV", 0x480024, 4, 0x10, [⟨0, 32, .ro, 0⟩]⟩,
  ⟨"SVC_IMG_STG", 0x480028, 4, 0x10, [⟨0, 32, .ro, 0⟩]⟩,
  ⟨"SVC_IMG_ST", 0x48002c, 4, 0x10, [⟨0, 2, .ro, 0⟩, ⟨8, 7, .ro, 0⟩]⟩]

/-- Registers of block LDS. -/
def regsLds : List RegDef := [
  ⟨"LDS_NS", 0x10000, 1, 0x0, [⟨0, 32, .ro, 0⟩]⟩,
  ⟨"LDS_INC", 0x10004, 1, 0x0, [⟨0, 32, .rw, 33554432⟩]⟩,
  ⟨"LDS_LOAD", 0x10008, 1, 0x0, [⟨0, 32, .rw, 0⟩]⟩,
  ⟨"LDS_CTL", 0x1000c, 1, 0x0, [⟨0, 1, .wo, 0⟩, ⟨1, 1, .rwl, 0⟩, ⟨2, 1, .rw, 0⟩, ⟨3, 1, .rw, 0⟩, ⟨4, 1, .rw, 0⟩]⟩,
  ⟨"LDS_STAT", 0x10010, 1, 0x0, [⟨0, 3, .ro, 0⟩, ⟨4, 3, .ro, 0⟩, ⟨8, 4, .ro, 0⟩, ⟨12, 1, .ro, 0⟩, ⟨16, 1, .w1c, 0⟩, ⟨17, 1, .w1c, 0⟩, ⟨18, 1, .w1c, 0⟩]⟩,
  ⟨"LDS_FRAME_LO", 0x10014, 1, 0x0, [⟨0, 32, .rwl, 0⟩]⟩,
  ⟨"LDS_FRAME_HI", 0x10018, 1, 0x0, [⟨0, 32, .rwl, 0⟩]⟩,
  ⟨"LDS_BEAT", 0x1001c, 1, 0x0, [⟨0, 7, .ro, 0⟩]⟩,
  ⟨"LDS_WRAP", 0x10020, 1, 0x0, [⟨0, 16, .ro, 0⟩]⟩,
  ⟨"LDS_REF_CFG", 0x10024, 1, 0x0, [⟨0, 1, .rw, 1⟩, ⟨1, 1, .rw, 1⟩, ⟨2, 1, .rw, 1⟩, ⟨3, 1, .rw, 0⟩, ⟨8, 16, .rw, 8000⟩]⟩,
  ⟨"LDS_PTP_THR", 0x10028, 1, 0x0, [⟨0, 16, .rw, 100⟩]⟩,
  ⟨"LDS_ACQ", 0x1002c, 1, 0x0, [⟨0, 12, .rw, 120⟩]⟩,
  ⟨"LDS_SX1_DLY", 0x10030, 1, 0x0, [⟨0, 16, .rw, 0⟩, ⟨16, 16, .rw, 0⟩]⟩,
  ⟨"LDS_OFFSET", 0x10034, 1, 0x0, [⟨0, 32, .ro, 0⟩]⟩,
  ⟨"LDS_HOLD", 0x10038, 1, 0x0, [⟨0, 32, .ro, 0⟩]⟩,
  ⟨"LDS_REF_IGN", 0x1003c, 1, 0x0, [⟨0, 32, .ro, 0⟩]⟩,
  ⟨"LDS_CLK_ID_LO", 0x10040, 1, 0x0, [⟨0, 32, .ro, 0⟩]⟩,
  ⟨"LDS_CLK_ID_HI", 0x10044, 1, 0x0, [⟨0, 32, .ro, 0⟩]⟩,
  ⟨"LDS_TMR_CTL", 0x10100, 16, 0x10, [⟨0, 1, .rwl, 0⟩, ⟨1, 1, .rwl, 0⟩, ⟨2, 3, .rwl, 0⟩, ⟨8, 1, .w1c, 0⟩, ⟨9, 1, .w1c, 0⟩, ⟨10, 1, .w1c, 0⟩, ⟨11, 1, .w1c, 0⟩]⟩,
  ⟨"LDS_TMR_CMP", 0x10104, 16, 0x10, [⟨0, 32, .rw, 0⟩]⟩,
  ⟨"LDS_TMR_PER", 0x10108, 16, 0x10, [⟨0, 32, .rw, 0⟩]⟩,
  ⟨"LDS_TMR_WID", 0x1010c, 16, 0x10, [⟨0, 17, .rw, 1⟩]⟩]

/-- Registers of block GRN. -/
def regsGrn : List RegDef := [
  ⟨"GRN_LINK", 0x100000, 256, 0x1000, [⟨0, 4, .ro, 0⟩, ⟨4, 2, .rw, 0⟩, ⟨6, 1, .rw, 0⟩, ⟨8, 4, .ro, 0⟩, ⟨12, 2, .ro, 0⟩, ⟨14, 1, .ro, 0⟩, ⟨16, 8, .ro, 0⟩]⟩,
  ⟨"GRN_CENSUS", 0x100004, 256, 0x1000, [⟨0, 3, .ro, 0⟩, ⟨4, 3, .ro, 0⟩, ⟨8, 7, .ro, 0⟩, ⟨16, 7, .ro, 0⟩, ⟨24, 7, .ro, 0⟩]⟩,
  ⟨"GRN_CENSUS_CNT", 0x100008, 256, 0x1000, [⟨0, 16, .ro, 0⟩, ⟨16, 4, .ro, 0⟩]⟩,
  ⟨"GRN_CREDIT", 0x10000c, 256, 0x1000, [⟨0, 7, .rw, 1⟩, ⟨8, 2, .rw, 0⟩, ⟨16, 6, .ro, 0⟩]⟩,
  ⟨"GRN_ASSOC", 0x100010, 256, 0x1000, [⟨0, 7, .ro, 0⟩, ⟨8, 7, .ro, 0⟩, ⟨16, 7, .ro, 0⟩, ⟨24, 1, .ro, 0⟩]⟩,
  ⟨"GRN_STAT", 0x100014, 256, 0x1000, [⟨0, 1, .w1c, 0⟩, ⟨1, 1, .w1c, 0⟩, ⟨2, 1, .w1c, 0⟩, ⟨3, 1, .w1c, 0⟩, ⟨4, 1, .w1c, 0⟩, ⟨5, 1, .w1c, 0⟩, ⟨6, 1, .ro, 0⟩]⟩,
  ⟨"GRN_DROP", 0x100018, 256, 0x1000, [⟨0, 8, .ro, 0⟩, ⟨8, 8, .ro, 0⟩, ⟨16, 4, .ro, 0⟩, ⟨20, 4, .ro, 0⟩, ⟨24, 8, .ro, 0⟩]⟩,
  ⟨"GRN_BR_CFG", 0x100040, 256, 0x1000, [⟨0, 9, .rw, 20⟩, ⟨16, 8, .rw, 20⟩]⟩,
  ⟨"GRN_BR_TAGS", 0x100044, 256, 0x1000, [⟨0, 9, .ro, 256⟩, ⟨10, 9, .ro, 0⟩, ⟨20, 9, .ro, 0⟩]⟩,
  ⟨"GRN_BR_SEM", 0x100048, 256, 0x1000, [⟨0, 7, .ro, 0⟩, ⟨16, 11, .ro, 0⟩]⟩,
  ⟨"GRN_BR_STAT", 0x10004c, 256, 0x1000, [⟨0, 1, .w1c, 0⟩, ⟨1, 1, .w1c, 0⟩, ⟨2, 1, .w1c, 0⟩, ⟨3, 1, .w1c, 0⟩, ⟨4, 1, .w1c, 0⟩]⟩,
  ⟨"GRN_BR_CNT", 0x100050, 256, 0x1000, [⟨0, 16, .ro, 0⟩, ⟨16, 16, .ro, 0⟩]⟩,
  ⟨"GRN_BR_DROP", 0x100054, 256, 0x1000, [⟨0, 16, .ro, 0⟩, ⟨16, 16, .ro, 0⟩]⟩,
  ⟨"GRN_LC_STAT", 0x100080, 256, 0x1000, [⟨0, 10, .ro, 0⟩, ⟨16, 10, .ro, 0⟩]⟩,
  ⟨"GRN_LC_SUSP", 0x100084, 256, 0x1000, [⟨0, 10, .ro, 0⟩, ⟨16, 16, .ro, 0⟩]⟩,
  ⟨"GRN_LC_FLAGS", 0x100088, 256, 0x1000, [⟨0, 1, .w1c, 0⟩, ⟨1, 1, .w1c, 0⟩, ⟨2, 1, .w1c, 0⟩, ⟨3, 1, .w1c, 0⟩]⟩,
  ⟨"GRN_LC_CNT", 0x10008c, 256, 0x1000, [⟨0, 16, .ro, 0⟩, ⟨16, 16, .ro, 0⟩]⟩]

/-- Registers of block SLT. -/
def regsSlt : List RegDef := [
  ⟨"SLT_STAT", 0x20000, 1, 0x0, [⟨0, 1, .ro, 0⟩, ⟨1, 1, .ro, 0⟩, ⟨2, 1, .ro, 0⟩, ⟨16, 16, .ro, 0⟩]⟩,
  ⟨"SLT_GLOBAL", 0x20004, 1, 0x0, [⟨0, 13, .ro, 4096⟩]⟩,
  ⟨"SLT_URG", 0x20008, 1, 0x0, [⟨0, 20, .ro, 0⟩]⟩,
  ⟨"SLT_PRESET", 0x2000c, 1, 0x0, [⟨0, 20, .ro, 0⟩]⟩,
  ⟨"SLT_INR_SEL", 0x20010, 1, 0x0, [⟨0, 7, .rw, 0⟩]⟩,
  ⟨"SLT_INR_STAT", 0x20014, 1, 0x0, [⟨0, 20, .ro, 0⟩, ⟨22, 2, .ro, 0⟩, ⟨24, 8, .ro, 16⟩]⟩,
  ⟨"SLT_INR_TURN", 0x20018, 1, 0x0, [⟨0, 7, .ro, 127⟩, ⟨8, 7, .ro, 127⟩, ⟨16, 7, .ro, 127⟩]⟩,
  ⟨"SLT_INR_CNT", 0x2001c, 1, 0x0, [⟨0, 32, .ro, 0⟩]⟩,
  ⟨"SLT_WAKE_TRK", 0x20020, 1, 0x0, [⟨0, 15, .ro, 0⟩, ⟨16, 1, .w1c, 0⟩]⟩,
  ⟨"SLT_WAKE_BORDER", 0x20024, 1, 0x0, [⟨0, 16, .ro, 0⟩, ⟨16, 16, .ro, 0⟩]⟩,
  ⟨"SLT_WAKE_CLAIM", 0x20028, 1, 0x0, [⟨0, 16, .ro, 0⟩, ⟨16, 16, .ro, 0⟩]⟩,
  ⟨"SLT_WAKE_AIR", 0x2002c, 1, 0x0, [⟨0, 15, .ro, 0⟩]⟩]

/-- Registers of block STR. -/
def regsStr : List RegDef := [
  ⟨"STR_SLT_STAT", 0x200000, 16, 0x10000, [⟨0, 15, .ro, 0⟩, ⟨16, 15, .ro, 0⟩]⟩,
  ⟨"STR_SLT_FRAME", 0x200004, 16, 0x10000, [⟨0, 15, .ro, 0⟩, ⟨16, 15, .ro, 0⟩]⟩,
  ⟨"STR_WAKE_STAT", 0x200040, 16, 0x10000, [⟨0, 13, .ro, 0⟩, ⟨16, 11, .ro, 0⟩]⟩,
  ⟨"STR_WAKE_EV", 0x200044, 16, 0x10000, [⟨0, 8, .ro, 0⟩, ⟨16, 16, .ro, 0⟩]⟩,
  ⟨"STR_WAKE_GRAPH", 0x200048, 16, 0x10000, [⟨0, 17, .ro, 0⟩, ⟨24, 8, .ro, 0⟩]⟩,
  ⟨"STR_WAKE_FLAGS", 0x20004c, 16, 0x10000, [⟨0, 1, .w1c, 0⟩, ⟨1, 1, .w1c, 0⟩, ⟨2, 1, .w1c, 0⟩, ⟨3, 1, .w1c, 0⟩]⟩,
  ⟨"STR_AON_STAT", 0x200080, 16, 0x10000, [⟨0, 9, .ro, 0⟩, ⟨16, 9, .ro, 0⟩]⟩,
  ⟨"STR_AON_MEMB", 0x200084, 16, 0x10000, [⟨0, 13, .ro, 0⟩]⟩,
  ⟨"STR_AON_FLAGS", 0x200088, 16, 0x10000, [⟨0, 1, .w1c, 0⟩, ⟨1, 1, .w1c, 0⟩]⟩]

/-- Registers of block GEO. -/
def regsGeo : List RegDef := [
  ⟨"GEO_STAT", 0x440000, 1, 0x0, [⟨0, 1, .ro, 0⟩, ⟨1, 2, .ro, 0⟩, ⟨3, 1, .ro, 0⟩]⟩,
  ⟨"GEO_FRAME", 0x440004, 1, 0x0, [⟨0, 32, .ro, 0⟩]⟩,
  ⟨"GEO_SNAP_STAT", 0x440010, 1, 0x0, [⟨0, 1, .ro, 0⟩, ⟨1, 1, .ro, 0⟩, ⟨16, 16, .ro, 0⟩]⟩,
  ⟨"GEO_CNT", 0x440014, 1, 0x0, [⟨0, 16, .ro, 0⟩, ⟨16, 16, .ro, 0⟩]⟩,
  ⟨"GEO_PH_V", 0x440100, 3, 0x8, [⟨0, 24, .ro, 0⟩]⟩,
  ⟨"GEO_PH_F", 0x440104, 3, 0x8, [⟨0, 17, .ro, 0⟩]⟩,
  ⟨"GEO_PULSE", 0x440200, 16, 0x8, [⟨0, 32, .ro, 0⟩]⟩,
  ⟨"GEO_PULSE_ST", 0x440204, 16, 0x8, [⟨0, 16, .ro, 0⟩, ⟨16, 1, .ro, 0⟩, ⟨17, 1, .ro, 0⟩]⟩,
  ⟨"GEO_CIR_I", 0x441000, 64, 0x10, [⟨0, 24, .ro, 0⟩, ⟨24, 2, .ro, 0⟩, ⟨26, 1, .ro, 0⟩, ⟨27, 1, .ro, 0⟩, ⟨28, 1, .ro, 0⟩, ⟨29, 2, .ro, 0⟩]⟩,
  ⟨"GEO_CIR_P", 0x441004, 64, 0x10, [⟨0, 32, .ro, 0⟩]⟩,
  ⟨"GEO_CIR_Q", 0x441008, 64, 0x10, [⟨0, 32, .ro, 0⟩]⟩,
  ⟨"GEO_CIR_H", 0x44100c, 64, 0x10, [⟨0, 16, .ro, 65535⟩, ⟨16, 16, .ro, 0⟩]⟩,
  ⟨"GEO_CUST", 0x440020, 1, 0x0, [⟨0, 2, .ro, 0⟩, ⟨2, 1, .ro, 0⟩, ⟨3, 1, .ro, 0⟩, ⟨16, 16, .ro, 0⟩]⟩,
  ⟨"GEO_PSET", 0x440024, 1, 0x0, [⟨0, 32, .ro, 0⟩]⟩,
  ⟨"GEO_RSEQ_LO", 0x440028, 1, 0x0, [⟨0, 32, .ro, 0⟩]⟩,
  ⟨"GEO_RSEQ_HI", 0x44002c, 1, 0x0, [⟨0, 32, .ro, 0⟩]⟩,
  ⟨"GEO_LOG", 0x440030, 1, 0x0, [⟨0, 32, .ro, 0⟩]⟩,
  ⟨"GEO_OPT", 0x440034, 1, 0x0, [⟨0, 16, .ro, 0⟩, ⟨16, 16, .ro, 0⟩]⟩,
  ⟨"GEO_FW", 0x440038, 1, 0x0, [⟨0, 32, .ro, 0⟩]⟩]

/-- Registers of block QRY. -/
def regsQry : List RegDef := [
  ⟨"QRY_CELLS", 0x300000, 1, 0x0, [⟨0, 19, .ro, 262144⟩, ⟨24, 7, .ro, 0⟩]⟩,
  ⟨"QRY_CELLS_USE", 0x300004, 1, 0x0, [⟨0, 19, .ro, 0⟩]⟩,
  ⟨"QRY_POOL", 0x300008, 1, 0x0, [⟨0, 19, .ro, 0⟩]⟩,
  ⟨"QRY_POOL_BORROW", 0x30000c, 1, 0x0, [⟨0, 19, .ro, 0⟩]⟩,
  ⟨"QRY_STAT", 0x300010, 1, 0x0, [⟨0, 1, .ro, 0⟩, ⟨8, 1, .w1c, 0⟩, ⟨9, 1, .w1c, 0⟩, ⟨10, 1, .w1c, 0⟩, ⟨11, 1, .w1c, 0⟩, ⟨12, 1, .w1c, 0⟩]⟩,
  ⟨"QRY_DROP", 0x300014, 1, 0x0, [⟨0, 16, .ro, 0⟩, ⟨16, 16, .ro, 0⟩]⟩,
  ⟨"QRY_DROP_MOD", 0x300018, 1, 0x0, [⟨0, 16, .ro, 0⟩, ⟨16, 16, .ro, 0⟩]⟩,
  ⟨"QRY_BANK_SEL", 0x300020, 1, 0x0, [⟨0, 4, .rw, 0⟩]⟩,
  ⟨"QRY_BANK", 0x300024, 1, 0x0, [⟨0, 9, .ro, 0⟩, ⟨16, 9, .ro, 0⟩]⟩,
  ⟨"QRY_UPL_CFG", 0x300100, 16, 0x10, [⟨0, 12, .rw, 0⟩, ⟨12, 1, .rw, 0⟩]⟩,
  ⟨"QRY_UPL_STAT", 0x300104, 16, 0x10, [⟨0, 1, .ro, 0⟩, ⟨8, 13, .ro, 0⟩]⟩,
  ⟨"QRY_UPL_RATE", 0x300108, 16, 0x10, [⟨0, 17, .ro, 0⟩]⟩]

/-- Registers of block DMA. -/
def regsDma : List RegDef := [
  ⟨"DMA_BUSY", 0x340000, 1, 0x0, [⟨0, 32, .ro, 0⟩]⟩,
  ⟨"DMA_REQ_OVR", 0x340004, 1, 0x0, [⟨0, 32, .w1c, 0⟩]⟩,
  ⟨"DMA_CH_STAT", 0x340100, 32, 0x20, [⟨0, 2, .ro, 0⟩, ⟨4, 5, .ro, 0⟩, ⟨16, 12, .ro, 0⟩, ⟨28, 1, .ro, 0⟩]⟩,
  ⟨"DMA_CH_FIFO", 0x340104, 32, 0x20, [⟨0, 15, .ro, 0⟩, ⟨16, 1, .ro, 1⟩, ⟨17, 1, .w1c, 0⟩, ⟨18, 1, .w1c, 0⟩, ⟨19, 1, .w1c, 0⟩]⟩,
  ⟨"DMA_CH_LEVEL", 0x340108, 32, 0x20, [⟨0, 15, .rw, 8192⟩]⟩,
  ⟨"DMA_CH_REQ", 0x34010c, 32, 0x20, [⟨0, 8, .ro, 0⟩, ⟨8, 1, .w1c, 0⟩, ⟨16, 16, .ro, 0⟩]⟩,
  ⟨"DMA_CH_CNT", 0x340110, 32, 0x20, [⟨0, 16, .ro, 0⟩, ⟨16, 16, .ro, 0⟩]⟩]

/-- Registers of block AIR. -/
def regsAir : List RegDef := [
  ⟨"AIR_CFG", 0x380000, 1, 0x0, [⟨0, 2, .ro, 0⟩, ⟨8, 7, .ro, 0⟩, ⟨16, 1, .ro, 0⟩, ⟨17, 2, .ro, 0⟩]⟩,
  ⟨"AIR_EP", 0x380004, 1, 0x0, [⟨0, 19, .ro, 0⟩]⟩,
  ⟨"AIR_EP_JOINED", 0x380008, 1, 0x0, [⟨0, 19, .ro, 0⟩]⟩,
  ⟨"AIR_SEC", 0x380010, 1, 0x0, [⟨0, 16, .ro, 0⟩, ⟨16, 16, .ro, 0⟩]⟩,
  ⟨"AIR_SEC2", 0x380014, 1, 0x0, [⟨0, 12, .ro, 0⟩, ⟨12, 10, .ro, 0⟩, ⟨22, 10, .ro, 0⟩]⟩,
  ⟨"AIR_ACK", 0x380018, 1, 0x0, [⟨0, 16, .ro, 0⟩, ⟨16, 8, .ro, 0⟩, ⟨24, 8, .ro, 0⟩]⟩,
  ⟨"AIR_FLAGS", 0x38001c, 1, 0x0, [⟨0, 1, .w1c, 0⟩, ⟨1, 1, .w1c, 0⟩, ⟨2, 1, .w1c, 0⟩, ⟨3, 1, .w1c, 0⟩]⟩,
  ⟨"AIR_URG", 0x380020, 1, 0x0, [⟨0, 19, .ro, 0⟩]⟩,
  ⟨"AIR_DW_SEL", 0x380030, 1, 0x0, [⟨0, 6, .rw, 0⟩]⟩,
  ⟨"AIR_DW", 0x380034, 1, 0x0, [⟨0, 20, .ro, 0⟩]⟩,
  ⟨"AIR_DW_BUD", 0x380038, 1, 0x0, [⟨0, 20, .ro, 0⟩]⟩,
  ⟨"AIR_VEMER", 0x380040, 1, 0x0, [⟨0, 6, .ro, 0⟩, ⟨16, 16, .ro, 0⟩]⟩,
  ⟨"AIR_PORT_CFG", 0x380100, 4, 0x10, [⟨0, 1, .rw, 0⟩, ⟨8, 8, .ro, 0⟩]⟩,
  ⟨"AIR_PORT_STAT", 0x380104, 4, 0x10, [⟨0, 1, .ro, 0⟩, ⟨8, 8, .ro, 0⟩, ⟨16, 16, .ro, 0⟩]⟩,
  ⟨"AIR_PORT_CNT", 0x380108, 4, 0x10, [⟨0, 16, .ro, 0⟩, ⟨16, 16, .ro, 0⟩]⟩]

/-- Registers of block SPN. -/
def regsSpn : List RegDef := [
  ⟨"SPN_CFG", 0x3c0000, 1, 0x0, [⟨0, 6, .ro, 0⟩, ⟨6, 1, .ro, 0⟩, ⟨7, 1, .ro, 0⟩]⟩,
  ⟨"SPN_POS", 0x3c0004, 1, 0x0, [⟨0, 6, .ro, 0⟩, ⟨6, 1, .ro, 0⟩, ⟨8, 7, .ro, 0⟩, ⟨16, 3, .ro, 0⟩, ⟨24, 8, .ro, 0⟩]⟩,
  ⟨"SPN_LINK", 0x3c0008, 1, 0x0, [⟨0, 1, .ro, 0⟩, ⟨1, 1, .ro, 0⟩, ⟨2, 1, .ro, 0⟩, ⟨8, 7, .ro, 0⟩, ⟨16, 7, .ro, 0⟩]⟩,
  ⟨"SPN_SWEEP", 0x3c000c, 1, 0x0, [⟨0, 2, .ro, 0⟩, ⟨2, 1, .ro, 0⟩, ⟨8, 5, .ro, 0⟩]⟩,
  ⟨"SPN_STAT", 0x3c0010, 1, 0x0, [⟨0, 1, .w1c, 0⟩, ⟨1, 1, .w1c, 0⟩, ⟨2, 1, .w1c, 0⟩, ⟨3, 1, .w1c, 0⟩, ⟨4, 1, .w1c, 0⟩]⟩,
  ⟨"SPN_DROP", 0x3c0014, 1, 0x0, [⟨0, 16, .ro, 0⟩, ⟨16, 8, .ro, 0⟩, ⟨24, 8, .ro, 0⟩]⟩]

/-- Registers of block FLT. -/
def regsFlt : List RegDef := [
  ⟨"FLT_STAT", 0x400000, 1, 0x0, [⟨0, 2, .ro, 0⟩, ⟨2, 1, .ro, 0⟩, ⟨16, 4, .ro, 0⟩]⟩,
  ⟨"FLT_SLOTS", 0x400004, 1, 0x0, [⟨0, 11, .ro, 0⟩, ⟨16, 11, .ro, 0⟩]⟩,
  ⟨"FLT_FUSE", 0x400008, 1, 0x0, [⟨0, 7, .ro, 0⟩, ⟨8, 7, .ro, 0⟩, ⟨16, 7, .ro, 0⟩, ⟨24, 7, .ro, 0⟩]⟩,
  ⟨"FLT_REG", 0x40000c, 1, 0x0, [⟨0, 20, .ro, 0⟩, ⟨20, 12, .ro, 0⟩]⟩,
  ⟨"FLT_MIGR", 0x400010, 1, 0x0, [⟨0, 20, .ro, 0⟩]⟩,
  ⟨"FLT_KEKTAG_LO", 0x400014, 1, 0x0, [⟨0, 32, .ro, 0⟩]⟩,
  ⟨"FLT_KEKTAG_HI", 0x400018, 1, 0x0, [⟨0, 32, .ro, 0⟩]⟩,
  ⟨"FLT_FLAGS", 0x40001c, 1, 0x0, [⟨0, 1, .w1c, 0⟩, ⟨1, 1, .w1c, 0⟩, ⟨2, 1, .w1c, 0⟩, ⟨3, 1, .w1c, 0⟩, ⟨4, 1, .w1c, 0⟩]⟩]

/-- Registers of block THM. -/
def regsThm : List RegDef := [
  ⟨"THM_STAT", 0x4c0000, 1, 0x0, [⟨0, 2, .ro, 0⟩, ⟨2, 1, .ro, 0⟩, ⟨3, 1, .ro, 0⟩, ⟨8, 5, .ro, 0⟩, ⟨16, 16, .ro, 0⟩]⟩,
  ⟨"THM_FLAGS", 0x4c0004, 1, 0x0, [⟨0, 1, .w1c, 0⟩, ⟨1, 1, .w1c, 0⟩, ⟨2, 1, .w1c, 0⟩]⟩,
  ⟨"THM_LAST", 0x4c0008, 1, 0x0, [⟨0, 16, .ro, 0⟩, ⟨16, 5, .ro, 0⟩, ⟨21, 1, .ro, 0⟩, ⟨24, 2, .ro, 0⟩]⟩,
  ⟨"THM_CNT", 0x4c000c, 1, 0x0, [⟨0, 16, .ro, 0⟩, ⟨16, 16, .ro, 0⟩]⟩,
  ⟨"THM_T", 0x4c0100, 24, 0x4, [⟨0, 16, .ro, 0⟩, ⟨16, 16, .ro, 0⟩]⟩]

/-- Every register of the module (R574). -/
def regTable : List RegDef :=
  regsSys ++ regsSvc ++ regsLds ++ regsGrn ++ regsSlt ++ regsStr ++ regsGeo ++ regsQry ++ regsDma ++ regsAir ++ regsSpn ++ regsFlt ++ regsThm

/-- The register at a byte address, and the number of its instance; none outside every register (R573). -/
def findReg (a : Nat) : Option (RegDef × Nat) :=
  (regTable.find? (fun r => if r.count = 1 then a == r.base else r.base ≤ a && (a - r.base) % r.stride == 0 && (a - r.base) / r.stride < r.count)).map
    (fun r => (r, if r.count = 1 then 0 else (a - r.base) / r.stride))

/-- The reset word of a register. -/
def RegDef.resetWord (r : RegDef) : Nat := r.fields.foldl (fun v f => v + f.rst * 2 ^ f.lo) 0

end Sys2Proof.Machine
end

