-- ==== Sys2Proof/Machine/Ring.lean ====
section
/-!
DEFINITION. Machine/Ring.lean: spine addresses and routes, protection of spine messages, and the way of a packet of an association (R475 to R482).
-/
namespace Sys2Proof.Machine

/-- Change the spine. -/
def State.sp (s : State) (f : Spine → Spine) : State := { s with spn := f s.spn }

/-- A spine port. -/
def State.spPort (s : State) (east : Bool) : SpPort := if east then s.spn.east else s.spn.west

/-- Change a spine port. -/
def State.modSp (s : State) (east : Bool) (f : SpPort → SpPort) : State :=
  s.sp (fun x => if east then { x with east := f x.east } else { x with west := f x.west })

/-- Port code of a spine port (R140). -/
def spCode (east : Bool) : Nat := if east then 0x0110 else 0x0111

/-- N of the RING_TABLE. -/
def State.ringSize (s : State) : Nat := (s.spn.table.map (·.mods.length)).getD 0

/-- Own position, while the RING_TABLE names the module (R480). -/
def State.spinePos (s : State) : Option Nat :=
  match s.spn.ring, s.spn.table with
  | some _, some t => t.mods.findIdx? (fun m => m.1 == Config.moduleEui)
  | _, _ => none

/-- Own spine address: ring × 64 + position (R13); 0 while there is none (R475). -/
def State.spineAddr (s : State) : Nat := match s.spinePos with | some p => s.spn.ring.getD 0 * 64 + p | none => 0

/-- Ports up at a position: its own at this module, else as its last LINK_NOTICE says (R481). -/
def State.portsUp (s : State) (p : Nat) : Bool × Bool :=
  if s.spinePos = some p then (s.spn.east.up, s.spn.west.up) else tgetD s.spn.notices p (true, true)

/-- The link from position `i` to the next one eastward is up. -/
def State.ringLink (s : State) (i : Nat) : Bool :=
  let n := s.ringSize
  (s.portsUp (i % n)).1 && (s.portsUp ((i + 1) % n)).2

/-- Modules reachable eastward or westward before a down link (R481, R493), with fuel. -/
def reachFrom (s : State) (p : Nat) (east : Bool) : Nat → Nat
  | 0 => 0
  | k + 1 =>
    let n := s.ringSize
    let up := if east then s.ringLink p else s.ringLink (p + n - 1)
    if up then 1 + reachFrom s (if east then (p + 1) % n else (p + n - 1) % n) east k else 0

/-- The ring is folded: a link of it is down (R481). -/
def State.folded (s : State) : Bool := s.ringSize > 1 && (List.range s.ringSize).any (fun i => !s.ringLink i)

/-- The way to a position: eastward (true) or westward; the shorter one on a closed ring, east when equal; none when no way exists (R481). -/
def State.spineWay (s : State) (q : Nat) : Option Bool :=
  match s.spinePos with
  | none => none
  | some p =>
    let n := s.ringSize
    if q ≥ n || q = p then none
    else
      let d := (q + n - p) % n
      if !s.folded then some (d ≤ n - d)
      else if d ≤ reachFrom s p true (n - 1) then some true
      else if n - d ≤ reachFrom s p false (n - 1) then some false
      else none

/-- The way to a spine address of the own ring. -/
def State.wayTo (s : State) (a : Nat) : Option Bool := if s.spn.ring = some (a / 64) then s.spineWay (a % 64) else none

/-- Not more than 24 h have passed since a sweep's T (R487, R489). -/
def State.within24 (s : State) (t : Nat) : Bool := s.frm.now * 10000000 ≤ t + 86400000000000

/-- Count in SPN_DROP.OTHER (R493). -/
def spOther (s : State) : State := s.count aSpnDrop 24 8

/-! ### Messages (R475, R476) -/

/-- The 24-byte header. -/
def spHeader (east : Bool) (ty ttl dest src : Nat) (urgent : Bool) (len laid ctr : Nat) : Bytes :=
  [byte (0x20 + Config.spineMinor % 16), byte ty, byte ttl, byte (b2n (!east) + 2 * b2n urgent)]
    ++ beBytes 2 dest ++ beBytes 2 src ++ beBytes 2 len ++ [0, 0] ++ beBytes 4 laid ++ beBytes 8 ctr

/-- The Ethernet frame of a message: destination, the port's own address, EtherType 0x88B6, the message, and zero padding to the minimum frame size. -/
def spEther (east : Bool) (msg : Bytes) : Bytes :=
  beBytes 6 0x035A4D535000 ++ beBytes 6 (Config.portMac (spCode east)) ++ beBytes 2 0x88B6 ++ msg ++ List.replicate (46 - msg.length) 0

/-- The frame of a protected message: nonce LAID and CTR, the header as additional data. -/
def spSealed (east : Bool) (ty ttl dest src : Nat) (urgent : Bool) (laid ctr : Nat) (key body : Bytes) : Bytes :=
  let hdr := spHeader east ty ttl dest src urgent (40 + body.length) laid ctr
  spEther east (hdr ++ beBytes (body.length + 16) (Config.aesGcm key (beBytes 4 laid ++ beBytes 8 ctr) hdr body))

/-- The frame of LINK_INIT or LINK_RESP. -/
def spClear (east : Bool) (ty src : Nat) (body : Bytes) : Bytes := spEther east (spHeader east ty 0 0 src false (24 + body.length) 0 0 ++ body)

/-- Put a message on a link: CTR rises by one, and the message with CTR 2^64 - 1 is the last under its key (R211, R212, R476). -/
def spTx (east : Bool) (ty ttl dest src : Nat) (urgent : Bool) (args : List Nat) (body : Bytes) (s : State) : State :=
  match (s.spPort east).assoc with
  | none => s
  | some a => guardS (a.tx + 1 < 2 ^ 64) (fun s =>
    (s.modSp east (fun p => { p with assoc := some { a with tx := a.tx + 1 } })).send .spine (spCode east)
      ([ty, ttl, dest, src, b2n urgent, a.laid, a.tx + 1] ++ args) (spSealed east ty ttl dest src urgent a.laid (a.tx + 1) a.key body)) s

/-- Send a message out of a port that is up. -/
def spOut (east : Bool) (ty ttl dest src : Nat) (urgent : Bool) (args : List Nat) (body : Bytes) (s : State) : State :=
  if (s.spPort east).up then spTx east ty ttl dest src urgent args body s else s

/-- Send to one module by its route; no way: discarded and counted (R481). -/
def spTo (a ty ttl src : Nat) (urgent : Bool) (args : List Nat) (body : Bytes) (s : State) : State :=
  match s.wayTo a with
  | some e => if (s.spPort e).up then spTx e ty ttl a src urgent args body s else spOther s
  | none => spOther s

/-- Send to ALL out of both ports (R477). -/
def spAll (ty : Nat) (args : List Nat) (body : Bytes) (s : State) : State :=
  spOut false ty 63 0x8000 s.spineAddr false args body (spOut true ty 63 0x8000 s.spineAddr false args body s)

/-- A message that arrives is accepted under the link's association, or under the old one while it lasts (R211, R212, R476). -/
def spAccept (east : Bool) (h : SpHdr) (s : State) : State × Bool :=
  let bad := (s.count aSpnDrop 0 16, false)
  let p := s.spPort east
  let fresh (a : SpAssoc) : Bool := !(h.ctr + 64 < a.high || h.ctr = a.high || a.seen.contains h.ctr)
  let use (a : SpAssoc) : SpAssoc :=
    let hi := max a.high h.ctr
    { a with high := hi, seen := ((if h.ctr < a.high then h.ctr else a.high) :: a.seen).filter (fun c => c + 64 ≥ hi && c < hi) }
  if !h.ok || p.refused then bad
  else match p.assoc, p.old with
    | some a, old =>
      if a.laid = h.laid then (if fresh a then (s.modSp east (fun p => { p with assoc := some (use a) }), true) else bad)
      else match old with
        | some (o, t) =>
          if o.laid = h.laid && s.frm.now < t && fresh o then (s.modSp east (fun p => { p with old := some (use o, t) }), true) else bad
        | none => bad
    | none, _ => bad

/-- The message is addressed to this module. -/
def State.spMine (s : State) (h : SpHdr) : Bool :=
  match h.dest with
  | none => true
  | some a => s.spinePos.isSome && a == s.spineAddr

/-- Forward a message to ALL away from its sender; the sender's own does not go round again. -/
def spForwardAll (east : Bool) (h : SpHdr) (ty : Nat) (args : List Nat) (body : Bytes) (s : State) : State :=
  if s.spinePos.isSome && h.src == s.spineAddr then s
  else if h.ttl = 0 then s
  else spOut (!east) ty (h.ttl - 1) 0x8000 h.src h.urgent args body s

/-- Pass a message on to the next module, hop by hop; with TTL 0 it ends here and is counted (R476, R477). -/
def spOnward (east : Bool) (h : SpHdr) (ty : Nat) (args : List Nat) (body : Bytes) (s : State) : State :=
  if h.ttl = 0 then s.count aSpnDrop 16 8 else spOut (!east) ty (h.ttl - 1) 0 h.src false args body s

/-- Forward a message to its addressee: TTL is lowered by one, and at 0 the message is discarded and counted (R476, R477). -/
def spForward (h : SpHdr) (ty : Nat) (args : List Nat) (body : Bytes) (s : State) : State :=
  if h.ttl = 0 then s.count aSpnDrop 16 8
  else spTo (h.dest.getD 0) ty (h.ttl - 1) h.src h.urgent args body s

/-- An IPv6 fragment on port 49400 is discarded and counted in SVC_FRAG_DROP (R129). -/
def dropFragment (s : State) : State := s.count aSvcFragDrop 0 32

/-! ### Control shares (R415) -/

/-- Bytes on the wire: a packet has 77 bytes of IPv6, UDP and DTLS headers and 38 of Ethernet overhead (R415). -/
def wireLen : Out → Nat
  | .packet _ b => b.length + 115
  | .msg _ dst args _ => Config.flightLen dst args

/-- Time in ps that `len` bytes take at a vCtl's control share of 500 + 3,750 × R′ / P kbit/s (R415); a name of no vCtl has R′ = 0. -/
def State.ctlPs (s : State) (v len : Nat) : Nat :=
  let (r, p) := match s.vctl? v with | some c => (c.q.refill, 2 ^ c.q.logP) | none => (0, 1)
  8 * len * 1000000000 * p / (500 * p + 3750 * r)

/-- The frame that becomes the head of its vCtl's at `t` ps gets its tag F = max(t, F_prev) + 8 L / c (R413, R415). -/
def tagCtl (s : State) (v t : Nat) (p : QPort) : QPort :=
  match p.ctl.find? (fun f => f.vctl == v) with
  | none => p
  | some h =>
    if h.tag.isSome then p
    else
      let tag := max t (tgetD p.ctlPrev v 0) + s.ctlPs v h.len
      let rest := (p.ctl.dropWhile (fun f => f.vctl != v)).drop 1
      { p with ctl := p.ctl.takeWhile (fun f => f.vctl != v) ++ { h with tag := some tag } :: rest, ctlPrev := tset p.ctlPrev v tag }

/-- The bytes of a packet or of a handshake message. -/
def outBytes : Out → Bytes
  | .packet _ b => b
  | .msg _ _ _ d => d

/-- A packet or a handshake message is released to TC5 of an uplink (R412, R415). -/
def queueCtl (u v : Nat) (o : Out) (s : State) : State :=
  let put (p : QPort) : QPort := tagCtl s v (s.ns * 1000) { p with ctl := p.ctl ++ [⟨v, wireLen o, none, outBytes o⟩] }
  { s with qry := { s.qry with ports := tupd s.qry.ports (0x100 + u) {} put } }

/-- Put a packet of an association on its path: an uplink and the spine carry nothing in MAINTENANCE (R525), and on the spine path it leaves in a
RELAY message to the entry module of its latest packet, and is discarded and counted when no route to it exists (R482). -/
def sendVia (p : Path) (key : Nat) (o : Out) (s : State) : State :=
  match p with
  | .service => s.emit o
  | .ux1 => s.emit o
  | .uplink u => if s.inLight then (queueCtl u key o s).emit o else s
  | .spine =>
    if !s.inLight then s
    else match tget s.spn.entry key with
      | some e =>
        if (s.wayTo e).any (fun d => (s.spPort d).up) then
          (spTo e 0x20 63 s.spineAddr false [] (Config.ipPacket key ((tget s.ses.assoc key).map (·.sent) |>.getD 0) (outBytes o)) s).emit o
        else spOther s
      | none => spOther s

/-- Send a packet as one record of an association, which counts under its traffic key (R129, R134). -/
def State.emitOn (s : State) (k : AssocKey) (o : Out) : State :=
  match tget s.ses.assoc (evKey k) with
  | some a =>
    sendVia a.path (evKey k) o
      { s with ses := { s.ses with assoc := tset s.ses.assoc (evKey k) { a with sent := a.sent + 1 } } }
  | none => s.emit o

end Sys2Proof.Machine
end

