-- ==== Sys2Proof/Machine/Operands.lean ====
section
/-!
DEFINITION. Machine/Operands.lean: the TLVs of a command, its endpoints, and its reply entry (R139 to R146, R158).
-/
namespace Sys2Proof.Machine

/-- The value of the first TLV of an identity. -/
def Cmd.tlv? (c : Cmd) (id : Nat) : Option Bytes := (c.tlvs.find? (fun t => t.1 == id)).map (·.2)

/-- The values of every TLV of an identity, in order. -/
def Cmd.all (c : Cmd) (id : Nat) : List Bytes := (c.tlvs.filter (fun t => t.1 == id)).map (·.2)

/-- The command carries the identity. -/
def Cmd.has (c : Cmd) (id : Nat) : Bool := (c.tlv? id).isSome

/-- The first TLV of an identity as a number. -/
def Cmd.nat? (c : Cmd) (id : Nat) : Option Nat := (c.tlv? id).map beNat

/-- The first TLV of an identity as a number, or `d`. -/
def Cmd.nat (c : Cmd) (id : Nat) (d : Nat := 0) : Nat := (c.nat? id).getD d

/-- The first TLV of an identity as a signed number, or `d`. -/
def Cmd.int (c : Cmd) (id : Nat) (d : Int := 0) : Int := ((c.tlv? id).map beInt).getD d

/-- The entries of a list TLV whose entries have `n` bytes. -/
def Cmd.list (c : Cmd) (id n : Nat) : List Nat := beNats n ((c.tlv? id).getD [])

/-- The `k`-th CODE of the command; its meaning goes by position (R140). -/
def Cmd.code? (c : Cmd) (k : Nat) : Option Nat := ((c.all 0x000D)[k]?).map beNat

/-- The vCtl the command acts for. -/
def Cmd.vctl (c : Cmd) : Nat := actsFor c.key

/-- The reply entry of a command: the flags and TLVs fixed at acceptance are kept, and NO_DATA drops every TLV but DETAIL (R143). -/
def Cmd.reply (c : Cmd) (status : Nat) (flags : Nat := 0) (tlvs : List OTlv := []) : Reply :=
  { op := c.op, cmdid := c.cmdid, status := status, flags := c.flags ||| flags,
    tlvs := if c.noData then tlvs.filter (fun t => t.1 == 0x000A) else tlvs ++ c.pre }

/-- OK. -/
def Cmd.ok (c : Cmd) (tlvs : List OTlv := []) (flags : Nat := 0) : Reply := c.reply stOk flags tlvs

/-- OK with PENDING: the result follows as a RESULT event (R146). -/
def Cmd.pend (c : Cmd) (tlvs : List OTlv := []) : Reply := c.reply stOk rfPending tlvs

/-- A refused command: its status and the TLVs of its entry. -/
structure Err where
  /-- STATUS -/
  status : Nat
  /-- TLVs -/
  tlvs : List OTlv := []
deriving DecidableEq, Repr

/-- PARAM_RANGE with DETAIL (R155). -/
def eRange (id : Nat) (ix : Nat := 0) : Err := ⟨stParamRange, [tDetail id ix]⟩

/-- CONFIG_REFUSED with DETAIL. -/
def eConfig (id : Nat) (ix : Nat := 0) : Err := ⟨stConfigRefused, [tDetail id ix]⟩

/-- A status alone. -/
def eStat (st : Nat) : Err := ⟨st, []⟩

/-- Refuse unless `p` holds. -/
def need (p : Bool) (e : Err) : Except Err Unit := if p then .ok () else .error e

/-- A TLV that the others of its command make required is there: TLV_MISSING otherwise (R139). -/
def orMissing (p : Bool) (id : Nat) : Except Err Unit := need p ⟨stTlvMissing, [tDetail id 0]⟩

/-- The reply of a refusal at commit. -/
def Cmd.err (c : Cmd) (e : Err) : Reply := c.reply e.status 0 e.tlvs

/-- LEVEL as a slate code: under 2.x, tenths of a percent times 64 (R158). -/
def Cmd.level? (c : Cmd) : Option Nat := (c.nat? 0x0003).map (fun v => if c.major = 2 then v * 64 else v)

/-- A level code as reported under the negotiated major (R158). -/
def Cmd.levelOut (c : Cmd) (v : Nat) : Nat :=
  if c.major = 2 then (if v ≥ 0xFFFD then v else (v + 32) / 64) else v

/-- Size of a reply entry or an event record of `h` header bytes (R143, R147): TLVs are padded to 4 bytes (R139). -/
def entrySize (h : Nat) (tlvs : List OTlv) : Nat := tlvs.foldl (fun n t => n + 4 + (t.2.length + 3) / 4 * 4) h

/-- TLVs of an entry as far as they fit its 1,176 bytes, in order (R145). -/
def fitEntry (used : Nat) : List OTlv → List OTlv
  | [] => []
  | t :: r =>
    let n := used + 4 + (t.2.length + 3) / 4 * 4
    if n ≤ 1176 then t :: fitEntry n r else fitEntry used r

/-- Cut entries into parts of at most `room` bytes each, whole entries only (R145); `sz` gives the size of an entry. -/
def cutParts {α : Type} (sz : α → Nat) (room : Nat) : List α → List α → Nat → List (List α)
  | [], cur, _ => if cur.isEmpty then [] else [cur]
  | x :: r, cur, used =>
    if cur.isEmpty || used + sz x ≤ room then cutParts sz room r (cur ++ [x]) (used + sz x)
    else cur :: cutParts sz room r [x] (sz x)

/-- How the value of a TLV suits its type (R139). -/
inductive Shape where
  /-- exactly `n` bytes -/
  | fixed (n : Nat)
  /-- entries of `n` bytes, from `lo` to `hi` of them -/
  | list (n lo hi : Nat)
  /-- from `lo` to `hi` bytes -/
  | bytes (lo hi : Nat)
deriving DecidableEq, Repr

/-- The definition of one TLV for an opcode. -/
structure TSpec where
  /-- identity -/
  id : Nat
  /-- shape of its value -/
  shape : Shape
  /-- required -/
  req : Bool := false
  /-- may repeat -/
  rep : Bool := false
  /-- least value of a fixed TLV -/
  lo : Nat := 0
  /-- largest value of a fixed TLV of at most 8 bytes -/
  hi : Nat := 2 ^ 64 - 1
deriving DecidableEq, Repr

/-- The length suits the type; otherwise TLV_MALFORMED (R139). -/
def shapeOk (sh : Shape) (b : Bytes) : Bool :=
  match sh with
  | .fixed n => b.length == n
  | .list n _ _ => n != 0 && b.length % n == 0
  | .bytes _ _ => true

/-- The value lies in the range of its definition; otherwise PARAM_RANGE (R139). -/
def rangeOk (sp : TSpec) (b : Bytes) : Bool :=
  match sp.shape with
  | .fixed n => n > 8 || (sp.lo ≤ beNat b && beNat b ≤ sp.hi)
  | .list n lo hi => lo ≤ b.length / n && b.length / n ≤ hi
  | .bytes lo hi => lo ≤ b.length && b.length ≤ hi

/-- Common TLVs by their definitions (R140). -/
def cEp : TSpec := { id := 0x0001, shape := .list 4 1 256 }
/-- GROUP. -/
def cGroup : TSpec := { id := 0x0002, shape := .fixed 2, hi := 1023 }
/-- LEVEL; its range depends on the opcode. -/
def cLevel : TSpec := { id := 0x0003, shape := .fixed 2 }
/-- FRAMES. -/
def cFrames : TSpec := { id := 0x0004, shape := .fixed 4, hi := 8640000 }
/-- CODE. -/
def cCode (hi : Nat) : TSpec := { id := 0x000D, shape := .fixed 1, hi := hi }
/-- VALUE. -/
def cValue : TSpec := { id := 0x000C, shape := .fixed 8 }
/-- FRAME. -/
def cFrame : TSpec := { id := 0x000E, shape := .fixed 8 }
/-- COUNT. -/
def cCount (lo hi : Nat) : TSpec := { id := 0x000F, shape := .fixed 4, lo := lo, hi := hi }
/-- PORT. -/
def cPort : TSpec := { id := 0x000B, shape := .fixed 2 }
/-- DATA. -/
def cData (hi : Nat) : TSpec := { id := 0x0009, shape := .bytes 0 hi }
/-- BITMAP. -/
def cBitmap (n : Nat) : TSpec := { id := 0x0010, shape := .fixed n }
/-- ADDRESS. -/
def cAddress : TSpec := { id := 0x0011, shape := .fixed 4 }
/-- A TLV of `n` bytes with values from `lo` to `hi`. -/
def tFix (id n lo hi : Nat) : TSpec := { id := id, shape := .fixed n, lo := lo, hi := hi }
/-- A TLV of bytes. -/
def tByt (id lo hi : Nat) : TSpec := { id := id, shape := .bytes lo hi }
/-- A list TLV. -/
def tLst (id n lo hi : Nat) : TSpec := { id := id, shape := .list n lo hi }
/-- Required. -/
def TSpec.must (t : TSpec) : TSpec := { t with req := true }
/-- May repeat. -/
def TSpec.many (t : TSpec) : TSpec := { t with rep := true }

/-- The endpoint of a local number of a vCtl: PARAM_RANGE beyond its count, ENDPOINT_UNKNOWN for a void (R140, R164). -/
def State.resolve (s : State) (v l : Nat) : Except Nat Nat :=
  if v = 0 then (if hRealm l ≥ 2 then .error stParamRange else .ok l)
  else match s.vctl? v with
    | none => .error stParamRange
    | some c => match c.view[l]? with
      | none => .error stParamRange
      | some (.void _) => .error stEndpointUnknown
      | some (.live h) => .ok h

end Sys2Proof.Machine
end

