-- ==== Sys2Proof/Machine/Wire.lean ====
section
/-!
DEFINITION. Machine/Wire.lean: the bytes of reply and event packets (R5, R135, R139, R143, R147), and how entries are packed into parts (R145).
-/
namespace Sys2Proof.Machine

/-! ### Layouts -/

/-- A TLV: type, length, value, and zero padding to a multiple of 4 bytes (R139). -/
def tlvBytes (t : OTlv) : Bytes := beBytes 2 t.1 ++ beBytes 2 t.2.length ++ t.2 ++ List.replicate ((4 - t.2.length % 4) % 4) 0

/-- The 16-byte header of a packet that the module sends (R135). -/
def packetHeader (ver : Nat × Nat) (vctl flags seq len part : Nat) : Bytes :=
  beBytes 2 0x5A43 ++ [byte ver.1, byte ver.2] ++ beBytes 2 vctl ++ beBytes 2 flags ++ beBytes 4 seq ++ beBytes 2 len ++ [byte part, 0]

/-- Size of a reply entry. -/
def Reply.size (r : Reply) : Nat := entrySize 12 r.tlvs

/-- A reply entry: its 12-byte header and its TLVs (R143). -/
def Reply.bytes (r : Reply) : Bytes :=
  beBytes 2 r.op ++ beBytes 2 r.size ++ beBytes 2 r.cmdid ++ beBytes 2 r.status ++ beBytes 2 r.flags ++ [0, 0] ++ r.tlvs.flatMap tlvBytes

/-- Size of an event record. -/
def EvRec.size (r : EvRec) : Nat := entrySize 16 r.tlvs

/-- An event record: its 16-byte header and its TLVs (R147). -/
def EvRec.bytes (r : EvRec) : Bytes :=
  beBytes 2 r.code ++ beBytes 2 r.size ++ beBytes 4 r.eseq ++ beBytes 8 r.frame ++ r.tlvs.flatMap tlvBytes

/-- A packet: header and body; `kind` is the bit of FLAGS that tells a reply (1) from an event packet (2), and bit 2 is MORE. -/
def packetOf (kind : Nat) (key : AssocKey) (ver : Nat × Nat) (seq part : Nat) (more : Bool) (body : Bytes) : Bytes :=
  packetHeader ver (actsFor key) (kind + 4 * b2n more) seq (16 + body.length) part ++ body

/-- One part of a reply packet (R142 to R145). -/
def replyPacket (key : AssocKey) (ver : Nat × Nat) (seq part : Nat) (more : Bool) (rs : List Reply) : Bytes :=
  packetOf 1 key ver seq part more (rs.flatMap Reply.bytes)

/-- One part of an event packet (R147, R148). -/
def eventPacket (key : AssocKey) (ver : Nat × Nat) (seq part : Nat) (more : Bool) (rs : List EvRec) : Bytes :=
  packetOf 2 key ver seq part more (rs.flatMap EvRec.bytes)

/-! ### Parts (R145) -/

/-- Bytes of the largest reply or event part of an association (R130, R145). -/
def Assoc.room (a : Assoc) : Nat := if a.major = 2 then 1200 else max 1200 a.maxPkt

/-- Parts that a reply or an event packet may have: one under 2.x and without MULTI_PART (R145, R157). -/
def Assoc.parts (a : Assoc) : Nat := if a.major = 3 && bit a.caps 1 then 255 else 1

/-- The 12-byte entry that stands for one that does not fit. -/
def Reply.tooLarge (r : Reply) : Reply := { r with status := stReplyTooLarge, tlvs := [] }

/-- The entry as it goes into the last part, `rest` entries of at least 12 bytes to follow. -/
def Reply.last (r : Reply) (left rest : Nat) : Reply := if r.size + 12 * rest ≤ left then r else r.tooLarge

/-- Pack entries into parts of `cap` bytes, `k` more parts after the present one. -/
def packGo (cap : Nat) : Nat → Nat → List Reply → List Reply → List (List Reply)
  | _, _, cur, [] => [cur]
  | 0, used, cur, r :: rs =>
    let r := r.last (cap - used) rs.length
    packGo cap 0 (used + r.size) (cur ++ [r]) rs
  | k + 1, used, cur, r :: rs =>
    if used + r.size ≤ cap then packGo cap (k + 1) (used + r.size) (cur ++ [r]) rs
    else
      let r := if k = 0 then r.last cap rs.length else r
      cur :: packGo cap k r.size [r] rs

/-- No entry exceeds 1,176 bytes. -/
def Reply.held (r : Reply) : Reply := if r.size ≤ 1176 then r else r.tooLarge

/-- The parts of a reply on an association. -/
def packReply (a : Assoc) (rs : List Reply) : List (List Reply) := packGo (a.room - 16) (a.parts - 1) 0 [] (rs.map Reply.held)

end Sys2Proof.Machine
end

