-- ==== Sys2Proof/Machine/Exam.lean ====
section
/-!
DEFINITION. Machine/Exam.lean: the examination of a command (R141), its tokens (R115, R116, R174), and how one command runs.
-/
namespace Sys2Proof.Machine

/-- The right an opcode needs (R153, R167). -/
inductive Need where
  /-- every vCtl -/
  | any
  /-- vCtl 0 alone -/
  | owner
  /-- endpoint right `k` on every endpoint it names -/
  | ep (k : Nat)
  /-- module-wide right `k` -/
  | mod (k : Nat)
  /-- the owner, or a granted register window -/
  | window
deriving DecidableEq, Repr

/-- Which service sessions accept an opcode (R537). -/
inductive SvcNeed where
  /-- none -/
  | never
  /-- all of them -/
  | any
  /-- those with role bit `k` -/
  | role (k : Nat)
deriving DecidableEq, Repr

/-- All that decides an opcode: its right, cost, TLVs, and what it does. -/
structure OpInfo where
  /-- opcode -/
  op : Nat
  /-- right -/
  need : Need
  /-- cost in command units -/
  cost : Cmd → Nat := fun _ => 1
  /-- the TLVs it defines -/
  specs : List TSpec := []
  /-- capability bit it needs beyond EXPERT (R157) -/
  cap : Option Nat := none
  /-- admitted in MAINTENANCE (R525) -/
  maint : Cmd → Bool := fun _ => false
  /-- admitted while the module is unclaimed (R536) -/
  unclaimed : Cmd → Bool := fun _ => false
  /-- service sessions that accept it -/
  svc : SvcNeed := .never
  /-- EP_LIST entries are refused as R199 states -/
  reach : Bool := true
  /-- TLVs that others of the command make required (R141, 1) -/
  form : Cmd → Except Err Unit := fun _ => .ok ()
  /-- further checks of the path (R141, 3) -/
  path : Cmd → Path → Except Err Unit := fun _ _ => .ok ()
  /-- further checks of rights (R141, 3), made again at the commit (R170) -/
  rights : Cmd → State → Except Err Unit := fun _ _ => .ok ()
  /-- further parameter ranges (R141, 4) -/
  ranges : Cmd → State → Except Err Unit := fun _ _ => .ok ()
  /-- state conditions of the deciding chapter (R141, 5), and the pool quotas (R141, 6) -/
  accept : Cmd → State → Except Err Unit := fun _ _ => .ok ()
  /-- the effect at commit, and the reply entry -/
  commit : Cmd → State → State × Reply
  /-- the effect takes place at acceptance, before any later command is examined (R134, R156) -/
  early : Bool := false

/-- Opcodes available under 2.x (R158). -/
def under2 (op : Nat) : Bool := op < 0x1000 || (0x8001 ≤ op && op ≤ 0x8007)

/-- The TLVs an opcode defines, and the identities it ignores; TLV_MUST_UNDERSTAND, TLV_MALFORMED and TLV_MISSING (R139). A type that is not defined and is
ignored may come twice: it is then listed twice in IGNORED_TYPES (DESIGN CHOICE, log 11). -/
def checkFormat (i : OpInfo) (tlvs : List Tlv) : Except Err (List (Nat × Bytes) × List Nat) :=
  let known := tlvs.filter (fun t => i.specs.any (fun sp => sp.id == t.id))
  let unknown := tlvs.filter (fun t => !i.specs.any (fun sp => sp.id == t.id))
  let bad (t : Tlv) : Bool := i.specs.any (fun sp => sp.id == t.id && !shapeOk sp.shape t.val)
  let twice (sp : TSpec) : Bool := !sp.rep && (known.filter (fun t => t.id == sp.id)).length > 1
  match unknown.find? (fun t => t.must) with
  | some t => .error ⟨stTlvMustUnderstand, [tDetail t.id 0]⟩
  | none => match known.find? bad with
    | some t => .error ⟨stTlvMalformed, [tDetail t.id 0]⟩
    | none => match i.specs.find? twice with
      | some sp => .error ⟨stTlvMalformed, [tDetail sp.id 0]⟩
      | none => match i.specs.find? (fun sp => sp.req && !known.any (fun t => t.id == sp.id)) with
        | some sp => .error ⟨stTlvMissing, [tDetail sp.id 0]⟩
        | none => .ok (known.map (fun t => (t.id, t.val)), unknown.map (·.id))

/-- Version and capabilities (R141 step 2, R156 to R158). -/
def checkVersion (i : OpInfo) (a : Assoc) : Except Err Unit := do
  if a.major = 2 then need (under2 i.op) (eStat stFeatureNotNegotiated)
  else do
    need (!(0x1000 ≤ i.op && i.op < 0x2000) || bit a.caps 0) (eStat stFeatureNotNegotiated)
    need (match i.cap with | some k => bit a.caps k | none => true) (eStat stFeatureNotNegotiated)

/-- The path is the service link or UX1. -/
def isServicePath : Path → Bool
  | .service => true
  | .ux1 => true
  | _ => false

/-- The path carries packets: the service domain runs, and the uplinks and the spine carry nothing in MAINTENANCE (R525). -/
def State.pathUp (s : State) (p : Path) : Bool := s.level ≥ 1 && (isServicePath p || s.inLight)

/-- The role mask of a service session, read from its credential now (R537). -/
def State.roleMask (s : State) (i : Nat) : Nat := ((tget s.boot.creds i).map (·.roles)).getD 0

/-- Rights of the vCtl and the path (R141 step 3; R151, R153, R167, R525, R536, R537). -/
def checkRights (i : OpInfo) (c : Cmd) (a : Assoc) (s : State) : Except Err Unit := do
  need (!(0xF000 ≤ i.op && i.op ≤ 0xF0FF) || isServicePath a.path) (eStat stServiceLinkOnly)
  need (!s.unclaimed || !isServicePath a.path || c.key != .vctl 0 || i.unclaimed c) (eStat stRightMissing)
  need (!s.inMaint || i.maint c) (eStat stMaintenanceOnly)
  match c.key with
  | .svc k => match i.svc with
    | .never => .error (eStat stRightMissing)
    | .any => .ok ()
    | .role r => need (bit (s.roleMask k) r) (eStat stRightMissing)
  | .vctl v => match i.need with
    | .any => .ok ()
    | .owner => need (v == 0) (eStat stOwnerOnly)
    | .mod k => need (s.hasMod v k) (eStat stRightMissing)
    | .window => .ok ()
    | .ep k => match c.eps.zipIdx.find? (fun e => !s.hasEp v e.1 k) with
      | some e => .error ⟨stRightMissing, [tDetail 1 e.2]⟩
      | none => .ok ()

/-- Ranges of the TLVs the opcode defines (R141 step 4). -/
def checkRanges (i : OpInfo) (c : Cmd) : Except Err Unit :=
  match c.tlvs.find? (fun t => i.specs.any (fun sp => sp.id == t.1 && !rangeOk sp t.2)) with
  | some t => .error (eRange t.1)
  | none => .ok ()

/-- The first refused entry of EP_LIST: beyond the count (step 4) or void (step 5). -/
def checkLocals (s : State) (v : Nat) (ls : List Nat) (st : Nat) : Except Err Unit :=
  match ls.zipIdx.find? (fun e => match s.resolve v e.1 with | .error x => x == st | .ok _ => false) with
  | some e => .error ⟨st, [tDetail 1 e.2]⟩
  | none => .ok ()

/-- The first endpoint refused under R199; `id` is the TLV that names it. -/
def checkReach (s : State) (eps : List Nat) (id : Nat := 1) : Except Err Unit :=
  match eps.zipIdx.find? (fun e => s.epStatus e.1 != stOk) with
  | some e => .error ⟨s.epStatus e.1, [tDetail id e.2]⟩
  | none => .ok ()

/-! ### Tokens -/

/-- Frame `f` is a turn frame of a vCtl (R173). -/
def turnFrame (c : VCtl) (f : Nat) : Bool := f % 2 ^ c.q.logP == c.phase

/-- The allowance of a turn frame: min(B, R' × C / 2,000) (R115, R174). -/
def turnAllow (c : VCtl) (cap : Nat) : Nat := min c.q.burst (c.q.refill * cap / 2000)

/-- The first turn frame from `f` on. -/
def nextTurn (c : VCtl) (f : Nat) : Nat := f + (c.phase + 2 ^ c.q.logP - f % 2 ^ c.q.logP) % 2 ^ c.q.logP

/-- The first frame after `f` in which a command of cost `k` would pass if the vCtl spent nothing before it; none when no frame would (R174). -/
def firstFrame (c : VCtl) (cap f k : Nat) : Option Nat :=
  if k > c.q.burst || k > turnAllow c cap then none
  else
    let j := max 1 (cdiv (k - c.tokens) c.q.refill)
    some (nextTurn c (f + 1) + (j - 1) * 2 ^ c.q.logP)

/-- Tokens and the frame allowance (R141 step 6, R174); in MAINTENANCE at most 16 commands of an association per frame (R116). -/
def checkTokens (s : State) (c : Cmd) (a : Assoc) (k : Nat) : Except Err Unit :=
  if s.inMaint then need (a.accepted < 16) ⟨stTokensExhausted, [tFrame (s.frm.now + 1)]⟩
  else match s.vctl? c.vctl with
    | none => .error (eStat stTokensExhausted)
    | some v =>
      if k ≤ v.tokens && v.spent + k ≤ v.allow then .ok ()
      else if k = 0 then .ok ()
      else .error ⟨stTokensExhausted, match firstFrame v s.frm.cap s.frm.now k with
        | some f => [tFrame f]
        | none => []⟩

/-- Debit the cost of an accepted command (R141, R174), and count it for R116. -/
def State.debit (s : State) (c : Cmd) (k : Nat) : State :=
  let s := { s with ses := { s.ses with assoc := tmod s.ses.assoc (assocIx c.key) (fun a => { a with accepted := a.accepted + 1 }) } }
  if s.inMaint then s else s.modVctl c.vctl (fun v => { v with tokens := v.tokens - k, spent := v.spent + k })

/-- Count a TOKENS_EXHAUSTED refusal in SYS_VCTL_REFUSE (R187). -/
def State.countRefusal (s : State) (c : Cmd) (st : Nat) : State :=
  if st = stTokensExhausted then s.modVctl c.vctl (fun v => { v with refused := satAdd 32 v.refused 1 }) else s

/-- IGNORED_TYPES, where TLVs were ignored (R139). -/
def tIgnored (ign : List Nat) : List OTlv := if ign.isEmpty then [] else [(0x0007, ign.flatMap (beBytes 2))]

/-- A command before its endpoints are resolved. -/
def rawCmd (i : OpInfo) (key : AssocKey) (seq cmdid : Nat) (noData : Bool) (flags uid : Nat) (a : Assoc) (ks : List (Nat × Bytes))
    (ign : List Nat) : Cmd :=
  { uid := uid, op := i.op, key := key, seq := seq, cmdid := cmdid, noData := noData,
    flags := flags ||| (if ign.isEmpty then 0 else rfIgnored),
    pre := tIgnored ign,
    tlvs := ks, eps := [], major := if a.major = 0 then 3 else a.major }

/-- What the first failing check of a list answers. -/
def firstFault : List (Except Err Unit) → Except Err Unit
  | [] => .ok ()
  | .ok _ :: r => firstFault r
  | .error e :: _ => .error e

/-- The command whose TLVs the format admits, with the endpoints it names as handles (R165). -/
def namedCmd (i : OpInfo) (key : AssocKey) (seq cmdid : Nat) (noData : Bool) (flags uid : Nat) (a : Assoc) (ks : List (Nat × Bytes)) (ign : List Nat)
    (s : State) : Cmd :=
  let c := rawCmd i key seq cmdid noData flags uid a ks ign
  { c with eps := (c.list 0x0001 4).filterMap (fun l => match s.resolve c.vctl l with | .ok h => some h | .error _ => none) }

/-- The checks of R141 after the format of the TLVs, in its order, tokens apart: conditional TLVs, version, rights and path, ranges, endpoints, state. -/
def examChecks (i : OpInfo) (c : Cmd) (a : Assoc) (s : State) : List (Except Err Unit) :=
  [i.form c, checkVersion i a, checkRights i c a s, i.path c a.path, i.rights c s, checkRanges i c,
   checkLocals s c.vctl (c.list 0x0001 4) stParamRange, i.ranges c s, checkLocals s c.vctl (c.list 0x0001 4) stEndpointUnknown,
   if i.reach then checkReach s c.eps else .ok (), i.accept c s]

/-- The examination of one command in the order of R141, tokens apart: the command with its endpoints resolved to handles (R165), or the
refusal. -/
def examine (i : OpInfo) (key : AssocKey) (seq cmdid : Nat) (noData : Bool) (flags uid : Nat) (a : Assoc) (tlvs : List Tlv) (s : State) :
    Except Err Cmd :=
  match checkFormat i tlvs with
  | .error e => .error e
  | .ok (ks, ign) =>
    let c := namedCmd i key seq cmdid noData flags uid a ks ign s
    match firstFault (examChecks i c a s) with
    | .error e => .error e
    | .ok _ => .ok c

/-- The opcode's role is still held by a service session at its commit (R537). -/
def roleHeld (i : OpInfo) (c : Cmd) (s : State) : Bool :=
  match c.key, i.svc with
  | .svc k, .role r => bit (s.roleMask k) r
  | .svc k, _ => (tget s.boot.creds k).isSome
  | .vctl _, _ => true

/-- The rights of the examination still stand: a right revoked by the commit is gone for the commands of that same commit (R170); a module-wide right
reaches only endpoints that are still viewed (R167). -/
def rightHeld (i : OpInfo) (c : Cmd) (s : State) : Bool :=
  match c.key with
  | .svc _ => true
  | .vctl v => (i.rights c s).toBool && match i.need with
    | .ep k => c.eps.all (fun h => s.hasEp v h k)
    | .mod k => s.hasMod v k && c.eps.all (fun h => s.hasEp v h 0)
    | _ => true

/-- Commit an accepted command: refused with RIGHT_MISSING where its right is gone (R170, R537). -/
def commitWith (i : OpInfo) (c : Cmd) (s : State) : State × Reply :=
  if roleHeld i c s && rightHeld i c s then i.commit c s else (s, c.reply stRightMissing)

/-- The identities that an opcode ignores (R139). -/
def OpInfo.ignored (i : OpInfo) (tlvs : List Tlv) : List Nat :=
  (tlvs.filter (fun t => !t.must && !i.specs.any (fun sp => sp.id == t.id))).map (·.id)

/-- The reply entry of a refusal at examination (R139, R141, R143). -/
def refusal (op cmdid : Nat) (noData : Bool) (flags : Nat) (ign : List Nat) (e : Err) : Reply :=
  let l := e.tlvs ++ tIgnored ign
  { op := op, cmdid := cmdid, status := e.status, flags := flags ||| (if ign.isEmpty then 0 else rfIgnored),
    tlvs := if noData then l.filter (fun t => t.1 == 0x000A) else l }

/-- Examine a command and debit it: the accepted command and the state after the debit, or the reply entry of its refusal. -/
def submit (i : OpInfo) (key : AssocKey) (seq cmdid : Nat) (noData : Bool) (flags : Nat) (a : Assoc) (tlvs : List Tlv) (s : State) :
    State × (Except Reply Cmd) :=
  match examine i key seq cmdid noData flags s.frm.uid a tlvs s with
  | .error e => (s, .error (refusal i.op cmdid noData flags (i.ignored tlvs) e))
  | .ok c => match checkTokens s c a (i.cost c) with
    | .error e => (s.countRefusal c e.status, .error (refusal i.op cmdid noData flags (i.ignored tlvs) e))
    | .ok _ => ({ (s.debit c (i.cost c)) with frm := { s.frm with uid := s.frm.uid + 1 } }, .ok c)

/-- The association of a key, where the module holds one. -/
def State.assoc? (s : State) (k : AssocKey) : Option Assoc := tget s.ses.assoc (assocIx k)

/-- Change an association. -/
def State.modAssoc (s : State) (k : AssocKey) (f : Assoc → Assoc) : State :=
  { s with ses := { s.ses with assoc := tmod s.ses.assoc (assocIx k) f } }

/-- The association of a table key. -/
def keyOf (n : Nat) : AssocKey := if n < 0x10000 then .vctl n else .svc (n - 0x10000)

/-- Drop an association: every reply still owed on it is discarded, its event queue and its accepted commands stay (R133). -/
def dropAssoc (n : Nat) (s : State) : State :=
  { s with
    ses := { s.ses with assoc := terase s.ses.assoc n },
    frm := { s.frm with pkts := s.frm.pkts.filter (fun p => p.key != keyOf n), dups := s.frm.dups.filter (fun d => d.1 != keyOf n) } }

/-- Close an association with close_notify. -/
def closeSession (n : Nat) (s : State) : State :=
  match tget s.ses.assoc n with
  | some a => dropAssoc n (sendVia a.path n (.msg .dtlsCloseNotify n [] []) s)
  | none => s

/-- Send KeyUpdate with update_requested on an association. -/
def sendKeyUpdate (n : Nat) (s : State) : State :=
  match tget s.ses.assoc n with
  | some a =>
    sendVia a.path n (.msg .dtlsKeyUpdate n [] [])
      { s with ses := { s.ses with assoc := tset s.ses.assoc n { a with kuDue := false, keyUpdate := true, sent := a.sent + 1 } } }
  | none => s

/-- What follows the replies of a beat 0: close_notify on associations that close, KeyUpdate where KEY_SESSION asked for it (R134, R514, R581). -/
def settle (s : State) : State :=
  s.ses.assoc.foldl (fun s e => if e.2.closing then closeSession e.1 s else if e.2.kuDue then sendKeyUpdate e.1 s else s) s

/-- An accepted SESSION_CLOSE whose reply is released closes the association (R134). -/
def noteClose (k : AssocKey) (rs : List Reply) (s : State) : State :=
  if rs.any (fun r => r.op == 2 && r.status == stOk) then s.modAssoc k (fun a => { a with closing := true }) else s

/-- The effect of an accepted command: at acceptance for an early opcode, else at its commit. -/
def perform (i : OpInfo) (c : Cmd) (s : State) : State × Reply := if i.early then i.commit c s else commitWith i c s

/-- Send the parts of a reply. -/
def sendReply (key : AssocKey) (ver : Nat × Nat) (seq : Nat) (parts : List (List Reply)) (s : State) : State :=
  parts.zipIdx.foldl (fun s p => s.emitOn key (.packet key (replyPacket key ver seq p.2 (p.2 + 1 < parts.length) p.1))) s

/-- The version of what the module sends on an association (R156): before SESSION_OPEN has fixed a major, that of a refusal to a packet of header major
`vmaj`. -/
def State.verFor (s : State) (k : AssocKey) (vmaj : Nat) : Nat × Nat :=
  let m := match s.assoc? k with | some a => if a.major = 0 then vmaj else a.major | none => vmaj
  (m, minorOf m)

/-- The reply entry of a command that comes alone: released with this beat 0, or owed for the next one (R111). -/
def answer (vmaj : Nat) (src : Src) (e : Entry) (s : State) : State :=
  match e, s.frm.beat, s.assoc? src.key with
  | .done r, 0, some a =>
    settle (noteClose src.key [r] (sendReply src.key (s.verFor src.key vmaj) src.seq (packReply a [r]) s))
  | .done _, 0, none => s
  | _, _, _ =>
    { s with frm := { s.frm with pkts := s.frm.pkts ++ [{
        key := src.key, seq := src.seq, due := s.frm.now + 1, ver := some (s.verFor src.key vmaj), keep := false, entries := [e] }] } }

/-- An accepted command waits for its commit at the next beat 0 (R111). -/
def await (c : Cmd) (s : State) : State := { s with frm := { s.frm with accepted := s.frm.accepted ++ [c] } }

/-- One command of a packet of an association in one of the phases `ph`. Within a frame it is examined and accepted, and FRAME_TICK commits it and
releases its reply. At a beat 0 the row stands for a command whose examination ends with the frame before: it is accepted, committed and answered at
this beat 0 (R111, R141, R142; log 11). A record of no association fails authentication and is discarded without reply (R136). -/
def runAs (i : OpInfo) (ph : Phase → Bool) (vmaj : Nat) (src : Src) (tlvs : List Tlv) (s : State) : State :=
  match s.assoc? src.key with
  | none => s
  | some a =>
    if !ph a.phase || !s.pathUp a.path then s
    else
      match submit i src.key src.seq src.cmdid src.noData 0 a tlvs (s.modAssoc src.key (fun a => { a with lastRx := s.frm.now })) with
      | (s1, .error r) => answer vmaj src (.done r) s1
      | (s1, .ok c) =>
        if i.early || s.frm.beat = 0 then let (s2, r) := perform i c s1; answer vmaj src (.done r) s2
        else answer vmaj src (.wait c.uid) (await c s1)

/-- One command of a packet of an OPEN association. -/
def runOp (i : OpInfo) (src : Src) (tlvs : List Tlv) (s : State) : State := runAs i (· == .opened) 3 src tlvs s

/-- The meaning of an opcode row. -/
def execOp (i : OpInfo) (src : Src) (tlvs : List Tlv) (s : State) : Outcome := done s (runOp i src tlvs)

end Sys2Proof.Machine
end

