-- ==== Sys2Proof/Machine/BridgeTags.lean ====
section
/-!
DEFINITION. Machine/BridgeTags.lean: the tags of a grain, and what becomes of bridge operations when an endpoint or its association goes (R237 to
R242).
-/
namespace Sys2Proof.Machine

/-- The bridge engine of a grain; at reset every tag is FREE. -/
def State.gbr (s : State) (g : Nat) : GrainBr := tgetD s.brg.grains g { free := List.range 256 }

/-- Change a bridge engine. -/
def State.modGbr (s : State) (g : Nat) (f : GrainBr → GrainBr) : State :=
  { s with brg := { s.brg with grains := tset s.brg.grains g (f (s.gbr g)) } }

/-- Take the tag that has been FREE longest for an operation (R238). -/
def takeTag (b : GrainBr) (op : BrOp) : Option (GrainBr × BrOp) :=
  match b.free with
  | [] => none
  | t :: r => let op := { op with tag := some t }
    some ({ b with free := r, tags := tset b.tags t { op := op, st := .queued } }, op)

/-- A tag returns to FREE. -/
def freeTag (b : GrainBr) (t : Nat) : GrainBr :=
  if (tget b.tags t).isSome then { b with free := b.free ++ [t], tags := terase b.tags t, queue := b.queue.filter (fun o => o.tag != some t),
                                              credit := b.credit.filter (fun o => o.tag != some t) } else b

/-- RESULT of a bridge operation, where its vCtl is still ACTIVE (R163, R241). -/
def brResult (s : State) (op : BrOp) (status : Nat) (tlvs : List OTlv := []) : State :=
  if s.active op.vctl then s.result op.key op.seq op.cmdid status tlvs else s

/-- RESULT of the operation of a tag; a tag whose charge was released by force gives none (R242). -/
def tagResult (s : State) (t : Tag) (status : Nat) (tlvs : List OTlv := []) : State :=
  if t.charged then brResult s t.op status tlvs else s

/-- Tags of a grain charged to a vCtl (R238). -/
def State.charged (s : State) (g v : Nat) : Nat := ((s.gbr g).tags.filter (fun e => e.2.charged && e.2.op.vctl == v)).length

/-- A posted write is discarded before issue: counted in GRN_BR_DROP.POSTED, and kept for BRIDGE_DISCARD (R237). -/
def dropPosted (g : Nat) (op : BrOp) (s : State) : State :=
  let s := (s.count (aGrnBrDrop g) 16 16).setFlag (aGrnBrStat g) 4
  s.modGbr g (fun b => { b with
    dropNow := match b.dropNow.find? (fun e => e.1 == op.vctl && e.2.1 == op.handle) with
      | some e => b.dropNow.map (fun x => if x = e then (x.1, x.2.1, x.2.2 + 1) else x)
      | none => b.dropNow ++ [(op.vctl, op.handle, 1)] })

/-- One tag whose pole node's association closes: ENDPOINT_UNREACHABLE for an operation in flight, and the tag is FREE (R237, R239). -/
def closeTag (g : Nat) (s : State) (e : Nat × Tag) : State :=
  let s := s.modGbr g (fun b => freeTag b e.1)
  match e.2.st with
  | .timedOut _ _ => s
  | _ => tagResult s e.2 stEndpointUnreachable

/-- An operation is on the pole node at a position. -/
def BrOp.onPole (o : BrOp) (g p : Nat) : Bool := hString o.handle == g && hPos o.handle == p

/-- The pole node at a position becomes unreachable: its operations that are not yet issued are dropped, posted writes with their count, reads and
non-posted writes with a RESULT and their tags (R237). -/
def bridgeUnreach (g p : Nat) (s : State) : State :=
  let posted := ((s.gbr g).credit ++ (s.gbr g).queue).filter (fun o => o.onPole g p && o.kind == .posted)
  let s := posted.foldl (fun s o => dropPosted g o s) s
  let keep (o : BrOp) : Bool := !(o.onPole g p && o.kind == .posted)
  let s := s.modGbr g (fun b => { b with queue := b.queue.filter keep, credit := b.credit.filter keep })
  ((s.gbr g).tags.filter (fun e => e.2.op.onPole g p && e.2.st == .queued)).foldl (closeTag g) s

/-- The association of the pole node at a position closes: besides, each of its tags in flight or timed out is FREE (R239). -/
def bridgeClose (g p : Nat) (s : State) : State :=
  let s := bridgeUnreach g p s
  ((s.gbr g).tags.filter (fun e => e.2.op.onPole g p)).foldl (closeTag g) s

/-- The vCtl is removed: its queued operations are dropped without result; tags in flight keep their states (R242). -/
def bridgeRemove (v : Nat) (s : State) : State :=
  { s with brg := { s.brg with grains := tmap s.brg.grains (fun _ b =>
      let mine := (b.queue ++ b.credit).filter (fun o => o.vctl == v)
      let b := mine.foldl (fun b o => match o.tag with | some t => freeTag b t | none => b) b
      { b with queue := b.queue.filter (fun o => o.vctl != v), credit := b.credit.filter (fun o => o.vctl != v), dropNow := b.dropNow.filter (fun e => e.1 != v) }) } }

/-- Forced retirement at the end of REMOVING: the charges are released, and each tag stays out of FREE until its late answer or its second
timeout (R242). -/
def bridgeForce (v : Nat) (s : State) : State :=
  { s with brg := { s.brg with grains := tmap s.brg.grains (fun _ b =>
      { b with tags := tmap b.tags (fun _ t => if t.op.vctl = v then { t with charged := false } else t) }) } }

/-- A tag of the vCtl is outstanding. -/
def State.tagsOf (s : State) (v : Nat) : Bool := s.brg.grains.any (fun e => e.2.tags.any (fun t => t.2.charged && t.2.op.vctl == v))

end Sys2Proof.Machine
end

