-- ==== Sys2Proof/Machine/Restart.lean ====
section
/-!
DEFINITION. Machine/Restart.lean: the carrier description, and the stops and starts of the main and the service domain (R36, R55, R72, R73,
R532, R565 to R567).
-/
namespace Sys2Proof.Machine

/-! ### The carrier description (R54, R55) -/

/-- One bit step of the reflected CRC-32 with the IEEE 802.3 polynomial. -/
def crcBit (r : Nat) : Nat := if r % 2 = 1 then Nat.xor (r / 2) 0xEDB88320 else r / 2

/-- One byte step of CRC-32. -/
def crcByte (r : Nat) (b : Byte) : Nat :=
  let r := Nat.xor r b.toNat
  crcBit (crcBit (crcBit (crcBit (crcBit (crcBit (crcBit (crcBit r)))))))

/-- CRC-32 with the IEEE 802.3 polynomial (R54). -/
def crc32 (b : Bytes) : Nat := Nat.xor (b.foldl crcByte 0xFFFFFFFF) 0xFFFFFFFF

/-- The bytes at an offset. -/
def slice (b : Bytes) (off n : Nat) : Bytes := (b.drop off).take n

/-- CARRIER_ID_INVALID's CODE for a record that is not valid: 1 missing, 2 magic, 3 version, 4 CRC (R55, R150); none when it is valid. -/
def carrierFault (e : Option Bytes) : Option Nat :=
  match e with
  | none => some 1
  | some b =>
    if b.length < 0x4C then some 1
    else if beNat (slice b 0 2) ≠ 0x4344 then some 2
    else if beNat (slice b 2 1) ≠ 1 then some 3
    else if crc32 (b.take 0x48) ≠ beNat (slice b 0x48 4) then some 4
    else none

/-- The carrier description in force: every cage and both EMERG contacts count as fitted when the record is not valid (R55). -/
def carrierOf (i : StartIn) : Carrier :=
  match carrierFault i.eeprom, i.eeprom with
  | none, some b =>
    { strings := beNat (slice b 0x24 32), uplinks := beNat (slice b 0x44 2),
      spineE := bit (beNat (slice b 0x46 1)) 0, spineW := bit (beNat (slice b 0x46 1)) 1,
      emergA := bit (beNat (slice b 0x47 1)) 0, emergB := bit (beNat (slice b 0x47 1)) 1, valid := true, absent := i.silent }
  | _, _ => { absent := i.silent }

/-! ### Feeds and domains -/

/-- A feed. -/
def State.feed (s : State) : FeedId → Feed
  | .a => s.pw.feedA
  | .b => s.pw.feedB

/-- Change a feed. -/
def State.setFeed (s : State) (f : FeedId) (g : Feed → Feed) : State :=
  match f with
  | .a => { s with pw := { s.pw with feedA := g s.pw.feedA } }
  | .b => { s with pw := { s.pw with feedB := g s.pw.feedB } }

/-- The other feed. -/
def otherFeed : FeedId → FeedId
  | .a => .b
  | .b => .a

/-- Port code of a feed (R140). -/
def feedPort : FeedId → Nat
  | .a => 0x0300
  | .b => 0x0301

/-- A usable feed exists. -/
def State.anyFeed (s : State) : Bool := s.pw.feedA.usable || s.pw.feedB.usable

/-- The feed is in the band of INPUT_LOW, 40.0 V to 44 V; 44 V itself counts as in the operating range (R69, log 81). -/
def Feed.low (f : Feed) : Bool := f.usable && 40000 ≤ f.mv && f.mv < 44000

/-- The feed is in the band of INPUT_HIGH, 57 V to 59 V; 57 V itself counts as in the operating range (R69, log 81). -/
def Feed.high (f : Feed) : Bool := f.usable && 57000 < f.mv && f.mv ≤ 59000

/-- A feed is within the operating range, 44 V to 57 V (R62, R69). -/
def State.opFeed (s : State) : Bool :=
  let ok (f : Feed) : Bool := f.usable && 44000 ≤ f.mv && f.mv ≤ 57000
  ok s.pw.feedA || ok s.pw.feedB

/-- The feed in use: the usable one with the higher voltage, which the ideal diodes choose; feed A when both are equal (R70, log 81). -/
def State.feedInUse (s : State) : Option FeedId :=
  if s.pw.feedA.usable && (!s.pw.feedB.usable || s.pw.feedA.mv ≥ s.pw.feedB.mv) then some .a
  else if s.pw.feedB.usable then some .b else none

/-- The feed in use, where there is one, satisfies a condition (R79). -/
def State.inUse (s : State) (p : Feed → Bool) : Bool := match s.feedInUse with | some f => p (s.feed f) | none => false

/-- Close the sessions and handshakes carried on a path, without alert (R553). -/
def State.closePath (s : State) (p : Path) : State :=
  { s with ses := { s.ses with assoc := tkeep s.ses.assoc (fun _ a => a.path != p), hs := tkeep s.ses.hs (fun _ h => h.path != p) } }

/-- Stored registers of the service domain, which a stop of the main domain alone leaves as they are: FLT, SVC, and SYS_PWR_STAT, which shows the
feeds while the main domain has no rails (R79). -/
def svcReg (a : Nat) : Bool := (0x400000 ≤ a && a < 0x440000) || (0x480000 ≤ a && a < 0x4C0000) || a == aSysPwrStat

/-! ### What a stop leaves: what the configuration journal holds stays, every other piece of state of the domain is lost (R547, R566, R567,
R576; log 35) -/

/-- Lodestone without power: its counter, references and timers are at reset; the owner's settings are journaled. -/
def Lodestone.off (l : Lodestone) : Lodestone :=
  { pool := l.pool, domain := l.domain, taiUtc := l.taiUtc, leaps := l.leaps, journaled := l.journaled, timeSet := l.timeSet,
    ptp := tmap l.ptp (fun _ p => { mech := p.mech, step := p.step, role := p.role, inDelay := p.inDelay, egDelay := p.egDelay, asym := p.asym,
                                    logSync := p.logSync, logDelay := p.logDelay, logAnn := p.logAnn, annTmo := p.annTmo }) }

/-- The frame count goes on by the oscillator of the service logic, and what was accepted is committed and its replies are released at the next beat 0
of that count (R116); the urgent path and the frame work stop. -/
def FrameSt.off (f : FrameSt) : FrameSt :=
  { now := f.now, beat := f.beat, uid := f.uid, urgCount := 0, accepted := f.accepted, pkts := f.pkts, dups := f.dups, tickDue := f.tickDue }

/-- A pole node of the record keeps its place; its association and credits are lost. -/
def Pole.off (p : Pole) : Pole :=
  { rep := p.rep, adopted := p.adopted, reached := p.reached, unknownFw := p.unknownFw, found := p.found, told := 1,
    pair := if p.pair = .paired then .paired else .none }

/-- A port keeps its configuration and its record. -/
def Grain.off (g : Grain) : Grain :=
  { rateCfg := g.cfg.1, fec := g.cfg.2, cfg := g.cfg, role := g.role, record := tmap g.record (fun _ p => p.off), number := g.number,
    autoReplace := g.autoReplace, candidate := g.candidate, beyond := g.beyond }

/-- Every slate entry reads 0xFFFF; presets, groups, schedules and configuration are journaled
(R251, R283, R533), and of the sources only those of the EMERG input go (log 35). -/
def Slates.off (s : Slates) : Slates :=
  { s with
    front := [], back := [], frontNo := 0, frozen := false, presetAct := false, pin := .idle, composed := 0, overlay := [], queue := [],
    turn := (0x7F, 0x7F, 0x7F), backlog := [], admitted := 0, inrSel := 0, lifted := [],
    derate := tmap s.derate (fun _ d => { prof := d.prof }),
    srcs := (tmap s.srcs (fun _ l => l.filter (fun x => !x.pin))).filter (fun e => !e.2.isEmpty) }

/-- Graphs, bindings, classes, tails, speeds, borders and attachments are journaled; tracks are not (R311). -/
def Wakes.off (w : Wakes) : Wakes :=
  { graphs := tmap w.graphs (fun _ g => { edges := g.edges }), binds := w.binds, masks := w.masks, classes := w.classes, tails := w.tails,
    speeds := w.speeds, borders := w.borders, attach := w.attach, next := w.next }

/-- Profiles, assignments, groups with their latches and latch numbers are journaled (R324, R325). -/
def Lamps.off (l : Lamps) : Lamps := { profs := l.profs, assign := l.assign, aon := tmap l.aon (fun _ a => { a with installed := false }), latchNo := l.latchNo }

/-- Seeds are journaled; the models restart from them, and the ledgers are lost (R406). -/
def Attrib.off (a : Attrib) : Attrib :=
  let m : Tbl Model := tmap a.seeds (fun _ s => freshModel s.1 s.2)
  { l := a.l, seeds := a.seeds, models := m, models0 := m }

/-- VLANs, queue settings and quotas are journaled; the buffer, the queues, the FIFOs and HBM are empty (R566, R567). -/
def Quarry.off (q : Quarry) : Quarry :=
  { doms := tmap q.doms (fun _ d => { eps := d.eps, uplinks := d.uplinks }), cfg := q.cfg, tup := q.tup, mgmtAddr := q.mgmtAddr, pages := q.pages,
    upl := tmap q.upl (fun _ u => { fec := u.fec }), dma := tmap q.dma (fun _ c => { holder := c.holder }) }

/-- Enrolments, their keys and counters, the region plan and the port settings are journaled (R532 step 7). -/
def Air.off (a : Air) : Air :=
  { eps := a.eps, freed := a.freed, region := a.region, usWin := a.usWin, vemer := a.vemer,
    ports := tmap a.ports (fun _ p => { p with fault := false, vswr := 0, rx := 0, blocked := 0, muted := 0 }) }

/-- Ring, master, tag, record and the sweeps kept in HBM's journals; links, orders and tokens are lost (R479, R487). -/
def Spine.off (s : Spine) : Spine :=
  { ring := s.ring, master := s.master, tag := s.tag, record := s.record, changed := s.changed, census := s.census, held := s.held,
    results := s.results }

/-- Sensors and ladder are at reset, every granule is never-written; what the power controller holds stays (R564, R567, R570). -/
def Thermal.stopped (t : Thermal) : Thermal :=
  { lastTemp := t.lastTemp, lastSensor := t.lastSensor, lastHard := t.lastHard, restarts := t.restarts, barred := t.barred, off := t.off, pcFrames := t.pcFrames,
    bad := t.bad }

/-- Change start and update. -/
def State.setBoot (s : State) (f : Boot → Boot) : State := { s with boot := f s.boot }

/-- A flash device is in use. -/
def State.flashOk (s : State) : Bool := s.boot.dev0 || s.boot.dev1

/-- The commit record in progress is complete: every device in use holds it (R547). -/
def completeCommit (s : State) : State :=
  { s with
    boot := { s.boot with jopen := false, jseq := s.boot.jseq + 1 },
    lds := { s.lds with journaled := if s.lds.on && s.lds.st != .unset then some s.ns else s.lds.journaled } }

/-- A controlled stop waits for a flash program operation in progress (R50, R562, R565). -/
def deferFlash (s : State) : State := if s.pw.service && s.boot.jopen && s.flashOk then completeCommit s else s

/-- The main domain loses its rails or is reset. -/
def State.mainOff (s : State) : State :=
  { s with
    regs := s.regs.filter (fun e => svcReg e.1), pw := { s.pw with main := false }, lds := s.lds.off, frm := s.frm.off,
    ten := { s.ten with leases := [], sel := 0, phaseSel := 0 },
    strs := { s.strs with grains := tmap s.strs.grains (fun _ g => g.off) }, brg := {}, slt := s.slt.off, wak := s.wak.off, lmp := s.lmp.off,
    geo := { s.geo with mir := {} }, att := s.att.off, qry := s.qry.off, air := s.air.off, spn := s.spn.off,
    boot := { s.boot with inService := false, served := 0, timed := none, step := min s.boot.step 3 }, thm := s.thm.stopped }

/-- The service domain loses its rails or is reset: sessions, queued events, slots and Flint's working state are lost (R510, R566). -/
def State.serviceOff (s : State) : State :=
  let s := s.send .pinStat 0 [0]
  { s with
    regs := [], pw := { s.pw with service := false, emergA := false, emergB := false, loop := .closed, loopRun := (.closed, 0), loopOhm := 0, gpioIn := 0 },
    ses := { lastHs := [], evq := tmap s.ses.evq (fun _ q => { next := q.next }) },
    frm := { s.frm with accepted := [], pkts := [], dups := [] },
    flt := { s.flt with st := 0, halt := 0, rngOk := false, slots := [], intKey := [] },
    lds := { s.lds with timeSet := none },
    boot := { s.boot with maint := false, step := 0, stat := 0, strataOut := 0, bankAOut := false, bankBOut := false, airOut := false,
                          uplinkOut := false, run := [] } }

/-- Record a reset cause (R548, R555). -/
def State.setCause (s : State) (cause : Nat) : State :=
  { s with boot := { s.boot with cause := cause, causes := ((cause, s.ns) :: s.boot.causes).take 16 } }

/-- An activation that a restart cut short is abandoned, and a migration with it: UPDATE_STATE names the class that was to follow, and so does the
RESULT (R519, R539, R546, R554, R562). -/
def dropActivation (s : State) : State :=
  match s.boot.act with
  | none => s
  | some a =>
    let cls := a.todo.headD 0xFF
    let s := if s.flt.migr.isSome then (s.setFlag aFltFlags 4).owner 0x0803 [tCode 2, tCount s.flt.migrDone] else s
    let s := (s.owner 0x0F11 [tCode 3, tCode cls]).setFlag aSvcUpd 16
    (s.setBoot (fun b => { b with act := none })).result a.cmd.1 a.cmd.2.1 a.cmd.2.2 stUpdateInProgress [tCode cls]

/-- A journal commit cut short is discarded at the next start (R547). -/
def discardCommit (s : State) : State :=
  if s.boot.jopen then (s.setFlag aSvcFlash 3).setBoot (fun b => { b with jopen := false }) else s

/-- The service domain is released: its SRAM is zero-filled and the boot ROM runs (R73 steps 1 to 3). -/
def bootRom (cause : Nat) (s : State) : State :=
  let s := s.setCause (if s.boot.brownout && cause = 0 then 4 else cause)
  let s := { s with
    pw := { s.pw with service := true, held := false, noFlash := false },
    boot := { s.boot with step := 1, stepLog := [(1, s.frm.now, s.ns)], starts := satAdd 16 s.boot.starts 1,
                          dev0 := !s.boot.failed.contains 0, dev1 := !s.boot.failed.contains 1 } }
  let s := if s.boot.brownout then (s.setFlag aSvcUx1Flags 3).setBoot (fun b => { b with brownout := false }) else s
  let s := dropActivation (discardCommit s)
  { s with flt := { s.flt with migr := none, migrDone := 0 } }

/-- No fitted uplink is left: the uplink block is out (R523, R555). -/
def State.noUplink (s : State) : Bool := (List.range 16).all (fun u => !s.uplinkFitted u)

/-- The service domain starts, and the carrier description is read; a cage that is marked fitted and does not answer raises CAGE_ABSENT (R55). -/
def State.startService (s : State) (i : StartIn) (cause : Nat) : State :=
  let s := bootRom cause s
  let s := { s with pw := { s.pw with carrier := carrierOf i } }
  let s := match carrierFault i.eeprom with
    | some c => s.owner 0x0F01 [tCode c]
    | none => s
  (i.silent.filter s.pw.carrier.fits).foldl (fun s p => s.owner 0x0F02 [tPort p]) s

/-- Configure one of channels 0 to 5: control word without its flags, compare, period and width (R107). -/
def setTimer (n ctl cmp per wid : Nat) (s : State) : State :=
  let a := aLdsTmrCtl n
  let s := s.setReg a (s.reg a - fieldOf (s.reg a) 0 8 + ctl)
  ((s.setReg (aLdsTmrCmp n) (cmp % 2 ^ 32)).setReg (aLdsTmrPer n) per).setReg (aLdsTmrWid n) wid

/-- Firmware configures channels 0 to 5 as the table of R107 and arms channels 0, 1, 2 and 5, whose firings follow the time `t` in ns; the counter
stands at `t - base`. Channels 3 and 4 get their destination and are armed when a snapshot or a sweep is due, or before frame service by TIMER_ARM. -/
def programTimers (t base : Nat) (s : State) : State :=
  let at_ (x : Nat) : Nat := x + 2 ^ 32 - base % 2 ^ 32
  let frame := (t / 10000000 + 1) * 10000000
  let s := setTimer 0 15 (at_ frame) 10000000 1 s
  let s := setTimer 1 7 (at_ ((t / 1000000000 + 1) * 1000000000)) 1000000000 100000 s
  let s := setTimer 2 11 (at_ frame) 10000000 125 s
  let s := if bit (s.reg (aLdsTmrCtl 3)) 0 then s else setTimer 3 16 0 0 1 s
  let s := if bit (s.reg (aLdsTmrCtl 4)) 0 then s else setTimer 4 20 0 0 1 s
  setTimer 5 27 (at_ ((t + 5000000) / 10000000 * 10000000 + 5000000)) 10000000 1 s

/-- The main domain gets its rails and is released once every SRAM is zero-filled (R73 steps 4 and 5, R566), when a feed is usable and an
image set is approved; the firmware then reaches step 8 of R532 unless START_STEP_TIMEOUT leaves blocks out (log 12). The counter starts at 0, and
channel 0 takes over the frames and beats that the service logic counts (R86, R107, R116, log 38). -/
def State.startMain (s : State) : State :=
  if s.pw.service && s.boot.maint && !s.boot.noSet && s.anyFeed && !s.pw.main then
    programTimers (s.frm.beat * 125000) (s.frm.beat * 125000)
      { s with
        pw := { s.pw with main := true }, lds := { s.lds with on := true }, strs := { s.strs with since := s.absBeat },
        boot := { s.boot with step := 8, uplinkOut := s.noUplink,
                              stepLog := s.boot.stepLog ++ [4, 5, 6, 7, 8].map (fun k => (k, s.frm.now, s.ns)) } }
  else s

end Sys2Proof.Machine
end

