-- ==== Sys2Proof/Machine/Time.lean ====
section
/-!
DEFINITION. Machine/Time.lean: Lodestone's counter, references and timer channels (R80 to R108, R578, R579), and the time family of opcodes.
-/
namespace Sys2Proof.Machine

/-- Change Lodestone. -/
def State.lds' (s : State) (f : Lodestone → Lodestone) : State := { s with lds := f s.lds }

/-! ### The counter -/

/-- `n` Lodestone ticks: LDS_INC is added at each, every wrap of the counter counts in LDS_WRAP modulo 2^16, and a slew moves on by what LDS_INC lies off the
frequency that firmware steers (R80, R85, R95). -/
def ldsTicks (n : Nat) (l : Lodestone) : Lodestone :=
  let t := l.time + n * l.inc
  { l with time := t % 2 ^ 56, wrap := (l.wrap + t / 2 ^ 56) % 2 ^ 16, ticks := l.ticks + n, slewLeft := l.slewLeft - n * ((l.inc : Int) - l.freq) }

/-- `n` Lodestone ticks pass. -/
def passTicks (n : Nat) (s : State) : State := s.lds' (ldsTicks n)

/-- Ticks until the counter has gained `d` ns. -/
def Lodestone.ticksFor (l : Lodestone) (d : Nat) : Nat := cdiv (d * ldsUnit - l.time % ldsUnit) l.inc

/-- Ticks until LDS_NS reaches a 32-bit value. -/
def Lodestone.ticksTo (l : Lodestone) (v : Nat) : Nat := l.ticksFor ((v + 2 ^ 32 - l.nsReg) % 2 ^ 32)

/-- The LDS_NS value at which beat `k` of the frame begins: the frame tick's compare value plus k × 125,000 ns; channel 0 already holds the compare value
of the next frame (R86). -/
def State.beatStart (s : State) (k : Nat) : Nat := (s.reg (aLdsTmrCmp 0) + 2 ^ 32 - 10000000 + k * 125000) % 2 ^ 32

/-- Ticks until the next beat begins (R86). -/
def State.ticksToBeat (s : State) : Nat := s.lds.ticksTo (s.beatStart (s.frm.beat + 1))

/-- Time since beat 0 of the frame in ns. -/
def State.sinceBeat0 (s : State) : Nat :=
  s.frm.beat * 125000 + if s.lds.on then (s.lds.nsReg + 2 ^ 32 - s.beatStart s.frm.beat) % 2 ^ 32 else 0

/-- The clamp of a value written to LDS_INC (R81). -/
def clampInc (v : Nat) : Nat := min (max v 0x01FFFEB1) 0x0200014F

/-- A write to LDS_INC: clamped, INC_CLAMPED set when it was, in force from the next beat boundary (R81). -/
def writeInc (v : Nat) (s : State) : State :=
  let s := s.lds' (fun l => { l with incNext := some (clampInc v) })
  if clampInc v = v then s else s.setFlag aLdsStat 17

/-- LDS_INC_WRITE (R81). -/
def execLdsIncWrite (v : Nat) (s : State) : Outcome := done s (writeInc v)

/-- What a slew adds to LDS_INC for beat `k`, counted from frame 0: SLEW_PPB as a mean over beats that alternate two adjacent values, or the whole
range of R81, and never beyond what is left of the slew (R81, R95, R101). -/
def Lodestone.slewStep (l : Lodestone) (k : Nat) : Int :=
  let rate (n : Nat) : Nat := 0x02000000 * l.slewPpb * n / 1000000000
  let lim : Int := if l.slewFull then 670 else rate (k + 1) - rate k
  max (-lim) (min (tdiv l.slewLeft 62500) lim)

/-- LDS_INC of beat `k`: the frequency that firmware steers, and in SWITCH the slew about it (R81, R95). -/
def Lodestone.beatInc (l : Lodestone) (k : Nat) : Nat :=
  match l.st with
  | .switch => clampInc ((l.freq : Int) + l.slewStep k).toNat
  | _ => l.freq

/-- A beat boundary: the LDS_INC written takes effect (R81, R95). -/
def takeInc (k : Nat) (l : Lodestone) : Lodestone :=
  let l := { l with freq := l.incNext.getD l.freq, incNext := none }
  { l with inc := l.beatInc k }

/-- Frames by which the service domain counts keep their distance when the load renumbers the frames from `old` to `new` (log 35). -/
def shiftFrames (old new : Nat) (s : State) : State :=
  let sh (x : Nat) : Nat := x + new - old
  { s with
    pw := { s.pw with feedA := { s.pw.feedA with since := sh s.pw.feedA.since }, feedB := { s.pw.feedB with since := sh s.pw.feedB.since } },
    ses := { s.ses with
      hs := tmap s.ses.hs (fun _ h => { h with hello := sh h.hello, lastFlight := sh h.lastFlight }),
      lastHs := tmap s.ses.lastHs (fun _ f => sh f),
      assoc := tmap s.ses.assoc (fun _ a => { a with lastRx := sh a.lastRx }),
      evq := tmap s.ses.evq (fun _ q => { q with recs := q.recs.map (fun r => { r with sent := r.sent.map sh }) }) },
    frm := { s.frm with pkts := s.frm.pkts.map (fun p => { p with due := sh p.due }) },
    flt := { s.flt with reseed := sh s.flt.reseed, runs := tmap s.flt.runs (fun _ f => sh f), geoFw := s.flt.geoFw.map (fun e => (e.1, sh e.2)) },
    boot := { s.boot with resets := (s.boot.resets.1.map sh, s.boot.resets.2.map sh) } }

/-- The counter as extended, in units of 2^-24 ns. -/
def State.units (s : State) : Nat := s.ns * ldsUnit + s.lds.time % ldsUnit

/-- A measurement after the counter has been moved by `d` units. -/
def Obs.shift (d : Int) (o : Obs) : Obs := { o with off := o.off - tdiv d ldsUnit, at_ := ((o.at_ : Int) + d).toNat }

/-- The measurements of the references keep their meaning when a load moves the counter by `d` units. -/
def shiftObs (d : Int) (l : Lodestone) : Lodestone :=
  { l with
    ppsRun := l.ppsRun.map (Obs.shift d), fsRun := l.fsRun.map (Obs.shift d),
    ppsWait := l.ppsWait.map (fun o => { Obs.shift d o with off := o.off + tdiv d ldsUnit }),
    ppsLast := l.ppsLast.map (fun t => ((t : Int) + tdiv d ldsUnit).toNat),
    ptp := tmap l.ptp (fun _ p => { p with offs := p.offs.map (Obs.shift d), sync := none, m2s := none, req := none, presp := none }) }

/-- The offset load of a full network time in ns (R82, R578): the counter takes its low 32 bits with fraction 0, LDS_WRAP becomes 0, the last
extended read is the full time, the frame number is that of R9, and firmware sets the compare values of channels 0 to 5 by it (R86, R107). A load
after the first, or in frame service, leaves the counter and sets LOAD_REFUSED. -/
def offsetLoad (full : Nat) (s : State) : State :=
  let s := s.lds' (fun l => { l with load := full % 2 ^ 32 })
  if s.lds.loadUsed || s.boot.inService then s.setFlag aLdsStat 16
  else
    let d : Int := (full * ldsUnit : Nat) - s.units
    let s := shiftFrames s.frm.now (full / 10000000) s
    let s := s.lds' (fun l => { shiftObs d l with
      loadUsed := true, time := full % 2 ^ 32 * ldsUnit, wrap := 0, wrapLatch := 0, ext := full, readTick := l.ticks })
    programTimers full 0 { s with frm := { s.frm with now := full / 10000000, beat := full % 10000000 / 125000, tickDue := false } }

/-- LDS_OFFSET_LOAD (R82). -/
def execLdsOffsetLoad (full : Nat) (s : State) : Outcome := done s (offsetLoad full)

/-- A read of LDS_FRAME_LO latches LDS_FRAME_HI (R86). -/
def frameLoRead (s : State) : State := s.lds' (fun l => { l with hiLatch := s.frm.now / 2 ^ 32 % 2 ^ 32 })

/-- LDS_FRAME_LO_READ (R86). -/
def execLdsFrameLoRead (s : State) : Outcome := done s frameLoRead

/-! ### References (R94 to R101, R579) -/

/-- Rank of a phase reference; 3 for REF10_IN (R94). -/
def refRank : Ref → Nat
  | .fsync => 0
  | .pps => 1
  | .ptp => 2
  | .ref10 => 3

/-- LDS_STAT.REF code of a reference (R108). -/
def refCode : Ref → Nat
  | .fsync => 1
  | .pps => 2
  | .ptp => 3
  | .ref10 => 4

/-- Code of LDS_STAT.STATE (R108). -/
def ldsCode : LdsState → Nat
  | .unset => 0
  | .freerun => 1
  | .locked => 2
  | .switch => 3
  | .holdover => 4

/-- LDS_STAT.REF (R579). -/
def Lodestone.refField (l : Lodestone) : Nat :=
  match l.st with
  | .locked | .switch => match l.target with
    | some r => refCode r
    | none => 0
  | .unset => if l.steer10 then 4 else 0
  | .freerun | .holdover => if l.steer10 then 4 else 5

/-- The enable bit of a reference; FSYNC takes part only in frame-sync slave mode (R94). -/
def Lodestone.enabled (l : Lodestone) : Ref → Bool
  | .fsync => l.enFsync && l.fsyncSlave && !l.fsConflict
  | .pps => l.enPps
  | .ptp => l.enPtp
  | .ref10 => l.enRef10

/-- The highest-ranked qualified phase reference (R101). -/
def Lodestone.bestP (l : Lodestone) : Option Ref :=
  [Ref.fsync, .pps, .ptp].find? (fun r => l.qual.contains r)

/-- The latest measurement of a phase reference; of PTP, that of the lowest port in SLAVE. -/
def Lodestone.latest (l : Lodestone) : Ref → Option Obs
  | .fsync => l.fsRun.head?
  | .pps => l.ppsRun.head?
  | .ptp => (l.ptp.find? (fun e => e.2.st == .slave)).bind (fun e => e.2.offs.head?)
  | .ref10 => none

/-- Offset of a phase reference to local time in ns as last measured; 0 before any. -/
def Lodestone.refOffset (l : Lodestone) (r : Ref) : Int := ((l.latest r).map (·.off)).getD 0

/-- What is left of a slew toward a phase reference, in units: its latest offset, less what LDS_INC has moved the counter off its frequency since. -/
def State.leftTo (s : State) (r : Ref) : Int :=
  match s.lds.latest r with
  | none => 0
  | some o => o.off * ldsUnit - ((s.units : Int) - o.at_ - (s.lds.freq : Int) * ((s.lds.ticks : Int) - o.tick))

/-- Raise REF_CHANGE when the state or the source has changed (R101, R579). -/
def refChange (old : State) (s : State) : State :=
  if old.lds.st = s.lds.st && old.lds.refField = s.lds.refField then s
  else s.owner 0x0604 [tCode (ldsCode s.lds.st), tCode s.lds.refField]

/-- The last LDS_INC written. -/
def Lodestone.lastInc (l : Lodestone) : Nat := l.incNext.getD l.inc

/-- The mean of the LDS_INC samples of the last 1,000 s; of those since the start when less time has passed, and without any the last LDS_INC written
(R101, log 9). -/
def Lodestone.meanInc (l : Lodestone) : Nat :=
  if l.incHist.isEmpty then l.lastInc else l.incHist.foldl (· + ·) 0 / l.incHist.length

/-- The LDS_INC held when REF10_IN is lost while Lodestone steers to it: the mean of the last 1,000 s, or the last LDS_INC written when less time has
passed (R101). -/
def Lodestone.heldInc (l : Lodestone) : Nat := if l.incHist.length < 1000 then l.lastInc else l.meanInc

/-- Hold a frequency: REF10_IN's where it is qualified, otherwise the mean LDS_INC (R101). -/
def holdFreq (s : State) : State :=
  if s.lds.qual.contains .ref10 then s.lds' (fun l => { l with steer10 := true })
  else s.lds' (fun l => { l with steer10 := false, incNext := some (clampInc l.meanInc) })

/-- Slew to a phase reference from the current phase: at SLEW_PPB, or before frame service at the rate limit of R81 where R101 says so (R95, R101). -/
def slewTo (r : Ref) (s : State) : State :=
  let full := !s.boot.inService && (s.lds.st = .unset || s.lds.st = .freerun)
  let left := s.leftTo r
  s.lds' (fun l => { l with st := .switch, target := some r, within := 0, steer10 := false, holdFrames := 0,
                            offset := l.refOffset r, slewLeft := left, slewFull := full })

/-- Enter HOLDOVER (R101): a slew stops at its current phase, and HOLDOVER_ENTER is raised from LOCKED. -/
def enterHoldover (raise : Bool) (s : State) : State :=
  let s := holdFreq s
  let s := s.lds' (fun l => { l with st := .holdover, target := none, holdFrames := 0, holdExpired := false, slewLeft := 0 })
  if raise then s.owner 0x0605 [tCode (b2n s.lds.steer10)] else s

/-- An event of R101 without a row is counted in LDS_REF_IGN (R18). -/
def refIgnored (s : State) : State := s.lds' (fun l => { l with ignored := satAdd 32 l.ignored 1 })

/-- The full network time that a phase reference gives now: local time plus its offset, which its label makes whole (R97, R578). -/
def State.refTime (s : State) (r : Ref) : Nat := ((s.ns : Int) + s.lds.refOffset r).toNat

/-- A reference whose offset is too large: Lodestone still slews to it, and TIME_OFFSET_LARGE carries the offset (R96). -/
def tellLarge (r : Ref) (s : State) : State := s.owner 0x0602 [tValue (s.lds.refOffset r)]

/-- Q(P): a phase reference qualifies (R96, R101). -/
def onQualP (r : Ref) (s : State) : State :=
  let s := if s.boot.inService && (s.lds.refOffset r).natAbs > 100000000 then tellLarge r s else s
  match s.lds.st with
  | .unset =>
    if s.lds.loadUsed then slewTo r s
    else (offsetLoad (s.refTime r) s).lds' (fun l => { l with st := .locked, target := some r, steer10 := false, within := 0, offset := l.refOffset r })
  | .freerun | .holdover => slewTo r s
  | .locked | .switch => match s.lds.target with
    | some a => if refRank r < refRank a then slewTo r s else refIgnored s
    | none => refIgnored s

/-- Q(REF10_IN) (R101). -/
def onQual10 (s : State) : State :=
  match s.lds.st with
  | .unset | .freerun | .holdover => s.lds' (fun l => { l with steer10 := true })
  | .locked | .switch => refIgnored s

/-- Q(x) (R101). -/
def qualify (r : Ref) (s : State) : State :=
  if s.lds.qual.contains r || !s.lds.enabled r then s
  else
    let s1 := s.lds' (fun l => { l with qual := r :: l.qual })
    refChange s (if r = .ref10 then onQual10 s1 else onQualP r s1)

/-- L(x) (R101). -/
def lose (r : Ref) (s : State) : State :=
  if !s.lds.qual.contains r then s
  else
    let s1 := s.lds' (fun l => { l with qual := l.qual.filter (· != r) })
    refChange s (if r = .ref10 then
        (if s1.lds.steer10 then
          s1.lds' (fun l => { l with steer10 := false, incNext := some (clampInc l.heldInc) })
        else refIgnored s1)
      else if s1.lds.target = some r then
        (match s1.lds.bestP with
          | some b => slewTo b s1
          | none => enterHoldover (s1.lds.st = .locked) s1)
      else refIgnored s1)

/-- A read of LDS_NS (R84, R85): it latches LDS_WRAP, and firmware extends by the nearest epoch, or by the wrap count when more than one wrap has passed,
and then raises TIME_EXTEND_GAP. After a gap beyond 2^16 wraps the time is untraceable, and Lodestone slews to the best phase reference as R96 states. -/
def nsRead (s : State) : State :=
  let l := s.lds
  let gap := (l.wrap + 2 ^ 16 - l.wrapLatch) % 2 ^ 16
  let e := if gap > 1 then (l.ext / 2 ^ 32 + gap) * 2 ^ 32 + l.nsReg else s.ns
  let long := 2 * (l.ticks - l.readTick) ≥ 2 ^ 48
  let s := s.lds' (fun l => { l with wrapLatch := l.wrap, ext := e, readTick := l.ticks, untraceable := l.untraceable || long })
  let s := if gap > 1 then s.owner 0x0601 [tCount gap] else s
  if !long then s
  else
    let t := s.owner 0x0603 [tCode 2]
    match t.lds.bestP with
    | some r => refChange t (slewTo r (tellLarge r t))
    | none => t

/-- A measurement of `off` ns now. -/
def State.obs (s : State) (off : Int) : Obs := { off := off, at_ := s.units, tick := s.lds.ticks, inc := s.lds.inc }

/-- An offset measurement of the target: it shows in LDS_OFFSET, counts toward the end of a slew, and sets what is left of it (R95, R108). -/
def noteOffset (r : Ref) (off : Int) (s : State) : State :=
  if s.lds.target = some r || s.lds.target.isNone then
    s.lds' (fun l => { l with offset := off, within := if off.natAbs ≤ 50 then l.within + 1 else 0, slewLeft := off * ldsUnit })
  else s

/-- The offsets of a run of measurements, newest first, against the counter with Lodestone's own steering since the oldest of them removed, in units
(R94, log 9). -/
def unsteered (l : List Obs) : List Int :=
  match l.getLast? with
  | none => []
  | some f => l.map (fun o => o.off * ldsUnit + ((o.at_ : Int) - f.at_) - (f.inc : Int) * ((o.tick : Int) - f.tick))

/-- Every offset of a run lies within `d` ns of their mean (R94). -/
def nearMean (d : Nat) (l : List Obs) : Bool :=
  let u := unsteered l
  let n : Int := u.length
  let sum := u.foldl (· + ·) 0
  u.all (fun x => (x * n - sum).natAbs ≤ d * ldsUnit * u.length)

/-- The newest offset of a run lies more than `d` ns from the mean of those before it, which is where the reference has been (R94, log 9). -/
def offTarget (d : Nat) (l : List Obs) : Bool :=
  match unsteered l with
  | [] => false
  | x :: r => !r.isEmpty && (x * r.length - r.foldl (· + ·) 0).natAbs > d * ldsUnit * r.length

/-- TAI minus UTC at a PTP second (R97, R272). -/
def Lodestone.tai (l : Lodestone) (sec : Nat) : Nat :=
  l.leaps.foldl (fun u e => if e.from_ ≤ sec then e.tai else u) l.taiUtc

/-- UTC seconds converted to the PTP timescale with the owner's offset and leap-second table (R97). -/
def Lodestone.ofUtc (l : Lodestone) (utc : Nat) : Nat :=
  utc + l.leaps.foldl (fun u e => if e.from_ ≤ utc + e.tai then e.tai else u) l.taiUtc

/-- The PTP second that a sentence gives its edge (R97). -/
def Lodestone.todSecond (l : Lodestone) : TodSentence → Nat
  | .pztod sec _ _ => sec
  | .zda utc => l.ofUtc utc

/-- A sentence labels its edge: the format of TOD_FMT, a right checksum, in time, and a quality digit of 0 or 1 (R97). -/
def todValid (l : Lodestone) (t : TodSentence) (sumOk inTime : Bool) : Bool :=
  sumOk && inTime && match t with
    | .pztod _ _ q => !l.todZda && q < 2
    | .zda _ => l.todZda

/-- Cable delay of the inputs, LDS_SX1_DLY.PPS_IN (R99). -/
def State.inDelay (s : State) : Nat := fieldOf (s.reg aLdsSx1Dly) 0 16

/-- An edge on PPS_IN now: an earlier edge that no sentence labelled breaks the run, and a qualified 1PPS is then lost (R94, R97, R99). -/
def ppsEdge (s : State) : State :=
  let t : Int := (s.ns : Int) - s.inDelay
  let missing := s.lds.ppsWait.isSome
  let o := s.obs t
  let s := s.lds' (fun l => { l with ppsWait := some o, ppsLast := some t.toNat, ppsRun := if missing then [] else l.ppsRun })
  if missing then lose .pps s else s

/-- Two edges in a row are missing: 2 s have passed since the latest one (R94). -/
def State.ppsGone (s : State) : Bool := s.lds.ppsLast.all (fun t => t + 2000000000 ≤ s.ns)

/-- PPS_IN_MISSING (R94): two consecutive edges are missing. -/
def execPpsInMissing (s : State) : Outcome :=
  done s (fun s => guardS (s.lds.on && s.ppsGone) (fun s => lose .pps (s.lds' (fun l => { l with ppsRun := [], ppsWait := none }))) s)

/-- A sentence labels the edge `o`: the offset is the labelled second less the local time of the edge (R94, R97). -/
def labelEdge (o : Obs) (sec : Nat) (s : State) : State :=
  let o := { o with off := (sec * 1000000000 : Nat) - o.off }
  let s := s.lds' (fun l => { l with ppsWait := none, ppsRun := (o :: l.ppsRun).take 60 })
  let s := noteOffset .pps o.off s
  if s.lds.qual.contains .pps then
    (if offTarget 10000 s.lds.ppsRun then lose .pps (s.lds' (fun l => { l with ppsRun := [] })) else s)
  else if s.lds.ppsRun.length = 60 && nearMean 1000 s.lds.ppsRun then qualify .pps s
  else s

/-- A sentence on TOD_RX: its last character comes within 800 ms after the edge that precedes it, or it makes the time of day of that edge invalid
(R94, R97). -/
def todSentence (t : TodSentence) (sumOk : Bool) (s : State) : State :=
  match s.lds.ppsWait with
  | none => s
  | some o =>
    if todValid s.lds t sumOk ((s.ns : Int) - s.inDelay ≤ o.off + 800000000) then labelEdge o (s.lds.todSecond t) s
    else lose .pps (s.lds' (fun l => { l with ppsWait := none, ppsRun := [] }))

/-- Offset of an FSYNC_IN edge that comes now: the nearest frame boundary less the local time of the edge (R99, R100). -/
def State.fsOffset (s : State) : Int :=
  let d : Int := ((s.lds.nsReg : Int) - s.inDelay - s.beatStart 0) % 4294967296
  let p : Int := if d ≥ 2147483648 then d - 4294967296 else d
  if p ≤ 5000000 then -p else 10000000 - p

/-- How far the labelling reference, the best of rank 1 or 2, lies from the edges; 0 where time runs on without one (R100). -/
def State.fsDisagree (s : State) (off : Int) : Int :=
  match [Ref.pps, .ptp].find? (fun r => s.lds.qual.contains r) with
  | some r => s.lds.refOffset r - off
  | none => 0

/-- An edge on FSYNC_IN now: an edge more than 50 µs off is counted and not used; a disagreement of 5 ms or more raises FSYNC_LABEL_CONFLICT, and FSYNC_IN
is ignored until it falls below, or EN_FSYNC is cleared (R94, R100). -/
def fsyncEdge (s : State) : State :=
  let off := s.fsOffset
  let dis := s.fsDisagree off
  if dis.natAbs ≥ 5000000 then
    (if s.lds.fsConflict then s
     else (lose .fsync (s.lds' (fun l => { l with fsConflict := true, fsRun := [] }))).owner 0x0608 [tValue dis])
  else
    let s := s.lds' (fun l => { l with fsConflict := false })
    if off.natAbs > 50000 then s.lds' (fun l => { l with fsFar := l.fsFar + 1, fsRun := [] })
    else
      let o := s.obs off
      let s := s.lds' (fun l => { l with fsSeen := true, fsRun := (o :: l.fsRun).take 6000 })
      let s := noteOffset .fsync off s
      if s.lds.fsRun.length = 6000 && nearMean 1000 s.lds.fsRun then qualify .fsync s else s

/-- FSYNC_LOST (R94, R100): eight frames without a usable edge. -/
def execFsyncLost (s : State) : Outcome :=
  done s (fun s => guardS (s.lds.fsyncSlave && s.lds.qual.contains .fsync && s.lds.fsMiss ≥ 8)
    (fun s => (lose .fsync (s.lds' (fun l => { l with fsRun := [] }))).owner 0x0607) s)

/-- REF10_QUALIFY (R94). -/
def execRef10Qualify (s : State) : Outcome := done s (fun s => guardS s.lds.on (qualify .ref10) s)

/-- REF10_LOST (R94, R101). -/
def execRef10Lost (s : State) : Outcome := done s (fun s => guardS s.lds.on (lose .ref10) s)

/-- LDS_ACQ.TMO_S has passed since the release of the main domain (R101). -/
def State.acqDue (s : State) : Bool := s.lds.on && !s.lds.acqOver && s.lds.tmoS * 500000000 ≤ s.lds.ticks

/-- The timeout in UNSET (R101, R534): time is loaded from TIME_SET, the journal or the epoch when the load is unused, TIME_UNTRACEABLE names the source,
and Lodestone enters FREERUN. -/
def acqUnset (s0 : State) : State :=
  let src : Nat := if s0.lds.loadUsed then 4 else if s0.lds.timeSet.isSome then 0 else if s0.lds.journaled.isSome then 1 else 3
  let t : Nat := match s0.lds.timeSet with
    | some (v, f) => v + (s0.frm.now - f) * 10000000 + s0.sinceBeat0
    | none => s0.lds.journaled.getD 0
  let s := if s0.lds.loadUsed then s0 else offsetLoad t s0
  refChange s0 ((s.lds' (fun l => { l with untraceable := true, st := .freerun })).owner 0x0603 [tCode src])

/-- ACQ_TIMEOUT (R101): an event without a row outside UNSET. -/
def execAcqTimeout (s : State) : Outcome :=
  done s (fun s => guardS s.acqDue (fun s =>
    let s := s.lds' (fun l => { l with acqOver := true })
    if s.lds.st = .unset then acqUnset s else refIgnored s) s)

/-- SLEW_COMPLETE (R95, R101): the offset has stayed within 50 ns for 16 measurements. -/
def execSlewComplete (s : State) : Outcome :=
  done s (fun s => guardS (s.lds.st = .switch && s.lds.within ≥ 16)
    (fun s => refChange s (s.lds' (fun l => { l with st := .locked, slewLeft := 0 }))) s)

/-- HOLDOVER_EXPIRED (R101): after 24 h (8,640,000 frames) in HOLDOVER. -/
def execHoldoverExpired (s : State) : Outcome :=
  done s (fun s => guardS (s.lds.st = .holdover && !s.lds.holdExpired && s.lds.holdFrames ≥ 8640000)
    (fun s => (s.lds' (fun l => { l with holdExpired := true })).owner 0x0606) s)

/-- n Σx² − (Σx)² of the offsets of a run, and their number. -/
def spread (l : List Obs) : Int × Nat :=
  let u := unsteered l
  ((u.length : Int) * u.foldl (fun a x => a + x * x) 0 - (u.foldl (· + ·) 0) ^ 2, u.length)

/-- The standard deviation of a run is below `d` ns; it is taken as that of the 64 values themselves, divided by n and not by n - 1 (R94; DESIGN CHOICE,
log 9). -/
def sdBelow (d : Nat) (l : List Obs) : Bool := (spread l).1 < ((d * ldsUnit * (spread l).2 : Nat) : Int) ^ 2

/-- The standard deviation of a run exceeds `d` ns (R94). -/
def sdAbove (d : Nat) (l : List Obs) : Bool := (spread l).1 > ((d * ldsUnit * (spread l).2 : Nat) : Int) ^ 2

/-- PTP counts as lost when no port is in SLAVE whose deviation over 64 Sync intervals is at most 4 × SD_NS (R94). -/
def ptpCheckLost (s : State) : State :=
  if s.lds.ptp.any (fun e => e.2.st == .slave && e.2.offs.length == 64 && !sdAbove (4 * s.lds.sdNs) e.2.offs) then s else lose .ptp s

/-- clockClass the instance advertises on its master ports (R93). Where several ports are in SLAVE, the class of the lowest port code counts; LOCKED or
SWITCH toward FSYNC advertises 6 only while 1PPS is qualified and so labels the frames, and else the class of the master of a PTP port in SLAVE, or 248
(DESIGN CHOICE, log 82). -/
def Lodestone.clockClass (l : Lodestone) : Nat :=
  let gm : Nat := ((l.ptp.find? (fun e => e.2.st == .slave)).bind (fun e => e.2.foreign.head?.map (·.data.cls))).getD 248
  match l.st with
  | .unset | .freerun => 248
  | .holdover => if l.holdFrames < 8640000 then 7 else 187
  | .locked | .switch => match l.target with
    | some .ptp => gm
    | some .fsync => if l.qual.contains .pps then 6 else gm
    | _ => 6

/-! ### TOD_TX (R98) -/

/-- Decimal digits of a number, with fuel. -/
def decAux : Nat → Nat → Bytes → Bytes
  | 0, _, a => a
  | f + 1, n, a => let a := byte (48 + n % 10) :: a; if n < 10 then a else decAux f (n / 10) a

/-- Decimal digits of a number of at most 20 digits, in ASCII. -/
def dec (n : Nat) : Bytes := decAux 20 n []

/-- A hexadecimal digit in ASCII. -/
def hexDigit (n : Nat) : Byte := byte (if n < 10 then 48 + n else 55 + n)

/-- `$PZTOD,<s>,<u>,<q>*<hh>` with carriage return and line feed (R97); hh is the exclusive-or of the characters between $ and *. -/
def pztod (sec u q : Nat) : Bytes :=
  let body := [80, 90, 84, 79, 68, 44].map byte ++ dec sec ++ [byte 44] ++ dec u ++ [byte 44] ++ dec q
  let x := (body.foldl (fun a b => a ^^^ b) 0).toNat
  [byte 36] ++ body ++ [byte 42, hexDigit (x / 16), hexDigit (x % 16), 13, 10]

/-- TOD_TX_SENTENCE (R98): it labels the latest PPS_OUT edge; none is sent in UNSET. -/
def execTodTxSentence (s : State) : Outcome :=
  done s (fun s => guardS (s.lds.on && s.lds.st != .unset) (fun s =>
    let sec := s.ns / 1000000000
    let q := match s.lds.st with | .holdover => 1 | .freerun => 2 | _ => 0
    s.send .todTx 0 [] (pztod sec (s.lds.tai sec) q)) s)

/-! ### Timer channels (R103 to R107) -/

/-- DEST is legal for a channel (R104). -/
def destLegal (n dest : Nat) : Bool :=
  match dest with
  | 0 | 1 | 2 => true
  | 3 => n == 0
  | 4 => n == 3 || n ≥ 6
  | 5 => n == 4 || n ≥ 6
  | 6 => n == 5 || n ≥ 6
  | _ => false

/-- LDS_TMR_WID of a channel; 1 at reset. -/
def State.tmrWid (s : State) (n : Nat) : Nat := s.regD (aLdsTmrWid n) 1

/-- A configuration that R105 refuses. -/
def tmrBad (s : State) (n : Nat) (periodic : Bool) (dest : Nat) : Bool :=
  let wid := s.tmrWid n
  let per := s.reg (aLdsTmrPer n)
  !destLegal n dest
  || ((dest == 1 || dest == 2) && (wid < 1 || wid > 100000))
  || (periodic && (per < 2000 || per ≥ 2 ^ 31))
  || (periodic && (dest == 1 || dest == 2) && wid * 1000 ≥ per)

/-- The compare value has been passed (R103). -/
def tmrPassed (s : State) (n : Nat) : Bool := (s.lds.nsReg + 2 ^ 32 - s.reg (aLdsTmrCmp n)) % 2 ^ 32 < 2 ^ 31

/-- Arm a channel: disarmed with CFG_ERR where R105 refuses it, LATE set where the compare has been passed (R103, R105). -/
def armTimer (n : Nat) (periodic : Bool) (dest : Nat) (s : State) : State :=
  let w := withField (withField (s.reg (aLdsTmrCtl n)) 1 1 (b2n periodic)) 2 3 dest
  if tmrBad s n periodic dest then (s.setReg (aLdsTmrCtl n) (clrBit w 0)).setFlag (aLdsTmrCtl n) 11
  else
    let s := s.setReg (aLdsTmrCtl n) (setBit w 0)
    if tmrPassed s n then s.setFlag (aLdsTmrCtl n) 9 else s

/-- A channel's compare, period and width; while ARM is 1 they are kept (R105). -/
def setCompare (n cmp per wid : Nat) (s : State) : State :=
  ((s.setReg (aLdsTmrCmp n) (cmp % 2 ^ 32)).setReg (aLdsTmrPer n) (per % 2 ^ 32)).setReg (aLdsTmrWid n) (wid % 2 ^ 17)

/-- Configure and arm a channel: one that is armed ignores the configuration and sets CFG_ERR (R105). -/
def configTimer (n : Nat) (periodic : Bool) (c : TmrCfg) (s : State) : State :=
  if bit (s.reg (aLdsTmrCtl n)) 0 then s.setFlag (aLdsTmrCtl n) 11 else armTimer n periodic c.dest (setCompare n c.cmp c.per c.wid s)

/-- TIMER_ARM (R105, R107): firmware configures a channel and arms it; on channels 0 to 5 the fields are locked in frame service (R83, R107). -/
def execTimerArm (n : Nat) (periodic : Bool) (cfg : TmrCfg) (s : State) : Outcome :=
  done s (fun s => guardS (n < 16 && !(n < 6 && s.boot.inService)) (configTimer n periodic cfg) s)

/-- Destination of a channel. -/
def State.tmrDest (s : State) (n : Nat) : Nat := fieldOf (s.reg (aLdsTmrCtl n)) 2 3

/-! ### The time family of opcodes -/

/-- The flag of a time value derived in FREERUN or HOLDOVER (R144). -/
def State.freeFlag (s : State) : Nat := if s.lds.st = .freerun || s.lds.st = .holdover then rfFreeRunning else 0

/-- TIME_READ (R101, R144): VALUE the network time in ns, CODE the state, CODE the reference, COUNT TAI minus UTC, FRAME the current frame (log 13). -/
def opTimeRead : OpInfo :=
  { op := 0x0601, need := .any,
    commit := fun c s => (s, c.ok [tValue s.ns, tCode (ldsCode s.lds.st), tCode s.lds.refField, tFrame s.frm.now,
      tCount (s.lds.tai (s.ns / 1000000000))] s.freeFlag) }

/-- TIME_SET (R534). -/
def opTimeSet : OpInfo :=
  { op := 0x0603, need := .owner, specs := [cValue.must], maint := fun _ => true,
    accept := fun c s => do
      need (c.int 0x000C ≥ 0) (eRange 0x000C)
      need (s.lds.st = .unset && !s.lds.loadUsed) (eStat stFrameServiceActive),
    commit := fun c s => (s.lds' (fun l => { l with timeSet := some (c.nat 0x000C, s.frm.now) }), c.ok) }

/-- UTC_TABLE (R97, R272): COUNT is TAI minus UTC before the table; DATA holds entries of a 64-bit PTP second and a 32-bit TAI minus UTC from it
on (log 10). -/
def opUtcTable : OpInfo :=
  { op := 0x0604, need := .owner, specs := [(cCount 0 65535).must, cData 1152], maint := fun _ => true,
    accept := fun c _ => need (((c.tlv? 0x0009).getD []).length % 12 == 0) (eRange 0x0009),
    commit := fun c s => (s.lds' (fun l => { l with
      taiUtc := c.nat 0x000F,
      leaps := (chunks 12 ((c.tlv? 0x0009).getD [])).map (fun b => ⟨beNat (b.take 8), beNat (b.drop 8)⟩) }), c.ok) }

/-- A port code is an uplink or a spine port (R91, R140). -/
def ptpPortCode (p : Nat) : Bool := (0x0100 ≤ p && p < 0x0110) || p == 0x0110 || p == 0x0111

/-- The intervals that PTP_PORT may set lie in the ranges of R91: logSyncInterval, the delay request intervals, logAnnounceInterval and
announceReceiptTimeout. -/
def ptpIntervals (d : Bytes) : Bool :=
  let k (i : Nat) : Int := beInt (slice d (24 + i) 1)
  d.length ≠ 28 || (-7 ≤ k 0 && k 0 ≤ 0 && -7 ≤ k 1 && k 1 ≤ 0 && -3 ≤ k 2 && k 2 ≤ 3 && 2 ≤ k 3 && k 3 ≤ 10)

/-- A PTP port as PTP_PORT configures it. -/
def configPort (c : Cmd) (now : Nat) (q : PtpPort) : PtpPort :=
  let d := (c.tlv? 0x0009).getD []
  let q := { q with role := (c.code? 1).getD q.role, mech := (c.code? 2).getD q.mech, step := (c.code? 3).getD q.step, annAt := now }
  let q := if q.role = 1 then { q with st := .master, offs := [] } else if q.role = 2 then { q with st := .slave } else q
  let q := if d.isEmpty then q else { q with inDelay := beInt (slice d 0 8), egDelay := beInt (slice d 8 8), asym := beInt (slice d 16 8) }
  if d.length = 28 then
    { q with logSync := beInt (slice d 24 1), logDelay := beInt (slice d 25 1), logAnn := beInt (slice d 26 1), annTmo := beNat (slice d 27 1) }
  else q

/-- PTP_PORT (R89, R91): PORT; CODE 0 off or 1 on, CODE role, CODE mechanism, CODE steps; DATA three 64-bit values in ns: ingress delay, egress
delay, asymmetry, and after them, where they are given, logSyncInterval, the delay request intervals, logAnnounceInterval and announceReceiptTimeout in a
byte each; COUNT the domain (log 10). -/
def opPtpPort : OpInfo :=
  { op := 0x0605, need := .owner, specs := [cPort.must, { (cCode 2) with req := true, rep := true }, cData 28, cCount 0 127],
    accept := fun c s => do
      need (ptpPortCode (c.nat 0x000B)) (eRange 0x000B)
      need ((c.code? 0).getD 0 ≤ 1) (eRange 0x000D)
      need ((c.code? 2).getD 0 ≤ 1) (eRange 0x000D 2)
      need ((c.code? 3).getD 0 ≤ 1) (eRange 0x000D 3)
      need (let n := ((c.tlv? 0x0009).getD []).length; n == 0 || n == 24 || n == 28) (eRange 0x0009)
      need (ptpIntervals ((c.tlv? 0x0009).getD [])) (eRange 0x0009)
      need ((c.code? 0).getD 0 == 0 || s.codeFitted (c.nat 0x000B)) (eConfig 0x000B),
    commit := fun c s =>
      let p := c.nat 0x000B
      let s := match c.nat? 0x000F with | some n => s.lds' (fun l => { l with domain := n }) | none => s
      if (c.code? 0).getD 0 = 0 then (ptpCheckLost (s.lds' (fun l => { l with ptp := terase l.ptp p })), c.ok)
      else (ptpCheckLost (s.lds' (fun l => { l with ptp := tupd l.ptp p {} (configPort c s.frm.now) })), c.ok) }

/-- C_in and C_eg of a port mode in tenths of a ns (R89): MSL 4 without and with RS-FEC, MSL 3, 100GBASE-R without and with RS-FEC. -/
def portConst (mode : Nat) : Nat × Nat :=
  match mode with
  | 0 => (524, 388)
  | 1 => (2416, 1712)
  | 2 => (968, 744)
  | 3 => (616, 452)
  | _ => (2560, 1836)

/-- The mode of a port for R89. -/
def State.portMode (s : State) (p : Nat) : Nat :=
  if p < 0x100 then (if (s.grain p).rate = 2 then 2 else if (s.grain p).fecOn then 1 else 0)
  else if (tgetD s.qry.upl (p - 0x100) {}).fec then 4 else 3

/-- A MAC stamps a received frame at ingress (R88). -/
def noteIn (port : Nat) (s : State) : State := s.lds' (fun l => { l with stampIn := tset l.stampIn port l.nsReg })

/-- A MAC stamps a marked frame at egress (R88). -/
def noteEg (port : Nat) (s : State) : State := s.lds' (fun l => { l with stampEg := tset l.stampEg port l.nsReg })

/-- TIME_RAW_READ (R88, R90): the vCtl's raw stamps of PORT with the constant of the port mode in force, and the extended network time of the
frame; at most 64 stamps in one reply, and each is delivered once (DESIGN CHOICE, log 10). -/
def opTimeRawRead : OpInfo :=
  { op := 0x1601, need := .mod 5, specs := [cPort.must],
    commit := fun c s =>
      let p := c.nat 0x000B
      let mine := s.lds.stamps.filter (fun e => e.1 == c.vctl && e.2.1 == p)
      let k := portConst (s.portMode p)
      let d := (mine.take 64).flatMap (fun e => [byte (b2n e.2.2.1)] ++ beBytes 3 (if e.2.2.1 then k.2 else k.1) ++ beBytes 4 e.2.2.2)
      (s.lds' (fun l => { l with stamps := l.stamps.filter (fun e => !(mine.take 64).contains e) }),
        c.ok [tPort p, tValue (s.frm.now * 10000000), tData d] s.freeFlag) }

/-- A vCtl's pool channel by its own number (R160). -/
def State.poolChannel (s : State) (v k : Nat) : Option Nat := ((s.lds.pool.filter (fun e => e.1 == v)).map (·.2))[k]?

/-- The lowest of the vCtl's channels that is not armed. -/
def State.freeChannel (s : State) (v : Nat) : Option Nat :=
  ((s.lds.pool.filter (fun e => e.1 == v)).map (·.2)).find? (fun n => !bit (s.reg (aLdsTmrCtl n)) 0)

/-- TIMED_PULSE (R103 to R107): VALUE the network time in ns of the firing, CODE the DEST 0 to 2, COUNT the width in microseconds (default 1); a
second COUNT the period in ns. NO_TIMER_CHANNEL where none of the vCtl's channels is free (log 10). -/
def opTimedPulse : OpInfo :=
  { op := 0x1606, need := .mod 5, specs := [cValue.must, (cCode 2).must, { (cCount 0 (2 ^ 32 - 1)) with rep := true }],
    accept := fun c s => do
      let wid := (((c.all 0x000F)[0]?).map beNat).getD 1
      let per := ((c.all 0x000F)[1]?).map beNat
      need (1 ≤ wid && wid ≤ 100000) (eRange 0x000F)
      need (match per with | some p => 2000 ≤ p && p < 2 ^ 31 && (c.nat 0x000D == 0 || wid * 1000 < p) | none => true) (eRange 0x000F 1)
      need (s.freeChannel c.vctl).isSome (eStat stNoTimerChannel),
    commit := fun c s =>
      match s.freeChannel c.vctl with
      | none => (s, c.reply stNoTimerChannel)
      | some n =>
        let wid := (((c.all 0x000F)[0]?).map beNat).getD 1
        let per := ((c.all 0x000F)[1]?).map beNat
        let s := s.setReg (aLdsTmrCmp n) (c.nat 0x000C % 2 ^ 32)
        let s := s.setReg (aLdsTmrWid n) wid
        let s := s.setReg (aLdsTmrPer n) (per.getD 0)
        (armTimer n per.isSome (c.nat 0x000D) s, c.ok) }

/-- STAMP_MARK (R88): PORT and COUNT, the number of the vCtl's next frames on that port that are stamped at egress; COUNT 0 unmarks (log 10). -/
def opStampMark : OpInfo :=
  { op := 0x1607, need := .mod 5, specs := [cPort.must, (cCount 0 65535).must],
    accept := fun c _ => need (c.nat 0x000B < 0x0110) (eRange 0x000B),
    commit := fun c s =>
      let rest := s.lds.marks.filter (fun e => !(e.1 == c.vctl && e.2.1 == c.nat 0x000B))
      (s.lds' (fun l => { l with marks := if c.nat 0x000F = 0 then rest else rest ++ [(c.vctl, c.nat 0x000B, c.nat 0x000F)] }), c.ok) }

/-- TIME_READ. -/
def execTimeRead (src : Src) (tlvs : List Tlv) (s : State) : Outcome := execOp opTimeRead src tlvs s
/-- TIME_SET. -/
def execTimeSet (src : Src) (tlvs : List Tlv) (s : State) : Outcome := execOp opTimeSet src tlvs s
/-- UTC_TABLE. -/
def execUtcTable (src : Src) (tlvs : List Tlv) (s : State) : Outcome := execOp opUtcTable src tlvs s
/-- PTP_PORT. -/
def execPtpPort (src : Src) (tlvs : List Tlv) (s : State) : Outcome := execOp opPtpPort src tlvs s
/-- TIME_RAW_READ. -/
def execTimeRawRead (src : Src) (tlvs : List Tlv) (s : State) : Outcome := execOp opTimeRawRead src tlvs s
/-- TIMED_PULSE. -/
def execTimedPulse (src : Src) (tlvs : List Tlv) (s : State) : Outcome := execOp opTimedPulse src tlvs s
/-- STAMP_MARK. -/
def execStampMark (src : Src) (tlvs : List Tlv) (s : State) : Outcome := execOp opStampMark src tlvs s

end Sys2Proof.Machine
end

