-- ==== Sys2Proof/Machine/Msl.lean ====
section
/-!
DEFINITION. Machine/Msl.lean: the bytes of the messages that the module sends on its strings (R5, R89, R193, R195 to R197, R202, R209, R210, R214, R217
to R219, R221, R231). The layouts of bodies that the spec names without a layout are DESIGN CHOICE (log 85).
-/
namespace Sys2Proof.Machine

/-! ### Types -/

/-- MTYPE of a message that the module sends, and its credit class (R197); a bridge message has its own MTYPE (R232). -/
def mslType : Msg → Nat → Nat × Nat
  | .mslEnumerate, _ => (0x01, 0)
  | .mslPairInit, _ => (0x10, 0)
  | .mslPairDone, _ => (0x12, 0)
  | .mslAssocInit, _ => (0x14, 0)
  | .mslAssocClose, _ => (0x16, 0)
  | .mslGroupKey, _ => (0x18, 0)
  | .mslFrame, _ => (0x20, 1)
  | .mslUrgent, _ => (0x21, 0)
  | .mslTimeSync, _ => (0x28, 1)
  | .mslDelayResp, _ => (0x2A, 1)
  | .mslCreditQuery, _ => (0x31, 0)
  | .mslBridge, t => (t, 2)
  | _, _ => (0, 0)

/-- How a message is protected (R196, R197). -/
inductive MslProt where
  /-- PROT 0 -/
  | clear
  /-- PROT 1: AID, CTR, key -/
  | sealed (aid ctr : Nat) (key : Bytes)
  /-- PROT 1, the body authenticated and not encrypted: ASSOC_INIT (R210) -/
  | tagged (aid ctr : Nat) (key : Bytes)
  /-- PROT 1 and GROUP, under the string group key (R214) -/
  | group (aid ctr : Nat) (key : Bytes)
deriving DecidableEq, Repr

/-- AID and CTR of the header; 0 when PROT is 0 (R195). -/
def MslProt.ids : MslProt → Nat × Nat
  | .clear => (0, 0)
  | .sealed a c _ => (a, c)
  | .tagged a c _ => (a, c)
  | .group a c _ => (a, c)

/-- FLAGS bits 0 and 1. -/
def MslProt.bits : MslProt → Nat
  | .clear => 0
  | .sealed _ _ _ => 1
  | .tagged _ _ _ => 1
  | .group _ _ _ => 3

/-- Bytes that protection adds: the tag. -/
def MslProt.extra : MslProt → Nat
  | .clear => 0
  | _ => 16

/-- Length of a message whose body has `n` bytes: header, body and tag (R195, R196). -/
def mslLen (prot : MslProt) (n : Nat) : Nat := 20 + n + prot.extra

/-! ### Layouts -/

/-- MVER of the MSL major and minor that run at a rate: MSL 4.2 or MSL 3.5 (R188, R195). -/
def mslVer (rate : Nat) : Nat := if rate = 2 then 0x35 else 0x42

/-- The 20-byte header (R195). -/
def mslHeader (ver type hop cls : Nat) (prot : MslProt) (len : Nat) : Bytes :=
  [byte ver, byte type, byte hop, byte (prot.bits + 8 * cls)] ++ beBytes 2 len ++ [0, 0] ++ beBytes 4 prot.ids.1 ++ beBytes 8 prot.ids.2

/-- The 12-byte nonce: AID and CTR (R196). -/
def mslNonce (aid ctr : Nat) : Bytes := beBytes 4 aid ++ beBytes 8 ctr

/-- What follows the header: the body in clear, sealed with its tag, or in clear with its tag (R196, R210). -/
def mslBody (prot : MslProt) (hdr body : Bytes) : Bytes :=
  match prot with
  | .clear => body
  | .tagged a c k => body ++ beBytes 16 (Config.aesGcm k (mslNonce a c) (hdr ++ body) [])
  | .sealed a c k => beBytes (body.length + 16) (Config.aesGcm k (mslNonce a c) hdr body)
  | .group a c k => beBytes (body.length + 16) (Config.aesGcm k (mslNonce a c) hdr body)

/-- A message; `args` are its arguments, of which a bridge message gives its MTYPE first (R195, R196). -/
def mslMessage (rate hop : Nat) (kind : Msg) (args : List Nat) (prot : MslProt) (body : Bytes) : Bytes :=
  let t := mslType kind (args.headD 0)
  let hdr := mslHeader (mslVer rate) t.1 hop t.2 prot (mslLen prot body.length)
  hdr ++ mslBody prot hdr body

/-- The Ethernet frame of a message: the MSL destination, the port's own address, EtherType 0x88B5, the message with what follows it, and zero padding
to the minimum frame size of IEEE 802.3 (R193). -/
def mslEther (port : Nat) (msg : Bytes) : Bytes :=
  beBytes 6 0x035A4D534C00 ++ beBytes 6 (Config.portMac port) ++ beBytes 2 0x88B5 ++ msg ++ List.replicate (46 - msg.length) 0

/-- The entries of FRAME and URGENT: slot in bits 31 to 28, slate code in bits 15 to 0 (R218, R219). -/
def mslEntries (es : List (Nat × Nat)) : Bytes := es.flatMap (fun e => beBytes 4 (e.1 % 16 * 2 ^ 28 + e.2 % 2 ^ 16))

/-- The slots and codes of entries as arguments of a message. -/
def entryArgs (es : List (Nat × Nat)) : List Nat := es.flatMap (fun e => [e.1, e.2])

/-- FRAME (R218). -/
def frameBody (frame : Nat) (full : Bool) (es : List (Nat × Nat)) : Bytes :=
  beBytes 8 frame ++ [byte (b2n full), byte es.length, 0, 0] ++ mslEntries es

/-- URGENT (R219). -/
def urgentBody (frame beat : Nat) (es : List (Nat × Nat)) : Bytes := beBytes 8 frame ++ [byte beat, 0, 0, 0] ++ mslEntries es

/-- GROUP_KEY: epoch, 3 reserved bytes, group AID, key (R214, log 85). -/
def groupKeyBody (epoch aid : Nat) (key : Bytes) : Bytes := [byte epoch, 0, 0, 0] ++ beBytes 4 aid ++ key

/-- ASSOC_INIT: salt, AID to and from the pole node, MSL major, adopted position, 2 reserved bytes, capability intersection (R210, log 85). -/
def assocInitBody (salt : Bytes) (aidTx aidRx major pos caps : Nat) : Bytes :=
  salt ++ beBytes 4 aidTx ++ beBytes 4 aidRx ++ [byte major, byte pos, 0, 0] ++ beBytes 4 caps

/-- TIME_SYNC: 48-bit seconds, 32-bit ns, frame number, epoch, a reserved byte (R221, log 85). -/
def timeSyncBody (ns frame epoch : Nat) : Bytes :=
  beBytes 6 (ns / 10 ^ 9) ++ beBytes 4 (ns % 10 ^ 9) ++ beBytes 8 frame ++ [byte epoch, 0]

/-- DELAY_RESP: 48-bit seconds and 32-bit ns of the request's ingress (R221, log 85). -/
def delayRespBody (ns : Nat) : Bytes := beBytes 6 (ns / 10 ^ 9) ++ beBytes 4 (ns % 10 ^ 9)

/-- A request of the bridge (R231). -/
def bridgeBody (slot tag reg count : Nat) (data : Bytes) : Bytes :=
  [byte (slot % 16), byte tag] ++ beBytes 2 reg ++ [byte count, 0, 0, 0] ++ data

/-- A P-256 public key: x and y. -/
def p256Bytes (k : Nat × Nat) : Bytes := beBytes 32 k.1 ++ beBytes 32 k.2

/-- The module's device certificate chain: device identity and device CA, each after its length (R209, R498, log 85). -/
def deviceChain (mA : List Bytes) : Bytes :=
  [1, 0].flatMap (fun i => beBytes 2 (Config.moduleCert i mA).length ++ Config.moduleCert i mA)

/-- What the signature of PAIR_DONE covers: both keys, both nonces, the pole node's EUI-64 (R209, log 85). -/
def pairDoneText (own : Nat × Bytes) (r : PairResp) (eui : Nat) : Bytes :=
  p256Bytes (Config.p256Pub own.1) ++ r.key ++ own.2 ++ r.nonce ++ beBytes 8 eui

/-- PAIR_DONE: the signature (R209, log 85). -/
def pairDoneBody (own : Nat × Bytes) (r : PairResp) (eui : Nat) : Bytes :=
  let x := Config.deviceSign (beBytes 48 (Config.sha384 (pairDoneText own r eui)))
  beBytes 48 x.1 ++ beBytes 48 x.2

/-! ### Keys -/

/-- The pairwise key: HKDF-SHA-384 over the ECDH secret and both nonces (R209 step 4). -/
def pairwiseKey (own : Nat × Bytes) (r : PairResp) : Bytes :=
  beBytes 32 (Config.hkdf (beBytes 32 (Config.ecdh own.1 r.key)) (own.2 ++ r.nonce) [])

/-- The key of a direction: HKDF-SHA-384 from the pairwise key, the salt and the direction's AID (R210). -/
def directionKey (pairwise salt : Bytes) (aid : Nat) : Bytes := beBytes 32 (Config.hkdf pairwise salt (beBytes 4 aid))

/-! ### Time at the reference plane (R88, R89, R221) -/

/-- Network time in ns of a frame that leaves a string port now. -/
def State.egressNs (s : State) (port : Nat) : Nat := (10 * s.ns + (portConst (s.portMode port)).2) / 10

/-- Network time in ns of a frame that arrived at a string port now. -/
def State.ingressNs (s : State) (port : Nat) : Nat := (10 * s.ns - (portConst (s.portMode port)).1) / 10

end Sys2Proof.Machine
end

