-- ==== Sys2Proof/Machine/Strings.lean ====
section
/-!
DEFINITION. Machine/Strings.lean: string links, censuses, pairing, associations, credits, the group key and time messages (R26, R188 to R225).
-/
namespace Sys2Proof.Machine

/-! ### Routes and messages to pole nodes -/

/-- Port and HOP of a message to the pole node at a position (R205). -/
def State.route (s : State) (g p : Nat) : Nat × Nat :=
  let gr := s.grain g
  match gr.role with
  | .lower h => if gr.folded && p > gr.foldA then (h, gr.record.length + 1 - p) else (g, p)
  | _ => (g, p)

/-- Credits a message of `len` bytes costs (R215). -/
def creditCost (len : Nat) : Nat := cdiv len 256

/-- Send one message of the MSL: its arguments after port and HOP, and its Ethernet frame (R193). -/
def sendMsl (g port hop dst : Nat) (kind : Msg) (pre args : List Nat) (prot : MslProt) (body : Bytes) (tail : Bytes := []) (s : State) : State :=
  s.send kind dst (pre ++ args) (mslEther port (mslMessage (s.stringRate g) hop kind args prot body ++ tail))

/-- Put a message of the association on the wire: CTR rises by one, and the message with CTR 2^64 - 1 is the last under its key (R211, R212). -/
def wirePole (g p : Nat) (kind : Msg) (args : List Nat) (body : Bytes) (tail : Bytes := []) (s : State) : State :=
  match (s.pole? g p).bind (·.assoc) with
  | some k =>
    let (port, hop) := s.route g p
    guardS (k.ctrTx + 1 < 2 ^ 64) (fun s =>
      sendMsl g port hop (mkHandle g p 0) kind [port, hop, k.aidTx, k.ctrTx + 1] args (.sealed k.aidTx (k.ctrTx + 1) k.keyTx) body tail
        (s.modPole g p (fun q => { q with assoc := some { k with ctrTx := k.ctrTx + 1 } }))) s
  | none => s

/-- Put ASSOC_INIT on the wire: CTR 1 under the new module-to-pole key (R210). -/
def wireInit (g p : Nat) (args : List Nat) (body : Bytes) (s : State) : State :=
  match (s.pole? g p).bind (·.init) with
  | some i =>
    let (port, hop) := s.route g p
    sendMsl g port hop (mkHandle g p 0) .mslAssocInit [port, hop, i.keys.aidTx, 1] args (.tagged i.keys.aidTx 1 i.keys.keyTx) body [] s
  | none => s

/-- Put a message of the pairing on the wire (R209). -/
def wireClear (g p : Nat) (kind : Msg) (args : List Nat) (body : Bytes) (s : State) : State :=
  let (port, hop) := s.route g p
  sendMsl g port hop (mkHandle g p 0) kind [port, hop] args .clear body [] s

/-- The request's trailer, which a DELAY_RESP carries after the tag (R221, log 85). -/
def respTail (kind : Msg) (body : Bytes) : Bytes × Bytes :=
  if kind = .mslDelayResp then (body.take 10, body.drop 10) else (body, [])

/-- Put a message on the wire as its kind requires. -/
def wireItem (g p : Nat) (kind : Msg) (args : List Nat) (body : Bytes) (s : State) : State :=
  match kind with
  | .mslPairInit => wireClear g p kind args body s
  | .mslPairDone => wireClear g p kind args body s
  | .mslAssocInit => wireInit g p args body s
  | _ => wirePole g p kind args (respTail kind body).1 (respTail kind body).2 s

/-- Bytes of a message from MVER to the end of its tag (R215). -/
def itemLen (kind : Msg) (body : Bytes) : Nat :=
  match kind with
  | .mslPairInit => 20 + body.length
  | .mslPairDone => 20 + body.length
  | _ => 36 + (respTail kind body).1.length

/-- A class has traffic waiting: R217 counts from the frame in which it finds no available credit. -/
def noteStall (g p cls : Nat) (s : State) : State :=
  s.modPole g p (fun q => if q.credits.getD cls 0 = 0 && (tget q.stall cls).isNone then { q with stall := tset q.stall cls s.frm.now } else q)

/-- Credits are taken. -/
def Pole.take (q : Pole) (cls cost : Nat) : Pole := { q with credits := q.credits.set cls (q.credits.getD cls 0 - cost) }

/-- Send a message to a pole node in its credit class: it waits in order while the class lacks credits (R215). -/
def sendItem (g p : Nat) (kind : Msg) (args : List Nat) (body : Bytes) (s : State) : State :=
  match s.pole? g p with
  | none => s
  | some q =>
    let cls := (mslType kind (args.headD 0)).2
    let cost := creditCost (itemLen kind body)
    if q.held.any (fun h => h.cls == cls) || q.credits.getD cls 0 < cost then
      noteStall g p cls (s.modPole g p (fun q => { q with held := q.held ++ [⟨cls, cost, kind, args, body⟩] }))
    else wireItem g p kind args body (s.modPole g p (fun q => q.take cls cost))

/-- Send a message of the association (R215). -/
def sendPole (g p : Nat) (kind : Msg) (args : List Nat) (body : Bytes) (s : State) : State :=
  guardS ((s.pole? g p).any (fun q => q.assoc.isSome)) (sendItem g p kind args body) s

/-- Release the messages that the credits of a class now admit, in order (R215), with fuel. -/
def releaseHeld (g p cls : Nat) : Nat → State → State
  | 0, s => s
  | f + 1, s => match s.pole? g p with
    | none => s
    | some q => match q.held.find? (fun h => h.cls == cls) with
      | none => s
      | some h =>
        if q.credits.getD cls 0 < h.cost then noteStall g p cls s
        else releaseHeld g p cls f (wireItem g p h.kind h.args h.body (s.modPole g p (fun q => { q.take cls h.cost with held := q.held.erase h })))

/-- Messages held toward a pole node. -/
def State.heldTo (s : State) (g p : Nat) : Nat := ((s.pole? g p).map (·.held.length)).getD 0

/-- All credits of a pole node are available: nothing that it holds can be counted any more (R215; DESIGN CHOICE, log 85). -/
def fullCredits (g p : Nat) (s : State) : State :=
  s.modPole g p (fun q => { q with credits := [32, 32, 32, 32], stall := [], queried := [] })

/-- A protected message from a pole node is accepted under its association, or under the old keys while they last: one that fails
authentication, or that lacks PROT or bears GROUP, is counted in GRN_DROP.AUTH (R196, R214), a replay in GRN_DROP.REPLAY (R211), one that came round
a closed loop in GRN_DROP.LOOP (R205). -/
def mslAccept (g p : Nat) (h : MslHdr) (s : State) : State × Bool :=
  let auth := (s.count (aGrnDrop g) 0 8, false)
  match s.pole? g p with
  | none => auth
  | some pole =>
    let use (k : PoleKeys) (put : PoleKeys → Pole → Pole) : State × Bool :=
      if h.ctr + 64 < k.high || h.ctr = k.high || k.seen.contains h.ctr then (s.count (aGrnDrop g) 8 8, false)
      else
        let hi := max k.high h.ctr
        let seen := ((if h.ctr < k.high then h.ctr else k.high) :: k.seen).filter (fun c => c + 64 ≥ hi && c < hi)
        (s.modPole g p (put { k with high := hi, seen := seen }), true)
    if h.round && !(s.grain g).folded then (s.count (aGrnDrop g) 20 4, false)
    else if !h.ok || h.flags % 4 ≠ 1 then auth
    else match pole.assoc, pole.old with
      | some k, old =>
        if k.aidRx = h.aid then use k (fun k q => { q with assoc := some k })
        else match old with
          | some (o, t) => if o.aidRx = h.aid && s.frm.now < t then use o (fun o q => { q with old := some (o, t) }) else auth
          | none => auth
      | none, _ => auth

/-- The meaning of a message from a pole node: nothing but its count when it is not accepted. -/
def onMsl (g p : Nat) (h : MslHdr) (f : State → State) (s : State) : State :=
  let (s, ok) := mslAccept g p h s
  if ok then f s else s

/-! ### What tenants are told of a pole node (R224) -/

/-- ENDPOINT_STATE with the code for every slot of a pole node. -/
def tellPole (g p code : Nat) (s : State) : State :=
  match s.pole? g p with
  | some q => (s.modPole g p (fun q => { q with told := code })).endpointState (poleHandles g p q) code
  | none => s

/-! ### Pairing and associations (R209 to R213) -/

/-- The module's capability field masked to what the string's major defines (R191). -/
def capMask (rate : Nat) : Nat := if rate = 2 then 3 else 15

/-- Capability intersection of a string: its adopted pole nodes' fields with the module's (R191, R192). -/
def State.stringCaps (s : State) (g : Nat) : Nat :=
  ((s.grain g).record.filter (fun e => e.2.adopted)).foldl (fun c e => c &&& (if e.2.unknownFw then 0 else e.2.rep.caps)) (capMask (s.stringRate g))

/-- AIDs in use: of the group keys, and of every association while its keys exist (R210, R214). -/
def State.aids (s : State) : List Nat :=
  s.strs.grains.flatMap (fun g => g.2.gAid :: g.2.record.flatMap (fun e =>
    (e.2.assoc.map (fun k => [k.aidTx, k.aidRx])).getD [] ++ (e.2.init.map (fun i => [i.keys.aidTx, i.keys.aidRx])).getD []
      ++ (e.2.old.map (fun o => [o.1.aidTx, o.1.aidRx])).getD []))

/-- Assign an AID that no other association of the module uses (R210). -/
def takeAid (s : State) : Nat × State :=
  let used := s.aids
  let a := (((List.range (used.length + 2)).map (fun i => (s.strs.nextAid + i) % 2 ^ 32)).find? (fun a => a != 0 && !used.contains a)).getD s.strs.nextAid
  (a, { s with strs := { s.strs with nextAid := (a + 1) % 2 ^ 32 } })

/-- The start of an association is outstanding: it awaits its answer, which one that found none is given until its next try (R210; DEDUCED, log 85). -/
def PoleInit.outstanding (i : PoleInit) (now : Nat) : Bool := !i.gaveUp || now < i.wait

/-- Associations started and not yet open on a grain, at most 4 (R210). -/
def State.starting (s : State) (g : Nat) : Nat := ((s.grain g).record.filter (fun e => e.2.init.any (fun i => i.outstanding s.frm.now))).length

/-- The pairwise key of a pole node. -/
def State.pairwise (s : State) (g p : Nat) : Bytes := ((s.pole? g p).bind (fun q => tget s.strs.pairs q.rep.eui)).getD []

/-- The MSL major of a string (R188). -/
def State.stringMajor (s : State) (g : Nat) : Nat := if s.stringRate g = 2 then 3 else 4

/-- The keys of an association under a salt (R210). -/
def PoleKeys.derive (k : PoleKeys) (pairwise salt : Bytes) : PoleKeys :=
  { k with keyTx := directionKey pairwise salt k.aidTx, keyRx := directionKey pairwise salt k.aidRx }

/-- Send ASSOC_INIT with a fresh salt, and so with fresh keys (R210); with no association open it starts from full credits (R216, log 85). -/
def sendInit (g p : Nat) (i : PoleInit) (s : State) : State :=
  let (salt, s) := s.fresh
  let salt := beBytes 12 salt
  let k := i.keys.derive (s.pairwise g p) salt
  let s := s.modPole g p (fun q => { q with init := some { i with keys := k, wait := s.frm.now + 2 }, held := q.held.filter (fun h => h.kind != .mslAssocInit) })
  let s := if (s.pole? g p).any (fun q => q.assoc.isNone) then
      let s := fullCredits g p s
      releaseHeld g p 0 (s.heldTo g p) s
    else s
  sendItem g p .mslAssocInit [k.aidRx, s.stringMajor g, s.stringCaps g, p] (assocInitBody salt k.aidTx k.aidRx (s.stringMajor g) p (s.stringCaps g)) s

/-- Start an association: two new AIDs, ASSOC_INIT with CTR 1; at most 4 starts are outstanding on a grain (R210); without a random
value it waits (R502). -/
def startAssoc (g p : Nat) (s : State) : State :=
  if !s.flt.rngOk || s.starting g ≥ 4 || (s.pole? g p).any (fun q => q.init.isSome) then s
  else
    let (tx, s) := takeAid s
    let (rx, s) := takeAid s
    sendInit g p { keys := { aidTx := tx, aidRx := rx, ctrTx := 1 }, since := s.frm.now, tries := 1 } s

/-- Start associations for the served pole nodes of a grain that have none, as far as the limit of 4 admits. -/
def kickAssocs (g : Nat) (s : State) : State :=
  (s.grain g).record.foldl (fun s e =>
    if e.2.adopted && e.2.reached && e.2.pair == .paired && e.2.assoc.isNone then startAssoc g e.1 s else s) s

/-- Send PAIR_INIT: an ephemeral key and a nonce of Flint's generator, and the device certificate chain (R209 step 1); without a random value the
pairing waits (R502). It starts from full credits (log 85). -/
def sendPairInit (g p tries : Nat) (s : State) : State :=
  if !s.flt.rngOk then s.modPole g p (fun q => { q with pair := .none })
  else
    let (nonce, s) := s.fresh
    let (key, s) := s.fresh
    let s := s.modPole g p (fun q => { q with
      pair := .waiting s.frm.now tries, pairEph := some (key, beBytes 12 nonce), held := q.held.filter (fun h => h.kind != .mslPairInit) })
    sendItem g p .mslPairInit [] (p256Bytes (Config.p256Pub key) ++ beBytes 12 nonce ++ deviceChain s.flt.mA) (fullCredits g p s)

/-- An adopted pole node pairs first, unless a pairwise key of its EUI-64 is stored, and then starts an association (R209, R213). -/
def servePole (g p : Nat) (s : State) : State :=
  match s.pole? g p with
  | none => s
  | some q =>
    if (tget s.strs.pairs q.rep.eui).isSome then startAssoc g p (s.modPole g p (fun q => { q with pair := .paired }))
    else sendPairInit g p 1 s

/-- Pairings and associations that waited for a random value go on (R502). -/
def resumeStrings (s : State) : State :=
  (s.strs.grains.map (·.1)).foldl (fun s g =>
    let s := (s.grain g).record.foldl (fun s e => if e.2.adopted && e.2.reached && e.2.pair == .none then servePole g e.1 s else s) s
    kickAssocs g s) s

/-- POLE_AUTH_FAIL: the pole node is served nothing, and pairing is tried again after 6,000 frames (R209). -/
def pairFail (g p : Nat) (s : State) : State :=
  let eui := ((s.pole? g p).map (·.rep.eui)).getD 0
  ((s.modPole g p (fun q => { q with pair := .failed s.frm.now, pairEph := none })).setFlag (aGrnStat g) 3).owner 0x0324
    [tPort g, tCode p, tValue eui]

/-- Step 4 of R209: the pairwise key is derived and stored, PAIR_DONE goes out, and the association starts. -/
def finishPair (g p : Nat) (r : PairResp) (eui : Nat) (own : Nat × Bytes) (s : State) : State :=
  let s := { s with strs := { s.strs with pairs := tset s.strs.pairs eui (pairwiseKey own r) } }
  let s := s.modPole g p (fun q => { q with pair := .paired, pairEph := none })
  startAssoc g p (sendItem g p .mslPairDone [] (pairDoneBody own r eui) s)

/-- PAIR_RESP (R209 steps 2 to 4): the chain must end at a pole anchor, the certificate must name the reported EUI-64, the signature must verify. -/
def execPairResp (str pos : Nat) (resp : PairResp) (eui : Nat) (sigOk : Bool) (s : State) : Outcome :=
  done s (fun s => match s.pole? str pos with
    | some q => match q.pair with
      | .waiting _ _ =>
        if s.strs.anchors.contains resp.anchor && eui == q.rep.eui && sigOk then finishPair str pos resp eui (q.pairEph.getD (0, [])) s
        else pairFail str pos s
      | _ => s
    | none => s)

/-- PAIR_TIMEOUT (R209): two frames without PAIR_RESP; the third try fails. -/
def execPairTimeout (str pos : Nat) (s : State) : Outcome :=
  done s (fun s => match ((s.pole? str pos).map (fun q : Pole => q.pair) : Option PairSt) with
    | some (.waiting since tries) =>
      if s.frm.now < since + 2 then s else if tries < 3 then sendPairInit str pos (tries + 1) s else pairFail str pos s
    | _ => s)

/-- PAIR_RETRY (R209): every 6,000 frames. -/
def execPairRetry (str pos : Nat) (s : State) : Outcome :=
  done s (fun s => match ((s.pole? str pos).map (fun q : Pole => q.pair) : Option PairSt) with
    | some (.failed since) => if s.frm.now < since + 6000 then s else sendPairInit str pos 1 s
    | _ => s)

/-- A group key of Flint's generator under an AID of its own, its counter from the start (R214). -/
def newGroupKey (g : Nat) (s : State) : State :=
  let (aid, s) := takeAid s
  let (key, s) := s.fresh
  s.modGrain g (fun gr => { gr with
    gCtr := 0, gAid := aid, gKey := beBytes 32 key, record := tmap gr.record (fun _ q => { q with group := none }) })

/-- The string's group key goes to a pole node in GROUP_KEY under its own association; the first one of a string comes to be here (R214). -/
def sendGroupKey (g p : Nat) (s : State) : State :=
  let s := if (s.grain g).gKey.isEmpty then newGroupKey g s else s
  let gr := s.grain g
  sendPole g p .mslGroupKey [gr.gEpoch, gr.gAid] (groupKeyBody gr.gEpoch gr.gAid gr.gKey) (s.modPole g p (fun q => { q with group := some gr.gEpoch }))

/-- The association of a start opens: the old keys last 8 frames (R212), the next FRAME message is FULL (R223), and the tenants that were told that the
pole node is unreachable hear of it (R224, log 85). -/
def openPole (g p : Nat) (q : Pole) (i : PoleInit) (s : State) : State :=
  let fresh := q.assoc.isNone
  let s := s.modPole g p (fun q => { q with
    assoc := some { i.keys with high := 1 }, init := none, old := q.assoc.map (fun k => (k, s.frm.now + 8)), full := true,
    freed := [0, 0, 0, 0], held := if fresh then [] else q.held })
  let s := sendGroupKey g p s
  let s := if fresh && q.told != 0 then tellPole g p 0 s else s
  kickAssocs g s

/-- ASSOC_CONFIRM (R210): verified with CTR 1 under the new pole-to-module key, it opens the association. -/
def execAssocConfirm (str pos : Nat) (hdr : MslHdr) (s : State) : Outcome :=
  done s (fun s => match s.pole? str pos with
    | some q => match q.init with
      | some i =>
        if hdr.ok && hdr.flags % 4 = 1 && hdr.aid = i.keys.aidRx && hdr.ctr = 1 then openPole str pos q i s
        else s.count (aGrnDrop str) 0 8
      | none => s.count (aGrnDrop str) 0 8
    | none => s.count (aGrnDrop str) 0 8)

/-- ASSOC_INIT_TIMEOUT (R210): two frames without an answer; after three tries ASSOC_CLOSED with NO_ANSWER, and a try every 100 frames, as far as the
limit of 4 admits. -/
def execAssocInitTimeout (str pos : Nat) (s : State) : Outcome :=
  done s (fun s => match (s.pole? str pos).bind (·.init) with
    | none => s
    | some i =>
      let again (i : PoleInit) : State := guardS s.flt.rngOk (sendInit str pos { i with since := s.frm.now }) s
      if i.gaveUp then (if s.frm.now < i.since + 100 || s.starting str ≥ 4 then s else again i)
      else if s.frm.now < i.since + 2 then s
      else if i.tries < 3 then again { i with tries := i.tries + 1 }
      else kickAssocs str ((s.modPole str pos (fun q => { q with init := some { i with gaveUp := true, since := s.frm.now } })).owner 0x0325
        [tPort str, tCode pos, tCode 1]))

/-- The association of a pole node closes: reason in ASSOC_CLOSED, its bridge tags retire, its tenants hear of it, and a fresh start follows at once
(R210, R212, R224, R239). -/
def closeAssoc (g p reason : Nat) (s : State) : State :=
  let s := s.modPole g p (fun q => { q with assoc := none, init := none, held := [], stall := [], queried := [] })
  let s := s.owner 0x0325 [tPort g, tCode p, tCode reason]
  startAssoc g p (bridgeClose g p (tellPole g p 1 s))

/-- ASSOC_CLOSE (R210). -/
def execAssocClose (str pos : Nat) (hdr : MslHdr) (s : State) : Outcome := done s (onMsl str pos hdr (closeAssoc str pos 2))

/-- ASSOC_REKEY (R212): a counter has reached 2^62, and a new association starts while the old one continues. -/
def execAssocRekey (str pos : Nat) (s : State) : Outcome :=
  done s (fun s => guardS ((s.pole? str pos).any (fun q => q.assoc.any (fun k => k.ctrTx ≥ 2 ^ 62 || k.high ≥ 2 ^ 62))) (startAssoc str pos) s)

/-- ASSOC_OLD_KEY_ERASE (R212): eight frames after the switch. -/
def execAssocOldKeyErase (str pos : Nat) (s : State) : Outcome :=
  done s (fun s => guardS ((s.pole? str pos).any (fun q => q.old.any (fun o => o.2 ≤ s.frm.now)))
    (fun s => s.modPole str pos (fun q => { q with old := none })) s)

/-- ASSOC_EXHAUSTED (R212): a counter has reached 2^64 - 1 before the new association opened. -/
def execAssocExhausted (str pos : Nat) (s : State) : Outcome :=
  done s (fun s => guardS ((s.pole? str pos).any (fun q => q.assoc.any (fun k => k.ctrTx ≥ 2 ^ 64 - 1 || k.high ≥ 2 ^ 64 - 1)))
    (fun s => closeAssoc str pos 0 (s.setFlag (aGrnStat str) 4)) s)

/-! ### The group key and time (R214, R221) -/

/-- Replace the group key: the epoch flips, the counter restarts under a new AID, and every associated pole node receives the key (R214). -/
def replaceGroupKey (g : Nat) (s : State) : State :=
  let s := newGroupKey g (s.modGrain g (fun gr => { gr with gEpoch := 1 - gr.gEpoch }))
  (s.grain g).record.foldl (fun s e => if e.2.assoc.isSome then sendGroupKey g e.1 s else s) s

/-- GROUP_KEY_REPLACE (R214). -/
def execGroupKeyReplace (str : Nat) (s : State) : Outcome := done s (fun s => guardS (s.pw.main && s.flt.rngOk) (replaceGroupKey str) s)

/-- Ports of a string in use: those that its routes take (R205, R221). -/
def State.portsOf (s : State) (g : Nat) : List Nat :=
  (match (s.grain g).role with
    | .lower h => if (s.grain g).folded then [g, h] else [g]
    | _ => [g]).filter (fun p => (s.grain p).rate != 0)

/-- Pole nodes with an association that a port serves. -/
def State.polesAt (s : State) (g port : Nat) : List Nat :=
  ((s.grain g).record.filter (fun e => e.2.assoc.isSome && (s.route g e.1).1 == port)).map (·.1)

/-- TIME_SYNC costs one credit of class 1 toward each pole node that it reaches (R215). -/
def State.maySync (s : State) (g port : Nat) : Bool :=
  (s.polesAt g port).all (fun p => (s.pole? g p).any (fun q => q.credits.getD 1 0 ≥ 1 && !q.held.any (fun h => h.cls == 1)))

/-- TIME_SYNC on one port: the network time of its egress at the reference plane, under the group key, followed by an empty trailer; the MAC stamps it
(R88, R89, R221). It waits while a pole node that it reaches lacks the credit; later messages do not wait behind it (log 85). -/
def syncPort (g : Nat) (s : State) (port : Nat) : State :=
  if s.maySync g port then
    let s := (s.polesAt g port).foldl (fun s p => s.modPole g p (fun q => q.take 1 1)) s
    let s := s.modGrain g (fun gr => { gr with gCtr := gr.gCtr + 1, syncHeld := gr.syncHeld.filter (· != port) })
    let gr := s.grain g
    let t := s.egressNs port
    sendMsl g port 0xFF port .mslTimeSync [0xFF, gr.gAid, gr.gCtr] [gr.gEpoch, t / 10 ^ 9, t % 10 ^ 9, s.frm.now] (.group gr.gAid gr.gCtr gr.gKey)
      (timeSyncBody t s.frm.now gr.gEpoch) (beBytes 8 0) (noteEg port s)
  else
    (s.polesAt g port).foldl (fun s p => noteStall g p 1 s) (s.modGrain g (fun gr => { gr with syncHeld := insNat port gr.syncHeld }))

/-- TIME_SYNC_SEND (R221): in every frame at beat 32, on each port in use, under the group key; at 2^62 the key is replaced (R214). -/
def execTimeSyncSend (str : Nat) (s : State) : Outcome :=
  done s (fun s => guardS (s.inLight && s.stringLink str && s.frm.beat == 32 && (s.grain str).syncAt != some s.frm.now) (fun s =>
    let s := if (s.grain str).gCtr ≥ 2 ^ 62 then replaceGroupKey str s else s
    let s := s.modGrain str (fun gr => { gr with syncAt := some s.frm.now, syncHeld := [] })
    (s.portsOf str).foldl (syncPort str) s) s)

/-- DELAY_REQ (R221): the MAC stamps its ingress, and DELAY_RESP carries the time of it at the reference plane, and the request's trailer. -/
def execDelayReq (str pos : Nat) (hdr : MslHdr) (s : State) : Outcome :=
  done s (onMsl str pos hdr (fun s =>
    let port := (s.route str pos).1
    let t := s.ingressNs port
    sendPole str pos .mslDelayResp [t / 10 ^ 9, t % 10 ^ 9] (delayRespBody t ++ beIntBytes 8 hdr.trailer) (noteIn port s)))

/-- RESYNC_REQ (R223): the next FRAME message is a full refresh. -/
def execResyncReq (str pos : Nat) (hdr : MslHdr) (s : State) : Outcome :=
  done s (onMsl str pos hdr (fun s => s.modPole str pos (fun q => { q with full := true })))

/-! ### Credits (R215 to R217) -/

/-- The counts of a CREDIT: the grain takes the difference from the last ones, modulo 2^16 (R216). A class that a CREDIT_QUERY asked for and that has
still no freed credit is held as stalled (R217). -/
def takeCounts (g p : Nat) (counts : List Nat) (s : State) : State :=
  match s.pole? g p with
  | none => s
  | some q =>
    let new (i : Nat) : Nat := counts.getD i 0 % 2 ^ 16
    let freed (i : Nat) : Bool := new i != q.freed.getD i 0
    let stalled := q.queried.any (fun e => !freed e.1)
    let s := s.modPole g p (fun q => { q with
      credits := (List.range 4).map (fun i => min 32 (q.credits.getD i 0 + (counts.getD i 0 + 2 ^ 16 - q.freed.getD i 0) % 2 ^ 16)),
      freed := (List.range 4).map new, stall := tkeep q.stall (fun i _ => !freed i), queried := tkeep q.queried (fun i _ => !freed i) })
    if stalled then s.setFlag (aGrnStat g) 5 else s

/-- What waits for credits toward a pole node goes out as far as they reach: held messages, and TIME_SYNC on its port. -/
def useCredits (g p : Nat) (s : State) : State :=
  let s := (List.range 4).foldl (fun s i => releaseHeld g p i (s.heldTo g p) s) s
  (s.grain g).syncHeld.foldl (syncPort g) s

/-- CREDIT_QUERY (R217): a class has had traffic waiting and no available credit for 10 frames, and has not been asked for within 10 frames. -/
def execCreditQuery (str pos cls : Nat) (s : State) : Outcome :=
  done s (fun s =>
    let old (f : Nat) : Bool := f + 10 ≤ s.frm.now
    guardS ((s.pole? str pos).any (fun q => q.assoc.isSome && (tget q.stall cls).any old && (tget q.queried cls).all old))
      (fun s => sendPole str pos .mslCreditQuery [cls] [] (s.modPole str pos (fun q => { q with queried := tset q.queried cls s.frm.now }))) s)

/-- The message types of R197. -/
def mslTypes : List Nat :=
  [0x01, 0x02, 0x03, 0x10, 0x11, 0x12, 0x14, 0x15, 0x16, 0x18, 0x20, 0x21, 0x22, 0x28, 0x29, 0x2A, 0x30, 0x31, 0x40, 0x41, 0x42, 0x43, 0x44,
   0x50, 0x51]

/-- MSL_RESERVED_TYPE (R197, R232): discarded and counted in GRN_DROP.TYPE. -/
def execMslReservedType (port type : Nat) (s : State) : Outcome :=
  done s (fun s => guardS (!mslTypes.contains type) (fun s => s.count (aGrnDrop port) 16 4) s)

/-! ### The census (R200 to R207) -/

/-- ENUMERATE with HOP 0 and the census number (R201). -/
def sendEnumerate (g port n : Nat) (s : State) : State := sendMsl g port 0 port .mslEnumerate [] [0, n] .clear (beBytes 2 n) [] s

/-- Start a census: ENUMERATE with HOP 0 from the lower port, or from the higher one when the lower has no link (R201, R203). -/
def startCensus (g : Nat) (s : State) : State :=
  let gr := s.grain g
  let n := (gr.number + 1) % 2 ^ 16
  let port := s.leadPort g
  let s := s.modGrain g (fun gr => { gr with
    number := n, trigger := none, waitUntil := none,
    census := some { number := n, higherPass := port != g, last := s.frm.now, lower := [], higher := [], closed := false, far := false } })
  sendEnumerate g port n s

/-- A trigger of R200: it is absorbed by a running census. -/
def triggerCensus (g : Nat) (s : State) : State :=
  if (s.grain g).census.isSome then s else s.modGrain g (fun gr => { gr with trigger := some (gr.trigger.getD s.frm.now) })

/-- Positions reached by the reports of a census (R203). -/
def censusFound (n : Nat) (c : Census) : Tbl PoleReport :=
  let a := c.lower.length
  let b := c.higher.length
  let top := if n > 0 then n else if c.closed then a else a + b
  let low : Tbl PoleReport := c.lower.filter (fun e => e.1 ≤ 64)
  if c.closed then low
  else c.higher.foldl (fun t e => if e.1 ≤ top && top + 1 - e.1 ≤ 64 then tset t (top + 1 - e.1) e.2 else t) low

/-- Both passes of a closed loop agree. -/
def passesAgree (c : Census) : Bool :=
  c.lower.length == c.higher.length &&
  c.lower.all (fun e => match tget c.higher (c.lower.length + 1 - e.1) with | some r => r.eui == e.2.eui | none => false)

/-- Abort a running census (R206). -/
def abortCensus (g : Nat) (s : State) : State :=
  let gr := s.grain g
  match gr.census with
  | none => s
  | some c =>
    let ab := min 8 (gr.aborts + 1)
    let s := s.setFlag (aGrnStat g) 2
    let s := s.owner 0x0321 [tPort g, tCode 6, tBitmap (bitmapBytes 8 ((censusFound gr.record.length c).map (fun e => e.1 - 1))), tCount c.number]
    let s := if ab = 8 && !gr.unstable then s.owner 0x0326 [tPort g] else s
    s.modGrain g (fun gr => { gr with
      census := none, trigger := some s.frm.now, aborts := ab, result := 6, unstable := gr.unstable || ab = 8,
      waitUntil := some (s.frm.now + if ab = 8 then 100 else 2) })

/-- Result of a census by the first row of R204 that matches, OVER apart: 0 COMPLETE, 1 FOLDED, 2 GROWN, 3 SHORT, 4 REPLACED, 5 CHANGED. -/
def censusResult (looped : Bool) (record : Tbl Pole) (c : Census) : Nat :=
  let n := record.length
  let found := censusFound n c
  let a := c.lower.length
  let b := c.higher.length
  let wrong := (found.filter (fun e => match tget record e.1 with | some q => q.rep.eui != e.2.eui | none => false)).length
  let within := found.all (fun e => e.1 ≤ n)
  let count := if !looped then a == n else if c.closed then a == n && passesAgree c else a + b == n
  if n = 0 then 0
  else if wrong = 0 && count && (!looped || c.closed) then 0
  else if looped && !c.closed && count && wrong = 0 then 1
  else if !looped && a > n && wrong = 0 then 2
  else if wrong = 0 && within && found.length < n then 3
  else if count && 1 ≤ wrong && wrong ≤ 4 then 4
  else 5

/-- A pole node adopted anew at a position (R192, R204, R213). -/
def newPole (ok : Bool) (r : PoleReport) : Pole := { rep := r, unknownFw := !ok }

/-- POLE_FW_UNKNOWN for a pole node that the main image does not approve (R192); a node that stays on the same unapproved firmware does not raise it again
(DEDUCED, log 86). -/
def fwCheck (g p : Nat) (s : State) : State :=
  match s.pole? g p with
  | some q => if q.unknownFw then s.owner 0x0327 [tPort g, tCode p, tValue q.rep.eui] else s
  | none => s

/-- The slate entries of a pole node's slots that are no lighting channels read 0xFFFF (R253). -/
def clearEntries (g p : Nat) (s : State) : State := keepEntries (fun h => !onNode g p h || s.isLamp h) s

/-- The lamp checks of a position start anew (R320). -/
def freshChecks (g p : Nat) (s : State) : State :=
  { s with lmp := { s.lmp with chans := tkeep s.lmp.chans (fun h _ => !onNode g p h) } }

/-- Adopt a pole node at a position: its lighting channels take the default preset, its tenants hear of it, and it pairs or starts its association
(R204, R209, R213, R224, R283). -/
def adopt (g p : Nat) (r : PoleReport) (s : State) : State :=
  let s := s.modGrain g (fun gr => { gr with
    record := tset gr.record p (newPole (s.fwApproved r.maker r.model r.fw) r), beyond := terase gr.beyond p })
  servePole g p (tellPole g p 0 (presetPole g p (fwCheck g p (freshChecks g p (clearEntries g p s)))))

/-- A recorded pole node is reached again: it keeps its association if it has one, and starts one otherwise (R213). It is adopted again where it was
not served: its tenants hear of it, and its lamp checks start anew (R224, R320). POLE_FW_UNKNOWN is raised where its firmware was not known to be
unapproved (R192). -/
def rejoin (g p : Nat) (r : PoleReport) (s : State) : State :=
  let was := s.pole? g p
  let had := was.any (fun q => q.assoc.isSome)
  let served := was.any (fun q => q.adopted && q.reached)
  let s := clearEntries g p (s.modPole g p (fun q => { q with
    rep := r, reached := true, adopted := true, found := none,
    unknownFw := !s.fwApproved r.maker r.model r.fw }))
  let s := if was.any (fun q => q.unknownFw && q.rep.fw == r.fw) then s else fwCheck g p s
  let s := if served then s else tellPole g p 0 (freshChecks g p s)
  if had then s else servePole g p s

/-- A pole node is no longer served: its association ends with its tags, and its tenants hear of it (R204, R224, R237, R239). -/
def unserve (g p : Nat) (f : Pole → Pole) (s : State) : State :=
  match s.pole? g p with
  | none => s
  | some q =>
    let was := q.adopted && q.reached
    let s := s.modPole g p (fun q => f { q with assoc := none, init := none, old := none, held := [], stall := [], queried := [] })
    bridgeClose g p (if was then tellPole g p 1 s else s)

/-- A position becomes PENDING (R204): POLE_CHANGED names the EUI-64 found, and has VALUE 0 where no pole node was found there (DESIGN CHOICE, log 78:
R224 gives VALUE as the EUI-64 found and does not say what it holds where none was). -/
def pend (g p : Nat) (r : Option PoleReport) (s : State) : State :=
  let s := unserve g p (fun q => { q with adopted := false, found := r.orElse (fun _ => some q.rep), reached := r.isSome }) s
  s.owner 0x0323 [tPort g, tCode p, tCode 1, tValue ((r.map (·.eui)).getD 0)]

/-- A pole node found beyond the record: its position is PENDING until CENSUS_ACCEPT (R204). -/
def pendBeyond (g p : Nat) (r : PoleReport) (s : State) : State :=
  (s.modGrain g (fun gr => { gr with beyond := tset gr.beyond p r })).owner 0x0323 [tPort g, tCode p, tCode 1, tValue r.eui]

/-- One recorded or reached position under a result of R204. -/
def reconcilePos (g res : Nat) (found : Tbl PoleReport) (s : State) (p : Nat) : State :=
  let auto := (s.grain g).autoReplace
  match s.pole? g p, tget found p with
  | none, none => s
  | none, some r => if res = 0 || res = 2 then adopt g p r s else if res = 5 then pendBeyond g p r s else s
  | some _, none => if res = 5 then pend g p none s else unserve g p (fun q => { q with reached := false }) s
  | some q, some r =>
    if q.rep.eui = r.eui then rejoin g p r s
    else if res = 4 && auto then
      (adopt g p r (unserve g p (fun q => q) s)).owner 0x0323 [tPort g, tCode p, tCode 0, tValue r.eui]
    else pend g p (some r) s

/-- The group key is replaced where a pole node that held it is no adopted one of the string now (R214). -/
def dropKeyHolders (g : Nat) (held : List Nat) (s : State) : State :=
  if held.all (fun eui => (s.grain g).record.any (fun e => e.2.adopted && e.2.rep.eui == eui)) then s else replaceGroupKey g s

/-- EUI-64s of the pole nodes that hold the string's group key. -/
def Grain.keyHolders (gr : Grain) : List Nat := (gr.record.filter (fun e => e.2.group == some gr.gEpoch)).map (fun e => e.2.rep.eui)

/-- a and b of a census that has ended, as its result's registers show them (R225). -/
def Grain.showReach (gr : Grain) (res : Nat) (c : Census) : Grain :=
  { gr with census := none, result := res, reachA := if c.closed then c.lower.length else min c.lower.length 64, reachB := min c.higher.length 64 }

/-- CENSUS_RESULT (R224). -/
def censusEvent (g res : Nat) (c : Census) (n : Nat) (s : State) : State :=
  s.owner 0x0321 [tPort g, tCode res, tBitmap (bitmapBytes 8 ((censusFound n c).map (fun e => e.1 - 1))), tCount c.number]

/-- End of a census: the passes are reconciled with the record (R203, R204), the routes follow (R205), and CENSUS_RESULT is raised. -/
def finishCensus (g : Nat) (c : Census) (s : State) : State :=
  let gr := s.grain g
  let looped := match gr.role with | .lower _ => true | _ => false
  let n := gr.record.length
  let found := censusFound n c
  let res := censusResult looped gr.record c
  let a := c.lower.length
  let b := c.higher.length
  let far := c.far || (looped && !c.closed && a + b > 64)
  let held := gr.keyHolders
  let route := fun (s : State) => (List.range 64).map (fun i => s.route g (i + 1))
  let before := route s
  let s := s.modGrain g (fun gr => { gr.showReach res c with
    folded := looped && !c.closed, foldA := a, aborts := 0, unstable := false, beyond := [],
    candidate := if res = 5 || (res = 4 && !gr.autoReplace) then some found else none })
  let s := (List.range 64).foldl (fun s i => reconcilePos g res found s (i + 1)) s
  let after := route s
  let s := (List.range 64).foldl (fun s i => if before.getD i (0, 0) = after.getD i (0, 0) then s else s.modPole g (i + 1) (fun q => { q with full := true })) s
  let s := if far then (s.setFlag (aGrnStat g) 1).owner 0x0322 [tPort g] else s
  dropKeyHolders g held (censusEvent g res c n s)

/-- End of a further census whose rate is not kept: the record stays as the first census left it, and CENSUS_RESULT is raised for this one too (R189,
R204; DEDUCED, log 78). -/
def loseCensus (g : Nat) (c : Census) (s : State) : State :=
  let gr := s.grain g
  let looped := match gr.role with | .lower _ => true | _ => false
  let res := censusResult looped gr.record c
  censusEvent g res c gr.record.length (s.modGrain g (fun gr => gr.showReach res c))

/-- The ports of a string that have link run at a rate (R188). -/
def setStringRate (g r : Nat) (s : State) : State :=
  let f (gr : Grain) : Grain := if gr.rate = 0 then gr else { gr with rate := r, fecOn := r = 1 && gr.fec }
  let s := s.modGrain g f
  match (s.grain g).role with
  | .lower h => s.modGrain h f
  | _ => s

/-- Pole nodes a census reached. -/
def censusReach (c : Census) : Nat := if c.closed then c.lower.length else c.lower.length + c.higher.length

/-- End of the last pass; under AUTO a LAST report that names a downstream port with a signal but no lock calls for one further census at the other
rate, and the rate that reached more pole nodes is kept, 25.78125 GBd at equal reach (R189). -/
def endCensus (g : Nat) (c : Census) (s : State) : State :=
  let p := s.leadPort g
  let gr := s.grain p
  let down2 := [c.lower, c.higher].any (fun l => (l.getLast?).any (fun e => e.2.down == 2))
  match gr.try_ with
  | .locked =>
    let s := finishCensus g c s
    if gr.rateCfg = 0 && down2 then
      triggerCensus g (setStringRate g (3 - gr.rate) (s.modGrain p (fun x => { x with try_ := .second (censusReach c) gr.rate })))
    else s.modGrain p (fun x => { x with try_ := .settled })
  | .second n r =>
    let m := censusReach c
    let s := s.modGrain p (fun x => { x with try_ := .settled })
    if m > n || (m = n && gr.rate = 1) then finishCensus g c s else loseCensus g c (setStringRate g r s)
  | _ => finishCensus g c s

/-- End of a pass: on a loop the higher pass follows the lower one (R201, R203). -/
def endPass (g : Nat) (s : State) : State :=
  let gr := s.grain g
  match gr.census with
  | none => s
  | some c => match gr.role with
    | .lower h =>
      if !c.higherPass && (s.grain h).rate != 0 then
        sendEnumerate g h c.number (s.modGrain g (fun gr => { gr with census := some { c with higherPass := true, last := s.frm.now } }))
      else endCensus g c s
    | _ => endCensus g c s

/-- CENSUS_START (R200): at the first beat 0 after a trigger. -/
def execCensusStart (port : Nat) (s : State) : Outcome :=
  done s (fun s =>
    let g := s.stringOf port
    let gr := s.grain g
    guardS (s.frm.beat == 0 && gr.trigger.any (fun f => f < s.frm.now) && gr.census.isNone && gr.waitUntil.isNone && s.stringLink g)
      (startCensus g) s)

/-- ENUM_REPORT (R201, R202): recorded by hop in the running pass; HOP 65 marks OVER; LAST ends the pass. -/
def execEnumReport (port number hop : Nat) (rep : PoleReport) (last : Bool) (s : State) : Outcome :=
  done s (fun s =>
    let g := s.stringOf port
    match (s.grain g).census with
    | none => s
    | some c =>
      if c.number != number || c.higherPass != (port != g) then s
      else
        let c := { c with last := s.frm.now, far := c.far || hop > 64 }
        let c := if hop > 64 then c else if c.higherPass then { c with higher := tset c.higher hop rep } else { c with lower := tset c.lower hop rep }
        let s := s.modGrain g (fun gr => { gr with census := some c })
        if last || hop > 64 then endPass g s else s)

/-- ENUMERATE_LOOP_RETURN (R201): the grain's own ENUMERATE reaches the loop partner port, which marks the loop closed and ends the pass. -/
def execEnumerateLoopReturn (port number : Nat) (s : State) : Outcome :=
  done s (fun s =>
    let g := s.stringOf port
    match (s.grain g).census, (s.grain g).role with
    | some c, .lower _ =>
      if c.number != number || c.higherPass != (port == g) then s
      else endPass g (s.modGrain g (fun gr => { gr with census := some { c with closed := true } }))
    | _, _ => s)

/-- CENSUS_PASS_TIMEOUT (R201): one frame after the latest report. -/
def execCensusPassTimeout (port : Nat) (s : State) : Outcome :=
  done s (fun s =>
    let g := s.stringOf port
    guardS ((s.grain g).census.any (fun c => c.last + 1 ≤ s.frm.now)) (endPass g) s)

/-- LINK_CHANGE (R200, R206): it ends a running census, or triggers one. -/
def execLinkChange (port : Nat) (s : State) : Outcome :=
  done s (fun s =>
    let g := s.stringOf port
    if (s.grain g).census.isSome then abortCensus g s else triggerCensus g s)

/-- CENSUS_RETRY (R206): 2 frames after an abort, or 100 after the eighth. -/
def execCensusRetry (port : Nat) (s : State) : Outcome :=
  done s (fun s =>
    let g := s.stringOf port
    guardS (s.frm.beat == 0 && (s.grain g).waitUntil.any (fun f => f ≤ s.frm.now) && s.stringLink g) (startCensus g) s)

/-- The rate a port tries first: MSL 4, or MSL 3 where RATE_CFG admits no other (R189). -/
def Grain.firstTry (g : Grain) : RateTry := .trying (if g.rateCfg = 2 then 2 else 1)

/-- The rate that a port without link tries (R189). -/
def Grain.tried (g : Grain) : Nat :=
  match g.try_ with
  | .trying r => r
  | _ => if g.rateCfg = 2 then 2 else 1

/-- The other port of a loop. -/
def Grain.partner (g : Grain) : Option Nat :=
  match g.role with
  | .single => none
  | .lower h => some h
  | .higher l => some l

/-- A port may lock at a rate: RATE_CFG admits it, under AUTO it is the rate being tried (R189), and the partner of a loop runs no other (R188). -/
def State.mayLock (s : State) (port rate : Nat) : Bool :=
  let gr := s.grain port
  (rate == 1 || rate == 2) && (if gr.rateCfg = 0 then rate == gr.tried else rate == gr.rateCfg)
    && gr.partner.all (fun p => (s.grain p).rate == 0 || (s.grain p).rate == rate)

/-- One port of a loop has link and the other has not: the string is served wholly through the one that has (R26, R203, R206). -/
def foldOver (g : Nat) (s : State) : State :=
  match (s.grain g).role with
  | .lower h =>
    let low := (s.grain g).rate != 0
    if low == ((s.grain h).rate != 0) then s
    else s.modGrain g (fun gr => { gr with
      folded := true, foldA := if low then gr.record.length else 0, record := tmap gr.record (fun _ q => { q with full := true }) })
  | _ => s

/-- A string without link serves nothing: what its bridge has not issued is dropped, and its tenants hear of its pole nodes (R224, R237). -/
def loseString (g : Nat) (s : State) : State :=
  (s.grain g).record.foldl (fun s e =>
    bridgeUnreach g e.1 (if e.2.adopted && e.2.reached && e.2.told == 0 then tellPole g e.1 1 s else s)) s

/-- A string has link again: the tenants of the pole nodes whose associations are still open hear of them (R224). -/
def regainString (g : Nat) (s : State) : State :=
  (s.grain g).record.foldl (fun s e => if e.2.adopted && e.2.reached && e.2.assoc.isSome && e.2.told != 0 then tellPole g e.1 0 s else s) s

/-- A port gains link at a rate, or loses it (R26, R189, R200, R203, R206). -/
def linkEvent (port : Nat) (up : Bool) (rate : Nat) (s : State) : State :=
  let g := s.stringOf port
  let s := s.modGrain port (fun gr => { gr with
    rate := if up then rate else 0, fecOn := up && rate = 1 && gr.fec, trySince := s.absBeat,
    try_ := if up then (if gr.rateCfg = 0 then .locked else .settled) else gr.firstTry })
  let s := if (s.grain g).census.isSome then abortCensus g s else s
  let s := if up then triggerCensus g s else s.setFlag (aGrnStat g) 0
  let s := foldOver g s
  let s := if up then regainString g s else if s.stringLink g then s else loseString g s
  s.owner 0x0320 [tPort port, tCode (b2n up), tCode (s.grain port).rate]

/-- STRING_LINK (R26, R189, R200, R203, R206): a port gains or loses link. -/
def execStringLink (port : Nat) (up : Bool) (rate : Nat) (s : State) : Outcome :=
  done s (fun s =>
    guardS (s.pw.main && s.portFitted port && ((s.grain port).rate != 0) != up
        && (!up || !(s.thm.idled.contains port || s.stratumOut (stratumOf port)) && s.mayLock port rate))
      (linkEvent port up rate) s)

/-- RATE_CFG changes: a rate in use that it no longer admits is given up, and the search starts anew (R189). -/
def setRateCfg (g y : Nat) (s : State) : State :=
  let s := s.modGrain g (fun x => { x with rateCfg := y })
  let gr := s.grain g
  if gr.rate = 0 then s.modGrain g (fun x => { x with try_ := x.firstTry, trySince := s.absBeat })
  else if y != 0 && y != gr.rate then linkEvent g false 0 s
  else s

/-- RATE_TRY_TIMEOUT (R189, R560): under AUTO, 50 ms without block lock; the other rate is tried. -/
def execRateTryTimeout (port : Nat) (s : State) : Outcome :=
  done s (fun s =>
    let gr := s.grain port
    guardS (s.pw.main && gr.rate == 0 && gr.rateCfg == 0 && !s.thm.idled.contains port && s.portFitted port
        && decide (max gr.trySince s.strs.since + 400 ≤ s.absBeat))
      (fun s => s.modGrain port (fun gr => { gr with trySince := s.absBeat, try_ := .trying (3 - gr.tried) })) s)

/-! ### String TLVs of SEGMENT_CONFIG (R208) -/

/-- LOOP (R22, R55, R208). -/
def cfgLoop (lo hi : Nat) (s : State) : Except Err State := do
  need (lo < hi) (eRange 0x0140)
  need (stratumOf lo == stratumOf hi) (eConfig 0x0140)
  need (bit s.pw.carrier.strings lo && bit s.pw.carrier.strings hi) (eConfig 0x0140)
  need (s.grain hi).record.isEmpty (eConfig 0x0140)
  need ((s.grain lo).role == .single && (s.grain hi).role == .single) (eConfig 0x0140)
  return triggerCensus lo (((keepEntries (fun h => !onString hi h) s).modGrain lo (fun g => { g with role := .lower hi })).modGrain hi (fun g => { g with role := .higher lo, census := none, trigger := none }))

/-- UNLOOP (R208). -/
def cfgUnloop (lo : Nat) (s : State) : Except Err State :=
  match (s.grain lo).role with
  | .lower hi =>
    if (s.grain hi).rate ≠ 0 then .error (eConfig 0x0141)
    else .ok ((s.modGrain lo (fun g => { g with role := .single, folded := false })).modGrain hi (fun g => { g with role := .single }))
  | _ => .error (eConfig 0x0141)

/-- Adopt the order of a census that CENSUS_ACCEPT makes the record (R204, R208). -/
def acceptCensus (g : Nat) (cand : Tbl PoleReport) (s : State) : State :=
  let old := (s.grain g).record
  let held := (s.grain g).keyHolders
  let gone := old.filter (fun e => !(tget cand e.1).any (fun r => r.eui == e.2.rep.eui))
  let s := keepEntries (fun h => !(gone.any (fun e => onNode g e.1 h))) (gone.foldl (fun s e => unserve g e.1 id s) s)
  let s := s.modGrain g (fun gr => { gr with candidate := none, beyond := [], record := gr.record.filter (fun e => cand.any (fun c => c.1 == e.1)) })
  let s := cand.foldl (fun s e =>
    match tget (s.grain g).record e.1 with
    | some q => if q.rep.eui = e.2.eui then rejoin g e.1 e.2 s else adopt g e.1 e.2 s
    | none => adopt g e.1 e.2 s) s
  dropKeyHolders g held s

/-- A string TLV of SEGMENT_CONFIG other than FORGET. -/
def segStrings (id : Nat) (b : Bytes) (s : State) : Except Err State :=
  let x := beNat (b.take 1)
  let y := beNat (b.drop 1)
  match id with
  | 0x0140 => cfgLoop x y s
  | 0x0141 => cfgUnloop x s
  | 0x0142 => do
    need (y ≤ 2) (eRange id)
    need (bit s.pw.carrier.strings x) (eConfig id)
    return setRateCfg x y (s.modGrain x (fun g => { g with cfg := (y, g.cfg.2) }))
  | 0x0143 => do
    need (y ≤ 1) (eRange id)
    need (bit s.pw.carrier.strings x) (eConfig id)
    return s.modGrain x (fun g => { g with fec := y == 1, cfg := (g.cfg.1, y == 1) })
  | 0x0144 => do
    need (bit s.pw.carrier.strings x) (eConfig id)
    return triggerCensus (s.stringOf x) s
  | 0x0145 => match (s.grain x).candidate with
    | some c => .ok (acceptCensus x c s)
    | none => .error (eConfig id)
  | 0x0146 => do
    need (y ≤ 1) (eRange id)
    return s.modGrain x (fun g => { g with autoReplace := y == 1 })
  | 0x0147 => do
    if s.strs.anchors.contains b then return s
    need (s.strs.anchors.length < 16) ⟨stQuotaExceeded, [tDetail id 0]⟩
    return { s with strs := { s.strs with anchors := s.strs.anchors ++ [b] } }
  | _ => .error (eRange id)

end Sys2Proof.Machine
end

