-- ==== Sys2Proof/Machine/Bridge.lean ====
section
/-!
DEFINITION. Machine/Bridge.lean: attribute and bridge commands, the issue of bridge operations, their answers and timeouts, and the semaphores
(R226 to R250).
-/
namespace Sys2Proof.Machine

/-! ### Profiles (R227, R230) -/

/-- The attributes of the profile of a slot; a slot served under R192, or whose profile is not in the table, has none (R227). -/
def State.slotProfile (s : State) (h : Nat) : List Config.ProfAttr :=
  match s.pole? (hString h) (hPos h) with
  | none => []
  | some q => if q.unknownFw then [] else (Config.profileTable (q.rep.profiles.getD (hSlot h) 0)).getD []

/-- A register range touches a MODULE_HELD register (R227). -/
def touchesHeld (as : List Config.ProfAttr) (reg count : Nat) : Bool :=
  as.any (fun a => a.held && a.addr < reg + 4 * count && reg < a.addr + 4 * a.count)

/-- The attribute of a name number in the profile of a slot. -/
def State.attr? (s : State) (h name : Nat) : Option Config.ProfAttr := (s.slotProfile h).find? (fun a => a.name == name)

/-- The value of a common attribute, from the directory entry of the endpoint (R166, R230). -/
def State.commonAttr (s : State) (v h name : Nat) : Bytes :=
  let q := s.pole? (hString h) (hPos h)
  let f (g : PoleReport → Nat) : Nat := (q.map (fun p => g p.rep)).getD 0
  match name with
  | 0 => beBytes 8 (((s.vctl? v).map (fun c => tgetD c.labels h 0)).getD 0)
  | 1 => beBytes 2 (if q.any (·.unknownFw) then Config.basicProfile else f (fun r => r.profiles.getD (hSlot h) 0))
  | 2 => beBytes 2 (f (·.maker))
  | 3 => beBytes 2 (f (·.model))
  | 4 => beBytes 4 (f (·.fw))
  | _ => [byte (f (fun r => r.supply.getD (hSlot h) 0))]

/-- The string has NONPOSTED in its capability intersection (R191). -/
def State.nonPosted (s : State) (g : Nat) : Bool := bit (s.stringCaps g) 1

/-- REG_ADDR. -/
def Cmd.regAddr (c : Cmd) : Nat := c.nat 0x0160

/-- The endpoint of a bridge command. -/
def Cmd.ep (c : Cmd) : Nat := c.eps.headD 0

/-- Tags that a command takes at its commit (R229, R230). -/
def tagsTaken (c : Cmd) : Nat :=
  if c.op = 0x1301 then 1
  else if c.op = 0x1302 then (if c.nat 0x0161 = 1 then 1 else 0)
  else if c.op = 0x0301 then (if c.has 0x0165 then 0 else ((c.list 0x0164 2).filter (· ≥ 0x100)).length)
  else if c.op = 0x0302 then 1
  else 0

/-- Tags charged to a vCtl on a string, with those that its commands accepted in the frame will take (R229). -/
def State.tagsDue (s : State) (g v : Nat) : Nat :=
  s.charged g v + ((s.frm.accepted.filter (fun c => c.vctl == v && hString c.ep == g)).map tagsTaken).foldl (· + ·) 0

/-- The tag quota of a vCtl (R171). -/
def State.tagQuota (s : State) (v : Nat) : Nat := ((s.vctl? v).map (·.q.tags)).getD 0

/-- TAGS_EXHAUSTED at acceptance (R229). -/
def needTags (c : Cmd) (s : State) : Except Err Unit :=
  let g := hString c.ep
  need (tagsTaken c = 0 || s.tagsDue g c.vctl + tagsTaken c ≤ s.tagQuota c.vctl) (eStat stTagsExhausted)

/-- The endpoint of a bridge command lies in the string realm (R229). -/
def needString (c : Cmd) : Except Err Unit := need (hRealm c.ep == 0) (eRange 0x0001)

/-- EP_LIST of a bridge opcode: exactly one entry (R228). -/
def brEp : TSpec := (tLst 0x0001 4 1 1).must

/-- The endpoint is refused under R199 (R229, third row). -/
def needReach (c : Cmd) (s : State) : Except Err Unit := checkReach s c.eps

/-! ### Semaphores at commit (R245, R246) -/

/-- A range of registers touches a block. -/
def touches (block reg count : Nat) : Bool := block < reg + 4 * count && reg < block + 256

/-- An access of the former holder of a broken semaphore is refused with SEM_BROKEN, and the record is erased (R246). -/
def brokenCheck (v h reg count : Nat) (s : State) : Option State :=
  let g := hString h
  let hit (b : Broken) : Bool := b.vctl == v && b.handle == h && touches b.block reg count
  if (s.gbr g).broken.any hit then some (s.modGbr g (fun b => { b with broken := b.broken.filter (fun x => !hit x) })) else none

/-- Another vCtl holds a block that the range touches (R245). -/
def State.heldByOther (s : State) (v h reg count : Nat) : Bool :=
  (s.gbr (hString h)).sems.any (fun x => x.handle == h && x.holder != v && touches x.block reg count)

/-! ### Operations enter the queue (R234, R237 to R239) -/

/-- Put an operation into its grain's queue; a read or non-posted write takes a tag, and is refused where no tag is free. An endpoint that is
unreachable by then is answered as R237 states. -/
def enqueue (op : BrOp) (s : State) : Option State :=
  let g := hString op.handle
  if op.kind = .posted then
    if s.epStatus op.handle ≠ stOk then some (dropPosted g op s)
    else some (s.modGbr g (fun b => { b with queue := b.queue ++ [op] }))
  else match takeTag (s.gbr g) op with
    | none => none
    | some (b, op) =>
      if s.epStatus op.handle ≠ stOk then
        some (brResult (s.modGbr g (fun _ => (op.tag.map (freeTag b)).getD b)) op stEndpointUnreachable)
      else some (s.modGbr g (fun _ => { b with queue := b.queue ++ [op] }))

/-- The operation of a command. -/
def Cmd.brOp (c : Cmd) (kind : BrKind) (reg count : Nat) (data : Bytes) (names : List Nat) : BrOp :=
  { vctl := c.vctl, key := evKey c.key, seq := c.seq, cmdid := c.cmdid, kind := kind, handle := c.ep, reg := reg, count := count, data := data,
    tag := none, names := names }

/-- A read at its commit. -/
def commitRead (c : Cmd) (reg count : Nat) (s : State) : State × Reply :=
  match brokenCheck c.vctl c.ep reg count s with
  | some s => (s, c.reply stSemBroken)
  | none => match enqueue (c.brOp .read reg count [] []) s with
    | some s => (s, c.pend)
    | none => (s, c.reply stTagsExhausted)

/-- A write at its commit meets SEM_BROKEN and SEM_NOT_HELD first. -/
def writeBlocked (c : Cmd) (reg count : Nat) (s : State) : Option (State × Reply) :=
  match brokenCheck c.vctl c.ep reg count s with
  | some s => some (s, c.reply stSemBroken)
  | none => if s.heldByOther c.vctl c.ep reg count then some (s, c.reply stSemNotHeld) else none

/-- BRIDGE_READ (R229, R234, R241). -/
def opBridgeRead : OpInfo :=
  { op := 0x1301, need := .ep 3, specs := [brEp, (tFix 0x0160 2 0 0xFFFF).must, (cCount 1 64).must], reach := false,
    ranges := fun c _ => do
      needString c
      need (c.regAddr % 4 == 0 && c.regAddr + 4 * c.nat 0x000F ≤ 0x10000) (eRange 0x0160),
    accept := fun c s => do
      needReach c s
      needTags c s,
    commit := fun c s => commitRead c c.regAddr (c.nat 0x000F) s }

/-- BRIDGE_WRITE (R228, R229, R241, R245). -/
def opBridgeWrite : OpInfo :=
  { op := 0x1302, need := .ep 3, reach := false,
    specs := [brEp, (tFix 0x0160 2 0 0xFFFF).must, (cCount 1 64).must, (cData 1152).must, tFix 0x0161 1 0 1],
    ranges := fun c _ => do
      needString c
      need (c.regAddr % 4 == 0 && c.regAddr + 4 * c.nat 0x000F ≤ 0x10000) (eRange 0x0160)
      need (((c.tlv? 0x0009).getD []).length == 4 * c.nat 0x000F) (eRange 0x0009),
    accept := fun c s => do
      need (c.vctl == 0 || !touchesHeld (s.slotProfile c.ep) c.regAddr (c.nat 0x000F)) (eStat stRightMissing)
      needReach c s
      need (c.nat 0x0161 == 0 || s.nonPosted (hString c.ep)) ⟨stEndpointError, [(0x0166, [6])]⟩
      needTags c s,
    commit := fun c s => match writeBlocked c c.regAddr (c.nat 0x000F) s with
      | some r => r
      | none =>
        let np := c.nat 0x0161 == 1
        match enqueue (c.brOp (if np then .nonPosted else .posted) c.regAddr (c.nat 0x000F) ((c.tlv? 0x0009).getD []) []) s with
        | some s => (s, if np then c.pend else c.ok)
        | none => (s, c.reply stTagsExhausted) }

/-- One record of PROFILE_DESC (R230). -/
def profRecord (a : Config.ProfAttr) : Bytes :=
  beBytes 2 a.name ++ beBytes 2 a.addr ++ [byte a.count, byte a.access, byte (b2n a.held), 0]

/-- The profile names from `first` on, in table order; all of them when no first name is given. -/
def fromName (as : List Config.ProfAttr) : Option Nat → List Config.ProfAttr
  | none => as
  | some n => as.dropWhile (fun a => a.name != n)

/-- The reads of an ATTR_READ enter the queue in order (R230). -/
def attrReads (c : Cmd) : List Nat → State → State × Reply
  | [], s => (s, c.pend)
  | n :: r, s => match s.attr? c.ep n with
    | none => (s, c.reply stParamRange)
    | some a => match enqueue (c.brOp .read a.addr a.count [] [n]) s with
      | some s => attrReads c r s
      | none => (s, c.reply stTagsExhausted)

/-- ATTR_READ (R230). -/
def opAttrRead : OpInfo :=
  { op := 0x0301, need := .ep 0, specs := [brEp, tLst 0x0164 2 1 32, tFix 0x0165 0 0 0], reach := false,
    form := fun c => orMissing (c.has 0x0164 || c.has 0x0165) 0x0164,
    ranges := fun c s => do
      needString c
      match (c.list 0x0164 2).zipIdx.find? (fun e => if e.1 < 0x100 then e.1 > 5 else (s.attr? c.ep e.1).isNone) with
      | some e => .error (eRange 0x0164 e.2)
      | none => .ok (),
    accept := fun c s => do
      needReach c s
      needTags c s,
    commit := fun c s =>
      let names := c.list 0x0164 2
      if c.has 0x0165 then
        (s, c.ok [(0x0165, ((fromName (s.slotProfile c.ep) names.head?).take 143).flatMap profRecord)])
      else
        let far := names.filter (· ≥ 0x100)
        let near := names.filter (· < 0x100)
        let data := near.flatMap (fun n => let b := s.commonAttr c.vctl c.ep n; beBytes 2 n ++ beBytes 2 b.length ++ b)
        let spans := far.filterMap (fun n => (s.attr? c.ep n).map (fun a => (a.addr, a.count)))
        match spans.findSome? (fun x => brokenCheck c.vctl c.ep x.1 x.2 s) with
        | some s => (s, c.reply stSemBroken)
        | none =>
          if far.isEmpty then (s, c.ok [tData data])
          else
            let (s, r) := attrReads c far s
            (s, if near.isEmpty then r else { r with tlvs := if c.noData then r.tlvs else r.tlvs ++ [tData data] }) }

/-- ATTR_WRITE (R230): a non-posted write where the string has NONPOSTED, otherwise a posted write followed by a read of the same registers. -/
def opAttrWrite : OpInfo :=
  { op := 0x0302, need := .ep 2, specs := [brEp, (tLst 0x0164 2 1 1).must, (cData 1152).must], reach := false,
    ranges := fun c s => do
      needString c
      match s.attr? c.ep ((c.list 0x0164 2).headD 0) with
      | none => .error (eRange 0x0164 0)
      | some a =>
        need (a.access != 0) (eRange 0x0164 0)
        need (((c.tlv? 0x0009).getD []).length == 4 * a.count) (eRange 0x0009),
    accept := fun c s => do
      match s.attr? c.ep ((c.list 0x0164 2).headD 0) with
      | some a => need (c.vctl == 0 || !touchesHeld (s.slotProfile c.ep) a.addr a.count) (eStat stRightMissing)
      | none => .ok ()
      needReach c s
      needTags c s,
    commit := fun c s =>
      let name := (c.list 0x0164 2).headD 0
      let data := (c.tlv? 0x0009).getD []
      match s.attr? c.ep name with
      | none => (s, c.err (eRange 0x0164 0))
      | some a => match writeBlocked c a.addr a.count s with
        | some r => r
        | none =>
          let two := if s.nonPosted (hString c.ep) then enqueue (c.brOp .nonPosted a.addr a.count data [name]) s
            else match takeTag (s.gbr (hString c.ep)) (c.brOp .read a.addr a.count [] [name]) with
              | none => none
              | some _ => (enqueue (c.brOp .posted a.addr a.count data []) s).bind (enqueue (c.brOp .read a.addr a.count [] [name]))
          match two with
          | some s => (s, c.pend)
          | none => (s, c.reply stTagsExhausted) }

/-! ### Semaphores (R243 to R247) -/

/-- The entry of a block. -/
def GrainBr.sem? (b : GrainBr) (h block : Nat) : Option Sem := b.sems.find? (fun x => x.handle == h && x.block == block)

/-- Change the entry of a block. -/
def GrainBr.modSem (b : GrainBr) (h block : Nat) (f : Sem → Sem) : GrainBr :=
  { b with sems := b.sems.map (fun x => if x.handle = h ∧ x.block = block then f x else x) }

/-- Entries of a tenant on a string, broken records included (R243, R246). -/
def GrainBr.holds (b : GrainBr) (v : Nat) : Nat :=
  (b.sems.filter (fun x => x.holder == v)).length + (b.broken.filter (fun x => x.vctl == v)).length

/-- A vCtl may hold one more entry on a string: a tenant at most 8 (R243). -/
def GrainBr.mayHold (b : GrainBr) (v : Nat) : Bool := v == 0 || b.holds v < 8

/-- Requests of the entry queue are served while entries are free: one whose block has an entry by then waits on the block, as far as its limit of 16
admits (R244), and one whose tenant holds 8 entries by then is refused (R243), with fuel. -/
def serveEntries (g : Nat) : Nat → State → State
  | 0, s => s
  | f + 1, s =>
    let b := s.gbr g
    match b.entryQ with
    | [] => s
    | w :: r =>
      if b.sems.length ≥ 64 then s
      else
        let s := s.modGbr g (fun b => { b with entryQ := r })
        serveEntries g f (match b.sem? w.handle w.block with
          | some e =>
            if e.holder = w.vctl then
              (s.modGbr g (fun b => b.modSem w.handle w.block (fun e => { e with until_ := s.frm.now + w.lease }))).result w.key w.seq w.cmdid stOk
            else if e.waiters.length ≥ 16 then s.result w.key w.seq w.cmdid stSemBusy
            else s.modGbr g (fun b => b.modSem w.handle w.block (fun e => { e with waiters := e.waiters ++ [w] }))
          | none =>
            if !b.mayHold w.vctl then s.result w.key w.seq w.cmdid stQuotaExceeded
            else (s.modGbr g (fun b => { b with sems := b.sems ++ [⟨w.handle, w.block, w.vctl, s.frm.now + w.lease, []⟩] })).result w.key w.seq w.cmdid stOk)

/-- A block loses its holder: it passes to its first waiter that may hold one more entry, whose RESULT is OK, or becomes free; the waiters before that
one, whose tenants hold 8 entries, are refused (R243, R244, R246, R247; DESIGN CHOICE, log 79: R243 does not say when a request that waits meets the
limit). -/
def passSem (g h block : Nat) (s : State) : State :=
  match (s.gbr g).sem? h block with
  | none => s
  | some e =>
    let free (w : Waiter) : Bool := (s.gbr g).mayHold w.vctl
    let s := (e.waiters.takeWhile (fun w => !free w)).foldl (fun s w => s.result w.key w.seq w.cmdid stQuotaExceeded) s
    match e.waiters.dropWhile (fun w => !free w) with
    | w :: r => (s.modGbr g (fun b => b.modSem h block (fun e => { e with holder := w.vctl, until_ := s.frm.now + w.lease, waiters := r }))).result
        w.key w.seq w.cmdid stOk
    | [] => serveEntries g 17 (s.modGbr g (fun b => { b with sems := b.sems.filter (fun x => !(x.handle == h && x.block == block)) }))

/-- A semaphore breaks: the break is recorded for the former holder, and BROKEN_SEEN is set (R246). -/
def breakSem (g h block : Nat) (s : State) : State :=
  match (s.gbr g).sem? h block with
  | none => s
  | some e => passSem g h block ((s.modGbr g (fun b => { b with broken := b.broken ++ [⟨e.holder, h, block, s.frm.now⟩] })).setFlag (aGrnBrStat g) 2)

/-- The leases of a grain that end by this commit break their semaphores (R246). -/
def semLeases (g : Nat) (s : State) : State :=
  ((s.gbr g).sems.filter (fun x => x.until_ ≤ s.frm.now)).foldl (fun s x => breakSem g x.handle x.block s) s

/-- Waits of a grain whose frames are over end with SEM_BUSY (R244). -/
def semWaits (g : Nat) (s : State) : State :=
  let b := s.gbr g
  let timeUp (w : Waiter) : Bool := w.deadline ≤ s.frm.now
  let out := (b.sems.flatMap (·.waiters) ++ b.entryQ).filter timeUp
  let s := s.modGbr g (fun b => { b with
    sems := b.sems.map (fun x => { x with waiters := x.waiters.filter (fun w => !timeUp w) }), entryQ := b.entryQ.filter (fun w => !timeUp w) })
  out.foldl (fun s w => s.result w.key w.seq w.cmdid stSemBusy) s

/-- Broken records 250 frames old are erased (R246). -/
def semForget (g : Nat) (s : State) : State :=
  s.modGbr g (fun b => { b with broken := b.broken.filter (fun x => s.frm.now < x.since + 250) })

/-- A removed vCtl: its waits are cleared without result and its semaphores break (R163, R247). -/
def semRemove (v : Nat) (s : State) : State :=
  (s.brg.grains.map (·.1)).foldl (fun s g =>
    let s := s.modGbr g (fun b => { b with
      sems := b.sems.map (fun x => { x with waiters := x.waiters.filter (fun w => w.vctl != v) }), entryQ := b.entryQ.filter (fun w => w.vctl != v) })
    let s := ((s.gbr g).sems.filter (fun x => x.holder == v)).foldl (fun s x => breakSem g x.handle x.block s) s
    s.modGbr g (fun b => { b with broken := b.broken.filter (fun x => x.vctl != v) })) s

/-- Waits of a vCtl on a string. -/
def GrainBr.waits (b : GrainBr) (v : Nat) : Nat := ((b.sems.flatMap (·.waiters) ++ b.entryQ).filter (fun w => w.vctl == v)).length

/-- The default lease of a grain. -/
def State.leaseDef (s : State) (g : Nat) : Nat := fieldOf (s.regD (aGrnBrCfg g) 0x00140014) 16 8

/-- SEM_ACQUIRE at its commit (R243, R244). -/
def acquire (c : Cmd) (s : State) : State × Reply :=
  let g := hString c.ep
  let v := c.vctl
  let block := c.regAddr
  let wait := c.nat 0x0162
  let lease := (c.nat? 0x0163).getD (s.leaseDef g)
  let b := s.gbr g
  let w : Waiter := ⟨v, evKey c.key, c.seq, c.cmdid, c.ep, block, lease, s.frm.now + wait⟩
  let queue (s' : State) : State × Reply :=
    if v ≠ 0 && b.waits v ≥ 8 then (s, c.reply stQuotaExceeded) else (s', c.pend)
  match b.sem? c.ep block with
  | some e =>
    if e.holder = v then (s.modGbr g (fun b => b.modSem c.ep block (fun e => { e with until_ := s.frm.now + lease })), c.ok)
    else if wait = 0 || e.waiters.length ≥ 16 then (s, c.reply stSemBusy)
    else queue (s.modGbr g (fun b => b.modSem c.ep block (fun e => { e with waiters := e.waiters ++ [w] })))
  | none =>
    if !b.mayHold v then (s, c.reply stQuotaExceeded)
    else if b.sems.length < 64 then
      (s.modGbr g (fun b => { b with sems := b.sems ++ [⟨c.ep, block, v, s.frm.now + lease, []⟩] }), c.ok)
    else if wait = 0 || b.entryQ.length ≥ 16 then (s, c.reply stSemBusy)
    else queue (s.modGbr g (fun b => { b with entryQ := b.entryQ ++ [w] }))

/-- SEM_ACQUIRE. -/
def opSemAcquire : OpInfo :=
  { op := 0x1303, need := .ep 3, reach := false,
    specs := [brEp, (tFix 0x0160 2 0 0xFFFF).must, tFix 0x0162 1 0 250, tFix 0x0163 1 1 250],
    ranges := fun c _ => do
      needString c
      need (c.regAddr % 256 == 0) (eRange 0x0160),
    accept := needReach, commit := acquire }

/-- SEM_RELEASE (R246, R247). -/
def opSemRelease : OpInfo :=
  { op := 0x1304, need := .ep 3, reach := false, specs := [brEp, (tFix 0x0160 2 0 0xFFFF).must, tFix 0x0167 0 0 0],
    rights := fun c _ => need (!c.has 0x0167 || c.vctl == 0) (eStat stOwnerOnly),
    ranges := fun c _ => do
      needString c
      need (c.regAddr % 256 == 0) (eRange 0x0160),
    accept := needReach,
    commit := fun c s =>
      let g := hString c.ep
      match brokenCheck c.vctl c.ep c.regAddr 64 s with
      | some s => (s, c.reply stSemBroken)
      | none => match (s.gbr g).sem? c.ep c.regAddr with
        | none => (s, c.reply stSemNotHeld)
        | some e =>
          if c.has 0x0167 then (breakSem g c.ep c.regAddr s, c.ok)
          else if e.holder = c.vctl then (passSem g c.ep c.regAddr s, c.ok)
          else (s, c.reply stSemNotHeld) }

/-- ATTR_READ. -/
def execAttrRead (src : Src) (tlvs : List Tlv) (s : State) : Outcome := execOp opAttrRead src tlvs s
/-- ATTR_WRITE. -/
def execAttrWrite (src : Src) (tlvs : List Tlv) (s : State) : Outcome := execOp opAttrWrite src tlvs s
/-- BRIDGE_READ. -/
def execBridgeRead (src : Src) (tlvs : List Tlv) (s : State) : Outcome := execOp opBridgeRead src tlvs s
/-- BRIDGE_WRITE. -/
def execBridgeWrite (src : Src) (tlvs : List Tlv) (s : State) : Outcome := execOp opBridgeWrite src tlvs s
/-- SEM_ACQUIRE. -/
def execSemAcquire (src : Src) (tlvs : List Tlv) (s : State) : Outcome := execOp opSemAcquire src tlvs s
/-- SEM_RELEASE. -/
def execSemRelease (src : Src) (tlvs : List Tlv) (s : State) : Outcome := execOp opSemRelease src tlvs s

/-- SEM_WAIT_TIMEOUT (R244). -/
def execSemWaitTimeout (str : Nat) (s : State) : Outcome := done s (semWaits str)

/-- SEM_BROKEN_EXPIRE (R246). -/
def execSemBrokenExpire (str : Nat) (s : State) : Outcome := done s (semForget str)

/-! ### Issue, answers and timeouts (R235, R236, R239, R240) -/

/-- The first operation of a vCtl that may be issued: none passes an earlier write on the same endpoint (R235, R236). -/
def issuable (v : Nat) : List BrOp → List BrOp → Option BrOp
  | _, [] => none
  | before, o :: r =>
    if o.vctl = v && !before.any (fun e => e.handle == o.handle && e.kind != .read) then some o else issuable v (before ++ [o]) r

/-- Timeout T in microseconds (R240). -/
def State.brTimeout (s : State) (g p : Nat) : Nat :=
  min 50000 (fieldOf (s.regD (aGrnBrCfg g) 0x00140014) 0 9 * 100 + 40 * (s.route g p).2)

/-- Message type of a request (R232). -/
def brType : BrKind → Nat
  | .read => 0x40
  | .posted => 0x42
  | .nonPosted => 0x43

/-- The holder of place `k` in a row of runs, each a length and its holder; 0 beyond them. -/
def runHolder : List (Nat × Nat) → Nat → Nat
  | [], _ => 0
  | (n, v) :: r, k => if k < n then v else runHolder r (k - n)

/-- The holder of each issue slot of the cycle of 256: 16 slots of the module, then as many as its tag quota for every vCtl in ascending order, and the
slots of unassigned tags, which are the module's (R236; DESIGN CHOICE, log 79: the order within the cycle). The module's operations are the owner's. -/
def State.slotHolder (s : State) (k : Nat) : Nat := runHolder ((16, 0) :: s.ten.vctls.map (fun e => (e.2.q.tags, e.1))) (k % 256)

/-- The next issue slot of a vCtl on a string within the present beat: none has come before the latest one used (R236). -/
def State.nextSlot (s : State) (g v : Nat) : Option Nat :=
  let base := max (s.gbr g).slot (1250 * s.absBeat)
  ((List.range 256).map (· + base)).find? (fun n => n < 1250 * (s.absBeat + 1) && s.slotHolder n == v)

/-- A request leaves its string port at `t` ns of network time: the timer of its tag starts at its egress stamp, with the timeout of the route it takes
(R231, R239, R240). -/
def issueOp (g t : Nat) (o : BrOp) (s : State) : State :=
  let p := hPos o.handle
  let s := s.modGbr g (fun b => { b with
    tags := match o.tag with | some n => tmod b.tags n (fun x => { x with st := .issued (s.brTimeout g p) t }) | none => b.tags })
  wirePole g p .mslBridge [brType o.kind, hSlot o.handle, o.tag.getD 0, o.reg, o.count] (bridgeBody (hSlot o.handle) (o.tag.getD 0) o.reg o.count o.data) []
    s

/-- Credits of class 2 that a request costs (R215, R231). -/
def BrOp.cost (o : BrOp) : Nat := creditCost (44 + o.data.length)

/-- The operations that wait for credits toward a pole node are issued at `t` ns in their order as far as the credits reach (R215, R235), with fuel. -/
def tryCredit (g p t : Nat) : Nat → State → State
  | 0, s => s
  | f + 1, s => match (s.gbr g).credit.find? (fun o => o.onPole g p), s.pole? g p with
    | some o, some q =>
      if q.credits.getD 2 0 < o.cost then noteStall g p 2 s
      else tryCredit g p t f (issueOp g t o ((s.modGbr g (fun b => { b with credit := b.credit.erase o })).modPole g p (fun q => q.take 2 o.cost)))
    | _, _ => s

/-- BRIDGE_ISSUE (R231, R235, R236): the next issue slot of a vCtl in the present beat takes its first operation that may be issued; it leaves the port
once the pole node's class 2 credits reach. -/
def execBridgeIssue (str v : Nat) (s : State) : Outcome :=
  done s (fun s => match issuable v [] (s.gbr str).queue, s.nextSlot str v with
    | some o, some n =>
      let p := hPos o.handle
      let s := s.modGbr str (fun b => { b with slot := n + 1, queue := b.queue.erase o, credit := b.credit ++ [o] })
      tryCredit str p (100 * n) (s.gbr str).credit.length s
    | _, _ => s)

/-- CREDIT (R216): four counts of credits freed since association start; what waited for them goes out. -/
def execCredit (str pos : Nat) (hdr : MslHdr) (counts : List Nat) (s : State) : Outcome :=
  done s (onMsl str pos hdr (fun s =>
    let s := useCredits str pos (takeCounts str pos counts s)
    tryCredit str pos (125000 * s.absBeat) (s.gbr str).credit.length s))

/-- An answer that matches no tag in flight (R239). -/
def brMismatch (g : Nat) (s : State) : State := (s.count (aGrnBrDrop g) 0 16).setFlag (aGrnBrStat g) 3

/-- An answer to a bridge request (R233, R239). -/
def brAnswer (g p slot tag reg count estat : Nat) (kind : BrKind) (data : Bytes) (s : State) : State :=
  match tget (s.gbr g).tags tag with
  | none => brMismatch g s
  | some t =>
    if t.st.late then
      ((s.count (aGrnBrCnt g) 16 16).setFlag (aGrnBrStat g) 1).modGbr g (fun b => { freeTag b tag with lateNow := b.lateNow + 1 })
    else if hPos t.op.handle = p && hSlot t.op.handle = slot && t.op.reg = reg && t.op.count = count && t.op.kind = kind then
      let names := if t.op.names.isEmpty then [] else [((0x0164 : Nat), t.op.names.flatMap (beBytes 2))]
      let s := s.modGbr g (fun b => freeTag b tag)
      if estat = 0 then tagResult s t stOk (names ++ (if kind = .read then [tData (data.take (4 * count))] else []))
      else tagResult s t stEndpointError (names ++ [(0x0166, [byte (if estat > 6 then 5 else estat)])])
    else brMismatch g s

/-- BR_READ_RESP. -/
def execBrReadResp (str pos : Nat) (hdr : MslHdr) (slot tag reg count estat : Nat) (data : Bytes) (s : State) : Outcome :=
  done s (onMsl str pos hdr (brAnswer str pos slot tag reg count estat .read data))

/-- BR_WRITE_ACK. -/
def execBrWriteAck (str pos : Nat) (hdr : MslHdr) (slot tag reg count estat : Nat) (s : State) : Outcome :=
  done s (onMsl str pos hdr (brAnswer str pos slot tag reg count estat .nonPosted []))

/-- The timer of T µs that started at `start` ns runs out within the present beat. -/
def State.timerDone (s : State) (t start : Nat) : Bool := start + 1000 * t < 125000 * (s.absBeat + 1)

/-- TAG_TIMEOUT (R239): the timer of an issued operation reaches T. -/
def execTagTimeout (str tag : Nat) (s : State) : Outcome :=
  done s (fun s => match tget (s.gbr str).tags tag with
    | some y => match y.st with
      | .issued t start => guardS (s.timerDone t start) (fun s =>
          let s := (s.count (aGrnBrCnt str) 0 16).setFlag (aGrnBrStat str) 0
          tagResult (s.modGbr str (fun b => { b with tags := tmod b.tags tag (fun x => { x with st := .timedOut t (start + 1000 * t) }) })) y
            stBridgeTimeout) s
      | _ => s
    | none => s)

/-- TAG_SECOND_TIMEOUT (R239): the timer reaches T again. -/
def execTagSecondTimeout (str tag : Nat) (s : State) : Outcome :=
  done s (fun s => match ((tget (s.gbr str).tags tag).map (fun y : Tag => y.st) : Option TagSt) with
    | some (.timedOut t start) => guardS (s.timerDone t start) (fun s => s.modGbr str (fun b => freeTag b tag)) s
    | _ => s)

end Sys2Proof.Machine
end

