-- ==== Sys2Proof/Machine/Slates.lean ====
section
/-!
DEFINITION. Machine/Slates.lean: slate entries, light sources, leases, step programs, schedules, composition, inrush admission and derating
(R175 to R180, R250 to R288).
-/
namespace Sys2Proof.Machine

/-- HOLD, which an entry that was never written reads (R251). -/
def hold : Nat := 0xFFFF

/-- The front code of a handle. -/
def State.frontCode (s : State) (h : Nat) : Nat := tgetD s.slt.front h hold

/-- The back code of a handle. -/
def State.backCode (s : State) (h : Nat) : Nat := tgetD s.slt.back h hold

/-- Write a back-slate entry. -/
def State.setBack (s : State) (h v : Nat) : State := s.sl (fun t => { t with back := tput hold t.back h v })

/-! ### Sources (R256, R257, R179) -/

/-- Sources of a handle. -/
def State.sources (s : State) (h : Nat) : List LSrc := tgetD s.slt.srcs h []

/-- Replace the sources of a handle. -/
def State.setSources (s : State) (h : Nat) (l : List LSrc) : State := s.sl (fun t => { t with srcs := tput [] t.srcs h l })

/-- Source `a` goes before source `b` (R179, R283). -/
def LSrc.before (a b : LSrc) : Bool :=
  a.rank > b.rank || (a.rank == b.rank && (a.vctl < b.vctl || (a.vctl == b.vctl && a.pin && !b.pin)))

/-- The base source (R179). -/
def baseOf (l : List LSrc) : Option LSrc :=
  l.foldl (fun b x => match b with | none => some x | some y => if x.before y then some x else some y) none

/-- The start of a program, if it runs a step table. -/
def LSrc.start? (x : LSrc) : Option Nat := match x.prog with | .table _ _ _ st => some st | _ => none

/-- A program of a start goes before its end: no STEP_DONE will follow. -/
def dropStart (st : Option Nat) (s : State) : State :=
  match st with
  | some k => s.sl (fun t => { t with starts := terase t.starts k })
  | none => s

/-- End the sources of a handle that satisfy `p` (R257). -/
def endSrcs (h : Nat) (p : LSrc → Bool) (s : State) : State :=
  let gone := (s.sources h).filter p
  gone.foldl (fun s x => dropStart x.start? s) (s.setSources h ((s.sources h).filter (fun x => !p x)))

/-- Install a source: it replaces the one of the same vCtl and rank, the EMERG input's apart (R256). -/
def setSrc (h : Nat) (x : LSrc) (s : State) : State :=
  let s := endSrcs h (fun y => y.rank == x.rank && y.vctl == x.vctl && y.pin == x.pin) s
  s.setSources h (s.sources h ++ [x])

/-- A source of this vCtl and rank is masked by an equal-rank source of a lower-numbered vCtl (R180). -/
def State.masked (s : State) (h v rank : Nat) : Bool := (s.sources h).any (fun y => y.rank == rank && y.vctl < v)

/-- The source code of R183 as a vCtl reads it. -/
def State.sourceCode (s : State) (v h : Nat) : Nat :=
  match baseOf (s.sources h) with
  | none => 0
  | some b =>
    if b.rank = 4 then (if b.vctl = v && !b.pin then 6 else 5)
    else if b.rank = 3 then 4
    else if b.vctl ≠ v then 3
    else if b.rank = 0 then 1 else 2

/-! ### Leases (R175 to R177) -/

/-- The vCtl holds the lease of the endpoint. -/
def State.holdsLease (s : State) (v h : Nat) : Bool := match tget s.ten.leases h with | some l => l.holder == v | none => false

/-- End a lease: the holder's sources at ranks SCHEDULE and TENANT go, and LEASE_LOST is raised with the code, none on its own release (R177). -/
def endLease (h : Nat) (code : Option Nat) (s : State) : State :=
  match tget s.ten.leases h with
  | none => s
  | some l =>
    let s := { s with ten := { s.ten with leases := terase s.ten.leases h } }
    let s := endSrcs h (fun x => x.vctl == l.holder && x.rank ≤ 1) s
    match code, s.localOf l.holder h with
    | some k, some n => s.raise l.holder 0x0012 [tEp [n], tCode k]
    | _, _ => s

/-- Leases that expire by this commit (R175). -/
def expireLeases (s : State) : State :=
  (s.ten.leases.filter (fun e => e.2.expires.any (fun f => f ≤ s.frm.now))).foldl (fun s e => endLease e.1 (some 0) s) s

/-- Acquire one lease: granted unless another vCtl holds it; the owner takes it at once (R175, R177). -/
def acquireLease (v h frames : Nat) (s : State) : State × Bool :=
  let grant (s : State) : State × Bool :=
    ({ s with ten := { s.ten with leases := tset s.ten.leases h ⟨v, if frames = 0 then none else some (s.frm.now + frames)⟩ } }, true)
  match tget s.ten.leases h with
  | none => grant s
  | some l => if l.holder = v then grant s else if v = 0 then grant (endLease h (some 1) s) else (s, false)

/-! ### Targets (R253, R261, R262) -/

/-- Members of a group of a vCtl, primary and secondary, in ascending order. -/
def State.members (s : State) (v g : Nat) : List Nat :=
  match tget s.slt.groups (1024 * v + g) with
  | some x => sortNat (x.primary ++ x.secondary)
  | none => []

/-- The handles that a command names, as they stand now. -/
def State.targets (s : State) (c : Cmd) : List Nat :=
  match c.nat? 0x0002 with
  | some g => s.members c.vctl g
  | none => c.eps

/-- Every member of a group that a command names carries the right `k`, as every entry of an EP_LIST must (R167, R170; DEDUCED, log 15). -/
def groupRights (k : Nat) (c : Cmd) (s : State) : Except Err Unit :=
  need (!c.has 0x0002 || (s.targets c).all (fun h => s.hasEp c.vctl h k)) (eStat stRightMissing)

/-- Exactly one of EP_LIST and GROUP (R261). -/
def oneTarget (c : Cmd) : Except Err Unit := need (c.has 0x0001 != c.has 0x0002) (eRange 0x0001)

/-- Every EP_LIST entry is a lighting channel (R253). -/
def lampList (c : Cmd) (s : State) : Except Err Unit :=
  match c.eps.zipIdx.find? (fun e => !s.isLamp e.1) with
  | some e => .error (eRange 0x0001 e.2)
  | none => .ok ()

/-- LEVEL is at most 64,000, under 2.x at most 1,000 tenths (R140, R158). -/
def basicLevel (c : Cmd) : Except Err Unit := need ((c.level?).all (· ≤ 64000)) (eRange 0x0003)

/-- A tenant's level command none of whose EP_LIST entries counts as held at acceptance is refused there (R176, log 15). -/
def leaseAccept (c : Cmd) (s : State) : Except Err Unit :=
  let due (h : Nat) : Bool := s.holdsLease c.vctl h || s.frm.accepted.any (fun x =>
    x.op == 0x0103 && x.vctl == c.vctl && x.nat 0x000D == 0 && (s.targets x).contains h)
  need (c.vctl == 0 || c.eps.isEmpty || c.eps.any due)
    ⟨stLeaseNotHeld, [tBitmap (bitmapBytes ((c.eps.length + 7) / 8) (List.range c.eps.length))]⟩

/-- Rank of a level-setting command (R256). -/
def rankOf (v : Nat) : Nat := if v = 0 then 2 else 1

/-- The reply of a level-setting command: LEASE_NOT_HELD for skipped endpoints, CONFLICT_LOST for masked ones (R180, R262). -/
def levelReply (c : Cmd) (skipped : List Nat) (lost : Bool) (tlvs : List OTlv) : Reply :=
  if !skipped.isEmpty then
    c.reply stLeaseNotHeld 0 (tlvs ++ [if c.has 0x0002 then tCount skipped.length
      else tBitmap (bitmapBytes ((c.eps.length + 7) / 8) skipped)])
  else if lost then c.reply stConflictLost 0 tlvs
  else c.ok tlvs

/-- Run `f` on every endpoint of a level-setting command that is a lighting channel and, for a tenant, leased (R176, R253, R262). -/
def onTargets (c : Cmd) (s : State) (rank : Nat) (tlvs : List OTlv) (f : Nat → State → State) : State × Reply :=
  let hs := ((s.targets c).filter (fun h => !c.has 0x0002 || s.isLamp h)).zipIdx
  let ok (h : Nat) : Bool := c.vctl == 0 || s.holdsLease c.vctl h
  let skipped := (hs.filter (fun e => !ok e.1)).map (·.2)
  let run := (hs.filter (fun e => ok e.1)).map (·.1)
  let s := run.foldl (fun s h => f h s) s
  (s, levelReply c skipped (run.any (fun h => (s.sources h).any (fun x => x.rank == rank && x.vctl == c.vctl) && s.masked h c.vctl rank)) tlvs)

/-! ### Level commands (R254, R265, R266) -/

/-- The larger of FRAMES and (|Δ| + 249) / 250 (R265). -/
def fadeN (frames l0 target : Nat) : Nat := max frames ((max l0 target - min l0 target + 249) / 250)

/-- A fade to a level from the front code (R265). -/
def State.fadeProg (s : State) (h target frames : Nat) : Prog :=
  let l0 := s.frontCode h
  if l0 > 64000 then .level target
  else if fadeN frames l0 target = 0 then .level target
  else .fade l0 target (fadeN frames l0 target) 0

/-- LIGHT_LEVEL and LIGHT_LEVEL_X at commit. -/
def levelCommit (c : Cmd) (s : State) : State × Reply :=
  let v := c.vctl
  onTargets c s (rankOf v) [] (fun h s =>
    if c.has 0x0170 then endSrcs h (fun x => x.vctl == v && x.rank == rankOf v && !x.pin) s
    else setSrc h { rank := rankOf v, vctl := v, prog := .level ((if c.op = 0x0101 then c.level? else c.nat? 0x0003).getD 0) } s)

/-- LEVEL or RELEASE (R261). -/
def levelOrRelease (c : Cmd) : Except Err Unit := orMissing (c.has 0x0003 || c.has 0x0170) 0x0003

/-- LIGHT_LEVEL. -/
def opLightLevel : OpInfo :=
  { op := 0x0101, need := .ep 1, specs := [cEp, cGroup, cLevel, tFix 0x0170 0 0 0],
    form := levelOrRelease, ranges := fun c s => do oneTarget c; basicLevel c; lampList c s,
    accept := leaseAccept, commit := levelCommit }

/-- LIGHT_LEVEL_X: any slate code (R254). -/
def opLightLevelX : OpInfo :=
  { op := 0x1101, need := .ep 1, specs := [cEp, cGroup, cLevel, tFix 0x0170 0 0 0],
    form := levelOrRelease, ranges := fun c s => do oneTarget c; lampList c s,
    accept := leaseAccept, commit := levelCommit }

/-- LIGHT_FADE (R265): the reply carries FRAMES with N where it exceeds FRAMES. -/
def opLightFade : OpInfo :=
  { op := 0x0102, need := .ep 1, specs := [cEp, cGroup, cLevel.must, cFrames.must],
    ranges := fun c s => do oneTarget c; basicLevel c; lampList c s,
    accept := leaseAccept,
    commit := fun c s =>
      let goal := (c.level?).getD 0
      let fr := c.nat 0x0004
      let n := maxOf fr (((s.targets c).filter (fun h => s.isLamp h && s.frontCode h ≤ 64000)).map (fun h => fadeN fr (s.frontCode h) goal))
      onTargets c s (rankOf c.vctl) (if n > fr then [(0x0004, beBytes 4 n)] else [])
        (fun h s => setSrc h { rank := rankOf c.vctl, vctl := c.vctl, prog := s.fadeProg h goal fr } s) }

/-- LIGHT_LEASE (R175). -/
def opLightLease : OpInfo :=
  { op := 0x0103, need := .ep 1, specs := [(cCode 1).must, cEp, cGroup, cFrames],
    rights := fun c s => if c.nat 0x000D = 1 then .ok () else groupRights 1 c s,
    ranges := fun c _ => oneTarget c,
    commit := fun c s =>
      let hs := (s.targets c).zipIdx
      if c.nat 0x000D = 1 then
        (hs.foldl (fun s e => if s.holdsLease c.vctl e.1 then endLease e.1 none s else s) s, c.ok)
      else
        let (s, bad) := hs.foldl (fun (p : State × List Nat) e =>
          let (s, ok) := acquireLease c.vctl e.1 (c.nat 0x0004) p.1
          (s, if ok then p.2 else p.2 ++ [e.2])) (s, [])
        (s, if bad.isEmpty then c.ok else c.reply stLeaseBusy 0 [tBitmap (bitmapBytes ((hs.length + 7) / 8) bad)]) }

/-- LIGHT_STATE record of an endpoint (R263). -/
def State.lightState (s : State) (c : Cmd) (h : Nat) : Bytes :=
  let b := baseOf (s.sources h)
  let flags := b2n (s.overlaid h).isSome + 2 * b2n (s.slt.lifted.contains h) + 4 * b2n (s.slt.queue.any (fun w => w.handle == h))
  let rv : Nat × Nat := match c.vctl, b with | 0, some x => (x.rank, x.vctl) | _, _ => (0xFF, 0xFFFF)
  beBytes 2 (c.levelOut (s.frontCode h)) ++ [byte (s.sourceCode c.vctl h), byte rv.1] ++ beBytes 2 rv.2 ++ [byte flags, 0]

/-- LIGHT_READ: at most 145 records fit an entry (R145, R263). -/
def opLightRead : OpInfo :=
  { op := 0x0104, need := .ep 0, specs := [cEp, cGroup],
    ranges := fun c s => do
      oneTarget c
      need ((s.targets c).length ≤ 145) (eRange (if c.has 0x0002 then 0x0002 else 0x0001)),
    commit := fun c s => (s, c.ok [(0x0178, (s.targets c).flatMap (s.lightState c))]) }

/-- LIGHT_EMERGENCY at commit (R256, R257, R281, R282). -/
def emergencyCommit (c : Cmd) (s : State) : State × Reply :=
  let v := c.vctl
  let hs := (s.targets c).filter s.isLamp
  let lvl := (c.level?).getD 0
  match c.nat 0x000D with
  | 0 =>
    let s := hs.foldl (fun s h => setSrc h { rank := 4, vctl := v, prog := .level lvl } s) s
    (s, if hs.any (fun h => s.masked h v 4) then c.reply stConflictLost else c.ok)
  | 1 => (hs.foldl (fun s h => endSrcs h (fun x => x.rank == 4 && x.vctl == v && !x.pin) s) s, c.ok)
  | 2 => (s.sl (fun t => { t with preset := hs.foldl (fun p h => tset p h (lvl, true)) t.preset }), c.ok)
  | _ => (s.sl (fun t => { t with preset := tmap t.preset (fun _ e => (e.1, false)) }), c.ok)

/-- LIGHT_EMERGENCY. -/
def opLightEmergency : OpInfo :=
  { op := 0x0105, need := .mod 0, specs := [(cCode 3).must, cEp, cGroup, cLevel],
    form := fun c => orMissing (c.nat 0x000D % 2 == 1 || c.has 0x0003) 0x0003,
    rights := fun c _ => need (c.nat 0x000D ≤ 1 || c.vctl == 0) (eStat stOwnerOnly),
    ranges := fun c s => do
      if c.nat 0x000D ≠ 3 then oneTarget c
      basicLevel c
      if c.nat 0x000D % 2 = 0 then lampList c s,
    commit := emergencyCommit }

/-! ### Step tables (R266, R267) -/

/-- A step table of a vCtl. -/
def State.stepTable (s : State) (v no : Nat) : StepTbl := tgetD s.slt.tables (16 * v + no) {}

/-- The length a STEP_TABLE leaves (R266). -/
def newLen (t : StepTbl) (c : Cmd) : Nat :=
  match c.nat? 0x0174 with
  | some n => n
  | none => if c.has 0x0173 then max t.len (c.nat 0x0172 + (c.list 0x0173 2).length) else t.len

/-- A start fits the length (R261, R266). -/
def startFits (c : Cmd) (s : State) : Except Err Unit :=
  let len := newLen (s.stepTable c.vctl (c.nat 0x0171)) c
  if c.has 0x0001 || c.has 0x0002 then
    (do need (len ≠ 0) (eRange 0x0171); need (c.nat 0x0176 < len) (eRange 0x0176))
  else .ok ()

/-- STEP_TABLE. -/
def opStepTable : OpInfo :=
  { op := 0x1102, need := .ep 1, cost := fun c => 1 + (c.list 0x0173 2).length / 512,
    specs := [cEp, cGroup, (tFix 0x0171 1 0 15).must, tFix 0x0172 2 0 4095, tLst 0x0173 2 1 4000, tFix 0x0174 2 1 4096, tFix 0x0175 1 0 2,
      tFix 0x0176 2 0 4095],
    ranges := fun c s => do
      need (!(c.has 0x0001 && c.has 0x0002)) (eRange 0x0001)
      need (c.nat 0x0172 + (c.list 0x0173 2).length ≤ 4096) (eRange 0x0173)
      startFits c s
      lampList c s,
    accept := leaseAccept,
    commit := fun c s =>
      let v := c.vctl
      let no := c.nat 0x0171
      match startFits c s with
      | .error e => (s, c.err e)
      | .ok _ =>
        let t := s.stepTable v no
        let t : StepTbl := {
          len := newLen t c,
          entries := (c.list 0x0173 2).zipIdx.foldl (fun m e => tput hold m (c.nat 0x0172 + e.2) e.1) t.entries }
        let s := s.sl (fun x => { x with tables := tput {} x.tables (16 * v + no) t })
        if !(c.has 0x0001 || c.has 0x0002) then (s, c.ok)
        else
          let st := s.slt.nextStart
          let hs := ((s.targets c).filter s.isLamp).filter (fun h => v == 0 || s.holdsLease v h)
          let (s, r) := onTargets c s (rankOf v) [] (fun h s =>
            setSrc h { rank := rankOf v, vctl := v, prog := .table no (c.nat 0x0176) (c.nat 0x0175) st } s)
          (s.sl (fun x => { x with
            nextStart := st + 1, starts := if hs.isEmpty || c.nat 0x0175 = 2 then x.starts else tset x.starts st ⟨v, no, hs.length, hs⟩ }), r) }

/-! ### Factors and derate profiles (R258, R279) -/

/-- A 16-bit signed field of a value. -/
def i16 (b : Bytes) (off : Nat) : Int := beInt ((b.drop off).take 2)

/-- An unsigned field of a value. -/
def u (b : Bytes) (off n : Nat) : Nat := beNat ((b.drop off).take n)

/-- The byte offset of the first field of a DERATE_PROFILE that breaks a rule (R279). -/
def derateBad (b : Bytes) : Option Nat :=
  let n := u b 1 1
  if u b 0 1 < 1 || u b 0 1 > 63 then some 0
  else if n < 1 || n > 4 then some 1
  else
    (List.range 4).findSome? (fun i =>
      let t := i16 b (4 + 4 * i)
      let f := u b (6 + 4 * i) 2
      if i < n then
        if t ≤ i16 b (if i = 0 then 2 else 4 * i) then some (4 + 4 * i)
        else if f > (if i = 0 then 4096 else u b (2 + 4 * i) 2) then some (6 + 4 * i)
        else none
      else if t ≠ 0 then some (4 + 4 * i) else if f ≠ 0 then some (6 + 4 * i) else none)

/-- The profile of a DERATE_PROFILE. -/
def derateOf (b : Bytes) : DerateProf :=
  { t0 := i16 b 2, pts := (List.range (u b 1 1)).map (fun i => (i16 b (4 + 4 * i), u b (6 + 4 * i) 2)) }

/-- Change the derating of a channel. -/
def State.modDerate (s : State) (h : Nat) (f : Derate → Derate) : State :=
  s.sl (fun t => { t with derate := tput {} t.derate h (f (tgetD t.derate h {})) })

/-- FACTOR_SET. -/
def opFactorSet : OpInfo :=
  { op := 0x1106, need := .owner,
    specs := [cEp, cGroup, tFix 0x0179 2 0 0x1000, (tFix 0x017A 4 0 (2 ^ 32 - 1)).many, (tByt 0x017B 20 20).many, tFix 0x017C 1 0 63],
    ranges := fun c s => do
      match (c.all 0x017A).zipIdx.find? (fun e => u e.1 0 2 > 1023 || u e.1 2 2 > 0x1000) with
      | some e => .error (eRange 0x017A e.2)
      | none => .ok ()
      match (c.all 0x017B).zipIdx.findSome? (fun e => (derateBad e.1).map (fun o => (e.2 * 256 + o))) with
      | some ix => .error (eRange 0x017B ix)
      | none => .ok ()
      need (!(c.has 0x0001 && c.has 0x0002)) (eRange 0x0001)
      if c.has 0x017C then
        oneTarget c
        lampList c s,
    commit := fun c s =>
      let s := s.sl (fun t => { t with
        g := c.nat 0x0179 t.g,
        factors := (c.all 0x017A).foldl (fun f b => tput 4096 f (u b 0 2) (u b 2 2)) t.factors,
        derateProfs := (c.all 0x017B).foldl (fun p b => tset p (u b 0 1) (derateOf b)) t.derateProfs })
      match c.nat? 0x017C with
      | some p => (((s.targets c).filter s.isLamp).foldl (fun s h => s.modDerate h (fun d => { d with prof := p })) s, c.ok)
      | none => (s, c.ok) }

/-- The endpoint of a local number for SLATE_WINDOW; none where it is void or absent (R264). -/
def State.windowAt (s : State) (v l : Nat) : Option Nat :=
  match s.resolve v l with
  | .ok h => if s.epStatus h = stEndpointUnknown then none else some h
  | .error _ => none

/-- The code that SLATE_WINDOW gives for a local number (R264). -/
def State.windowCode (s : State) (v l : Nat) : Nat :=
  match s.windowAt v l with
  | some h => (s.overlaid h).getD (s.frontCode h)
  | none => hold

/-- SLATE_WINDOW (R264): codes, the entries that the overlay or preset supplied, and the void or absent ones. -/
def opSlateWindow : OpInfo :=
  { op := 0x1107, need := .ep 0, cost := fun _ => 2, specs := [(tFix 0x0177 4 0 (2 ^ 32 - 1)).must, (cCount 1 256).must],
    commit := fun c s =>
      let n := c.nat 0x000F
      let l (i : Nat) : Nat := c.nat 0x0177 + i
      let ix := List.range n
      (s, c.ok [tData (ix.flatMap (fun i => beBytes 2 (s.windowCode c.vctl (l i)))),
        tBitmap (bitmapBytes ((n + 7) / 8) (ix.filter (fun i => (s.windowAt c.vctl (l i)).any (fun h => (s.overlaid h).isSome)))),
        tBitmap (bitmapBytes ((n + 7) / 8) (ix.filter (fun i => (s.windowAt c.vctl (l i)).isNone)))]) }

/-! ### Local time and solar events (R272, R273) -/

/-- Segments of constant local offset: the TAI second at which each begins, and local minus TAI in seconds. A positive leap second counts as a
second occurrence of the second before it. -/
def State.offsets (s : State) : List (Nat × Int) :=
  let marks := (s.lds.leaps.map (fun l => if (l.tai : Nat) > s.lds.tai (l.from_ - 1) then l.from_ - 1 else l.from_)) ++ s.slt.dst.map (·.1)
  let off (t : Nat) : Int :=
    let tai := s.lds.leaps.foldl (fun x l => if (if (l.tai : Nat) > s.lds.tai (l.from_ - 1) then l.from_ - 1 else l.from_) ≤ t then l.tai else x) s.lds.taiUtc
    let d := s.slt.dst.foldl (fun x e => if e.1 ≤ t then e.2 else x) 0
    60 * (s.slt.stdOffset + d) - tai
  (0, off 0) :: ((sortNat marks).filter (· ≠ 0)).map (fun m => (m, off m))

/-- The TAI second at which local second `l` falls: its first occurrence, or the transition that skips it (R272). -/
def instant : List (Nat × Int) → Int → Nat
  | [], l => l.toNat
  | [(a, o)], l => max a (l - o).toNat
  | (a, o) :: (b, p) :: r, l => if l - o < b then max a (l - o).toNat else instant ((b, p) :: r) l

/-- Local second of a TAI second. -/
def State.localSec (s : State) (t : Nat) : Int :=
  (t : Int) + ((s.offsets.filter (fun e => e.1 ≤ t)).getLast?.map (·.2)).getD 0

/-- Weekday of a local date counted from 1970-01-01: 0 is Monday. -/
def weekday (day : Int) : Nat := ((day + 3) % 7).toNat

/-- The sun's centre is above the altitude of an event type: -0.833° for sunrise and sunset (1, 2), -6° for civil dawn and dusk (3, 4); `t` is a PTP
second (R273). -/
def State.sunUp (s : State) (la lo : Int) (ty t : Nat) : Bool :=
  Config.sunAltitude la lo (t - s.lds.tai t) ≥ (if ty ≤ 2 then -833000 else -6000000)

/-- The PTP second that the module computes for a solar event of a local date: the first moment of the date at which the sun's centre passes the event's
altitude, upward for sunrise and dawn and downward for sunset and dusk, with the error that R273 allows, up to 60 s at latitudes within ±65° (log 14);
none on a date on which it does not pass it. -/
def State.solarAt (s : State) (la lo day : Int) (ty : Nat) : Option Nat :=
  let a := instant s.offsets (day * 86400)
  let b := instant s.offsets ((day + 1) * 86400)
  let up := ty % 2 == 1
  let e := Config.solarError la lo day.toNat ty
  let e := if -65000000 ≤ la && la ≤ 65000000 then max (-60) (min 60 e) else e
  (((List.range (b - a)).map (· + a)).find? (fun t => s.sunUp la lo ty t == up && s.sunUp la lo ty (t - 1) != up)).map (fun t => ((t : Int) + e).toNat)

/-- The frame boundary at which an entry of a local date fires, if it does (R271, R273, R274). -/
def State.fireFrame (s : State) (day : Int) (e : SEntry) : Option Nat :=
  match e with
  | .x f _ _ _ => some f
  | .at_ ty days time _ _ =>
    if !bit days (weekday day) then none
    else if ty = 0 then some (instant s.offsets (day * 86400 + time) * 100)
    else match s.slt.location with
      | none => none
      | some (la, lo) => (s.solarAt la lo day ty).map (fun t => ((t : Int) + time).toNat * 100)

/-- Local dates around the frame boundary `b`. -/
def State.daysNear (s : State) (b back : Nat) : List Int :=
  let d := s.localSec (b / 100) / 86400
  (List.range (back + 2)).map (fun (i : Nat) => d - back + i)

/-- The entry fires at the boundary `b` (R274). -/
def State.firesAt (s : State) (b : Nat) (e : SEntry) : Bool :=
  match e with
  | .x f _ _ fired => f == b && !fired
  | .at_ .. => (s.daysNear b 1).any (fun d => s.fireFrame d e == some b)

/-- Level and fade of an entry. -/
def SEntry.light : SEntry → Nat × Nat
  | .at_ _ _ _ l f => (l, f)
  | .x _ c f _ => (c, f)

/-- The endpoints an entry of a schedule acts on: lighting channels of its target whose lease, for a tenant, is held (R274). -/
def State.schedTargets (s : State) (v : Nat) (k : Sched) : List Nat :=
  ((match k.group with | some g => s.members v g | none => k.eps).filter s.isLamp).filter (fun h => v == 0 || s.holdsLease v h)

/-- Set a schedule's SCHEDULE-rank source: the schedule of higher number wins on one endpoint (R274). -/
def setSched (v no h : Nat) (p : Prog) (s : State) : State :=
  if (s.sources h).any (fun x => x.rank == 0 && x.vctl == v && x.sched.any (· > no)) then s
  else setSrc h { rank := 0, vctl := v, prog := p, sched := some no } s

/-- End the sources of a schedule (R275). -/
def endSched (v no : Nat) (s : State) : State :=
  (s.slt.srcs.map (·.1)).foldl (fun s h => endSrcs h (fun x => x.rank == 0 && x.vctl == v && x.sched == some no) s) s

/-- The latest firing of an entry in the 7 days before the current frame (R275). -/
def State.lastFire (s : State) (e : SEntry) : Option Nat :=
  let now := s.frm.now
  let ok (f : Nat) : Bool := f ≤ now && now ≤ f + 60480000
  match e with
  | .x f _ _ _ => if ok f then some f else none
  | .at_ .. => ((s.daysNear now 8).filterMap (fun d => s.fireFrame d e)).foldl (fun m f => if ok f then some (max f (m.getD 0)) else m) none

/-- A schedule that is written enabled first takes the level of its latest entry, without fade (R275). -/
def takeLatest (v no : Nat) (k : Sched) (s : State) : State :=
  let best := k.entries.zipIdx.foldl (fun (b : Option (Nat × Nat)) e => match s.lastFire e.1 with
    | none => b
    | some f => if b.any (fun x => f < x.1) then b else some (f, e.2)) none
  match best.bind (fun b => k.entries[b.2]?) with
  | none => s
  | some e => (s.schedTargets v k).foldl (fun s h => setSched v no h (.level e.light.1) s) s

/-- Entry `ix` of a schedule fires at the boundary after this frame and has not acted there: another entry that fires there goes before it when its
index is higher (R274). -/
def State.fireDue (s : State) (k : Sched) (ix : Nat) : Bool :=
  let b := s.frm.now + 1
  k.last != b && (k.entries[ix]?).any (s.firesAt b) && !k.entries.zipIdx.any (fun o => o.2 > ix && s.firesAt b o.1)

/-- SCHEDULE_FIRE (R274): an entry acts in the frame before the boundary at which it fires, or, carried, in a later one (R117). -/
def scheduleFire (v no ix : Nat) (s : State) : State :=
  let key := 256 * v + no
  match tget s.slt.scheds key with
  | none => s
  | some k => match k.entries[ix]? with
    | none => s
    | some e =>
      let b := s.frm.now + 1
      let late := s.frm.lateFires.contains (key, ix)
      if !(k.enabled && s.inLight && s.active v && (late || s.fireDue k ix)) then s
      else
        let s := { s with frm := { s.frm with lateFires := s.frm.lateFires.filter (· != (key, ix)) } }
        let s := s.sl (fun t => { t with
          scheds := tset t.scheds key { k with last := if late then k.last else b, entries := k.entries.map (fun x => match x with
            | .x f c d _ => if f ≤ b then .x f c d true else x
            | x => x) } })
        (s.schedTargets v k).foldl (fun s h =>
          setSched v no h (if e.light.1 > 64000 then .level e.light.1 else s.fadeProg h e.light.1 e.light.2) s) s

/-- SCHEDULE_FIRE. -/
def execScheduleFire (v no ix : Nat) (s : State) : Outcome := done s (scheduleFire v no ix)

/-- The firings not yet done when the back slate is frozen: those carried before, then those of this frame (R117). -/
def State.unfired (s : State) : List (Nat × Nat) :=
  s.frm.lateFires.filter (fun e => (tget s.slt.scheds e.1).any (fun k => k.enabled && e.2 < k.entries.length)) ++
  s.slt.scheds.flatMap (fun e =>
    if e.2.enabled && s.active (e.1 / 256) then ((List.range e.2.entries.length).filter (s.fireDue e.2)).map (fun i => (e.1, i)) else [])

/-- Entries of a day on which their solar event does not occur raise SCHEDULE_SKIPPED as the local date begins, once for each date, whatever the local
time does around midnight (R273, log 14). -/
def skipEvents (s : State) : State :=
  let b := s.frm.now + 1
  let day := s.localSec (b / 100) / 86400
  let begins := s.slt.localDate.any (fun d => d < day)
  let s := s.sl (fun t => { t with localDate := some (max day (t.localDate.getD day)) })
  if !begins then s
  else
    s.slt.scheds.foldl (fun s k => if !k.2.enabled then s else
      k.2.entries.zipIdx.foldl (fun s e => match e.1 with
        | .at_ ty days _ _ _ =>
          if ty ≠ 0 && bit days (weekday day) && s.slt.location.isSome && (s.fireFrame day e.1).isNone then
            s.raise (k.1 / 256) 0x0201 [tCode (k.1 % 256), tCode e.2, tFrame s.frm.now]
          else s
        | _ => s) s) s

/-! ### Schedule commands (R271, R273) -/

/-- A SCHED_ENTRY; none where a field is out of range. -/
def schedEntry (b : Bytes) : Option SEntry :=
  let ty := u b 0 1
  let days := u b 1 1 % 128
  let time := beInt ((b.drop 4).take 4)
  if ty > 4 || days = 0 || u b 8 2 > 64000 || u b 10 2 > 60000 then none
  else if ty = 0 then (if 0 ≤ time && time ≤ 86399 then some (.at_ 0 days time (u b 8 2) (u b 10 2)) else none)
  else if -43200 ≤ time && time ≤ 43200 then some (.at_ ty days time (u b 8 2) (u b 10 2)) else none

/-- A SCHED_ENTRY_X; none where a field is out of range. -/
def schedEntryX (b : Bytes) : Option SEntry := if u b 10 2 > 60000 then none else some (.x (u b 0 8) (u b 8 2) (u b 10 2) false)

/-- The entries of a schedule write, in the order in which they stand. -/
def Cmd.schedEntries (c : Cmd) : List (Option SEntry) :=
  c.tlvs.filterMap (fun t => if t.1 = 0x0195 then some (schedEntry t.2) else if t.1 = 0x0196 then some (schedEntryX t.2) else none)

/-- Schedules of a vCtl. -/
def State.schedCount (s : State) (v : Nat) : Nat := (s.slt.scheds.filter (fun e => e.1 / 256 == v)).length

/-- The schedule quota admits the number (R171). -/
def schedQuota (c : Cmd) (s : State) : Except Err Unit :=
  need ((tget s.slt.scheds (256 * c.vctl + c.nat 0x0194)).isSome || s.schedCount c.vctl < ((s.vctl? c.vctl).map (·.q.schedules)).getD 0)
    (eStat stQuotaExceeded)

/-- SCHEDULE_WRITE and SCHEDULE_WRITE_X. -/
def schedOp (op : Nat) (xs : List TSpec) : OpInfo :=
  { op := op, need := .ep 1, cost := fun _ => 2,
    specs := [cEp, cGroup, (tFix 0x0194 1 0 255).must, tFix 0x0197 1 0 1, (tByt 0x0195 12 12).many] ++ xs,
    form := fun c => orMissing (1 ≤ c.schedEntries.length) 0x0195,
    ranges := fun c s => do
      oneTarget c
      lampList c s
      need (c.schedEntries.length ≤ 64) (eRange 0x0195 64)
      match c.schedEntries.zipIdx.find? (fun e => e.1.isNone) with
      | some e => .error (eRange 0x0195 e.2)
      | none => .ok (),
    accept := fun c s => do
      need (s.slt.location.isSome || !(c.schedEntries.any (fun e => match e with | some (.at_ ty _ _ _ _) => ty != 0 | _ => false))) (eStat stConfigRefused)
      schedQuota c s,
    commit := fun c s =>
      let v := c.vctl
      let no := c.nat 0x0194
      match schedQuota c s with
      | .error e => (s, c.err e)
      | .ok _ =>
        let k : Sched := { enabled := c.nat 0x0197 1 == 1, group := c.nat? 0x0002, eps := c.eps, entries := c.schedEntries.filterMap id }
        let s := endSched v no { s with frm := { s.frm with lateFires := s.frm.lateFires.filter (fun e => e.1 != 256 * v + no) } }
        let k := { k with entries := k.entries.map (fun e => match e with | .x f l d _ => .x f l d (f ≤ s.frm.now) | e => e) }
        let s := s.sl (fun t => { t with scheds := tset t.scheds (256 * v + no) k })
        (if k.enabled then takeLatest v no k s else s, c.ok) }

/-- SCHEDULE_WRITE. -/
def opScheduleWrite : OpInfo := schedOp 0x0203 []

/-- SCHEDULE_WRITE_X. -/
def opScheduleWriteX : OpInfo := schedOp 0x1203 [(tByt 0x0196 16 16).many]

/-- A schedule entry as a TLV, its level as the command's major reports levels (R158, R271). -/
def SEntry.tlv (c : Cmd) : SEntry → OTlv
  | .at_ ty days t l f => (0x0195, [byte ty, byte days, 0, 0] ++ beIntBytes 4 t ++ beBytes 2 (c.levelOut l) ++ beBytes 2 f)
  | .x f l d _ => (0x0196, beBytes 8 f ++ beBytes 2 (c.levelOut l) ++ beBytes 2 d ++ [0, 0, 0, 0])

/-- SCHEDULE_READ: the TLVs of the schedule's write, entries as far as they fit the 1,176 bytes of R145; none but SCHED_NO where the number has no
schedule (log 16). -/
def opScheduleRead : OpInfo :=
  { op := 0x0204, need := .ep 0, specs := [(tFix 0x0194 1 0 255).must],
    commit := fun c s =>
      let no : OTlv := (0x0194, [byte (c.nat 0x0194)])
      match tget s.slt.scheds (256 * c.vctl + c.nat 0x0194) with
      | none => (s, c.ok [no])
      | some k => (s, c.ok (fitEntry 12 ([no, match k.group with | some g => tGroup g | none => tEp (k.eps.filterMap (s.localOf c.vctl)),
          (0x0197, [byte (b2n k.enabled)])] ++ k.entries.map (SEntry.tlv c)))) }

/-- SOLAR_READ (R273): VALUE names the local date in days since 1970-01-01; the reply holds, for sunrise, sunset, civil dawn and civil dusk, CODE 0
and VALUE, the UTC second, or CODE 1 and VALUE 0 for an absent event (log 16). -/
def opSolarRead : OpInfo :=
  { op := 0x0602, need := .any, specs := [cValue.must],
    ranges := fun c _ => need (0 ≤ c.int 0x000C && c.int 0x000C < 2 ^ 31) (eRange 0x000C),
    accept := fun _ s => need s.slt.location.isSome (eStat stConfigRefused),
    commit := fun c s => match s.slt.location with
      | none => (s, c.reply stConfigRefused)
      | some (la, lo) => (s, c.ok ([1, 2, 3, 4].flatMap (fun k => match s.solarAt la lo (c.int 0x000C) k with
          | some t => [tCode 0, tValue (t - s.lds.tai t)]
          | none => [tCode 1, tValue 0])) s.freeFlag) }

/-! ### Composition (R258 to R260, R265 to R268) -/

/-- The level a program gives in this composition, and the program afterwards; none where the source ends (R257, R265, R266, R267). -/
def stepProg (s : State) (v : Nat) (p : Prog) : Option (Nat × Prog × Bool) :=
  match p with
  | .level c => some (c, p, false)
  | .fade l0 goal n k =>
    let k := k + 1
    let lvl := ((l0 : Int) + Int.tdiv (((goal : Int) - l0) * k) n).toNat
    some (lvl, if k ≥ n then .level goal else .fade l0 goal n k, false)
  | .table no idx mode st =>
    let t := s.stepTable v no
    let entry (i : Nat) : Nat := tgetD t.entries i hold
    if idx < t.len then some (entry idx, .table no (idx + 1) mode st, false)
    else if mode = 2 then (if t.len = 0 then some (hold, .table no 0 mode st, false) else some (entry 0, .table no 1 mode st, false))
    else if mode = 1 then none
    else some (entry (t.len - 1), .level (entry (t.len - 1)), true)

/-- A program of a start reaches its end on a handle: STEP_DONE when it was the last one (R266). -/
def stepEnd (h : Nat) (st : Option Nat) (s : State) : State :=
  match st.bind (fun k => (tget s.slt.starts k).map (fun r => (k, r))) with
  | none => s
  | some (k, r) =>
    let left := r.left.filter (· != h)
    if left.isEmpty then (s.sl (fun t => { t with starts := terase t.starts k })).raise r.vctl 0x0101 [tCode r.no, tCount r.count]
    else s.sl (fun t => { t with starts := tset t.starts k { r with left := left } })

/-- Advance every source of a handle by one composition; the sources that remain, each with its level. -/
def advance (h : Nat) (s : State) : State × List (LSrc × Nat) :=
  (s.sources h).foldl (fun (p : State × List (LSrc × Nat)) x =>
    match stepProg s x.vctl x.prog with
    | none => (stepEnd h x.start? p.1, p.2)
    | some (l, q, ended) => (if ended then stepEnd h x.start? p.1 else p.1, p.2 ++ [({ x with prog := q }, l)])) (s, [])

/-- Factor F of the owner's group in which a channel is a primary member (R258). -/
def State.groupFactor (s : State) (h : Nat) : Nat :=
  match s.slt.groups.find? (fun e => e.1 < 1024 && e.2.primary.contains h) with
  | some e => tgetD s.slt.factors e.1 4096
  | none => 4096

/-- The arithmetic of R258: base level `b` of rank `rank`, with factors g, f, d, the ceiling and the wake lift. -/
def composeLevel (b rank g f d ceil w : Nat) : Nat :=
  if b > 64000 then b
  else
    let g := if rank ≥ 3 then 4096 else g
    let f := if rank ≥ 3 then 4096 else f
    let t := b * g
    let t := t * f / 4096
    let t := t * d / 4096
    let v := min ((t + 2048) / 4096) ceil
    let v := if rank < 3 then max v (min w ceil) else v
    min v 64000

/-- D_c of a channel. -/
def State.dc (s : State) (h : Nat) : Nat := (tgetD s.slt.derate h {}).d

/-- Compose one lighting channel; `w` is its wake lift. The result says whether a source remained, the code, the base rank, and whether the lift
raised the code. -/
def composeOne (h w : Nat) (s : State) : State × Option (Nat × Nat × Bool) :=
  let (s, l) := advance h s
  let s := s.setSources h (l.map (·.1))
  match baseOf (l.map (·.1)) with
  | none => (s, none)
  | some b =>
    let lvl := ((l.find? (fun x => x.1 == b)).map (·.2)).getD hold
    let f := s.groupFactor h
    let c0 := composeLevel lvl b.rank s.slt.g f (s.dc h) (s.ceiling h) 0
    let c := composeLevel lvl b.rank s.slt.g f (s.dc h) (s.ceiling h) w
    (s, some (c, b.rank, c != c0))

/-- Circuit of a handle; 64 when it is unmapped (R29, R277). -/
def State.circuit (s : State) (h : Nat) : Nat := tgetD s.slt.circuits h 64

/-- A code is dark or special: a switch-on starts from it (R276). -/
def darkCode (c : Nat) : Bool := c == 0 || c > 64000

/-- A channel joins its queue in the order of frame and handle (R276). -/
def enqSwitch (w : Switch) : List Switch → List Switch
  | [] => [w]
  | x :: r => if x.handle = w.handle then x :: r
      else if w.since < x.since || (w.since = x.since && w.handle < x.handle) then w :: x :: r else x :: enqSwitch w r

/-- Compose one channel into the back slate, and keep its place in the inrush queue (R252, R258, R276). -/
def composeInto (lift : Nat → Nat) (s : State) (h : Nat) : State :=
  let (s, r) := composeOne h (lift h) s
  let leave (s : State) : State := s.sl (fun t => { t with queue := t.queue.filter (fun w => w.handle != h) })
  match r with
  | none => leave s
  | some (c, rank, up) =>
    let s := s.sl (fun t => { t with lifted := t.lifted.filter (· != h) ++ (if up then [h] else []) })
    let waits := s.slt.queue.any (fun w => w.handle == h)
    let s := if darkCode c || rank ≥ 3 then leave s
      else if waits then s
      else if darkCode (s.frontCode h) then s.sl (fun t => { t with queue := enqSwitch ⟨s.circuit h, s.frm.now, h⟩ t.queue })
      else s
    s.setBack h c

/-- The compositions of a frame: those carried into it first, then one for every lighting channel with an active source (R117, R258). -/
def State.composeWork (s : State) : List Nat := (s.frm.carried ++ s.slt.srcs.map (·.1)).filter (fun h => s.isLamp h && (tget s.slt.srcs h).isSome)

/-- Do the compositions of a frame, those of the handles `unfinished` apart, which are carried. -/
def composeAll (lift : Nat → Nat) (unfinished : List Nat) (s : State) : State :=
  let work := s.composeWork
  let s := s.sl (fun t => { t with lifted := [], queue := t.queue.filter (fun w => (tget t.srcs w.handle).isSome) })
  (work.filter (fun h => !unfinished.contains h)).foldl (composeInto lift) s

/-- Phase of a circuit; 0 none. -/
def State.phase (s : State) (k : Nat) : Nat := tgetD s.slt.phases k 0

/-- Circuits with a non-empty queue, ascending. -/
def State.waitingCircuits (s : State) : List Nat :=
  sortNat (s.slt.queue.map (·.circuit))

/-- The circuit that a phase grants: the first after its turn, cyclically, with a queue (R277). -/
def State.grantOf (s : State) (ph turn : Nat) : Option Nat :=
  let ks := s.waitingCircuits.filter (fun k => k < 64 && s.phase k == ph)
  match ks.find? (fun k => turn < 64 && k > turn) with
  | some k => some k
  | none => ks.head?

/-- Admission (R277): at most one circuit of each phase, every circuit on no phase and circuit 64; the INRUSH hints of the granted circuits. -/
def inrushAdmit (s : State) : State × List Nat :=
  let (t1, t2, t3) := s.slt.turn
  let g1 := s.grantOf 1 t1
  let g2 := s.grantOf 2 t2
  let g3 := s.grantOf 3 t3
  let free := s.waitingCircuits.filter (fun k => k = 64 || s.phase k = 0)
  let granted := [g1, g2, g3].filterMap id ++ free
  let s := s.sl (fun t => { t with turn := (g1.getD t1, g2.getD t2, g3.getD t3) })
  let s := granted.foldl (fun s k =>
    let n := if k = 64 then tgetD s.slt.nir 64 16 else tgetD s.slt.nir k 16
    let mine := (s.slt.queue.filter (fun w => w.circuit == k)).take n
    s.sl (fun t => { t with queue := t.queue.filter (fun w => !mine.contains w), admitted := satAdd 32 t.admitted mine.length })) s
  (s.slt.queue.foldl (fun s w => s.setBack w.handle 0) s, granted)

/-- INRUSH_BACKLOG after 100 frames of a non-empty queue, once until it empties (R277). -/
def backlog (s : State) : State :=
  let ks := s.waitingCircuits
  let now := s.frm.now
  let s := s.sl (fun t => { t with
    backlog := ks.foldl (fun b k => if (tget b k).isSome then b else tset b k (now, false)) (tkeep t.backlog (fun k _ => ks.contains k)) })
  s.slt.backlog.foldl (fun s e =>
    if !e.2.2 && s.frm.now ≥ e.2.1 + 100 then
      (s.sl (fun t => { t with backlog := tset t.backlog e.1 (e.2.1, true) })).owner 0x0103
        [tCode e.1, tCount (s.slt.queue.filter (fun w => w.circuit == e.1)).length]
    else s) s

/-- Target factor of a profile at a temperature (R280). -/
def derateTarget (p : DerateProf) (t : Int) : Nat :=
  let rec go (t0 : Int) (d0 : Nat) : List (Int × Nat) → Nat
    | [] => d0
    | (t1, d1) :: r => if t < t1 then ((d0 : Int) + Int.tdiv (((d1 : Int) - d0) * (t - t0)) (t1 - t0)).toNat else go t1 d1 r
  if t ≤ p.t0 then 4096 else go p.t0 4096 p.pts

/-- Move D_c of every channel toward its target by at most 16, unless its temperature is 100 frames old (R280); DERATE_CHANGE. -/
def derateStep (s : State) : State :=
  s.slt.derate.foldl (fun s e =>
    let d := e.2
    let target := match d.temp, tget s.slt.derateProfs d.prof with
      | some (t, f), some p => if s.frm.now ≥ f + 100 then none else if d.prof = 0 then some 4096 else some (derateTarget p t)
      | some (_, f), none => if s.frm.now ≥ f + 100 then none else some 4096
      | none, _ => if d.prof = 0 then some 4096 else none
    match target with
    | none => s
    | some g =>
      let x := if d.d < g then min g (d.d + 16) else max g (d.d - 16)
      let s := s.modDerate e.1 (fun d => { d with d := x })
      if (d.d = 4096) != (x = 4096) && d.last.all (fun f => s.frm.now ≥ f + 100) then
        (s.raiseEp e.1 4 0x0102 (fun l => [tEp [l], tValue g])).modDerate e.1 (fun d => { d with last := some s.frm.now })
      else s) s

/-! ### Settings (R285) -/

/-- Handles of a TLV that lists them from byte 4 on. -/
def handleList (b : Bytes) : List Nat := beNats 4 (b.drop 4)

/-- A DST_TABLE value as its entries. -/
def dstEntries (b : Bytes) : List (Nat × Int) := (chunks 12 b).map (fun e => (u e 0 8, i16 e 8))

/-- Times strictly ascend. -/
def ascending : List Nat → Bool
  | [] => true
  | [_] => true
  | a :: b :: r => decide (a < b) && ascending (b :: r)

/-- A light TLV of SEGMENT_CONFIG other than DST_TABLE. -/
def segLight (id : Nat) (b : Bytes) (s : State) : Except Err State :=
  let x := u b 0 1
  let y := u b 1 1
  match id with
  | 0x0180 => do
    let la := beInt (b.take 4)
    let lo := beInt ((b.drop 4).take 4)
    need (-90000000 ≤ la && la ≤ 90000000 && -180000000 ≤ lo && lo ≤ 180000000) (eRange id)
    return s.sl (fun t => { t with location := some (la, lo) })
  | 0x0181 => do
    need (-720 ≤ beInt b && beInt b ≤ 840) (eRange id)
    return s.sl (fun t => { t with stdOffset := beInt b })
  | 0x0183 => do
    let hs := handleList b
    need ((x ≤ 63 || x = 0xFF) && 1 ≤ hs.length && hs.length ≤ 256) (eRange id)
    match hs.zipIdx.find? (fun e => !s.isLamp e.1) with
    | some e => .error (eRange id e.2)
    | none => return s.sl (fun t => { t with
        circuits := hs.foldl (fun m h => if x = 0xFF then terase m h else tset m h x) t.circuits,
        queue := t.queue.map (fun w => if hs.contains w.handle then { w with circuit := if x = 0xFF then 64 else x } else w) })
  | 0x0184 => do
    need (x ≤ 63 && y ≤ 3) (eRange id)
    return s.sl (fun t => { t with phases := tput 0 t.phases x y })
  | 0x0185 => do
    need (x ≤ 64 && 1 ≤ y) (eRange id)
    return s.sl (fun t => { t with nir := tput 16 t.nir x y })
  | 0x0186 => do
    let hs := handleList b
    need (u b 0 2 ≤ 64000 && 1 ≤ hs.length && hs.length ≤ 256) (eRange id)
    match hs.zipIdx.find? (fun e => !s.isLamp e.1) with
    | some e => .error (eRange id e.2)
    | none => return s.sl (fun t => { t with ceilings := hs.foldl (fun m h => tput 64000 m h (u b 0 2)) t.ceilings })
  | _ => .error (eRange id)

/-- The DST_TABLE TLVs of one command form the new table (R285). -/
def segDst (bs : List Bytes) (s : State) : Except Err State := do
  let es := bs.flatMap dstEntries
  need (1 ≤ es.length && es.length ≤ 32 && ascending (es.map (·.1)) && es.all (fun e => 0 ≤ e.2 && e.2 ≤ 120)) (eRange 0x0182)
  return s.sl (fun t => { t with dst := es })

/-- LIGHT_LEVEL. -/
def execLightLevel (src : Src) (tlvs : List Tlv) (s : State) : Outcome := execOp opLightLevel src tlvs s
/-- LIGHT_FADE. -/
def execLightFade (src : Src) (tlvs : List Tlv) (s : State) : Outcome := execOp opLightFade src tlvs s
/-- LIGHT_LEASE. -/
def execLightLease (src : Src) (tlvs : List Tlv) (s : State) : Outcome := execOp opLightLease src tlvs s
/-- LIGHT_READ. -/
def execLightRead (src : Src) (tlvs : List Tlv) (s : State) : Outcome := execOp opLightRead src tlvs s
/-- LIGHT_EMERGENCY. -/
def execLightEmergency (src : Src) (tlvs : List Tlv) (s : State) : Outcome := execOp opLightEmergency src tlvs s
/-- LIGHT_LEVEL_X. -/
def execLightLevelX (src : Src) (tlvs : List Tlv) (s : State) : Outcome := execOp opLightLevelX src tlvs s
/-- STEP_TABLE. -/
def execStepTable (src : Src) (tlvs : List Tlv) (s : State) : Outcome := execOp opStepTable src tlvs s
/-- FACTOR_SET. -/
def execFactorSet (src : Src) (tlvs : List Tlv) (s : State) : Outcome := execOp opFactorSet src tlvs s
/-- SLATE_WINDOW. -/
def execSlateWindow (src : Src) (tlvs : List Tlv) (s : State) : Outcome := execOp opSlateWindow src tlvs s
/-- SCHEDULE_WRITE. -/
def execScheduleWrite (src : Src) (tlvs : List Tlv) (s : State) : Outcome := execOp opScheduleWrite src tlvs s
/-- SCHEDULE_WRITE_X. -/
def execScheduleWriteX (src : Src) (tlvs : List Tlv) (s : State) : Outcome := execOp opScheduleWriteX src tlvs s
/-- SCHEDULE_READ. -/
def execScheduleRead (src : Src) (tlvs : List Tlv) (s : State) : Outcome := execOp opScheduleRead src tlvs s
/-- SOLAR_READ. -/
def execSolarRead (src : Src) (tlvs : List Tlv) (s : State) : Outcome := execOp opSolarRead src tlvs s

end Sys2Proof.Machine
end

