-- ==== Sys2Proof/Machine/Quarry.lean ====
section
/-!
DEFINITION. Machine/Quarry.lean: tenant VLANs, the shared buffer, egress scheduling and the traffic opcodes (R409 to R430, R442, R443).
-/
namespace Sys2Proof.Machine

/-- Change Quarry. -/
def State.qr (s : State) (f : Quarry → Quarry) : State := { s with qry := f s.qry }

/-! ### Ports, rates, allowances (R409, R413, R420) -/

/-- A port code is a string. -/
def isString (p : Nat) : Bool := p < 0x100

/-- Largest frame of a port, tags included (R409). -/
def State.portMax (s : State) (p : Nat) : Nat := if isString p && s.stringRate (s.stringOf p) = 2 then 1522 else 9216

/-- Rate of a port in Mbit/s (R409). -/
def State.portRate (s : State) (p : Nat) : Nat := if isString p then (if s.stringRate (s.stringOf p) = 2 then 10000 else 25000) else 100000

/-- Committed rate of a vCtl in force, in Mbit/s: a lower one waits for the beat 0 after its commit (R171, R172). -/
def State.rateOf (s : State) (v : Nat) : Nat := ((s.vctl? v).map (·.rateNow)).getD 0

/-- Committed rate granted to a vCtl, by which attachments and grants are admitted (R171, R428; DESIGN CHOICE, log 28: R172 does not say whether a rate
that is lowered but still in force counts against them). -/
def State.rateGranted (s : State) (v : Nat) : Nat := ((s.vctl? v).map (·.q.rate)).getD 0

/-- The vCtl borrows (R171). -/
def State.borrows (s : State) (v : Nat) : Bool := ((s.vctl? v).map (fun c => c.q.borrow == 1)).getD false

/-- Key of a domain. -/
def domKey (v vid : Nat) : Nat := 4096 * v + vid

/-- Member ports of a domain: its uplinks and the strings of its endpoints; a looped string is one port (R420, R425). -/
def State.domPorts (s : State) (d : Domain) : List Nat :=
  sortNat (d.eps.map (fun h => s.stringOf (hString h)) ++ d.uplinks.map (· + 0x100))

/-- Domains of a vCtl. -/
def State.domsOf (s : State) (v : Nat) : List Domain := (s.qry.doms.filter (fun e => e.1 / 4096 == v)).map (·.2)

/-- Ports to which a vCtl has an attachment (R428). -/
def State.attached (s : State) (v : Nat) : List Nat := sortNat ((s.domsOf v).flatMap s.domPorts)

/-- A port's queues. -/
def State.qport (s : State) (p : Nat) : QPort := tgetD s.qry.ports p {}

/-- The allowance A in cells (R420). -/
def State.allowance (s : State) (v p : Nat) : Nat := max (cdiv (s.portMax p) 256) (cdiv (5 * s.rateOf v) 256)

/-- Attachments that hold an allowance: of a domain, or with a queue that has not drained (R420). -/
def State.reservedPorts (s : State) (v : Nat) : List Nat :=
  sortNat (s.attached v ++ (s.qry.ports.filter (fun e => e.2.q.any (fun c => c.vctl == v))).map (·.1))

/-- Cells of the tenant pool reserved as allowances, QRY_POOL.TEN_RES (R420). -/
def State.tenRes (s : State) : Nat :=
  (s.ten.vctls.map (fun e => ((s.reservedPorts e.1).map (fun p => s.allowance e.1 p)).foldl (· + ·) 0)).foldl (· + ·) 0

/-- Cells of the tenant pool (R420). -/
def tenantPool : Nat := 229376

/-- Cells of the borrowing reserve in use (R420, R421). -/
def State.borrowed (s : State) : Nat :=
  (s.qry.ports.map (fun e => ((e.2.q.filter (·.borrowed)).map (·.cells)).foldl (· + ·) 0)).foldl (· + ·) 0

/-- Allocated cells of the buffer (R418). -/
def State.allocCells (s : State) : Nat := (s.qry.store.map (fun e => e.2.cells)).foldl (· + ·) 0

/-- Queue settings of a vCtl. -/
def State.tcfg (s : State) (v : Nat) : TrafficCfg := tgetD s.qry.cfg v {}

/-- Change a domain. -/
def State.modDom (s : State) (k : Nat) (f : Domain → Domain) : State := s.qr (fun q => { q with doms := tmod q.doms k f })

/-! ### Drops (R421, R442) -/

/-- Due at most once per 100 frames. -/
def due100 (last : Option Nat) (now : Nat) : Bool :=
  match last with
  | none => true
  | some f => f + 100 ≤ now

/-- A tenant frame or copy is dropped: counted and reported to its vCtl (R421, R442). -/
def tenantDrop (k : Nat) (s : State) : State :=
  let s := (s.count aQryDropMod 16 16).setFlag aQryStat 9
  let s := s.modDom k (fun d => { d with drops := d.drops + 1 })
  match tget s.qry.doms k with
  | none => s
  | some d =>
    if due100 d.dropEv s.frm.now then
      (s.modDom k (fun d => { d with drops := 0, dropEv := some s.frm.now })).raise (k / 4096) 0x0901 [tValue (k % 4096), tCount d.drops]
    else s

/-- Drops that no TRAFFIC_DROP or MODULE_DROP has told yet are told once 100 frames have passed since the last one (R442). -/
def dropEvents (s : State) : State :=
  let s := s.qry.doms.foldl (fun s e =>
    if e.2.drops > 0 && due100 e.2.dropEv s.frm.now then
      (s.modDom e.1 (fun d => { d with drops := 0, dropEv := some s.frm.now })).raise (e.1 / 4096) 0x0901 [tValue (e.1 % 4096), tCount e.2.drops]
    else s) s
  s.qry.modDrop.foldl (fun s e =>
    if e.2.1 > 0 && e.2.2 + 100 ≤ s.frm.now then
      (s.qr (fun q => { q with modDrop := tset q.modDrop e.1 (0, s.frm.now) })).owner 0x0903 [tPort e.1, tCount e.2.1]
    else s) s

/-- A module-class frame finds the module reserve full (R421, R442). -/
def moduleDrop (p : Nat) (s : State) : State :=
  let s := (s.count aQryDropMod 0 16).setFlag aQryStat 8
  let (n, ev) : Nat × Option Nat := match tget s.qry.modDrop p with
    | some (n, f) => (n + 1, some f)
    | none => (1, none)
  if due100 ev s.frm.now then (s.qr (fun q => { q with modDrop := tset q.modDrop p (0, s.frm.now) })).owner 0x0903 [tPort p, tCount n]
  else s.qr (fun q => { q with modDrop := tset q.modDrop p (n, ev.getD 0) })

/-- A frame of R423 without a domain. -/
def unknownTag (s : State) : State := (s.count aQryDrop 0 16).setFlag aQryStat 10

/-! ### Egress queues (R413, R416, R421, R430) -/

/-- BE_HALF: step 3 of the throttle ladder is engaged (R416, R558). -/
def State.beHalf (s : State) : Bool := s.thm.step ≥ 3

/-- Rate cap of a tenant class in Mbit/s (R416, R430). -/
def State.classCap (s : State) (v cls : Nat) : Option Nat :=
  let half := if s.beHalf && cls = 0 then some (max 1 (s.rateOf v / 2)) else none
  match tget (s.tcfg v).peak cls, half with
  | some a, some b => some (min a b)
  | some a, none => some a
  | none, b => b

/-- Time in ps of `len` bytes at `r` Mbit/s; 0 for a rate of 0. -/
def bytePs (len r : Nat) : Nat := 8 * len * 1000000 / r

/-- The head frame of a vCtl on a port: the first of its highest non-empty class (R413). -/
def headOf (q : List QCopy) (v : Nat) : Option QCopy :=
  [4, 3, 2, 1, 0].findSome? (fun k => q.find? (fun c => c.vctl == v && c.cls == k))

/-- The tags of the heads of a port at time `t` in ns: a frame that reaches the head receives F = max(t, F_prev) + 8L / r (R413). -/
def retag (p t : Nat) (s : State) : State :=
  let qp := s.qport p
  let vs := sortNat (qp.q.map (·.vctl))
  let vc := vs.foldl (fun vc v => match headOf qp.q v with
    | none => vc
    | some c =>
      let k := tgetD vc v {}
      if (k.head.map (·.1)) = some c.id then vc
      else
        let dur := bytePs c.len (s.rateOf v)
        let cap := match s.classCap v c.cls with
          | some r => max (t * 1000) (tgetD k.cls c.cls 0) + bytePs c.len r
          | none => 0
        tset vc v { k with head := some (c.id, max (t * 1000) k.prev + dur, dur), capTag := cap }) qp.vc
  s.qr (fun q => { q with ports := tset q.ports p { qp with vc := vc } })

/-- Cells a vCtl has queued on a port, of one class or of all. -/
def queuedCells (q : List QCopy) (v : Nat) (cls : Option Nat) : Nat :=
  ((q.filter (fun c => c.vctl == v && (cls.isNone || cls == some c.cls))).map (·.cells)).foldl (· + ·) 0

/-- Room for a copy on a port: within A and the class limit, or, for a borrowing vCtl, in the borrowing reserve (R421, R430). -/
def State.room (s : State) (v p cls cells : Nat) : Option Bool :=
  let q := (s.qport p).q
  let a := s.allowance v p
  let lim := a * tgetD (s.tcfg v).limit cls 100 / 100
  if queuedCells q v none + cells ≤ a && queuedCells q v (some cls) + cells ≤ lim then some false
  else if s.borrows v && s.tenRes + s.borrowed + cells ≤ tenantPool then some true
  else none

/-- Store a frame once, with a copy on each port that admits it (R421, R422, R425). -/
def storeFrame (v k inPort t : Nat) (f : EthFrame) (ports : List Nat) (s : State) : State :=
  let cells := cdiv f.len 256
  let cls := (s.tcfg v).pcp.getD f.pcp 0
  let id := s.qry.nextId
  let (s, n) := ports.foldl (fun (acc : State × Nat) p =>
    let (s, n) := acc
    if f.len > s.portMax p then ((s.count aQryDrop 16 16).setFlag aQryStat 11, n)
    else match s.room v p cls cells with
      | none => (tenantDrop k s, n)
      | some b =>
        let qp := s.qport p
        (retag p t (s.qr (fun q => { q with ports := tset q.ports p { qp with q := qp.q ++ [⟨id, v, cls, f.len, cells, b⟩] } })), n + 1)) (s, 0)
  if n = 0 then s
  else s.qr (fun q => { q with nextId := id + 1, store := tset q.store id ⟨f, v, cells, n, t, inPort⟩ })

/-! ### Stamps (R88, R90) -/

/-- A PTP event message. -/
def isPtpEvent : EthKind → Bool
  | .ptpEvent _ _ _ _ => true
  | _ => false

/-- A raw stamp for the TIME_RAW_READ of a vCtl that holds TIME_RAW: the newest 64 of a port are kept (R90; DESIGN CHOICE, log 10). -/
def rawStamp (v p : Nat) (egress : Bool) (t : Nat) (s : State) : State :=
  if !s.hasMod v 5 then s
  else
    let mine (e : Nat × Nat × Bool × Nat) : Bool := e.1 == v && e.2.1 == p
    let old := s.lds.stamps.filter mine
    s.lds' (fun l => { l with stamps := l.stamps.filter (fun e => !mine e) ++ old.drop (old.length - 63) ++ [(v, p, egress, t % 2 ^ 32)] })

/-- The egress stamp of a frame that is marked for stamping: a PTP event message, or one that its vCtl marked (R88). -/
def egressStamp (v p t : Nat) (k : EthKind) (s : State) : State :=
  let marked := s.lds.marks.any (fun e => e.1 == v && e.2.1 == p)
  if !marked && !isPtpEvent k then s
  else rawStamp v p true t (s.lds' (fun l => { l with
      stampEg := tset l.stampEg p (t % 2 ^ 32),
      marks := (l.marks.map (fun e => if e.1 == v && e.2.1 == p then (e.1, e.2.1, e.2.2 - 1) else e)).filter (fun e => e.2.2 > 0) }))

/-- The ingress stamp that a MAC gives every received frame, which goes to a vCtl's TIME_RAW_READ for its PTP event messages (R88, R90; DESIGN CHOICE, log
10: the spec does not say which frames' ingress stamps a tenant receives). -/
def ingressStamp (v p t : Nat) (k : EthKind) (s : State) : State := if isPtpEvent k then rawStamp v p false t s else s

/-! ### Frames received (R423 to R426) -/

/-- The vCtl of a service tag on an uplink (R423, R427). -/
def State.svidOwner (s : State) (u sv : Nat) : Option Nat :=
  (s.qry.tup.find? (fun e => bit e.2.1 u && e.2.2 == sv)).map (·.1)

/-- What becomes of a received frame. -/
inductive Ingress where
  /-- it enters a domain -/
  | dom (k : Nat)
  /-- it goes to the control plane -/
  | control
  /-- it goes to the control plane, which discards and counts it (R129) -/
  | fragment
  /-- it is discarded under R423 -/
  | unknown
deriving DecidableEq, Repr

/-- The domain of a frame on an uplink (R423). -/
def State.uplinkIn (s : State) (u : Nat) (f : EthFrame) : Ingress :=
  let dom (v : Nat) : Ingress := match f.cvid with
    | some vid => match tget s.qry.doms (domKey v vid) with
      | some d => if d.uplinks.contains u then .dom (domKey v vid) else .unknown
      | none => .unknown
    | none => .unknown
  match f.svid with
  | some sv => match s.svidOwner u sv with
    | some v => dom v
    | none => .unknown
  | none =>
    let mg := fieldOf (s.reg (aQryUplCfg u)) 0 12
    if (if mg = 0 then f.cvid.isNone else f.cvid == some mg) then (match f.kind with
      | .control => .control
      | .ptpEvent _ _ _ _ => .control
      | .followUp _ _ _ => .control
      | .fragment => .fragment
      | _ => .unknown)
    else dom 0

/-- The domain of a frame on a string (R424): S-VID v − 1, none for the owner. -/
def State.stringIn (s : State) (g : Nat) (f : EthFrame) : Ingress :=
  let v := match f.svid with
    | some x => x + 1
    | none => 0
  match f.cvid with
  | some vid => match tget s.qry.doms (domKey v vid) with
    | some d => if d.eps.any (fun h => hString h == g) then .dom (domKey v vid) else .unknown
    | none => .unknown
  | none => .unknown

/-- A multicast or broadcast address. -/
def isGroup (mac : Nat) : Bool := bit mac 40

/-- The address entries that are not forgotten: a frame from the address came within 30,000 frames (R425). -/
def Domain.live (d : Domain) (now : Nat) : Tbl Mac := tkeep d.macs (fun _ m => now < m.last + 30000)

/-- Learning (R425): 64 entries per domain; LEARN_FULL at most once per 6,000 frames. -/
def learn (k mac port : Nat) (s : State) : State :=
  match tget s.qry.doms k with
  | none => s
  | some d =>
    if isGroup mac then s
    else if (tget (d.live s.frm.now) mac).isSome || (d.live s.frm.now).length < 64 then
      s.modDom k (fun d => { d with macs := tset (d.live s.frm.now) mac ⟨port, s.frm.now⟩ })
    else
      let s := s.setFlag aQryStat 12
      let due := match d.fullEv with
        | some f => decide (f + 6000 ≤ s.frm.now)
        | none => true
      if due then
        (s.modDom k (fun d => { d with fullEv := some s.frm.now })).raise (k / 4096) 0x0902 [tValue (k % 4096)]
      else s

/-- The egress ports of a frame of a domain (R425). -/
def State.outPorts (s : State) (d : Domain) (inPort : Nat) (f : EthFrame) : List Nat :=
  match (if isGroup f.dst then none else tget (d.live s.frm.now) f.dst) with
  | some m => if m.port = inPort && !isString inPort then [] else [m.port]
  | none => (s.domPorts d).filter (fun p => isString p || p != inPort)

/-- A frame on an uplink or a string: `t` its ingress time in ns, `round` it came round a closed loop, `full` the module reserve is full (log 26). -/
def tenantFrame (port : Nat) (f : EthFrame) (t : Nat) (round full : Bool) (s : State) : State :=
  let s := s.lds' (fun l => { l with stampIn := tset l.stampIn port (t % 2 ^ 32) })
  if isString port && round then s.count (aGrnDrop port) 20 4
  else
    let p := if isString port then s.stringOf port else port
    let i := if isString port then s.stringIn p f else s.uplinkIn (port - 0x100) f
    match i with
    | .unknown => if f.kind = .msl then s else unknownTag s
    | .control => if full then moduleDrop port s else s
    | .fragment => if full then moduleDrop port s else dropFragment s
    | .dom k => match tget s.qry.doms k with
      | none => s
      | some d =>
        if f.kind = .msl then
          (if isString port then s else ((s.outPorts d p f).filter isString).foldl (fun s g => s.count (aGrnDrop g) 24 8) s)
        else
          let s := learn k f.src p s
          match tget s.qry.doms k with
          | none => s
          | some d => storeFrame (k / 4096) k p t f (s.outPorts d p f) (ingressStamp (k / 4096) port t f.kind s)

/-- A port carries frames: link, and a powered main domain out of MAINTENANCE (R525). -/
def State.portUp (s : State) (p : Nat) : Bool :=
  s.pw.main && !s.inMaint && s.codeFitted p
    && (if isString p then (s.grain p).rate != 0 else (tgetD s.qry.upl (p - 0x100) {}).link)

/-- A port serves its queues: as it carries frames, a string while either port of it has link (R26, R203). -/
def State.portServes (s : State) (p : Nat) : Bool :=
  if isString p then s.pw.main && !s.inMaint && s.stringOf p == p && s.stringLink p else s.portUp p

/-- TENANT_FRAME. -/
def execTenantFrame (port : Nat) (f : EthFrame) (t : Nat) (round full : Bool) (s : State) : Outcome :=
  done s (fun s => guardS (port < 0x110 && s.portUp port) (tenantFrame port f t round full) s)

/-! ### Egress (R413, R419, R424) -/

/-- Pole nodes of a string whose slot tables hold the pair of a frame (R424). -/
def State.pairPoles (s : State) (v : Nat) (f : EthFrame) (g : Nat) : List Nat :=
  match f.cvid with
  | some vid => match tget s.qry.doms (domKey v vid) with
    | some d => (sortNat ((d.eps.filter (fun h => hString h == g)).map hPos)).filter (fun p => ((s.pole? g p).map (·.adopted)).getD false)
    | none => []
  | none => []

/-- The ports by which a tenant frame leaves: on a string those of the routes to the pole nodes that take it, or the one that serves the string as a
whole where none does (R203, R205). -/
def State.framePorts (s : State) (v p : Nat) (f : EthFrame) : List Nat :=
  if isString p then
    match sortNat ((s.pairPoles v f p).map (fun q => (s.route p q).1)) with
    | [] => [s.leadPort p]
    | l => l
  else [p]

/-- Class 3 credits of a tenant frame (R215). -/
def tenantCost (len : Nat) : Nat := min 32 (cdiv len 256)

/-- The head frame of a vCtl may leave at `now` ps: its class cap allows it, and a string has the credits (R215, R424, R430). -/
def State.mayLeave (s : State) (p now v : Nat) (k : VClock) : Bool :=
  match k.head with
  | none => false
  | some (id, _, _) => match tget s.qry.store id with
    | none => false
    | some f => k.capTag ≤ now && s.rateOf v > 0
        && (!isString p || (s.pairPoles v f.frame p).all (fun q => (((s.pole? p q).map (fun x => x.credits.getD 3 0)).getD 0) ≥ tenantCost f.frame.len))

/-- Choose a vCtl: the lowest tag of those whose virtual start has come, then of those that borrow; ties to the lower number (R182, R413, log 26). -/
def State.choose (s : State) (p now : Nat) : Option (Nat × VClock) :=
  let qp := s.qport p
  let ready := qp.vc.filter (fun e => s.mayLeave p now e.1 e.2)
  let tag (e : Nat × VClock) : Nat := ((e.2.head.map (·.2.1)).getD 0)
  let start (e : Nat × VClock) : Nat := tag e - ((e.2.head.map (·.2.2)).getD 0)
  let best (l : List (Nat × VClock)) : Option (Nat × VClock) :=
    l.foldl (fun b e => match b with
      | none => some e
      | some x => if tag e < tag x then some e else some x) none
  match best (ready.filter (fun e => start e ≤ now)) with
  | some e => some e
  | none => best (ready.filter (fun e => s.borrows e.1 && e.2.idle ≤ now))

/-- Residence time in tenths of a ns, from the corrected ingress stamp to the corrected egress stamp (R89, R92). -/
def State.residence (s : State) (f : Stored) (p t : Nat) : Nat :=
  10 * (t - f.stamp) + (portConst (s.portMode f.port)).1 + (portConst (s.portMode p)).2

/-- Sum of the 16-bit words of a field, in one's complement. -/
def onesSum : Bytes → Nat
  | a :: b :: r => (256 * a.toNat + b.toNat + onesSum r) % 65535
  | [a] => 256 * a.toNat % 65535
  | [] => 0

/-- A correctionField of `c` raised by `d` tenths of a ns, and the trailer of UDP over IPv6 rewritten so that the checksum stays valid (R92); the sum
is rounded down to 2^-16 ns, and a trailer of 0 in one's complement is written as 0 (DESIGN CHOICE, log 26). -/
def corrField (c : Int) (d : Nat) (trailer : Option Nat) : Bytes :=
  let old := beIntBytes 8 c
  let new := beIntBytes 8 (c + (d * 65536 / 10 : Nat))
  new ++ match trailer with
    | some x => beBytes 2 ((x + onesSum old + (65535 - onesSum new)) % 65535)
    | none => []

/-- The correctionField of a PTP frame that leaves, and what the port remembers for its Follow_Up: the module is a transparent clock on strings and
between a string and an uplink (R92). -/
def State.transparent (s : State) (f : Stored) (p t : Nat) (qp : QPort) : Bytes × QPort :=
  let key (n : Nat) : Nat := f.frame.src * 2 ^ 16 + n % 2 ^ 16
  let d := if isString p || isString f.port then s.residence f p t else 0
  match f.frame.kind with
  | .ptpEvent _ true c x => (corrField c d x, qp)
  | .ptpEvent n false c x => (corrField c 0 x, { qp with resid := tset qp.resid (key n) d })
  | .followUp n c x => (corrField c (tgetD qp.resid (key n) 0) x, { qp with resid := terase qp.resid (key n) })
  | _ => ([], qp)

/-- Send the head frame of a vCtl from a port at `t` ns. -/
def serve (p t v : Nat) (k : VClock) (s : State) : State :=
  match k.head with
  | none => s
  | some (id, tag, dur) => match tget s.qry.store id with
    | none => s
    | some f =>
      let qp := s.qport p
      let cls := ((qp.q.find? (fun c => c.id == id && c.vctl == v)).map (·.cls)).getD 0
      let (corr, qp) := s.transparent f p t qp
      let poles := if isString p then s.pairPoles v f.frame p else []
      let svid := if isString p then (if v = 0 then 0 else v) else (if v = 0 then 0 else ((tget s.qry.tup v).map (fun e => e.2 + 1)).getD 0)
      let now := t * 1000
      let k' : VClock := { k with prev := tag, head := none, cls := if k.capTag = 0 then k.cls else tset k.cls cls k.capTag, capTag := 0,
                                  idle := if tag - dur > now && s.beHalf then now + 2 * bytePs f.frame.len (s.portRate p) else k.idle }
      let s := s.qr (fun q => { q with
        ports := tset q.ports p { qp with q := qp.q.filter (fun c => !(c.id == id && c.vctl == v)), vc := tset qp.vc v k' },
        store := if f.refs ≤ 1 then terase q.store id else tset q.store id { f with refs := f.refs - 1 } })
      let s := poles.foldl (fun s x => s.modPole p x (fun q => { q with credits := q.credits.set 3 (q.credits.getD 3 0 - tenantCost f.frame.len) })) s
      let s := (s.framePorts v p f.frame).foldl (fun s x => (egressStamp v x t f.frame.kind s).send .ethTx x
        [svid, f.frame.cvid.getD 0, f.frame.pcp, f.frame.dst, f.frame.src, f.frame.len] corr) s
      retag p t s

/-- Tenant frames that wait for class 3 credits: R217 counts for the pole nodes that have none. -/
def stallFrames (p : Nat) (s : State) : State :=
  (s.qport p).vc.foldl (fun s e => match e.2.head.bind (fun h => tget s.qry.store h.1) with
    | some f => (s.pairPoles e.1 f.frame p).foldl (fun s q => noteStall p q 3 s) s
    | none => s) s

/-- Bank reads (R419): the pointer moves past the reader served, and the longest wait is kept. -/
def bankReads (reader : Nat) (banks : List (Nat × Nat)) (s : State) : State :=
  s.qr (fun q => { q with
    bankPtr := banks.foldl (fun t b => tset t (b.1 % 16) ((reader + 1) % 275)) q.bankPtr,
    bankWait := banks.foldl (fun t b => tset t (b.1 % 16) (max (tgetD t (b.1 % 16) 0) (min b.2 274))) q.bankWait })

/-- Reader index of a port (R419). -/
def readerOf (p : Nat) : Nat := if isString p then p else 256 + (p - 0x100)

/-- The TC5 frame of an uplink that leaves next: of the heads the one with the lowest tag, of equal ones the lower vCtl's (R413, R415). -/
def nextCtl (q : List CtlFrame) : Option (CtlFrame × Nat) :=
  let heads := (sortNat (q.map (·.vctl))).filterMap (fun v => (q.find? (fun f => f.vctl == v)).bind (fun f => f.tag.map (fun t => (f, t))))
  heads.foldl (fun b e => match b with
    | none => some e
    | some x => if e.2 < x.2 then some e else some x) none

/-- A TC5 frame leaves an uplink at `t` ns. -/
def serveCtl (p t : Nat) (f : CtlFrame) (tag : Nat) (s : State) : State :=
  let qp := s.qport p
  let rest := qp.ctl.takeWhile (fun x => x.vctl != f.vctl) ++ (qp.ctl.dropWhile (fun x => x.vctl != f.vctl)).drop 1
  (s.qr (fun q => { q with ports := tset q.ports p (tagCtl s f.vctl (t * 1000) { qp with ctl := rest }) })).send .ctlTx p [f.vctl, tag] f.data

/-- The next frame of a port: module classes in strict priority before every tenant class (R413). -/
def egress (p t : Nat) (banks : List (Nat × Nat)) (s : State) : State :=
  match nextCtl (s.qport p).ctl with
  | some (f, tag) => bankReads (readerOf p) banks (serveCtl p t f tag s)
  | none => match s.choose p (t * 1000) with
    | some (v, k) => bankReads (readerOf p) banks (serve p t v k s)
    | none => if isString p then stallFrames p s else s

/-- EGRESS_SERVE at `t` ns; `banks` the banks read, each with the clocks the reader waited (log 26). -/
def execEgressServe (port t : Nat) (banks : List (Nat × Nat)) (s : State) : Outcome :=
  done s (fun s => guardS (port < 0x112 && s.portServes port) (egress port t banks) s)

/-- MAC_AGE_OUT: 30,000 frames without a frame from the address (R425). -/
def execMacAgeOut (v vid mac : Nat) (s : State) : Outcome :=
  done s (fun s => match (tget s.qry.doms (domKey v vid)).bind (fun d => tget d.macs mac) with
    | some m => guardS (m.last + 30000 ≤ s.frm.now) (fun s => s.modDom (domKey v vid) (fun d => { d with macs := terase d.macs mac })) s
    | none => s)

/-- UPLINK_LINK (R47, R89, R443): at link-up the FEC setting takes force. -/
def execUplinkLink (u : Nat) (up : Bool) (s : State) : Outcome :=
  done s (fun s => guardS (u < 16 && s.pw.main && s.uplinkFitted u && !(up && s.thm.idled.contains (0x100 + u))) (fun s =>
    s.qr (fun q => { q with upl := tupd q.upl u {} (fun x => { link := up, fec := if up && !x.link then bit (s.reg (aQryUplCfg u)) 12 else x.fec }) })) s)

/-! ### Membership (R424, R427 to R429) -/

/-- S-VID by which a string carries a vCtl's frames; 0 for the owner (R424). -/
def stringSvid (v : Nat) : Nat := v - 1

/-- Program the VLAN tables of slots (R424). -/
def programSlots (hs : List Nat) (s : State) : State :=
  hs.foldl (fun s h => s.send .vlanTable h ((s.qry.doms.filter (fun e => e.2.eps.contains h)).flatMap (fun e => [stringSvid (e.1 / 4096), e.1 % 4096]))) s

/-- Remove members of a domain; without members it ends with its address entries (R429). -/
def dropMembers (k : Nat) (eps uplinks : List Nat) (s : State) : State :=
  match tget s.qry.doms k with
  | none => s
  | some d =>
    let gone := d.eps.filter eps.contains
    let d' := { d with eps := d.eps.filter (fun h => !eps.contains h), uplinks := d.uplinks.filter (fun x => !uplinks.contains x) }
    let ports := s.domPorts d'
    let d' := { d' with macs := tkeep d'.macs (fun _ m => ports.contains m.port) }
    programSlots gone (s.qr (fun q => { q with doms := if d'.eps.isEmpty && d'.uplinks.isEmpty then terase q.doms k else tset q.doms k d' }))

/-- Detach endpoints of a vCtl from all its domains (R429). -/
def detachEps (v : Nat) (hs : List Nat) (s : State) : State :=
  (s.qry.doms.filter (fun e => e.1 / 4096 == v)).foldl (fun s e => dropMembers e.1 hs [] s) s

/-- Detach every domain of a vCtl (R163, R429). -/
def detachAll (v : Nat) (s : State) : State :=
  (s.qry.doms.filter (fun e => e.1 / 4096 == v)).foldl (fun s e => dropMembers e.1 e.2.eps e.2.uplinks s) s

/-- Detach a handle from every domain (R208, R429). -/
def detachHandle (h : Nat) (s : State) : State := s.qry.doms.foldl (fun s e => dropMembers e.1 [h] [] s) s

/-- Uplinks of UPLINK_MASK. -/
def Cmd.uplinks (c : Cmd) : List Nat := (List.range 16).filter (fun u => bit (c.nat 0x01F1) u)

/-- Uplinks on which a vCtl may appear (R423, R427). -/
def State.uplinkMask (s : State) (v : Nat) : Nat := if v = 0 then 0xFFFF else ((tget s.qry.tup v).map (·.1)).getD 0

/-- The slot's profile has a tenant port (R428). -/
def State.hasTenantPort (s : State) (h : Nat) : Bool :=
  hRealm h == 0 && match s.pole? (hString h) (hPos h) with
    | some q => Config.tenantPort (profileOf q (hSlot h))
    | none => false

/-- Committed rates attached to a port (R171, R443). -/
def State.committed (s : State) (p : Nat) : Nat :=
  (((s.ten.vctls.map (·.1)).filter (fun v => (s.attached v).contains p)).map s.rateGranted).foldl (· + ·) 0

/-- The conditions of VLAN_ATTACH, in the order of R428. -/
def attachCheck (c : Cmd) (s : State) : Except Err Unit := do
  let v := c.vctl
  let k := domKey v (c.nat 0x01F0)
  let d := tgetD s.qry.doms k {}
  let d' : Domain := { d with eps := d.eps ++ c.eps, uplinks := d.uplinks ++ c.uplinks }
  match c.eps.zipIdx.find? (fun e => !s.hasTenantPort e.1) with
  | some e => .error (eRange 0x0001 e.2)
  | none => .ok ()
  need (c.uplinks.all (fun u => bit (s.uplinkMask v) u)) (eRange 0x01F1)
  need (c.eps.all (fun h => s.hasEp v h 0)) (eStat stRightMissing)
  need (s.rateGranted v > 0) (eStat stQuotaExceeded)
  need ((tget s.qry.doms k).isSome || (s.domsOf v).length < ((s.vctl? v).map (·.q.vlans)).getD 0) (eStat stQuotaExceeded)
  let new := (s.domPorts d').filter (fun p => !(s.attached v).contains p)
  need (new.all (fun p => (s.committed p + s.rateGranted v) * 10 ≤ 9 * s.portRate p)) (eStat stQuotaExceeded)
  need (s.tenRes + ((new.filter (fun p => !(s.reservedPorts v).contains p)).map (s.allowance v)).foldl (· + ·) 0 ≤ tenantPool) (eStat stQuotaExceeded)
  need (c.uplinks.all (fun u => s.codeFitted (0x100 + u))) (eConfig 0x01F1)
  need (v != 0 || c.uplinks.all (fun u => fieldOf (s.reg (aQryUplCfg u)) 0 12 != c.nat 0x01F0)) (eConfig 0x01F0)

/-- VID. -/
def tVid : TSpec := (tFix 0x01F0 2 1 4094).must
/-- UPLINK_MASK. -/
def tUplinkMask : TSpec := tFix 0x01F1 2 0 0xFFFF

/-- VLAN_ATTACH (R428). -/
def opVlanAttach : OpInfo :=
  { op := 0x0901, need := .mod 4, cost := fun _ => 2, specs := [tVid, cEp, tUplinkMask],
    form := fun c => orMissing (c.has 0x0001 || c.has 0x01F1) 0x0001,
    accept := attachCheck,
    commit := fun c s => match attachCheck c s with
      | .error e => (s, c.err e)
      | .ok _ =>
        let k := domKey c.vctl (c.nat 0x01F0)
        let d := tgetD s.qry.doms k {}
        let d' : Domain := { d with eps := sortNat (d.eps ++ c.eps), uplinks := sortNat (d.uplinks ++ c.uplinks) }
        (programSlots c.eps (s.qr (fun q => { q with doms := tset q.doms k d' })), c.ok) }

/-- The domain exists; otherwise VID is out of range (log 26). -/
def domThere (c : Cmd) (s : State) : Except Err Unit := need (tget s.qry.doms (domKey c.vctl (c.nat 0x01F0))).isSome (eRange 0x01F0)

/-- VLAN_DETACH (R429). -/
def opVlanDetach : OpInfo :=
  { op := 0x0902, need := .mod 4, specs := [tVid, cEp, tUplinkMask],
    ranges := domThere,
    commit := fun c s =>
      let k := domKey c.vctl (c.nat 0x01F0)
      let d := tgetD s.qry.doms k {}
      (if c.has 0x0001 || c.has 0x01F1 then dropMembers k c.eps c.uplinks s else dropMembers k d.eps d.uplinks s, c.ok) }

/-- Change the queue settings of a vCtl. -/
def State.modTcfg (s : State) (v : Nat) (f : TrafficCfg → TrafficCfg) : State := s.qr (fun q => { q with cfg := tupd q.cfg v {} f })

/-- QUEUE_SET (R426, R430). -/
def opQueueSet : OpInfo :=
  { op := 0x1904, need := .mod 4, cost := fun _ => 2, specs := [tVid, tByt 0x01F5 8 8, (tByt 0x01F6 8 8).many],
    ranges := fun c s => do
      domThere c s
      need (((c.tlv? 0x01F5).getD []).all (fun b => b.toNat ≤ 4)) (eRange 0x01F5)
      need ((c.all 0x01F6).all (fun b => u b 0 1 ≤ 4 && 1 ≤ u b 4 4 && u b 4 4 ≤ 100)) (eRange 0x01F6),
    commit := fun c s => (s.modTcfg c.vctl (fun t => { t with
      pcp := match c.tlv? 0x01F5 with | some b => b.map (·.toNat) | none => t.pcp,
      limit := (c.all 0x01F6).foldl (fun l b => tset l (u b 0 1) (u b 4 4)) t.limit }), c.ok) }

/-- SHAPER_SET (R430). -/
def opShaperSet : OpInfo :=
  { op := 0x1903, need := .mod 4, cost := fun _ => 2, specs := [tVid, (tByt 0x01F7 8 8).many.must],
    ranges := fun c s => do
      domThere c s
      need ((c.all 0x01F7).all (fun b => u b 0 1 ≤ 4 && 1 ≤ u b 4 4 && u b 4 4 ≤ s.rateGranted c.vctl)) (eRange 0x01F7),
    commit := fun c s => (s.modTcfg c.vctl (fun t => { t with peak := (c.all 0x01F7).foldl (fun l b => tset l (u b 0 1) (u b 4 4)) t.peak }), c.ok) }

/-- The traffic TLVs of SEGMENT_CONFIG (R427): TENANT_UPLINK, MGMT_VLAN, MGMT_ADDR. -/
def segTraffic (id : Nat) (b : Bytes) (s : State) : Except Err State :=
  match id with
  | 0x01F2 => do
    let v := u b 0 2
    let mask := u b 2 2
    let sv := u b 4 2
    need (b.length == 8) ⟨stTlvMalformed, [tDetail id 0]⟩
    need (2 ≤ v && v ≤ 4095 && 1 ≤ sv && sv ≤ 4094) (eRange id)
    need (s.active v) (eConfig id)
    need (!s.qry.tup.any (fun e => e.1 != v && e.2.2 == sv && (List.range 16).any (fun x => bit e.2.1 x && bit mask x))) (eConfig id)
    need ((List.range 16).all (fun x => !bit mask x || s.codeFitted (0x100 + x))) (eConfig id)
    let s := s.qr (fun q => { q with tup := if mask = 0 then terase q.tup v else tset q.tup v (mask, sv) })
    return (s.qry.doms.filter (fun e => e.1 / 4096 == v)).foldl (fun s e => dropMembers e.1 [] (e.2.uplinks.filter (fun x => !bit mask x)) s) s
  | 0x01F3 => do
    need (b.length == 4) ⟨stTlvMalformed, [tDetail id 0]⟩
    need (u b 0 1 ≤ 15 && u b 2 2 ≤ 4094) (eRange id)
    need (s.codeFitted (0x100 + u b 0 1)) (eConfig id)
    return s.setField (aQryUplCfg (u b 0 1)) 0 12 (u b 2 2)
  | _ => do
    need (b.length == 36) ⟨stTlvMalformed, [tDetail id 0]⟩
    need (u b 0 1 / 32 == 1 && 8 ≤ u b 16 1 && u b 16 1 ≤ 128) (eRange id)
    return s.qr (fun q => { q with mgmtAddr := some (u b 0 16, u b 16 1, u b 20 16) })

/-- VLAN_ATTACH. -/
def execVlanAttach (src : Src) (tlvs : List Tlv) (s : State) : Outcome := execOp opVlanAttach src tlvs s
/-- VLAN_DETACH. -/
def execVlanDetach (src : Src) (tlvs : List Tlv) (s : State) : Outcome := execOp opVlanDetach src tlvs s
/-- SHAPER_SET. -/
def execShaperSet (src : Src) (tlvs : List Tlv) (s : State) : Outcome := execOp opShaperSet src tlvs s
/-- QUEUE_SET. -/
def execQueueSet (src : Src) (tlvs : List Tlv) (s : State) : Outcome := execOp opQueueSet src tlvs s

end Sys2Proof.Machine
end

