-- ==== Sys2Proof/Machine/Dma.lean ====
section
/-!
DEFINITION. Machine/Dma.lean: the raw-sample FIFOs, the DMA engine and the workspace opcodes (R432 to R441, R444).
-/
namespace Sys2Proof.Machine

/-! ### Channels (R436) -/

/-- Channels of a vCtl, ascending: its k-th is number k of its own numbering (R160, R436). -/
def State.dmaChans (s : State) (v : Nat) : List Nat := (s.qry.dma.filter (fun e => e.2.holder == some v)).map (·.1)

/-- A channel by its module number. -/
def State.dch (s : State) (n : Nat) : DmaCh := tgetD s.qry.dma n {}

/-- Change a channel. -/
def State.modDch (s : State) (n : Nat) (f : DmaCh → DmaCh) : State := s.qr (fun q => { q with dma := tupd q.dma n {} f })

/-- A channel in its holder's numbering. -/
def State.chOf (s : State) (v n : Nat) : Nat := ((s.dmaChans v).findIdx? (· == n)).getD 0

/-- An event to the holder of a channel (R442). -/
def dmaEvent (n code : Nat) (tlvs : List OTlv) (s : State) : State :=
  match (s.dch n).holder with
  | some v => if s.active v then s.raise v code (tCode (s.chOf v n) :: tlvs) else s
  | none => s

/-- The RESULT of an operation, to its series while that stands (R146, R163). -/
def dmaResult (o : DmaOp) (st : Nat) (tlvs : List OTlv) (s : State) : State :=
  if o.cmd.1 ≥ 0x10000 || s.active o.cmd.1 then s.result o.cmd.1 o.cmd.2.1 o.cmd.2.2 st tlvs else s

/-! ### Descriptors (R437, R438) -/

/-- Bytes of a descriptor. -/
def Desc.total (d : Desc) : Nat := d.sline * d.scount

/-- Address of byte `i` of a side whose lines have length `l` and stride `st` (R437). -/
def lineAddr (a l st i : Nat) : Nat := a + i / l * st + i % l

/-- HBM address of a byte of a space: 0 the workspace, 2 absolute. -/
def State.spaceAddr (s : State) (v sp a : Nat) : Nat := if sp = 0 then s.wsAddr v a else a

/-- Size of a space for a vCtl. -/
def State.spaceSize (s : State) (v sp : Nat) : Nat := if sp = 0 then (s.pages v).length * 2 ^ 20 else hbmSize

/-- The FENCE an operation waits for is complete (R440). -/
def State.afterDone (s : State) (a : Option (Nat × Nat)) : Bool :=
  match a with
  | none => true
  | some (n, k) => decide (k ≤ (s.dch n).fenceNo.2)

/-- A read of the FIFO: the oldest word, or, while empty, the last word read with UNDERRUN (R434). -/
def DmaCh.pop (c : DmaCh) : DmaCh :=
  match c.fifo with
  | w :: r => { c with fifo := r, lastWord := w }
  | [] => { c with under := true }

/-- An uncorrectable error met by a read: HBM_ECC with CODE 1 (R568, R569, R571). -/
def eccUncorrected (a : Nat) (s : State) : State :=
  ((s.count aSysHbmEcc 16 16).setFlag aSysHbmFlags 1).owner 0x0F23 [tCode 1, tValue (a / 32 * 32 : Nat)]

/-- The descriptor that runs on a channel. -/
def State.headDesc (s : State) (n : Nat) : Option Desc :=
  match (s.dch n).q with
  | ⟨_, .desc d⟩ :: _ => some d
  | _ => none

/-- Replace the running descriptor of a channel. -/
def State.setHead (s : State) (n : Nat) (d : Desc) : State :=
  s.modDch n (fun c => { c with q := match c.q with | o :: r => { o with kind := .desc d } :: r | [] => [] })

/-- Move byte `i` of the running descriptor of a channel (R434, R437, R440, R567, R568). -/
def moveByte (n v i : Nat) (s : State) : State :=
  match s.headDesc n with
  | none => s
  | some d =>
    if d.err then s
    else
      let da := s.spaceAddr v d.dspace (lineAddr d.daddr d.dline d.dstride i)
      if d.sspace = 1 then
        let empty := (s.dch n).fifo.isEmpty
        let s := if i % 4 = 0 then s.modDch n DmaCh.pop else s
        let b := byte ((s.dch n).lastWord / 256 ^ (3 - i % 4))
        (s.setHead n { d with moved := i + 1, under := d.under || (i % 4 == 0 && empty) }).hbmWrite da b
      else
        let sa := s.spaceAddr v d.sspace (lineAddr d.saddr d.sline d.sstride i)
        if s.isBad sa then eccUncorrected sa (s.setHead n { d with moved := d.total, err := true })
        else (s.setHead n { d with moved := i + 1, nw := d.nw || (d.sspace == 0 && !s.isWritten sa) }).hbmWrite da (s.qry.mem.read sa)

/-- Move up to `k` bytes of the running descriptor of a channel. -/
def moveBytes (n k : Nat) (s : State) : State :=
  match s.headDesc n, (s.dch n).holder with
  | some d, some v => (List.range (min k (d.total - d.moved))).foldl (fun s j => moveByte n v (d.moved + j) s) s
  | _, _ => s

/-- A paced descriptor heads the channel, may run, and has bytes left (R439, R440). -/
def State.pacedReady (s : State) (n : Nat) : Bool :=
  match s.headDesc n with
  | some d => d.paced && d.moved < d.total && s.afterDone d.after
  | none => false

/-- One burst of the running paced descriptor (R439). -/
def burst (n : Nat) (s : State) : State :=
  match s.headDesc n with
  | some d => (moveBytes n d.burst s).modDch n (fun c => { c with bursts := (c.bursts + 1) % 2 ^ 16 })
  | none => s

/-- Each pending request releases one burst of a paced descriptor (R439); `k` bounds the requests. -/
def kickCh : Nat → Nat → State → State
  | 0, _, s => s
  | k + 1, n, s =>
    if s.pacedReady n && (s.dch n).pending > 0 then
      kickCh k n (burst n (s.modDch n (fun c => { c with pending := c.pending - 1 })))
    else s

/-- Release what waits on every channel. -/
def dmaKick (s : State) : State := (List.range 32).foldl (fun s n => kickCh 255 n s) s

/-- A descriptor paced on a request line: 0 level, 1 frame tick, 2 a timer channel. -/
def Desc.onLine (d : Desc) (line tch : Nat) : Bool := d.paced && d.line == line && (line != 2 || d.timer == tch)

/-- Count a request; beyond 255 it is discarded, with DMA_REQ_OVERRUN at most once per 100 frames (R439). -/
def pendReq (n : Nat) (s : State) : State :=
  let c := s.dch n
  if c.pending < 255 then s.modDch n (fun c => { c with pending := c.pending + 1 })
  else
    let s := (s.modDch n (fun c => { c with reqOvr := true, reqLost := c.reqLost + 1 })).qr (fun q => { q with reqOvr := insNat n q.reqOvr })
    if due100 c.reqEv s.frm.now then
      dmaEvent n 0x0A04 [tCount (c.reqLost + 1)] (s.modDch n (fun c => { c with reqLost := 0, reqEv := some s.frm.now }))
    else s

/-- A request on a line of a channel (R439; log 27): a paced descriptor that heads the channel takes one burst for each request on its own
line; while none does, requests on a line that a queued descriptor uses, and level requests, are counted. -/
def dmaReq (n line tch : Nat) (s : State) : State :=
  let queued := (s.dch n).q.any (fun o => match o.kind with | .desc d => d.onLine line tch | _ => false)
  match s.headDesc n with
  | some d =>
    if d.paced && d.moved < d.total then
      (if d.onLine line tch then (if s.afterDone d.after then burst n s else pendReq n s) else s)
    else if line = 0 || queued then pendReq n s
    else s
  | none => if line = 0 || queued then pendReq n s else s

/-- DMA_REQUEST: a request on line 1 (frame tick) or 2 (timer channel `tch`) of a channel; the level request is part of the crossing. -/
def execDmaRequest (n line tch : Nat) (s : State) : Outcome :=
  done s (fun s => guardS (n < 32 && (line == 1 || line == 2) && (s.dch n).holder.isSome) (dmaReq n line tch) s)

/-! ### Raw FIFOs (R432, R433) -/

/-- What an upward crossing of the level does (R433). -/
def crossing (n : Nat) (s : State) : State := dmaReq n 0 0 (dmaEvent n 0x0A01 [] (s.modDch n (fun c => { c with hit := true })))

/-- Words of a raw FIFO. -/
def fifoWords : Nat := 16384

/-- Write a whole block into the FIFO of a channel, or discard it (R432, R433). -/
def writeBlock (n : Nat) (ws : List Nat) (s : State) : State :=
  let c := s.dch n
  let fill := c.fifo.length
  if fill + ws.length > fifoWords then
    let s := s.modDch n (fun c => { c with ovf := true, lost := c.lost + 1 })
    if due100 c.overEv s.frm.now then
      dmaEvent n 0x0A02 [tCount (c.lost + 1)] (s.modDch n (fun c => { c with lost := 0, overEv := some s.frm.now }))
    else s
  else
    let s := s.modDch n (fun c => { c with fifo := c.fifo ++ ws })
    if fill < c.level && c.level ≤ fill + ws.length then crossing n s else s

/-- The channel of a block: a waveform goes to channel 0 of its vCtl, an air capture to channel 1, or to channel 0 where it holds one (R432). -/
def State.blockCh (s : State) (b : RawBlock) : Option Nat :=
  let cs := s.dmaChans b.vctl
  if b.air && cs.length ≥ 2 then cs[1]? else cs[0]?

/-- RAW_BLOCK_WRITE: the next whole block of a source reaches its FIFO (R432). -/
def execRawBlockWrite (s : State) : Outcome :=
  done s (fun s => match s.qry.blocks with
    | [] => s
    | b :: r =>
      let s := s.qr (fun q => { q with blocks := r })
      match s.blockCh b with
      | some n => writeBlock n b.words s
      | none => s)

/-- Set the level of a FIFO: a value outside 1 to 16,384 is stored as the nearer limit, and a fill that it overtakes is no crossing of the
fill (R433, R444). -/
def setLevel (n v : Nat) (s : State) : State := s.modDch n (fun c => { c with level := min fifoWords (max 1 v) })

/-! ### Completion (R440, R441) -/

/-- The EXPORT_DATA events of an export (R441): offset and up to 1,152 bytes each. -/
def exportEvents (v : Nat) (o : DmaOp) (off len : Nat) (s : State) : State :=
  (List.range (cdiv len 1152)).foldl (fun s k =>
    let m := min 1152 (len - k * 1152)
    let data := (List.range m).map (fun j => s.qry.mem.read (s.wsAddr v (off + k * 1152 + j)))
    s.raise o.cmd.1 0x0A03 [tCmdRef o.cmd.2.1 o.cmd.2.2, tValue (k * 1152 : Nat), tData data]) s

/-- The flags of a DMA result in CODE: bit 0 NEVER_WRITTEN, bit 1 UNDERRUN (R434, R440, log 27). -/
def dmaFlags (nw under : Bool) : List OTlv := if nw || under then [tCode (b2n nw + 2 * b2n under)] else []

/-- Remove the running operation of a channel. -/
def popOp (n : Nat) (s : State) : State := s.modDch n (fun c => { c with q := c.q.drop 1 })

/-- The last write of a descriptor, or the last event of an export, has left the engine (R440, R441). -/
def completeOp (n : Nat) (s : State) : State :=
  match (s.dch n).holder, (s.dch n).q with
  | some v, o :: _ => match o.kind with
    | .fence _ => s
    | .desc d =>
      if !s.afterDone d.after || (d.paced && d.moved < d.total) then s
      else
        let s := if d.paced then s else moveBytes n d.total s
        let d := (s.headDesc n).getD d
        dmaKick (dmaResult o (if d.err then stInternalError else stOk) (dmaFlags d.nw d.under)
          ((popOp n s).modDch n (fun c => { c with done := (c.done + 1) % 2 ^ 16 })))
    | .export_ off len =>
      let as := (List.range len).map (fun j => s.wsAddr v (off + j))
      match as.find? s.isBad with
      | some a => dmaKick (dmaResult o stInternalError [] (popOp n (eccUncorrected a s)))
      | none => dmaKick (dmaResult o stOk (dmaFlags (as.any (fun a => !s.isWritten a)) false)
          (popOp n (if s.active v then exportEvents v o off len s else s)))
  | _, _ => s

/-- DMA_DESCRIPTOR_COMPLETE of channel `n`. -/
def execDmaDescriptorComplete (n : Nat) (s : State) : Outcome := done s (completeOp n)

/-- Every write of every earlier descriptor of the channel is acknowledged: the FENCE at its head is complete (R440). -/
def completeFence (n : Nat) (s : State) : State :=
  match (s.dch n).q with
  | o :: _ => match o.kind with
    | .fence _ => dmaKick (dmaResult o stOk [] ((popOp n s).modDch n (fun c => { c with
        fences := (c.fences + 1) % 2 ^ 16,
        fenceNo := (c.fenceNo.1, c.fenceNo.2 + 1) })))
    | _ => s
  | [] => s

/-- DMA_FENCE_COMPLETE of channel `n`. -/
def execDmaFenceComplete (n : Nat) (s : State) : Outcome := done s (completeFence n)

/-! ### Commands (R437, R438, R441) -/

/-- The channel of a vCtl's own number. -/
def State.dmaNo (s : State) (v k : Nat) : Option Nat := (s.dmaChans v)[k]?

/-- Queue an operation on a channel. -/
def pushOp (n : Nat) (c : Cmd) (k : DmaKind) (s : State) : State :=
  dmaKick (s.modDch n (fun x => { x with q := x.q ++ [⟨(evKey c.key, c.seq, c.cmdid), k⟩] }))

/-- At most 16 queued operations (R436). -/
def State.dmaRoom (s : State) (n : Nat) : Bool := (s.dch n).q.length < 16

/-- The descriptor of DMA_DESC; channel numbers of timers and AFTER in the module's numbering. -/
def State.descOf (s : State) (v : Nat) (b : Bytes) (after : Option Nat) : Desc :=
  { paced := bit (u b 1 1) 0, line := u b 2 1,
    timer := (((s.lds.pool.filter (fun e => e.1 == v)).map (·.2))[u b 3 1]?).getD 0,
    burst := u b 4 4, sspace := u b 8 1, dspace := u b 9 1,
    saddr := u b 12 8, sline := u b 20 4, sstride := if u b 8 1 = 1 then 0 else u b 24 4, scount := u b 28 4,
    daddr := u b 32 8, dline := u b 40 4, dstride := u b 44 4, dcount := u b 48 4,
    after := (after.bind (s.dmaNo v)).map (fun n => (n, (s.dch n).fenceNo.1)) }

/-- A side of a descriptor lies inside its space (R438). -/
def sideInside (size a l st k : Nat) : Bool := a + (k - 1) * st + l ≤ size

/-- The checks of R437 and R438; DETAIL names DMA_DESC with the byte offset of the field, or AFTER. -/
def descCheck (c : Cmd) (s : State) : Except Err Unit := do
  let v := c.vctl
  let b := (c.tlv? 0x0200).getD []
  let bad (off : Nat) : Err := eRange 0x0200 off
  let paced := bit (u b 1 1) 0
  let sp := u b 8 1
  let dp := u b 9 1
  need (u b 0 1 < (s.dmaChans v).length) (bad 0)
  need (!paced || u b 2 1 ≤ 2) (bad 2)
  need (!(paced && u b 2 1 == 2) || u b 3 1 < (s.lds.pool.filter (fun e => e.1 == v)).length) (bad 3)
  need (!paced || (256 ≤ u b 4 4 && u b 4 4 ≤ 65536 && u b 4 4 % 4 == 0)) (bad 4)
  need (sp ≤ 2 && (sp != 2 || v == 0)) (bad 8)
  need ((dp == 0 || dp == 2) && (dp != 2 || v == 0)) (bad 9)
  need (1 ≤ u b 20 4 && u b 20 4 ≤ 65536) (bad 20)
  need (u b 24 4 ≤ 16777216 && (sp != 1 || u b 24 4 == 0)) (bad 24)
  need (1 ≤ u b 28 4 && u b 28 4 ≤ 65536) (bad 28)
  need (1 ≤ u b 40 4 && u b 40 4 ≤ 65536) (bad 40)
  need (u b 44 4 ≤ 16777216) (bad 44)
  need (1 ≤ u b 48 4 && u b 48 4 ≤ 65536) (bad 48)
  need (u b 20 4 * u b 28 4 == u b 40 4 * u b 48 4 && u b 20 4 * u b 28 4 ≤ 64 * 2 ^ 20) (bad 20)
  need (sp == 1 || sideInside (s.spaceSize v sp) (u b 12 8) (u b 20 4) (u b 24 4) (u b 28 4)) (bad 12)
  need (sideInside (s.spaceSize v dp) (u b 32 8) (u b 40 4) (u b 44 4) (u b 48 4)) (bad 32)
  need (u b 48 4 == 1 || u b 40 4 ≤ u b 44 4) (bad 44)
  need (sp != 1 || u b 20 4 * u b 28 4 % 4 == 0) (bad 20)
  match c.nat? 0x0201 with
  | none => .ok ()
  | some k => match s.dmaNo v k with
    | none => .error (eRange 0x0201)
    | some n => need ((s.dch n).fenceNo.1 > 0) (eRange 0x0201)

/-- The channel has room for one more operation; otherwise QUOTA_EXCEEDED (R436). -/
def roomCheck (v k : Nat) (s : State) : Except Err Unit :=
  match s.dmaNo v k with
  | none => .ok ()
  | some n => need (s.dmaRoom n) (eStat stQuotaExceeded)

/-- Channel byte of DMA_DESC. -/
def Cmd.descCh (c : Cmd) : Nat := u ((c.tlv? 0x0200).getD []) 0 1

/-- DMA_DESCRIPTOR (R437 to R440). -/
def opDmaDescriptor : OpInfo :=
  { op := 0x1A03, need := .mod 6, specs := [(tByt 0x0200 52 52).must, tFix 0x0201 1 0 255],
    ranges := descCheck,
    accept := fun c s => roomCheck c.vctl c.descCh s,
    commit := fun c s => match descCheck c s, roomCheck c.vctl c.descCh s, s.dmaNo c.vctl c.descCh with
      | .error e, _, _ => (s, c.err e)
      | _, .error e, _ => (s, c.err e)
      | .ok _, .ok _, some n => (pushOp n c (.desc (s.descOf c.vctl ((c.tlv? 0x0200).getD []) (c.nat? 0x0201))) s, c.pend)
      | .ok _, .ok _, none => (s, c.err (eRange 0x0200)) }

/-- The channel named by CODE. -/
def fenceCheck (c : Cmd) (s : State) : Except Err Unit :=
  need ((s.dmaNo c.vctl (c.nat 0x000D)).isSome) (eRange 0x000D)

/-- DMA_FENCE (R437, R440). -/
def opDmaFence : OpInfo :=
  { op := 0x1A04, need := .mod 6, specs := [(cCode 255).must],
    ranges := fenceCheck,
    accept := fun c s => roomCheck c.vctl (c.nat 0x000D) s,
    commit := fun c s => match roomCheck c.vctl (c.nat 0x000D) s, s.dmaNo c.vctl (c.nat 0x000D) with
      | .error e, _ => (s, c.err e)
      | .ok _, some n =>
        let s := s.modDch n (fun x => { x with fenceNo := (x.fenceNo.1 + 1, x.fenceNo.2) })
        (pushOp n c (.fence (s.dch n).fenceNo.1) s, c.pend)
      | .ok _, none => (s, c.err (eRange 0x000D)) }

/-- Unacknowledged event records of a series (R148). -/
def State.unacked (s : State) (k : Nat) : Nat := (tgetD s.ses.evq k {}).recs.length

/-- The block lies in the workspace. -/
def exportRange (c : Cmd) (s : State) : Except Err Unit :=
  need (c.nat 0x0202 + c.nat 0x0203 ≤ s.spaceSize c.vctl 0) (eRange 0x0203)

/-- A channel, room on it, and room in the event queue (R441). -/
def exportCheck (c : Cmd) (s : State) : Except Err Unit :=
  need ((s.dmaNo c.vctl 0).any s.dmaRoom && s.unacked (evKey c.key) + cdiv (c.nat 0x0203) 1152 ≤ 4096) (eStat stQuotaExceeded)

/-- EXPORT_BLOCK (R441). -/
def opExportBlock : OpInfo :=
  { op := 0x0A01, need := .mod 6,
    specs := [(tFix 0x0202 4 0 (2 ^ 32 - 1)).must, (tFix 0x0203 4 1 262144).must],
    ranges := exportRange, accept := exportCheck,
    commit := fun c s => match exportRange c s, exportCheck c s, s.dmaNo c.vctl 0 with
      | .error e, _, _ => (s, c.err e)
      | _, .error e, _ => (s, c.err e)
      | .ok _, .ok _, some n => (pushOp n c (.export_ (c.nat 0x0202) (c.nat 0x0203)) s, c.pend)
      | .ok _, .ok _, none => (s, c.err (eStat stQuotaExceeded)) }

/-- WORKSPACE_INFO (R441). -/
def opWorkspaceInfo : OpInfo :=
  { op := 0x0A02, need := .mod 6,
    commit := fun c s => (s, c.ok [tCount (s.pages c.vctl).length, tValue (s.wsWritten c.vctl : Nat), tCode (s.dmaChans c.vctl).length]) }

/-- EXPORT_BLOCK. -/
def execExportBlock (src : Src) (tlvs : List Tlv) (s : State) : Outcome := execOp opExportBlock src tlvs s
/-- WORKSPACE_INFO. -/
def execWorkspaceInfo (src : Src) (tlvs : List Tlv) (s : State) : Outcome := execOp opWorkspaceInfo src tlvs s
/-- DMA_DESCRIPTOR. -/
def execDmaDescriptor (src : Src) (tlvs : List Tlv) (s : State) : Outcome := execOp opDmaDescriptor src tlvs s
/-- DMA_FENCE. -/
def execDmaFence (src : Src) (tlvs : List Tlv) (s : State) : Outcome := execOp opDmaFence src tlvs s

end Sys2Proof.Machine
end

