-- ==== Sys2Proof/Machine/Lamps.lean ====
section
/-!
DEFINITION. Machine/Lamps.lean: groups, lamp checks, all-or-none groups and telemetry (R269, R270, R312 to R332).
-/
namespace Sys2Proof.Machine

/-- Change the lamp state. -/
def State.lm (s : State) (f : Lamps → Lamps) : State := { s with lmp := f s.lmp }

/-- The check state of a channel. -/
def State.chan (s : State) (h : Nat) : LampCh := tgetD s.lmp.chans h {}

/-- Change the check state of a channel. -/
def State.modChan (s : State) (h : Nat) (f : LampCh → LampCh) : State :=
  s.lm (fun l => { l with chans := tset l.chans h (f (tgetD l.chans h {})) })

/-! ### All-or-none groups (R322 to R326) -/

/-- Key of a group. -/
def gkey (v g : Nat) : Nat := 1024 * v + g

/-- A group is flagged all-or-none. -/
def State.aon? (s : State) (v g : Nat) : Option Aon := tget s.lmp.aon (gkey v g)

/-- Members of an all-or-none group: those on which its vCtl holds CONFIG (R323). -/
def State.aonMembers (s : State) (v g : Nat) : List Nat := (s.members v g).filter (fun h => s.hasEp v h 2)

/-- Stratum of an all-or-none group (R322). -/
def State.aonStratum (s : State) (v g : Nat) : Nat := ((s.aon? v g).map (·.st)).getD 0

/-- A class is a trigger class of a group (R324). -/
def Aon.triggers (a : Aon) (cls : Nat) : Bool :=
  (1 ≤ cls && cls ≤ 3) || (cls == 4 && bit a.extra 0) || (cls == 5 && bit a.extra 1)

/-- The latch number of a group. -/
def State.latchNo (s : State) (v g : Nat) : Nat := tgetD s.lmp.latchNo (gkey v g) 0

/-- Raise an all-or-none event to the group's vCtl and to the owner; VALUE names the vCtl to the owner (R330). -/
def raiseAon (v code : Nat) (mk : Nat → List OTlv) (s : State) : State :=
  let s := if v = 0 then s else s.raise v code (mk v)
  s.owner code (mk 0 ++ [tValue v])

/-- A group latches on a member (R324). -/
def latch (v g h : Nat) (s : State) : State :=
  match s.aon? v g with
  | none => s
  | some a =>
    if a.latched then s
    else
      let n := (s.latchNo v g + 1) % 2 ^ 32
      let cls := (s.chan h).cls
      let st := s.aonStratum v g
      let s := s.lm (fun l => { l with
        aon := tset l.aon (gkey v g) { a with latched := true, installed := false }, latchNo := tset l.latchNo (gkey v g) n })
      let s := s.setFlag (aStrAonFlags st) 0
      raiseAon v 0x0210 (fun u => [tGroup g, tCount n, tEp (((s.localOf u h).map (fun x => [x])).getD []), tCode cls]) s

/-- The fail level of a vCtl on an endpoint: that of its lowest-numbered latched group there whose fail state is installed (R325). -/
def State.failLevel (s : State) (v h : Nat) : Option Nat :=
  (s.lmp.aon.find? (fun e => e.1 / 1024 == v && e.2.latched && e.2.installed && (s.aonMembers v (e.1 % 1024)).contains h)).map (·.2.level)

/-- Bring the FUNCTION source of a vCtl on an endpoint in line with its latched groups (R325). -/
def syncFail (v : Nat) (s : State) (h : Nat) : State :=
  match s.failLevel v h with
  | some l =>
    if (s.sources h).any (fun x => x.rank == 3 && x.vctl == v && x.prog == .level l) then s
    else setSrc h { rank := 3, vctl := v, prog := .level l } s
  | none => endSrcs h (fun x => x.rank == 3 && x.vctl == v) s

/-- At the beat 0 that follows a latch, the fail state is installed on every member (R325). -/
def installFails (s : State) : State :=
  (s.lmp.aon.filter (fun e => e.2.latched && !e.2.installed)).foldl (fun s e =>
    let s := s.lm (fun l => { l with aon := tmod l.aon e.1 (fun a => { a with installed := true }) })
    (s.aonMembers (e.1 / 1024) (e.1 % 1024)).foldl (syncFail (e.1 / 1024)) s) s

/-- A group latches when a member is already in a trigger class (R324). -/
def latchIfDue (v g : Nat) (s : State) : State :=
  match s.aon? v g with
  | none => s
  | some a => match (s.aonMembers v g).find? (fun h => a.triggers (s.chan h).cls) with
    | some h => latch v g h s
    | none => s

/-- The latch of a group ends, and its fail sources go: AON_CLEARED with the code (R326, R330). -/
def unlatch (v g code : Nat) (s : State) : State :=
  match s.aon? v g with
  | none => s
  | some a =>
    if !a.latched then s
    else
      let st := s.aonStratum v g
      let s := s.lm (fun l => { l with aon := tset l.aon (gkey v g) { a with latched := false, installed := false } })
      let s := (s.members v g).foldl (syncFail v) s
      raiseAon v 0x0211 (fun _ => [tGroup g, tCount (s.latchNo v g), tCode code]) (s.setFlag (aStrAonFlags st) 1)

/-- Unflag a group, its latch first (R323). -/
def unflag (v g code : Nat) (s : State) : State :=
  let s := unlatch v g code s
  s.lm (fun l => { l with aon := terase l.aon (gkey v g) })

/-- A member leaves an all-or-none group: its fail source goes, AON_MEMBER_LEFT, and the last one unflags the group (R323). -/
def aonLeft (v g h : Nat) (s : State) : State :=
  if (s.aon? v g).isNone then s
  else
    let s := syncFail v s h
    let s := s.raise v 0x0212 [tGroup g, tEp (((s.localOf v h).map (fun x => [x])).getD [])]
    if (s.aonMembers v g).isEmpty then unflag v g 1 s else s

/-- Memberships of a stratum, without those of one group. -/
def State.aonLoad (s : State) (st key : Nat) : Nat × Nat :=
  let gs := s.lmp.aon.filter (fun e => e.1 != key && s.aonStratum (e.1 / 1024) (e.1 % 1024) == st)
  (gs.length, (gs.map (fun e => (s.aonMembers (e.1 / 1024) (e.1 % 1024)).length)).foldl (· + ·) 0)

/-- The refusals of AON_DEFINE, the first row that applies (R322). -/
def aonRefusal (c : Cmd) (s : State) : Except Err Unit := do
  let v := c.vctl
  let g := c.nat 0x0002
  let ms := s.members v g
  need (!ms.isEmpty) (eStat stConfigRefused)
  need (ms.all (fun h => s.hasEp v h 2)) (eStat stRightMissing)
  let st := stratumOf (hString (ms.headD 0))
  match ms.zipIdx.find? (fun e => hRealm e.1 != 0 || !s.isLamp e.1 || stratumOf (hString e.1) != st) with
  | some e => .error (eConfig 0x0002 e.2)
  | none => .ok ()
  let (n, m) := s.aonLoad st (gkey v g)
  need (n < 256 && m + ms.length ≤ 4096) (eStat stQuotaExceeded)

/-- AON_DEFINE (R322, R323, R327). -/
def opAonDefine : OpInfo :=
  { op := 0x0205, need := .ep 2, cost := fun _ => 2,
    specs := [cGroup.must, (tFix 0x0198 1 0 255).must, tFix 0x0199 1 0 255, tFix 0x0003 2 0 64000],
    form := fun c => orMissing (c.nat 0x0198 != 1 || c.has 0x0003) 0x0003,
    ranges := fun c _ => need (c.nat 0x0198 ≤ 1 || c.nat 0x0198 == 0xFF) (eRange 0x0198),
    accept := aonRefusal,
    commit := fun c s =>
      let v := c.vctl
      let g := c.nat 0x0002
      match aonRefusal c s with
      | .error e => (s, c.err e)
      | .ok _ =>
        if c.nat 0x0198 = 0xFF then (unflag v g 1 s, c.ok)
        else
          let old := s.aon? v g
          let a : Aon := { st := stratumOf (hString ((s.members v g).headD 0)), level := if c.nat 0x0198 = 1 then c.nat 0x0003 else 0, extra := c.nat 0x0199 % 4,
                           latched := old.any (·.latched), installed := old.any (·.installed) }
          let s := s.lm (fun l => { l with aon := tset l.aon (gkey v g) a })
          let s := (s.aonMembers v g).foldl (syncFail v) s
          (latchIfDue v g s, c.ok) }

/-- The vCtl of an AON_CLEAR. -/
def clearTarget (c : Cmd) : Nat := c.nat 0x0120 c.vctl

/-- AON_CLEAR (R326, R327): the latch number must be the current one; the classes of the members start again from NO_DATA. -/
def opAonClear : OpInfo :=
  { op := 0x0206, need := .ep 2, specs := [cGroup.must, (cCount 0 (2 ^ 32 - 1)).must, tFix 0x0120 2 0 4095],
    rights := fun c s => do
      need (c.vctl == 0 || !c.has 0x0120) (eStat stOwnerOnly)
      need ((s.members c.vctl (c.nat 0x0002)).all (fun h => s.hasEp c.vctl h 2)) (eStat stRightMissing),
    ranges := fun c s => need (s.vctl? (clearTarget c)).isSome (eRange 0x0120),
    commit := fun c s =>
      let v := clearTarget c
      let g := c.nat 0x0002
      if (s.aon? v g).any (·.latched) && s.latchNo v g == c.nat 0x000F then
        let s := unlatch v g 0 s
        ((s.aonMembers v g).foldl (fun s h => s.modChan h (fun x => { x with cls := 5, k := 0, hist := [], raw := [] })) s, c.ok)
      else (s, c.reply stConfigRefused) }

/-! ### Groups (R269, R270) -/

/-- Groups of a vCtl. -/
def State.groupCount (s : State) (v : Nat) : Nat := (s.slt.groups.filter (fun e => e.1 / 1024 == v)).length

/-- The refusals of GROUP_DEFINE (R171, R269). -/
def groupRefusal (c : Cmd) (s : State) : Except Err Unit :=
  let v := c.vctl
  let g := c.nat 0x0002
  let there := (tget s.slt.groups (gkey v g)).isSome
  match c.nat 0x0190 with
  | 0 => do
    need (!there) (eStat stConfigRefused)
    need (s.groupCount v < ((s.vctl? v).map (·.q.groups)).getD 0) (eStat stQuotaExceeded)
  | 1 => do
    need there (eStat stConfigRefused)
    need (s.aon? v g).isNone (eStat stConfigRefused)
  | _ => need there (eStat stConfigRefused)

/-- GROUP_DEFINE. -/
def opGroupDefine : OpInfo :=
  { op := 0x0201, need := .ep 2, specs := [cGroup.must, (tFix 0x0190 1 0 2).must, tByt 0x0191 16 16],
    form := fun c => orMissing (c.nat 0x0190 == 1 || c.has 0x0191) 0x0191,
    ranges := fun c _ => need (((c.tlv? 0x0191).getD []).all (fun b => b.toNat < 128)) (eRange 0x0191),
    accept := groupRefusal,
    commit := fun c s =>
      let k := gkey c.vctl (c.nat 0x0002)
      let name := (c.tlv? 0x0191).getD []
      match groupRefusal c s with
      | .error e => (s, c.err e)
      | .ok _ => (s.sl (fun t => { t with groups := match c.nat 0x0190 with
          | 0 => tset t.groups k { name := name }
          | 1 => terase t.groups k
          | _ => tmod t.groups k (fun x => { x with name := name }) }), c.ok) }

/-- Groups of a vCtl in which an endpoint is a member. -/
def State.groupsOf (s : State) (v h : Nat) : List Nat :=
  (s.slt.groups.filter (fun e => e.1 / 1024 == v && (e.2.primary.contains h || e.2.secondary.contains h))).map (·.1 % 1024)

/-- Change a group. -/
def State.modGroup (s : State) (v g : Nat) (f : Grp → Grp) : State := s.sl (fun t => { t with groups := tmod t.groups (gkey v g) f })

/-- Take an endpoint out of a group. -/
def leaveGroup (v h : Nat) (s : State) (g : Nat) : State :=
  if (s.members v g).contains h then
    aonLeft v g h (s.modGroup v g (fun x => { x with primary := x.primary.filter (· != h), secondary := x.secondary.filter (· != h) }))
  else s

/-- An addition would break R322 (R323). -/
def State.aonBars (s : State) (v g h : Nat) : Bool :=
  match s.aon? v g with
  | none => false
  | some _ =>
    let ms := s.aonMembers v g
    !ms.contains h && (hRealm h != 0 || !s.isLamp h || !s.hasEp v h 2 || stratumOf (hString h) != s.aonStratum v g ||
      (s.aonLoad (s.aonStratum v g) (gkey v g)).2 + ms.length + 1 > 4096)

/-- Add an endpoint to a group as primary or secondary; false where it is refused (R270, R323). -/
def joinGroup (v g h : Nat) (primary : Bool) (s : State) : State × Bool :=
  let secs := (s.slt.groups.filter (fun e => e.1 / 1024 == v && e.1 != gkey v g && e.2.secondary.contains h)).length
  if s.aonBars v g h || (!primary && secs ≥ 7) then (s, false)
  else
    let olds := (s.slt.groups.filter (fun e => primary && e.1 / 1024 == v && e.1 != gkey v g && e.2.primary.contains h)).map (·.1 % 1024)
    let s := olds.foldl (leaveGroup v h) s
    let s := s.modGroup v g (fun x => { x with
      primary := if primary then (x.primary.filter (· != h)) ++ [h] else x.primary.filter (· != h),
      secondary := if primary then x.secondary.filter (· != h) else (x.secondary.filter (· != h)) ++ [h] })
    let s := if (s.aon? v g).any (fun a => a.triggers (s.chan h).cls) then latch v g h s else s
    (if (s.aon? v g).isSome then syncFail v s h else s, true)

/-- GROUP_MEMBERS. -/
def opGroupMembers : OpInfo :=
  { op := 0x0202, need := .ep 2, cost := fun c => 1 + (c.list 0x0001 4).length / 64,
    specs := [cGroup.must, cEp.must, (tFix 0x0192 1 0 2).must],
    accept := fun c s => need (tget s.slt.groups (gkey c.vctl (c.nat 0x0002))).isSome (eStat stConfigRefused),
    commit := fun c s =>
      let v := c.vctl
      let g := c.nat 0x0002
      if (tget s.slt.groups (gkey v g)).isNone then (s, c.reply stConfigRefused)
      else
        let (s, bad) := c.eps.zipIdx.foldl (fun (p : State × List Nat) e =>
          if c.nat 0x0192 = 2 then (leaveGroup v e.1 p.1 g, p.2)
          else
            let (s, ok) := joinGroup v g e.1 (c.nat 0x0192 == 0) p.1
            (s, if ok then p.2 else p.2 ++ [e.2])) (s, [])
        (s, if bad.isEmpty then c.ok else c.reply stConfigRefused 0 [tBitmap (bitmapBytes ((c.eps.length + 7) / 8) bad)]) }

/-! ### Lamp samples (R312 to R314) -/

/-- A record of LAMP_SAMPLES is kept for the classification, and its temperature serves derating (R313, R314). -/
def keepSample (g p frame8 : Nat) (r : LampRec) (s : State) : State :=
  let h := mkHandle g p (r.slot % 16)
  let s := s.modChan h (fun c => { c with fresh := some (frame8, r) })
  if r.temp = 0x8000 then s
  else s.modDerate h (fun d => { d with temp := some (beInt (beBytes 2 r.temp), s.frm.now) })

/-- The records of a message in order; one for slot 0, for a slot that is no lighting channel, or for a slot already named is discarded (R313). -/
def keepSamples (g p frame8 : Nat) : List LampRec → List Nat → State → State
  | [], _, s => s
  | r :: rs, seen, s =>
    if r.slot = 0 || !s.isLamp (mkHandle g p (r.slot % 16)) || seen.contains r.slot then keepSamples g p frame8 rs seen (s.setFlag (aGrnLcFlags g) 3)
    else keepSamples g p frame8 rs (r.slot :: seen) (keepSample g p frame8 r s)

/-- LAMP_SAMPLES (R312, R313): records of the previous frame that arrive before beat 40 are used; a later message is discarded and counted.
A record count outside 1 to 15, or a sampled frame that has not ended, makes the message none that R312 gives: nothing of it is used (DESIGN CHOICE,
log 80). -/
def execLampSamples (str pos : Nat) (hdr : MslHdr) (frame8 : Nat) (recs : List LampRec) (s : State) : Outcome :=
  done s (onMsl str pos hdr (fun s =>
    if recs = [] || recs.length > 15 || frame8 ≥ s.frm.now then s
    else if frame8 + 1 < s.frm.now || s.frm.beat ≥ 40 then (s.count (aGrnLcSusp str) 16 16).setFlag (aGrnLcFlags str) 2
    else keepSamples str pos frame8 recs [] s))

/-! ### Verdicts and classes (R315 to R321) -/

/-- The check profile of a channel. -/
def State.checkProf (s : State) (h : Nat) : CheckProf := tgetD s.lmp.profs (tgetD s.lmp.assign h 0) {}

/-- Least duty that a record must have on a string (R314). -/
def State.minDuty (s : State) (g : Nat) : Nat := if bit (s.stringCaps g) 2 then 320 else 3200

/-- The verdict of R317: class and k, or none. -/
def verdict (reach : Bool) (r : Option LampRec) (p : CheckProf) (code minDuty : Nat) : Option (Nat × Nat) :=
  if !reach then none
  else match r.filter (fun r => r.n ≥ 4 && bit r.flags 0) with
    | none => if code ≤ 64000 && code ≥ minDuty then some (5, 0) else none
    | some r =>
      if r.duty < minDuty then none
      else if r.ifMean < p.imin then some (1, 0)
      else if p.nj = 0 then some (0, 0)
      else
        let vf := r.vfMean * 10
        if vf < p.vshort then some (2, 0)
        else if p.vspread > 0 && (r.vfMax - r.vfMin) * 10 > p.vspread then some (4, 0)
        else
          let t : Int := if r.temp = 0x8000 then 400 else beInt (beBytes 2 r.temp)
          let vj : Int := (p.vj : Int) + Int.tdiv (p.tc * (t - 400)) 16000
          if vj ≤ 0 then none
          else
            let d : Int := p.nj * vj - vf
            if d < p.vtol then some (0, 0)
            else some (3, (min 255 (max 1 (Int.tdiv (d + Int.tdiv vj 2) vj))).toNat)

/-- Changes of class among the last 16 verdicts (R319). -/
def flaps : List Nat → Nat
  | a :: b :: r => (if a = b then 0 else 1) + flaps (b :: r)
  | _ => 0

/-- The reported class and k after a verdict that counts (R319). -/
def report (p : Nat) (c : LampCh) : Nat × Nat :=
  let last := c.hist.take p
  match last.head? with
  | none => (c.cls, c.k)
  | some (x, k) =>
    if last.length < p then (c.cls, c.k)
    else if last.all (fun e => e.1 == x) then
      if x ≠ c.cls then (x, if x = 3 then k else 0)
      else if x = 3 && last.all (fun e => e.2 == k) then (3, k)
      else (c.cls, c.k)
    else (c.cls, c.k)

/-- LAMP_CLASS, the flags and the count of a change, and the latches it triggers (R320, R324). -/
def classChanged (h cls k : Nat) (s : State) : State :=
  let g := hString h
  let old := (s.chan h).cls
  let s := s.modChan h (fun c => { c with cls := cls, k := k })
  let s := s.count (aGrnLcCnt g) 0 16
  let s := if 1 ≤ cls && cls ≤ 3 then s.setFlag (aGrnLcFlags g) 0 else if cls = 5 then s.setFlag (aGrnLcFlags g) 1 else s
  let s := s.raiseEp h 4 0x0410 (fun l => [tEp [l], tCode cls, tCode k])
  if cls = old then s
  else s.lmp.aon.foldl (fun s e =>
    if e.2.triggers cls && (s.aonMembers (e.1 / 1024) (e.1 % 1024)).contains h then latch (e.1 / 1024) (e.1 % 1024) h s else s) s

/-- A verdict of the previous frame is suspended (R321). -/
def LampCh.inWindow (c : LampCh) (m : Nat) : Bool := c.wins.any (fun w => w ≤ m && m ≤ w + 2)

/-- Classify one channel (R317 to R321). -/
def classifyOne (s : State) (h : Nat) : State :=
  let g := hString h
  let m := s.frm.now - 1
  let s := if s.lmp.fresh.contains h then s.modChan h (fun c => { c with hist := [], raw := [] }) else s
  let c := s.chan h
  let r := (c.fresh.filter (fun f => f.1 == m)).map (·.2)
  let p := s.checkProf h
  let v := verdict (s.epStatus h == stOk) r p (c.codes.getD 1 hold) (s.minDuty g)
  let s := s.modChan h (fun c => { c with rec_ := r.orElse (fun _ => c.rec_), fresh := none, suspended := false })
  match v with
  | none => s
  | some (cls, k) =>
    if 1 ≤ cls && cls ≤ 3 && c.inWindow m then (s.count (aGrnLcCnt g) 16 16).modChan h (fun c => { c with suspended := true })
    else
      let raw := (cls :: c.raw).take 17
      let eff := if flaps raw ≥ 6 then (4, 0) else (cls, k)
      let s := s.modChan h (fun c => { c with raw := raw, hist := (eff :: c.hist).take 255, lastV := some s.frm.now })
      let c := s.chan h
      let (cls', k') := report p.p c
      if cls' = c.cls && k' = c.k then s else classChanged h cls' k' s

/-- The lighting channels of a grain's record. -/
def State.grainLamps (s : State) (g : Nat) : List Nat :=
  (s.grain g).record.flatMap (fun e => (poleHandles g e.1 e.2).filter s.isLamp)

/-- The lighting endpoints of the air realm. -/
def State.airLamps (s : State) : List Nat := (s.air.eps.filter (fun e => e.2.lighting)).map (fun e => mkAir e.1)

/-- Registers that follow the classification of a grain (R331). -/
def lampRegs (s : State) (g : Nat) : State :=
  let hs := s.grainLamps g
  let n (p : LampCh → Bool) : Nat := (hs.filter (fun h => p (s.chan h))).length
  let s := s.setReg (aGrnLcStat g) (n (fun c => 1 ≤ c.cls && c.cls ≤ 3) + n (fun c => c.cls ≥ 4) * 2 ^ 16)
  s.setField (aGrnLcSusp g) 0 10 (n (fun c => c.inWindow (s.frm.now - 1)))

/-- The all-or-none registers of every stratum (R332). -/
def aonRegs (s : State) : State :=
  (List.range 16).foldl (fun s st =>
    let l := s.lmp.aon.filter (fun e => s.aonStratum (e.1 / 1024) (e.1 % 1024) == st)
    let s := s.setReg (aStrAonStat st) (l.length + 65536 * (l.filter (fun e => e.2.latched)).length)
    s.setReg (aStrAonMemb st) ((l.map (fun e => (s.aonMembers (e.1 / 1024) (e.1 % 1024)).length)).foldl (· + ·) 0)) s

/-! ### Switch-on windows (R321) -/

/-- A dispatched code switches a channel on in frame `w`: the window covers it and the other lighting channels of its supply group (R321). -/
def openWindow (h w : Nat) (s : State) : State :=
  match s.pole? (hString h) (hPos h) with
  | none => s
  | some q =>
    let grp (x : Nat) : Nat := q.rep.supply.getD (hSlot x) 15
    let hs := (poleHandles (hString h) (hPos h) q).filter (fun x => x == h || (s.isLamp x && grp x != 15 && grp x == grp h))
    hs.foldl (fun s x => s.modChan x (fun c => { c with wins := if c.wins.contains w then c.wins else w :: c.wins })) s

/-! ### Telemetry (R328, R329) -/

/-- The TELEMETRY_STATE record of an endpoint at a classification beat (R328). -/
def State.teleNow (s : State) (h : Nat) : Bytes :=
  let checked := s.isLamp h && hRealm h = 0
  let c := if checked then s.chan h else {}
  let r := c.rec_
  let age := match c.lastV with | some f => min 0xFFFF (s.frm.now - f) | none => 0xFFFF
  [byte c.cls, byte (if c.cls = 3 then c.k else 0),
   byte (b2n c.suspended + 2 * b2n ((s.sources h).any (fun x => x.rank == 3)) + 4 * b2n (!checked)),
   byte (if checked then tgetD s.lmp.assign h 0 else 0)] ++
  beBytes 2 ((r.map (·.temp)).getD 0x8000) ++ beBytes 2 (s.dc h) ++ beBytes 2 ((r.map (·.vfMean)).getD 0) ++
  beBytes 2 ((r.map (·.ifMean)).getD 0) ++ beBytes 2 ((r.map (·.duty)).getD 0) ++ beBytes 2 age

/-- The record of an endpoint that no classification beat has met: class NO_DATA without any data, UNCHECKED unless it is a string-realm lighting
channel (DESIGN CHOICE, log 80). -/
def teleNone (checked : Bool) : Bytes :=
  [5, 0, byte (4 * b2n (!checked)), 0] ++ beBytes 2 0x8000 ++ beBytes 2 0x1000 ++ beBytes 6 0 ++ beBytes 2 0xFFFF

/-- TELEMETRY_STATE of an endpoint, as at the last classification beat (R328). -/
def State.telemetry (s : State) (h : Nat) : Bytes :=
  if s.isLamp h then ((s.chan h).tele).getD (teleNone (hRealm h = 0)) else teleNone false

/-- Every lighting channel's telemetry record is taken (R328). -/
def takeTele (hs : List Nat) (s : State) : State := hs.foldl (fun t h => t.modChan h (fun c => { c with tele := some (s.teleNow h) })) s

/-- LAMP_CLASSIFY (R317, R320, R328, R331, R332): at beat 40, every grain judges its channels, and telemetry is taken. -/
def execLampClassify (s : State) : Outcome :=
  done s (fun s => guardS s.inLight (fun s =>
    let gs := s.strs.grains.map (·.1)
    let s := aonRegs (gs.foldl (fun s g => lampRegs ((s.grainLamps g).foldl classifyOne s) g) s)
    let s := takeTele (gs.flatMap s.grainLamps ++ s.airLamps) s
    s.lm (fun l => { l with fresh := [], chans := tmap l.chans (fun _ c => { c with wins := c.wins.filter (fun w => s.frm.now ≤ w + 4) }) })) s)

/-- TELEMETRY_READ. -/
def opTelemetryRead : OpInfo :=
  { op := 0x0403, need := .ep 0, specs := [cEp, cGroup],
    ranges := fun c s => do
      oneTarget c
      need (1 ≤ (s.targets c).length && (s.targets c).length ≤ 64) (eRange (if c.has 0x0002 then 0x0002 else 0x0001)),
    commit := fun c s => (s, c.ok [(0x01C0, (s.targets c).flatMap s.telemetry)]) }

/-- Endpoints a vCtl streams. -/
def State.streaming (s : State) (v : Nat) : List Nat := (s.lmp.streams.filter (fun t => t.vctl == v)).flatMap (·.eps)

/-- The streams of a vCtl without some endpoints. -/
def dropStream (v : Nat) (hs : List Nat) (l : List Stream) : List Stream :=
  (l.map (fun t => if t.vctl = v then { t with eps := t.eps.filter (fun h => !hs.contains h) } else t)).filter (fun t => !t.eps.isEmpty)

/-- A start stays within 1,024 endpoints (R329). -/
def streamRoom (c : Cmd) (s : State) : Except Err Unit :=
  need (c.nat 0x000D == 0 || (sortNat (s.streaming c.vctl ++ s.targets c)).length ≤ 1024) (eStat stQuotaExceeded)

/-- TELEMETRY_STREAM. -/
def opTelemetryStream : OpInfo :=
  { op := 0x1403, need := .ep 4, cost := fun _ => 2, specs := [(cCode 1).must, cEp, cGroup, tFix 0x0004 4 1 6000],
    rights := groupRights 4, ranges := fun c _ => oneTarget c, accept := streamRoom,
    commit := fun c s => match streamRoom c s with
      | .error e => (s, c.err e)
      | .ok _ =>
        let v := c.vctl
        let hs := s.targets c
        let rest := dropStream v hs s.lmp.streams
        (s.lm (fun l => { l with
          streams := if c.nat 0x000D = 0 || hs.isEmpty then rest else rest ++ [⟨v, s.frm.now, c.nat 0x0004 100, hs⟩] }), c.ok) }

/-- Lists of at most 64, with fuel. -/
def by64 : Nat → List Nat → List (List Nat)
  | 0, _ => []
  | f + 1, l => if l.isEmpty then [] else l.take 64 :: by64 f (l.drop 64)

/-- TELEMETRY events that are due in the frame (R329). -/
def streamEvents (s : State) : State :=
  s.lmp.streams.foldl (fun s t =>
    if s.frm.now < t.start || (s.frm.now - t.start) % t.frames ≠ 0 then s
    else
      let hs := t.eps.filter (fun h => s.hasEp t.vctl h 4)
      (by64 hs.length hs).foldl (fun s p => s.raise t.vctl 0x0411 [tFrame s.frm.now, (0x01C0, p.flatMap s.telemetry)]) s) s

/-! ### Settings (R315, R316) -/

/-- The byte offset of the first field of a LAMP_PROFILE that breaks a rule (R315). -/
def lampBad (b : Bytes) : Option Nat :=
  let nj := u b 2 1
  let top := nj * u b 4 2
  if u b 0 1 < 1 || u b 0 1 > 63 then some 0
  else if u b 1 1 = 0 then some 1
  else if nj ≠ 0 && (u b 4 2 < 1000 || u b 4 2 > 5000) then some 4
  else if i16 b 6 < -10000 || i16 b 6 > 0 then some 6
  else if u b 8 2 < 1 || u b 8 2 > 10000 then some 8
  else if nj ≠ 0 && u b 10 2 ≥ top then some 10
  else if nj ≠ 0 && u b 12 2 > top then some 12
  else none

/-- LAMP_PROFILE and LAMP_ASSIGN; `occ` is the occurrence of the TLV in the command. -/
def segLamp (id : Nat) (b : Bytes) (occ : Nat) (s : State) : Except Err State :=
  let x := u b 0 1
  match id with
  | 0x01B0 => match lampBad b with
    | some o => .error (eRange id (occ * 256 + o))
    | none =>
      let p : CheckProf := { p := u b 1 1, nj := u b 2 1, vj := u b 4 2, tc := i16 b 6, imin := u b 8 2, vshort := u b 10 2, vtol := u b 12 2,
                             vspread := u b 14 2 }
      .ok (s.lm (fun l => { l with
        profs := tset l.profs x p, fresh := l.fresh ++ (l.assign.filter (fun e => e.2 == x)).map (·.1) }))
  | _ => do
    let hs := handleList b
    need (1 ≤ hs.length && hs.length ≤ 256 && (x = 0 || (tget s.lmp.profs x).isSome)) (eRange id)
    match hs.zipIdx.find? (fun e => hRealm e.1 != 0 || !s.isLamp e.1) with
    | some e => .error (eRange id e.2)
    | none => return s.lm (fun l => { l with assign := hs.foldl (fun m h => tput 0 m h x) l.assign, fresh := l.fresh ++ hs })

/-- GROUP_DEFINE. -/
def execGroupDefine (src : Src) (tlvs : List Tlv) (s : State) : Outcome := execOp opGroupDefine src tlvs s
/-- GROUP_MEMBERS. -/
def execGroupMembers (src : Src) (tlvs : List Tlv) (s : State) : Outcome := execOp opGroupMembers src tlvs s
/-- AON_DEFINE. -/
def execAonDefine (src : Src) (tlvs : List Tlv) (s : State) : Outcome := execOp opAonDefine src tlvs s
/-- AON_CLEAR. -/
def execAonClear (src : Src) (tlvs : List Tlv) (s : State) : Outcome := execOp opAonClear src tlvs s
/-- TELEMETRY_READ. -/
def execTelemetryRead (src : Src) (tlvs : List Tlv) (s : State) : Outcome := execOp opTelemetryRead src tlvs s
/-- TELEMETRY_STREAM. -/
def execTelemetryStream (src : Src) (tlvs : List Tlv) (s : State) : Outcome := execOp opTelemetryStream src tlvs s

end Sys2Proof.Machine
end

