-- ==== Sys2Proof/Machine/View.lean ====
section
/-!
DEFINITION. Machine/View.lean: local endpoint numbers, endpoint rights and what their change does (R164 to R170, R177, R186, R323, R329, R429).
-/
namespace Sys2Proof.Machine

/-- The ESEQ an event would take; none where its family is disabled or the queue is full (R148, R149, R165). -/
def State.nextEseq (s : State) (key code : Nat) : Option Nat :=
  let q := tgetD s.ses.evq key {}
  if evEnabled q code && q.recs.length < 4096 then some q.next else none

/-- Take handles out of a tenant's view and add others: voids keep their numbers, new endpoints take the next ones, and EP_MAP_CHANGED is
raised (R164, R186). The owner's view has no numbers of its own (R160). -/
def changeView (v : Nat) (gone new : List Nat) (s : State) : State :=
  match s.vctl? v with
  | none => s
  | some c =>
    if v = 0 || (gone.isEmpty && new.isEmpty) then s
    else
      let e := s.nextEseq v 0x0011
      let n := c.view.length
      let voids := (c.view.zipIdx.filter (fun x => match x.1 with | .live h => gone.contains h | .void _ => false)).map (·.2)
      let view := c.view.map (fun x => match x with | .live h => if gone.contains h then LocalEp.void e else x | _ => x) ++ new.map LocalEp.live
      let s := s.modVctl v (fun c => { c with view := view })
      s.raise v 0x0011 ([tCount view.length]
        ++ (if voids.isEmpty then [] else [(0x0100, voids.flatMap (beBytes 4))])
        ++ (if new.isEmpty then [] else [(0x0101, beBytes 4 n ++ beBytes 4 new.length)]))

/-- Endpoint rights with their implications: every right needs VIEW (R167). -/
def impliedEp (r : Nat) : Nat := if r = 0 then 0 else setBit r 0

/-- Module-wide rights with their implications: METER_RAW needs METER_READ (R167). -/
def impliedMod (r : Nat) : Nat := if bit r 2 then setBit r 1 else r

/-- What the loss of endpoint rights does at its commit: leases, all-or-none groups, streams, domains (R177, R323, R329, R429). -/
def loseRights (v h old new : Nat) (s : State) : State :=
  let lost (k : Nat) : Bool := bit old k && !bit new k
  let s := if lost 1 && s.holdsLease v h then endLease h (some (if bit new 0 then 2 else 3)) s else s
  let groups := (s.groupsOf v h).filter (fun g => (s.aon? v g).isSome)
  let s := s.modVctl v (fun c => { c with rights := tput 0 c.rights h new })
  let s := if lost 2 then groups.foldl (fun s g => aonLeft v g h s) s else s
  let s := if lost 4 then s.lm (fun l => { l with streams := dropStream v [h] l.streams }) else s
  if lost 0 then detachEps v [h] s else s

/-- Give a tenant these rights on these handles, then change its view accordingly; `mk` gives the new rights from the old ones. -/
def setEpRights (v : Nat) (hs : List Nat) (mk : Nat → Nat) (s : State) : State :=
  let change := (hs.map (fun h => (h, s.epRights v h, mk (s.epRights v h)))).filter (fun e => e.2.1 != e.2.2)
  let gone := (change.filter (fun e => bit e.2.1 0 && !bit e.2.2 0)).map (·.1)
  let new := (change.filter (fun e => !bit e.2.1 0 && bit e.2.2 0)).map (·.1)
  changeView v gone new (change.foldl (fun s e => loseRights v e.1 e.2.1 e.2.2 s) s)

/-- An endpoint leaves the module: every right on its handle ends, its lease and its sources go, and its local numbers become void
(R164, R208, R463). -/
def forgetHandle (h : Nat) (s : State) : State :=
  let s := endLease h (some 3) s
  let s := (s.ten.vctls.map (·.1)).foldl (fun s v => if v = 0 then s else setEpRights v [h] (fun _ => 0) s) s
  let s := detachHandle h s
  let s := endSrcs h (fun _ => true) s
  s.lm (fun l => { l with streams := dropStream 0 [h] l.streams })

end Sys2Proof.Machine
end

