-- ==== Sys2Proof/Machine/Air.lean ====
section
/-!
DEFINITION. Machine/Air.lean: the air unit: regions, reception, acknowledgement, security, queues, dwell, light, raw frames, Vemer mode
(R65, R66, R445 to R474).
-/
/-! ### The fields of a received frame (R451, R452, R460) -/

namespace Sys2Proof
open Machine

/-- L. -/
def AirRx.len (r : AirRx) : Nat := r.psdu.length

/-- The FCS is valid. -/
def AirRx.fcs (r : AirRx) : Bool := beNat (r.psdu.drop (r.len - 4)) == crc32 (r.psdu.take (r.len - 4))

/-- TYPE. -/
def AirRx.ty (r : AirRx) : Nat := u r.psdu 0 1 % 8

/-- ACK_REQ. -/
def AirRx.ackReq (r : AirRx) : Bool := bit (u r.psdu 0 1) 3

/-- TTL. -/
def AirRx.ttl (r : AirRx) : Nat := u r.psdu 0 1 / 16

/-- The version. -/
def AirRx.ver (r : AirRx) : Nat := u r.psdu 1 1 % 16

/-- RELAYED. -/
def AirRx.relayed (r : AirRx) : Bool := bit (u r.psdu 1 1) 4

/-- MSGID. -/
def AirRx.msgid (r : AirRx) : Nat := u r.psdu 2 2

/-- ORIGIN. -/
def AirRx.origin (r : AirRx) : Nat := u r.psdu 4 5 / 2 ^ 20

/-- DEST. -/
def AirRx.dest (r : AirRx) : Nat := u r.psdu 4 5 % 2 ^ 20

/-- FCNT. -/
def AirRx.fcnt (r : AirRx) : Nat := u r.psdu 9 4

/-- The ORIGIN that an ACK echoes. -/
def AirRx.ackOf (r : AirRx) : Nat := u r.psdu 4 3 / 16

/-- The EUI-64 of a JOIN_REQ. -/
def AirRx.eui (r : AirRx) : Nat := u r.psdu 13 8

/-- The length that the layout of its type gives a frame: an ACK has 11 octets, a DATA frame at least a MIC and no payload, a JOIN_REQ an EUI-64. A
frame of another length counts as BAD_PHY (DESIGN CHOICE, log 87). -/
def AirRx.shaped (r : AirRx) : Bool :=
  if r.ty = 1 then r.len == 11
  else if r.ty = 2 then r.len == 33
  else r.len ≥ (if r.ver = 0 then 21 else 25)

/-- The decrypted payload of an uplink DATA frame (R460). -/
inductive AirApp where
  /-- MESSAGE -/
  | message (data : Bytes)
  /-- REG_RESP: MSGID of the request, ESTAT, register bytes -/
  | regResp (msgid estat : Nat) (data : Bytes)
  /-- STATUS, its 8 bytes after the type -/
  | status (data : Bytes)
  /-- an unknown type, or one sent in the wrong direction -/
  | other
deriving DecidableEq, Repr

/-- The payload of a DATA frame by its application type; one of another length than its type has is discarded like an unknown type (DESIGN CHOICE, log
87). -/
def AirRx.app (r : AirRx) : AirApp :=
  let p := r.plain
  match p.map (·.toNat) with
  | 2 :: d => if 1 ≤ d.length && d.length ≤ 229 then .message (p.drop 1) else .other
  | 5 :: d =>
    let n := if u p 3 1 = 0 then 4 * u p 4 1 else 0
    if d.length = 4 + n then .regResp (u p 1 2) (u p 3 1) (p.drop 5) else .other
  | 6 :: d => if d.length = 8 then .status (p.drop 1) else .other
  | _ => .other

end Sys2Proof

namespace Sys2Proof.Machine

/-- Change the air unit. -/
def State.ar (s : State) (f : Air → Air) : State := { s with air := f s.air }

/-- Change an endpoint. -/
def State.modAir (s : State) (n : Nat) (f : AirEp → AirEp) : State := s.ar (fun a => { a with eps := tmod a.eps n f })

/-- An antenna port. -/
def State.aport (s : State) (p : Nat) : AirPort := tgetD s.air.ports p {}

/-- Change an antenna port. -/
def State.modAport (s : State) (p : Nat) (f : AirPort → AirPort) : State := s.ar (fun a => { a with ports := tupd a.ports p {} f })

/-- The air unit runs: a powered main domain, the block in service, and a region (R447, R524). -/
def State.airOn (s : State) : Bool := s.pw.main && !s.boot.airOut && s.air.region != 0

/-- The 64-byte directory entry of an air index: all zeros without an enrolment (R459). -/
def State.airEntry (s : State) (n : Nat) : Bytes :=
  match tget s.air.eps n with
  | none => List.replicate 64 0
  | some e =>
    beBytes 8 e.eui ++ beBytes 8 (Config.keyRef n) ++ beBytes 4 e.upHi ++ beBytes 8 e.window ++ beBytes 4 e.down ++ beBytes 4 e.joinCtr
      ++ [byte e.listen, byte e.mode, byte (e.ttlMax + 16 * e.hops), byte (e.bestPort.getD 0 + 64 * b2n e.joined + 128 * b2n e.bestPort.isSome)]
      ++ beIntBytes 1 e.bestRssi ++ [0] ++ beBytes 2 e.fallback ++ beBytes 4 e.lastUp ++ beBytes 2 e.lastCode ++ List.replicate 14 0

/-! ### Regions and channels (R447 to R449) -/

/-- Usable channels of a region (R447). -/
def usableOf (region : Nat) : List Nat :=
  match region with
  | 1 => List.range 28 ++ [29, 30, 32, 34]
  | 2 => List.range 64
  | _ => []

/-- A channel is usable. -/
def State.usable (s : State) (ch : Nat) : Bool := (usableOf s.air.region).contains ch

/-- Sub-band of a channel of region 1: 0 to 5 for A to F (R448). -/
def subBand (ch : Nat) : Nat := if ch ≤ 9 then 0 else if ch ≤ 24 then 1 else if ch ≤ 27 then 2 else if ch ≤ 30 then 3 else if ch ≤ 32 then 4 else 5

/-- Duty cycle of a sub-band in 0.1% (R448). -/
def dutyOf (b : Nat) : Nat := [1, 10, 10, 1, 100, 10].getD b 0

/-- EIRP limit of a channel in 0.1 dBm (R449). -/
def State.eirp (s : State) (ch : Nat) : Int := if s.air.region = 1 then (if subBand ch = 4 then 291 else 161) else 360

/-- Centre of a channel in kHz (R447). -/
def State.centre (s : State) (ch : Nat) : Nat := if s.air.region = 1 then 863100 + 200 * ch else 902200 + 200 * (ch + s.air.usWin)

/-- Conducted power of a port on a channel in dBm (R449). -/
def State.power (s : State) (p ch : Nat) : Int := min 27 (min (s.aport p).cap ((s.eirp ch - (s.aport p).gain) / 10))

/-- The highest conducted power in force on a port, AIR_PORT_CFG.POWER; 0 in region NONE (R474). -/
def State.topPower (s : State) (p : Nat) : Int :=
  match usableOf s.air.region with
  | [] => 0
  | c :: r => r.foldl (fun m k => max m (s.power p k)) (s.power p c)

/-- Time on the air in µs of a PSDU of `l` octets (R445). -/
def airtime (l : Nat) : Nat := (12 + l) * 80

/-! ### Vemer slots (R471) -/

/-- Channel of the slot of a frame number. -/
def VemerCfg.chan (v : VemerCfg) (f : Nat) : Nat := v.chans.getD ((f + v.offset) % 16) 0

/-- The Vemer port, where the mode is on. -/
def State.vport (s : State) : Option Nat := s.air.vemer.map (·.port)

/-- The frame numbers by which µs of network time are slots (R9, R471). -/
def slotOf (t : Nat) : Nat := t / 10000

/-- A transmission from `t` for `d` µs, with its acknowledgement, fits its slot (R471). -/
def slotFits (t d : Nat) : Bool := t % 10000 ≥ 500 && t % 10000 + d ≤ 9500

/-! ### Ports in time (R450, R454) -/

/-- Two spans of time overlap. -/
def overlaps (a b c d : Nat) : Bool := a < d && c < b

/-- Time of an acknowledgement on the air (R452). -/
def ackTime : Nat := airtime 11

/-- No transmission or allocated window of the port overlaps the span. -/
def State.portFree (s : State) (p t e : Nat) : Bool :=
  !s.air.onAir.any (fun x => x.port == p && overlaps x.start x.stop t e) && !s.air.acks.any (fun x => x.port == p && overlaps x.start (x.start + ackTime) t e)

/-- No other port transmits, or will acknowledge, on the channel during the span. -/
def State.chanFree (s : State) (p ch t e : Nat) : Bool :=
  !s.air.onAir.any (fun x => x.port != p && x.ch == ch && overlaps x.start x.stop t e)
    && !s.air.acks.any (fun x => x.port != p && x.ch == ch && overlaps x.start (x.start + ackTime) t e)

/-- The transmitter of a port is enabled (R66, R454). -/
def State.txOn (s : State) (p : Nat) : Bool := p < 4 && (s.aport p).en && !(s.aport p).fault

/-! ### The dwell governor (R468) -/

/-- The part of a span that falls in another. -/
def spanIn (a b lo hi : Nat) : Nat := min b hi - max a lo

/-- Dwell share of a payer: a vCtl's quota, 100 for the module (R171, R468). -/
def State.shareOf (s : State) (payer : Nat) : Nat := if payer = 4096 then 100 else ((s.vctl? payer).map (·.dwellNow)).getD 0

/-- Window of the governor in µs. -/
def State.dwellWin (s : State) : Nat := if s.air.region = 1 then 3600000000 else 20000000

/-- Two channels share a budget: one channel in region 2, one sub-band in region 1. -/
def State.sameBudget (s : State) (a b : Nat) : Bool := if s.air.region = 1 then subBand a == subBand b else a == b

/-- A payer's transmissions on a channel's budget in the window that ends at `e`, allocated acknowledgements of the module included, in µs. -/
def State.dwellUsed (s : State) (payer ch e : Nat) : Nat :=
  let lo := e - s.dwellWin
  ((s.air.onAir.filter (fun x => x.payer == payer && s.sameBudget x.ch ch)).map (fun x => spanIn x.start x.stop lo e)).foldl (· + ·) 0
    + (if payer = 4096 then ((s.air.acks.filter (fun x => s.sameBudget x.ch ch)).map (fun x => spanIn x.start (x.start + ackTime) lo e)).foldl (· + ·) 0 else 0)

/-- Budget of a payer on a channel in µs. -/
def State.dwellBudget (s : State) (payer ch : Nat) : Nat :=
  if s.air.region = 1 then 3600 * dutyOf (subBand ch) * s.shareOf payer
  else if s.air.region = 2 then 400 * s.shareOf payer
  else 0

/-- The governor admits a transmission of `d` µs from `t`. -/
def State.dwellOk (s : State) (payer ch t d : Nat) : Bool := s.dwellUsed payer ch (t + d) + d ≤ s.dwellBudget payer ch

/-- Record a transmission; what the governor can no longer see is forgotten. -/
def recordTx (x : AirOn) (s : State) : State :=
  s.ar (fun a => { a with onAir := (a.onAir.filter (fun y => !y.ended || y.stop + 3600000000 > x.start)) ++ [x] })

/-! ### Queues (R465) -/

/-- Rank of an entry in the order of R465. -/
def AirTx.rank (e : AirTx) : Nat × Nat × Nat :=
  if e.item = 5 then (5, e.payer.getD 0, e.id) else (e.item, e.since, e.handle.getD 0)

/-- Order of ranks. -/
def rankLe (a b : Nat × Nat × Nat) : Bool := a.1 < b.1 || (a.1 == b.1 && (a.2.1 < b.2.1 || (a.2.1 == b.2.1 && a.2.2 ≤ b.2.2)))

/-- Insert an entry in the order of R465. -/
def insTx (e : AirTx) : List AirTx → List AirTx
  | [] => [e]
  | x :: r => if rankLe x.rank e.rank then x :: insTx e r else e :: x :: r

/-- Queue a frame. -/
def airQueue (e : AirTx) (s : State) : State := s.ar (fun a => { a with q := insTx { e with id := a.nextId } a.q, nextId := a.nextId + 1 })

/-- Change a queued frame. -/
def State.modTx (s : State) (id : Nat) (f : AirTx → AirTx) : State := s.ar (fun a => { a with q := a.q.map (fun e => if e.id = id then f e else e) })

/-- Remove a queued frame. -/
def State.dropTx (s : State) (id : Nat) : State := s.ar (fun a => { a with q := a.q.filter (fun e => e.id != id) })

/-- A queued frame. -/
def State.tx? (s : State) (id : Nat) : Option AirTx := s.air.q.find? (fun e => e.id == id)

/-- The RESULT of a queued command, to its series while that stands (R146). -/
def airResult (e : AirTx) (st : Nat) (tlvs : List OTlv) (s : State) : State :=
  match e.cmd with
  | some (k, q, i) => if k ≥ 0x10000 || s.active k then s.result k q i st tlvs else s
  | none => s

/-- The endpoint can be sent to: joined, below the counter limit, and, a Vemer node, with Vemer mode on (R458, R461, R471). -/
def State.airReach (s : State) (e : AirEp) : Bool := e.joined && e.down < 0xFFFF0000 && (!e.vemer || s.air.vemer.isSome)

/-! ### Light (R467) -/

/-- The code that R284 chooses for dispatch. -/
def State.dispatchCode (s : State) (h : Nat) : Nat := (s.overlaid h).getD (s.backCode h)

/-- The payer of a LIGHT frame: the vCtl of the base source at rank SCHEDULE, TENANT or OWNER, otherwise the module (R467). -/
def State.lightPayer (s : State) (h : Nat) : Option Nat :=
  if (s.overlaid h).isSome || s.slt.lifted.contains h || s.att.active.any (fun e => e.2.1 == h) then none
  else match baseOf (s.sources h) with
    | some b => if b.rank ≤ 2 then some b.vctl else none
    | none => none

/-- A LIGHT frame of the endpoint that waits, urgent ones apart. -/
def State.waitingLight (s : State) (h : Nat) : Option AirTx :=
  s.air.q.find? (fun e => e.handle == some h && e.item == 4 && e.phase == .waiting && (match e.kind with | .light _ _ => true | _ => false))

/-- Queue a LIGHT frame, or replace the code of the one that waits (R467). -/
def queueLight (h code act : Nat) (payer : Option Nat) (s : State) : State :=
  match s.waitingLight h with
  | some e => s.modTx e.id (fun e => { e with kind := .light code act, payer := payer })
  | none => airQueue { id := 0, item := 4, handle := some h, payer := payer, kind := .light code act, since := s.frm.now, retries := 2 } s

/-- AIR_LIGHT_QUEUE: at the freeze, every joined air lantern whose dispatch code differs from the code last sent (R467). -/
def airLightQueue (s : State) : State :=
  s.air.eps.foldl (fun s e =>
    let h := mkAir e.1
    let code := s.dispatchCode h
    let stale := (s.waitingLight h).isSome
    if !e.2.lighting || !s.airReach e.2 || (code == e.2.lastCode && !stale) then s
    else queueLight h code ((s.frm.now + 1) * 10000) (s.lightPayer h) s) s

/-- An urgent LIGHT frame with delay 0 for each air lantern written into the overlay (R467). -/
def airUrgent (hs : List Nat) (s : State) : State :=
  hs.foldl (fun s h => match (if hRealm h = 1 then tget s.air.eps (hAir h) else none), s.overlaid h with
    | some e, some code =>
      if e.lighting && s.airReach e then
        airQueue { id := 0, item := 2, handle := some h, payer := none, kind := .light code 0, since := s.frm.now, retries := 2 } s
      else s
    | _, _ => s) s

/-- AIR_LIGHT_REFRESH: no LIGHT frame for half the fallback time: the current code, paid by the module (R467). -/
def execAirLightRefresh (n : Nat) (s : State) : Outcome :=
  done s (fun s => match tget s.air.eps n with
    | some e =>
      guardS (s.airOn && e.lighting && s.airReach e && e.lastLight + e.fallback * 3000 ≤ s.frm.now && (s.waitingLight (mkAir n)).isNone)
        (queueLight (mkAir n) (s.dispatchCode (mkAir n)) 0 none) s
    | none => s)

/-! ### Sending (R456, R464 to R466) -/

/-- Length L of the frame of a queued entry for its endpoint (R451, R460, R471). -/
def txLen (vemer : Bool) (k : AirKind) : Nat :=
  let dataLen (n : Nat) : Nat := 13 + n + (if vemer then 4 else 8) + 4
  match k with
  | .light _ _ => dataLen 7
  | .rejoin => dataLen 1
  | .message d => dataLen (1 + d.length)
  | .regRead _ _ => dataLen 4
  | .regWrite _ n _ => dataLen (4 + 4 * n)
  | .raw _ _ p => p.length + 4

/-- The application payload of a queued entry; a LIGHT carries its delay (R460). -/
def txPayload (k : AirKind) (delay : Nat) : Bytes :=
  match k with
  | .light c _ => 0x01 :: beBytes 2 c ++ beBytes 4 delay
  | .rejoin => [0x07]
  | .message d => 0x02 :: d
  | .regRead a n => 0x03 :: beBytes 2 a ++ [byte n]
  | .regWrite a n d => 0x04 :: beBytes 2 a ++ [byte n] ++ d
  | .raw _ _ p => p

/-! ### Frames (R451, R452, R457, R462) -/

/-- A PSDU: its octets and the CRC-32 of the PHY (R445; PRESUMED the CRC of R54, log 87). -/
def withFcs (b : Bytes) : Bytes := b ++ beBytes 4 (crc32 b)

/-- The fields of a frame before its BODY. -/
structure AirHead where
  /-- TYPE -/
  ty : Nat
  /-- ACK_REQ -/
  ackReq : Bool
  /-- TTL -/
  ttl : Nat
  /-- version -/
  ver : Nat
  /-- MSGID -/
  msgid : Nat
  /-- DEST; ORIGIN is the module -/
  dest : Nat
  /-- FCNT -/
  fcnt : Nat
deriving DecidableEq, Repr

/-- ADDR of a frame of the module. -/
def addrOf (dest : Nat) : Bytes := beBytes 5 (0xFFFFF * 2 ^ 20 + dest)

/-- Bytes 0 to 12. -/
def headBytes (h : AirHead) : Bytes :=
  [byte (h.ty + 8 * b2n h.ackReq + 16 * h.ttl), byte h.ver] ++ beBytes 2 h.msgid ++ addrOf h.dest ++ beBytes 4 h.fcnt

/-- The nonce of a frame from the module. -/
def airNonce (h : AirHead) : Bytes := addrOf h.dest ++ beBytes 4 h.fcnt ++ beBytes 2 h.msgid ++ [1, 0]

/-- A protected frame of the module: header, encrypted payload and MIC, FCS. A JOIN_ACCEPT is protected in the same way under the device key (DEDUCED,
log 87). -/
def airFrame (key : Bytes) (h : AirHead) (plain : Bytes) : Bytes :=
  let m := if h.ver = 0 then 4 else 8
  withFcs (headBytes h ++ beBytes (plain.length + m) (Config.aesCcm key (airNonce h) (headBytes { h with ackReq := false, ttl := 0 }) plain m))

/-- An ACK (R452). -/
def ackFrame (ver msgid origin : Nat) : Bytes := withFcs ([1, byte ver] ++ beBytes 2 msgid ++ beBytes 3 (origin * 16))

/-- A frame leaves a port. -/
def State.airSend (s : State) (p ch : Nat) (psdu : Bytes) : State := s.send .airTx p [ch, s.centre ch, (s.power p ch + 128).toNat] psdu

/-- The channel on which an entry may start at `t`, if it may (R464, R471). -/
def State.txChan (s : State) (e : AirTx) (t : Nat) : Option Nat :=
  match e.kind, e.handle with
  | .raw _ ch _, _ => some ch
  | _, some h => match tget s.air.eps (hAir h) with
    | none => none
    | some x =>
      if !s.airReach x then none
      else if x.vemer then s.air.vemer.map (fun v => v.chan (slotOf t))
      else if bit x.mode 0 then match e.rel with
        | some (u, ch) => if u + 5000 ≤ t && t ≤ u + 55000 then some ch else none
        | none => none
      else some x.listen
  | _, none => none

/-- The ports an entry may use, in order of preference (R464, R469, R471). -/
def State.txPorts (s : State) (e : AirTx) : List Nat :=
  let native := (List.range 4).filter (fun p => s.vport != some p)
  match e.kind, e.handle with
  | .raw p _ _, _ => if p < 4 then native.filter (· == p) else native
  | _, some h => match tget s.air.eps (hAir h) with
    | none => []
    | some x => if x.vemer then s.vport.toList else (x.bestPort.toList.filter native.contains) ++ native
  | _, none => []

/-- At most three ports carry frames other than acknowledgements at one time (R450). -/
def State.portsLeft (s : State) (t e : Nat) : Bool :=
  (sortNat ((s.air.onAir.filter (fun x => !x.ack && overlaps x.start x.stop t e)).map (·.port))).length < 3

/-- A free MSGID: none used in the last 6,000 frames (R456). -/
def State.msgFree (s : State) : Bool := match tget s.air.msgUse s.air.nextMsg with | some f => f + 6000 ≤ s.frm.now | none => true

/-- Where an entry may start at `t`, dwell apart: its port, channel, and time on the air. -/
def State.txSpot (s : State) (e : AirTx) (t : Nat) : Option (Nat × Nat × Nat) :=
  let vemer := ((e.handle.bind (fun h => tget s.air.eps (hAir h))).map (·.vemer)).getD false
  let d := airtime (txLen vemer e.kind)
  match s.txChan e t with
  | none => none
  | some ch =>
    if e.phase != .waiting || !s.usable ch || !s.msgFree || !s.portsLeft t (t + d) then none
    else if vemer && !slotFits t (d + 1000 + ackTime) then none
    else ((s.txPorts e).find? (fun p => s.txOn p && s.portFree p t (t + d) && s.chanFree p ch t (t + d))).map (fun p => (p, ch, d))

/-- Code of a payer: 4,096 the module. -/
def payerCode (p : Option Nat) : Nat := p.getD 4096

/-- An entry waits for its payer's budget: AIR_DWELL_WAIT for the first in 100 frames, URG_WAIT_SEEN for an urgent one (R468, R474). -/
def dwellWait (e : AirTx) (ch : Nat) (s : State) : State :=
  let s := if e.item = 2 then s.setFlag aAirFlags 3 else s
  match e.payer with
  | some v =>
    if due100 (tget s.air.dwellEv v) s.frm.now then
      (s.ar (fun a => { a with dwellEv := tset a.dwellEv v s.frm.now })).raise v 0x0706 [tCode ch]
    else s
  | none => s

/-- Start an entry on a port. -/
def startTx (e : AirTx) (p ch d t : Nat) (s : State) : State :=
  let msg := s.air.nextMsg
  let s := s.ar (fun a => { a with nextMsg := (msg + 1) % 65536, msgUse := tset a.msgUse msg s.frm.now })
  let s := recordTx ⟨payerCode e.payer, ch, p, t, t + d, false, some e.id, false⟩ s
  let s := s.modTx e.id (fun e => { e with phase := .sending, msgids := e.msgids ++ [msg], lastTx := s.frm.now })
  match e.kind, e.handle with
  | .raw _ _ psdu, _ => s.airSend p ch (withFcs psdu)
  | k, some h => match tget s.air.eps (hAir h) with
    | none => s
    | some x =>
      let (delay, code) : Nat × Option Nat := match k with
        | .light c act => (act - (t + d), some c)
        | _ => (0, none)
      let s := s.modAir (hAir h) (fun x => { x with
        down := x.down + 1,
        lastCode := code.getD x.lastCode,
        lastLight := if code.isSome then s.frm.now else x.lastLight })
      s.airSend p ch (airFrame x.session ⟨0, x.hops == 0, x.hops, if x.vemer then 0 else 1, msg, h, x.down + 1⟩ (txPayload k delay))
  | _, none => s

/-- Try the queued frames in order: the first that finds a port, a channel and its budget starts (R465). -/
def tryStart (t : Nat) : List AirTx → State → State
  | [], s => s
  | e :: r, s => match s.txSpot e t with
    | none => tryStart t r s
    | some (p, ch, d) =>
      if s.dwellOk (payerCode e.payer) ch t d then startTx e p ch d t s
      else tryStart t r (dwellWait e ch s)

/-- AIR_TX_START at `t` µs. -/
def execAirTxStart (t : Nat) (s : State) : Outcome := done s (fun s => guardS s.airOn (tryStart t s.air.q) s)

/-- A queued frame has left the antenna (R466, R467, R469). -/
def sentTx (e : AirTx) (s : State) : State :=
  let direct := match e.handle.bind (fun h => tget s.air.eps (hAir h)) with
    | some x => x.hops == 0
    | none => false
  match e.kind with
  | .raw _ _ _ => airResult e stOk [] (s.dropTx e.id)
  | .rejoin => s.dropTx e.id
  | .light _ _ => if direct then s.modTx e.id (fun e => { e with phase := .unacked }) else s.dropTx e.id
  | .regRead _ _ => s.modTx e.id (fun e => { e with phase := if direct then .unacked else .resp })
  | _ => if direct then s.modTx e.id (fun e => { e with phase := .unacked }) else airResult e stOk [] (s.dropTx e.id)

/-- AIR_TX_END of a port at `t` µs with the measured VSWR × 10: above 3:1 the transmitter is disabled and ANTENNA_FAULT raised (R66, R450). -/
def execAirTxEnd (port t vswr : Nat) (s : State) : Outcome :=
  done s (fun s => match s.air.onAir.find? (fun x => x.port == port && !x.ended && x.stop ≤ t) with
    | none => s
    | some x =>
      let s := s.ar (fun a => { a with onAir := a.onAir.map (fun y => if y.port = port && y.start = x.start then { y with ended := true } else y) })
      let s := s.modAport port (fun p => { p with vswr := min vswr 255 })
      let s := match x.qid.bind s.tx? with
        | some e => sentTx e s
        | none => s
      if vswr > 30 then (s.modAport port (fun p => { p with en := false, fault := true })).owner 0x0F03 [tPort (0x0201 + port)] else s)

/-- AIR_RETRY: an unacknowledged frame is sent again, or fails after its retries (R466, R467). -/
def retryTx (e : AirTx) (s : State) : State :=
  if e.phase != .unacked then s
  else if e.retries > 0 then s.modTx e.id (fun e => { e with phase := .waiting, retries := e.retries - 1, rel := none })
  else match e.kind with
    | .regRead _ _ => s.modTx e.id (fun e => { e with phase := .resp })
    | .light _ _ => s.dropTx e.id
    | _ => airResult e stEndpointUnreachable [] (s.dropTx e.id)

/-- AIR_RETRY of queued frame `id`: 50 to 150 ms after the transmission, at a delay chosen at random (R466). -/
def execAirRetry (id : Nat) (s : State) : Outcome :=
  done s (fun s => match s.tx? id with | some e => guardS (s.airOn && e.lastTx + 5 ≤ s.frm.now) (retryTx e) s | none => s)

/-- AIR_REG_RESP_TIMEOUT: 2 s after the last transmission of a read (R466). -/
def execAirRegRespTimeout (id : Nat) (s : State) : Outcome :=
  done s (fun s => match s.tx? id with
    | some e => guardS ((match e.kind with | .regRead _ _ => true | _ => false) && (e.phase == .resp || e.phase == .unacked) && e.lastTx + 200 ≤ s.frm.now)
        (fun s => airResult e stBridgeTimeout [] (s.dropTx id)) s
    | none => s)

/-- AIR_HOLD_EXPIRY: a frame held for a WINDOW endpoint exceeds its hold time (R466). -/
def execAirHoldExpiry (id : Nat) (s : State) : Outcome :=
  done s (fun s => match s.tx? id with
    | some e =>
      let window := match e.handle.bind (fun h => tget s.air.eps (hAir h)) with | some x => bit x.mode 0 | none => false
      guardS (window && e.cmd.isSome && e.phase == .waiting && e.since + e.hold ≤ s.frm.now)
        (fun s => airResult e stEndpointUnreachable [] (s.dropTx id)) s
    | none => s)

/-- AIR_RAW_TX_EXPIRY: a raw frame not sent within 100 frames (R469). -/
def execAirRawTxExpiry (id : Nat) (s : State) : Outcome :=
  done s (fun s => match s.tx? id with
    | some e => guardS ((match e.kind with | .raw _ _ _ => true | _ => false) && e.phase == .waiting && e.since + 100 ≤ s.frm.now)
        (fun s => airResult e stQuotaExceeded [] (s.dropTx id)) s
    | none => s)

/-! ### Reception (R445, R450 to R458, R462) -/

/-- Count a frame discarded under R445 or R452. -/
def badPhy (s : State) : State := s.count aAirSec2 0 12
/-- Count a frame discarded under R451. -/
def badAddr (s : State) : State := s.count aAirSec2 12 10
/-- Count a payload discarded under R460. -/
def badApp (s : State) : State := s.count aAirSec2 22 10
/-- Count a frame discarded under R457 or R462. -/
def badAuth (s : State) : State := s.count aAirSec 0 16
/-- Count a frame discarded under R458. -/
def badDup (s : State) : State := s.count aAirSec 16 16

/-- The port transmitted, or was still muted, while the frame was on the air (R450). -/
def State.mutedAt (s : State) (p t e : Nat) : Bool := s.air.onAir.any (fun x => x.port == p && overlaps x.start (x.stop + 100) t e)

/-- The copies that reach a demodulator; lost ones are counted per port (R65, R450). -/
def liveCopies (r : AirRx) (s : State) : State × List AirCopy :=
  let t := r.endT - airtime r.len
  let onCh := s.air.onAir.any (fun x => x.ch == r.ch && overlaps x.start x.stop t r.endT)
  r.copies.foldl (fun (acc : State × List AirCopy) c =>
    let (s, l) := acc
    if s.mutedAt c.port t r.endT then (s.modAport c.port (fun p => { p with muted := satAdd 16 p.muted 1 }), l)
    else if c.blocked then ((s.modAport c.port (fun p => { p with blocked := satAdd 16 p.blocked 1 })).setFlag aAirFlags 2, l)
    else if onCh then (s, l)
    else (s, l ++ [c])) (s, [])

/-- The best copy: the highest RSSI, the lowest port on a tie (R453, R454). -/
def bestCopy : List AirCopy → Option AirCopy
  | [] => none
  | c :: r => match bestCopy r with
    | none => some c
    | some b => if b.rssi > c.rssi then some b else some c

/-- RSSI of a port for a reception; a port that did not hear it comes after every port that did (R454, log 29). -/
def rssiAt (cs : List AirCopy) (p : Nat) : Int := ((cs.find? (fun c => c.port == p)).map (·.rssi)).getD (-1000)

/-- The free port that takes an acknowledgement window (R454). -/
def State.ackPort (s : State) (r : AirRx) (cs : List AirCopy) : Option Nat :=
  let t := r.endT + 1000
  let cand := (List.range 4).filter (fun p => (if r.ver = 0 then s.vport == some p else s.vport != some p)
    && s.txOn p && s.portFree p t (t + ackTime) && s.chanFree p r.ch t (t + ackTime))
  cand.foldl (fun b p => match b with
    | none => some p
    | some x => if rssiAt cs p > rssiAt cs x then some p else some x) none

/-- Allocate the acknowledgement window of a DATA reception (R453, R454). -/
def allocAck (r : AirRx) (cs : List AirCopy) (s : State) : State :=
  match s.ackPort r cs with
  | none => (s.count aAirAck 16 8).setFlag aAirFlags 0
  | some p =>
    if s.dwellOk 4096 r.ch (r.endT + 1000) ackTime then
      s.ar (fun a => { a with acks := a.acks ++ [⟨p, r.ch, r.endT + 1000, r.origin, r.msgid⟩] })
    else (s.count aAirAck 24 8).setFlag aAirFlags 1

/-- AIR_ACK_TX: the allocated window that begins at `t` µs (R453). -/
def execAirAckTx (t : Nat) (s : State) : Outcome :=
  done s (fun s => match s.air.acks.find? (fun a => a.start == t) with
    | none => s
    | some w =>
      let s := s.ar (fun a => { a with acks := a.acks.filter (fun x => x != w), ackSent := (a.ackSent + 1) % 2 ^ 16 })
      let s := recordTx ⟨4096, w.ch, w.port, t, t + ackTime, true, none, false⟩ s
      s.airSend w.port w.ch (ackFrame (if s.vport = some w.port then 0 else 1) w.msgid w.origin))

/-- An endpoint by its air handle. -/
def State.airEp? (s : State) (h : Nat) : Option AirEp := if hRealm h = 1 then tget s.air.eps (hAir h) else none

/-- An uplink counter is accepted, or seen or too old (R458). -/
def fcntFresh (e : AirEp) (f : Nat) : Bool := f > e.upHi || (f < e.upHi && e.upHi - f ≤ 64 && f > 0 && !bit e.window (e.upHi - 1 - f))

/-- The window after a counter is accepted (R458). -/
def acceptFcnt (f : Nat) (e : AirEp) : AirEp :=
  if f > e.upHi then
    let d := f - e.upHi
    { e with upHi := f, window := if e.upHi = 0 then 0 else (e.window * 2 ^ d + 2 ^ (d - 1)) % 2 ^ 64 }
  else { e with window := setBit e.window (e.upHi - 1 - f) }

/-- A copy of the latest authenticated uplink teaches h and the best port (R456, R459). -/
def learnCopy (r : AirRx) (cs : List AirCopy) (e : AirEp) : AirEp :=
  let ttl := if r.fcnt = e.upTtl.1 then max e.upTtl.2 r.ttl else r.ttl
  let e := { e with upTtl := (r.fcnt, ttl), hops := if e.vemer then 0 else e.ttlMax - ttl }
  if r.relayed then e
  else match bestCopy cs with
    | some c => { e with bestPort := some c.port, bestRssi := c.rssi }
    | none => e

/-- An event of an air endpoint, to every vCtl that holds EVENT on it (R473). -/
def airEvent (h code : Nat) (tlvs : List OTlv) (s : State) : State := s.raiseEp h 4 code (fun l => tEp [l] :: tlvs)

/-- An acknowledgement for a frame of the module (R452, R466). -/
def takeAck (origin msgid : Nat) (s : State) : State :=
  if origin ≠ 0xFFFFF then s
  else match s.air.q.find? (fun e => e.phase == .unacked && e.msgids.contains msgid) with
    | none => s
    | some e => match e.kind with
      | .regRead _ _ => s.modTx e.id (fun e => { e with phase := .resp })
      | .light _ _ => s.dropTx e.id
      | _ => airResult e stOk [] (s.dropTx e.id)

/-- The payload of an authenticated uplink (R460, R466). -/
def takeApp (h : Nat) (x : AirApp) (s : State) : State :=
  match x with
  | .message d => airEvent h 0x0701 [tData d, tCode (((s.airEp? h).map (·.hops)).getD 0)] s
  | .status d => airEvent h 0x0702 [tData d] s
  | .regResp m st d =>
    match s.air.q.find? (fun e => e.handle == some h && e.msgids.contains m && (match e.kind with | .regRead _ _ => true | _ => false)) with
    | none => s
    | some e =>
      if st = 0 then airResult e stOk [tData d] (s.dropTx e.id)
      else airResult e stEndpointError [(0x0166, [byte (if st > 6 then 5 else st)])] (s.dropTx e.id)
  | .other => badApp s

/-- The first authenticated uplink under a key raises AIR_JOINED (R462, R473). -/
def joinedEvent (h : Nat) (e : AirEp) (s : State) : State :=
  if !e.fresh then s
  else
    let s := s.modAir (hAir h) (fun e => { e with fresh := false, everJoined := true })
    s.raiseEp h 4 0x0703 (fun l => [tEp [l], tCode (b2n e.everJoined)])

/-- A DATA frame toward the module (R456 to R460, R464): authenticated or not. -/
def takeData (r : AirRx) (cs : List AirCopy) (s : State) : State × Bool :=
  let h := r.origin
  match s.airEp? h with
  | none => (badAuth s, false)
  | some e =>
    if !e.joined || !r.mic || e.vemer != (r.ver == 0) then (badAuth s, false)
    else if !fcntFresh e r.fcnt then
      (badDup (if r.fcnt = e.upTtl.1 then s.modAir (hAir h) (learnCopy r cs) else s), true)
    else
      let s := s.modAir (hAir h) (fun e => learnCopy r cs { (acceptFcnt r.fcnt e) with lastUp := s.frm.now, silent := false })
      let s := joinedEvent h e s
      let s := if bit e.mode 0 && !r.relayed then
          s.ar (fun a => { a with q := a.q.map (fun t => if t.handle = some h && t.phase = .waiting then { t with rel := some (r.endT, r.ch) } else t) })
        else s
      (takeApp h r.app s, true)

/-- A JOIN_REQ (R462): the salt comes from Flint's generator, and without it the join is not served (R502). -/
def takeJoin (r : AirRx) (cs : List AirCopy) (s : State) : State × Bool :=
  match s.air.eps.find? (fun e => !e.2.vemer && e.2.eui == r.eui) with
  | none => (badAuth s, false)
  | some (n, e) =>
    if !r.mic || r.fcnt ≤ e.joinCtr then (badAuth s, false)
    else if !s.flt.rngOk then (s, true)
    else
      let (x, s) := s.fresh
      let s := s.modAir n (fun e => learnBest cs { e with
        joinCtr := r.fcnt, joined := true, session := beBytes 16 (Config.hkdf256 e.devKey (x % 2 ^ 96) e.eui), upHi := 0, window := 0, down := 0,
        fresh := true, lastUp := s.frm.now, lastLight := s.frm.now, silent := false, upDue := false, downDue := false, upTtl := (0, 0) })
      (s.ar (fun a => { a with joins := a.joins.filter (fun j => j.n != n) ++ [⟨n, r.ch, r.endT, r.msgid, r.fcnt, x % 2 ^ 96⟩] }), true)
where
  /-- The best port of a direct JOIN_REQ. -/
  learnBest (cs : List AirCopy) (e : AirEp) : AirEp :=
    match bestCopy cs with
    | some c => { e with bestPort := some c.port, bestRssi := c.rssi }
    | none => e

/-- An address field that R451 allows. -/
def addrOk (a : Nat) : Bool := hRealm a == 1 || a == 0xFFFFF || a == 0xFFFFE

/-- The words of a captured frame (R470). -/
def captureWords (r : AirRx) (cs : List AirCopy) (auth : Bool) : List Nat :=
  let c := (bestCopy cs).getD ⟨0, 0, false⟩
  let w0 := r.len * 2 ^ 16 + r.ch % 64 * 2 ^ 10 + c.port % 4 * 2 ^ 8 + (c.rssi % 256).toNat
  [w0, r.stamp % 2 ^ 32, b2n r.fcs + 2 * b2n (cs.length > 1) + 4 * b2n auth]
    ++ (chunks 4 (r.psdu ++ List.replicate ((4 - r.psdu.length % 4) % 4) 0)).map beNat

/-- Blocks for the vCtls that capture this frame (R470). -/
def capture (r : AirRx) (cs : List AirCopy) (auth : Bool) (s : State) : State :=
  let sees (v h : Nat) : Bool := hRealm h == 1 && s.hasEp v h 0
  s.air.capture.foldl (fun s e =>
    if e.2 = 1 || (r.fcs && (sees e.1 r.origin || sees e.1 r.dest)) then
      s.qr (fun q => { q with blocks := q.blocks ++ [⟨e.1, true, captureWords r cs auth⟩] })
    else s) s

/-- A reception with at least one live copy: checked, acknowledged, authenticated and dispatched by type. -/
def receive (r : AirRx) (cs : List AirCopy) (s : State) : State × Bool :=
  if !r.fcs || r.len < 11 || r.len > 255 then (badPhy s, false)
  else
    let s := cs.foldl (fun s c => s.modAport c.port (fun p => { p with rx := (p.rx + 1) % 2 ^ 16 })) s
    let vem := cs.any (fun c => s.vport == some c.port)
    let late := slotOf (r.endT - 1) != slotOf (r.endT - airtime r.len)
    if r.ty ≥ 4 || r.ver != (if vem then 0 else 1) || !r.shaped then (badPhy s, false)
    else if vem && (r.ttl != 0 || late || r.ty ≥ 2 || s.air.vemer.map (fun v => v.chan (slotOf (r.endT - 1))) != some r.ch) then (s, false)
    else
      let s := if vem then s.ar (fun a => { a with vemerRx := (a.vemerRx + 1) % 2 ^ 16 }) else s
      if r.ty = 1 then (takeAck r.ackOf r.msgid s, false)
      else if !addrOk r.origin || !addrOk r.dest then (badAddr s, false)
      else if r.ty = 0 then
        if r.dest ≠ 0xFFFFF then (s, false)
        else
          let s := if r.ackReq && !r.relayed then allocAck r cs s else s
          takeData r cs s
      else if r.ty = 2 then (if r.origin = 0xFFFFE && r.dest = 0xFFFFF then takeJoin r cs s else (badAuth s, false))
      else (s, false)

/-- AIR_FRAME_RX. Receptions of one tick come in ascending channel order (R454). -/
def execAirFrameRx (r : AirRx) (s : State) : Outcome :=
  done s (fun s => guardS (s.airOn && s.usable r.ch) (fun s =>
    let (s, cs) := liveCopies r s
    if cs.isEmpty then s
    else
      let (s, auth) := receive r cs (s.ar (fun a => { a with rxFrame := some s.frm.now }))
      capture r cs auth s) s)

/-! ### Joining, silence, counters -/

/-- JOIN_ACCEPT_TX at `t` µs: from 5 to 55 ms after the JOIN_REQ, from the best port where it is free, if a port and dwell are (R462). -/
def execJoinAcceptTx (t : Nat) (s : State) : Outcome :=
  done s (fun s =>
    let s := s.ar (fun a => { a with joins := a.joins.filter (fun j => t ≤ j.endT + 55000) })
    match s.air.joins.find? (fun j => j.endT + 5000 ≤ t) with
    | none => s
    | some j => match tget s.air.eps j.n with
      | none => s.ar (fun a => { a with joins := a.joins.filter (fun x => x.n != j.n) })
      | some e =>
        let d := airtime 43
        let native := (List.range 4).filter (fun p => s.vport != some p)
        let ports := (e.bestPort.toList.filter native.contains) ++ native
        match ports.find? (fun p => s.txOn p && s.portFree p t (t + d) && s.chanFree p j.ch t (t + d)) with
        | none => s
        | some p =>
          if !(s.airOn && s.usable j.ch && s.portsLeft t (t + d) && s.dwellOk 4096 j.ch t d) then s
          else
            let s := s.ar (fun a => { a with joins := a.joins.filter (fun x => x.n != j.n) })
            let s := recordTx ⟨4096, j.ch, p, t, t + d, false, none, false⟩ s
            s.airSend p j.ch (airFrame e.devKey ⟨3, false, e.hops, 1, j.msgid, mkAir j.n, j.fcnt⟩
              (beBytes 12 j.salt ++ [byte e.listen, byte e.ttlMax, byte e.mode] ++ beBytes 2 e.fallback ++ [0])))

/-- AIR_SILENT: no authenticated uplink for the fallback time (R467, R473). -/
def execAirSilent (n : Nat) (s : State) : Outcome :=
  done s (fun s => match tget s.air.eps n with
    | some e => guardS (e.joined && !e.silent && e.lastUp + e.fallback * 6000 ≤ s.frm.now)
        (fun s => airEvent (mkAir n) 0x0704 [tFrame e.lastUp] (s.modAir n (fun e => { e with silent := true }))) s
    | none => s)

/-- AIR_REJOIN_DUE of an endpoint, for its downlink counter or its uplink counter (R458, R473). -/
def execAirRejoinDue (n : Nat) (down : Bool) (s : State) : Outcome :=
  done s (fun s => match tget s.air.eps n with
    | none => s
    | some e =>
      let due := if down then e.down ≥ 0xF0000000 && !e.downDue else e.upHi > 0xF0000000 && !e.upDue
      guardS (e.joined && due) (fun s =>
        let s := s.modAir n (fun e => if down then { e with downDue := true } else { e with upDue := true })
        let s := if down && !e.vemer then
            airQueue { id := 0, item := 3, handle := some (mkAir n), payer := none, kind := .rejoin, since := s.frm.now } s
          else s
        s.owner 0x0705 [tEp [mkAir n], tCode (b2n down)]) s)

/-! ### Commands (R461, R463, R466, R469 to R472) -/

/-- Endpoints a vCtl enrolled. -/
def State.enrolledBy (s : State) (v : Nat) : Nat := (s.air.eps.filter (fun e => e.2.owner == v)).length

/-- The lowest index, with fuel, that is neither enrolled nor freed in the last 6,000 frames (R461). -/
def freeIndexAux (s : State) : Nat → Nat → Nat
  | 0, n => n
  | k + 1, n =>
    if (tget s.air.eps n).isSome || (tget s.air.freed n).any (fun f => s.frm.now < f) then freeIndexAux s k (n + 1) else n

/-- The lowest free air index (R461); 2^18 when none is free. -/
def State.freeIndex (s : State) : Nat := freeIndexAux s (s.air.eps.length + s.air.freed.length) 0

/-- The Vemer address, key and counters of an enrolment. -/
def Cmd.vemerAddr (c : Cmd) : Nat := u ((c.tlv? 0x0216).getD []) 0 4

/-- The index an enrolment takes. -/
def enrolIndex (c : Cmd) (s : State) : Nat := if c.has 0x0216 then hAir c.vemerAddr else s.freeIndex

/-- TLVs that an enrolment needs (R471, R472). -/
def enrolForm (c : Cmd) : Except Err Unit := do
  orMissing (c.has 0x0216 || c.has 0x0210) 0x0210
  orMissing (c.has 0x0216 || c.has 0x0211) 0x0211

/-- Range of the address of an enrolment that a handoff brings (R471, R472). -/
def enrolRange (c : Cmd) : Except Err Unit := do
  let b := (c.tlv? 0x0216).getD []
  need (!c.has 0x0216 || (hRealm c.vemerAddr == 1 && u b 20 4 < 0xFFFF0000 && u b 24 4 < 0xFFFF0000)) (eRange 0x0216)

/-- The refusals of AIR_ENROL (R461, R471). -/
def enrolCheck (c : Cmd) (s : State) : Except Err Unit := do
  let v := c.vctl
  let listen := c.nat 0x0213 0xFF
  let mode := c.nat 0x0212
  need (s.air.region != 0) (eStat stConfigRefused)
  need (c.has 0x0216 || !s.air.eps.any (fun e => !e.2.vemer && e.2.eui == c.nat 0x0210)) (eConfig 0x0210)
  need (!(bit mode 0 && bit mode 1)) (eConfig 0x0212)
  need (listen == 0xFF || s.usable listen) (eConfig 0x0213)
  need (!c.has 0x0216 || (tget s.air.eps (hAir c.vemerAddr)).isNone) (eConfig 0x0216)
  need (s.enrolledBy v < ((s.vctl? v).map (·.q.airEp)).getD 0) (eStat stQuotaExceeded)
  need (enrolIndex c s < 2 ^ 18) (eStat stQuotaExceeded)
  need (!c.has 0x0216 || (s.air.eps.filter (fun e => e.2.vemer)).length < 4096) (eStat stQuotaExceeded)

/-- The listen channel of an enrolment: the automatic one is at index n mod u of the usable channels (R461). -/
def State.listenOf (s : State) (n want : Nat) : Nat :=
  let l := usableOf s.air.region
  if want = 0xFF then l.getD (n % l.length) 0 else want

/-- The endpoint an enrolment makes. -/
def newEp (c : Cmd) (n : Nat) (s : State) : AirEp :=
  let b := (c.tlv? 0x0216).getD []
  let vem := c.has 0x0216
  { lighting := bit (c.nat 0x0212) 1, eui := if vem then 0 else c.nat 0x0210, devKey := if vem then [] else (c.tlv? 0x0211).getD [],
    mode := c.nat 0x0212, listen := s.listenOf n (c.nat 0x0213 0xFF), ttlMax := if vem then 0 else c.nat 0x0214 3, fallback := c.nat 0x0215 15,
    owner := c.vctl, vemer := vem, joined := vem, session := if vem then (b.drop 4).take 16 else [],
    upHi := u b 20 4, down := u b 24 4, lastUp := s.frm.now, lastLight := s.frm.now }

/-- AIR_ENROL (R167, R461, R471). -/
def opAirEnrol : OpInfo :=
  { op := 0x0701, need := .mod 3, cost := fun _ => 2,
    specs := [tFix 0x0210 8 0 (2 ^ 64 - 1), tFix 0x0211 16 0 0, tFix 0x0212 1 0 15, tFix 0x0213 1 0 255, tFix 0x0214 1 0 15, tFix 0x0215 2 1 1440, tByt 0x0216 28 28],
    form := enrolForm, ranges := fun c _ => enrolRange c, accept := enrolCheck,
    commit := fun c s => match enrolCheck c s with
      | .error e => (s, c.err e)
      | .ok _ =>
        let v := c.vctl
        let n := enrolIndex c s
        let h := mkAir n
        let s := s.ar (fun a => { a with eps := tset a.eps n (newEp c n s), freed := terase a.freed n })
        let s := s.defaultPreset h
        if v = 0 then (s, c.ok [tEp [h]])
        else
          let s := setEpRights v [h] (fun _ => 31) s
          let s := (acquireLease v h 0 s).1
          (s, c.ok [tEp ((s.localOf v h).toList)]) }

/-- End an enrolment (R463). -/
def airRemove (n : Nat) (s : State) : State :=
  let s := keepEntries (· != mkAir n) (forgetHandle (mkAir n) s)
  s.ar (fun a => { a with
    eps := terase a.eps n,
    freed := tset (a.freed.filter (fun e => s.frm.now < e.2)) n (s.frm.now + 6000),
    q := a.q.filter (fun e => e.handle != some (mkAir n)),
    joins := a.joins.filter (fun j => j.n != n) })

/-- The command names one air-realm endpoint; another realm is out of range (log 29). -/
def airOne (c : Cmd) : Except Err Unit := need (c.eps.all (fun h => hRealm h == 1)) (eRange 0x0001)

/-- AIR_REMOVE (R463). -/
def opAirRemove : OpInfo :=
  { op := 0x0703, need := .mod 3, specs := [(tLst 0x0001 4 1 1).must], reach := false,
    rights := fun c s => need (c.eps.all (fun h => s.hasEp c.vctl h 2)) (eStat stRightMissing),
    ranges := fun c _ => airOne c,
    accept := fun c s => need (c.eps.all (fun h => (s.airEp? h).isSome)) ⟨stEndpointUnknown, [tDetail 1 0]⟩,
    commit := fun c s => match c.eps with
      | h :: _ => if (s.airEp? h).isSome then (airRemove (hAir h) s, c.ok) else (s, c.err ⟨stEndpointUnknown, [tDetail 1 0]⟩)
      | [] => (s, c.ok) }

/-- The content of an AIR_SEND. -/
def sendKind (c : Cmd) : AirKind :=
  match c.nat 0x0217 with
  | 0 => .message ((c.tlv? 0x0009).getD [])
  | 1 => .regRead (c.nat 0x0160) (c.nat 0x000F)
  | _ => .regWrite (c.nat 0x0160) (c.nat 0x000F) ((c.tlv? 0x0009).getD [])

/-- TLVs that each kind needs (R466, R472). -/
def sendForm (c : Cmd) : Except Err Unit := do
  let k := c.nat 0x0217
  orMissing (k == 1 || c.has 0x0009) 0x0009
  orMissing (k == 0 || c.has 0x0160) 0x0160
  orMissing (k == 0 || c.has 0x000F) 0x000F

/-- Ranges of each kind (R466, R472). -/
def sendRange (c : Cmd) (s : State) : Except Err Unit := do
  airOne c
  let k := c.nat 0x0217
  let d := ((c.tlv? 0x0009).getD []).length
  need (k != 0 || (1 ≤ d && d ≤ 229)) (eRange 0x0009)
  need (k == 0 || (c.nat 0x0160 % 4 == 0 && c.nat 0x0160 + 4 * c.nat 0x000F ≤ 0x10000)) (eRange 0x0160)
  need (k != 2 || d == 4 * c.nat 0x000F) (eRange 0x0009)
  need (!(c.eps.any (fun h => (s.airEp? h).any (fun e => e.vemer))) || txLen true (sendKind c) ≤ 65) (eRange 0x0009)

/-- The endpoint can be sent to, and the vCtl's queue has room (R465, R466). -/
def sendCheck (c : Cmd) (s : State) : Except Err Unit := do
  need (c.eps.all (fun h => (s.airEp? h).any s.airReach)) ⟨stEndpointUnreachable, [tDetail 1 0]⟩
  need ((s.air.q.filter (fun e => e.item == 5 && e.payer == some c.vctl)).length < 64) (eStat stQuotaExceeded)

/-- AIR_SEND (R466). -/
def opAirSend : OpInfo :=
  { op := 0x0702, need := .mod 3,
    specs := [(tLst 0x0001 4 1 1).must, (tFix 0x0217 1 0 2).must, cData 1152, tFix 0x0160 2 0 0xFFFF, cCount 1 16, tFix 0x0218 1 0 7, cFrames],
    form := sendForm, ranges := sendRange, accept := sendCheck,
    commit := fun c s => match sendCheck c s with
      | .error e => (s, c.err e)
      | .ok _ => (airQueue { id := 0, item := 5, handle := c.eps.head?, payer := some c.vctl, kind := sendKind c, since := s.frm.now,
                             cmd := some (evKey c.key, c.seq, c.cmdid), hold := c.nat 0x0004 360000, retries := c.nat 0x0218 3 } s, c.pend) }

/-- PSDU of RAW_FRAME, without FCS. -/
def rawPsdu (c : Cmd) : Bytes := ((c.tlv? 0x021C).getD []).drop 4

/-- Port, channel and length of RAW_FRAME (R469). -/
def rawRange (c : Cmd) (s : State) : Except Err Unit := do
  let b := (c.tlv? 0x021C).getD []
  need (u b 0 1 ≤ 3 || u b 0 1 == 0xFF) (eRange 0x021C 0)
  need (s.usable (u b 1 1)) (eRange 0x021C 1)
  need (7 ≤ (rawPsdu c).length && (rawPsdu c).length ≤ 251) (eRange 0x021C 4)

/-- A tenant's raw frame: DATA, version 1, from the module, to an endpoint on which it holds RAW (R469). -/
def rawRight (c : Cmd) (s : State) : Bool :=
  let p := rawPsdu c
  let adr := u p 4 5
  c.vctl == 0 || (u p 0 1 % 8 == 0 && u p 1 1 % 16 == 1 && adr / 2 ^ 20 == 0xFFFFF && hRealm (adr % 2 ^ 20) == 1 && s.hasEp c.vctl (adr % 2 ^ 20) 3)

/-- The vCtl's own queue has room (R465). -/
def rawRoom (c : Cmd) (s : State) : Except Err Unit :=
  need ((s.air.q.filter (fun e => e.item == 5 && e.payer == some c.vctl)).length < 64) (eStat stQuotaExceeded)

/-- AIR_RAW_TX (R469). -/
def opAirRawTx : OpInfo :=
  { op := 0x1702, need := .mod 3, specs := [(tByt 0x021C 4 1152).must],
    rights := fun c s => need (rawRight c s) (eStat stRightMissing),
    ranges := rawRange, accept := rawRoom,
    commit := fun c s =>
      let b := (c.tlv? 0x021C).getD []
      match rawRoom c s with
      | .error e => (s, c.err e)
      | .ok _ =>
        if !rawRight c s then (s, c.reply stRightMissing)
        else (airQueue { id := 0, item := 5, handle := none, payer := some c.vctl, kind := .raw (u b 0 1) (u b 1 1) (rawPsdu c), since := s.frm.now,
                         cmd := some (evKey c.key, c.seq, c.cmdid) } s, c.pend) }

/-- PORT_CFG in range (R472). -/
def portCfgOk (b : Bytes) : Bool :=
  let cap := beInt ((b.drop 4).take 1)
  u b 0 1 ≤ 3 && u b 1 1 ≤ 1 && -100 ≤ i16 b 2 && i16 b 2 ≤ 200 && -10 ≤ cap && cap ≤ 27

/-- Enable a transmitter: a port disabled under R66 is enabled again (R66, R472). -/
def enablePort (p : Nat) (s : State) : State := s.modAport p (fun x => { x with en := true, fault := false })

/-- Apply a PORT_CFG. -/
def applyPort (b : Bytes) (s : State) : State :=
  let p := u b 0 1
  let s := s.modAport p (fun x => { x with gain := i16 b 2, cap := beInt ((b.drop 4).take 1) })
  if u b 1 1 = 1 then enablePort p s else s.modAport p (fun x => { x with en := false })

/-- A region or window change needs an empty air realm (R472). -/
def planCheck (c : Cmd) (s : State) : Except Err Unit := do
  need (s.air.eps.isEmpty || c.nat 0x0219 s.air.region == s.air.region) (eConfig 0x0219)
  need (s.air.eps.isEmpty || c.nat 0x021A s.air.usWin == s.air.usWin) (eConfig 0x021A)

/-- CHANNEL_PLAN (R472). -/
def opChannelPlan : OpInfo :=
  { op := 0x1704, need := .owner, cost := fun _ => 2, specs := [tFix 0x0219 1 0 2, tFix 0x021A 1 0 65, (tByt 0x021B 6 6).many],
    ranges := fun c _ => match (c.all 0x021B).zipIdx.find? (fun e => !portCfgOk e.1) with
      | some e => .error (eRange 0x021B e.2)
      | none => .ok (),
    accept := planCheck,
    commit := fun c s => match planCheck c s with
      | .error e => (s, c.err e)
      | .ok _ =>
        let s := s.ar (fun a => { a with region := c.nat 0x0219 a.region, usWin := c.nat 0x021A a.usWin })
        ((c.all 0x021B).foldl (fun s b => applyPort b s) s, c.ok) }

/-- AIR_RAW_CAPTURE (R432, R470). -/
def opAirRawCapture : OpInfo :=
  { op := 0x1705, need := .mod 3, cost := fun _ => 2, specs := [(cCode 1).must, tFix 0x021D 1 0 1],
    rights := fun c s => do
      need (c.nat 0x000D == 0 || s.hasMod c.vctl 6) (eStat stRightMissing)
      need (c.nat 0x021D == 0 || c.vctl == 0) (eStat stOwnerOnly),
    accept := fun c s => need (c.nat 0x000D == 0 || !(s.dmaChans c.vctl).isEmpty) (eStat stQuotaExceeded),
    commit := fun c s =>
      if c.nat 0x000D = 0 then (s.ar (fun a => { a with capture := terase a.capture c.vctl }), c.ok)
      else if (s.dmaChans c.vctl).isEmpty then (s, c.reply stQuotaExceeded)
      else (s.ar (fun a => { a with capture := tset a.capture c.vctl (c.nat 0x021D) }), c.ok) }

/-- VEMER_CFG in range (R471, R472). -/
def vemerRange (c : Cmd) (s : State) : Except Err Unit := do
  let b := (c.tlv? 0x021E).getD []
  let chs := (List.range 16).map (fun i => u b (4 + i) 1)
  need (u b 0 1 ≤ 3) (eRange 0x021E 0)
  need (u b 1 1 ≤ 1) (eRange 0x021E 1)
  need (u b 2 1 ≤ 15) (eRange 0x021E 2)
  need (u b 1 1 == 0 || (chs.all s.usable && (sortNat chs).length == 16)) (eRange 0x021E 4)

/-- VEMER_SET (R471). -/
def opVemerSet : OpInfo :=
  { op := 0x1706, need := .owner, cost := fun _ => 2, cap := some 5, specs := [(tByt 0x021E 20 20).must],
    ranges := vemerRange,
    commit := fun c s =>
      let b := (c.tlv? 0x021E).getD []
      (s.ar (fun a => { a with vemer := if u b 1 1 = 1 then some ⟨u b 0 1, u b 2 1, (List.range 16).map (fun i => u b (4 + i) 1)⟩ else none }), c.ok) }

/-- AIR_PORT_TX_EN_WRITE: a write of TX_EN; 1 acts as PORT_CFG with enable 1 (R474). -/
def writeTxEn (p v : Nat) (s : State) : State := if v % 2 = 1 then enablePort p s else s.modAport p (fun x => { x with en := false })

/-- AIR_PORT_TX_EN_WRITE. -/
def execAirPortTxEnWrite (port v : Nat) (s : State) : Outcome := done s (fun s => guardS (port < 4 && s.pw.main && !s.boot.airOut) (writeTxEn port v) s)

/-- AIR_ENROL. -/
def execAirEnrol (src : Src) (tlvs : List Tlv) (s : State) : Outcome := execOp opAirEnrol src tlvs s
/-- AIR_SEND. -/
def execAirSend (src : Src) (tlvs : List Tlv) (s : State) : Outcome := execOp opAirSend src tlvs s
/-- AIR_REMOVE. -/
def execAirRemove (src : Src) (tlvs : List Tlv) (s : State) : Outcome := execOp opAirRemove src tlvs s
/-- AIR_RAW_TX. -/
def execAirRawTx (src : Src) (tlvs : List Tlv) (s : State) : Outcome := execOp opAirRawTx src tlvs s
/-- CHANNEL_PLAN. -/
def execChannelPlan (src : Src) (tlvs : List Tlv) (s : State) : Outcome := execOp opChannelPlan src tlvs s
/-- AIR_RAW_CAPTURE. -/
def execAirRawCapture (src : Src) (tlvs : List Tlv) (s : State) : Outcome := execOp opAirRawCapture src tlvs s
/-- VEMER_SET. -/
def execVemerSet (src : Src) (tlvs : List Tlv) (s : State) : Outcome := execOp opVemerSet src tlvs s

end Sys2Proof.Machine
end

