-- ==== Sys2Proof/Machine/Attrib.lean ====
section
/-!
DEFINITION. Machine/Attrib.lean: booking, settlement periods, power models and probe dither, and the attribution opcodes (R388 to R408).
-/
namespace Sys2Proof.Machine

/-- Change the attribution engine. -/
def State.at' (s : State) (f : Attrib → Attrib) : State := { s with att := f s.att }

/-! ### Power models (R396, R397, R400) -/

/-- The model of an endpoint; unseeded, s = 0 and r = 0 (R397). -/
def Attrib.model (a : Attrib) (h : Nat) : Model := (tget a.models h).getD (freshModel 0 0)

/-- A knot power in whole mW, to the nearest (log 24). -/
def Model.knot (m : Model) (j : Nat) : Nat := if j = 0 then m.p0 else (m.p.getD (j - 1) .zero).toNat 1000000

/-- The model power at a code (R396). -/
def Model.power (m : Model) (x : Nat) : Nat :=
  let j := min (x / 8000) 7
  let a : Int := m.knot j
  let b : Int := m.knot (j + 1)
  (a + tdiv ((b - a) * ((x : Int) - 8000 * j)) 8000).toNat

/-- The trace of M. -/
def Model.trace (m : Model) : F64 := F64.sum ((List.range 8).map (fun i => m.m.getD (9 * i) .zero))

/-- Quality: 0 SEED, 1 LEARNING, 2 FITTED (R400). -/
def Model.quality (m : Model) : Nat := if m.n < 16 then 0 else if (F64.ofInt 32000000).lt m.trace then 1 else 2

/-- MODEL_SEED (R397): standby, rated, handles; each a lighting channel. -/
def segSeed (b : Bytes) (s : State) : Except Err State := do
  let st := u b 0 4
  let r := u b 4 4
  let hs := beNats 4 (b.drop 8)
  need (b.length ≥ 12 && b.length % 4 == 0) ⟨stTlvMalformed, [tDetail 0x01E4 0]⟩
  need (st ≤ 100000 && r ≤ 1000000 && st ≤ r && hs.length ≤ 256 && hs.all s.isLamp) (eRange 0x01E4)
  need (!s.inMaint) (eStat stMaintenanceOnly)
  return s.at' (fun a => { a with
    models := hs.foldl (fun t h => tset t h (freshModel st r)) a.models, seeds := hs.foldl (fun t h => tset t h (st, r)) a.seeds })

/-- SETTLE_PERIOD (R391, R392). -/
def segPeriod (b : Bytes) (s : State) : Except Err State := do
  need (b.length == 1) ⟨stTlvMalformed, [tDetail 0x01E0 0]⟩
  need ([1, 2, 3, 4, 5, 6, 10, 12, 15, 20, 30, 60].contains (u b 0 1)) (eRange 0x01E0)
  return s.at' (fun a => { a with l := u b 0 1 })

/-! ### Periods (R391 to R395) -/

/-- The register copies of the latest link packet (R383). -/
def State.latestCopy (s : State) : Option Copy := s.geo.mir.pkt.map (fun p => ⟨p.frame, p.cirs.map (·.regs)⟩)

/-- The first boundary of `l` minutes after frame `f` (R391). -/
def nextPeriod (l f : Nat) : Nat := (f / (6000 * l) + 1) * (6000 * l)

/-- The period that holds frame `f` becomes the one in progress: at the end of the last one (R392), or, in frame service, with an empty ledger and
GAP (R406). -/
def periodAt (f : Nat) (s : State) : State :=
  match s.att.cur with
  | none => s.at' (fun a => { a with cur := some { first := nextPeriod a.l f - 6000 * a.l, end_ := nextPeriod a.l f, gap := true, start := s.latestCopy } })
  | some p =>
    if f < p.end_ then s
    else s.at' (fun a => { a with
      closing := a.closing ++ [{ p with stop := s.latestCopy }],
      cur := some { first := p.end_, end_ := nextPeriod a.l p.end_, short := nextPeriod a.l p.end_ - p.end_ < 6000 * a.l, start := s.latestCopy } })

/-- Change the open period that holds a frame. -/
def onPeriod (f : Nat) (g : Period → Period) (a : Attrib) : Attrib :=
  { a with cur := a.cur.map (fun p => if p.first ≤ f && f < p.end_ then g p else p),
           closing := a.closing.map (fun p => if p.first ≤ f && f < p.end_ then g p else p) }

/-- What a link packet brings to attribution: provisional energy (R393), boundary copies (R383), the flags of its period, and the record for the
observations (R398). -/
def attribPacket (p : LinkPkt) (a : Attrib) : Attrib :=
  let copy : Copy := ⟨p.frame, p.cirs.map (·.regs)⟩
  let a := onPeriod p.frame (fun q => { q with
    suspended := q.suspended || p.state == 2, paused := q.paused || p.state == 1, free := q.free || p.free,
    cirs := p.cirs.zipIdx.foldl (fun t e => if e.1.pwin = 0 then t else tupd t e.2 {} (fun l => { l with prov := l.prov + e.1.pwin * 100 })) q.cirs }) a
  { a with
    cur := a.cur.map (fun q => if q.first = p.frame then { q with start := some copy, startOk := true } else q),
    closing := a.closing.map (fun q => if q.end_ = p.frame then { q with stop := some copy, stopOk := true } else q),
    recs := ({ frame := p.frame, pwin := p.cirs.map (·.pwin), t1 := p.t1, mphase := p.cirs.map (·.mphase),
               bad := (p.cirs.zipIdx.filter (fun e => e.1.unused || e.1.oc || e.1.clipSeen || e.1.suppressed)).map (·.2),
               off := p.free || p.state != 0 } :: a.recs).take 2 }

/-- A frame whose record is missing sets GAP on its period (R393). -/
def missingRecord (f : Nat) (s : State) : State :=
  if s.boot.inService && !(s.att.recs.any (fun r => r.frame == f)) then s.at' (onPeriod f (fun q => { q with gap := true })) else s

/-- Difference of two register copies, modulo 2^48 (R365, R383). -/
def copyDiff (a b : Option Copy) (k : Nat) : List Nat :=
  match a, b with
  | some a, some b => (List.range 9).map (fun i => ((b.regs.getD k []).getD i 0 + 2 ^ 48 - (a.regs.getD k []).getD i 0) % 2 ^ 48)
  | _, _ => List.replicate 9 0

/-- A share in mWh, rounded half up (R394). -/
def shareOf (units : Nat) : Nat := (units + 180000) / 360000

/-- Frames of an endpoint that booked. -/
def Period.shares (p : Period) : List Share :=
  p.cirs.flatMap (fun c => c.2.eps.map (fun e => ⟨c.1, e.1, shareOf e.2.units, e.2.frames, e.2.unknown⟩))

/-- A circuit of a period at its close: Σ S_e + R_k = E_k (R394). -/
def Period.closeCir (p : Period) (k : Nat) : CirClosed :=
  let d := copyDiff p.start p.stop k
  let e : Int := 100 * ((d.getD 0 0 : Int) - d.getD 1 0)
  let l := tgetD p.cirs k {}
  let sh : Int := ((l.eps.map (fun x => shareOf x.2.units)).foldl (· + ·) 0 : Nat)
  { diffs := d, e := e, shares := sh, resid := e - sh, booked := (l.eps.filter (fun x => x.2.frames > 0)).length,
    unknown := (l.eps.map (fun x => x.2.unknown)).foldl (· + ·) 0 }

/-- GAP of a period at its close. -/
def Period.gapped (p : Period) : Bool := p.gap || !p.startOk || !p.stopOk

/-- A closed period. -/
def Period.close (p : Period) : Closed :=
  { first := p.first, flags := b2n p.gapped + 2 * b2n p.short + 4 * b2n p.suspended + 8 * b2n p.paused + 16 * b2n p.free,
    cirs := (List.range 64).map p.closeCir, shares := p.shares }

/-- A closed period without its shares. -/
def Closed.noShares (c : Closed) : Closed := { c with shares := [] }

/-- Keep 2,880 closed periods, the latest 96 with their shares (R383, R404). -/
def keepClosed (l : List Closed) : List Closed :=
  let l := l.drop (l.length - 2880)
  (l.take (l.length - 96)).map Closed.noShares ++ l.drop (l.length - 96)

/-- Endpoints that are booked: lighting endpoints of the segment that are mapped (R388). -/
def State.bookedEps (s : State) : List (Nat × Nat) := s.slt.circuits.filter (fun e => e.2 < 64 && s.isLamp e.1)

/-- A model that begins a new period. -/
def Model.newPeriod (m : Model) : Model := { m with entered := false }

/-- The vCtl's circuit mask. -/
def State.mask (s : State) (v : Nat) : Nat := if v = 0 then 2 ^ 64 - 1 else ((s.vctl? v).map (·.circuits)).getD 0

/-- The close of the oldest ended period (R394), with its events (R407). -/
def periodClose (p : Period) (s : State) : State :=
  let s := s.at' (fun a => { a with closing := a.closing.drop 1, closed := keepClosed (a.closed ++ [p.close]) })
  let s := if p.gapped then s.setFlag aSysAtrFlags 0 else s
  let s := s.ten.vctls.foldl (fun s e =>
    if s.hasMod e.1 1 then
      s.raise e.1 0x0530 [tFrame p.first, tBitmap (bitmapBytes 8 ((List.range 64).filter (fun k => bit (s.mask e.1) k))),
        tCode (b2n p.gapped + 2 * b2n p.short), tCode 1]
    else s) s
  let s := s.owner 0x0531 [tCount (s.att.models.filter (fun m => m.2.entered)).length,
    tValue (s.bookedEps.filter (fun e => (s.att.model e.1).quality == 0)).length, tCode 1]
  s.at' (fun a => { a with models := tmap a.models (fun _ m => m.newPeriod) })

/-- PERIOD_CLOSE: at beat 0 of the first frame after the packet of the boundary frame c has come, or of frame c + 10 (R394). -/
def execPeriodClose (s : State) : Outcome :=
  done s (fun s => match s.att.closing with
    | p :: _ => guardS (s.frm.beat == 0 && ((p.stopOk && s.geo.mir.at_ < s.frm.now && p.end_ < s.frm.now) || p.end_ + 10 ≤ s.frm.now)) (periodClose p) s
    | [] => s)

/-! ### Booking (R388 to R390) -/

/-- Booking of one endpoint for frame `f` with the code chosen for dispatch (R389): the code that is booked, none for unknown; and whether OPEN
makes it 0 mW. -/
def State.bookCode (s : State) (h code : Nat) : Option Nat × Bool :=
  let cls := if hRealm h = 1 then 5 else (s.chan h).cls
  let lvl := if code ≤ 64000 then some code else if code = 0xFFFD || code = 0xFFFE then none else (tgetD s.att.eps h {}).level
  if s.epStatus h ≠ stOk then (none, false)
  else match lvl with
    | none => (none, false)
    | some x => if cls = 2 || cls = 4 then (none, false) else (some x, cls == 1)

/-- Book one endpoint (R389, R390). -/
def bookOne (f h k code : Nat) (s : State) : State :=
  let (b, opened) := s.bookCode h code
  let p := match b with
    | some x => if opened then 0 else (s.att.model h).power x
    | none => 0
  s.at' (fun a =>
    let a := onPeriod f (fun q => { q with cirs := tupd q.cirs k {} (fun l => { l with eps := tupd l.eps h {} (fun e => match b with
      | some _ => { e with units := e.units + p, frames := e.frames + 1 }
      | none => { e with unknown := e.unknown + 1 }) }) }) a
    { a with eps := tupd a.eps h {} (fun e => { e with
        hist := (⟨f, k, b⟩ :: e.hist).take 6, level := if code ≤ 64000 && b.isSome then some code else e.level }) })

/-- Booking of frame `f` at the freeze, in frame service only (R390); `code` is the choice of R284. `late` gives the frames before `f` in which the
entry was to be dispatched and was not, which are booked now with the code that is sent; none for an entry that is late this time too (R389). -/
def attribBook (f : Nat) (code : Nat → Nat) (late : Nat → Option Nat) (s : State) : State :=
  if !s.boot.inService then s
  else
    let s := periodAt f s
    s.bookedEps.foldl (fun s e => match late e.1 with
      | none => s
      | some k => (List.range (k + 1)).foldl (fun s i => bookOne (f + i - k) e.1 e.2 (code e.1) s) s) s

/-! ### Observations and fitting (R398, R399) -/

/-- Part in µs of the window of `t1` µs that ends at B_m in the frame `m − j`, j from 1 (R348, R398). -/
def windowPart (t1 j : Nat) : Nat := if j = 0 then 0 else min (t1 - (j - 1) * 10000) 10000

/-- u_m(m − j) − u_{m−1}(m − j) (R398). -/
def windowWeight (t1 t1' j : Nat) : F64 :=
  (F64.ofRat (windowPart t1 j) (max t1 1)).sub (F64.ofRat (windowPart t1' (j - 1)) (max t1' 1))

/-- φ(x) at knots 0 to 8 (R396). -/
def phi (x : Nat) : List F64 :=
  let j := min (x / 8000) 7
  let t := F64.ofRat (x - 8000 * j) 8000
  (List.range 9).map (fun i => if i = j then (F64.ofInt 1).sub t else if i = j + 1 then t else .zero)

/-- A contributor's regressor over knots 0 to 8; none where it is zero. The second part says that a frame it needs is unknown (R398). -/
def regressor (m k t1 t1' : Nat) (e : EpAtt) : Option (List F64 × Bool) :=
  let at_ (f : Nat) : Option Hist := e.hist.find? (fun x => x.frame == f)
  let js := [4, 3, 2, 1]
  let unknown := js.any (fun j => match at_ (m - j) with | some x => x.circuit == k && x.code.isNone | none => true)
  let x := js.foldl (fun acc j => match at_ (m - j) with
    | some ⟨_, c, some code⟩ =>
      if c = k then List.zipWith F64.add acc ((phi code).map (fun v => (windowWeight t1 t1' j).mul v)) else acc
    | _ => acc) (List.replicate 9 F64.zero)
  if x.all (· == .zero) then none else some (x, unknown)

/-- M · x. -/
def matVec (m x : List F64) : List F64 := (List.range 8).map (fun i => F64.dot ((m.drop (8 * i)).take 8) x)

/-- One contributor's update (R399). -/
def updateModel (g : List F64) (innov s : F64) (m : Model) : Model :=
  let lam := F64.ofRat 16383 16384
  let p := List.zipWith (fun p g => F64.clamp .zero (F64.ofInt 1000000) (p.add ((g.mul innov).div s))) m.p g
  let mm := (List.range 64).map (fun i => ((m.m.getD i .zero).sub (((g.getD (i / 8) .zero).mul (g.getD (i % 8) .zero)).div s)).div lam)
  let q := m.quality
  let m := { m with p := p, m := mm, n := m.n + 1 }
  { m with entered := m.entered || (q != 2 && m.quality == 2) }

/-- The fit of one observation (R399): `y` in mW, `pw` P_win in 0.1 W; contributors by handle. -/
def fitObs (y pw : Int) (cs : List (Nat × List F64)) (a : Attrib) : Attrib :=
  let y := cs.foldl (fun y c => y.sub ((c.2.getD 0 .zero).mul (F64.ofInt (a.model c.1).p0))) (F64.ofInt y)
  let q := (F64.ofInt (100 * pw.natAbs)).div (F64.ofInt 200)
  let r := (F64.ofInt 1000000).add (q.mul q)
  let pred := F64.sum (cs.map (fun c => F64.dot (c.2.drop 1) (a.model c.1).p))
  let innov := y.sub pred
  let gs := cs.map (fun c => (c.1, matVec (a.model c.1).m (c.2.drop 1)))
  let s := (List.zip cs gs).foldl (fun s e => s.add (F64.dot (e.1.2.drop 1) e.2.2)) r
  if ((F64.ofInt 25).mul s).lt (innov.mul innov) then { a with outliers := satAdd 16 a.outliers 1 }
  else { a with models := gs.foldl (fun t e => tset t e.1 (updateModel e.2 innov s (a.model e.1))) a.models }

/-- What becomes of the observation of circuit `k` at boundary `m`: none where it is skipped (R398). -/
def observation (a : Attrib) (m k : Nat) (air : Nat → Bool) : Option (Int × Int × List (Nat × List F64)) :=
  match a.recs with
  | x :: x' :: _ =>
    let t1 := x.t1.getD (x.mphase.getD k 0 - 1) 20000
    let t1' := x'.t1.getD (x'.mphase.getD k 0 - 1) 20000
    if x.frame ≠ m || x'.frame + 1 ≠ m || x.off || x'.off || t1 > 30000 || t1' > 30000 || x.bad.contains k || x'.bad.contains k then none
    else
      let cs := a.eps.filterMap (fun e => (regressor m k t1 t1' e.2).map (fun r => (e.1, r)))
      if cs.isEmpty || cs.length > 256 || cs.any (fun c => c.2.2 || air c.1) then none
      else some (100 * (x.pwin.getD k 0 - x'.pwin.getD k 0), x.pwin.getD k 0, cs.map (fun c => (c.1, c.2.1)))
  | _ => none

/-- ATTRIB_FIT in frame m + 1 (R399): the observations of boundary m in ascending circuit order; the reserve admits `room` fits, and the rest are
discarded (log 24). -/
def attribFit (m room : Nat) (s : State) : State :=
  if !s.boot.inService then s
  else
    let a := { s.att with models0 := s.att.models }
    let (a, used, skipped, dropped) := (List.range 64).foldl (fun (acc : Attrib × Nat × Nat × Nat) k =>
      let (a, used, skipped, dropped) := acc
      match observation s.att m k (fun h => hRealm h == 1) with
      | none => (a, used, skipped + 1, dropped)
      | some (y, pw, cs) => if used ≥ room then (a, used, skipped, dropped + 1) else (fitObs y pw cs a, used + 1, skipped, dropped))
      (a, 0, 0, 0)
    let s := { s with att := { a with obs := (used, skipped, dropped) } }
    if dropped > 0 then s.setFlag aSysAtrFlags 1 else s

/-! ### Probe dither (R401, R402) -/

/-- The dithers of the last frame return (R401), or are interrupted by a change of the code (R402). -/
def ditherReturn (f : Nat) (s : State) : State :=
  s.att.active.foldl (fun s e =>
    let (k, h, orig) := e
    let s := s.at' (fun a => { a with active := terase a.active k, returned := tset a.returned k f })
    let now := s.backCode h
    if now = orig then s
    else if now = orig + 250 || now + 250 = orig then
      (if now = s.frontCode h then s.setBack h orig else s.setFlag aSysAtrFlags 2)
    else s.setFlag aSysAtrFlags 2) s

/-- Composed codes and the frames since which they are unchanged (R401). -/
def trackCodes (f : Nat) (s : State) : State :=
  s.bookedEps.foldl (fun s e =>
    let c := s.backCode e.1
    s.at' (fun a => { a with eps := tupd a.eps e.1 {} (fun x => match x.code with
      | some (c', _) => if c' = c then x else { x with code := some (c, f) }
      | none => { x with code := some (c, f) }) })) s

/-- The code that the sources of an endpoint give in the next frame by themselves. -/
def State.nextCode (s : State) (h : Nat) : Nat :=
  match (composeOne h 0 s).2 with
  | some (c, _, _) => c
  | none => s.backCode h

/-- Eligible for dither in frame `f` (R401); whether another endpoint of the circuit changes code in the next frame is what its sources say
(log 24). -/
def State.ditherable (s : State) (f h k : Nat) : Bool :=
  let x := tgetD s.att.eps h {}
  let (_, frames, scope) := s.att.dither
  let ago (n : Nat) : Bool := match x.dithered with
    | some d => d + n ≤ f
    | none => true
  let c := s.backCode h
  bit scope k
  && (match x.code with | some (_, since) => since + frames ≤ f | none => false)
  && (match baseOf (s.sources h) with | some b => b.rank ≤ 2 | none => false)
  && (s.overlaid h).isNone && !(s.slt.queue.any (fun w => w.handle == h))
  && ((s.att.model h).quality != 2 || ago 360000) && ago 6000
  && c ≤ 64000 && (c + 250 ≤ s.ceiling h || c > 250)
  && s.bookedEps.all (fun e => e.2 != k || e.1 == h
      || ((match (tgetD s.att.eps e.1 {}).code with | some (_, since) => since != f | none => true) && s.nextCode e.1 == s.backCode e.1))
  && (match tget s.att.returned k with | some r => r + 4 ≤ f | none => true)

/-- The longest since its last dither goes first, and ties go to the lower handle (R401). -/
def pickDither (eps : Tbl EpAtt) (l : List Nat) : Option Nat :=
  l.foldl (fun best h => match best with
    | none => some h
    | some b =>
      let w (x : Nat) : Nat := match (tgetD eps x {}).dithered with | some d => d + 1 | none => 0
      if w h < w b || (w h = w b && h < b) then some h else some b) none

/-- PROBE_DITHER_STEP, after inrush admission (R401). -/
def ditherStep (f : Nat) (s : State) : State :=
  let s := trackCodes f (ditherReturn f s)
  if !s.att.dither.1 || !s.boot.inService then s
  else (List.range 64).foldl (fun s k =>
    match pickDither s.att.eps ((s.bookedEps.filter (fun e => e.2 == k && s.ditherable f e.1 k)).map (·.1)) with
    | none => s
    | some h =>
      let c := s.backCode h
      (s.setBack h (if c + 250 ≤ s.ceiling h then c + 250 else c - 250)).at' (fun a => { a with
        active := tset a.active k (h, c), dithers := (a.dithers + 1) % 2 ^ 16, eps := tupd a.eps h {} (fun x => { x with dithered := some f }) })) s

/-- The attribution registers, updated at beat 64 in frame service (R408). -/
def attribRegs (s : State) : State :=
  if !s.boot.inService then s
  else
    let a := s.att
    let s := s.setReg aSysAtrCfg (a.l + 256 * b2n a.dither.1)
    let s := s.setReg aSysAtrPeriod (((a.cur.map (·.first)).getD 0) % 2 ^ 32)
    let s := s.setReg aSysAtrObs (min a.obs.1 255 + 65536 * min a.obs.2.1 255 + 16777216 * min a.obs.2.2 255)
    s.setReg aSysAtrCnt (a.outliers + 65536 * a.dithers)

/-! ### Opcodes (R403 to R406) -/

/-- The circuits of METER_CIRCUITS. -/
def Cmd.circuits (c : Cmd) : List Nat := (List.range 64).filter (fun k => bit (c.nat 0x01D0) k)

/-- 1 to 16 circuits (R381). -/
def circuitCount (c : Cmd) : Except Err Unit :=
  need (!c.has 0x01D0 || (1 ≤ c.circuits.length && c.circuits.length ≤ 16)) (eRange 0x01D0)

/-- Every circuit named lies in the vCtl's mask (R167, R404). -/
def circuitRights (c : Cmd) (s : State) : Except Err Unit :=
  need (c.circuits.all (fun k => bit (s.mask c.vctl) k)) (eStat stRightMissing)

/-- ATTRIB_TOTAL record (R403). -/
def totalRec (k first flags : Nat) (prov : Bool) (x : CirClosed) : Bytes :=
  [byte k, byte (b2n prov + 2 * b2n (bit flags 0) + 4 * b2n (bit flags 1) + 8 * b2n (bit flags 2 || bit flags 3) + 16), 0, 0]
    ++ beBytes 8 first ++ beIntBytes 8 x.e ++ beIntBytes 8 x.shares ++ beIntBytes 8 x.resid ++ beBytes 4 x.booked ++ beBytes 4 x.unknown ++ [0, 0, 0, 0]

/-- The provisional totals of a circuit (R393). -/
def Period.provCir (p : Period) (k : Nat) : CirClosed :=
  let x := p.closeCir k
  let l := tgetD p.cirs k {}
  let e := tdiv l.prov 360000
  let booked : Int := ((l.eps.map (fun y => y.2.units)).foldl (· + ·) 0 : Nat)
  { x with e := e, resid := tdiv (l.prov - booked) 360000 }

/-- ATTRIB_SHARE record (R403): the shares of an endpoint on its last circuit; bit 5 where it booked on several. -/
def shareRec (s : State) (v l h : Nat) (sh : List Share) : Bytes :=
  let mine := sh.filter (fun x => x.handle == h)
  let k := match mine.getLast? with
    | some x => x.circuit
    | none => min (s.circuit h) 255
  let sum (f : Share → Nat) : Nat := (mine.map f).foldl (· + ·) 0
  beBytes 4 l ++ [byte (if k < 64 && bit (s.mask v) k then k else 0xFF), byte (s.att.model h).quality, byte (16 + 32 * b2n (mine.length > 1)), 0]
    ++ beBytes 8 (sum (·.mwh)) ++ beBytes 4 (sum (·.frames)) ++ beBytes 4 (sum (·.unknown))

/-- The closed period that FRAME names, or the last one (R404). -/
def State.closedAt (s : State) (c : Cmd) : Option Closed :=
  match c.nat? 0x000E with
  | some f => s.att.closed.find? (fun p => p.first == f)
  | none => s.att.closed.getLast?

/-- The period is not among those kept with what the mode needs (R404). -/
def attribFrame (c : Cmd) (s : State) : Except Err Unit :=
  let recent := s.att.closed.drop (s.att.closed.length - 96)
  if c.nat 0x000D ≥ 2 then need s.att.cur.isSome (eStat stNotValid)
  else match s.closedAt c with
    | none => .error (if c.has 0x000E then eRange 0x000E else eStat stNotValid)
    | some p => need (c.nat 0x000D = 0 || recent.any (fun q => q.first == p.first)) (eRange 0x000E)

/-- ATTRIB_READ (R404): FRAME follows the records where it fits the 1,176 bytes of R145. -/
def opAttribRead : OpInfo :=
  { op := 0x0503, need := .mod 1, specs := [(cCode 3).must, { cEp with shape := .list 4 1 48 }, cFrame, tFix 0x01D0 8 0 (2 ^ 64 - 1)],
    rights := fun c s => circuitRights c s,
    form := fun c => if c.nat 0x000D % 2 = 0 then orMissing (c.has 0x01D0) 0x01D0 else orMissing (c.has 0x0001) 0x0001,
    ranges := fun c s => do
      circuitCount c
      if c.nat 0x000D ≥ 2 then .ok () else need (!c.has 0x000E || (s.closedAt c).isSome) (eRange 0x000E),
    accept := attribFrame,
    commit := fun c s =>
      let mode := c.nat 0x000D
      let ls := c.list 0x0001 4
      let shares (sh : List Share) : OTlv := (0x01E2, (List.zip ls c.eps).flatMap (fun e => shareRec s c.vctl e.1 e.2 sh))
      match (if mode ≥ 2 then none else s.closedAt c), s.att.cur with
      | some p, _ =>
        if mode = 0 then (s, c.ok [tFrame p.first, (0x01E1, c.circuits.flatMap (fun k => match p.cirs[k]? with
          | some x => totalRec k p.first p.flags false x
          | none => []))] rfNotBilling)
        else (s, c.ok (fitEntry 12 [shares p.shares, tFrame p.first]) rfNotBilling)
      | none, some p =>
        if mode = 2 then (s, c.ok [tFrame p.first, (0x01E1, c.circuits.flatMap (fun k => totalRec k p.first p.close.flags true (p.provCir k)))] rfNotBilling)
        else (s, c.ok (fitEntry 12 [shares p.shares, tFrame p.first]) rfNotBilling)
      | none, none => (s, c.reply stNotValid) }

/-- Square root of a diagonal element of M in mW, saturating at 16 bits (R403). -/
def rootOf (x : F64) : Nat := min (Nat.sqrt (x.toNat (2 ^ 40))) 65535

/-- ATTRIB_MODEL_REC (R403). -/
def modelRec (l : Nat) (m : Model) : Bytes :=
  beBytes 4 l ++ [byte m.quality, 16, 0, 0] ++ beBytes 4 m.n ++ (List.range 9).flatMap (fun j => beBytes 4 (m.knot j))
    ++ (List.range 8).flatMap (fun i => beBytes 2 (rootOf (m.m.getD (9 * i) .zero)))

/-- ATTRIB_MODEL (R405): the endpoints are mapped to circuits of the vCtl's mask. -/
def opAttribModel : OpInfo :=
  { op := 0x1503, need := .mod 2, specs := [{ cEp with shape := .list 4 1 16, req := true }],
    rights := fun c s => need (c.eps.all (fun h => s.circuit h < 64 && bit (s.mask c.vctl) (s.circuit h))) (eStat stRightMissing),
    commit := fun c s =>
      (s, c.ok [(0x01E3, (List.zip (c.list 0x0001 4) c.eps).flatMap (fun e => modelRec e.1 ((tget s.att.models0 e.2).getD (freshModel 0 0))))] rfNotBilling) }

/-- PROBE_DITHER (R406). -/
def opProbeDither : OpInfo :=
  { op := 0x1504, need := .owner, cap := some 3,
    specs := [(cCode 1).must, { cFrames with lo := 1000, hi := 360000 }, tFix 0x01E5 8 0 (2 ^ 64 - 1)],
    commit := fun c s => (s.at' (fun a => { a with dither := (c.nat 0x000D == 1, c.nat 0x0004 30000, c.nat 0x01E5 (2 ^ 64 - 1)) }), c.ok) }

/-- ATTRIB_READ. -/
def execAttribRead (src : Src) (tlvs : List Tlv) (s : State) : Outcome := execOp opAttribRead src tlvs s
/-- ATTRIB_MODEL. -/
def execAttribModel (src : Src) (tlvs : List Tlv) (s : State) : Outcome := execOp opAttribModel src tlvs s
/-- PROBE_DITHER. -/
def execProbeDither (src : Src) (tlvs : List Tlv) (s : State) : Outcome := execOp opProbeDither src tlvs s

end Sys2Proof.Machine
end

