-- ==== Sys2Proof/Machine/Farewell.lean ====
section
/-!
DEFINITION. Machine/Farewell.lean: the farewell of a controlled stop (R565).
-/
namespace Sys2Proof.Machine

/-- Frame and beat of the start of beat b + 4 (R121, R565). -/
def State.beat4 (s : State) : Nat × Nat := (s.frm.now + (s.frm.beat + 4) / 80, (s.frm.beat + 4) % 80)

/-- The slots a farewell names: lighting slots whose dispatched code comes neither from the overlay nor from the preset and whose base rank is
not EMERGENCY (R284, R565). -/
def State.farewellSlots (s : State) (g p : Nat) (q : Pole) : List Nat :=
  (List.range q.rep.slots).filter (fun l =>
    let h := mkHandle g p l
    s.isLamp h && (s.overlaid h).isNone && (baseOf (s.sources h)).all (fun x => x.rank != 4))

/-- The farewell of one string: an URGENT message with 0xFFFD to each adopted and associated pole node. -/
def farewellString (g : Nat) (s : State) : State :=
  (s.grain g).record.foldl (fun s e =>
    if e.2.adopted && e.2.assoc.isSome then
      let slots := (s.farewellSlots g e.1 e.2).map (fun l => (l, 0xFFFD))
      wirePole g e.1 .mslUrgent ([s.beat4.1, s.beat4.2] ++ entryArgs slots) (urgentBody s.beat4.1 s.beat4.2 slots) [] s
    else s) s

/-- The farewell of a controlled stop; in MAINTENANCE no URGENT message is sent (R525, R565). -/
def farewell (s : State) : State :=
  if s.inLight then
    (s.strs.grains.map (·.1)).foldl (fun s g => if s.stringLink g && !s.stratumOut (stratumOf g) then farewellString g s else s) s
  else s

end Sys2Proof.Machine
end

