-- ==== Sys2Proof/Machine/Measure.lean ====
section
/-!
DEFINITION. Machine/Measure.lean: the measurement arithmetic of the Geode: full scale, the combiner, correction, sums over samples, and their units
(R333 to R348). A sample is in units of 2^-23 of the ×1 full scale, 1,000 mV of a current input and 500 V of a voltage; a corrected sample carries its
gain and is in units of 2^-53 of it.
-/
namespace Sys2Proof.Machine

/-- Full scale of the ×1 path in sample units (R357). -/
def gfs : Int := 8388608

/-- Saturation of a sample at its full scale (R333). -/
def gsat (v : Int) : Int := max (-gfs) (min gfs v)

/-- The path that a sample beyond the range reveals: the largest gain whose full scale exceeds it, else 1 (R338). -/
def rangeFor (a : Nat) : Nat :=
  if a * 64 < gfs.natAbs then 64 else if a * 16 < gfs.natAbs then 16 else if a * 4 < gfs.natAbs then 4 else 1

/-- One step of the combiner (R338): the circuit after sample (a, b), its output scaled to ×1, and the sample's path and SETTLE (R339). -/
def combine (a b : Int) (c : GeoCir) : GeoCir × Int × Nat × Bool :=
  let fs := gfs.natAbs
  let up := c.p > 1 && (b.natAbs ≥ fs || a.natAbs * c.p ≥ fs)
  let (p, settle, quiet) : Nat × Nat × Nat :=
    if up then (let q := rangeFor a.natAbs; (q, if q > 1 then 8 else 0, 0)) else (c.p, c.settle, c.quiet)
  let fromA := p = 1 || settle > 0 || up
  let y : Int := if fromA then a else tdiv b p
  let path := if fromA then 1 else p
  let flag := p > 1 && settle > 0 && !up
  let settle := if fromA && settle > 0 && !up then settle - 1 else settle
  let (p, settle, quiet) : Nat × Nat × Nat :=
    if p < 64 && y.natAbs * (32 * p) < 7 * fs then
      (if quiet + 1 = 160 then (4 * p, if p > 1 then 8 else 0, 0) else (p, settle, quiet + 1))
    else (p, settle, 0)
  ({ c with p := p, settle := settle, quiet := quiet }, y, path, flag)

/-- Code of a path (R357, R360). -/
def pathCode (p : Nat) : Nat := if p = 1 then 0 else if p = 4 then 1 else if p = 16 then 2 else 3

/-- A sample word (R357): the sample, the path, SETTLE, CLIP and FREE. -/
def sampleWord (v : Int) (path : Nat) (settle clip free : Bool) : Nat :=
  (min v (gfs - 1) % 16777216).toNat * 256 + path * 64 + b2n settle * 32 + b2n clip * 16 + b2n free * 8

/-! ### Correction (R340, R341) -/

/-- Currents of the eight breakpoints in percent of I_n (R340). -/
def breakPct : List Nat := [1, 2, 5, 10, 20, 50, 100, 120]

/-- Gain and phase for a corrected RMS current in µA (R341). -/
def correction (r : CirRec) (irms : Nat) : Nat × Int :=
  let pt (j : Nat) : Nat × Int := r.pts.getD j (0x40000000, 0)
  let x := 100 * irms
  let at_ (j : Nat) : Nat := breakPct.getD j 0 * r.inMa * 1000
  if x ≤ at_ 0 then pt 0
  else if x ≥ at_ 7 then pt 7
  else
    let j := ((List.range 7).find? (fun j => at_ j ≤ x && x < at_ (j + 1))).getD 0
    let num : Int := (x : Int) - at_ j
    let den : Int := (at_ (j + 1) : Int) - at_ j
    let (g0, p0) := pt j
    let (g1, p1) := pt (j + 1)
    (((g0 : Int) + tdiv (((g1 : Int) - g0) * num) den).toNat, p0 + tdiv ((p1 - p0) * num) den)

/-- The frequency in mHz at which corrections act: the measured one; a free value while it is invalid (R335, R341, log 22). -/
def actFreq (freq : Nat) : Nat := if freq = 0 then Config.invalidFreq else freq

/-- The advance that a phase in 10^-6 degree makes, φ / (360 × f) seconds, in ps (R341). -/
def advancePs (phase : Int) (freq : Nat) : Int := tdiv (phase * 10 ^ 9) (360 * actFreq freq)

/-- The value `ps` after sample `k` of a row of samples: the sample itself where that is a sample instant, else what the filter gives (R341). -/
def valueAt (row : List Int) (k : Int) (ps : Nat) : Int :=
  if ps = 0 && 0 ≤ k && k < row.length then row.getD k.toNat 0
  else Config.fracDelay ps ((row.take (k + 1).toNat).reverse.take 4) ((row.drop (k + 1).toNat).take 4)

/-- The samples of a list advanced by a phase (R341): each takes the value that lies the advance after its own instant; a phase of 0 shifts nothing.
`past` holds the samples before the list, the latest first. -/
def shiftAll (phase : Int) (freq : Nat) (past : List Int) (l : List (Nat × Int)) : List (Nat × Int) :=
  if phase = 0 then l
  else
    let a := advancePs phase freq
    let row := past.reverse ++ l.map (·.2)
    l.zipIdx.map (fun x => (x.1.1, valueAt row ((past.length + x.2 : Nat) + a / 125000000) (a % 125000000).toNat))

/-- Corrected samples (R341): shifted by the phase, then multiplied by the gain. -/
def corrected (gain : Nat) (phase : Int) (freq : Nat) (past : List Int) (l : List (Nat × Int)) : List (Nat × Int) :=
  (shiftAll phase freq past l).map (fun x => (x.1, gain * x.2))

/-! ### Fixed-point functions, in units of 2^-60 -/

/-- One. -/
def fixOne : Int := 2 ^ 60

/-- The alternating series 1 − x²/d₁ (1 − x²/d₂ (…)) of an argument's square. -/
def fixSeries (x2 : Int) : List Int → Int
  | [] => fixOne
  | d :: r => fixOne - tdiv (x2 * fixSeries x2 r) (d * fixOne)

/-- Sine of a small argument. -/
def fixSin (x : Int) : Int := tdiv (x * fixSeries (tdiv (x * x) fixOne) [6, 20, 42, 72, 110, 156]) fixOne

/-- Cosine of a small argument. -/
def fixCos (x : Int) : Int := fixSeries (tdiv (x * x) fixOne) [2, 12, 30, 56, 90, 132]

/-- Cosines of 0 to 90 degrees in 32 steps. -/
def cosQuarter : List Int :=
  [1152921504606846976, 1151532760162549490, 1147369872436662991, 1140442870190345041, 1130768441178740757, 1118369891948718997, 1103277091691359535,
   1085526400284455520, 1065160580698383124, 1042228695976360312, 1016785991037278313, 988893759585853128, 958619196450722178, 926035235706216538,
   891220374967787610, 854258486284375919, 815238614083298888, 774254760654426065, 731405659690429196, 686794538428668529, 640528868967736374,
   592720109357758155, 543483435088187080, 492937461619961867, 441203958630471860, 388407556659738432, 334675446864527722, 280137074603713366,
   224923827593068887, 169168719380752196, 113006068906017470, 56571176913125535, 0]

/-- Cosine of k/128 of a turn. -/
def cosTurn (k : Nat) : Int :=
  let k := k % 128
  if k ≤ 32 then cosQuarter.getD k 0 else if k ≤ 64 then -cosQuarter.getD (64 - k) 0 else if k ≤ 96 then -cosQuarter.getD (k - 64) 0
  else cosQuarter.getD (128 - k) 0

/-! ### The integrator (R335) -/

/-- What the integrator's state keeps in a sample period of 125 µs with a leak corner of 0.5 Hz: e^(−2π × 0.5 Hz × 125 µs). -/
def leakKeep : Int := 1152468842276575050

/-- The angle that a frequency in mHz turns in a sample period. -/
def beatAngle (freq : Nat) : Int := freq * 949488118409084645 / 2 ^ 20

/-- One step of the integrator (R335): its state before, 2^20 units to one sample unit, the sample, the measured frequency in mHz; its state after,
and the integrated sample. The state y leaks with the corner; a combination of y and the y before it removes gain and phase error of the integrator
at the frequency f exactly, so that a coil whose output is in proportion to f and is U_n at 50 Hz gives U_n in phase with the current (the difference
equation is the model's, DEDUCED, log 22):
v = (50 Hz / f) ((a − cos θ) y + (1 − a cos θ) y') / sin θ. -/
def integrate (y x : Int) (freq : Nat) : Int × Int :=
  let f := actFreq freq
  let c := fixCos (beatAngle f)
  let y1 := tdiv (leakKeep * y) fixOne + x * 2 ^ 20
  (y1, tdiv (50000 * ((leakKeep - c) * y1 + (fixOne - tdiv (leakKeep * c) fixOne) * y)) (f * fixSin (beatAngle f) * 2 ^ 20))

/-! ### Phasors (R344) -/

/-- The value at time `t` of the polynomial through points of a time and a value: a cubic for four points. -/
def through (pts : List (Int × Int)) (t : Int) : Int :=
  (pts.map (fun p =>
    let o := pts.filter (fun q => q.1 != p.1)
    tdiv (o.foldl (fun a q => a * (t - q.1)) p.2) (o.foldl (fun a q => a * (p.1 - q.1)) 1))).sum

/-- The points from the second last one at or before `t`, as long as four remain. -/
def seek (t : Int) : List (Int × Int) → List (Int × Int)
  | a :: b :: c :: d :: e :: r => if c.1 ≤ t then seek t (b :: c :: d :: e :: r) else a :: b :: c :: d :: e :: r
  | l => l

/-- The values at `n` instants from `t` on, `dt` apart, each from the cubic through the two samples at or before it and the two after it; at an end of
the samples the nearest four serve (log 22). -/
def resample (dt : Int) : Nat → Int → List (Int × Int) → List Int
  | 0, _, _ => []
  | n + 1, t, l => let l := seek t l; through (l.take 4) t :: resample dt n (t + dt) l

/-- The 128 equally spaced values over the cycle from `z0` to `z` in ns (R344). -/
def cycle128 (l : List (Nat × Int)) (z0 z : Nat) : List Int :=
  resample ((z : Int) - z0) 128 (z0 * 128) (l.map (fun x => ((x.1 : Int) * 128, x.2)))

/-- The RMS phasor of a harmonic, real and imaginary part: √2 / 128 of the DFT bin of 128 values (R344). -/
def phasor (l : List Int) (h : Nat) : Int × Int :=
  let s := l.zipIdx.foldl (fun (a : Int × Int) x => (a.1 + x.1 * cosTurn (h * x.2), a.2 + x.1 * cosTurn (h * x.2 + 32))) (0, 0)
  (tdiv (s.1 * 1630477228166597776) (2 ^ 127), tdiv (s.2 * 1630477228166597776) (2 ^ 127))

/-! ### Sums and units (R334, R344) -/

/-- Integer square root, found from its highest bit down: `k` bits are still open above the root `r` found so far. -/
def isqrtFrom (n : Nat) : Nat → Nat → Nat
  | 0, r => r
  | k + 1, r => isqrtFrom n k (if (r + 2 ^ k) * (r + 2 ^ k) ≤ n then r + 2 ^ k else r)

/-- Integer square root, rounded down. -/
def isqrt (n : Nat) : Nat := isqrtFrom n (n.log2 / 2 + 1) 0

/-- Σ v_k × i_k over the current samples, each with the voltage sample of the same label (R344). -/
def sumVI (vs is : List (Nat × Int)) : Int := (is.map (fun x => (vs.lookup x.1).getD 0 * x.2)).sum

/-- Σ i_k² (R344). -/
def sumSq (l : List (Nat × Int)) : Nat := (l.map (fun x => x.2.natAbs * x.2.natAbs)).sum

/-- Energy of Σ v_k × i_k × T_s in units of 2^-48 × 0.1 Wh: 500 V × (1 V × I_n / U_n) × 125 µs over 360 J × 2^-48 (R334, R344, R365). -/
def energyOf (r : CirRec) (vi : Int) : Int := tdiv (vi * (25 * r.inMa)) (144 * 2 ^ 58 * r.un)

/-- Apparent energy V_rms × I_rms × N × T_s of `n` current and `m` voltage samples with these sums of squares, in the same units (R344). -/
def apparentOf (r : CirRec) (n m ii vv : Nat) : Nat := isqrt (vv * ii * n * (25 * r.inMa) ^ 2 / m) / (144 * 2 ^ 58 * r.un)

/-- Power of a product v × i in µW, or of V1 × I1 in µW and µvar (R334, R344). -/
def powerOf (r : CirRec) (vi : Int) : Int := tdiv (vi * (500 * 10 ^ 9 * r.inMa)) (2 ^ 106 * r.un)

/-- Energy of a power in µW over `n` samples, in units of 2^-48 × 0.1 Wh (R344, R346). -/
def energyOfPower (p : Int) (n : Nat) : Nat := p.natAbs * n * 2 ^ 48 / 2880000000000

/-- RMS current in µA of `n` samples with this sum of squares (R334, R344). -/
def rmsCurrent (r : CirRec) (n ii : Nat) : Nat := isqrt (ii * (10 ^ 9 * r.inMa) ^ 2 / n) / (2 ^ 53 * r.un)

/-- RMS voltage in 10 mV of `n` samples with this sum of squares (R344). -/
def rmsVoltage (n vv : Nat) : Nat := isqrt (vv * 50000 ^ 2 / n) / 2 ^ 53

/-- Square of the magnitude of a phasor. -/
def magSq (z : Int × Int) : Nat := z.1.natAbs * z.1.natAbs + z.2.natAbs * z.2.natAbs

/-- THD in 0.01% of a window of cycles (R344): the squares of I_1 and of I_2 to I_40 of each; 0xFFFF while I_1 is below 1% of I_n (R345). A value that
16 bits do not hold reads 0xFFFE (log 22). -/
def thdOf (r : CirRec) (w : List (Nat × Nat)) : Nat :=
  let i1 := (w.map (·.1)).sum
  if rmsCurrent r w.length i1 < 10 * r.inMa then 0xFFFF else min (isqrt (10 ^ 8 * (w.map (·.2)).sum / i1)) 0xFFFE

/-- Nanoseconds of (t − 125 µs, t] within (b − t1, b], which is a_k of R348 in units of 1/125,000. -/
def overlap (t b t1 : Nat) : Nat := min t b - max (t - 125000) (b - t1)

end Sys2Proof.Machine
end

