-- ==== Sys2Proof/Machine/Geode.lean ====
section
/-!
DEFINITION. Machine/Geode.lean: the Geode side: samples, cycles, quantities, overcurrent, pulse inputs, snapshots, readings, logs, the optical
port, changes by the metrology authority, power loss and temperature (R333 to R380).
-/
namespace Sys2Proof.Machine

/-- Change the Geode. -/
def State.geo' (s : State) (f : Geode → Geode) : State := { s with geo := f s.geo }

/-- The Geode's clock in ns: the label of the current sample (R337). -/
def Geode.now (g : Geode) : Nat := g.label.1 * 10000000 + g.label.2 * 125000

/-- The FREE flag: the sync state is not LOCKED (R337). -/
def Geode.free (g : Geode) : Bool := g.sync != 2

/-- A circuit's measurement state. -/
def Geode.cir (g : Geode) (c : Nat) : GeoCir := tgetD g.cirs c {}

/-- Change a circuit's measurement state. -/
def Geode.modCir (g : Geode) (c : Nat) (f : GeoCir → GeoCir) : Geode := { g with cirs := tupd g.cirs c {} f }

/-- A circuit or phase record (R340). -/
def Geode.rec_ (g : Geode) (c : Nat) : CirRec := tgetD g.params.cirs c {}

/-- A phase's state. -/
def Geode.phase (g : Geode) (p : Nat) : GeoPhase := tgetD g.phases p {}

/-- A circuit is unused: its metering phase is 0 (R334). -/
def Geode.unused (g : Geode) (c : Nat) : Bool := (g.rec_ c).mphase == 0

/-- The frame of the Geode's label. -/
def Geode.frame (g : Geode) : Nat := g.label.1

/-- A mask is open at a time in ns (R350). -/
def Mask.openAt (m : Mask) (t : Nat) : Bool := m.from_ * 10000000 ≤ t && t < m.until_ * 10000000

/-- An INRUSH mask is open now (R350). -/
def Geode.maskOpen (g : Geode) (c : Nat) : Bool := (g.cir c).mask.any (fun m => m.openAt g.now)

/-- An INRUSH mask, the present one or the one before, covers a half-cycle that ended at a time in ns (R350). -/
def Geode.masked (g : Geode) (c t : Nat) : Bool := (g.cir c).mask.any (fun m => m.openAt t) || (g.cir c).shut.any (fun m => m.openAt t)

/-! ### Logs (R370, R371) -/

/-- Queue an event for the next link packet: code, circuit or 0xFF, TLVs (R362). -/
def Geode.ev (g : Geode) (code cir : Nat) (tlvs : List OTlv) : Geode := { g with evs := g.evs ++ [(code, cir, tlvs)] }

/-- The 12 data bytes of a log record. -/
def pad12 (b : Bytes) : Bytes := (b ++ List.replicate 12 0).take 12

/-- Write a legal log record; the ring keeps 8,192, and METER_LOG tells of it (R370, R386). -/
def Geode.legal (g : Geode) (code : Nat) (data : Bytes := []) : Geode :=
  let r : LogRec := ⟨g.logSeq + 1, g.now, code, b2n g.free, pad12 data⟩
  let l := g.log ++ [r]
  { g with logSeq := g.logSeq + 1, log := if l.length > 8192 then l.drop 1 else l }.ev 0x0528 0xFF [tValue (g.logSeq + 1), tCount code]

/-- Write a non-legal log record; the ring keeps 1,024 (R371). Its codes are the model's own (log 20). -/
def Geode.nonLegal (g : Geode) (code : Nat) (data : Bytes := []) : Geode :=
  let r : LogRec := ⟨g.nlogSeq + 1, g.now, code, b2n g.free, pad12 data⟩
  let l := g.nlog ++ [r]
  { g with nlogSeq := g.nlogSeq + 1, nlog := if l.length > 1024 then l.drop 1 else l }

/-- The 32 bytes of a log record (R370). -/
def LogRec.bytes (r : LogRec) : Bytes := beBytes 8 r.seq ++ beBytes 8 r.time ++ beBytes 2 r.code ++ beBytes 2 r.flags ++ r.data

/-! ### Sampling (R333, R336 to R339) -/

/-- Add a word to the block of an input. -/
def addWord (w : Tbl (List Nat)) (input word : Nat) : Tbl (List Nat) := tupd w input [] (· ++ [word])

/-- One sample of a circuit: clipping, the combiner, the integrator of a Rogowski circuit, the sample word; a used circuit keeps the sample for the
piece in progress (R333 to R335, R338, R342, R357). -/
def takeCurrent (x : GSample) (g : Geode) : Geode :=
  let r := g.rec_ x.input
  let clip := x.a.natAbs ≥ gfs.natAbs
  let (c, y, path, settle) := combine (gsat x.a) (gsat x.b) (g.cir x.input)
  let c := if clip then { c with clip := satAdd 16 c.clip 1, clipNew := c.clipNew + 1, clipSeen := true } else c
  let (st, v) := if r.sensor = 1 then integrate c.integ y (g.phase r.mphase).freq else (c.integ, y)
  let c := { c with integ := st, buf := if r.mphase = 0 then [] else c.buf ++ [(g.now, v)] }
  { g with cirs := tset g.cirs x.input c, wave := addWord g.wave x.input (sampleWord (gsat v) (pathCode path) settle clip g.free) }

/-- One sample of a phase voltage (R333, R342, R357). -/
def takeVoltage (x : GSample) (g : Geode) : Geode :=
  { g with
    phases := tupd g.phases (x.input - 63) {} (fun p => { p with buf := p.buf ++ [(g.now, gsat x.a)] })
    wave := addWord g.wave x.input (sampleWord (gsat x.a) 0 false (x.a.natAbs ≥ gfs.natAbs) g.free) }

/-- One sample of one input. -/
def takeSample (x : GSample) (g : Geode) : Geode :=
  if x.input < 64 then takeCurrent x g else if x.input < 67 then takeVoltage x g else g

/-- CURRENT_CLIP at a frame boundary: at most once per 100 frames per circuit (R333, R359). -/
def clipEvents (g : Geode) : Geode :=
  g.cirs.foldl (fun g e =>
    let due := match e.2.clipEv with
      | none => true
      | some f => f + 100 ≤ g.frame
    if e.2.clipNew > 0 && due then
      (g.modCir e.1 (fun c => { c with clipNew := 0, clipEv := some g.frame })).ev 0x0525 e.1 [tCode e.1, tCount e.2.clipNew]
    else g) g

/-- The next sample begins: the label advances by one beat (R337); at a frame boundary the block of the frame is whole (R357), and the narrow
path's allowance begins again (R363). -/
def nextLabel (g : Geode) : Geode :=
  if g.label.2 + 1 < 80 then { g with label := (g.label.1, g.label.2 + 1) }
  else clipEvents { g with
    label := (g.label.1 + 1, 0), narrow := 0, waveDone := g.wave, wave := [], cirs := tmap g.cirs (fun _ c => { c with accB := none }) }

/-- Enter a sync state: GEODE_SYNC, and a non-legal record (R336, R359, R371). -/
def enterSync (st : Nat) (g : Geode) : Geode :=
  ({ g with sync := st, run := (0, 0) }.ev 0x0522 0xFF [tCode st]).nonLegal 0x8003 [byte st]

/-- The sync state machine at an edge: `spacing` the time from the previous edge in ns, `err` the edge error in ns (R336). -/
def syncEdge (spacing : Nat) (err : Int) (g : Geode) : Geode :=
  match g.sync with
  | 0 => if 124000 ≤ spacing && spacing ≤ 126000 then (if g.run.1 + 1 ≥ 80 then enterSync 1 g else { g with run := (g.run.1 + 1, 0) })
    else { g with run := (0, 0) }
  | 1 => if err.natAbs ≤ 100 then (if g.run.1 + 1 ≥ 80 then enterSync 2 g else { g with run := (g.run.1 + 1, 0) }) else { g with run := (0, 0) }
  | _ => if err.natAbs > 1000 then (if g.run.2 + 1 ≥ 8 then enterSync 1 g else { g with run := (0, g.run.2 + 1) }) else { g with run := (0, 0) }

/-- GEODE_EDGES_MISSING (R336): in ACQUIRE and LOCKED, 16 missing edges end in FREE. -/
def execGeodeEdgesMissing (s : State) : Outcome :=
  done s (fun s => guardS (s.geo.on && s.geo.sync != 0 && s.geo.gone ≥ 16) (fun s => s.geo' (enterSync 0)) s)

/-! ### The narrow path (R363) -/

/-- A frame of the narrow path passes upward when it is valid and the frame period holds fewer than 96; every other is discarded and logged
(R363, R371). -/
def narrowIn (ok : Bool) (f : Geode → Geode) (g : Geode) : Geode :=
  if !ok || g.narrow ≥ 96 then g.nonLegal 0x8004 else f { g with narrow := g.narrow + 1 }

/-- GEODE_TIME (R337): the TIME message names the frame that the preceding edge began (log 21). -/
def execGeodeTime (frame : Nat) (ok : Bool) (s : State) : Outcome :=
  done s (fun s => guardS s.geo.on (fun s => s.geo' (narrowIn ok (fun g => { g with label := (frame, 0) }))) s)

/-! ### Cycles and quantities (R341 to R346, R365) -/

/-- A register: the accumulator's whole part in units of 0.1, 48 bits (R365). -/
def regOf (acc : Nat) : Nat := acc / 2 ^ 48 % 2 ^ 48

/-- The nine registers of a circuit. -/
def GeoCir.regs (c : GeoCir) : List Nat := c.acc.map regOf

/-- Add to one accumulator of a circuit; a register that passes 2^48 − 1 writes REGISTER_ROLLOVER (R365, R370). -/
def accumulate (c ix v : Nat) (g : Geode) : Geode :=
  let old := (g.cir c).acc.getD ix 0
  let g := g.modCir c (fun x => { x with acc := x.acc.set ix ((old + v) % 2 ^ 96) })
  if old + v ≥ 2 ^ 96 then g.legal 0x0030 [byte c, byte ix] else g

/-- A signed quantity goes into its import or its export register. -/
def accSigned (c imp exp_ : Nat) (v : Int) (mag : Nat) (g : Geode) : Geode := accumulate c (if v ≥ 0 then imp else exp_) mag g

/-- Register of a quadrant (R344): I and IV for P1 ≥ 0, II and III for P1 < 0. -/
def quadrant (p1 q1 : Int) : Nat := if p1 ≥ 0 then (if q1 ≥ 0 then 4 else 7) else (if q1 ≥ 0 then 5 else 6)

/-- The samples of a circuit since its last piece ended, corrected for the cycle in progress (R341). -/
def Geode.current (g : Geode) (c : Nat) (freq : Nat) : List (Nat × Int) :=
  let x := g.cir c
  let (gain, phase) := correction (g.rec_ c) x.xrms
  corrected gain phase freq x.past x.buf

/-- The voltage samples of phase `p` since its last piece ended, corrected by breakpoint 0 of its record (R340). -/
def Geode.voltage (g : Geode) (p : Nat) : List (Nat × Int) :=
  let (gain, phase) := (g.rec_ (63 + p)).pts.getD 0 (0x40000000, 0)
  corrected gain phase (g.phase p).freq (g.phase p).past (g.phase p).buf

/-- Accumulate one piece of a circuit: a complete cycle, a partial cycle, or a block, which has no fundamental quantity (R344 to R346). -/
def accPiece (block : Bool) (c n : Nat) (e : Int) (app : Nat) (p1 q1 : Int) (g : Geode) : Geode :=
  let g := accSigned c 0 1 e e.natAbs g
  let g := accumulate c 8 app g
  if block then g
  else accumulate c (quadrant p1 q1) (energyOfPower q1 n) (accSigned c 2 3 p1 (energyOfPower p1 n) g)

/-- One half-cycle that ended at `t` ns, of RMS current `half` in µA, against the fast overcurrent threshold (R349): two in a row above it enter OVERCURRENT, ten in a row
below 90% of it leave; METER_OVERCURRENT unless the mask was open then (R350). -/
def halfCycle (c t half : Nat) (g : Geode) : Geode :=
  let r := g.rec_ c
  let x := g.cir c
  let hi := if half > 10 * r.oc * r.inMa then x.ocHi + 1 else 0
  let lo := if half < 9 * r.oc * r.inMa then x.ocLo + 1 else 0
  let enter := !x.oc && hi ≥ 2
  let leave := x.oc && lo ≥ 10
  let g := g.modCir c (fun x => { x with ocHi := min hi 2, ocLo := min lo 10, half := half, oc := if enter then true else if leave then false else x.oc })
  if (enter || leave) && !g.masked c t then g.ev 0x0520 c [tCode c, tCode (b2n enter), tValue (half / 1000)] else g

/-- The Geode accumulates (R376, R380). -/
def Geode.accumulating (g : Geode) : Bool := !g.paused && g.suspended.isNone

/-- The two halves of a cycle (R349); a half without samples is not evaluated. -/
def halvesOf (l : List (Nat × Int)) : List (List (Nat × Int)) := [l.take (l.length / 2), l.drop (l.length / 2)].filter (fun h => !h.isEmpty)

/-- The label time of the last of some samples. -/
def lastTime (l : List (Nat × Int)) : Nat := (l.getLast?.map (·.1)).getD 0

/-- The complete cycle from `z0` to `z` of a circuit: its RMS current, P1 and Q1, and its part of the THD window of 10 or 12 cycles (R344, R345);
`v1` is the voltage's phasor, `is` the corrected samples about the cycle. -/
def takeCycle (r : CirRec) (v1 : Int × Int) (is : List (Nat × Int)) (z0 z irms : Nat) (x : GeoCir) : GeoCir :=
  let i := cycle128 is z0 z
  let i1 := phasor i 1
  let w := x.win ++ [(magSq i1, ((List.range 39).map (fun k => magSq (phasor i (k + 2)))).sum)]
  let whole := w.length ≥ (if 1000000000000 < 55000 * (z - z0) then 10 else 12)
  { x with
    irms := irms, p1 := powerOf r (v1.1 * i1.1 + v1.2 * i1.2), q1 := powerOf r (v1.2 * i1.1 - v1.1 * i1.2),
    thd := if whole then thdOf r w else x.thd, win := if whole then [] else w }

/-- The last four of a row of samples. -/
def lastFour (l : List (Nat × Int)) : List (Nat × Int) := l.drop (l.length - 4)

/-- What a circuit keeps when a piece of it ends at `z`: the samples from `z` on, and the power of those before for 25 ms (R348). -/
def leavePiece (r : CirRec) (vs is : List (Nat × Int)) (z : Nat) (x : GeoCir) : GeoCir :=
  let gone := x.buf.filter (fun s => s.1 < z)
  { x with
    buf := x.buf.filter (fun s => z ≤ s.1), past := (gone.reverse.map (·.2) ++ x.past).take 4, tail := lastFour (x.tail ++ is),
    hist := (x.hist ++ is.map (fun s => (s.1, powerOf r (sumVI vs [s])))).filter (fun s => z < s.1 + 25000000) }

/-- The register copies of the frame hold what pieces that ended before its start gave (R362). -/
def keepCopy (z c : Nat) (g : Geode) : Geode :=
  if z < g.frame * 10000000 then g else g.modCir c (fun x => { x with accB := some (x.accB.getD x.acc) })

/-- A piece of circuit `c` ends at `z` (R342 to R346, R349): `block` a block, `part` a partial cycle, `freq` the frequency of the phase, `vs` its
corrected voltage samples of the piece, `v1` their phasor, `z0` the crossing before. -/
def endPiece (block part : Bool) (freq : Nat) (vs : List (Nat × Int)) (v1 : Int × Int) (z0 z c : Nat) (g : Geode) : Geode :=
  let all := g.current c freq
  let is := all.filter (fun s => s.1 < z)
  if is.isEmpty then g
  else
    let r := g.rec_ c
    let n := is.length
    let irms := rmsCurrent r n (sumSq is)
    let starting := !block && irms < r.inMa
    let g := g.modCir c (fun x => if block then { x with thd := 0xFFFF, win := [] } else if part then x else takeCycle r v1 (x.tail ++ all) z0 z irms x)
    let g := keepCopy z c g
    let g := if g.accumulating && !starting then
        accPiece block c n (energyOf r (sumVI vs is)) (apparentOf r n vs.length (sumSq is) (sumSq vs)) (g.cir c).p1 (g.cir c).q1 g
      else g
    let g := g.modCir c (fun x => leavePiece r vs is z { x with suppressed := starting, xrms := irms })
    (halvesOf is).foldl (fun g h => halfCycle c (lastTime h) (rmsCurrent r h.length (sumSq h)) g) g

/-- The circuits of a metering phase (R334, R343). -/
def Geode.ofPhase (g : Geode) (p : Nat) : List Nat := (List.range 64).filter (fun c => (g.rec_ c).mphase == p)

/-- The piece in progress of phase `p` ends at `z` for the phase and all its circuits (R342, R343, R354); `whole` a complete cycle or block, whose
V_rms is that of the phase. -/
def endPhase (whole part : Bool) (p z0 z : Nat) (g : Geode) : Geode :=
  let ph := g.phase p
  let all := g.voltage p
  let vs := all.filter (fun s => s.1 < z)
  let v1 := if ph.blocks || part then (0, 0) else phasor (cycle128 (ph.tail ++ all) z0 z) 1
  let g := (g.ofPhase p).foldl (fun g c => endPiece ph.blocks part ph.freq vs v1 z0 z c g) g
  { g with phases := tupd g.phases p {} (fun x => { x with
      vrms := if vs.isEmpty || !whole then x.vrms else rmsVoltage vs.length (sumSq vs), cut := false, buf := x.buf.filter (fun s => z ≤ s.1),
      tail := lastFour (x.tail ++ vs),
      past := ((x.buf.filter (fun s => s.1 < z)).reverse.map (·.2) ++ x.past).take 4 }) }

/-- PHASE_VOLTAGE where a phase leaves or enters its cycles (R343, R359). -/
def phaseMode (p : Nat) (blocks : Bool) (g : Geode) : Geode :=
  let old := (g.phase p).blocks
  let g := { g with phases := tupd g.phases p {} (fun x => { x with blocks := blocks, freq := if blocks then 0 else x.freq }) }
  if old != blocks then g.ev 0x0526 0xFF [tCode p, tCode (b2n (!blocks))] else g

/-- Rated below 20 V, in units of 10 mV (R343). -/
def lowVolts : Nat := 2000

/-- An accepted crossing at `z`, the previous crossing at `z0` (R342, R343): the piece in progress ends, and the phase returns to cycles; below 20 V it
forms blocks, and blocks below 20 V go on. The cycle that ends began at the last accepted crossing; a phase that comes from blocks has none, and takes
its frequency from the crossing before (DESIGN CHOICE, log 22). -/
def acceptCrossing (p z0 z : Nat) (g : Geode) : Geode :=
  let ph := g.phase p
  if ph.blocks && ph.vrms < lowVolts then g
  else
    let from_ := (if ph.blocks then none else ph.start).getD z0
    let g := endPhase (!ph.blocks && !ph.cut) ph.cut p from_ z g
    let g := { g with
      phases := tupd g.phases p {} (fun x => { x with freq := 1000000000000 / (z - from_), start := some z }),
      t1 := if ph.blocks || ph.cut then g.t1 else tset g.t1 p (z - from_) }
    phaseMode p ((g.phase p).vrms < lowVolts) g

/-- A crossing of phase `p` at `z` ns. It is accepted 15.38 ms to 22.22 ms after the previous one (R342). -/
def zeroCrossing (p z : Nat) (g : Geode) : Geode :=
  let old := (g.phase p).last
  let g := { g with phases := tupd g.phases p {} (fun x => { x with last := some z }) }
  match old with
  | some z0 => if z0 + 15380000 ≤ z && z ≤ z0 + 22220000 then acceptCrossing p z0 z g else g
  | none => g

/-- A block of 160 samples ends (R343). -/
def blockEnd (p : Nat) (g : Geode) : Geode :=
  match (g.phase p).buf[159]? with
  | some x => if (g.phase p).blocks then endPhase true (g.phase p).cut p 0 (x.1 + 1) g else g
  | none => g

/-- CYCLE_END: a crossing at a time in ns that the samples reach, or the end of a block (R342, R343, log 22). -/
def execCycleEnd (phase : Nat) (cross : Option Nat) (s : State) : Outcome :=
  done s (fun s => guardS (s.geo.on && 1 ≤ phase && phase ≤ 3) (fun s =>
    match cross with
    | some z => guardS (z ≤ s.geo.now) (fun s => s.geo' (zeroCrossing phase z)) s
    | none => s.geo' (blockEnd phase)) s)

/-- The last accepted crossing of a phase lies 25 ms back, or its voltage is below 20 V (R343). -/
def Geode.noCrossing (g : Geode) (p : Nat) : Bool :=
  (g.phase p).vrms < lowVolts || (g.phase p).start.all (fun z => z + 25000000 ≤ g.now)

/-- GEODE_NO_CROSSING (R343): the phase forms blocks; the piece in progress becomes a block. -/
def execGeodeNoCrossing (phase : Nat) (s : State) : Outcome :=
  done s (fun s => guardS (s.geo.on && 1 ≤ phase && phase ≤ 3 && s.geo.noCrossing phase) (fun s => s.geo' (phaseMode phase true)) s)

/-! ### INRUSH masks (R350) -/

/-- A mask closes: ten deaf frames after a closing at 20 frames, and METER_OVERCURRENT at once for a circuit in OVERCURRENT (R350). -/
def closeMask (c : Nat) (m : Mask) (g : Geode) : Geode :=
  let g := g.modCir c (fun x => { x with mask := none, shut := some m, deaf := if m.until_ ≥ m.from_ + 20 then m.until_ + 10 else x.deaf })
  if (g.cir c).oc then g.ev 0x0520 c [tCode c, tCode 1, tValue ((g.cir c).half / 1000)] else g

/-- A mask whose time is over closes. -/
def endMask (c : Nat) (g : Geode) : Geode :=
  match (g.cir c).mask with
  | some m => if m.until_ ≤ g.frame then closeMask c m g else g
  | none => g

/-- An INRUSH message for circuit `c` and activation frame `a` (R350); a mask whose time is over closes before it. -/
def inrushHint (c a : Nat) (g : Geode) : Geode :=
  let f := g.frame
  let g := endMask c g
  if c ≥ 64 || g.unused c then g.nonLegal 0x8005 [byte c]
  else if f < (g.cir c).deaf then { g with hintIgn := satAdd 16 g.hintIgn 1 }.nonLegal 0x8005 [byte c]
  else if a + 5 ≤ f then g
  else g.modCir c (fun x => { x with mask := match x.mask with
    | some m => some { m with until_ := min (max m.until_ (a + 5)) (m.from_ + 20) }
    | none => some ⟨max a f, a + 5⟩ })

/-- INRUSH_HINT. -/
def execInrushHint (c a : Nat) (ok : Bool) (s : State) : Outcome :=
  done s (fun s => guardS s.geo.on (fun s => s.geo' (narrowIn ok (inrushHint c a))) s)

/-- INRUSH_MASK_CLOSE. -/
def execInrushMaskClose (c : Nat) (s : State) : Outcome :=
  done s (fun s => match (s.geo.cir c).mask with
    | some m => guardS (s.geo.on && m.until_ ≤ s.geo.frame) (fun s => s.geo' (closeMask c m)) s
    | none => s)

/-! ### Pulse inputs (R351) -/

/-- A pulse input. -/
def Geode.pulse (g : Geode) (q : Nat) : PulseIn := tgetD g.pulses q {}

/-- Change a pulse input. -/
def Geode.modPulse (g : Geode) (q : Nat) (f : PulseIn → PulseIn) : Geode := { g with pulses := tupd g.pulses q {} f }

/-- Count one pulse, stamped `t`; the count passes from 2^48 − 1 to 0 with REGISTER_ROLLOVER (R351, R365, R370). -/
def countPulse (q t : Nat) (g : Geode) : Geode :=
  let old := (g.pulse q).count
  let g := g.modPulse q (fun x => { x with count := (old + 1) % 2 ^ 48, last := t, rise := none, stuck := false })
  if old + 1 = 2 ^ 48 then g.legal 0x0030 [byte (0x80 + q), 0] else g

/-- PULSE_FAULT for a glitch, at most once per 100 frames per input (R351). -/
def glitchEvent (q : Nat) (g : Geode) : Geode :=
  let due := match (g.pulse q).fault with
    | none => true
    | some f => f + 100 ≤ g.frame
  if due then (g.modPulse q (fun x => { x with fault := some g.frame })).ev 0x0524 0xFF [tCode q, tCode 0] else g

/-- An accepted change of a pulse input at time `t` in ns (R351). -/
def pulseChange (q : Nat) (high : Bool) (t : Nat) (g : Geode) : Geode :=
  match (g.pulse q).rise, high with
  | none, true => g.modPulse q (fun x => { x with rise := some t })
  | some r, false =>
    if (g.pulse q).stuck || r + 10000000 ≤ t then countPulse q r g
    else glitchEvent q { (g.modPulse q (fun x => { x with rise := none })) with glitch := satAdd 16 g.glitch 1 }
  | _, _ => g

/-- PULSE_INPUT_CHANGE, accepted after 16 samples, the first of them at `t` (R351). -/
def execPulseInputChange (q : Nat) (high : Bool) (t : Nat) (s : State) : Outcome :=
  done s (fun s => guardS (s.geo.on && q < 16 && t + 1875000 ≤ s.geo.now) (fun s => s.geo' (pulseChange q high t)) s)

/-- PULSE_STUCK (R351): 10 s in ON. -/
def execPulseStuck (q : Nat) (s : State) : Outcome :=
  done s (fun s => match (s.geo.pulse q).rise with
    | some r => guardS (s.geo.on && !(s.geo.pulse q).stuck && r + 10000000000 ≤ s.geo.now)
      (fun s => s.geo' (fun g => (g.modPulse q (fun x => { x with stuck := true })).ev 0x0524 0xFF [tCode q, tCode 1])) s
    | none => s)

/-! ### Snapshots and readings (R352 to R356, R366 to R369) -/

/-- The latch edge of a trigger time: the first beat boundary at or after T + 125 µs (R352). -/
def latchEdge (t : Nat) : Nat := cdiv (t + 125000) 125000 * 125000

/-- The next beat boundary after the Geode's sample in progress. -/
def Geode.nextBoundary (g : Geode) : Nat := g.now + 125000

/-- A SNAPSHOT message with T and source: it awaits its latch edge, or is SNAPSHOT_MISSED while the Geode is busy or after its E (R352, R355). -/
def snapshotMsg (t src : Nat) (g : Geode) : Geode :=
  let miss (why : Nat) : Geode :=
    (({ g with missed := satAdd 16 g.missed 1 }.ev 0x0521 0xFF [tValue t, tCode src, tCode why])).nonLegal 0x8002 (beBytes 8 t ++ [byte src])
  if !g.pend.isEmpty then miss 0
  else if latchEdge t < g.now then miss 1
  else { g with pend := [{ kind := if src = 1 then 1 else 0, t := t, e := latchEdge t }] }

/-- GEODE_SNAPSHOT_MSG. -/
def execGeodeSnapshotMsg (t src : Nat) (ok : Bool) (s : State) : Outcome :=
  done s (fun s => guardS s.geo.on (fun s => s.geo' (narrowIn ok (snapshotMsg t src))) s)

/-- What a latch edge holds now (R353, R367), with reading sequence number `seq`. -/
def Geode.latchNow (g : Geode) (seq : Nat) : Latch :=
  { seq := seq, flags := b2n g.free + 2 * b2n g.suspended.isSome + 4 * b2n g.paused, logSeq := g.logSeq, pset := g.pset, fw := g.fw,
    cirs := (List.range 64).map (fun c => { unused := g.unused c, regs := (g.cir c).regs }),
    pulses := (List.range 16).map (fun q => { stuck := (g.pulse q).stuck, count := (g.pulse q).count }) }

/-- A new piece begins on every phase (R354). -/
def cutPhases (t : Tbl GeoPhase) : Tbl GeoPhase := [1, 2, 3].foldl (fun t p => tupd t p {} (fun x => { x with cut := true })) t

/-- A latch edge `e` ends the cycle in progress on every phase; the pieces accumulate as partial cycles, and new ones begin (R346, R354). -/
def cutCycles (e : Nat) (g : Geode) : Geode :=
  let g := [1, 2, 3].foldl (fun g p => endPhase false true p 0 e g) g
  { g with phases := cutPhases g.phases }

/-- Give a waiting reading its latch and the next sequence number (R353, R368). -/
def latchOne (r : PendRead) (g : Geode) : Geode × PendRead :=
  ({ g with rseq := g.rseq + 1 }, { r with latch := some (g.latchNow (g.rseq + 1)) })

/-- After the latch of kind 3, accumulation stops, the parameter set number rises, the change is logged and applied (R376). -/
def applyChange (e0 : Nat) (g : Geode) : Geode :=
  match g.act with
  | none => g
  | some a =>
    let g := { g with paused := true, pset := (g.pset + 1) % 2 ^ 32, act := some { a with e0 := some e0 } }
    match a.fw with
    | some v =>
      { (g.legal 0x0011 (beBytes 4 v.1 ++ beBytes 8 e0)) with prevFw := (g.fw, g.svn), fw := v.1, svn := v.2, image := none }
    | none =>
      let g := g.legal 0x0010 (beBytes 4 g.pset ++ beBytes 8 e0)
      { g with params := g.staged.getD g.params, staged := none }

/-- The snapshot at E: the reading that waits is latched (R353, R354, R376). -/
def snapshotLatch (g : Geode) : Geode :=
  match g.pend.findIdx? (fun r => r.latch.isNone) with
  | none => g
  | some i => match g.pend[i]? with
    | none => g
    | some r =>
      let (g, r) := latchOne r (cutCycles r.e g)
      let g := { g with pend := g.pend.set i r }
      if r.kind = 3 then applyChange r.e g else g

/-- A network time is a profile boundary (R366). -/
def Geode.profileEdge (g : Geode) (e : Nat) : Bool := e % (g.params.period * 60000000000) == 0

/-- SNAPSHOT_LATCH. At an E that is a profile boundary PROFILE_CLOSE makes the latch of both (R366). -/
def execSnapshotLatch (s : State) : Outcome :=
  done s (fun s => guardS (s.geo.on && s.geo.pend.any (fun r => r.latch.isNone && r.e ≤ s.geo.now + 125000 && !(r.kind != 3 && s.geo.profileEdge r.e)))
    (fun s => s.geo' snapshotLatch) s)

/-- The profile reading of boundary `e` (R366): signed after the readings latched before, and before a snapshot that shares its edge. -/
def profileClose (e : Nat) (g : Geode) : Geode :=
  let (g, p) := latchOne { kind := 2, t := e, e := e } (cutCycles e g)
  match g.pend.find? (fun r => r.latch.isNone && r.e == e) with
  | some r =>
    let (g, r') := latchOne r g
    { g with pend := g.pend.filter (fun x => x != r) ++ [p, r'] }
  | none => { g with pend := g.pend.filter (fun r => r.latch.isSome) ++ [p] ++ g.pend.filter (fun r => r.latch.isNone) }

/-- PROFILE_CLOSE, at each whole multiple of the profile capture period (R366). -/
def execProfileClose (e : Nat) (s : State) : Outcome :=
  done s (fun s => guardS (s.geo.on && s.geo.profileEdge e) (fun s => s.geo' (profileClose e)) s)

/-- Bytes 0 to 3,775 of a signed reading (R367). -/
def readingBody (r : PendRead) (l : Latch) : Bytes :=
  beBytes 2 0x4752 ++ [1, byte r.kind] ++ beBytes 4 3840 ++ beBytes 8 Config.geodeSerial ++ beBytes 8 l.seq ++ beBytes 8 r.t ++ beBytes 8 r.e
    ++ beBytes 4 l.pset ++ beBytes 4 l.fw ++ beBytes 2 (l.flags + 8 * b2n r.late) ++ beBytes 2 64 ++ beBytes 2 16 ++ beBytes 2 0 ++ beBytes 8 l.logSeq
    ++ l.cirs.zipIdx.flatMap (fun e => [byte e.2, byte (b2n e.1.unused)] ++ e.1.regs.flatMap (beBytes 6))
    ++ l.pulses.zipIdx.flatMap (fun e => [byte e.2, byte (b2n e.1.stuck)] ++ beBytes 6 e.1.count)

/-- The reading with its signature (R367, R368). -/
def signReading (r : PendRead) (l : Latch) : Reading :=
  let b := readingBody r l
  let sg := Config.geodeSign b
  { seq := l.seq, kind := r.kind, t := r.t, bytes := b ++ beBytes 32 sg.1 ++ beBytes 32 sg.2 }

/-- The readings the Geode keeps: the latest 8,640 of kind 2 and the latest 1,024 of the others (R369). -/
def keepReadings (l : List Reading) : List Reading :=
  let n2 := (l.filter (fun r => r.kind == 2)).length
  let n := (l.filter (fun r => r.kind != 2)).length
  if n2 > 8640 then (match l.findIdx? (fun r => r.kind == 2) with | some i => l.eraseIdx i | none => l)
  else if n > 1024 then (match l.findIdx? (fun r => r.kind != 2) with | some i => l.eraseIdx i | none => l)
  else l

/-- Keep a signed reading and send it with the next link packet (R362, R369). -/
def keepReading (x : Reading) (g : Geode) : Geode :=
  { g with readings := keepReadings (g.readings ++ [x]), outR := g.outR ++ [x], snapValid := g.snapValid || x.kind ≤ 1 }

/-- The reading of kind 3 begins once the Geode is not busy (R376). -/
def startChange (g : Geode) : Geode :=
  match g.act with
  | some a => if g.pend.isEmpty && a.e0.isNone then { g with pend := [{ kind := 3, t := g.nextBoundary, e := g.nextBoundary }] } else g
  | none => g

/-- The oldest latched reading is signed (R353, R368). -/
def readingSigned (g : Geode) : Geode :=
  match g.pend with
  | r :: rest => match r.latch with
    | some l => startChange (keepReading (signReading r l) { g with pend := rest })
    | none => g
  | [] => g

/-- READING_SIGNED. -/
def execReadingSigned (s : State) : Outcome := done s (fun s => guardS s.geo.on (fun s => s.geo' readingSigned) s)

/-! ### Read requests and the link packet (R362 to R364) -/

/-- The 80 bytes of a circuit or phase record (R340). -/
def CirRec.bytes (c : Nat) (r : CirRec) : Bytes :=
  [byte c, byte r.sensor, byte r.mphase, 0] ++ beBytes 4 r.inMa ++ beBytes 4 r.un ++ beBytes 2 r.oc ++ beBytes 2 0
    ++ (List.range 8).flatMap (fun j => beBytes 4 (r.pts.getD j (0x40000000, 0)).1 ++ beIntBytes 4 (r.pts.getD j (0x40000000, 0)).2)

/-- A circuit or phase record number (R340). -/
def cirNo (c : Nat) : Bool := c < 64 || (0x40 ≤ c && c ≤ 0x42)

/-- Up to 36 records of a ring from an index (R364): 1 absent, 2 overwritten. -/
def readLog (l : List LogRec) (last ix : Nat) : Nat × Bytes :=
  match l.filter (fun r => r.seq ≥ ix) with
  | [] => (1, [])
  | rs => if (l.head?.map (fun r => decide (ix < r.seq))).getD false && ix ≥ 1 && ix ≤ last then (2, [])
    else (0, (rs.take 36).flatMap LogRec.bytes)

/-- The answer to a READ_REQ (R364). -/
def Geode.answer (g : Geode) (id obj ix : Nat) : GeoAnswer :=
  match obj with
  | 0 => match g.readings.find? (fun r => r.seq == ix) with
    | some r => ⟨id, 0, r.bytes⟩
    | none => ⟨id, if ix ≥ 1 && ix ≤ g.rseq && !(g.pend.any (fun p => p.latch.any (fun l => l.seq == ix))) then 2 else 1, []⟩
  | 1 => let (c, b) := readLog g.log g.logSeq ix; ⟨id, c, b⟩
  | 2 => let (c, b) := readLog g.nlog g.nlogSeq ix; ⟨id, c, b⟩
  | 3 => if cirNo ix then ⟨id, 0, (g.rec_ ix).bytes ix⟩ else ⟨id, 3, []⟩
  | _ => ⟨id, 3, []⟩

/-- READ_REQ: at most 8 outstanding; a ninth is discarded and logged (R363). -/
def execReadReq (id obj ix : Nat) (ok : Bool) (s : State) : Outcome :=
  done s (fun s => guardS s.geo.on (fun s => s.geo' (fun g =>
    narrowIn (ok && g.reqs.length < 8) (fun g => { g with reqs := g.reqs ++ [(id, obj, ix)] }) g)) s)

/-- Signed quotient of µW by 0.1 W. -/
def tenths (v : Int) : Int := tdiv v 100000

/-- The state of the status word: 0 METERING, 1 PAUSED, 2 SUSPENDED_TEMP (R362). -/
def Geode.state (g : Geode) : Nat := if g.suspended.isSome then 2 else if g.paused then 1 else 0

/-- P_win of a circuit in 0.1 W, over the cycle's length `t1` in ns that ends at `b` (R348). -/
def Geode.pwin (g : Geode) (c t1 b : Nat) : Int :=
  let r := g.rec_ c
  let vs := g.voltage r.mphase
  let ps := (g.cir c).hist ++ (g.current c (g.phase r.mphase).freq).map (fun s => (s.1, powerOf r (sumVI vs [s])))
  tdiv ((ps.map (fun s => ((overlap s.1 b t1 : Nat) : Int) * s.2)).sum) (t1 * 100000)

/-- Length in ns of the window of a phase: the last complete cycle, or 20 ms in blocks (R348). -/
def Geode.window (g : Geode) (p : Nat) : Nat := if (g.phase p).blocks then 20000000 else tgetD g.t1 p 20000000

/-- A circuit in the record of the boundary `b` (R348, R362); an unused circuit's copies read 0 (R334). -/
def Geode.pktCir (g : Geode) (b c : Nat) : PktCir :=
  let x := g.cir c
  let p := (g.rec_ c).mphase
  if g.unused c then
    { pwin := 0, irms := 0, p1 := 0, q1 := 0, thd := 0, path := 1, unused := true, clipSeen := false, clip := 0, oc := false, mask := false,
      suppressed := false, mphase := 0, regs := List.replicate 9 0 }
  else
    { pwin := g.pwin c (g.window p) b, irms := x.irms / 1000, p1 := tenths x.p1, q1 := tenths x.q1,
      thd := if (g.phase p).freq = 0 then 0xFFFF else x.thd, path := x.p, unused := false, clipSeen := x.clipSeen, clip := x.clip, oc := x.oc,
      mask := g.maskOpen c, suppressed := x.suppressed, mphase := p, regs := ((x.accB.getD x.acc)).map regOf }

/-- The frame measurement record of the boundary at which the frame of the label began (R348). -/
def Geode.record (g : Geode) : FrameRec :=
  { frame := g.frame, t1 := [1, 2, 3].map (fun p => g.window p / 1000), cirs := (List.range 64).map (g.pktCir (g.frame * 10000000)),
    phases := [1, 2, 3].map (fun p => ((g.phase p).vrms, (g.phase p).freq)),
    pulses := (List.range 16).map (fun q => ((g.pulse q).count, (g.pulse q).rise.isSome, (g.pulse q).stuck)), sync := g.sync, free := g.free }

/-- The record is formed once the samples of the boundary have passed the pipeline of 4 beats (R337, R348). -/
def frameRecord (g : Geode) : Geode :=
  if g.label.2 = 4 then { g with frec := some g.record, cirs := tmap g.cirs (fun _ c => { c with clipSeen := false }) } else g

/-- GEODE_BEAT_EDGE (R336 to R339, R348): an edge steers the sample clock, and one sample of the inputs is taken. Without an edge (`edge` false) the
sample clock goes on by itself (R336, log 21). -/
def execGeodeBeatEdge (edge : Bool) (spacing : Nat) (err : Int) (smp : List GSample) (s : State) : Outcome :=
  done s (fun s => guardS s.geo.on (fun s => s.geo' (fun g =>
    frameRecord (smp.foldl (fun g x => takeSample x g) (nextLabel (if edge then syncEdge spacing err { g with gone := 0 } else { g with run := (0, 0), gone := g.gone + 1 }))))) s)

/-- The record that the link packet of the frame carries (R362). -/
def Geode.latestRecord (g : Geode) : FrameRec :=
  match g.frec with
  | some r => if r.frame = g.frame then r else g.record
  | none => g.record

/-- The link packet of the frame (R348, R362). -/
def Geode.packet (g : Geode) : LinkPkt :=
  let r := g.latestRecord
  { frame := r.frame, state := g.state, flood := g.flood, optAssoc := !g.saps.isEmpty, pset := g.pset, rseq := g.rseq, logSeq := g.logSeq,
    temp := g.temp, fw := g.fw, sync := r.sync, free := r.free, snap := (g.snapValid, !g.pend.isEmpty),
    counts := [g.missed, g.hintIgn, g.glitch, g.floods, g.authFail], t1 := r.t1, cirs := r.cirs, phases := r.phases, pulses := r.pulses,
    evs := g.evs, readings := g.outR, answers := g.reqs.map (fun r => g.answer r.1 r.2.1 r.2.2), wave := g.waveDone }

/-- GEODE_LINK_PACKET: one packet per frame, after beat 6; it is lost where the main side is unpowered (R362). -/
def execGeodeLinkPacket (s : State) : Outcome :=
  done s (fun s => guardS (s.geo.on && 6 < s.geo.label.2 && s.geo.sent != some s.geo.frame) (fun s => s.geo' (fun g =>
    { g with wire := if s.pw.main then some g.packet else none, sent := some g.frame, evs := [], outR := [], reqs := [] })) s)

/-! ### Changes by the metrology authority (R376, R377) -/

/-- METERING_RESUME at the beat boundary `e1`: within 2 s of E0 for parameters, 30 s for firmware (R376). The reading of kind 4 is latched there, and
METERING_PAUSED is written. -/
def meteringResume (e0 e1 : Nat) (g : Geode) : Geode :=
  let (g, r) := latchOne { kind := 4, t := e1, e := e1 } (cutCycles e1 g)
  let g := { g with paused := false, act := none, pend := g.pend ++ [r] }
  g.legal 0x0013
    (beBytes 4 ((e1 - e0) / 1000) ++ beBytes 8 e0)

/-- Longest E1 − E0 in ns (R376): 2 s for parameters, 30 s for firmware, of which new firmware has 25 s. -/
def GeoAct.limit (a : GeoAct) : Nat := if !a.firmware then 2000000000 else if a.fw.isSome then 25000000000 else 30000000000

/-- METERING_RESUME. -/
def execMeteringResume (e1 : Nat) (s : State) : Outcome :=
  done s (fun s => match s.geo.act with
    | some a => match a.e0 with
      | some e0 => guardS (s.geo.on && e0 ≤ e1 && e1 % 125000 == 0
          && e1 ≤ e0 + a.limit)
        (fun s => s.geo' (meteringResume e0 e1)) s
      | none => s
    | none => s)

/-- The change without its new firmware. -/
def GeoAct.noFw (a : GeoAct) : GeoAct := { a with fw := none }

/-- The previous bank starts and FIRMWARE_REVERTED names the refused version (R376, R377). -/
def firmwareRevert (v : Nat) (g : Geode) : Geode :=
  ({ g with fw := g.prevFw.1, svn := g.prevFw.2, act := g.act.map GeoAct.noFw }).legal 0x0012 (beBytes 4 v)

/-- FIRMWARE_REVERT: at E0 + 25 s the new firmware has not resumed (R376). -/
def execFirmwareRevert (s : State) : Outcome :=
  done s (fun s => match s.geo.act with
    | some a => match a.e0, a.fw with
      | some e0, some v => guardS (s.geo.on && e0 + 25000000000 ≤ s.geo.now) (fun s => s.geo' (firmwareRevert v.1)) s
      | _, _ => s
    | none => s)

/-! ### The optical port (R372 to R375) -/

/-- OPTICAL_FLOOD (R373): counted in GEO_OPT.FLOOD and the non-legal log. -/
def execOpticalFlood (s : State) : Outcome :=
  done s (fun s => guardS (s.geo.on && !s.geo.flood) (fun s => s.geo' (fun g =>
    { g with flood := true, floods := satAdd 16 g.floods 1 }.nonLegal 0x8001)) s)

/-- OPTICAL_FLOOD_END (R373). -/
def execOpticalFloodEnd (s : State) : Outcome :=
  done s (fun s => guardS (s.geo.on && s.geo.flood) (fun s => s.geo' (fun g => { g with flood := false })) s)

/-- OPTICAL_SIGN_ON (R372): the identification message offers the baud rate identifier of the HDLC setup object. -/
def execOpticalSignOn (s : State) : Outcome :=
  done s (fun s => guardS (s.geo.on && !s.geo.flood) (fun s =>
    (s.geo' (fun g => { g with ox1 := max g.ox1 1 })).send .ox1Ident 0 [s.geo.params.baud]) s)

/-- The association of a SAP ends; with SAP 1 the staged copy and the transferred image are discarded (R377). -/
def dropSap (sap : Nat) (g : Geode) : Geode :=
  let g := { g with saps := g.saps.filter (· != sap) }
  if sap = 1 && g.act.isNone then { g with staged := none, image := none } else g

/-- The HDLC link ends, and every association on it (R372, R377). -/
def dropLink (g : Geode) : Geode := { ([1, 16, 32].foldl (fun g p => dropSap p g) g) with ox1 := 0 }

/-- HDLC_INACTIVITY (R372): no frame for the inactivity timeout. -/
def execHdlcInactivity (s : State) : Outcome :=
  done s (fun s => guardS (s.geo.on && s.geo.ox1 == 2 && s.geo.ox1At + s.geo.params.timeout * 1000000000 ≤ s.geo.now) (fun s => s.geo' dropLink) s)

/-- A failed authentication (R374): SECURITY_FAILURE, and at the fifth in a row ASSOCIATIONS_LOCKED for 10 min. -/
def authFailed (sap : Nat) (g : Geode) : Geode :=
  let n := tgetD g.fails sap 0 + 1
  let g := { g with authFail := satAdd 16 g.authFail 1, fails := tset g.fails sap n }.legal 0x0040 [byte sap, byte n]
  if n ≥ 5 then { g with fails := tset g.fails sap 0, locked := tset g.locked sap (g.now + 600000000000) }.legal 0x0041 [byte sap] else g

/-- What a SAP may read (R374). -/
def canRead (sap : Nat) (o : Cosem) : Bool :=
  match o with
  | .ldn | .clock | .register _ _ | .reading _ | .security => true
  | .other => false
  | _ => sap != 16

/-- The object exists (R375). -/
def cosemThere (o : Cosem) : Bool :=
  match o with
  | .register c ix => c < 64 && ix < 9
  | .pulse q => q < 16
  | .circuit c => cirNo c
  | .other => false
  | _ => true

/-- The value of an object (R375); the encoding within the APDU is the model's own (log 20). -/
def Geode.cosem (g : Geode) (o : Cosem) : Option Bytes :=
  match o with
  | .ldn => some (Config.geodeText 0)
  | .clock => some (beBytes 8 g.now)
  | .register c ix => some (beBytes 6 ((g.cir c).regs.getD ix 0))
  | .pulse q => some (beBytes 6 (g.pulse q).count)
  | .profile => some (beBytes 1 g.params.period ++ ((g.readings.filter (fun r => r.kind == 2)).getLast?.map (fun r => r.bytes)).getD [])
  | .legalLog n => some (readLog g.log g.logSeq n).2
  | .nonLegalLog n => some (readLog g.nlog g.nlogSeq n).2
  | .reading n => (g.readings.find? (fun r => r.seq == n)).map (·.bytes)
  | .circuit c => some ((g.rec_ c).bytes c)
  | .weights => some ((List.range 16).flatMap (fun q => beBytes 4 (tgetD g.params.weights q 1)))
  | .activation => some []
  | .image => some []
  | .hdlc => some (beBytes 1 g.params.baud ++ beBytes 2 g.params.timeout)
  | .security => some (Config.geodeText 1)
  | .association => some (g.saps.map byte)
  | .sap => some [1, 16, 32]
  | .other => none

/-- A circuit or phase record of 80 bytes within the ranges of R340. -/
def decodeCirRec (c : Nat) (b : Bytes) : Option CirRec :=
  let n (off k : Nat) : Nat := beNat ((b.drop off).take k)
  let r : CirRec := {
    sensor := n 1 1, mphase := n 2 1, inMa := n 4 4, un := n 8 4, oc := n 12 2,
    pts := (List.range 8).map (fun j => (n (16 + 8 * j) 4, beInt ((b.drop (20 + 8 * j)).take 4))) }
  if b.length = 80 && n 0 1 = c && r.sensor ≤ 1 && r.mphase ≤ 3 && 1 ≤ r.inMa && r.inMa ≤ 6000000 && 10000 ≤ r.un && r.un ≤ 400000
      && 50 ≤ r.oc && r.oc ≤ 200
      && r.pts.all (fun p => 0x38000000 ≤ p.1 && p.1 ≤ 0x48000000 && decide (-5000000 ≤ p.2) && decide (p.2 ≤ 5000000)) then some r
  else none

/-- A staged write by SAP 1 (R375, R376); none where the object takes no write or the value lies outside its range. -/
def stageWrite (o : Cosem) (b : Bytes) (p : LegalParams) : Option LegalParams :=
  match o with
  | .profile => if [1, 5, 10, 15, 30, 60].contains (beNat b) then some { p with period := beNat b } else none
  | .circuit c => if cirNo c then (decodeCirRec c b).map (fun r => { p with cirs := tput {} p.cirs c r }) else none
  | .weights =>
    let l := beNats 4 b
    if b.length = 64 && l.all (fun w => 1 ≤ w && w ≤ 10000000) then some { p with weights := l.zipIdx.map (fun e => (e.2, e.1)) } else none
  | .hdlc =>
    let r := beNat (b.take 1)
    if b.length = 3 && (r = 5 || r = 6) then some { p with baud := r, timeout := beNat (b.drop 1) } else none
  | .security => some { p with anchor := b }
  | _ => none

/-- A response on OX1: 0 success, 1 read-write-denied, 2 object-unavailable, 3 refused. -/
def ox1Reply (s : State) (sap res : Nat) (data : Bytes := []) : State := s.send .ox1Reply sap [res] data

/-- The SAP has an association. -/
def Geode.assoc (g : Geode) (sap : Nat) : Bool := g.saps.contains sap

/-- An association request (R374). -/
def hdlcAssociate (sap : Nat) (ok : Bool) (s : State) : State :=
  if sap = 16 then ox1Reply (s.geo' (fun g => { g with saps := insNat 16 g.saps })) sap 0
  else if sap ≠ 1 && sap ≠ 32 then ox1Reply s sap 3
  else if (tget s.geo.locked sap).isSome then ox1Reply s sap 3
  else if ok then ox1Reply (s.geo' (fun g => { g with saps := insNat sap g.saps, fails := tset g.fails sap 0 })) sap 0
  else ox1Reply (s.geo' (authFailed sap)) sap 3

/-- A read (R374, R375). -/
def hdlcGet (sap : Nat) (o : Cosem) (s : State) : State :=
  if !s.geo.assoc sap then ox1Reply s sap 3
  else if !cosemThere o then ox1Reply s sap 2
  else if !canRead sap o then ox1Reply s sap 1
  else match s.geo.cosem o with
    | some b => ox1Reply s sap 0 b
    | none => ox1Reply s sap 2

/-- A write (R375, R376). -/
def hdlcSet (sap : Nat) (o : Cosem) (val : Bytes) (s : State) : State :=
  if !s.geo.assoc sap then ox1Reply s sap 3
  else if !cosemThere o then ox1Reply s sap 2
  else if sap ≠ 1 then ox1Reply s sap 1
  else match stageWrite o val (s.geo.staged.getD s.geo.params) with
    | some p => ox1Reply (s.geo' (fun g => { g with staged := some p })) sap 0
    | none => ox1Reply s sap 1

/-- An image transfer completes (R376): accepted with a valid signature and a security version not below the running firmware's. -/
def hdlcImage (sap version svn : Nat) (good : Bool) (s : State) : State :=
  if !s.geo.assoc sap then ox1Reply s sap 3
  else if sap ≠ 1 then ox1Reply s sap 1
  else if good && svn ≥ s.geo.svn then ox1Reply (s.geo' (fun g => { g with image := some (version, svn) })) sap 0
  else ox1Reply s sap 3

/-- The activation methods (R376): 1 activate the staged parameters, 2 discard, 3 activate the image. -/
def hdlcActivate (sap m : Nat) (s : State) : State :=
  if !s.geo.assoc sap then ox1Reply s sap 3
  else if sap ≠ 1 then ox1Reply s sap 1
  else if s.geo.act.isSome then ox1Reply s sap 3
  else match m with
    | 1 => if s.geo.staged.isNone then ox1Reply s sap 2
      else ox1Reply (s.geo' (fun g => startChange { g with act := some ⟨none, none, false⟩ })) sap 0
    | 2 => ox1Reply (s.geo' (fun g => { g with staged := none })) sap 0
    | 3 => match s.geo.image with
      | none => ox1Reply s sap 2
      | some v => ox1Reply (s.geo' (fun g => startChange { g with act := some ⟨none, some v, true⟩ })) sap 0
    | _ => ox1Reply s sap 2

/-- HDLC_FRAME: the Geode is the secondary station; in FLOOD it passes no frame upward (R372 to R375). -/
def hdlcFrame (m : HdlcMsg) (s : State) : State :=
  match m with
  | .connect => ox1Reply (s.geo' (fun g => { g with ox1 := 2 })) 0 0
  | .disconnect => ox1Reply (s.geo' dropLink) 0 0
  | .associate sap ok => hdlcAssociate sap ok s
  | .release sap => ox1Reply (s.geo' (dropSap sap)) sap 0
  | .get sap o => hdlcGet sap o s
  | .set sap o val => hdlcSet sap o val s
  | .image sap v n good => hdlcImage sap v n good s
  | .activate sap k => hdlcActivate sap k s
  | .other sap => ox1Reply s sap (if s.geo.assoc sap then 2 else 3)

/-- HDLC_FRAME; after a sign-on the link takes a set-up, and once set up every frame. -/
def execHdlcFrame (m : HdlcMsg) (s : State) : Outcome :=
  done s (fun s => guardS (s.geo.on && !s.geo.flood && (s.geo.ox1 == 2 || (s.geo.ox1 == 1 && m == .connect)))
    (fun s => hdlcFrame m (s.geo' (fun g => { g with ox1At := g.now }))) s)

/-- SAP_LOCK_END: ten minutes after the lock (R374). -/
def execSapLockEnd (sap : Nat) (s : State) : Outcome :=
  done s (fun s => match tget s.geo.locked sap with
    | some t => guardS (s.geo.on && t ≤ s.geo.now) (fun s => s.geo' (fun g => { g with locked := terase g.locked sap })) s
    | none => s)

/-- COVER_OPENED (R370). -/
def execCoverOpened (s : State) : Outcome := done s (fun s => guardS s.geo.on (fun s => s.geo' (fun g => g.legal 0x0050)) s)

/-! ### Saves, power loss and temperature (R378 to R380) -/

/-- A save of the accumulators, counts and readings not yet signed (R378, R379). -/
def Geode.save (g : Geode) (n : Nat) (pf : Bool) : Save :=
  { seq := n, pf := pf, time := g.now, acc := tmap g.cirs (fun _ c => c.acc), counts := tmap g.pulses (fun _ p => p.count), rseq := g.rseq,
    pend := g.pend.filter (fun r => r.latch.isSome) }

/-- Sequence number of a slot; 0 for a slot without a valid save. -/
def saveSeq (o : Option Save) : Nat := (o.map (·.seq)).getD 0

/-- A save goes into the slot of the older save, so that saves alternate; a save that is interrupted leaves its slot without a valid save (R378). -/
def makeSave (pf ok : Bool) (g : Geode) : Geode :=
  let a := saveSeq g.saves.1
  let b := saveSeq g.saves.2
  let new := if ok then some (g.save (max a b + 1) pf) else none
  { g with saves := if a ≤ b then (new, g.saves.2) else (g.saves.1, new) }

/-- GEODE_SAVE (R378): once per second. -/
def execGeodeSave (s : State) : Outcome :=
  done s (fun s => guardS (s.geo.on && s.geo.savedAt + 1000000000 ≤ s.geo.now)
    (fun s => s.geo' (fun g => { makeSave false true g with savedAt := g.now })) s)

/-- GEODE_POWER_FAIL: the final save, marked PF, which `ok` says whether it completes (R378). -/
def execGeodePowerFail (ok : Bool) (s : State) : Outcome :=
  done s (fun s => guardS (s.geo.on && s.geo.failing.isNone) (fun s => s.geo' (fun g => { (makeSave true ok g) with failing := some g.now })) s)

/-- GEODE_LINE_RETURN within hold-up: SUPPLY_INTERRUPTION with the duration in ms (R370, R378). -/
def execGeodeLineReturn (ms : Nat) (s : State) : Outcome :=
  done s (fun s => guardS (s.geo.on && s.geo.failing.isSome) (fun s => s.geo' (fun g => { g with failing := none }.legal 0x0002 (beBytes 4 ms))) s)

/-- The Geode stops: what FRAM and flash hold stays (R361, R378). -/
def geodeStop (g : Geode) : Geode :=
  { g with
    on := false, failing := none, sync := 0, run := (0, 0), narrow := 0, suspended := none, cirs := [], phases := [], t1 := [], frec := none, pulses := [],
    sent := none, pend := [], hot := 0, cool := none, ox1 := 0, saps := [], flood := false, floods := 0, authFail := 0, missed := 0, hintIgn := 0, glitch := 0,
    evs := [], outR := [], reqs := [], wave := [], waveDone := [], wire := none,
    staged := none, image := none, gone := 0, ox1At := 0, savedAt := 0 }

/-- GEODE_HOLDUP_END (R378). -/
def execGeodeHoldupEnd (s : State) : Outcome :=
  done s (fun s => guardS (s.geo.on && s.geo.failing.isSome) (fun s => s.geo' geodeStop) s)

/-- The valid save of the higher sequence number (R379). -/
def Geode.lastSave (g : Geode) : Option Save := if saveSeq g.saves.1 ≥ saveSeq g.saves.2 then g.saves.1 else g.saves.2

/-- Metering resumes from a save (R379). -/
def fromSave (v : Save) (g : Geode) : Geode :=
  { g with cirs := tmap v.acc (fun _ a => { acc := a }), pulses := tmap v.counts (fun _ n => { count := n }) }

/-- A start of the Geode (R377, R379): from its latest valid save; after a failed final save SAVE_INCOMPLETE comes first; a change that had not
resumed ends as R377 states; the readings held in a PF save are signed late. -/
def geodeStart (g : Geode) : Geode :=
  let v := g.lastSave
  let g := { g with on := true }
  let g := match v with
    | some v => fromSave v g
    | none => g
  let g := match v with
    | some v => if v.pf then g else g.legal 0x0003 (beBytes 8 v.time ++ beBytes 4 1000)
    | none => g
  let g := g.legal 0x0001 (beBytes 8 ((v.map (·.time)).getD 0))
  let g := match g.act with
    | some a => match a.e0, a.fw with
      | some _, some f => firmwareRevert f.1 g
      | _, _ => g
    | none => g
  let g := { g with act := none, paused := false }
  match v with
  | some v => if v.pf then v.pend.foldl (fun g r => match r.latch with
      | some l => if g.readings.any (fun x => x.seq == l.seq) then g else keepReading (signReading { r with late := true } l) g
      | none => g) g else g
  | none => g

/-- GEODE_START. -/
def execGeodeStart (s : State) : Outcome := done s (fun s => guardS (!s.geo.on) (fun s => s.geo' geodeStart) s)

/-- A temperature reading in 1/16 degree (R380): the second in a row at or above 105 °C saves and stops accumulation. -/
def tempRead (t : Int) (g : Geode) : Geode :=
  let hot := if t ≥ 1680 then g.hot + 1 else 0
  let cool := if t < 1600 then (match g.cool with | some x => some x | none => some g.now) else none
  let g := { g with temp := t, hot := min hot 2, cool := cool }
  if hot ≥ 2 && g.suspended.isNone then
    { (makeSave false true g) with suspended := some g.now }.legal 0x0020 (beIntBytes 2 t)
  else g

/-- GEODE_TEMP_READ. -/
def execGeodeTempRead (t : Int) (s : State) : Outcome := done s (fun s => guardS s.geo.on (fun s => s.geo' (tempRead t)) s)

/-- GEODE_TEMP_RESUME: below 100 °C for 60 s (R380); METROLOGY_RESUMED with the length in s. -/
def execGeodeTempResume (s : State) : Outcome :=
  done s (fun s => match s.geo.suspended, s.geo.cool with
    | some t0, some c => guardS (s.geo.on && c + 60000000000 ≤ s.geo.now) (fun s => s.geo' (fun g =>
        { cutCycles g.now g with suspended := none }.legal 0x0021 (beBytes 4 ((g.now - t0) / 1000000000)))) s
    | _, _ => s)

end Sys2Proof.Machine
end

