-- ==== Sys2Proof/Machine/Metering.lean ====
section
/-!
DEFINITION. Machine/Metering.lean: the main side of the Geode link and the metering opcodes (R356 to R364, R381 to R387).
-/
namespace Sys2Proof.Machine

/-- Change the main side's mirror. -/
def State.mir (s : State) (f : Mirror → Mirror) : State := s.geo' (fun g => { g with mir := f g.mir })

/-- Raise an event of the Geode (R359, R386): one that concerns a circuit goes to every vCtl that holds METER_READ with the circuit in its mask;
the others go to the owner and vCtl 1. -/
def meterEvent (code cir : Nat) (tlvs : List OTlv) (s : State) : State :=
  s.ten.vctls.foldl (fun s e =>
    if (if cir < 64 then s.hasMod e.1 1 && bit (s.mask e.1) cir else e.1 ≤ 1) then s.raise e.1 code tlvs else s) s

/-- METER_PHASE_MISMATCH for every used circuit whose metering phase differs from the owner's CIRCUIT_PHASE (R358). -/
def phaseMismatch (s : State) : State :=
  match s.geo.mir.pkt with
  | none => s
  | some p => p.cirs.zipIdx.foldl (fun s e =>
      if !e.1.unused && e.1.mphase != s.phase e.2 then s.owner 0x0523 [tCode e.2, tCode (s.phase e.2), tCode e.1.mphase] else s) s

/-- The RESULT of a command to the Geode (R146). -/
def geoResult (cmd : Nat × Nat × Nat) (status : Nat) (tlvs : List OTlv) (s : State) : State := s.result cmd.1 cmd.2.1 cmd.2.2 status tlvs

/-- Keep a reading, the latest 4,096 of every kind (R369). -/
def keepMain (r : Reading) (l : List Reading) : List Reading :=
  let l := l.filter (fun x => x.seq != r.seq) ++ [r]
  l.drop (l.length - 4096)

/-- DATA of a reading from an offset: min(1,152, 3,840 − offset) bytes (R382). -/
def readingPart (b : Bytes) (off : Nat) : OTlv := tData ((b.drop off).take 1152)

/-- An answer of the Geode (R364, R382, R384). -/
def takeAnswer (pset : Nat) (a : GeoAnswer) (s : State) : State :=
  match s.geo.mir.reqs.find? (fun r => r.id == a.id) with
  | none => s
  | some r =>
    let s := s.mir (fun m => { m with reqs := m.reqs.filter (fun x => x.id != a.id) })
    if a.code ≠ 0 then geoResult r.cmd stEndpointUnknown [] s
    else match r.object with
      | 0 =>
        let x : Reading := ⟨r.index, beNat ((a.data.drop 3).take 1), beNat ((a.data.drop 24).take 8), a.data⟩
        geoResult r.cmd stOk [readingPart a.data r.arg] (s.mir (fun m => { m with readings := keepMain x m.readings }))
      | 3 => geoResult r.cmd stOk [tData a.data, tCount pset] s
      | o =>
        let recs := chunks 32 a.data
        let put (t : Tbl Bytes) : Tbl Bytes := recs.foldl (fun t b => tset t (beNat (b.take 8)) b) t
        geoResult r.cmd stOk [tData (a.data.take (32 * r.arg))]
          (s.mir (fun m => if o = 1 then { m with log := put m.log } else { m with nlog := put m.nlog }))

/-- SNAPSHOT's RESULT: READING_SEQ once the reading reaches the main side (R385). -/
def snapDone (r : Reading) (s : State) : State :=
  if r.kind ≠ 0 then s
  else
    let mine := s.geo.mir.snaps.filter (fun x => x.2.2.2 == r.t)
    let s := s.mir (fun m => { m with snaps := m.snaps.filter (fun x => x.2.2.2 != r.t) })
    mine.foldl (fun s x => geoResult (x.1, x.2.1, x.2.2.1) stOk [(0x01D1, beBytes 8 r.seq)] s) s

/-- SNAPSHOT's RESULT where the snapshot was missed: NOT_VALID, with CODE 0 busy or 1 late (R385). -/
def snapMissed (e : Nat × Nat × List OTlv) (s : State) : State :=
  if e.1 ≠ 0x0521 then s
  else match e.2.2 with
    | [t, src, why] =>
      if beNat src.2 ≠ 0 then s
      else
        let mine := s.geo.mir.snaps.filter (fun x => x.2.2.2 == beNat t.2)
        let s := s.mir (fun m => { m with snaps := m.snaps.filter (fun x => x.2.2.2 != beNat t.2) })
        mine.foldl (fun s x => geoResult (x.1, x.2.1, x.2.2.1) stNotValid [why] s) s
    | _ => s

/-- OPTICAL_FLOOD: declarations in the last 100 frames, at most once per 100 frames (R386). -/
def floodEvent (n : Nat) (s : State) : State :=
  let (f, k) := s.geo.mir.flood.getD (0, 0)
  let due := s.geo.mir.flood.isNone || f + 100 ≤ s.frm.now
  if n < k then s.mir (fun m => { m with flood := some (f, n) })
  else if n > k && due then meterEvent 0x052A 0xFF [tCount (n - k)] (s.mir (fun m => { m with flood := some (s.frm.now, n) }))
  else s

/-- Waveform blocks of the streams on their way to the raw FIFOs (R357, R384, R432). -/
def waveBlocks (p : LinkPkt) (s : State) : State :=
  s.geo.mir.wave.foldl (fun s e => match tget p.wave e.2 with
    | some w => if w.length = 80 then { s with qry := { s.qry with blocks := s.qry.blocks ++ [⟨e.1, false, w⟩] } } else s
    | none => s) s

/-- What a link packet does on the main side (R358 to R364, R384 to R387, R393). -/
def takePacket (p : LinkPkt) (s : State) : State :=
  let old := s.geo.mir.pkt
  let wasSilent := s.geo.mir.silent
  let s := s.mir (fun m => { m with pkt := some p, at_ := s.frm.now, silent := false })
  let s := if wasSilent then meterEvent 0x052B 0xFF [tCode 1] s else s
  let s := if ((old.map (·.state)).getD 0) ≠ p.state then
      s.ten.vctls.foldl (fun s e => if e.1 ≤ 1 || s.hasMod e.1 1 then s.raise e.1 0x0529 [tCode p.state, tFrame p.frame] else s) s
    else s
  let s := p.evs.foldl (fun s e => snapMissed e (meterEvent e.1 e.2.1 e.2.2 s)) s
  let s := p.readings.foldl (fun s r =>
    snapDone r (meterEvent 0x0527 0xFF [tValue r.seq, tCode r.kind] (s.mir (fun m => { m with readings := keepMain r m.readings })))) s
  let s := p.answers.foldl (fun s a => takeAnswer p.pset a s) s
  let s := if (old.map (·.pset)) = some p.pset then s else phaseMismatch s
  let s := floodEvent (p.counts.getD 3 0) s
  let s := waveBlocks p s
  s.at' (attribPacket p)

/-- LINK_PACKET_RECEIVED. -/
def execLinkPacketReceived (s : State) : Outcome :=
  done s (fun s => match s.geo.wire with
    | some p => guardS s.pw.main (fun s => takePacket p (s.geo' (fun g => { g with wire := none }))) s
    | none => s)

/-- GEODE_LINK_SILENT (R386): no packet for 10 frames. -/
def execGeodeLinkSilent (s : State) : Outcome :=
  done s (fun s => guardS (s.pw.main && !s.geo.mir.silent && s.geo.mir.at_ + 10 ≤ s.frm.now)
    (fun s => meterEvent 0x052B 0xFF [tCode 0] (s.mir (fun m => { m with silent := true }))) s)

/-- READ_REQ_FAILED (R364, R382): unanswered after 10 frames. -/
def execReadReqFailed (id : Nat) (s : State) : Outcome :=
  done s (fun s => match s.geo.mir.reqs.find? (fun r => r.id == id) with
    | some r => guardS (r.since + 10 ≤ s.frm.now)
        (fun s => geoResult r.cmd stGeodeUnreachable [] (s.mir (fun m => { m with reqs := m.reqs.filter (fun x => x.id != id) }))) s
    | none => s)

/-- Ask the Geode with a READ_REQ (R363, R364). -/
def geoRequest (c : Cmd) (obj ix arg : Nat) (s : State) : State :=
  let id := s.geo.mir.nextId % 2 ^ 16
  (s.mir (fun m => { m with
    nextId := m.nextId + 1, reqs := m.reqs ++ [⟨id, obj, ix, (evKey c.key, c.seq, c.cmdid), arg, s.frm.now⟩] })).toGeode 4 (beBytes 2 id ++ [byte obj, 0] ++ beBytes 8 ix)

/-- Metering reads answer METER_SUSPENDED while the last status word shows PAUSED (R377). -/
def notPaused (s : State) : Except Err Unit :=
  need (!((s.geo.mir.pkt.map (·.state)) == some 1)) (eStat stMeterSuspended)

/-- METER_COPY record (R381). -/
def copyRec (k : Nat) (p : LinkPkt) : Bytes :=
  match p.cirs[k]? with
  | some x => [byte k, byte (b2n x.unused + 2 * b2n (p.state == 2) + 4 * b2n (p.state == 1) + 8 * b2n p.free)] ++ x.regs.flatMap (beBytes 6)
  | none => []

/-- The consecutive log records held from a sequence number, at most `n`. -/
def heldFrom (t : Tbl Bytes) : Nat → Nat → Bytes
  | _, 0 => []
  | i, n + 1 => match tget t i with
    | some b => b ++ heldFrom t (i + 1) n
    | none => []

/-- TLVs that each CODE of METER_READ needs (R381, R382). -/
def meterForm (c : Cmd) : Except Err Unit :=
  match c.nat 0x000D with
  | 0 => orMissing (c.has 0x01D0) 0x01D0
  | 1 => orMissing (c.has 0x01D1) 0x01D1
  | 2 => need (c.code? 1).isSome ⟨stTlvMissing, [tDetail 0x000D 1]⟩
  | 3 => do
    orMissing (c.has 0x01D4) 0x01D4
    orMissing (c.has 0x000F) 0x000F
  | _ => .ok ()

/-- METER_READ (R382; log 25). -/
def opMeterRead : OpInfo :=
  { op := 0x0501, need := .mod 1,
    specs := [{ (cCode 4) with req := true, rep := true }, tFix 0x01D0 8 0 (2 ^ 64 - 1), tFix 0x01D1 8 0 (2 ^ 64 - 1), tFix 0x01D2 2 0 3836,
      tFix 0x01D4 8 0 (2 ^ 64 - 1), cCount 1 36],
    form := meterForm,
    rights := fun c s => do
      need (c.nat 0x000D = 0 || s.mask c.vctl == 2 ^ 64 - 1) (eStat stRightMissing)
      circuitRights c s,
    ranges := fun c _ => do
      match c.nat 0x000D with
      | 0 => circuitCount c
      | 1 => need (c.nat 0x01D2 % 4 == 0) (eRange 0x01D2)
      | _ => .ok (),
    accept := fun c s => do
      notPaused s
      match c.nat 0x000D with
      | 0 => do
        need s.geo.mir.pkt.isSome (eStat stNotValid)
        need (s.frm.now < s.geo.mir.at_ + 10) (eStat stGeodeUnreachable)
      | 2 => need (s.geo.mir.readings.any (fun r => some r.kind == c.code? 1)) (eStat stNotValid)
      | _ => .ok (),
    commit := fun c s =>
      match c.nat 0x000D with
      | 0 => match s.geo.mir.pkt with
        | some p => (s, c.ok [tFrame p.frame, (0x01D3, c.circuits.flatMap (fun k => copyRec k p))])
        | none => (s, c.reply stNotValid)
      | 1 => match s.geo.mir.readings.find? (fun r => r.seq == c.nat 0x01D1) with
        | some r => (s, c.ok [readingPart r.bytes (c.nat 0x01D2)])
        | none => (geoRequest c 0 (c.nat 0x01D1) (c.nat 0x01D2) s, c.pend)
      | 2 => match (s.geo.mir.readings.filter (fun r => some r.kind == c.code? 1)).getLast? with
        | some r => (s, c.ok [tData (r.bytes.take 64)])
        | none => (s, c.reply stNotValid)
      | m =>
        let t := if m = 3 then s.geo.mir.log else s.geo.mir.nlog
        match heldFrom t (c.nat 0x01D4) (c.nat 0x000F) with
        | [] => (geoRequest c (m - 2) (c.nat 0x01D4) (c.nat 0x000F) s, c.pend)
        | b => (s, c.ok [tData b]) }

/-- PERIOD_COPY record (R381): COMPLETE is 0 for a period that has not closed (log 25). -/
def periodRec (k flags : Nat) (complete : Bool) (d : List Nat) : Bytes :=
  [byte k, byte (b2n complete + flags % 2 * 2 + flags / 4 % 8 * 4), 0, 0] ++ d.flatMap (beBytes 6) ++ [0, 0]

/-- The open period of a first frame. -/
def State.openPeriod (s : State) (f : Nat) : Option Period := (s.att.closing ++ s.att.cur.toList).find? (fun p => p.first == f)

/-- METER_PERIOD (R383). -/
def opMeterPeriod : OpInfo :=
  { op := 0x0502, need := .mod 1, specs := [(tFix 0x01D0 8 0 (2 ^ 64 - 1)).must, cFrame],
    rights := fun c s => circuitRights c s,
    ranges := fun c s => do
      circuitCount c
      need (!c.has 0x000E || (s.closedAt c).isSome || (s.openPeriod (c.nat 0x000E)).isSome) (eRange 0x000E),
    accept := fun c s => do
      notPaused s
      need (c.has 0x000E || !s.att.closed.isEmpty) (eStat stNotValid),
    commit := fun c s =>
      match s.closedAt c, s.openPeriod (c.nat 0x000E) with
      | some p, _ => (s, c.ok [tFrame p.first, (0x01D7, c.circuits.flatMap (fun k => periodRec k p.flags true ((p.cirs[k]?.map (·.diffs)).getD [])))])
      | none, some p =>
        let p := { p with stop := p.stop.or s.latestCopy }
        (s, c.ok [tFrame p.first, (0x01D7, c.circuits.flatMap (fun k => periodRec k p.close.flags false (p.closeCir k).diffs))])
      | none, none => (s, c.reply stParamRange 0 [tDetail 0x000E 0]) }

/-- The input codes of WAVE_INPUTS. -/
def Cmd.inputs (c : Cmd) : List Nat := c.list 0x01D5 1

/-- Distinct inputs selected by all streams after `l` is added. -/
def waveCount (m : Mirror) (l : List Nat) : Nat := (sortNat (m.wave.map (·.2) ++ l)).length

/-- The vCtl holds a DMA channel. -/
def State.holdsDma (s : State) (v : Nat) : Bool := s.qry.dma.any (fun e => e.2.holder == some v)

/-- WAVEFORM_STREAM (R384, R432). -/
def opWaveformStream : OpInfo :=
  { op := 0x1501, need := .mod 2, cost := fun _ => 2, cap := some 4, specs := [(cCode 1).must, (tLst 0x01D5 1 1 16).must],
    rights := fun c s => do
      need ((c.inputs.filter (· < 64)).all (fun k => bit (s.mask c.vctl) k)) (eStat stRightMissing)
      need (c.nat 0x000D = 0 || s.hasMod c.vctl 6) (eStat stRightMissing),
    ranges := fun c _ => match c.inputs.zipIdx.find? (fun e => e.1 > 66) with
      | some e => .error (eRange 0x01D5 e.2)
      | none => .ok (),
    accept := fun c s => do
      need (c.nat 0x000D = 0 || s.holdsDma c.vctl) (eStat stQuotaExceeded)
      need (c.nat 0x000D = 0 || waveCount s.geo.mir c.inputs ≤ 16) (eStat stQuotaExceeded),
    commit := fun c s =>
      if c.nat 0x000D = 0 then (s.mir (fun m => { m with wave := m.wave.filter (fun e => !(e.1 == c.vctl && c.inputs.contains e.2)) }), c.ok)
      else if waveCount s.geo.mir c.inputs > 16 then (s, c.reply stQuotaExceeded)
      else (s.mir (fun m => { m with wave := m.wave ++ ((sortNat c.inputs).map (fun i => (c.vctl, i))).filter (fun e => !m.wave.contains e) }), c.ok) }

/-- CORRECTION_READ (R384). -/
def opCorrectionRead : OpInfo :=
  { op := 0x1502, need := .mod 2, specs := [(cCode 0x42).must],
    rights := fun c s => need (c.nat 0x000D ≥ 64 || bit (s.mask c.vctl) (c.nat 0x000D)) (eStat stRightMissing),
    commit := fun c s => (geoRequest c 3 (c.nat 0x000D) 0 s, c.pend) }

/-- The channel that SNAPSHOT arms: channel 3, or while it is armed the highest free pool channel that no vCtl holds (R107, R385). -/
def State.snapChannel (s : State) : Option Nat :=
  (3 :: (List.range 10).map (fun k => 15 - k)).find? (fun n => !bit (s.reg (aLdsTmrCtl n)) 0 && !s.lds.pool.any (fun e => e.2 == n))

/-- SNAPSHOT (R385). -/
def opSnapshot : OpInfo :=
  { op := 0x1505, need := .owner, specs := [(tFix 0x01D6 8 0 (2 ^ 64 - 1)).must],
    accept := fun c s => do
      need (c.nat 0x01D6 ≥ (s.frm.now + 3) * 10000000) (eStat stTimePassed)
      need s.snapChannel.isSome (eStat stNoTimerChannel),
    commit := fun c s =>
      match s.snapChannel with
      | none => (s, c.reply stNoTimerChannel)
      | some n =>
        let s := (s.setReg (aLdsTmrCmp n) (c.nat 0x01D6 % 2 ^ 32)).setReg (aLdsTmrPer n) 0
        (armTimer n false 4 (s.mir (fun m => { m with snaps := m.snaps ++ [(evKey c.key, c.seq, c.cmdid, c.nat 0x01D6)] })), c.pend) }

/-- METER_READ. -/
def execMeterRead (src : Src) (tlvs : List Tlv) (s : State) : Outcome := execOp opMeterRead src tlvs s
/-- METER_PERIOD. -/
def execMeterPeriod (src : Src) (tlvs : List Tlv) (s : State) : Outcome := execOp opMeterPeriod src tlvs s
/-- WAVEFORM_STREAM. -/
def execWaveformStream (src : Src) (tlvs : List Tlv) (s : State) : Outcome := execOp opWaveformStream src tlvs s
/-- CORRECTION_READ. -/
def execCorrectionRead (src : Src) (tlvs : List Tlv) (s : State) : Outcome := execOp opCorrectionRead src tlvs s
/-- SNAPSHOT. -/
def execSnapshot (src : Src) (tlvs : List Tlv) (s : State) : Outcome := execOp opSnapshot src tlvs s

end Sys2Proof.Machine
end

