-- ==== Sys2Proof/Machine/Flint.lean ====
section
/-!
DEFINITION. Machine/Flint.lean: the generator, key slots, the blob registry, migration and the fuses (R494 to R522).
-/
namespace Sys2Proof.Machine

/-- Blobs of the module's classes: pairings, and the device and session keys of air endpoints (R505). -/
def State.modBlobs (s : State) : Nat :=
  s.strs.pairs.length + (s.air.eps.filter (fun e => !e.2.vemer)).length + (s.air.eps.filter (fun e => e.2.joined)).length

/-- Change Flint. -/
def State.fl (s : State) (f : Flint → Flint) : State := { s with flt := f s.flt }

/-- Flint runs (R522). -/
def State.flintOn (s : State) : Bool := s.pw.service && (s.flt.st == 1 || s.flt.st == 2)

/-! ### The generator (R502) -/

/-- Bytes from Flint's generator: a free value. -/
def drawBytes (n : Nat) (s : State) : Bytes × State := let (x, s) := s.fresh; (beBytes n x, s)

/-- Flint halts with a cause: nothing but METER works, and STAT1:STAT0 read 0b00 (R494 to R496, R502). -/
def flintHalt (cause : Nat) (s : State) : State :=
  let s := s.mainOff
  { s with
    flt := { s.flt with st := 3, halt := cause, rngOk := false },
    boot := { s.boot with maint := false, inService := false },
    ses := { s.ses with assoc := [], hs := [] } }

/-- FLINT_HALT: 1 root ECC, 2 boot ROM digest, 3 self-test, 4 generator at start (R522). -/
def execFlintHalt (cause : Nat) (s : State) : Outcome :=
  done s (fun s => guardS (s.pw.service && s.flt.st != 3 && 1 ≤ cause && cause ≤ 4) (flintHalt cause) s)

/-- RNG_HEALTH_FAIL (R502): before the first seeding Flint halts. -/
def execRngHealthFail (s : State) : Outcome :=
  done s (fun s => guardS (s.pw.service && s.flt.st != 3) (fun s =>
    if s.flt.st = 0 then flintHalt 4 s
    else ((s.fl (fun f => { f with rngOk := false })).setFlag aFltFlags 1).owner 0x0807 [tCode 0]) s)

/-- RNG_RESUME: 1,024 consecutive health tests pass (R502). -/
def execRngResume (s : State) : Outcome :=
  done s (fun s => guardS (s.flintOn && !s.flt.rngOk) (fun s =>
    resumeStrings ((s.fl (fun f => { f with rngOk := true, reseed := s.frm.now })).owner 0x0807 [tCode 1])) s)

/-- RNG_RESEED: at least once per 100 frames (R502). -/
def execRngReseed (s : State) : Outcome :=
  done s (fun s => guardS (s.flintOn && s.flt.rngOk) (fun s => s.fl (fun f => { f with reseed := s.frm.now })) s)

/-! ### Blobs (R504 to R507) -/

/-- Key of a slot or an entry of a vCtl. -/
def slotKey (v n : Nat) : Nat := 64 * v + n
/-- Key of a registry entry. -/
def regKey (v n : Nat) : Nat := 2 ^ 32 * v + n

/-- The KEK tag of a measurement: the first 8 bytes of SHA-384 of m_k (R504). -/
def kekTag (m : Meas) : Bytes := (beBytes 48 (Config.sha384 (beBytes 48 (Config.measure m)))).take 8

/-- Bytes 0 to 31 of a WORKING blob under a measurement (R504). -/
def blobHeader (v no : Nat) (b : Blob) (m : Meas) : Bytes :=
  beBytes 2 0x4B42 ++ [1, 4, byte b.alg, byte b.usage] ++ beBytes 2 v ++ beBytes 4 b.incarn ++ beBytes 4 no ++ kekTag m ++ beBytes 2 b.key.length
    ++ List.replicate 6 0

/-- A WORKING blob under a measurement (R504). -/
def blobBytes (v no : Nat) (b : Blob) (m : Meas) : Bytes :=
  blobHeader v no b m ++ beBytes (40 + b.key.length) (Config.kwp m v b.incarn (blobHeader v no b m ++ b.key))

/-- Bytes of a blob for a key of `n` bytes (R504). -/
def blobLen (n : Nat) : Nat := 72 + n

/-- Bytes of a workspace. -/
def State.wsBytes (s : State) (v off n : Nat) : Bytes := (List.range n).map (fun j => s.qry.mem.read (s.wsAddr v (off + j)))

/-- Write bytes to a workspace. -/
def wsPut (v off : Nat) (b : Bytes) (s : State) : State := b.zipIdx.foldl (fun s e => s.hbmWrite (s.wsAddr v (off + e.2)) e.1) s

/-- The entry unwraps under the running m_k: for a workspace location, its bytes are the blob (R507). -/
def State.unwraps (s : State) (v no : Nat) (b : Blob) : Bool :=
  b.gens.contains s.flt.mK && match b.loc with
    | none => true
    | some off => off + blobLen b.key.length ≤ s.spaceSize v 0 && s.wsBytes v off (blobLen b.key.length) == blobBytes v no b s.flt.mK

/-- Mark an entry STALE, once (R507, R521). -/
def markStale (v no : Nat) (s : State) : State :=
  match tget s.flt.reg (regKey v no) with
  | none => s
  | some b =>
    if b.stale then s
    else ((s.fl (fun f => { f with reg := tmod f.reg (regKey v no) (fun b => { b with stale := true }) })).setFlag aFltFlags 3).raise v 0x0802 [tValue (no : Nat)]

/-- Generations a new blob is wrapped under: the running one, and the target of a migration (R519). -/
def State.newGens (s : State) : List Meas := s.flt.mK :: (match s.flt.migr with | some g => [g.target] | none => [])

/-- The lowest registry number that a vCtl does not use (R506, log 30). -/
def State.freeReg (s : State) (v : Nat) : Nat :=
  ((List.range (s.flt.reg.length + 1)).find? (fun n => (tget s.flt.reg (regKey v n)).isNone)).getD 0

/-- WORKING entries of a vCtl. -/
def State.regCount (s : State) (v : Nat) : Nat := (s.flt.reg.filter (fun e => e.1 / 2 ^ 32 == v)).length

/-- KEY_SLOTS of a vCtl. -/
def State.slotQuota (s : State) (v : Nat) : Nat := ((s.vctl? v).map (·.q.keySlots)).getD 0

/-- LOADED and BAD slots of a vCtl (R508). -/
def State.slotsUsed (s : State) (v : Nat) : Nat := (s.flt.slots.filter (fun e => e.1 / 64 == v)).length

/-- The removal of a vCtl: its slots are zeroed and its entries deleted (R163, R506, R510). -/
def flintRemove (v : Nat) (s : State) : State :=
  s.fl (fun f => { f with slots := f.slots.filter (fun e => e.1 / 64 != v), reg := f.reg.filter (fun e => e.1 / 2 ^ 32 != v) })

/-! ### Slot commands (R510 to R513) -/

/-- Key bytes of an algorithm (R512). -/
def algKey (a : Nat) : Nat := if a = 1 ∨ a = 3 then 32 else 48

/-- Usage mask of an algorithm's row (R512). -/
def algUsage (a : Nat) : Nat := match a with | 1 => 3 | 2 => 12 | _ => 48

/-- An algorithm with a usage mask within its row. -/
def algOk (a usage : Nat) : Bool := 1 ≤ a && a ≤ 4 && usage &&& algUsage a == usage

/-- SLOT_NO is below the quota (R511). -/
def slotRange (c : Cmd) (s : State) : Except Err Unit := need (!c.has 0x0250 || c.nat 0x0250 < s.slotQuota c.vctl) (eRange 0x0250)

/-- The refusal of an operation whose random value cannot be had (R502, log 30). -/
def noRandom : Err := eStat stInternalError

/-- What the integrity tag of a slot covers, the slot integrity key first (R509). -/
def slotText (ik : Bytes) (v : Nat) (x : Slot) : Bytes :=
  ik ++ x.key ++ [byte x.alg, byte x.usage] ++ beBytes 2 v ++ beBytes 4 x.incarn ++ x.salt ++ beBytes 8 (Config.loadIv x.key x.salt)
    ++ beBytes 5 x.ctr ++ beBytes 4 x.regNo

/-- A slot with its tag computed. -/
def sealSlot (ik : Bytes) (v : Nat) (x : Slot) : Slot := { x with tag := slotText ik v x }

/-- The tag of a slot holds. -/
def State.tagOk (s : State) (v : Nat) (x : Slot) : Bool := x.tag == slotText s.flt.intKey v x

/-- Load a key into a slot under a fresh salt (R510, R513). -/
def loadSlot (v no regNo : Nat) (b : Blob) (s : State) : State :=
  let (salt, s) := drawBytes 12 s
  let x (f : Flint) := sealSlot f.intKey v ⟨b.key, b.alg, b.usage, b.incarn, salt, 0, regNo, [], false⟩
  s.fl (fun f => { f with slots := tset f.slots (slotKey v no) (x f) })

/-- Algorithm, usage, and imported key of KEY_GEN or KEY_IMPORT. -/
def Cmd.newKey (c : Cmd) : Bytes := ((c.tlv? 0x0252).getD ((c.tlv? 0x0253).getD []))

/-- SLOT_LOAD names a blob, an algorithm to generate, or a key to import (R511). -/
def loadForm (c : Cmd) : Except Err Unit := orMissing (c.has 0x0251 || c.has 0x0252 || c.has 0x0253) 0x0251

/-- Ranges of SLOT_LOAD (R511, R512). -/
def loadRange (c : Cmd) (s : State) : Except Err Unit := do
  slotRange c s
  let n := b2n (c.has 0x0251) + b2n (c.has 0x0252) + b2n (c.has 0x0253)
  need (n == 1) (eRange (if c.has 0x0253 then 0x0253 else 0x0252))
  let k := c.newKey
  need (c.has 0x0251 || algOk (u k 0 1) (u k 1 1)) (eRange (if c.has 0x0253 then 0x0253 else 0x0252))
  need (!c.has 0x0253 || k.length == 4 + algKey (u k 0 1)) (eRange 0x0253)
  need (c.has 0x0251 || !c.has 0x0255 ||
    (c.nat 0x0255 % 8 == 0 && c.nat 0x0255 + blobLen (algKey (u k 0 1)) ≤ s.spaceSize c.vctl 0)) (eRange 0x0255)

/-- SLOT_LOAD of a registered blob: a failure leaves the slot EMPTY (R507, R510). -/
def loadRef (c : Cmd) (s : State) : State × Reply :=
  let v := c.vctl
  let no := c.nat 0x0251
  let sk := slotKey v (c.nat 0x0250)
  match tget s.flt.reg (regKey v no) with
  | none => (s, c.err (eRange 0x0251))
  | some b =>
    if !s.flt.rngOk then (s, c.err noRandom)
    else if s.unwraps v no b then (loadSlot v (c.nat 0x0250) no b s, c.ok)
    else
      let s := s.fl (fun f => { f with slots := terase f.slots sk })
      (if b.loc.isSome && b.gens.contains s.flt.mK then markStale v no s else s, c.reply stBlobNotBound)

/-- SLOT_LOAD with generation or import: the key is registered, written to BLOB_LOC and loaded (R506, R511, R519). -/
def loadNew (c : Cmd) (s : State) : State × Reply :=
  let v := c.vctl
  let k := c.newKey
  if s.regCount v ≥ 16 * s.slotQuota v then (s, c.reply stQuotaExceeded)
  else if !s.flt.rngOk then (s, c.err noRandom)
  else
    let (key, s) := if c.has 0x0252 then drawBytes (algKey (u k 0 1)) s else (k.drop 4, s)
    let no := s.freeReg v
    let b : Blob := ⟨key, u k 0 1, u k 1 1, tgetD s.ten.incarn v 0, c.nat? 0x0255, false, s.newGens⟩
    let s := s.fl (fun f => { f with reg := tset f.reg (regKey v no) b })
    let s := match b.loc with | some off => wsPut v off (blobBytes v no b s.flt.mK) s | none => s
    (loadSlot v (c.nat 0x0250) no b s, c.ok [(0x0251, beBytes 4 no), (0x0258, blobHeader v no b s.flt.mK)])

/-- SLOT_LOAD. -/
def opSlotLoad : OpInfo :=
  { op := 0x1802, need := .any, cost := fun _ => 2,
    specs := [(tFix 0x0250 1 0 255).must, tFix 0x0251 4 0 (2 ^ 32 - 1), tByt 0x0252 2 2, tByt 0x0253 4 52, tFix 0x0255 4 0 (2 ^ 32 - 1)],
    form := loadForm, ranges := loadRange,
    commit := fun c s => match loadRange c s with
      | .error e => (s, c.err e)
      | .ok _ => if c.has 0x0251 then loadRef c s else loadNew c s }

/-- SLOT_UNLOAD: it unloads before it deletes (R506, R510, R511). -/
def opSlotUnload : OpInfo :=
  { op := 0x1803, need := .any, specs := [tFix 0x0250 1 0 255, tFix 0x0251 4 0 (2 ^ 32 - 1)],
    form := fun c => orMissing (c.has 0x0250 || c.has 0x0251) 0x0250, ranges := slotRange,
    commit := fun c s =>
      let v := c.vctl
      let k := regKey v (c.nat 0x0251)
      if c.has 0x0251 && (tget s.flt.reg k).isNone then (s, c.err (eRange 0x0251))
      else
        let s := if c.has 0x0250 then s.fl (fun f => { f with slots := terase f.slots (slotKey v (c.nat 0x0250)) }) else s
        (if c.has 0x0251 then s.fl (fun f => { f with reg := terase f.reg k }) else s, c.ok) }

/-- A slot becomes BAD (R509, R510, R521). -/
def slotBad (v n : Nat) (s : State) : State :=
  ((s.fl (fun f => { f with slots := tmod f.slots (slotKey v n) (fun x => { x with bad := true }) })).setFlag aFltFlags 0).raise v 0x0801 [tCode n]

/-- The nonce of an encryption: load IV and counter (R513). -/
def slotNonce (x : Slot) : Bytes := beBytes 8 (Config.loadIv x.key x.salt) ++ beBytes 4 x.ctr

/-- The operations of R512 on a loaded slot whose tag holds; the data of the verification is the MAC and then the message (log 30). -/
def slotRun (c : Cmd) (v n : Nat) (x : Slot) (s : State) : State × Reply :=
  let d := (c.tlv? 0x0009).getD []
  let aad := (c.tlv? 0x0256).getD []
  let half := if x.alg = 3 then 32 else 48
  match c.nat 0x0254 with
  | 0 =>
    if x.ctr ≥ 2 ^ 32 then (s, c.reply stCounterExhausted)
    else if d.length > 1112 then (s, c.err (eRange 0x0009))
    else (s.fl (fun f => { f with slots := tmod f.slots (slotKey v n) (fun x => sealSlot f.intKey v { x with ctr := x.ctr + 1 }) }),
      c.ok [tData (x.salt ++ slotNonce x ++ beBytes (d.length + 16) (Config.gcmSeal x.key x.salt (slotNonce x) aad d))])
  | 1 =>
    if d.length < 40 then (s, c.err (eRange 0x0009))
    else match Config.gcmOpen x.key (d.take 12) ((d.drop 12).take 12) aad (d.drop 24) with
      | some p => (s, c.ok [tData (beBytes (d.length - 40) p)])
      | none => (s, c.err (eRange 0x0009))
  | 2 => (s, c.ok [tData (beBytes 48 (Config.hmac384 x.key d))])
  | 3 =>
    if d.length < 48 then (s, c.err (eRange 0x0009))
    else (s, c.ok [tCode (if beBytes 48 (Config.hmac384 x.key (d.drop 48)) = d.take 48 then 0 else 1)])
  | 4 =>
    if d.length ≠ half then (s, c.err (eRange 0x0009))
    else (s, c.ok [tData (beBytes half (Config.ecdsaSign x.alg x.key d).1 ++ beBytes half (Config.ecdsaSign x.alg x.key d).2)])
  | _ => (s, c.ok [tData (4 :: beBytes half (Config.ecdsaPub x.alg x.key).1 ++ beBytes half (Config.ecdsaPub x.alg x.key).2)])

/-- SLOT_USE at commit, by the table of R510. -/
def slotUse (c : Cmd) (s : State) : State × Reply :=
  let v := c.vctl
  let n := c.nat 0x0250
  match tget s.flt.slots (slotKey v n) with
  | none => (s, c.err (eRange 0x0250))
  | some x =>
    if x.bad then (s, c.reply stKeySlotBad)
    else if !s.tagOk v x then (slotBad v n s, c.reply stKeySlotBad)
    else if !bit x.usage (c.nat 0x0254) then (s, c.err (eRange 0x0254))
    else slotRun c v n x s

/-- SLOT_USE. -/
def opSlotUse : OpInfo :=
  { op := 0x1804, need := .any, specs := [(tFix 0x0250 1 0 255).must, (tFix 0x0254 1 0 5).must, cData 1160, tByt 0x0256 0 256],
    form := fun c => orMissing (c.nat 0x0254 == 5 || c.has 0x0009) 0x0009, ranges := slotRange,
    commit := fun c s => match slotRange c s with
      | .error e => (s, c.err e)
      | .ok _ => slotUse c s }

/-- SLOT_INTEGRITY_CHECK of slot `n` of a vCtl; `ok`: what Flint RAM holds is what was written there (R509). -/
def execSlotIntegrityCheck (v n : Nat) (ok : Bool) (s : State) : Outcome :=
  done s (fun s => match tget s.flt.slots (slotKey v n) with
    | some x => guardS (s.flintOn && n < 64 && !x.bad && !(ok && s.tagOk v x)) (slotBad v n) s
    | none => s)

/-- KEY_SESSION (R514): the reply goes out under the current key, and KeyUpdate follows it. -/
def opKeySession : OpInfo :=
  { op := 0x0801, need := .any, svc := .any,
    commit := fun c s => (s.modAssoc c.key (fun a => { a with kuDue := true }), c.ok) }

/-! ### Migration (R518, R519) -/

/-- Steps 1 and 2 of a migration to the m_k of a staged set. -/
def startMigration (target : Meas) (s : State) : State :=
  (s.fl (fun f => { f with st := 2, migr := some ⟨target, false⟩, migrDone := 0 })).owner 0x0803 [tCode 0, tCount 0]

/-- Step 3 on one entry: it gets a new generation unless its workspace copy fails to unwrap. -/
def rewrapOne (target : Meas) (acc : State × Nat) (k : Nat) : State × Nat :=
  let (s, n) := acc
  match tget s.flt.reg k with
  | none => (s, n)
  | some b =>
    let v := k / 2 ^ 32
    let no := k % 2 ^ 32
    if s.unwraps v no b then
      (s.fl (fun f => { f with reg := tmod f.reg k (fun b => { b with gens := if b.gens.contains target then b.gens else b.gens ++ [target] }) }), n + 1)
    else (if b.loc.isSome && b.gens.contains s.flt.mK then markStale v no s else s, n)

/-- KEY_MIGRATION_COMPLETE: step 3 has re-wrapped the registry, and step 4 reports the set ready (R518). -/
def completeMigration (s : State) : State :=
  match s.flt.migr with
  | some g =>
    if g.done then s
    else
      let (s, n) := (s.flt.reg.map (·.1)).foldl (rewrapOne g.target) (s, 0)
      let n := n + s.modBlobs
      (s.fl (fun f => { f with
        migr := some { g with done := true }, migrDone := n, modGens := if f.modGens.contains g.target then f.modGens else f.modGens ++ [g.target] })).owner 0x0803
        [tCode 1, tCount n]
  | none => s

/-- KEY_MIGRATION_COMPLETE. -/
def execKeyMigrationComplete (s : State) : Outcome := done s (fun s => guardS s.flintOn completeMigration s)

/-- Keep one generation of every blob and erase the other (R518 step 6, R519). -/
def keepGen (m : Meas) (s : State) : State :=
  s.fl (fun f => { f with reg := tmap f.reg (fun _ b => { b with gens := b.gens.filter (· == m) }), modGens := f.modGens.filter (· == m) })

/-- An update that is abandoned or reverted before step 6: the new generation goes (R519). -/
def abandonMigration (s : State) : State :=
  match s.flt.migr with
  | none => s
  | some _ =>
    let n := s.flt.migrDone
    let s := keepGen s.flt.mK (s.fl (fun f => { f with migr := none, st := 1 }))
    (s.setFlag aFltFlags 4).owner 0x0803 [tCode 2, tCount n]

/-- Step 5: from the handover beat Flint unwraps under the new m_k only; the registered workspace copies hold the new generation (log 30). -/
def handoverKeys (s : State) : State :=
  match s.flt.migr with
  | none => s
  | some g =>
    let s := s.fl (fun f => { f with mK := g.target })
    s.flt.reg.foldl (fun s e => match e.2.loc with
      | some off => if !e.2.stale && e.2.gens.contains g.target then wsPut (e.1 / 2 ^ 32) off (blobBytes (e.1 / 2 ^ 32) (e.1 % 2 ^ 32) e.2 g.target) s else s
      | none => s) s

/-- Step 6: the new image has completed its first frame in service. -/
def finishMigration (s : State) : State :=
  match s.flt.migr with
  | none => s
  | some _ => keepGen s.flt.mK (s.fl (fun f => { f with migr := none, st := 1 }))

/-! ### Fuses (R516, R517) -/

/-- Value of a fuse bank. -/
def State.fuse (s : State) (bank : Nat) : Nat := tgetD s.flt.fuses bank 0

/-- Image class of a bank. -/
def bankClass (bank : Nat) : Nat := if bank = 2 then 3 else bank

/-- The security version that the main manifest assigns to a Geode firmware (R517, R529). -/
def State.geoSvn (s : State) (fw : Nat) : Option Nat := (s.mainManifest.find? (fun e => e.kind == 3 && e.lo ≤ fw && fw ≤ e.hi)).map (·.extra)

/-- The value to which a bank is due to advance (R517). -/
def State.fuseTarget (s : State) (bank : Nat) : Option Nat :=
  if bank ≤ 2 then match tget s.boot.run (bankClass bank), tget s.flt.runs bank with
    | some i, some f => if i.svn > s.fuse bank && (i.advanceNow || f + 8640000 ≤ s.frm.now) then some i.svn else none
    | _, _ => none
  else match s.flt.geoFw with
    | some (fw, f) => match s.geoSvn fw with
      | some v => if v > s.fuse 3 && f + 8640000 ≤ s.frm.now then some (min v 64) else none
      | none => none
    | none => none

/-- FUSE_ADVANCE of a bank; `bad`: the fuses that fail to program, which are skipped (R516, R517, R521). -/
def execFuseAdvance (bank : Nat) (bad : List Nat) (s : State) : Outcome :=
  done s (fun s => match (if s.flintOn && bank ≤ 3 then s.fuseTarget bank else none) with
    | none => s
    | some t =>
      let ix := (List.range t).filter (fun i => s.fuse bank ≤ i)
      let s := ix.foldl (fun s i => if bad.contains i then (s.setFlag aFltFlags 2).owner 0x0805 [tCode bank, tCode i] else s) s
      (s.fl (fun f => { f with fuses := tset f.fuses bank t })).owner 0x0804 [tCode bank, tCode t])

/-- GEODE_FW_CHECK: GEO_FW has changed; firmware below bank 3, or not listed, is reported once (R517, R521). -/
def geodeFwCheck (s : State) : State :=
  match s.geo.mir.pkt with
  | none => s
  | some p =>
    if s.flt.geoFw.any (fun e => e.1 == p.fw) then s
    else
      let s := s.fl (fun f => { f with geoFw := some (p.fw, s.frm.now) })
      let tell (code : Nat) : State := [0, 1].foldl (fun s v => s.raise v 0x0806 [tValue (p.fw : Nat), tCode code]) s
      match s.geoSvn p.fw with
      | none => tell 1
      | some v => if v < s.fuse 3 then tell 0 else s

/-- GEODE_FW_CHECK. -/
def execGeodeFwCheck (s : State) : Outcome := done s (fun s => guardS s.flintOn geodeFwCheck s)

/-- KEY_SESSION. -/
def execKeySession (src : Src) (tlvs : List Tlv) (s : State) : Outcome := execOp opKeySession src tlvs s
/-- SLOT_LOAD. -/
def execSlotLoad (src : Src) (tlvs : List Tlv) (s : State) : Outcome := execOp opSlotLoad src tlvs s
/-- SLOT_UNLOAD. -/
def execSlotUnload (src : Src) (tlvs : List Tlv) (s : State) : Outcome := execOp opSlotUnload src tlvs s
/-- SLOT_USE. -/
def execSlotUse (src : Src) (tlvs : List Tlv) (s : State) : Outcome := execOp opSlotUse src tlvs s

end Sys2Proof.Machine
end

