-- ==== Sys2Proof/Machine/Spine.lean ====
section
/-!
DEFINITION. Machine/Spine.lean: spine links, positions, the relay and sweeps (R475 to R493).
-/
namespace Sys2Proof.Machine

/-! ### Links (R476 to R478) -/

/-- The spine runs: the main domain is on. -/
def State.spOn (s : State) : Bool := s.pw.main

/-! The bodies of messages (R476, R478, R480, R486, R488) and of the link setup; layouts that the spec does not give are DESIGN CHOICE (log 87). -/

/-- LINK_NOTICE: the address it names, the east port, the west port. -/
def noticeBody (addr : Nat) (east west : Bool) : Bytes := beBytes 2 addr ++ [byte (b2n east), byte (b2n west)]

/-- ENUMERATE: ring, position of the sender, census number, EUI-64 of the master. -/
def tokenBody (t : EnumTok) : Bytes := [byte t.ring, byte t.pos] ++ beBytes 2 t.number ++ beBytes 8 t.master

/-- RING_TABLE: result, N, 2 reserved bytes, then EUI-64 and management address of each position. -/
def tableBody (result : Nat) (mods : List (Nat × Nat)) : Bytes :=
  [byte result, byte mods.length, 0, 0] ++ mods.flatMap (fun m => beBytes 8 m.1 ++ beBytes 16 m.2)

/-- SWEEP_ORDER: sweep identifier and T. -/
def orderBody (id t : Nat) : Bytes := beBytes 4 id ++ beBytes 8 t

/-- ORDER_REPLY: sweep identifier and code. -/
def orderReplyBody (id code : Nat) : Bytes := beBytes 4 id ++ [byte code]

/-- COLLECT: sweep identifier and the 64-bit map, position 0 in bit 0. -/
def collectBody (id : Nat) (map : List Nat) : Bytes := beBytes 4 id ++ beBytes 8 ((map.filter (· < 64)).foldl (fun v p => setBit v p) 0)

/-- SWEEP_RECORD: sweep identifier, position, 3 reserved bytes, the record or nothing. -/
def recordBody (id pos : Nat) (rec_ : Bytes) : Bytes := beBytes 4 id ++ [byte pos, 0, 0, 0] ++ rec_

/-- What the module says of itself in LINK_INIT and LINK_RESP: ephemeral key, nonce, OWNER_TAG with zeros for none, certificate chain. -/
def State.linkSelf (s : State) (own : Nat × Bytes) : Bytes :=
  p256Bytes (Config.p256Pub own.1) ++ own.2 ++ s.spn.tag.getD (beBytes 48 0) ++ deviceChain s.flt.mA

/-- The module's signature over both keys, both nonces and its EUI-64, the initiator's first. -/
def linkSign (keys nonces : Bytes) : Bytes :=
  let x := Config.deviceSign (beBytes 48 (Config.sha384 (keys ++ nonces ++ beBytes 8 Config.moduleEui)))
  beBytes 48 x.1 ++ beBytes 48 x.2

/-- The link key: HKDF-SHA-384 over the ECDH secret and both nonces, the initiator's first. -/
def linkKey (own : Nat) (peer nonces : Bytes) : Bytes := beBytes 32 (Config.hkdf (beBytes 32 (Config.ecdh own peer)) nonces [])

/-- LINK_NOTICE out of every port that is up: own address and the state of both ports (R478). -/
def linkNotice (s : State) : State :=
  spAll 0x05 [b2n s.spn.east.up, b2n s.spn.west.up] (noticeBody s.spineAddr s.spn.east.up s.spn.west.up) s

/-- A running ring census ends as ABORTED at a link change (R204, R206, R479). -/
def abortRing (s : State) : State :=
  match s.spn.run with
  | none => s
  | some _ => (s.sp (fun x => { x with run := none })).owner 0x0B02 [tCode 6, tCount s.spn.census, tBitmap (bitmapBytes 8 [])]

/-- A port goes up or down: SPINE_LINK, LINK_LOST_SEEN, LINK_NOTICE (R478, R492, R493). -/
def setSpUp (east up : Bool) (s : State) : State :=
  if (s.spPort east).up = up then s
  else
    let s := s.modSp east (fun p => { p with up := up })
    let s := s.owner 0x0B01 [tPort (spCode east), tCode (b2n up)]
    let s := if up then s else s.setFlag aSpnStat 0
    linkNotice (abortRing s)

/-- An ephemeral key and a nonce of Flint's generator. -/
def drawLink (s : State) : (Nat × Bytes) × State :=
  let (nonce, s) := drawBytes 12 s
  let (eph, s) := s.fresh
  ((eph, nonce), s)

/-- Send LINK_INIT (R476). -/
def sendLinkInit (east : Bool) (s : State) : State :=
  if !s.flt.rngOk then s
  else
    let (own, s) := drawLink s
    (s.modSp east (fun p => { p with init := s.frm.now, waiting := true, eph := some own })).send .spine (spCode east) [0x01, 0, 0, s.spineAddr, 0, 0, 0]
      (spClear east 0x01 s.spineAddr (s.linkSelf own))

/-- SPINE_PORT_LINK (R478): the PCS gains or loses lock, or a HELLO arrives. -/
def execSpinePortLink (east : Bool) (ev : LinkEv) (s : State) : Outcome :=
  done s (fun s => guardS s.spOn (fun s => match ev with
    | .lock => if (s.spPort east).lock || s.thm.idled.contains (spCode east) then s else sendLinkInit east (s.modSp east (fun _ => { lock := true }))
    | .lost => setSpUp east false (s.modSp east (fun p =>
        { p with lock := false, assoc := none, old := none, waiting := false, eph := none, offer := none, hello := none }))
    | .hello h =>
      let (s, ok) := spAccept east h s
      if ok then setSpUp east true (s.modSp east (fun p => { p with hello := some s.frm.now })) else s) s)

/-- HELLO_TIMEOUT (R478): no HELLO within the last 3 frames. -/
def execHelloTimeout (east : Bool) (s : State) : Outcome :=
  done s (fun s => guardS ((s.spPort east).up && !(s.spPort east).hello.any (fun f => s.frm.now ≤ f + 3)) (setSpUp east false) s)

/-- HELLO_SEND (R477): at beat 20, once in a frame, out of each port whose association is open. -/
def execHelloSend (s : State) : Outcome :=
  done s (fun s => guardS (s.spOn && s.frm.beat == 20 && s.spn.helloAt != some s.frm.now) (fun s =>
    spTx false 0x04 0 0 s.spineAddr false [] [] (spTx true 0x04 0 0 s.spineAddr false [] []
      (s.sp (fun x => { x with helloAt := some s.frm.now })))) s)

/-- The peer is accepted: its chain verifies and its OWNER_TAG is our own (R476). -/
def State.peerOk (s : State) (chain : Bool) (tag : Option Bytes) : Bool := chain && tag == s.spn.tag

/-- The peer is refused: SPINE_LINK code 2, and the port carries nothing but LINK_INIT (R476). -/
def refusePeer (east : Bool) (s : State) : State :=
  let s := setSpUp east false (s.modSp east (fun p => 
    { p with assoc := none, old := none, waiting := false, eph := none, offer := none, hello := none, refused := true, init := s.frm.now }))
  (s.setFlag aSpnStat 1).owner 0x0B01 [tPort (spCode east), tCode 2]

/-- An association opens; the one before is accepted for 8 more frames (R212). -/
def openLink (east : Bool) (laid : Nat) (key : Bytes) (s : State) : State :=
  s.modSp east (fun p => { p with
    assoc := some { laid := laid, key := key }, old := p.assoc.map (fun a => (a, s.frm.now + 8)), waiting := false, eph := none, offer := none,
    refused := false })

/-- LINK_INIT is answered with LINK_RESP under the next LAID. -/
def answerInit (east : Bool) (p : LinkPeer) (s : State) : State :=
  let (own, s) := drawLink s
  let laid := s.spn.laid % (2 ^ 32 - 1) + 1
  let keys := p.key ++ p256Bytes (Config.p256Pub own.1)
  let s := (s.sp (fun x => { x with laid := laid })).modSp east (fun q =>
    { q with refused := false, waiting := false, eph := none, offer := some (laid, linkKey own.1 p.key (p.nonce ++ own.2)) })
  s.send .spine (spCode east) [0x02, 0, 0, s.spineAddr, 0, 0, 0]
    (spClear east 0x02 s.spineAddr (beBytes 4 laid ++ s.linkSelf own ++ linkSign keys (p.nonce ++ own.2)))

/-- LINK_RESP opens the association, and LINK_CONFIRM is its first message. -/
def answerResp (east : Bool) (p : LinkPeer) (laid : Nat) (own : Nat × Bytes) (s : State) : State :=
  let keys := p256Bytes (Config.p256Pub own.1) ++ p.key
  spTx east 0x03 0 0 s.spineAddr false [] (linkSign keys (own.2 ++ p.nonce)) (openLink east laid (linkKey own.1 p.key (own.2 ++ p.nonce)) s)

/-- SPINE_LINK_SETUP (R476). Where both ends have sent LINK_INIT, the one of the end whose east port the link is stands (DESIGN CHOICE, log 87). -/
def execSpineLinkSetup (east : Bool) (m : LinkMsg) (s : State) : Outcome :=
  done s (fun s => guardS (s.spOn && (s.spPort east).lock && s.flintOn) (fun s => match m with
    | .init p =>
      if !s.peerOk p.chain p.tag then refusePeer east s
      else if !s.flt.rngOk || (east && (s.spPort east).waiting) then s
      else answerInit east p s
    | .resp p laid => match (s.spPort east).eph with
      | none => s
      | some own => if !s.peerOk p.chain p.tag then refusePeer east s else answerResp east p laid own s
    | .confirm ok laid => match (s.spPort east).offer with
      | some (l, k) => if ok && l = laid then openLink east l k s else s.count aSpnDrop 0 16
      | none => s.count aSpnDrop 0 16) s)

/-- SPINE_LINK_INIT_RETRY (R476): every 100 frames while the peer is refused or does not answer. -/
def execSpineLinkInitRetry (east : Bool) (s : State) : Outcome :=
  done s (fun s => guardS (s.spOn && (s.spPort east).lock && (s.spPort east).assoc.isNone && (s.spPort east).init + 100 ≤ s.frm.now) (sendLinkInit east) s)

/-- SPINE_LINK_REKEY (R212, R476): the old keys go after 8 frames; a counter at 2^64 - 1 closes the association, one at 2^62 renews it. -/
def execSpineLinkRekey (east : Bool) (s : State) : Outcome :=
  done s (fun s =>
    let p := s.spPort east
    if p.old.any (fun o => o.2 ≤ s.frm.now) then s.modSp east (fun p => { p with old := none })
    else match p.assoc with
      | none => s
      | some a =>
        if a.tx ≥ 2 ^ 64 - 1 || a.high ≥ 2 ^ 64 - 1 then
          sendLinkInit east (setSpUp east false (s.modSp east (fun p => { p with assoc := none, old := none, hello := none })))
        else if (a.tx ≥ 2 ^ 62 || a.high ≥ 2 ^ 62) && (!p.waiting || p.init + 100 ≤ s.frm.now) then sendLinkInit east s
        else s)

/-- SPINE_FRAME_DISCARDED (R475, R477). -/
def execSpineFrameDiscarded (why : SpDrop) (s : State) : Outcome :=
  done s (fun s => guardS s.spOn (fun s => match why with
    | .ttl => s.count aSpnDrop 16 8
    | .other => spOther s
    | .reserved => spOther s) s)

/-! ### The ring census (R479, R480) -/

/-- Positions a census found, 1 to 63: the east pass by hop, the west pass back from the end of the record, or of the chain where there is no record
(R203, R479). -/
def ringFound (n : Option Nat) (a b : List (Nat × Nat)) (closed : Bool) : Tbl (Nat × Nat) :=
  let low : Tbl (Nat × Nat) := (a.take 63).zipIdx.map (fun e => (e.2 + 1, e.1))
  let top := n.getD (a.length + b.length)
  if closed then low
  else b.zipIdx.foldl (fun t e => if e.2 < top && top - e.2 ≤ 63 then tset t (top - e.2) e.1 else t) low

/-- Result of a ring census by the first row of R204 that matches, OVER apart; a module with no port up is alone. -/
def ringResult (record : Option (List Nat)) (a b : List (Nat × Nat)) (closed alone : Bool) : Nat :=
  let found := ringFound (record.map (·.length)) a b closed
  match record with
  | none => 0
  | some r =>
    let n := r.length
    let wrong := (found.filter (fun e => match r[e.1 - 1]? with | some x => x != e.2.1 | none => false)).length
    let agree := a.map (·.1) == (b.map (·.1)).reverse
    let count := if closed then a.length == n && agree else a.length + b.length == n
    if wrong = 0 && count && (closed || alone) then 0
    else if !closed && count && wrong = 0 then 1
    else if wrong = 0 && found.all (fun e => e.1 ≤ n) && found.length < n then 3
    else if count && 1 ≤ wrong && wrong ≤ 4 then 4
    else 5

/-- The record after a census: made, kept, or with the replaced modules (AUTO_REPLACE is 1, R479). -/
def ringRecord (record : Option (List Nat)) (res : Nat) (found : Tbl (Nat × Nat)) : List Nat :=
  match record with
  | none => found.map (fun e => e.2.1)
  | some r => if res = 4 then r.zipIdx.map (fun e => ((tget found (e.2 + 1)).map (·.1)).getD e.1) else r

/-- Own management address (R427). -/
def State.ownMgmt (s : State) : Nat := (s.qry.mgmtAddr.map (·.1)).getD 0

/-- Management address of a module: as reached now, else as the table before held it. -/
def State.mgmtOf (s : State) (reached : List (Nat × Nat)) (eui : Nat) : Nat :=
  match reached.find? (fun m => m.1 == eui) with
  | some m => m.2
  | none => match (s.spn.table.map (·.mods)).getD [] |>.find? (fun m => m.1 == eui) with
    | some m => m.2
    | none => 0

/-- Take a RING_TABLE into use (R480). -/
def keepTable (t : RingTab) (s : State) : State := s.sp (fun x => { x with table := some t })

/-- The census ends: record, RING_RESULT, RING_TABLE (R204, R479, R480). -/
def ringEnd (a b : List (Nat × Nat)) (closed : Bool) (s : State) : State :=
  let rec_ := s.spn.record
  let found := ringFound (rec_.map (·.length)) a b closed
  let tooMany := a.length > 63 || b.length > 63 || (!closed && a.length + b.length > 63)
  let res := ringResult rec_ a b closed (!s.spn.east.up && !s.spn.west.up)
  let r := ringRecord rec_ res found
  let mods := (Config.moduleEui, s.ownMgmt) :: r.map (fun e => (e, s.mgmtOf (a ++ b) e))
  let code := if tooMany then 7 else res
  let s := s.sp (fun x => { x with run := none, record := some r, changed := if res = 5 then some (found.map (fun e => e.2.1)) else none })
  let s := if tooMany then s.setFlag aSpnStat 3 else s
  let s := s.owner 0x0B02 [tCode code, tCount s.spn.census, tBitmap (bitmapBytes 8 (0 :: found.map (·.1)))]
  let s := keepTable ⟨code, mods⟩ s
  spAll 0x11 (code :: mods.length :: mods.flatMap (fun m => [m.1, m.2])) (tableBody code mods) s

/-- The token leaves the master on a pass (R201, R480). -/
def sendToken (east : Bool) (s : State) : State :=
  spOut east 0x10 63 0 s.spineAddr false [s.spn.ring.getD 0, Config.moduleEui, s.spn.census, 0]
    (tokenBody ⟨s.spn.ring.getD 0, Config.moduleEui, s.spn.census, 0⟩) s

/-- A pass ends; the west pass follows the east one, and a pass from a port that is down reaches nothing (R203, R479). -/
def ringPassEnd (reach : List (Nat × Nat)) (closed : Bool) (s : State) : State :=
  match s.spn.run with
  | none => s
  | some c =>
    if c.west then ringEnd c.east reach c.closed s
    else if s.spn.west.up then
      sendToken false (s.sp (fun x => { x with run := some { c with west := true, since := s.frm.now, east := reach, closed := closed } }))
    else ringEnd reach [] closed s

/-- Start a census at the ring master; a running one absorbs the trigger (R200, R479). -/
def startRing (s : State) : State :=
  if !s.spn.master || s.spn.ring.isNone || s.spn.run.isSome || !s.boot.inService then s
  else
    let s := s.sp (fun x => { x with
      census := (x.census + 1) % 65536, last := some s.frm.now, run := some ⟨false, s.frm.now, [], false⟩ })
    if s.spn.east.up then sendToken true s else ringPassEnd [] false s

/-- RING_CENSUS_START (R479): every 6,000 frames. -/
def execRingCensusStart (s : State) : Outcome :=
  done s (fun s => guardS (s.spOn && !s.spn.last.any (fun f => s.frm.now < f + 6000)) startRing s)

/-- RING_CENSUS_TIMEOUT (R201, R479): one frame without progress ends the pass as at a last module; `reach` is what it reached. -/
def execRingCensusTimeout (reach : List (Nat × Nat)) (s : State) : Outcome :=
  done s (fun s => match s.spn.run with
    | some c => guardS (c.since < s.frm.now) (ringPassEnd reach false) s
    | none => s)

/-- SPINE_MASTER_CONFLICT (R480). -/
def masterConflict (eui : Nat) (s : State) : State := (s.setFlag aSpnStat 2).owner 0x0B03 [tValue eui]

/-- A token at a module that is not the ring master: the token of a lower EUI-64 prevails within 100 frames; a token from the west gives a position
one higher, at most 63 (R31, R480). -/
def takeToken (east : Bool) (t : EnumTok) (s : State) : State :=
  let pos := if east then (s.spn.token.map (·.2.2)).getD 0 else t.pos + 1
  match s.spn.token with
  | some (m, f, p) =>
    if m ≠ t.master && s.frm.now < f + 100 then
      masterConflict t.master (if t.master < m then s.sp (fun x => { x with token := some (t.master, s.frm.now, pos) }) else s)
    else s.sp (fun x => { x with token := some (t.master, s.frm.now, if east && m = t.master then p else pos) })
  | none => s.sp (fun x => { x with token := some (t.master, s.frm.now, pos) })

/-- SPINE_ENUMERATE (R31, R201, R480): `reach` is, at the master, what the pass that comes back has reached. -/
def spineEnumerate (east : Bool) (t : EnumTok) (h : SpHdr) (reach : List (Nat × Nat)) (s : State) : State :=
  let fwd (p : Nat) (s : State) : State := spOnward east h 0x10 [t.ring, t.master, t.number, p] (tokenBody { t with pos := p }) s
  if s.spn.ring ≠ some t.ring then fwd t.pos s
  else if s.spn.master then
    if t.master ≠ Config.moduleEui then masterConflict t.master s
    else match s.spn.run with
      | some c => if t.number = s.spn.census && c.west = east then ringPassEnd reach true s else s
      | none => s
  else if t.pos ≥ 63 then s
  else fwd (t.pos + 1) (takeToken east t s)

/-- SPINE_ENUMERATE. -/
def execSpineEnumerate (east : Bool) (h : SpHdr) (t : EnumTok) (reach : List (Nat × Nat)) (s : State) : Outcome :=
  done s (fun s => guardS s.spOn (fun s =>
    let (s, ok) := spAccept east h s
    if ok then spineEnumerate east t h reach s else s) s)

/-- RING_TABLE (R480): kept when it is of the own ring and of the master whose token counts; forwarded to ALL. -/
def execRingTable (east : Bool) (h : SpHdr) (result : Nat) (mods : List (Nat × Nat)) (s : State) : Outcome :=
  done s (fun s => guardS s.spOn (fun s =>
    let (s, ok) := spAccept east h s
    if !ok then s
    else
      let mine := s.spn.ring == some (h.src / 64) && !s.spn.master
        && (match s.spn.token, mods.head? with | some t, some m => t.1 == m.1 | _, _ => true)
      let s := spForwardAll east h 0x11 (result :: mods.length :: mods.flatMap (fun m => [m.1, m.2])) (tableBody result mods) s
      if mine then keepTable ⟨result, mods⟩ (s.sp (fun x => { x with record := some ((mods.drop 1).map (·.1)) })) else s) s)

/-- LINK_NOTICE (R478, R479, R481): the sender's ports are noted, a change aborts the master's running census, and a port that comes up starts one. -/
def execLinkNotice (east : Bool) (h : SpHdr) (eastUp westUp : Bool) (s : State) : Outcome :=
  done s (fun s => guardS s.spOn (fun s =>
    let (s, ok) := spAccept east h s
    if !ok then s
    else
      let s := spForwardAll east h 0x05 [b2n eastUp, b2n westUp] (noticeBody h.src eastUp westUp) s
      if s.spn.ring ≠ some (h.src / 64) then s
      else
        let old := tgetD s.spn.notices (h.src % 64) (true, true)
        let s := s.sp (fun x => { x with notices := tset x.notices (h.src % 64) (eastUp, westUp) })
        let s := if old = (eastUp, westUp) then s else abortRing s
        if (eastUp && !old.1) || (westUp && !old.2) then startRing s else s) s)

/-! ### The relay (R482, R483) -/

/-- Position of a management address in the RING_TABLE (R480). -/
def State.posOfAddr (s : State) (a : Nat) : Option Nat := (s.spn.table.map (·.mods)).bind (fun l => l.findIdx? (fun m => m.2 == a && a != 0))

/-- A received packet is relayed to the module it is for, or passes (R482). -/
def relayEntry (port dst udp dscp : Nat) (mgmt : Bool) (packet : Bytes) (s : State) : State :=
  match s.posOfAddr dst with
  | none => s
  | some q =>
    if udp ≠ 49400 || s.spinePos = some q || s.spinePos.isNone || !(mgmt || port = 0xFFFF) then s
    else spTo (s.spn.ring.getD 0 * 64 + q) 0x20 63 s.spineAddr (dscp = 46) [] packet (s.sp (fun x => { x with relayed := tset x.relayed q port }))

/-- A RELAY message for this module: it takes the packet as arriving on the spine path, or sends a returning one out of its port (R482). -/
def relayHere (h : SpHdr) (back : Bool) (key : Option AssocKey) (packet : Bytes) (s : State) : State :=
  if back then match tget s.spn.relayed (h.src % 64) with
    | some port => s.send .ipTx port [] packet
    | none => spOther s
  else match key with
    | some k => if actsFor k = 0 then s.sp (fun x => { x with entry := tset x.entry (evKey k) h.src }) else s
    | none => s

/-- RELAY. -/
def execRelay (i : RelayIn) (s : State) : Outcome :=
  done s (fun s => if i = .fragment then guardS s.pw.service dropFragment s else guardS s.spOn (fun s => match i with
    | .fragment => s
    | .entry port dst udp dscp mgmt packet => relayEntry port dst udp dscp mgmt packet s
    | .msg east h back key packet =>
      let (s, ok) := spAccept east h s
      if !ok then s else if s.spMine h then relayHere h back key packet s else spForward h 0x20 [] packet s) s)

/-! ### Sweeps (R485 to R490) -/

/-- Change the open sweep. -/
def State.modSweep (s : State) (f : Sweep → Sweep) : State := s.sp (fun x => { x with sweep := x.sweep.map f })

/-- Change a kept result. -/
def State.modRes (s : State) (id : Nat) (f : SweepRes → SweepRes) : State :=
  s.sp (fun x => { x with results := x.results.map (fun r => if r.id = id then f r else r) })

/-- The time 10 frames after T has been reached (R486 to R488). -/
def State.sweepDue (s : State) (t : Nat) : Bool := t + 100000000 ≤ s.frm.now * 10000000

/-- Arm channel 4 at T (R107, R485). -/
def armSweep (t : Nat) (s : State) : State := armTimer 4 false 5 ((s.setReg (aLdsTmrCmp 4) (t % 2 ^ 32)).setReg (aLdsTmrPer 4) 0)

/-- Kept sweeps of the origin, dropping those of more than 24 h after T (R489). -/
def State.kept (s : State) : List SweepRes := s.spn.results.filter (fun r => s.within24 r.t)

/-- A kept sweep. -/
def State.keptOf (s : State) (id : Nat) : Option SweepRes := s.kept.find? (fun r => r.id == id)

/-- Conditions of mode 0, in the order of R485. -/
def orderCheck (c : Cmd) (s : State) : Except Err Unit := do
  let t := c.nat 0x0232
  need s.spinePos.isSome (eStat stConfigRefused)
  need s.spn.sweep.isNone (eStat stSweepBusy)
  need ((s.frm.now + 50) * 10000000 ≤ t) (eStat stTimePassed)
  need (t ≤ (s.frm.now + 8640000) * 10000000) (eRange 0x0232)
  need (s.keptOf (c.nat 0x0231)).isNone (eRange 0x0231)

/-- Conditions of modes 1 to 3 (R489, R491). -/
def keptCheck (c : Cmd) (s : State) : Except Err Unit := do
  let id := c.nat 0x0231
  match s.keptOf id with
  | none => .error (eStat stEndpointUnknown)
  | some r =>
    if c.nat 0x0230 = 1 then need s.spn.sweep.isNone (eStat stSweepBusy)
    else if c.nat 0x0230 = 2 then need ((tget r.recs (c.nat 0x0233)).any (fun b => !b.isEmpty)) (eStat stEndpointUnknown)
    else .ok ()

/-- Commit of mode 0: channel 4 is armed, the sweep opens with the origin's own position accepted, and SWEEP_ORDER goes to ALL (R485). -/
def orderSweep (id t : Nat) (cmd : Nat × Nat × Nat) (s : State) : State :=
  let own := s.spinePos.getD 0
  let s := armSweep t s
  let s := s.sp (fun x => { x with
    sweep := some { id := id, t := t, origin := true, cmd := cmd }, seen := (id :: x.seen).take 64,
    results := ({ id := id, t := t, n := s.ringSize, replies := [(own, 0)] } :: x.results).take 16 })
  spAll 0x40 [id, t] (orderBody id t) s

/-- Positions collected so far. -/
def SweepRes.done (r : SweepRes) : List Nat := (r.recs.filter (fun e => !e.2.isEmpty)).map (·.1)

/-- Collection ends (R488). -/
def endCollect (s : State) : State := s.modSweep (fun w => { w with ended := some (w.ended.getD s.frm.now) })

/-- Send COLLECT east or west with the map of the positions collected; a west pass that cannot leave ends the collection, an east pass turns at
once (R488). -/
def sendCollect (s : State) : State :=
  match s.spn.sweep with
  | none => s
  | some w =>
    let map := ((s.spn.results.find? (fun r => r.id == w.id)).map (·.done)).getD []
    let out (east : Bool) (s : State) : State := spOut east 0x42 63 0 s.spineAddr false (w.id :: map) (collectBody w.id map) s
    if !w.west && s.spn.east.up then out true s
    else if s.spn.west.up then out false (s.modSweep (fun w => { w with west := true }))
    else endCollect (s.modSweep (fun w => { w with west := true }))

/-- Collection begins (R488). -/
def startCollect (s : State) : State := sendCollect (s.modSweep (fun w => { w with stage := .collecting, start := s.frm.now, west := false, ended := none }))

/-- Commit of mode 1: a held result is collected again (R489). -/
def recollect (r : SweepRes) (cmd : Nat × Nat × Nat) (s : State) : State :=
  startCollect (s.sp (fun x => { x with sweep := some { id := r.id, t := r.t, origin := true, formed := true, cmd := cmd } }))

/-- SWEEP_STATE code of a position (R489, R491). -/
def SweepRes.state (r : SweepRes) (p : Nat) : Nat :=
  if p ≥ r.n then 0
  else match tget r.recs p, tget r.replies p with
    | some b, rep =>
      if !b.isEmpty then 1 + 16 * (beNat (slice b 24 1) % 2)
      else 3 + 4 * (match rep with | some 1 => 1 | some 2 => 2 | _ => 3)
    | none, some 0 => 2
    | none, some k => 3 + 4 * k
    | none, none => 3

/-- COMPLETE: every position below N is COLLECTED (R489). -/
def SweepRes.complete (r : SweepRes) : Bool := (List.range r.n).all (fun p => r.state p % 4 == 1)

/-- SWEEP_STATE and CODE of a result. -/
def SweepRes.tlvs (r : SweepRes) : List OTlv := [(0x0235, (List.range 64).map (fun p => byte (r.state p))), tCode (b2n r.complete)]

/-- TLVs that each mode requires (R485, R491). -/
def sweepForm (c : Cmd) : Except Err Unit := do
  orMissing (c.has 0x0231) 0x0231
  orMissing (c.nat 0x0230 != 0 || c.has 0x0232) 0x0232
  orMissing (c.nat 0x0230 != 2 || c.has 0x0233) 0x0233
  orMissing (c.nat 0x0230 != 2 || c.has 0x0234) 0x0234

/-- Conditions of SWEEP_ORDER. -/
def sweepCheck (c : Cmd) (s : State) : Except Err Unit := if c.nat 0x0230 = 0 then orderCheck c s else keptCheck c s

/-- SWEEP_ORDER (R485, R489, R491). -/
def opSweepOrder : OpInfo :=
  { op := 0x8008, need := .owner, cost := fun _ => 2,
    specs := [(tFix 0x0230 1 0 3).must, tFix 0x0231 4 0 (2 ^ 32 - 1), tFix 0x0232 8 0 (2 ^ 64 - 1), tFix 0x0233 1 0 63, tFix 0x0234 2 0 3900],
    form := sweepForm,
    ranges := fun c s => do
      need (c.nat 0x0234 % 4 = 0) (eRange 0x0234)
      need (c.nat 0x0230 != 2 || (s.keptOf (c.nat 0x0231)).all (fun r => c.nat 0x0233 < r.n)) (eRange 0x0233),
    accept := sweepCheck,
    commit := fun c s => match sweepCheck c s with
      | .error e => (s, c.err e)
      | .ok _ =>
        let id := c.nat 0x0231
        let cmd := (evKey c.key, c.seq, c.cmdid)
        if c.nat 0x0230 = 0 then (orderSweep id (c.nat 0x0232) cmd s, c.pend)
        else match s.keptOf id with
          | none => (s, c.reply stEndpointUnknown)
          | some r =>
            if c.nat 0x0230 = 1 then (recollect r cmd s, c.pend)
            else if c.nat 0x0230 = 2 then (s, c.ok [tData (slice ((tget r.recs (c.nat 0x0233)).getD []) (c.nat 0x0234) 1152)])
            else (s, c.ok r.tlvs) }

/-- SWEEP_ORDER_MSG (R486). -/
def sweepOrderMsg (east : Bool) (h : SpHdr) (id t : Nat) (s : State) : State :=
  if s.spn.seen.contains id then s
  else
    let s := spForwardAll east h 0x40 [id, t] (orderBody id t) (s.sp (fun x => { x with seen := (id :: x.seen).take 64 }))
    let code := if s.spn.sweep.isSome then 1 else if (s.ns + 10000000) ≤ t then 0 else 2
    let s := if code = 0 then (armSweep t s).sp (fun x => { x with sweep := some { id := id, t := t, origin := false } }) else s
    spTo h.src 0x41 63 s.spineAddr false [id, code] (orderReplyBody id code) s

/-- SWEEP_ORDER_MSG. -/
def execSweepOrderMsg (east : Bool) (h : SpHdr) (id t : Nat) (s : State) : Outcome :=
  done s (fun s => guardS s.spOn (fun s =>
    let (s, ok) := spAccept east h s
    if ok then sweepOrderMsg east h id t s else s) s)

/-- ORDER_REPLY (R486, R489): recorded by the origin, forwarded by others. -/
def execOrderReply (east : Bool) (h : SpHdr) (id code : Nat) (s : State) : Outcome :=
  done s (fun s => guardS s.spOn (fun s =>
    let (s, ok) := spAccept east h s
    if !ok then s
    else if s.spMine h then s.modRes id (fun r => { r with replies := tset r.replies (h.src % 64) code })
    else spForward h 0x41 [id, code] (orderReplyBody id code) s) s)

/-- A trigger reaches the sweep unit (R106, R487). -/
def sweepLatch (s : State) : State :=
  match s.spn.sweep with
  | none => s.setFlag aSpnStat 4
  | some w =>
    if w.stage != .waiting then s.setFlag aSpnStat 4
    else if s.frm.now < w.t / 10000000 then s
    else
      let l := (s.frm.now, 2 * b2n (s.freeFlag != 0) + 4 * b2n s.geo.mir.silent, ldsCode s.lds.st, s.lds.offset)
      (s.modSweep (fun w => { w with stage := .latching, latch := some l })).toGeode 2 (snapContent w.t 1)

/-- SWEEP_LATCH (R487): the trigger of channel 4 at T reaches the sweep unit. -/
def execSweepLatch (s : State) : Outcome := done s (fun s => guardS s.spOn sweepLatch s)

/-- The 64-byte header of a sweep record (R487). -/
def sweepHeader (w : Sweep) (pos missed seq : Nat) : Bytes :=
  let l := w.latch.getD (0, 0, 0, 0)
  [0x53, 0x57, 1, byte pos] ++ beBytes 4 w.id ++ beBytes 8 w.t ++ beBytes 8 l.1 ++ [byte (l.2.1 + missed), byte l.2.2.1, 0, 0]
    ++ beIntBytes 4 l.2.2.2 ++ beBytes 8 Config.moduleEui ++ beBytes 8 seq ++ beBytes 16 0

/-- The reading of kind 1 of the sweep on the main side. -/
def State.sweepReading (s : State) (w : Sweep) : Option Reading := s.geo.mir.readings.find? (fun r => r.kind == 1 && r.t == w.t)

/-- Form the sweep record and hold it; without a reading its part is zeros and MISSED is set (R487). -/
def formRecord (w : Sweep) (s : State) : State :=
  let pos := s.spinePos.getD 0
  let b := match s.sweepReading w with
    | some r => sweepHeader w pos 0 r.seq ++ (r.bytes ++ beBytes 3840 0).take 3840
    | none => sweepHeader w pos 1 0 ++ beBytes 3840 0
  let s := s.sp (fun x => { x with held := ((w.id, w.t, b) :: x.held.filter (fun h => h.1 != w.id)).take 16 })
  let s := if w.origin then s.modRes w.id (fun r => { r with recs := tset r.recs pos b }) else s
  s.modSweep (fun w => { w with formed := true })

/-- SWEEP_RECORD_FORM (R487). -/
def execSweepRecordForm (s : State) : Outcome :=
  done s (fun s => match s.spn.sweep with
    | some w => guardS (w.stage == .latching && !w.formed && ((s.sweepReading w).isSome || s.sweepDue w.t)) (formRecord w) s
    | none => s)

/-- SWEEP_PARTICIPANT_CLOSE (R486). -/
def execSweepParticipantClose (s : State) : Outcome :=
  done s (fun s => match s.spn.sweep with
    | some w => guardS (!w.origin && s.sweepDue w.t) (fun s =>
        (if w.stage == .latching && !w.formed then formRecord w s else s).sp (fun x => { x with sweep := none })) s
    | none => s)

/-- COLLECTION_START (R488). -/
def execCollectionStart (s : State) : Outcome :=
  done s (fun s => match s.spn.sweep with
    | some w => guardS (w.origin && w.stage != .collecting && s.sweepDue w.t) (fun s =>
        startCollect (if w.stage == .latching && !w.formed then formRecord w s else s)) s
    | none => s)

/-- The record of a sweep that this module holds, for 24 h after T (R487). -/
def State.heldRecord (s : State) (id : Nat) : Bytes :=
  match s.spn.held.find? (fun h => h.1 == id && s.within24 h.2.1) with
  | some h => h.2.2
  | none => []

/-- The pass to the west (R488). -/
def collectWest (w : Sweep) (s : State) : State :=
  let map := ((s.spn.results.find? (fun r => r.id == w.id)).map (·.done)).getD []
  spOut false 0x42 63 0 s.spineAddr false (w.id :: map) (collectBody w.id map) (s.modSweep (fun w => { w with west := true }))

/-- COLLECT at the origin (R488): it has come round; the pass to the west follows an east pass, and the collection ends. -/
def collectBack (s : State) : State :=
  match s.spn.sweep with
  | some w => endCollect (if w.west then s else collectWest w s)
  | none => s

/-- COLLECT at another module (R488). -/
def collectOn (east : Bool) (h : SpHdr) (id : Nat) (map : List Nat) (s : State) : State :=
  let pos := s.spinePos.getD 0
  let s := if map.contains pos then s else spTo h.src 0x43 63 s.spineAddr false [id, pos] (recordBody id pos (s.heldRecord id)) s
  if (s.spPort (!east)).up then spOnward east h 0x42 (id :: insNat pos map) (collectBody id (insNat pos map)) s
  else spTo h.src 0x44 63 s.spineAddr false [id] (beBytes 4 id) s

/-- COLLECT. -/
def execCollect (east : Bool) (h : SpHdr) (id : Nat) (map : List Nat) (s : State) : Outcome :=
  done s (fun s => guardS s.spOn (fun s =>
    let (s, ok) := spAccept east h s
    if !ok || s.spinePos.isNone then s
    else if h.src == s.spineAddr then guardS (s.spn.sweep.any (fun w => w.origin && w.id == id && w.stage == .collecting && w.ended.isNone)) collectBack s
    else collectOn east h id map s) s)

/-- SWEEP_RECORD (R488): the origin keeps it while its result is not final. -/
def execSweepRecord (east : Bool) (h : SpHdr) (id pos : Nat) (body : Bytes) (s : State) : Outcome :=
  done s (fun s => guardS s.spOn (fun s =>
    let (s, ok) := spAccept east h s
    if !ok then s
    else if !s.spMine h then spForward h 0x43 [id, pos] (recordBody id pos body) s
    else guardS (s.spn.sweep.any (fun w => w.origin && w.id == id && w.stage == .collecting)) (fun s =>
      s.modRes id (fun r => if r.done.contains pos then r else { r with recs := tset r.recs pos body })) s) s)

/-- COLLECT_TURN (R488): the east pass has turned, and the west pass begins; a west pass that turns ends the collection. -/
def execCollectTurn (east : Bool) (h : SpHdr) (id : Nat) (s : State) : Outcome :=
  done s (fun s => guardS s.spOn (fun s =>
    let (s, ok) := spAccept east h s
    if !ok then s
    else if !s.spMine h then spForward h 0x44 [id] (beBytes 4 id) s
    else match s.spn.sweep with
      | some w =>
        if !(w.origin && w.id == id && w.stage == .collecting && w.ended.isNone) then s
        else if w.west then endCollect s
        else if s.spn.west.up then collectWest w s
        else endCollect s
      | none => s) s)

/-- COLLECTION_TIMEOUT (R488): 20 frames. -/
def execCollectionTimeout (s : State) : Outcome :=
  done s (fun s => guardS (s.spn.sweep.any (fun w => w.origin && w.stage == .collecting && w.ended.isNone && w.start + 20 ≤ s.frm.now)) endCollect s)

/-- SWEEP_RESULT_FINAL (R488, R489): at the beat 0 after the end of collection; the RESULT goes with the next events. -/
def execSweepResultFinal (s : State) : Outcome :=
  done s (fun s => match s.spn.sweep with
    | some w => guardS (w.origin && w.ended.any (fun f => f < s.frm.now)) (fun s =>
        let s := s.sp (fun x => { x with sweep := none })
        match s.keptOf w.id with
        | some r => s.result w.cmd.1 w.cmd.2.1 w.cmd.2.2 stOk r.tlvs
        | none => s) s
    | none => s)

/-! ### SPINE_CONFIG (R479, R491) -/

/-- Conditions of RING_ACCEPT: no sweep open, and a last census of result CHANGED (R485, R491). -/
def ringAccept (c : Cmd) (s : State) : Except Err Unit := do
  need (!c.has 0x0238 || s.spn.sweep.isNone) (eStat stSweepBusy)
  need (!c.has 0x0238 || s.spn.changed.isSome) (eConfig 0x0238)

/-- SPINE_CONFIG. -/
def opSpineConfig : OpInfo :=
  { op := 0x8007, need := .owner, cost := fun _ => 2,
    specs := [tFix 0x0236 2 0 0xFFFF, { id := 0x0237, shape := .fixed 48 }, { id := 0x0238, shape := .fixed 0 }],
    ranges := fun c _ => need (!c.has 0x0236 || (c.nat 0x0236 / 256 < 64 && c.nat 0x0236 % 256 ≤ 1)) (eRange 0x0236),
    accept := ringAccept,
    commit := fun c s => match ringAccept c s with
      | .error e => (s, c.err e)
      | .ok _ =>
        let s := match c.tlv? 0x0237 with
          | some b => s.sp (fun x => { x with tag := some b })
          | none => s
        let s := match c.nat? 0x0236 with
          | some v => s.sp (fun x => { x with ring := some (v / 256), master := v % 256 == 1, run := none })
          | none => s
        let s := if c.has 0x0238 then s.sp (fun x => { x with record := x.changed, changed := none }) else s
        (if c.has 0x0236 || c.has 0x0238 then startRing s else s, c.ok) }

/-- SPINE_CONFIG. -/
def execSpineConfig (src : Src) (tlvs : List Tlv) (s : State) : Outcome := execOp opSpineConfig src tlvs s
/-- SWEEP_ORDER. -/
def execSweepOrder (src : Src) (tlvs : List Tlv) (s : State) : Outcome := execOp opSweepOrder src tlvs s

end Sys2Proof.Machine
end

