-- ==== Sys2Proof/Machine/Boot.lean ====
section
/-!
DEFINITION. Machine/Boot.lean: images and sets, the start, staging, activation, hitless update, the journal and diagnostics (R523 to R548).
-/
namespace Sys2Proof.Machine

/-! ### Images (R526 to R531) -/

/-- The slots of an image class. -/
def State.slots (s : State) (c : Nat) : ImgSlots := tgetD s.boot.images c {}

/-- Change the slots of an image class. -/
def State.modSlots (s : State) (c : Nat) (f : ImgSlots → ImgSlots) : State := s.setBoot (fun b => { b with images := tupd b.images c {} f })

/-- The largest image of a class in bytes (R526). -/
def imgMax (c : Nat) : Nat := (match c with | 0 => 4 | 1 => 256 | 2 => 16 | _ => 32) * 2 ^ 20

/-- Fuse bank of an image class; grain microcode has none (R516, R526). -/
def imgBank (c : Nat) : Option Nat := match c with | 0 => some 0 | 1 => some 1 | 3 => some 2 | _ => none

/-- The class carries an owner countersignature (R527). -/
def countersigned (c : Nat) : Bool := c == 1 || c == 3

/-- A manifest entry (R529). -/
def manEntry (b : Bytes) : ManEntry := ⟨u b 0 1, u b 1 1, u b 4 4, u b 8 4, u b 12 4⟩

/-- The container of R527 as an image of class `c`; none for a bad format, or a manifest entry of a reserved kind. -/
def parseImage (c : Nat) (b : Bytes) : Option Image :=
  let m := u b 10 2
  let head := 160 + m
  let body := if countersigned c then head + 96 else head
  let man := (chunks 16 ((b.drop 64).take m)).map manEntry
  let digest := (b.drop 16).take 48
  if u b 0 2 == 0x5A49 && u b 2 1 == 1 && u b 3 1 == c && (c == 2 || u b 8 1 ≤ 64) && m % 16 == 0 && 16 ≤ m && m ≤ 8192 &&
      body + u b 12 4 == b.length && man.all (fun e => 1 ≤ e.kind && e.kind ≤ 5) then
    some { version := u b 4 4, svn := if c = 2 then 0 else u b 8 1, advanceNow := bit (u b 9 1) 0, digest := digest, manifest := man,
           head := b.take head, csig := if countersigned c then (b.drop head).take 96 else [],
           good := Config.verify [] (b.take (64 + m)) ((b.drop (64 + m)).take 96) && beBytes 48 (Config.sha384 (b.drop body)) == digest,
           factory := false }
  else none

/-- Every signature of an image verifies, and its payload digest matches; without an image key only the images installed at manufacture are
accepted (R528). -/
def State.authentic (s : State) (c : Nat) (i : Image) : Bool :=
  i.good && (!countersigned c || match s.boot.imageKey with
    | some k => Config.verify k i.head i.csig
    | none => i.factory)

/-- The security version lies below the fuses (R516). -/
def State.rolledBack (s : State) (c : Nat) (i : Image) : Bool := match imgBank c with | some k => i.svn < s.fuse k | none => false

/-- An entry of kind 1 of `i` lists version `v` of class `c`. -/
def Image.lists (i : Image) (c v : Nat) : Bool := i.manifest.any (fun e => e.kind == 1 && e.cls == c && e.lo ≤ v && v ≤ e.hi)

/-- Two images of classes `a` and `b` are covered (R530). -/
def covered (a b : Nat) (i j : Image) : Bool := i.lists b j.version && j.lists a i.version

/-- Admitted to the silicon: stepping 0xB0 (R529, R530). -/
def Image.admitted (i : Image) : Bool := i.manifest.any (fun e => e.kind == 2 && e.lo == 0xB0)

/-- The six pairs of classes. -/
def imgPairs : List (Nat × Nat) := [(0, 1), (0, 2), (0, 3), (1, 2), (1, 3), (2, 3)]

/-- An image passes on its own: signatures, digest, silicon, security version (R530). -/
def State.passes (s : State) (c : Nat) (i : Image) : Bool := s.authentic c i && i.admitted && !s.rolledBack c i

/-- The images of a set by class, where every class has one. -/
def imgSet (f : Nat → Option Image) : Option (List Image) :=
  match f 0, f 1, f 2, f 3 with
  | some a, some b, some c, some d => some [a, b, c, d]
  | _, _, _, _ => none

/-- A set is approved (R530). -/
def State.approved (s : State) (l : List Image) : Bool :=
  l.length == 4 && l.zipIdx.all (fun e => s.passes e.2 e.1) &&
  imgPairs.all (fun p => match l[p.1]?, l[p.2]? with | some i, some j => covered p.1 p.2 i j | _, _ => false)

/-- What an image adds to a measurement: its digest and its manifest with the header (R496, log 30). -/
def imgMeas (i : Image) : Meas := [i.digest, beBytes 48 (Config.sha384 i.head)]

/-- m_k of a set: Flint and main (R496). -/
def measK (l : List Image) : Meas := (l.take 2).flatMap imgMeas

/-- m_a of a set: all four classes (R496). -/
def measA (l : List Image) : Meas := l.flatMap imgMeas

/-- The set that runs. -/
def State.runSet (s : State) : List Image := s.boot.run.map (·.2)

/-- The slots a start tries, in the order of R531, each with whether it takes a PREVIOUS slot; after three failed starts the PREVIOUS slots come
first (R535). -/
def State.startSets (s : State) : List (Option (List Image) × Bool) :=
  let act := (imgSet (fun c => (s.slots c).act), false)
  let prev := (imgSet (fun c => (s.slots c).prev), true)
  let mixed := (imgSet (fun c => match (s.slots c).act with
    | some i => if s.passes c i then some i else (s.slots c).prev
    | none => (s.slots c).prev), true)
  if s.boot.attempts ≥ 3 then [prev, act, mixed] else [act, prev, mixed]

/-- The first approved set of a start. -/
def State.chooseSet (s : State) : Option (List Image × Bool) :=
  s.startSets.foldl (fun r e => match r with
    | some x => some x
    | none => match e.1 with
      | some l => if s.approved l then some (l, e.2) else none
      | none => none) none

/-! ### Levels (R523, R555) -/

/-- SVC_BLOCKS (R555). -/
def State.svcBlocks (s : State) : Nat :=
  s.boot.strataOut % 65536 + 65536 * b2n s.boot.bankAOut + 131072 * b2n s.boot.bankBOut + 262144 * b2n s.boot.airOut + 524288 * b2n s.boot.uplinkOut

/-- SVC_LEVEL (R555). -/
def State.svcLevel (s : State) : Nat := s.level + 16 * s.boot.step + 256 * b2n s.boot.noSet + 512 * b2n (!s.unclaimed)

/-- What a fall to MAINTENANCE does: every slate entry holds 0xFFFF (R525). -/
def darken (s : State) : State := s.sl (fun t => { t with front := [], back := [], overlay := [] })

/-- A change of level reaches STAT1:STAT0 and raises SERVICE_LEVEL (R51, R554). -/
def announce (s : State) : State :=
  let l := s.level
  if l = s.boot.stat then s
  else
    let s := (s.owner 0x0F10 [tCode l, tBitmap (bitmapBytes 4 ((List.range 20).filter (bit s.svcBlocks)))]).send .pinStat 0 [l]
    let s := if s.boot.stat ≥ 2 && l ≤ 1 then darken s else s
    s.setBoot (fun b => { b with stat := l })

/-- Raise UPDATE_STATE (R554); class 0xFF where none is concerned (log 34). -/
def updEvent (code cls : Nat) (s : State) : State := s.owner 0x0F11 [tCode code, tCode cls]

/-! ### Start (R531 to R535) -/

/-- A step of R532 is reached. -/
def reachStep (k : Nat) (s : State) : State :=
  s.setBoot (fun b => { b with step := max b.step k, stepLog := b.stepLog ++ [(k, s.frm.now, s.ns)] })

/-- At a restart Flint keeps the generation of every blob that matches the m_k of the set that starts; module blobs of another generation fail:
pole nodes pair again, and air enrolments are to be restored (R519, R535). -/
def keepAtStart (m : Meas) (s : State) : State :=
  let s := if s.flt.modGens.contains m || s.flt.modGens.isEmpty then s
    else { s with
      strs := { s.strs with pairs := [] },
      air := { s.air with eps := tmap s.air.eps (fun _ e => { e with joined := false, devKey := [], session := [] }) } }
  (keepGen m s).fl (fun f => { f with modGens := [m] })

/-- Flint runs a set: it is measured, the alias key derived, and MAINTENANCE reached (R496, R532 step 3). -/
def runImages (l : List Image) (prev : Bool) (s : State) : State :=
  let s := s.fl (fun f => { f with st := 1, rngOk := true, reseed := s.frm.now, mK := measK l, mA := measA l,
                                   runs := [(0, s.frm.now), (1, s.frm.now), (2, s.frm.now)] })
  let s := keepAtStart (measK l) s
  s.setBoot (fun b => { b with run := l.zipIdx.map (fun e => (e.2, e.1)), noSet := false, prev := prev })

/-- Without an approved set the module starts in MAINTENANCE (R531). -/
def noSet (s : State) : State :=
  updEvent 6 0xFF ((s.fl (fun f => { f with st := 1, rngOk := true, reseed := s.frm.now })).setBoot (fun b => { b with run := [], noSet := true, prev := false }))

/-- FLINT_MEASURE (R496, R531): at start Flint selects and measures the set; later it measures the images that run again. -/
def flintMeasure (s : State) : State :=
  if s.flt.st = 0 then
    let late := s.boot.attempts ≥ 3
    let (ik, s) := drawBytes 16 s
    let s := s.fl (fun f => { f with intKey := ik })
    let s := match s.chooseSet with
      | some (l, prev) => let s := runImages l prev s; if late && prev then updEvent 4 0xFF s else s
      | none => noSet s
    let s := reachStep 3 (reachStep 2 (s.setBoot (fun b => { b with maint := true })))
    s.startMain
  else if s.flt.st = 3 then s
  else s.fl (fun f => { f with mA := measA s.runSet })

/-- FLINT_MEASURE. -/
def execFlintMeasure (s : State) : Outcome := done s (fun s => guardS s.pw.service flintMeasure s)

/-- START_STEP_TIMEOUT (R532): step 5 leaves bank `blk` (0 A, 1 B) out, step 6 stratum `blk`, step 7 the air unit; the other steps concern no block
of R524. -/
def execStartStepTimeout (step blk : Nat) (s : State) : Outcome :=
  done s (fun s => guardS (s.pw.main && !s.boot.inService) (fun s => s.setBoot (fun b => match step with
    | 5 => if blk = 0 then { b with bankAOut := true } else if blk = 1 then { b with bankBOut := true } else b
    | 6 => if blk < 16 then { b with strataOut := setBit b.strataOut blk } else b
    | 7 => { b with airOut := true }
    | _ => b)) s)

/-- Every stratum in service has ended a census on each of its ports that has link (R533). -/
def State.censusesDone (s : State) : Bool :=
  s.strs.grains.all (fun e =>
    let g := s.stringOf e.1
    e.2.rate == 0 || s.stratumOut (stratumOf e.1) ||
      ((s.grain g).census.isNone && (s.grain g).trigger.isNone && (s.grain g).waitUntil.isNone))

/-- The conditions of R533, and the needs of LIGHT (R523). -/
def State.mayEnter (s : State) : Bool :=
  s.boot.maint && !s.boot.inService && s.lds.on && s.lightNeeds && (List.range 6).all (fun n => bit (s.reg (aLdsTmrCtl n)) 0) &&
  (s.censusesDone || s.boot.timed.any (fun f => f + 500 ≤ s.frm.now))

/-- Entry into frame service: schedules take their levels, and the ring master starts its census (R275, R479, R533). -/
def enterService (s : State) : State :=
  let s := reachStep 10 (reachStep 9 (s.setBoot (fun b => { b with inService := true, served := 0 })))
  let s := s.slt.scheds.foldl (fun s e => if e.2.enabled then takeLatest (e.1 / 256) (e.1 % 256) e.2 s else s) s
  let s := aonRegs (startRing s)
  { s with frm := { s.frm with cap := s.capacity } }

/-- FRAME_SERVICE_ENTRY (R533): at a frame boundary. -/
def execFrameServiceEntry (s : State) : Outcome := done s (fun s => guardS (s.mayEnter && s.frm.beat == 0) enterService s)

/-- Watchdog resets of the last 360,000 frames. -/
def State.recent (s : State) (l : List Nat) : List Nat := l.filter (fun f => s.frm.now < f + 360000)

/-- A bank is reset after 10 frames without progress (R524). -/
def bankReset (b : Bool) (s : State) : State :=
  s.setBoot (fun x =>
    if b then { x with bankBOut := true, resets := (x.resets.1, s.frm.now :: s.recent x.resets.2) }
    else { x with bankAOut := true, resets := (s.frm.now :: s.recent x.resets.1, x.resets.2) })

/-- A reset bank rejoins on the image of the other bank, unless this was its third reset within an hour, or an update holds it (R524, R541). -/
def bankRejoin (b : Bool) (s : State) : State :=
  let l := if b then s.boot.resets.2 else s.boot.resets.1
  if (s.recent l).length ≥ 3 || l.isEmpty || s.boot.act.any (fun a => a.left && a.todo.head? == some 1) then s
  else s.setBoot (fun x => if b then { x with bankBOut := false } else { x with bankAOut := false })

/-- BANK_WATCHDOG of bank A or B (`b`): the reset, or the rejoining at a frame boundary (R524). -/
def execBankWatchdog (b rejoin : Bool) (s : State) : Outcome :=
  done s (fun s =>
    let out := if b then s.boot.bankBOut else s.boot.bankAOut
    guardS (s.pw.main && out == rejoin && (!rejoin || s.frm.beat == 0)) (if rejoin then bankRejoin b else bankReset b) s)

/-- A start that failed before an hour of frame service is counted (R535). -/
def failStart (s : State) : State := if s.boot.served < 360000 then s.setBoot (fun b => { b with attempts := min 3 (b.attempts + 1) }) else s

/-- WATCHDOG_RESET (R535, R565): both banks at once; the module restarts after the farewell. -/
def execWatchdogReset (start : StartIn) (s : State) : Outcome :=
  done s (fun s => guardS (s.pw.service && s.pw.main) (fun s => ((farewell (deferFlash (failStart s))).mainOff.serviceOff).startService start 2) s)

/-! ### Staging (R538) -/

/-- How far the chunks of a staging cover it from its start, with fuel. -/
def coverFrom (l : List (Nat × Bytes)) : Nat → Nat → Nat
  | 0, r => r
  | f + 1, r => match l.find? (fun c => c.1 ≤ r && r < c.1 + c.2.length) with
    | some c => coverFrom l f (c.1 + c.2.length)
    | none => r

/-- Every byte of a staging has been written. -/
def Staging.whole (t : Staging) : Bool := coverFrom t.chunks t.chunks.length 0 ≥ t.total

/-- The staged bytes: later chunks over earlier ones. -/
def Staging.bytes (t : Staging) : Bytes :=
  t.chunks.foldl (fun b c => b.take c.1 ++ c.2 ++ b.drop (c.1 + c.2.length)) (List.replicate t.total 0)

/-- The class of a staging is named in the activation in progress (R538). -/
def State.classBusy (s : State) (c : Nat) : Bool := s.boot.act.any (fun a => a.classes.contains c)

/-- Ranges of IMAGE_STAGE. -/
def stageRange (c : Cmd) : Except Err Unit := do
  need (c.nat 0x0264 ≤ imgMax (c.nat 0x0262)) (eRange 0x0264)
  need (c.nat 0x0263 + ((c.tlv? 0x0265).getD []).length ≤ c.nat 0x0264) (eRange 0x0265)

/-- State conditions of IMAGE_STAGE: a chunk at another offset than 0 belongs to a staging that loads, of the same IMG_TOTAL. -/
def stageAccept (c : Cmd) (s : State) : Except Err Unit := do
  need (!s.classBusy (c.nat 0x0262)) (eStat stUpdateInProgress)
  need (c.nat 0x0263 == 0 || match (s.slots (c.nat 0x0262)).staging with
    | some t => t.stage == 1 && t.waiting.isNone && t.total == c.nat 0x0264
    | none => false) (eRange 0x0264)

/-- A staging that a chunk at offset 0 discards owes its RESULT: it is not verified (log 34). -/
def dropStaging (k : Nat) (s : State) : State :=
  match (s.slots k).staging.bind (·.waiting) with
  | some w => s.result w.1 w.2.1 w.2.2 stImageSignature
  | none => s

/-- IMAGE_STAGE. -/
def opImageStage : OpInfo :=
  { op := 0xF001, need := .owner, maint := fun _ => true, svc := .role 1,
    specs := [(tFix 0x0262 1 0 3).must, (tFix 0x0263 4 0 (2 ^ 32 - 1)).must, (tFix 0x0264 4 512 (2 ^ 28)).must, (tByt 0x0265 1 8140).must],
    ranges := fun c _ => stageRange c,
    accept := stageAccept,
    commit := fun c s => match stageAccept c s with
      | .error e => (s, c.err e)
      | .ok _ =>
        let k := c.nat 0x0262
        let ch := (c.nat 0x0263, (c.tlv? 0x0265).getD [])
        let s := if ch.1 = 0 then dropStaging k s else s
        let t : Staging := match (if ch.1 = 0 then none else (s.slots k).staging) with
          | some t => { t with chunks := t.chunks ++ [ch] }
          | none => { total := c.nat 0x0264, chunks := [ch], waiting := none, stage := 1 }
        let full := t.whole
        let t := { t with waiting := if full then some (evKey c.key, c.seq, c.cmdid) else none }
        (s.modSlots k (fun x => { x with stg := none, staging := some t }), if full then c.pend else c.ok) }

/-- What the verification of a staged image finds: the image, or the status that refuses it (R527 to R530, R538). -/
def State.verifyStaged (s : State) (k : Nat) (t : Staging) : Except Nat Image :=
  match parseImage k t.bytes with
  | none => .error stImageSignature
  | some i => if !s.authentic k i then .error stImageSignature else if s.rolledBack k i then .error stImageRollback else .ok i

/-- The verification of a complete staging ends, and the command that completed it gets its RESULT (R538). -/
def imageVerified (cls : Nat) (s : State) : State :=
  match (s.slots cls).staging with
  | none => s
  | some t => match t.waiting with
    | none => s
    | some w => match s.verifyStaged cls t with
      | .ok i =>
        (s.modSlots cls (fun x => { x with stg := some i, staging := some { t with chunks := [], waiting := none, stage := 2 } })).result w.1 w.2.1 w.2.2 stOk
      | .error e =>
        (s.modSlots cls (fun x => { x with staging := some { t with chunks := [], waiting := none, stage := 3 } })).result w.1 w.2.1 w.2.2 e

/-- IMAGE_VERIFIED: Flint, where it runs, verifies a staged image (R530, R538). -/
def execImageVerified (cls : Nat) (s : State) : Outcome := done s (fun s => guardS s.flintOn (imageVerified cls) s)

/-! ### Activation (R539, R540) -/

/-- The update manifest: by class, whether STAGED is named, and the digest. -/
def manifestRow (b : Bytes) (c : Nat) : Bool × Bytes := (u b (5 + 52 * c) 1 == 1, (b.drop (8 + 52 * c)).take 48)

/-- The record has the form of R539. -/
def manifestForm (b : Bytes) : Bool :=
  u b 0 2 == 0x554D && u b 2 1 == 1 && (List.range 4).all (fun c => u b (4 + 52 * c) 1 == c && u b (5 + 52 * c) 1 ≤ 1)

/-- The image that a class names. -/
def State.named (s : State) (b : Bytes) (c : Nat) : Option Image := if (manifestRow b c).1 then (s.slots c).stg else (s.slots c).act

/-- The classes that an activation hands over: those whose image differs from the one that runs. -/
def State.changed (s : State) (l : List Image) : List Nat := (List.range 4).filter (fun c => l[c]? != tget s.boot.run c)

/-- The intermediate sets of R540, the resulting one last: the classes of `todo` handed over one after another. -/
def stages (run new : List Image) : List Nat → List (List Image)
  | [] => []
  | c :: r =>
    let run := match new[c]? with | some i => run.set c i | none => run
    run :: stages run new r

/-- What the checks of R539 give: the resulting set, or the status. -/
def State.checkActivation (s : State) (b : Bytes) (mode : Nat) : Except Nat (List Image) :=
  let staged := (List.range 4).filter (fun c => (manifestRow b c).1)
  if s.boot.act.isSome || s.boot.owed.isSome then .error stUpdateInProgress
  else if !staged.all (fun c => match (s.slots c).stg with | some i => i.digest == (manifestRow b c).2 | none => false) then .error stImageSignature
  else match imgSet (s.named b) with
    | none => .error stManifestUncovered
    | some l =>
      if s.flt.migr.isSome && measK l != s.flt.mK then .error stUpdateInProgress
      else if !((List.range 4).all (fun c => (l[c]?).any (fun i => i.digest == (manifestRow b c).2)) && s.approved l &&
          (mode == 1 || s.boot.noSet || (stages s.runSet l (s.changed l)).all s.approved) &&
          beBytes 48 (Config.measure (measK l)) == (b.drop 212).take 48 && beBytes 48 (Config.measure (measA l)) == (b.drop 260).take 48) then
        .error stManifestUncovered
      else if mode = 0 && !s.inLight then .error stMaintenanceOnly
      else .ok l

/-- Start an activation: migration first where m_k changes (R540). -/
def startActivation (c : Cmd) (b : Bytes) (mode : Nat) (l : List Image) (s : State) : State :=
  let keep := measK l == s.flt.mK || s.boot.noSet
  let todo := s.changed l
  let a : Activation :=
    { cmd := (evKey c.key, c.seq, c.cmdid), todo := todo, classes := (List.range 4).filter (fun c => (manifestRow b c).1), restart := mode == 1,
      keepKeys := keep, old := s.boot.run, since := s.frm.now, left := false, bReady := false, handed := false, handAt := none,
      level := min s.level 2, swapped := 0, lastSwap := none, back := false, airSince := none }
  let s := updEvent 0 (todo.headD 0xFF) (s.setBoot (fun x => { x with act := some a }))
  if keep then s else startMigration (measK l) s

/-- IMAGE_ACTIVATE. -/
def opImageActivate : OpInfo :=
  { op := 0xF002, need := .owner, maint := fun _ => true, svc := .role 2,
    specs := [(tByt 0x0266 308 308).must, (tFix 0x0267 1 0 1).must],
    ranges := fun c _ => need (manifestForm ((c.tlv? 0x0266).getD [])) (eRange 0x0266),
    accept := fun c s => match s.checkActivation ((c.tlv? 0x0266).getD []) (c.nat 0x0267) with
      | .error e => .error (eStat e)
      | .ok _ => .ok (),
    commit := fun c s =>
      let b := (c.tlv? 0x0266).getD []
      match s.checkActivation b (c.nat 0x0267) with
      | .error e => (s, c.reply e)
      | .ok l => (startActivation c b (c.nat 0x0267) l s, c.pend) }

/-- Change the activation. -/
def State.modAct (s : State) (f : Activation → Activation) : State := s.setBoot (fun b => { b with act := b.act.map f })

/-- The next class of a hitless activation, none while there is none. -/
def State.turnOf (s : State) : Option Nat := (s.boot.act.filter (fun a => !a.restart)).bind (·.todo.head?)

/-- Step 4 of R518 is reached, or no migration is needed. -/
def State.keysReady (s : State) : Bool :=
  s.boot.act.any (fun a => a.keepKeys) || s.flt.migr.any (·.done) || s.boot.act.any (fun a => a.handAt.isSome)

/-- SVC_UPD.STATE (R555). -/
def State.updState (s : State) : Nat :=
  match s.boot.act with
  | none => 0
  | some a =>
    if a.restart then (if s.keysReady then 7 else 1)
    else match a.todo.head? with
      | some 0 => if s.keysReady then 2 else 1
      | some 1 => if a.handed then 4 else if a.left then 3 else 1
      | some 2 => 5
      | some 3 => 6
      | _ => 0

/-- A class runs its new image: STAGED where the activation names it, else ACTIVE; its run restarts, and m_a follows (R517, R518). -/
def takeImage (c : Nat) (s : State) : State :=
  let img := if s.boot.act.any (fun a => a.classes.contains c) then (s.slots c).stg else (s.slots c).act
  match img with
  | none => s
  | some i =>
    let s := s.setBoot (fun b => { b with run := tset b.run c i })
    s.fl (fun f => { f with mA := measA s.runSet, runs := match imgBank c with | some k => tset f.runs k s.frm.now | none => f.runs })

/-- The first handover of Flint or main changes the keys; step 6 waits for the first frame of the last one (R518, R540). -/
def handKeys (frame : Nat) (s : State) : State :=
  let s := if s.flt.migr.any (fun g => g.target != s.flt.mK) then handoverKeys s else s
  s.modAct (fun a => { a with handAt := some frame })

/-- The RESULT of a complete activation waits until the module is back at the level it held before (R539). -/
def payOwed (s : State) : State :=
  match s.boot.owed with
  | none => s
  | some (c, l) => if s.level ≥ l then (s.setBoot (fun b => { b with owed := none })).result c.1 c.2.1 c.2.2 stOk else s

/-- The slots of a handed-over class: PREVIOUS takes the old ACTIVE image, ACTIVE the STAGED one (R540). -/
def ImgSlots.promote (x : ImgSlots) : ImgSlots := { act := x.stg, prev := x.act, stg := none, staging := none }

/-- Every handover is done (R540). -/
def finishActivation (s : State) : State :=
  match s.boot.act with
  | none => s
  | some a =>
    if !a.todo.isEmpty then s
    else
      let s := a.classes.foldl (fun s c => s.modSlots c ImgSlots.promote) s
      let s := (updEvent 2 0xFF s).setFlag aSvcUpd 17
      payOwed (s.setBoot (fun b => { b with act := none, owed := some (a.cmd, a.level), prev := false }))

/-- A class is done: the next one follows. -/
def classDone (s : State) : State := finishActivation (s.modAct (fun a => { a with todo := a.todo.drop 1 }))

/-- An activation is abandoned: before step 6 of R518 Flint and main return to the images that ran before, and the new generation is discarded
(R519, R542 to R546, log 34). -/
def abandonActivation (cls : Nat) (s : State) : State :=
  match s.boot.act with
  | none => s
  | some a =>
    let s := if s.flt.migr.isSome then
        let m := (a.old.take 2).flatMap (fun e => imgMeas e.2)
        let s := s.setBoot (fun b => { b with run := a.old.foldl (fun t e => if e.1 ≤ 1 then tset t e.1 e.2 else t) b.run })
        let s := s.fl (fun f => { f with mK := m })
        let s := s.flt.reg.foldl (fun s e => match e.2.loc with
          | some off => if !e.2.stale && e.2.gens.contains m then wsPut (e.1 / 2 ^ 32) off (blobBytes (e.1 / 2 ^ 32) (e.1 % 2 ^ 32) e.2 m) s else s
          | none => s) s
        abandonMigration s
      else s
    let s := match tget a.old cls with | some i => s.setBoot (fun b => { b with run := tset b.run cls i }) | none => s
    let s := s.fl (fun f => { f with mA := measA s.runSet })
    let s := (updEvent 3 cls s).setFlag aSvcUpd 16
    (s.setBoot (fun b => { b with act := none })).result a.cmd.1 a.cmd.2.1 a.cmd.2.2 stUpdateInProgress [tCode cls]

/-! ### Hitless update by class (R541 to R545) -/

/-- Bank B leaves at beat 64 (R541 step 1); a bank that is already out is the one that restarts. -/
def bankLeaves (s : State) : State :=
  if s.turnOf = some 1 && !s.boot.act.any (·.left) then
    (s.modAct (fun a => { a with left := true, since := s.frm.now })).setBoot (fun b => { b with bankBOut := !b.bankAOut || b.bankBOut })
  else s

/-- BANK_B_READY (R541 step 2). -/
def execBankBReady (s : State) : Outcome :=
  done s (fun s => guardS (s.turnOf == some 1 && s.boot.act.any (fun a => a.left && !a.handed)) (fun s => s.modAct (fun a => { a with bReady := true })) s)

/-- The main handover (R541 step 3): bank B commits from this beat 0, bank A restarts on the new image; with the update the count of resets
starts again (R524). -/
def mainHandover (s : State) : State :=
  let s := handKeys s.frm.now (takeImage 1 s)
  let s := s.modAct (fun a => { a with handed := true, since := s.frm.now })
  updEvent 1 1 (s.setBoot (fun b => { b with bankBOut := false, bankAOut := true, resets := ([], []) }))

/-- MAIN_HANDOVER. -/
def execMainHandover (s : State) : Outcome :=
  done s (fun s => guardS (s.turnOf == some 1 && s.frm.beat == 0 && s.keysReady && s.boot.act.any (fun a => a.bReady && !a.handed)) mainHandover s)

/-- BANK_A_JOIN, at a frame boundary (R541 step 4). -/
def execBankAJoin (s : State) : Outcome :=
  done s (fun s => guardS (s.turnOf == some 1 && s.frm.beat == 0 && s.boot.act.any (·.handed))
    (fun s => classDone (s.setBoot (fun b => { b with bankAOut := false }))) s)

/-- MAIN_UPDATE_TIMEOUT (R542): bank B is not ready within 3,000 frames, or fails its replay, and the update is abandoned; or bank A does not join
within 3,000 frames of the handover, and the module stays on bank B. -/
def mainTimeout (replayFail : Bool) (s : State) : State :=
  match s.boot.act with
  | none => s
  | some a =>
    let timeUp := a.since + 3000 ≤ s.frm.now
    if a.handed then (if timeUp then classDone (updEvent 5 1 s) else s)
    else if a.left && ((timeUp && !a.bReady) || replayFail) then abandonActivation 1 (s.setBoot (fun b => { b with bankBOut := false }))
    else s

/-- MAIN_UPDATE_TIMEOUT. -/
def execMainUpdateTimeout (replayFail : Bool) (s : State) : Outcome :=
  done s (fun s => guardS (s.turnOf == some 1) (mainTimeout replayFail) s)

/-- One stratum swaps, or swaps back, at a tick (R543). -/
def stratumSwap (ok : Bool) (s : State) : State :=
  match s.boot.act with
  | none => s
  | some a =>
    if a.lastSwap = some s.frm.now then s
    else if a.back || (!ok && a.swapped > 0) then
      let s := s.modAct (fun a => { a with back := true, swapped := a.swapped - 1, lastSwap := some s.frm.now })
      if a.swapped ≤ 1 then abandonActivation 2 s else s
    else if a.swapped < 16 then s.modAct (fun a => { a with swapped := a.swapped + 1, lastSwap := some s.frm.now })
    else s

/-- GRAIN_STRATUM_SWAP; `ok` is false when the stratum that swapped last fails its self-check. -/
def execGrainStratumSwap (ok : Bool) (s : State) : Outcome :=
  done s (fun s => guardS (s.turnOf == some 2 && s.frm.beat == 0) (stratumSwap ok) s)

/-- AIR_IMAGE_TAKEOVER (R544): at a frame tick. -/
def execAirImageTakeover (s : State) : Outcome :=
  done s (fun s => guardS (s.turnOf == some 3 && s.frm.beat == 0 && s.boot.act.any (fun a => a.airSince.isNone))
    (fun s => updEvent 1 3 ((takeImage 3 s).modAct (fun a => { a with airSince := some s.frm.now }))) s)

/-- AIR_IMAGE_HANDBACK (R544): at a tick, the new image having handled no reception in its first 100 frames. -/
def execAirImageHandback (s : State) : Outcome :=
  done s (fun s => guardS (s.turnOf == some 3 && s.frm.beat == 0 &&
      s.boot.act.any (fun a => a.airSince.any (fun f => f + 100 ≤ s.frm.now && !s.air.rxFrame.any (f ≤ ·)))) (abandonActivation 3) s)

/-- FLINT_IMAGE_TAKEOVER (R545): at beat 2; an image that fails its self-test hands back within the beat. -/
def execFlintImageTakeover (ok : Bool) (s : State) : Outcome :=
  done s (fun s => guardS (s.turnOf == some 0 && s.frm.beat == 2 && s.keysReady)
    (fun s => if ok then classDone (updEvent 1 0 (handKeys (s.frm.now + 1) (takeImage 0 s))) else abandonActivation 0 s) s)

/-- Step 6 of R518 at a tick: no handover of Flint or main is left, and the last of them has completed its first frame. -/
def keysDone (s : State) : State :=
  match s.flt.migr, s.boot.act with
  | some g, some a =>
    if g.target == s.flt.mK && !a.todo.contains 0 && (!a.todo.contains 1 || a.handed) && a.handAt.any (fun f => f < s.frm.now) then finishMigration s else s
  | some g, none => if g.target == s.flt.mK then finishMigration s else s
  | none, _ => s

/-- The restart of a restart-mode activation, once its migration has ended (R540, R565): the slots change, and the start selects the new set. -/
def restartNow (i : StartIn) (a : Activation) (s : State) : State :=
  let s := a.classes.foldl (fun s c => s.modSlots c ImgSlots.promote) s
  let s := (farewell (deferFlash s)).mainOff.serviceOff
  let s := (s.setBoot (fun b => { b with act := none, owed := some (a.cmd, a.level) })).startService i 5
  (updEvent 2 0xFF s).setFlag aSvcUpd 17

/-- What an update does at a frame tick; `i` is what a restart finds on the carrier. -/
def updateTick (i : StartIn) (s : State) : State :=
  let s := payOwed (keysDone s)
  match s.boot.act with
  | none => s
  | some a =>
    if a.restart then (if s.keysReady then restartNow i a s else s)
    else match a.todo.head? with
      | none => finishActivation s
      | some 2 =>
        if a.swapped = 16 && !a.back && a.lastSwap.any (fun f => f + 2 ≤ s.frm.now) then classDone (updEvent 1 2 (takeImage 2 s)) else s
      | some 3 => if a.airSince.any (fun f => f + 102 ≤ s.frm.now) then classDone s else s
      | _ => s

/-! ### The journal (R547) -/

/-- JOURNAL_COMMIT: a commit record begins, unless no program operation may start (R72, R562), and is complete when every device in use holds it; one
in progress may complete when no new one may start. -/
def execJournalCommit (complete : Bool) (s : State) : Outcome :=
  done s (fun s =>
    if complete then guardS (s.pw.service && s.boot.jopen && s.flashOk) completeCommit s
    else guardS (s.pw.service && s.boot.maint && !s.boot.jopen && s.flashOk && !s.pw.noFlash) (fun s => s.setBoot (fun b => { b with jopen := true })) s)

/-- FLASH_DEVICE_FAIL of device 0 or 1 (R547). -/
def execFlashDeviceFail (dev : Nat) (s : State) : Outcome :=
  done s (fun s => guardS (s.pw.service && ((dev == 0 && s.boot.dev0) || (dev == 1 && s.boot.dev1)))
    (fun s => ((s.setBoot (fun b => { b with
      dev0 := b.dev0 && dev != 0, dev1 := b.dev1 && dev != 1, failed := insNat dev b.failed })).setFlag aSvcFlash 2).owner 0x0F12 [tCode dev]) s)

/-- Version, security version and digest of a slot (R548, log 34). -/
def slotDiag (i : Option Image) : Bytes :=
  match i with
  | some i => beBytes 4 i.version ++ beBytes 1 i.svn ++ i.digest
  | none => List.replicate 53 0

/-- Whether a pair of slots is covered. -/
def pairOk (p : Nat × Nat) (i j : Option Image) : Bool := match i, j with | some i, some j => covered p.1 p.2 i j | _, _ => false

/-- One combination of slots: the six pairs, one bit each. -/
def comboDiag (s : State) (k : Nat) : Byte :=
  let img (c : Nat) : Option Image := match k / 3 ^ c % 3 with | 0 => (s.slots c).act | 1 => (s.slots c).prev | _ => (s.slots c).stg
  byte (imgPairs.zipIdx.foldl (fun n e => n + (if pairOk e.1 (img e.1.1) (img e.1.2) then 2 ^ e.2 else 0)) 0)

/-- DATA of DIAG_READ (R548, log 34). -/
def diagData (s : State) (code : Nat) : Bytes :=
  match code with
  | 0 => s.boot.stepLog.flatMap (fun e => beBytes 1 e.1 ++ beBytes 8 e.2.1 ++ beBytes 8 e.2.2)
  | 1 => beBytes 4 s.svcLevel ++ beBytes 4 s.svcBlocks
  | 2 => s.boot.causes.flatMap (fun e => beBytes 1 e.1 ++ beBytes 8 e.2)
  | 3 => (List.range 4).flatMap (fun c => slotDiag (s.slots c).act ++ slotDiag (s.slots c).prev ++ slotDiag (s.slots c).stg)
  | _ => (List.range 81).map (comboDiag s)

/-- DIAG_READ. -/
def opDiagRead : OpInfo :=
  { op := 0xF003, need := .owner, maint := fun _ => true, unclaimed := fun _ => true, svc := .role 0, specs := [(cCode 4).must],
    commit := fun c s => (s, c.ok [tData ((diagData s (c.nat 0x000D)).take 1152)]) }

/-- One JOURNAL_DATA event: CMD_REF, the offset, and up to 1,152 bytes of records, whose content is a free value (R548, R554, log 34). -/
def exportPart (c : Cmd) (total : Nat) (s : State) (i : Nat) : State :=
  let (v, s) := s.fresh
  s.raise (evKey c.key) 0x0F14 [tCmdRef c.seq c.cmdid, tValue (1152 * i : Nat), tData (beBytes (min 1152 (total - 1152 * i)) v)]

/-- JOURNAL_EXPORT: the records as events in order, then the RESULT. -/
def opJournalExport : OpInfo :=
  { op := 0xF004, need := .owner, maint := fun _ => true, svc := .role 0,
    commit := fun c s =>
      let (total, s) := s.fresh
      let s := (List.range (cdiv total 1152)).foldl (exportPart c total) s
      (s.result (evKey c.key) c.seq c.cmdid stOk, c.pend) }

/-- IMAGE_STAGE. -/
def execImageStage (src : Src) (tlvs : List Tlv) (s : State) : Outcome := execOp opImageStage src tlvs s
/-- IMAGE_ACTIVATE. -/
def execImageActivate (src : Src) (tlvs : List Tlv) (s : State) : Outcome := execOp opImageActivate src tlvs s
/-- DIAG_READ. -/
def execDiagRead (src : Src) (tlvs : List Tlv) (s : State) : Outcome := execOp opDiagRead src tlvs s
/-- JOURNAL_EXPORT. -/
def execJournalExport (src : Src) (tlvs : List Tlv) (s : State) : Outcome := execOp opJournalExport src tlvs s

end Sys2Proof.Machine
end

