-- ==== Sys2Proof/Machine/Power.lean ====
section
/-!
DEFINITION. Machine/Power.lean: feeds, CARRIER_RST_N, the seal loop, GPIO and UX1 (R48 to R73, R549 to R553).
-/
namespace Sys2Proof.Machine

/-! ### Feeds (R69, R70, R72, R73) -/

/-- Change UX1. -/
def State.setUx1 (s : State) (f : Ux1 → Ux1) : State := { s with pw := { s.pw with ux1 := f s.pw.ux1 } }

/-- The supply the module requests as a sink: 5 V at 10 mA with a usable feed (R550); otherwise the highest fixed supply of at most 20 V that
gives at least 15 W at no more than 3 A (R62). -/
def ux1Choose (feed : Bool) (offers : List Pdo) : Option Pdo :=
  if feed then some ⟨5000, 10⟩
  else (offers.filter (fun p => p.mv ≤ 20000 && p.mv * min p.ma 3000 ≥ 15000000)).foldl
    (fun b p => match b with
      | some q => if p.mv > q.mv then some ⟨p.mv, min p.ma 3000⟩ else some q
      | none => some ⟨p.mv, min p.ma 3000⟩) none

/-- As a sink of a Power Delivery partner, the module requests the supply that the feeds now call for (R62, R550). -/
def ux1Renew (s : State) : State :=
  if !s.pw.ux1.attached || s.pw.ux1.source || s.pw.ux1.offers.isEmpty then s
  else match ux1Choose s.anyFeed s.pw.ux1.offers with
    | some p => (s.setUx1 (fun u => { u with contract := true, mv := p.mv, ma := p.ma })).send .ux1Request 0 [p.mv, p.ma]
    | none => s.setUx1 (fun u => { u with contract := false, mv := 0, ma := 0 })

/-- A request of the module's own: as source it sets SinkTxNG before it and SinkTxOk after it (R552). -/
def ux1Ask (swap : Nat) (s : State) : State :=
  if s.pw.ux1.source then ((s.send .ux1Rp 0 [1500]).send .ux1Swap 0 [swap]).send .ux1Rp 0 [3000] else s.send .ux1Swap 0 [swap]

/-- As source the module offers 5 V at 1.5 A while a feed is within the operating range, and only then; in a PR_Swap it turns VBUS on when the swap
ends (R62, R550, R553). -/
def ux1Supply (s : State) : State :=
  let u := s.pw.ux1
  if !u.attached || !u.source || u.swapping then s
  else if s.opFeed && u.mv = 0 then ((s.setUx1 (fun u => { u with mv := 5000, ma := 1500 })).send .ux1Source 0 [1]).send .ux1Caps 0 [5000, 1500]
  else if !s.opFeed && u.mv ≠ 0 then (s.setUx1 (fun u => { u with mv := 0, ma := 0 })).send .ux1Source 0 [0]
  else s

/-- The voltage of a used feed is measured: INPUT_LOW and INPUT_HIGH are raised once on entering their bands, so a feed that has left a band may raise
its event again, and UX1 follows the operating range (R62, R69). -/
def moveFeed (f : FeedId) (mv : Nat) (s : State) : State :=
  let old := s.feed f
  let s := s.setFeed f (fun d => { d with mv := mv })
  let s := if (s.feed f).low && !old.low then s.owner 0x0F05 [tPort (feedPort f)] else s
  let s := if (s.feed f).high && !old.high then s.owner 0x0F06 [tPort (feedPort f)] else s
  ux1Supply s

/-- The measurement of a feed's voltage as a frame begins; the loss of a feed and an overvoltage have commands of their own. -/
def senseFeed (f : FeedId) (mv : Nat) (s : State) : State :=
  if (s.feed f).usable && 40000 ≤ mv && mv ≤ 59000 then moveFeed f mv s else s

/-- A feed becomes usable: the first one starts the service domain, and one that comes while the service domain runs from UX1 takes it over and
starts the main domain at step 4 of R73; flash program operations may start again (R72). -/
def feedUsable (f : FeedId) (mv : Nat) (i : StartIn) (s : State) : State :=
  let s := s.setFeed f (fun _ => { usable := true, since := s.frm.now })
  let s := { s with pw := { s.pw with noFlash := false } }
  let s := if s.pw.held || s.thm.off then s
    else if !s.pw.service then s.startService i 0
    else
      let s := if s.pw.fromUx1 then ux1Renew s else s
      { s with pw := { s.pw with fromUx1 := false } }.startMain
  moveFeed f mv s

/-- FEED_USABLE (R69, R73): a feed that is not used has risen to 42.5 V. -/
def execFeedUsable (feed : FeedMv) (start : StartIn) (s : State) : Outcome :=
  done s (fun s => guardS (!(s.feed feed.id).usable && !(s.feed feed.id).ovp && 42500 ≤ feed.mv && feed.mv ≤ 59000)
    (feedUsable feed.id feed.mv start) s)

/-- The partner on UX1 can carry the service domain: at least 15 W as a sink (R62). -/
def ux1Carries (u : Ux1) : Bool := u.attached && !u.source && ((ux1Choose false u.offers).isSome || u.typeC3A)

/-- UX1 stops sourcing and counts as detached (R553). -/
def ux1StopSource (s : State) : State :=
  if s.pw.ux1.attached && s.pw.ux1.source then
    { ((s.closePath .ux1).owner 0x0F13 [tCode 0, tCode 1, tCode (b2n s.pw.ux1.dfp), tValue 0]).send .ux1Source 0 [0] with
      pw := { s.pw with ux1 := {} } }.setFlag aSvcUx1Flags 0
  else s

/-- No usable feed remains (R72): no new flash program operation starts, and the main rails go before the service rails; the service domain
goes on only where UX1 carries it, on the highest supply its partner offers (R62). -/
def allFeedsLost (s : State) : State :=
  let s := { s with pw := { s.pw with noFlash := true, inputW := 0 } }
  let s := ux1StopSource s
  let s := s.mainOff
  let s := { s with thm := { s.thm with off := false, restarts := [], barred := false, lastTemp := 0, lastSensor := 0, lastHard := false } }
  if ux1Carries s.pw.ux1 && s.pw.service then
    let s := if s.turnOf.isSome then abandonActivation (s.turnOf.getD 0xFF) s else s
    ux1Renew { s with pw := { s.pw with fromUx1 := true } }
  else s.serviceOff

/-- FEED_LOST (R70): one usable feed is lost while the other remains. -/
def execFeedLost (feed : FeedId) (s : State) : Outcome :=
  done s (fun s => guardS ((s.feed feed).usable && (s.feed (otherFeed feed)).usable)
    (fun s => ux1Supply (((s.setFeed feed (fun _ => {})).setFlag aSysPwrStat 9).owner 0x0F08 [tPort (feedPort feed)])) s)

/-- ALL_FEEDS_LOST (R72). -/
def execAllFeedsLost (s : State) : Outcome :=
  done s (fun s => guardS s.anyFeed
    (fun s => allFeedsLost (((s.setFeed .a (fun _ => {})).setFeed .b (fun _ => {})).setFlag aSysPwrStat 9)) s)

/-- INPUT_LOW (R69), with the voltage found: raised once on entering the band. -/
def execInputLow (feed : FeedMv) (s : State) : Outcome :=
  done s (fun s => guardS ((s.feed feed.id).usable && 40000 ≤ feed.mv && feed.mv < 44000) (moveFeed feed.id feed.mv) s)

/-- INPUT_HIGH (R69), with the voltage found: raised once on entering the band. -/
def execInputHigh (feed : FeedMv) (s : State) : Outcome :=
  done s (fun s => guardS ((s.feed feed.id).usable && 57000 < feed.mv && feed.mv ≤ 59000) (moveFeed feed.id feed.mv) s)

/-- OVP_TRIP (R69): the feed is disconnected; when no other is usable, R72 follows. The spec does not say whether a disconnection while the other feed
stays usable is also a loss under R70; the model raises OVP_TRIP alone (DESIGN CHOICE, log 81). -/
def execOvpTrip (feed : FeedId) (s : State) : Outcome :=
  done s (fun s => guardS ((s.feed feed).usable)
    (fun s =>
      let s := ((s.setFeed feed (fun _ => { ovp := true })).setFlag aSysPwrStat 8).owner 0x0F07 [tPort (feedPort feed)]
      if s.anyFeed then ux1Supply s else allFeedsLost s) s)

/-- OVP_RECONNECT (R69), with the voltage of the feed: below 57.5 V it is used again. -/
def execOvpReconnect (feed : FeedMv) (start : StartIn) (s : State) : Outcome :=
  done s (fun s => guardS ((s.feed feed.id).ovp && 40000 ≤ feed.mv && feed.mv < 57500) (feedUsable feed.id feed.mv start) s)

/-! ### Contacts (R48, R50, R67, R79) -/

/-- CARRIER_RST (R50, R565): a flash program operation in progress is completed, and both domains are reset after the farewell; the Geode is not
reached. -/
def execCarrierRst (s : State) : Outcome :=
  done s (fun s => guardS (s.pw.service || s.pw.main || s.thm.off)
    (fun s =>
      let s := (farewell (deferFlash s)).mainOff.serviceOff
      { s with pw := { s.pw with held := true }, thm := { s.thm with off := false, restarts := [], barred := false } }) s)

/-- CARRIER_RST_RELEASE (R50): both contacts are high, and the module starts under R73. -/
def execCarrierRstRelease (start : StartIn) (s : State) : Outcome :=
  done s (fun s => guardS s.pw.held
    (fun s =>
      let s := { s with pw := { s.pw with held := false } }
      if s.anyFeed || ux1Carries s.pw.ux1 then
        { s with pw := { s.pw with fromUx1 := !s.anyFeed } }.startService start 1
      else s) s)

/-- Code of a loop class (R79). -/
def loopCode : LoopClass → Nat
  | .closed => 0
  | .open_ => 1
  | .short => 2
  | .fault => 3

/-- The class of a loop resistance in ohm: the bounds of CLOSED belong to CLOSED, every other bound to FAULT (R67, log 81). -/
def loopClass (ohm : Nat) : LoopClass :=
  if ohm < 1000 then .short else if 3700 ≤ ohm && ohm ≤ 5700 then .closed else if 20000 < ohm then .open_ else .fault

/-- One sample of KX1, taken every beat (R67, R68, R79): LOOP_OHM follows it, and a class that 80 samples in a row agree on becomes the reported one. -/
def sampleLoop (s : State) (ohm : Nat) : State :=
  if !s.pw.service then s
  else
    let cls := loopClass ohm
    let n := if s.pw.loopRun.1 = cls then min 80 (s.pw.loopRun.2 + 1) else 1
    let s := { s with pw := { s.pw with loopOhm := min (ohm / 10) 0xFFFF, loopRun := (cls, n) } }
    if n < 80 || cls = s.pw.loop then s
    else
      let s := { s with pw := { s.pw with loop := cls } }
      let s := if cls = .closed then s else s.setFlag aSvcKx1Stat 4
      s.owner 0x0F04 [tCode (loopCode cls)]

/-- `n` samples of KX1 in a row. -/
def sampleLoops : Nat → Nat → State → State
  | 0, _, s => s
  | n + 1, ohm, s => sampleLoops n ohm (sampleLoop s ohm)

/-- TAMPER_LOOP (R67): `n` samples of KX1 in a row find a resistance of `ohm`. -/
def execTamperLoop (n ohm : Nat) (s : State) : Outcome := done s (sampleLoops n ohm)

/-- Drive the GPIO contacts as DIR and OUT say. -/
def driveGpio (s : State) : State := s.send .pinGpio 0 [s.reg aSvcGpioDir, s.reg aSvcGpioOut]

/-- GPIO_DIR_WRITE (R79): the directions change within a beat. -/
def execGpioDirWrite (dir : Nat) (s : State) : Outcome :=
  done s (fun s => guardS s.pw.service (fun s => driveGpio (s.setReg aSvcGpioDir (dir % 2 ^ 16))) s)

/-! ### UX1 (R62, R549 to R553) -/

/-- Raise UX1_STATE (R554). -/
def ux1Event (s : State) : State :=
  s.owner 0x0F13 [tCode (b2n s.pw.ux1.attached), tCode (b2n s.pw.ux1.source), tCode (b2n s.pw.ux1.dfp), tValue s.pw.ux1.mv]

/-- UX1_ATTACH (R549): without a usable feed the module is a sink and a UFP; with one it is source and DFP or sink and UFP as the attach falls. -/
def execUx1Attach (source : Bool) (s : State) : Outcome :=
  done s (fun s => guardS (!s.pw.ux1.attached)
    (fun s =>
      let src := source && s.anyFeed
      ux1Event (ux1Supply (s.setUx1 (fun _ => { attached := true, source := src, dfp := src, dfpAt := s.frm.now })))) s)

/-- The service domain browns out on UX1 (R553). -/
def brownOut (s : State) : State :=
  let s := s.serviceOff
  { s with pw := { s.pw with fromUx1 := false }, boot := { s.boot with brownout := true } }

/-- UX1_SOURCE_CAPS (R62, R550): the module requests the supply R62 chooses, and the service domain starts on it when no feed carries it; with
less than 15 W only the Power Delivery controller stays powered. -/
def execUx1SourceCaps (offers : List Pdo) (unconstrained typeC3A : Bool) (start : StartIn) (s : State) : Outcome :=
  done s (fun s => guardS (s.pw.ux1.attached && !s.pw.ux1.source)
    (fun s =>
      let s := s.setUx1 (fun u => { u with offers := offers, unconstrained := unconstrained, typeC3A := typeC3A, swapping := false })
      let s := match ux1Choose s.anyFeed offers with
        | some p => (s.setUx1 (fun u => { u with contract := true, mv := p.mv, ma := p.ma })).send .ux1Request 0 [p.mv, p.ma]
        | none => s.setUx1 (fun u => { u with contract := false, mv := if typeC3A then 5000 else 0, ma := if typeC3A then 3000 else 0 })
      if s.anyFeed || s.pw.held || s.thm.off then s
      else if ux1Carries s.pw.ux1 then
        (if s.pw.service then s else { s with pw := { s.pw with fromUx1 := true } }.startService start 0)
      else if s.pw.service && s.pw.fromUx1 then brownOut s else s) s)

/-- The start of a PR_Swap: the module changes its power role, and a source stops sourcing; VBUS comes on when the swap ends (R551, R553). -/
def prSwap (s : State) : State :=
  let s := if s.pw.ux1.source && s.pw.ux1.mv ≠ 0 then s.send .ux1Source 0 [0] else s
  s.setUx1 (fun u => { u with source := !u.source, swapping := true, contract := false, mv := 0, ma := 0 })

/-- UX1_PR_SWAP_REQUEST (R551): accepted while a feed is usable, otherwise answered Reject. -/
def execUx1PrSwapRequest (s : State) : Outcome :=
  done s (fun s => guardS s.pw.ux1.attached
    (fun s => if s.anyFeed then prSwap (s.send .ux1Accept 0 [0]) else (s.setFlag aSvcUx1Flags 2).send .ux1Reject) s)

/-- UX1_DR_SWAP_REQUEST (R551): accepted, or answered Wait during a PR_Swap. -/
def execUx1DrSwapRequest (s : State) : Outcome :=
  done s (fun s => guardS s.pw.ux1.attached
    (fun s => if s.pw.ux1.swapping then s.send .ux1Wait
      else (s.setUx1 (fun u => { u with dfp := !u.dfp, dfpAt := s.frm.now })).send .ux1Accept 0 [1]) s)

/-- A feed has been usable for 1 s (100 frames). -/
def State.feedFor1s (s : State) : Bool :=
  (s.pw.feedA.usable && s.pw.feedA.since + 100 ≤ s.frm.now) || (s.pw.feedB.usable && s.pw.feedB.since + 100 ≤ s.frm.now)

/-- UX1_PR_SWAP_INITIATE (R551): as a sink of a partner without the unconstrained power bit, with a feed usable for 1 s. -/
def execUx1PrSwapInitiate (s : State) : Outcome :=
  done s (fun s => guardS (s.pw.ux1.attached && !s.pw.ux1.source && s.feedFor1s && !s.pw.ux1.unconstrained)
    (fun s => prSwap (ux1Ask 0 s)) s)

/-- The end of a PR_Swap, at the latest with the frame (R551): a module that has become source turns VBUS on (R62). -/
def ux1SwapEnd (s : State) : State := ux1Supply (s.setUx1 (fun u => { u with swapping := false }))

/-- UX1_DR_SWAP_INITIATE (R551): as DFP for 2 s at least without a CDC-NCM function of the partner. -/
def execUx1DrSwapInitiate (s : State) : Outcome :=
  done s (fun s => guardS (s.pw.ux1.attached && s.pw.ux1.dfp && !s.pw.ux1.swapping && s.pw.ux1.dfpAt + 200 ≤ s.frm.now)
    (fun s => ux1Ask 1 (s.setUx1 (fun u => { u with dfp := false }))) s)

/-- UX1_COLLISION (R552): as source the module completes its own request; as sink it abandons it and retries after a random delay of 50 to
100 ms, a free value. -/
def execUx1Collision (s : State) : Outcome :=
  done s (fun s => guardS s.pw.ux1.attached
    (fun s =>
      let s := s.setFlag aSvcUx1Flags 1
      if s.pw.ux1.source then s
      else let (v, s) := s.fresh; s.send .ux1Retry 0 [50000 + v % 50001]) s)

/-- UX1_DETACH (R553): a CC detach, or VBUS out of range as a sink outside a transition; the sessions of UX1 close, and a service domain that
ran from UX1 browns out. -/
def execUx1Detach (vbus : Bool) (s : State) : Outcome :=
  done s (fun s => guardS (s.pw.ux1.attached && !(vbus && (s.pw.ux1.source || s.pw.ux1.swapping)))
    (fun s =>
      let was := s.pw.ux1
      let s := if was.source then s.send .ux1Source 0 [0] else s
      let s := ((s.closePath .ux1).setUx1 (fun _ => {})).setFlag aSvcUx1Flags 0
      let s := s.owner 0x0F13 [tCode 0, tCode (b2n was.source), tCode (b2n was.dfp), tValue was.mv]
      if s.pw.fromUx1 && s.pw.service && !s.anyFeed then brownOut s else s) s)

/-- UX1_PS_RDY_TIMEOUT (R553): while the module becomes sink in a PR_Swap, it sends Hard Reset, keeps running and returns to the roles of R549. -/
def execUx1PsRdyTimeout (s : State) : Outcome :=
  done s (fun s => guardS (s.pw.ux1.attached && s.pw.ux1.swapping && !s.pw.ux1.source)
    (fun s => ux1Supply ((s.send .ux1HardReset).setUx1
      (fun u => { u with swapping := false, contract := false, source := s.anyFeed, dfp := s.anyFeed, dfpAt := s.frm.now, mv := 0, ma := 0 }))) s)

end Sys2Proof.Machine
end

