-- ==== Sys2Proof/Machine/Tenancy.lean ====
section
/-!
DEFINITION. Machine/Tenancy.lean: creation and removal of vCtls, rights, quotas, credentials and register windows (R159 to R173, R185, R499, R537,
R580 to R582), and the local numbering at SESSION_OPEN (R165).
-/
namespace Sys2Proof.Machine

/-- Change the tenancy. -/
def State.tn (s : State) (f : Tenancy → Tenancy) : State := { s with ten := f s.ten }

/-- VCTL_STATE to the owner (R186). -/
def vctlState (v code : Nat) (s : State) : State := s.owner 0x0014 [tValue v, tCode code]

/-- The numbers of a list, each once, in the order of their first place. -/
def nubNat (l : List Nat) : List Nat := l.foldl (fun a n => if a.contains n then a else a ++ [n]) []

/-- TARGET (R580). -/
def tTarget : TSpec := tFix 0x0120 2 0 4095

/-- The vCtl of TARGET. -/
def Cmd.target (c : Cmd) : Nat := c.nat 0x0120

/-- TARGET names an ACTIVE vCtl (R162, R580). -/
def targetActive (c : Cmd) (s : State) : Except Err Unit := need (s.active c.target) (eConfig 0x0120)

/-! ### Quotas (R171 to R173) -/

/-- The quota TLVs (R171). -/
def quotaSpecs : List TSpec :=
  [tFix 0x0110 4 0 (2 ^ 32 - 1), tFix 0x0111 2 0 4000, tFix 0x0112 1 1 64, tFix 0x0113 2 0 64, tFix 0x0114 1 0 64, tFix 0x0115 2 0 1024,
   tFix 0x0116 2 0 256, tFix 0x0117 1 0 8, tFix 0x0118 1 0 8, tFix 0x0119 2 0 256, tFix 0x011A 4 0 100000, tFix 0x011B 2 0 1000,
   tFix 0x011C 4 0 262144, tFix 0x011D 1 0 1]

/-- The quotas that a command sets over those in force: BURST rises with R' where it is absent (R171). -/
def Cmd.quotas (c : Cmd) (q : Quotas) : Quotas :=
  let r := (c.tlv? 0x0110).map (fun b => (u b 0 2, u b 2 1))
  let refill := (r.map (·.1)).getD q.refill
  { refill := refill, logP := (r.map (·.2)).getD q.logP,
    burst := c.nat 0x0111 (max q.burst refill),
    tags := c.nat 0x0112 q.tags, workspace := c.nat 0x0113 q.workspace, keySlots := c.nat 0x0114 q.keySlots, groups := c.nat 0x0115 q.groups,
    schedules := c.nat 0x0116 q.schedules, timers := c.nat 0x0117 q.timers, dmaCh := c.nat 0x0118 q.dmaCh, vlans := c.nat 0x0119 q.vlans,
    rate := c.nat 0x011A q.rate, dwell := c.nat 0x011B q.dwell, airEp := c.nat 0x011C q.airEp, borrow := c.nat 0x011D q.borrow }

/-- The quotas in force of the TARGET; the tenant defaults where it does not exist. -/
def State.quotasOf (s : State) (v : Nat) : Quotas := ((s.vctl? v).map (·.q)).getD tenantQuotas

/-- Ranges of REFILL and of BURST against R' (R171). -/
def quotaRange (c : Cmd) (s : State) : Except Err Unit := do
  let q := c.quotas (s.quotasOf c.target)
  need (q.refill ≤ 2000 && q.logP ≤ 4) (eRange 0x0110)
  need (!c.has 0x0111 || q.refill ≤ q.burst) (eRange 0x0111)

/-- The quota TLVs of QUOTA_CHANGED (R186). -/
def Quotas.tlvs (q : Quotas) : List OTlv :=
  [(0x0110, beBytes 2 q.refill ++ beBytes 1 q.logP ++ [0]), (0x0111, beBytes 2 q.burst), (0x0112, beBytes 1 q.tags), (0x0113, beBytes 2 q.workspace),
   (0x0114, beBytes 1 q.keySlots), (0x0115, beBytes 2 q.groups), (0x0116, beBytes 2 q.schedules), (0x0117, beBytes 1 q.timers),
   (0x0118, beBytes 1 q.dmaCh), (0x0119, beBytes 2 q.vlans), (0x011A, beBytes 4 q.rate), (0x011B, beBytes 2 q.dwell), (0x011C, beBytes 4 q.airEp),
   (0x011D, beBytes 1 q.borrow)]

/-- load(k), without vCtl `x` where one is given (R173). -/
def State.tokLoad (s : State) (k : Nat) (x : Option Nat) : Nat :=
  s.ten.vctls.foldl (fun n e => if some e.1 != x && k % 2 ^ e.2.q.logP == e.2.phase then n + e.2.q.refill else n) 0

/-- The largest load over the residues that phase `ph` of period 2^`logP` takes, after a grant of `refill` to vCtl `v` (R173). -/
def State.phaseLoad (s : State) (v refill logP ph : Nat) : Nat :=
  maxOf 0 (((List.range 16).filter (fun k => k % 2 ^ logP == ph)).map (fun k => s.tokLoad k (some v) + refill))

/-- The phase of a grant, and the largest load it gives: the smallest, and of equal ones the lowest phase (R173). -/
def State.choosePhase (s : State) (v refill logP : Nat) : Nat × Nat :=
  (List.range (2 ^ logP)).foldl (fun b ph => if s.phaseLoad v refill logP ph < b.2 then (ph, s.phaseLoad v refill logP ph) else b)
    (0, s.phaseLoad v refill logP 0)

/-- Sum of a quota over every existing vCtl but `v`. -/
def State.quotaSum (s : State) (v : Nat) (f : Quotas → Nat) : Nat :=
  s.ten.vctls.foldl (fun n e => if e.1 = v then n else n + f e.2.q) 0

/-- The vCtl holds some right on an endpoint of the string (R171). -/
def VCtl.onString (c : VCtl) (g : Nat) : Bool := c.rights.any (fun e => hRealm e.1 == 0 && hString e.1 == g && e.2 != 0)

/-- Sum of the tag quotas of the vCtls that hold a right on an endpoint of a string; the owner always does (R168, R171). -/
def State.stringTags (s : State) (g : Nat) : Nat :=
  s.ten.vctls.foldl (fun n e => if e.1 = 0 || e.2.onString g then n + e.2.q.tags else n) 0

/-- Strings on whose endpoints some tenant holds a right. -/
def State.tenantStrings (s : State) : List Nat :=
  sortNat (s.ten.vctls.flatMap (fun e => (e.2.rights.filter (fun r => hRealm r.1 == 0)).map (fun r => hString r.1)))

/-- The module-wide limits with quotas `q` for vCtl `v` (R171, R172). -/
def quotaLimits (v : Nat) (q : Quotas) (refillSet : Bool) (s : State) : Except Err Unit := do
  let no (p : Bool) (id : Nat) : Except Err Unit := need p ⟨stQuotaExceeded, [tDetail id 0]⟩
  no (!refillSet || (s.choosePhase v q.refill q.logP).2 ≤ 2000) 0x0110
  let s' := s.modVctl v (fun c => { c with q := q, rateNow := max c.rateNow q.rate })
  no (s'.tenantStrings.all (fun g => s'.stringTags g ≤ 240)) 0x0112
  no (s.quotaSum v (·.workspace) + q.workspace ≤ 24576) 0x0113
  no (s.quotaSum v (·.keySlots) + q.keySlots ≤ 960) 0x0114
  no (s.quotaSum v (·.timers) + q.timers ≤ 8) 0x0117
  no (s.quotaSum v (·.dmaCh) + q.dmaCh ≤ 24) 0x0118
  no (s.quotaSum v (·.vlans) + q.vlans ≤ 16384) 0x0119
  no ((s'.attached v).all (fun p => s'.committed p * 10 ≤ 9 * s'.portRate p)) 0x011A
  no (q.rate ≤ (s.quotasOf v).rate || s'.tenRes ≤ tenantPool) 0x011A
  no (s.quotaSum v (·.dwell) + q.dwell ≤ 900) 0x011B
  no (s.quotaSum v (·.airEp) + q.airEp ≤ 262144) 0x011C

/-- Pool timer channels of a vCtl, in order. -/
def State.poolOf (s : State) (v : Nat) : List Nat := (s.lds.pool.filter (fun e => e.1 == v)).map (·.2)

/-- MiB of the workspace up to its last written granule (log 28). -/
def State.wsUse (s : State) (v : Nat) : Nat :=
  (s.pages v).length - ((s.pages v).reverse.takeWhile (fun p => !s.thm.written.any (fun g => g / 256 == p))).length

/-- A quota below the vCtl's current use (R172, log 28). -/
def quotaUse (c : Cmd) (v : Nat) (q : Quotas) (s : State) : Except Err Unit := do
  let no (use n id : Nat) : Except Err Unit := need (!c.has id || use ≤ n) (eConfig id)
  let last (l : List Nat) (p : Nat → Bool) : Nat := l.length - (l.reverse.takeWhile (fun n => !p n)).length
  no (s.wsUse v) q.workspace 0x0113
  no (s.slotsUsed v) q.keySlots 0x0114
  no (s.groupCount v) q.groups 0x0115
  no (s.schedCount v) q.schedules 0x0116
  no (last (s.poolOf v) (fun n => bit (s.reg (aLdsTmrCtl n)) 0)) q.timers 0x0117
  no (last (s.dmaChans v) (fun n => !(s.dch n).q.isEmpty)) q.dmaCh 0x0118
  no (s.domsOf v).length q.vlans 0x0119
  no (s.air.eps.filter (fun e => e.2.owner == v)).length q.airEp 0x011C

/-- Give a vCtl `n` pool timer channels, from channel 6 upward (R171). -/
def setTimers (v n : Nat) (s : State) : State :=
  let old := s.poolOf v
  let free := ((List.range 8).map (· + 6)).filter (fun k => !s.lds.pool.any (fun e => e.2 == k))
  let keep := old.take n ++ free.take (n - old.length)
  { s with lds := { s.lds with pool := s.lds.pool.filter (fun e => e.1 != v) ++ keep.map (fun k => (v, k)) } }

/-- Give a vCtl `n` DMA channels, the lowest free ones of 0 to 23; a channel that changes hands starts anew (R171, R436). -/
def setDmaChans (v n : Nat) (s : State) : State :=
  let old := s.dmaChans v
  let free := (List.range 24).filter (fun k => (s.dch k).holder.isNone)
  let s := (old.drop n).foldl (fun s k => s.qr (fun q => { q with dma := terase q.dma k })) s
  (free.take (n - old.length)).foldl (fun s k => s.qr (fun q => { q with dma := tset q.dma k { holder := some v } })) s

/-- Put quotas into force: reserved in full at this commit (R172); a new refill chooses its phase (R173), and a lower rate or share waits for the next
frame (R172, R577). -/
def giveQuotas (v : Nat) (q : Quotas) (refillSet : Bool) (s : State) : State :=
  let ph := (s.choosePhase v q.refill q.logP).1
  let s := s.modVctl v (fun c => { c with
    q := q, phase := if refillSet then ph else c.phase, rateNow := max c.rateNow q.rate, dwellNow := max c.dwellNow q.dwell })
  setDmaChans v q.dmaCh (setTimers v q.timers (setWorkspace v q.workspace s))

/-- QUOTA_CHANGED to the vCtl (R186). -/
def quotaChanged (v : Nat) (s : State) : State :=
  match s.vctl? v with
  | some c => s.raise v 0x0013 (c.q.tlvs ++ [tCode c.phase])
  | none => s

/-- QUOTA_SET (R171, R172, R580). -/
def quotaSetCheck (c : Cmd) (s : State) : Except Err Unit := do
  targetActive c s
  let q := c.quotas (s.quotasOf c.target)
  quotaUse c c.target q s
  quotaLimits c.target q (c.has 0x0110) s

/-- QUOTA_SET. -/
def opQuotaSet : OpInfo :=
  { op := 0x8004, need := .owner, specs := tTarget.must :: quotaSpecs, ranges := quotaRange, accept := quotaSetCheck,
    commit := fun c s => match quotaSetCheck c s with
      | .error e => (s, c.err e)
      | .ok _ => (quotaChanged c.target (giveQuotas c.target (c.quotas (s.quotasOf c.target)) (c.has 0x0110) s), c.ok) }

/-! ### Creation and removal (R161 to R163) -/

/-- Conditions of VCTL_CREATE: the number is ABSENT and not 0 or 1 (R162), and the module-wide limits hold (R172). -/
def createCheck (c : Cmd) (s : State) : Except Err Unit := do
  need (c.target ≥ 2 && (s.vctl? c.target).isNone) (eConfig 0x0120)
  quotaLimits c.target (c.quotas tenantQuotas) true (s.tn (fun t => { t with vctls := tset t.vctls c.target {} }))

/-- Create a tenant: its incarnation count rises, it has no rights, an empty view, no tokens, and its ESEQ starts from 1 (R161, R162, R173). -/
def createVctl (v : Nat) (q : Quotas) (s : State) : State :=
  let s := s.tn (fun t => { t with vctls := tset t.vctls v {}, incarn := tset t.incarn v ((tgetD t.incarn v 0 + 1) % 2 ^ 32) })
  let s := { s with ses := { s.ses with evq := terase s.ses.evq v } }
  vctlState v 1 (giveQuotas v q true s)

/-- VCTL_CREATE. -/
def opVctlCreate : OpInfo :=
  { op := 0x8001, need := .owner, cost := fun _ => 4, specs := tTarget.must :: quotaSpecs, ranges := quotaRange, accept := createCheck,
    commit := fun c s => match createCheck c s with
      | .error e => (s, c.err e)
      | .ok _ => (createVctl c.target (c.quotas tenantQuotas) s, c.ok) }

/-- Step 1 of R163: the association closes, its events and its uncommitted commands go. -/
def removeSession (v : Nat) (s : State) : State :=
  let s := if (tget s.ses.assoc v).isSome then s.send .dtlsCloseNotify v else s
  let keep (c : Cmd) : Bool := c.key != .vctl v
  { s with
    ses := { s.ses with assoc := terase s.ses.assoc v, evq := terase s.ses.evq v, hs := tkeep s.ses.hs (fun _ h => h.name != .vctl v) },
    frm := { s.frm with accepted := s.frm.accepted.filter keep, urgQ := s.frm.urgQ.filter (fun x => keep x.cmd),
                        pkts := s.frm.pkts.filter (fun p => p.key != .vctl v),
                        dups := s.frm.dups.filter (fun d => d.1 != .vctl v) } }

/-- Step 2 of R163: leases and sources at every rank, and what the vCtl keeps of groups, schedules and step tables. -/
def removeLight (v : Nat) (s : State) : State :=
  let s := (s.lmp.aon.filter (fun e => e.1 / 1024 == v)).foldl (fun s e => unflag v (e.1 % 1024) 2 s) s
  let s := (s.ten.leases.filter (fun e => e.2.holder == v)).foldl (fun s e => endLease e.1 none s) s
  let s := (s.slt.srcs.map (·.1)).foldl (fun s h => endSrcs h (fun x => x.vctl == v) s) s
  s.sl (fun t => { t with overlay := tkeep t.overlay (fun _ e => e.vctl != v), tables := tkeep t.tables (fun k _ => k / 16 != v), starts := tkeep t.starts (fun _ x => x.vctl != v),
                          groups := tkeep t.groups (fun k _ => k / 1024 != v), scheds := tkeep t.scheds (fun k _ => k / 256 != v) })

/-- A DMA channel stops at its next descriptor boundary: the descriptor that runs stays, the rest is discarded (R163). -/
def stopDma (c : DmaCh) : DmaCh :=
  { c with q := (c.q.take 1).filter (fun o => match o.kind with | .desc _ => true | _ => false) }

/-- The actions of VCTL_REMOVE, in the order of R163. -/
def removeVctl (v : Nat) (s : State) : State :=
  let s := removeLight v (removeSession v s)
  let s := bridgeRemove v (semRemove v s)
  let s := (s.dmaChans v).foldl (fun s n => s.modDch n stopDma) s
  let s := detachAll v (flintRemove v s)
  let s := (s.poolOf v).foldl (fun s n => s.setField (aLdsTmrCtl n) 0 1 0) s
  let s := s.ar (fun a => { a with eps := tmap a.eps (fun _ e => if e.owner = v then { e with owner := 0 } else e),
                                   q := a.q.filter (fun e => e.payer != some v), capture := terase a.capture v, dwellEv := terase a.dwellEv v })
  let s := (s.pages v).foldl (fun s p => s.unwriteMib p) s
  let s := s.lm (fun l => { l with streams := l.streams.filter (fun t => t.vctl != v) })
  let s := s.geo' (fun g => { g with mir := { g.mir with wave := g.mir.wave.filter (fun e => e.1 != v) } })
  let s := s.qr (fun q => { q with cfg := terase q.cfg v, tup := terase q.tup v, blocks := q.blocks.filter (fun b => b.vctl != v) })
  let s := { s with lds := { s.lds with stamps := s.lds.stamps.filter (fun e => e.1 != v), marks := s.lds.marks.filter (fun e => e.1 != v) } }
  vctlState v 2 (s.modVctl v (fun c => { c with st := .removing s.frm.now, windows := [], clientKey := none, cert := none }))

/-- Conditions of VCTL_REMOVE (R162). -/
def removeCheck (c : Cmd) (s : State) : Except Err Unit := need (c.target ≥ 2 && s.active c.target) (eConfig 0x0120)

/-- VCTL_REMOVE. -/
def opVctlRemove : OpInfo :=
  { op := 0x8002, need := .owner, cost := fun _ => 4, specs := [tTarget.must], accept := removeCheck,
    commit := fun c s => match removeCheck c s with
      | .error e => (s, c.err e)
      | .ok _ => (removeVctl c.target s, c.ok) }

/-- A tag or a DMA channel of the vCtl remains (R163). -/
def State.removalBusy (s : State) (v : Nat) : Bool := s.tagsOf v || (s.dmaChans v).any (fun n => !(s.dch n).q.isEmpty)

/-- REMOVING ends: the reserved pools are released and the vCtl is ABSENT (R162, R163). -/
def endRemoval (v : Nat) (s : State) : State :=
  let s := setDmaChans v 0 (setTimers v 0 (setWorkspace v 0 (bridgeForce v s)))
  let s := s.tn (fun t => { t with vctls := terase t.vctls v })
  vctlState v 0 { s with ses := { s.ses with evq := terase s.ses.evq v } }

/-- REMOVING may end: at a later beat 0 at which nothing remains, and at the latest 20 frames after its commit (R163, R577). -/
def State.removalDue (s : State) (v : Nat) : Bool :=
  match s.vctl? v with
  | some c => match c.st with
    | .removing since => (since < s.frm.now && !s.removalBusy v) || since + 20 ≤ s.frm.now
    | .active => false
  | none => false

/-- VCTL_REMOVAL_END. -/
def execVctlRemovalEnd (v : Nat) (s : State) : Outcome := done s (fun s => guardS (s.removalDue v) (endRemoval v) s)

/-! ### Rights (R167 to R170) -/

/-- The rights after the mode: 0 adds, 1 removes, 2 sets exactly (R169). -/
def byMode (mode old mask : Nat) : Nat := if mode = 0 then old ||| mask else if mode = 1 then old - (old &&& mask) else mask

/-- Endpoint rights after the mode and the implications: a revocation of VIEW revokes every right (R167, R169). -/
def epAfter (mode mask old : Nat) : Nat := if mode = 1 && bit mask 0 then 0 else impliedEp (byMode mode old mask)

/-- Module-wide rights after the mode and the implications: a revocation of METER_READ revokes METER_RAW (R167, R169). -/
def modAfter (mode mask old : Nat) : Nat :=
  if mode = 1 then (let r := byMode 1 old mask; if bit mask 1 then clrBit r 2 else r) else impliedMod (byMode mode old mask)

/-- HANDLES, each once. -/
def Cmd.handles (c : Cmd) : List Nat := nubNat (c.list 0x0121 4)

/-- What RIGHTS_SET changes (R164, R166, R169, R170). -/
def applyRights (c : Cmd) (s : State) : State :=
  let v := c.target
  let mode := c.nat 0x0124
  let hs := c.handles
  let mk (old : Nat) : Nat := if c.has 0x0122 then epAfter mode (c.nat 0x0122 % 32) old else old
  let changed := (hs.filter (fun h => s.epRights v h != mk (s.epRights v h))).length
  let oldMod := ((s.vctl? v).map (·.modRights)).getD 0
  let mod := if c.has 0x0123 then modAfter mode (c.nat 0x0123 % 128) oldMod else oldMod
  let s := s.modVctl v (fun x => { x with
    modRights := mod, circuits := c.nat 0x0125 x.circuits,
    labels := if c.has 0x0126 then ((c.list 0x0121 4).zip (c.list 0x0126 8)).foldl (fun t e => tput 0 t e.1 e.2) x.labels else x.labels })
  let s := if bit oldMod 4 && !bit mod 4 then detachAll v s else s
  let s := s.raise v 0x0010 [tFrame s.frm.now, tBitmap [byte (mod % 256), byte (mod / 256)], tCount changed]
  setEpRights v hs mk s

/-- TLVs that RIGHTS_SET needs of one another (R168, R169). -/
def rightsForm (c : Cmd) : Except Err Unit := do
  orMissing (c.has 0x0122 || c.has 0x0123) 0x0122
  orMissing (!c.has 0x0122 || c.has 0x0121) 0x0121
  orMissing (c.nat 0x0124 = 1 || c.has 0x0125 || !(bit (c.nat 0x0123) 1 || bit (c.nat 0x0123) 2)) 0x0125

/-- Handles and labels of RIGHTS_SET (R168). -/
def rightsRange (c : Cmd) : Except Err Unit := do
  match (c.list 0x0121 4).zipIdx.find? (fun e => hRealm e.1 ≥ 2) with
  | some e => .error (eRange 0x0121 e.2)
  | none => .ok ()
  need (!c.has 0x0126 || (c.list 0x0126 8).length = (c.list 0x0121 4).length) (eRange 0x0126)

/-- State conditions of RIGHTS_SET (R168, R169). -/
def rightsCheck (c : Cmd) (s : State) : Except Err Unit := do
  targetActive c s
  let s' := applyRights c s
  need ((sortNat ((c.handles.filter (fun h => hRealm h == 0)).map hString)).all (fun g => s'.stringTags g ≤ 240 || s'.stringTags g ≤ s.stringTags g))
    (eStat stQuotaExceeded)

/-- RIGHTS_SET. -/
def opRightsSet : OpInfo :=
  { op := 0x8003, need := .owner, cost := fun c => 1 + (c.list 0x0121 4).length / 64,
    specs := [(tFix 0x0120 2 2 4095).must, tLst 0x0121 4 1 1024, tFix 0x0122 1 0 255, tFix 0x0123 2 0 0xFFFF, (tFix 0x0124 1 0 2).must,
              tFix 0x0125 8 0 (2 ^ 64 - 1), tLst 0x0126 8 0 1024],
    form := rightsForm, ranges := fun c _ => rightsRange c,
    accept := fun c s => do
      checkReach s c.handles 0x0121
      rightsCheck c s,
    commit := fun c s => match rightsCheck c s with
      | .error e => (s, c.err e)
      | .ok _ => (applyRights c s, c.ok) }

/-! ### Credentials (R499, R537, R580, R581) -/

/-- One TLV of CRED_SET at its commit. -/
def credTlv (v : Nat) (s : State) (t : Nat × Bytes) : State :=
  if t.1 = 0x0268 then
    let old := (s.vctl? v).bind (·.clientKey)
    let s := s.modVctl v (fun x => { x with clientKey := some t.2 })
    if old = some t.2 then s else s.modAssoc (.vctl v) (fun a => { a with closing := true })
  else if t.1 = 0x0259 then s.modVctl v (fun x => { x with cert := some t.2 })
  else if t.1 = 0x0261 then { s with boot := { s.boot with imageKey := some t.2 } }
  else if t.1 = 0x0260 then
    let i := u t.2 0 1
    let roles := u t.2 1 1 % 8
    if roles = 0 then
      ({ s with boot := { s.boot with creds := terase s.boot.creds i },
                ses := { s.ses with evq := terase s.ses.evq (0x10000 + i) } }).modAssoc (.svc i) (fun a => { a with closing := true })
    else { s with boot := { s.boot with creds := tset s.boot.creds i ⟨roles, t.2.drop 4⟩ } }
  else s

/-- The TLVs of R537 come on the service link and UX1 alone. -/
def credPath (c : Cmd) (p : Path) : Except Err Unit := need (!(c.has 0x0260 || c.has 0x0261) || isServicePath p) (eStat stServiceLinkOnly)

/-- TLVs that CRED_SET needs (R580, R581). -/
def credForm (c : Cmd) : Except Err Unit := do
  need (c.has 0x0268 || c.has 0x0259 || c.has 0x0260 || c.has 0x0261) ⟨stTlvMissing, []⟩
  orMissing (!(c.has 0x0268 || c.has 0x0259) || c.has 0x0120) 0x0120

/-- Ranges of CRED_SET: the length of a key, and the key of a certificate (R499, R581). -/
def credRange (c : Cmd) (s : State) : Except Err Unit := do
  need ((c.all 0x0268).all (fun b => b.length = 65 || b.length = 97)) (eRange 0x0268)
  need ((c.all 0x0259).all (fun b => Config.certMatches b c.target (tgetD s.ten.incarn c.target 0))) (eRange 0x0259)
  match (c.all 0x0260).zipIdx.find? (fun e => u e.1 0 1 ≥ 8) with
  | some e => .error (eRange 0x0260 e.2)
  | none => .ok ()

/-- The TARGET, where one is named, is ACTIVE (R162, R580). -/
def credCheck (c : Cmd) (s : State) : Except Err Unit := if c.has 0x0120 then targetActive c s else .ok ()

/-- CRED_SET. -/
def opCredSet : OpInfo :=
  { op := 0x8005, need := .owner,
    specs := [tTarget, tByt 0x0268 0 1152, tByt 0x0259 0 1152, { id := 0x0260, shape := .fixed 52, rep := true }, { id := 0x0261, shape := .fixed 97 }],
    maint := fun c => c.nat? 0x0120 == some 0 || c.has 0x0260 || c.has 0x0261, unclaimed := fun c => c.nat? 0x0120 == some 0,
    form := credForm, path := credPath, ranges := credRange, accept := credCheck,
    commit := fun c s => match credCheck c s with
      | .error e => (s, c.err e)
      | .ok _ => (c.tlvs.foldl (credTlv c.target) s, c.ok) }

/-! ### Register windows (R185, R582) -/

/-- Conditions of REGWIN_GRANT. -/
def regwinCheck (c : Cmd) (s : State) : Except Err Unit := do
  need (c.target ≥ 2 && s.active c.target) (eConfig 0x0120)
  let a := c.nat 0x0011
  let n := c.nat 0x000F
  let ws := ((s.vctl? c.target).map (·.windows)).getD []
  need (n != 0 || ws.any (fun w => w.1 == a)) (eConfig 0x0011)
  need (n == 0 || !(decide (a < 0xDC) && decide (0xC0 < a + n))) (eConfig 0x0011)
  need (n == 0 || ws.length < 4) (eStat stQuotaExceeded)

/-- Ranges of REGWIN_GRANT: COUNT is a multiple of 4 from 4 to 65,536, or 0, and the window ends by 2^32 (R582). -/
def regwinRange (c : Cmd) : Except Err Unit := do
  need (c.nat 0x000F % 4 = 0) (eRange 0x000F)
  need (c.nat 0x0011 + c.nat 0x000F ≤ 2 ^ 32) (eRange 0x0011)

/-- Add a window, or remove the one that begins at an address where the length is 0 (R582). Where two begin there, both go: the spec speaks of one only
(DESIGN CHOICE, log 28). -/
def putWindow (a n : Nat) (ws : List (Nat × Nat)) : List (Nat × Nat) := if n = 0 then ws.filter (fun w => w.1 != a) else ws ++ [(a, n)]

/-- REGWIN_GRANT. -/
def opRegwinGrant : OpInfo :=
  { op := 0x8009, need := .owner, specs := [tTarget.must, cAddress.must, (cCount 0 65536).must],
    ranges := fun c _ => regwinRange c, accept := regwinCheck,
    commit := fun c s => match regwinCheck c s with
      | .error e => (s, c.err e)
      | .ok _ =>
        (s.modVctl c.target (fun x => { x with windows := putWindow (c.nat 0x0011) (c.nat 0x000F) x.windows }), c.ok) }

/-! ### Local numbers at SESSION_OPEN (R165) -/

/-- A void that SESSION_OPEN removes: its EP_MAP_CHANGED was never queued, or is acknowledged (R165). -/
def State.voidGone (s : State) (v : Nat) (e : LocalEp) : Bool :=
  match e with
  | .live _ => false
  | .void none => true
  | .void (some k) => !(tgetD s.ses.evq v {}).recs.any (fun r => r.rec_.eseq == k)

/-- Compact a tenant's numbering: the state, the new count, and the numbers removed (R165). -/
def compactView (v : Nat) (s : State) : State × Nat × List Nat :=
  match s.vctl? v with
  | none => (s, 0, [])
  | some c =>
    let gone := (c.view.zipIdx.filter (fun e => s.voidGone v e.1)).map (·.2)
    let view := c.view.filter (fun e => !s.voidGone v e)
    (s.modVctl v (fun c => { c with view := view }), view.length, gone)

/-- VCTL_CREATE. -/
def execVctlCreate (src : Src) (tlvs : List Tlv) (s : State) : Outcome := execOp opVctlCreate src tlvs s
/-- VCTL_REMOVE. -/
def execVctlRemove (src : Src) (tlvs : List Tlv) (s : State) : Outcome := execOp opVctlRemove src tlvs s
/-- RIGHTS_SET. -/
def execRightsSet (src : Src) (tlvs : List Tlv) (s : State) : Outcome := execOp opRightsSet src tlvs s
/-- QUOTA_SET. -/
def execQuotaSet (src : Src) (tlvs : List Tlv) (s : State) : Outcome := execOp opQuotaSet src tlvs s
/-- CRED_SET. -/
def execCredSet (src : Src) (tlvs : List Tlv) (s : State) : Outcome := execOp opCredSet src tlvs s
/-- REGWIN_GRANT. -/
def execRegwinGrant (src : Src) (tlvs : List Tlv) (s : State) : Outcome := execOp opRegwinGrant src tlvs s

end Sys2Proof.Machine
end

