-- ==== Sys2Proof/Machine/Session.lean ====
section
/-!
DEFINITION. Machine/Session.lean: handshakes and the association life cycle (R129 to R134), SESSION_OPEN, SESSION_CLOSE, KEEPALIVE, DEVICE_INFO,
EVT_SUBSCRIBE and EVT_ACK (R147 to R149, R153, R156 to R158, R165, R185, R500).
-/
namespace Sys2Proof.Machine

/-! ### What a ClientHello offers (R130, R131) -/

/-- An upper-case letter becomes lower-case. -/
def lowerCase (b : Byte) : Byte := if 65 ≤ b.toNat && b.toNat ≤ 90 then byte (b.toNat + 32) else b

/-- A number in decimal without leading zeros. -/
def decimal? (b : Bytes) : Option Nat :=
  if b.isEmpty || !b.all (fun x => 48 ≤ x.toNat && x.toNat ≤ 57) || (b.length > 1 && b.head? == some (byte 48)) then none
  else some (b.foldl (fun n x => 10 * n + (x.toNat - 48)) 0)

/-- The whole name has the form of R131 or R537: "v" or "s", a number, ".zsc", without regard to letter case. -/
def helloName (name : Option Bytes) : HelloName :=
  let b := (name.getD []).map lowerCase
  let n := b.length - 4
  if b.drop n != [byte 46, byte 122, byte 115, byte 99] then .missing
  else match b.head?, decimal? ((b.take n).drop 1) with
    | some c, some k => if c.toNat = 118 then .vctl k else if c.toNat = 115 then .service k else .missing
    | _, _ => .missing

/-- The first of the module's values that a list offers. -/
def firstOf (mine offer : List Nat) : Option Nat := mine.find? (fun x => offer.contains x)

/-- The cipher suite and the group that a ClientHello gets: DTLS 1.3, one of the two suites, one of the two groups, and a client that takes the module's
signature scheme (R130); the module prefers the order of the table (DESIGN CHOICE, log 84). Offers of 0-RTT, PSK or post-handshake authentication change
nothing. -/
def selectHello (h : Hello) : Option (Nat × Nat) :=
  match firstOf [0xFEFC] h.versions, firstOf [0x1302, 0x1301] h.suites, firstOf [23, 24] h.groups, firstOf [0x0503] h.sigs with
  | some _, some c, some g, some _ => some (c, g)
  | _, _, _, _ => none

/-- The code of the alert for a ClientHello with nothing in common: protocol_version, else handshake_failure (PRESUMED from RFC 8446, log 84). -/
def helloAlert (h : Hello) : Nat := if h.versions.contains 0xFEFC then 40 else 70

/-! ### Handshakes (R131 to R134) -/

/-- The name as the module treats it on a path: a service credential exists on the service link and UX1 alone (R131, R537). -/
def nameOn (p : Path) (n : HelloName) : HelloName :=
  match n with
  | .vctl v => if v ≤ 4095 then .vctl v else .missing
  | .service i => if i < 8 && isServicePath p then .service i else .missing
  | .missing => .missing

/-- Code of a name: a vCtl number, 0x10000 plus a credential index, 0xFFFF for a missing name (R131). -/
def nameCode : HelloName → Nat
  | .vctl v => v
  | .service i => 0x10000 + i
  | .missing => 0xFFFF

/-- A handshake of the name started within the last 40 frames; a missing name names no vCtl and has no such limit (R133). -/
def State.tooSoon (s : State) (n : HelloName) : Bool :=
  n != .missing && (tget s.ses.lastHs (nameCode n)).any (fun f => s.frm.now < f + 40)

/-- Change a handshake. -/
def State.modHs (s : State) (id : Nat) (f : Handshake → Handshake) : State := { s with ses := { s.ses with hs := tmod s.ses.hs id f } }

/-- The connection identifiers of a handshake: the module issues one of 8 random bytes to a client that offers its own (R130). -/
def issueCid (h : Hello) (s : State) : Option (Bytes × Bytes) × State :=
  match h.cid with
  | some c => let (x, s) := s.fresh; (some (c, beBytes 8 x), s)
  | none => (none, s)

/-- A ClientHello with a valid cookie: the handshake starts, or is discarded under R133, or gets an alert (R130, log 84). -/
def startHs (id : Nat) (hello : Hello) (path : Path) (s : State) : State :=
  let n := nameOn path (helloName hello.name)
  if s.tooSoon n then s
  else match selectHello hello with
    | none => s.send .dtlsAlert (nameCode n) [helloAlert hello]
    | some (suite, group) =>
      let (cid, s) := issueCid hello s
      let h : Handshake := { name := n, path := path, sel := ⟨suite, group, cid⟩, hello := s.frm.now, flightSent := false, lastFlight := s.frm.now,
                             finished := none }
      { s with ses := { s.ses with
          hs := tset s.ses.hs id h,
          lastHs := if n = .missing then s.ses.lastHs else tset s.ses.lastHs (nameCode n) s.frm.now } }

/-- CLIENT_HELLO: `id` is the number the sender of the rows gives the handshake. Without a cookie no state is held (R134). -/
def clientHello (id : Nat) (hello : Hello) (path : Path) (cookie : Bool) (s : State) : State :=
  if !s.pathUp path then s
  else if !cookie then s.send .dtlsHelloRetry (nameCode (nameOn path (helloName hello.name)))
  else startHs id hello path s

/-- CLIENT_HELLO. -/
def execClientHello (id : Nat) (hello : Hello) (path : Path) (cookie : Bool) (s : State) : Outcome := done s (clientHello id hello path cookie)

/-- The vCtl whose certificate a name gets on a path, its incarnation count, and whether the owner's certificate stands in for the self-signed one:
the name of a vCtl that does not exist there gets the self-signed one (R131, R499); a service session gets vCtl 0's. -/
def State.flightCert (s : State) (p : Path) : HelloName → Nat × Nat × Bool
  | .missing => (0xFFFF, 0, false)
  | .service _ => (0, tgetD s.ten.incarn 0 0, ((s.vctl? 0).bind (·.cert)).isSome)
  | .vctl v =>
    let served := match p with | .uplink _ => s.active v | _ => v == 0
    (v, tgetD s.ten.incarn v 0, served && ((s.vctl? v).bind (·.cert)).isSome)

/-- The server flight of a handshake. -/
def serverFlight (id : Nat) (h : Handshake) (s : State) : State :=
  let c := s.flightCert h.path h.name
  sendVia h.path (nameCode h.name) (.msg .dtlsServerFlight c.1 [c.2.1, b2n (!c.2.2), h.sel.suite, h.sel.group] ((h.sel.cid.map (·.2)).getD [])) (s.modHs id (fun h => { h with flightSent := true }))

/-- The server flight is due: beat 0 of frame f + 40 (R132). -/
def State.flightDue (s : State) (h : Handshake) : Bool := s.frm.beat == 0 && !h.flightSent && h.hello + 40 ≤ s.frm.now

/-- SERVER_FLIGHT. -/
def execServerFlight (id : Nat) (s : State) : Outcome :=
  done s (fun s => match tget s.ses.hs id with
    | some h => guardS (s.flightDue h) (serverFlight id h) s
    | none => s)

/-- The client's key is accepted for a name on a path (R131, R536, R537). -/
def State.accepts (s : State) (p : Path) (n : HelloName) (key : Bytes) : Bool :=
  match n with
  | .missing => false
  | .service i => isServicePath p && match tget s.boot.creds i with
    | some c => c.digest == beBytes 48 (Config.sha384 key)
    | none => false
  | .vctl v =>
    let served := match p with | .uplink _ => s.active v | _ => v == 0
    served && match (s.vctl? v).bind (·.clientKey) with
      | some k => k == key
      | none => v == 0 && isServicePath p

/-- CLIENT_FINISHED: the Finished is verified, and the name and the client key are judged (R131, R134). -/
def execClientFinished (id : Nat) (key : Bytes) (s : State) : Outcome :=
  done s (fun s => match tget s.ses.hs id with
    | some h => guardS (h.flightSent && h.finished.isNone)
        (fun s => s.modHs id (fun h => { h with finished := some (s.accepts h.path h.name key), lastFlight := s.frm.now })) s
    | none => s)

/-- A new association of a key: the old one closes with close_notify, and every unacknowledged record is to be sent again (R133, R134). -/
def openAssoc (n : Nat) (p : Path) (sel : Selected) (s : State) : State :=
  let s := closeSession n s
  let resend (q : EvQueue) : EvQueue := { q with recs := q.recs.map (fun r => { r with sent := none }) }
  let s := { s with ses := { s.ses with assoc := tset s.ses.assoc n { path := p, sel := sel, lastRx := s.frm.now }, evq := tmod s.ses.evq n resend } }
  sendVia p n (.msg .dtlsFinishedAck n [] []) s

/-- What a verified Finished becomes at the next beat 0 (R132, R134). -/
def concludeHs (s : State) (e : Nat × Handshake) : State :=
  match e.2.finished with
  | none => s
  | some ok =>
    let s := { s with ses := { s.ses with hs := terase s.ses.hs e.1 } }
    if ok then openAssoc (nameCode e.2.name) e.2.path e.2.sel s
    else sendVia e.2.path (nameCode e.2.name) (.msg .dtlsBadCertificate (nameCode e.2.name) [] []) s

/-- The handshakes that conclude at a beat 0. -/
def concludeAll (s : State) : State := s.ses.hs.foldl concludeHs s

/-- DTLS_ALERT: an alert during a handshake discards it (R134). -/
def execDtlsAlert (id : Nat) (s : State) : Outcome := done s (fun s => { s with ses := { s.ses with hs := terase s.ses.hs id } })

/-- DTLS_RETRANSMIT: a flight that the client has not answered is sent again, at beat 0 only (R132). -/
def execDtlsRetransmit (id : Nat) (s : State) : Outcome :=
  done s (fun s => match tget s.ses.hs id with
    | some h => guardS (s.frm.beat == 0 && h.flightSent && h.finished.isNone)
        (fun s => sendVia h.path (nameCode h.name) (.msg .dtlsRetransmit (nameCode h.name) [] []) s) s
    | none => s)

/-- No client flight for 6,000 frames (R134). -/
def State.hsLate (s : State) (h : Handshake) : Bool := h.finished.isNone && h.lastFlight + 6000 ≤ s.frm.now

/-- HANDSHAKE_TIMEOUT. -/
def execHandshakeTimeout (id : Nat) (s : State) : Outcome :=
  done s (fun s => match tget s.ses.hs id with
    | some h => guardS (s.hsLate h) (fun s => { s with ses := { s.ses with hs := terase s.ses.hs id } }) s
    | none => s)

/-- An OPEN association with no authenticated record for 30,000 frames (R134). -/
def State.assocIdle (s : State) (a : Assoc) : Bool := a.phase == .opened && a.lastRx + 30000 ≤ s.frm.now

/-- ASSOC_IDLE_TIMEOUT: discarded without alert (R134). -/
def execAssocIdleTimeout (key : AssocKey) (s : State) : Outcome :=
  done s (fun s => match s.assoc? key with
    | some a => guardS (s.assocIdle a) (dropAssoc (evKey key)) s
    | none => s)

/-- DTLS_KEY_UPDATE: after 2^23 records under one traffic key the module sends KeyUpdate; `acked`: the client acknowledges one, and the records of
the new key count from 0 (R134). -/
def execDtlsKeyUpdate (key : AssocKey) (acked : Bool) (s : State) : Outcome :=
  done s (fun s => match s.assoc? key with
    | some a =>
      if acked then guardS a.keyUpdate (fun s => s.modAssoc key (fun a => { a with keyUpdate := false, sent := 0 })) s
      else guardS (a.phase == .opened && a.sent ≥ 2 ^ 23 && !a.keyUpdate) (sendKeyUpdate (evKey key)) s
    | none => s)

/-- DTLS_RECORD_LIMIT: 2^24 records under one traffic key without an acknowledged KeyUpdate (R134). -/
def execDtlsRecordLimit (key : AssocKey) (s : State) : Outcome :=
  done s (fun s => match s.assoc? key with
    | some a => guardS (a.phase == .opened && a.sent ≥ 2 ^ 24) (closeSession (evKey key)) s
    | none => s)

/-! ### Versions and capabilities (R156 to R158) -/

/-- The capabilities of the module: bits 0 to 5 (R157). -/
def moduleCaps : Nat := 0x3F

/-- The majors that a SESSION_OPEN offers: VERSIONS, or the packet header's major without it (R156). -/
def offered (vmaj : Nat) (tlvs : List Tlv) : List Nat :=
  match tlvs.find? (fun t => t.id == 0x0005) with
  | some t => t.val.map (·.toNat)
  | none => [vmaj]

/-- The major that a SESSION_OPEN gets on an association; none where it is refused (R156). -/
def chooseMajor (a : Assoc) (offer : List Nat) : Option Nat :=
  if a.major ≠ 0 then (if offer.contains a.major then some a.major else none)
  else if offer.contains 3 then some 3
  else if offer.contains 2 then some 2
  else none

/-- An accepted SESSION_OPEN: version, capabilities, and a tenant's numbering (R134, R156, R165). Without CAPS under 3.x it offers no capability (DESIGN
CHOICE, log 84: R156 names no default). -/
def sessionOpened (m : Nat) (c : Cmd) (s : State) : State × Reply :=
  let caps := if m = 3 then c.nat 0x0006 &&& moduleCaps else 0
  let s := s.modAssoc c.key (fun a => { a with phase := .opened, major := m, caps := caps })
  let vers : List OTlv := (0x0005, [byte m]) :: (if m = 3 then [(0x0006, beBytes 8 caps)] else [])
  match c.key with
  | .svc _ => (s, c.ok vers)
  | .vctl v =>
    if v < 2 then (s, c.ok vers)
    else
      let (s, n, gone) := compactView v s
      (s, c.ok (vers ++ [tCount n, (0x0100, gone.flatMap (beBytes 4))]))

/-- The TLVs of a refused SESSION_OPEN: VERSIONS with the module's majors, where no major was negotiated before (R156). -/
def openErr (a : Assoc) : Err := ⟨stVersionUnsupported, if a.major = 0 then [(0x0005, [3, 2])] else []⟩

/-- SESSION_OPEN in a packet of header major `vmaj` on an association. Under 2.x CAPS is not defined for it (R158). -/
def opSessionOpen (vmaj : Nat) (a : Assoc) (tlvs : List Tlv) : OpInfo :=
  let m := chooseMajor a (offered vmaj tlvs)
  { op := 0x0001, need := .any, cost := fun _ => 0,
    specs := tLst 0x0005 1 1 8 :: (if m = some 2 then [] else [tFix 0x0006 8 0 (2 ^ 64 - 1)]),
    maint := fun _ => true, unclaimed := fun _ => true, svc := .any, early := true,
    accept := fun _ _ => need m.isSome (openErr a),
    commit := fun c s => match m with
      | some m => sessionOpened m c s
      | none => (s, c.err (openErr a)) }

/-- SESSION_OPEN alone in a packet of header major `vmaj` (R134). -/
def sessionOpen (vmaj : Nat) (src : Src) (tlvs : List Tlv) (s : State) : State :=
  match s.assoc? src.key with
  | none => s
  | some a => runAs (opSessionOpen vmaj a tlvs) (fun _ => true) (if vmaj = 2 then 2 else 3) src tlvs s

/-- SESSION_OPEN. -/
def execSessionOpen (vmaj : Nat) (src : Src) (tlvs : List Tlv) (s : State) : Outcome := done s (sessionOpen vmaj src tlvs)

/-- SESSION_CLOSE: the association closes after the reply (R134). -/
def opSessionClose : OpInfo :=
  { op := 0x0002, need := .any, cost := fun _ => 0, maint := fun _ => true, unclaimed := fun _ => true, svc := .any, commit := fun c s => (s, c.ok) }

/-- SESSION_CLOSE. -/
def execSessionClose (src : Src) (tlvs : List Tlv) (s : State) : Outcome := execOp opSessionClose src tlvs s

/-- KEEPALIVE: no action. -/
def opKeepalive : OpInfo :=
  { op := 0x0003, need := .any, cost := fun _ => 0, maint := fun _ => true, unclaimed := fun _ => true, svc := .any, commit := fun c s => (s, c.ok) }

/-- KEEPALIVE. -/
def execKeepalive (src : Src) (tlvs : List Tlv) (s : State) : Outcome := execOp opKeepalive src tlvs s

/-! ### DEVICE_INFO (R153, R160, R185, R500; log 36) -/

/-- The virtual identity certificate of a vCtl (R499). -/
def State.certOf (s : State) (v : Nat) : Bytes := ((s.vctl? v).bind (·.cert)).getD (Config.selfCert v (tgetD s.ten.incarn v 0))

/-- The attestation record (R500). -/
def State.attestation (s : State) (nonce : Bytes) : Bytes :=
  let body := beBytes 2 0x4154 ++ [1, 0] ++ nonce ++ beBytes 8 s.frm.now ++ beBytes 48 (Config.measure s.flt.mK) ++ beBytes 48 (Config.measure s.flt.mA)
    ++ (List.range 4).flatMap (fun c => beBytes 4 (((tget s.boot.run c).map (·.version)).getD 0))
    ++ (List.range 4).flatMap (fun b => beBytes 1 (s.fuse b))
  let sig := Config.aliasSign s.flt.mA (beBytes 48 (Config.sha384 body))
  body ++ beBytes 48 sig.1 ++ beBytes 48 sig.2

/-- The TLVs of DEVICE_INFO: the negotiated version, what the owner asked for, the vCtl's certificate, the grants of R185, its quotas. -/
def State.deviceInfo (s : State) (c : Cmd) (caps : Nat) : List OTlv :=
  let v := c.vctl
  let x := (s.vctl? v).getD {}
  let asked : List OTlv := match c.tlv? 0x0257, c.nat? 0x025A with
    | some n, _ => [tData (s.attestation n)]
    | none, some i => [tData (Config.moduleCert i s.flt.mA)]
    | none, none => []
  [(0x0005, [byte c.major])] ++ asked ++ [(0x0259, s.certOf v)]
    ++ (if v ≥ 2 && !x.windows.isEmpty then [tCode 1] else []) ++ (if x.q.borrow = 1 then [tCode 2] else [])
    ++ (if c.major = 3 then [(0x0006, beBytes 8 caps)] else []) ++ x.q.tlvs

/-- DEVICE_INFO. -/
def opDeviceInfo : OpInfo :=
  { op := 0x0004, need := .any, maint := fun _ => true, unclaimed := fun _ => true, svc := .any,
    specs := [{ id := 0x0257, shape := .fixed 32 }, tFix 0x025A 1 0 2],
    rights := fun c _ => need (c.vctl == 0 || !(c.has 0x0257 || c.has 0x025A)) (eStat stOwnerOnly),
    commit := fun c s => (s, c.ok (fitEntry 12 (s.deviceInfo c (((s.assoc? c.key).map (·.caps)).getD 0)))) }

/-- DEVICE_INFO. -/
def execDeviceInfo (src : Src) (tlvs : List Tlv) (s : State) : Outcome := execOp opDeviceInfo src tlvs s

/-! ### EVT_SUBSCRIBE and EVT_ACK (R148, R149) -/

/-- Change an event queue. -/
def State.modQueue (s : State) (k : AssocKey) (f : EvQueue → EvQueue) : State :=
  { s with ses := { s.ses with evq := tupd s.ses.evq (evKey k) {} f } }

/-- EVT_SUBSCRIBE: bit k of BITMAP enables the family 0x0kxx. -/
def opEvtSubscribe : OpInfo :=
  { op := 0x0401, need := .any, cost := fun _ => 0, specs := [(cBitmap 2).must],
    commit := fun c s =>
      let b := (c.tlv? 0x0010).getD []
      (s.modQueue c.key (fun q => { q with mask := (b.getD 0 0).toNat + 256 * (b.getD 1 0).toNat }), c.ok) }

/-- EVT_SUBSCRIBE. -/
def execEvtSubscribe (src : Src) (tlvs : List Tlv) (s : State) : Outcome := execOp opEvtSubscribe src tlvs s

/-- Acknowledge: records sent, up to an ESEQ, are removed; below 3,072 records EVENTS_LOST is queued with the count (R148). -/
def ackQueue (e now : Nat) (q : EvQueue) : EvQueue :=
  let q := { q with recs := q.recs.filter (fun r => !(r.ever && r.rec_.eseq ≤ e)) }
  if q.lost > 0 && q.recs.length < 3072 then queueEv { q with lost := 0 } 0x0002 now [tCount q.lost] else q

/-- EVT_ACK: COUNT names the highest ESEQ. -/
def opEvtAck : OpInfo :=
  { op := 0x0402, need := .any, cost := fun _ => 0, specs := [(cCount 0 (2 ^ 32 - 1)).must],
    commit := fun c s => (s.modQueue c.key (ackQueue (c.nat 0x000F) s.frm.now), c.ok) }

/-- EVT_ACK. -/
def execEvtAck (src : Src) (tlvs : List Tlv) (s : State) : Outcome := execOp opEvtAck src tlvs s

end Sys2Proof.Machine
end

