-- ==== Sys2Proof/Machine/Thermal.lean ====
section
/-!
DEFINITION. Machine/Thermal.lean: sensors, the throttle ladder, shutdown and restart, and errors of HBM (R556 to R568).
-/
namespace Sys2Proof.Machine

/-- Change heat and HBM health. -/
def State.th (s : State) (f : Thermal → Thermal) : State := { s with thm := f s.thm }

/-- A temperature of whole degrees C in 1/16 degree. -/
def deg (n : Int) : Int := 16 * n

/-! ### The ladder (R557 to R560) -/

/-- Highest sample of a list and the sensor that gave it, the lowest number among equals. -/
def hottestOf : List Int → Int × Nat
  | [] => (0, 0)
  | t :: r => (r.zipIdx 1).foldl (fun b e => if e.1 > b.1 then e else b) (t, 0)

/-- A sample of a sensor: THM_T n shows the last and the highest one; that of a stack doubles its refresh from 85 degrees C on and returns it to
normal below 80, and below 90 the warning may be raised again (R556, R561, R570). -/
def sample (t : Thermal) (n : Nat) (v : Int) : Thermal :=
  let k := n - 22
  { t with
    temp := tset t.temp n v, tmax := tset t.tmax n (match tget t.tmax n with | some m => max m v | none => v),
    hot := if n < 22 then t.hot else if v ≥ deg 85 then insNat k t.hot else if v < deg 80 then t.hot.filter (· != k) else t.hot,
    hbmWarned := if n < 22 || v ≥ deg 90 then t.hbmWarned else t.hbmWarned.filter (· != k) }

/-- Take the samples of a frame: `die` the highest of beats 0 to 63, `last` the latest ones (R556, R570). -/
def takeSamples (die last : List Int) (t : Thermal) : Thermal :=
  let put (t : Thermal) (e : Int × Nat) : Thermal := sample t e.2 e.1
  (last.take 24).zipIdx.foldl put ((die.take 22).zipIdx.foldl put t)

/-- The step that the T_f of beat 64 of frame `n` brings at the next beat 0 (R559): the count of cool frames in a row, and the next step count. -/
def ladder (n : Nat) (tf : Int) (t : Thermal) : Nat × Option Nat :=
  let cool := if tf ≤ deg 90 then (if t.judged.any (· + 1 == n) then t.cool else 0) + 1 else 0
  if tf ≥ deg 95 && t.step < 3 && t.changed.all (fun c => c + 100 ≤ n + 1) then (cool, some (t.step + 1))
  else if cool ≥ 100 then (0, if t.step > 0 then some (t.step - 1) else none)
  else (cool, none)

/-- THERMAL_STEP at beat 64: `die` the highest samples of sensors 0 to 21 during beats 0 to 63, `last` the latest samples of sensors 0 to 23. -/
def thermalStep (die last : List Int) (s : State) : State :=
  let (tf, h) := hottestOf (die.take 22)
  let (cool, next) := ladder s.frm.now tf s.thm
  s.th (fun t =>
    let t := takeSamples die last t
    { t with tf := tf, hottest := h, cool := cool, next := next, judged := some s.frm.now, warn := t.warn && tf > deg 105 })

/-- THERMAL_STEP, at beat 64 and once in a frame (R557, R559). -/
def execThermalStep (die last : List Int) (s : State) : Outcome :=
  done s (fun s => guardS (s.pw.main && s.frm.beat == 64 && s.thm.judged != some s.frm.now && !die.isEmpty) (thermalStep die last) s)

/-- Port codes of the fitted string, uplink and spine ports without link whose census does not run (R140, R560). -/
def State.downPorts (s : State) : List Nat :=
  ((List.range 256).filter (fun g => s.portFitted g && (s.grain g).rate == 0 && (s.grain (s.stringOf g)).census.isNone)) ++
  ((List.range 16).filter (fun u => s.uplinkFitted u && !(tgetD s.qry.upl u {}).link)).map (· + 0x100) ++
  (if s.pw.carrier.spineE && !s.spn.east.lock then [0x110] else []) ++ (if s.pw.carrier.spineW && !s.spn.west.lock then [0x111] else [])

/-- While step 2 is engaged the lanes of down ports are idled, those woken by a probe apart (R560). -/
def idlePorts (s : State) : State :=
  if s.thm.step < 2 then s
  else
    let ports := s.downPorts.filter (fun p => !s.thm.woken.contains p)
    let s := ports.foldl (fun s p => if p < 256 then s.modGrain p (fun g => { g with try_ := .off }) else s) s
    s.th (fun t => { t with idled := ports, probes := t.probes.filter (fun e => ports.contains e.1) })

/-- A lane powers up: a string port seeks its rate again (R189, R560). -/
def powerUp (s : State) (p : Nat) : State := if p < 256 then s.modGrain p (fun g => { g with try_ := g.firstTry, trySince := s.absBeat }) else s

/-- Beat 0: a step that is due engages or releases (R558, R559). -/
def thermTick (s : State) : State :=
  match s.thm.next with
  | none => idlePorts s
  | some k =>
    let up := k > s.thm.step
    let s := if s.thm.step ≥ 2 && k < 2 then (s.thm.idled.foldl powerUp s).th (fun t => { t with idled := [], woken := [] }) else s
    let s := s.th (fun t => { t with step := k, next := none, changed := some s.frm.now })
    let s := if up then (s.setFlag aThmFlags 0).count aThmCnt 0 16 else s
    idlePorts (s.owner 0x0F20 [tCode k, tCode s.thm.hottest, tValue s.thm.tf])

/-- An idled port powers its receiver for 50 ms: with a signal it powers up and stays so (R560). -/
def probe (port : Nat) (signal : Bool) (s : State) : State :=
  let s := s.th (fun t => { t with probes := tset t.probes port s.frm.now })
  if signal then (powerUp s port).th (fun t => { t with idled := t.idled.filter (· != port), woken := insNat port t.woken }) else s

/-- IDLE_PORT_PROBE: of an idled port, once per 100 frames (R560). -/
def execIdlePortProbe (port : Nat) (signal : Bool) (s : State) : Outcome :=
  done s (fun s => guardS (s.pw.main && s.thm.idled.contains port && (tget s.thm.probes port).all (fun f => f + 100 ≤ s.frm.now))
    (probe port signal) s)

/-! ### Warnings (R561) -/

/-- The counts and the event of a warning. -/
def warning (code sensor : Nat) (t : Int) (s : State) : State :=
  ((s.setFlag aThmFlags (1 + code)).count aThmCnt 16 16).owner 0x0F21 [tCode code, tCode sensor, tValue t]

/-- THERMAL_WARNING: of T_f, which the frame's beat 64 has taken from the sensor; or of a sample of an HBM sensor (R561). -/
def execThermalWarning (hbm : Bool) (sensor : Nat) (t : Int) (s : State) : Outcome :=
  done s (fun s =>
    if hbm then guardS (s.pw.main && (sensor == 22 || sensor == 23) && t ≥ deg 95 && !s.thm.hbmWarned.contains (sensor - 22))
      (fun s => warning 1 sensor t (s.th (fun x => { sample x sensor t with hbmWarned := insNat (sensor - 22) x.hbmWarned }))) s
    else guardS (s.pw.main && s.thm.judged == some s.frm.now && sensor == s.thm.hottest && t == s.thm.tf && t ≥ deg 110 && !s.thm.warn)
      (fun s => warning 0 sensor t (s.th (fun x => { x with warn := true }))) s)

/-- HBM_HOT: a sample of a stack's sensor (R561). -/
def execHbmHot (stack : Nat) (t : Int) (s : State) : Outcome :=
  done s (fun s => guardS (s.pw.main && stack < 2) (fun s => s.th (fun x => sample x (22 + stack) t)) s)

/-! ### Shutdown and restart (R562 to R565) -/

/-- Automatic restarts of the last hour (R564). -/
def Thermal.recent (t : Thermal) : List Nat := t.restarts.filter (fun f => t.pcFrames < f + 360000)

/-- Both domains lose their rails; the power controller records the cause and holds them off. A stop that follows three automatic restarts within the
hour leaves none (R564; DEDUCED, log 35). -/
def thermalOff (sensor : Nat) (t : Int) (hard : Bool) (s : State) : State :=
  s.mainOff.serviceOff.th (fun x =>
    { x with off := true, lastTemp := t, lastSensor := sensor, lastHard := hard, barred := x.barred || x.recent.length ≥ 3 })

/-- A sensor's limit for shutdown (R562). -/
def shutAt (sensor : Nat) : Int := if sensor < 22 then deg 115 else deg 105

/-- THERMAL_SHUTDOWN (R562), after the farewell and a flash program operation in progress: `temps` are the latest samples of the sensor, the last 8 of
them at its limit or above. -/
def execThermalShutdown (sensor : Nat) (temps : List Int) (s : State) : Outcome :=
  done s (fun s => guardS (s.pw.main && sensor < 24 && temps.length ≥ 8 && (temps.drop (temps.length - 8)).all (fun t => t ≥ shutAt sensor))
    (fun s => thermalOff sensor (temps.getLastD 0) false (farewell (deferFlash s))) s)

/-- THERMAL_TRIP (R563): no farewell. -/
def execThermalTrip (sensor : Nat) (t : Int) (s : State) : Outcome :=
  done s (fun s => guardS ((s.pw.main || s.pw.service) && sensor < 22 && t ≥ deg 125) (thermalOff sensor t true) s)

/-- THERMAL_RESTART (R564): the base sensor has read at most 70 degrees C for 6,000 frames; at most 3 in an hour, and none after the third. -/
def execThermalRestart (start : StartIn) (s : State) : Outcome :=
  done s (fun s =>
    let s' := s.th (fun t => { t with pcFrames := t.pcFrames + 6000 })
    guardS (s.thm.off && s.anyFeed && !s.pw.held && !s.thm.barred && s'.thm.recent.length < 3) (fun _ =>
      let s := s'.th (fun t => { t with off := false, restarts := t.pcFrames :: t.recent })
      let s := { s with pw := { s.pw with fromUx1 := false } }
      (s.startService start 3).owner 0x0F22 [tCode s.thm.lastSensor, tCode (b2n s.thm.lastHard), tValue s.thm.lastTemp]) s)

/-! ### HBM errors (R568) -/

/-- A corrected error: counted, and reported at most once per 100 frames. -/
def eccCorrected (addr : Nat) (s : State) : State :=
  let s := (s.count aSysHbmEcc 0 16).setFlag aSysHbmFlags 0
  if s.thm.lastCe.all (fun f => f + 100 ≤ s.frm.now) then
    (s.owner 0x0F23 [tCode 0, tValue (addr / 32 * 32 : Nat)]).th (fun t => { t with lastCe := some s.frm.now })
  else s

/-- HBM_ECC_ERROR (R568): a read of a written granule meets an error; an uncorrectable one stays until the word is written again. -/
def execHbmEccError (addr : Nat) (correctable : Bool) (s : State) : Outcome :=
  done s (fun s => guardS (s.pw.main && addr < hbmSize && s.isWritten addr)
    (fun s => if correctable then eccCorrected addr s
      else eccUncorrected addr (s.th (fun t => { t with bad := insNat (addr / 32 * 32) t.bad }))) s)

end Sys2Proof.Machine
end

