-- ==== Sys2Proof/Machine/RegFile.lean ====
section
/-!
DEFINITION. Machine/RegFile.lean: what every register reads and what a write to it does, and REG_READ and REG_WRITE (R14 to R16, R154, R573 to
R576, and the register tables of the chapters).
-/
namespace Sys2Proof.Machine

/-- A field of a register that shows live state: lowest bit, width, value. -/
abbrev LiveField := Nat × Nat × Nat

/-- A signed value in two's complement of `w` bits. -/
def twos (w : Nat) (v : Int) : Nat := (v % 2 ^ w).toNat

/-- A signed value held to the range of `w` bits. -/
def satInt (w : Nat) (v : Int) : Int := max (-(2 ^ (w - 1))) (min v (2 ^ (w - 1) - 1))

/-! ### Live fields -/

/-- SYS registers (R79, R128, R187, R571). -/
def sysLive (a : Nat) (s : State) : List LiveField :=
  let sel := s.vctl? s.ten.sel
  if a = aSysPwrStat then
    [(0, 1, b2n s.pw.feedA.usable), (1, 1, b2n s.pw.feedB.usable), (2, 1, b2n (s.inUse Feed.low)), (3, 1, b2n (s.inUse Feed.high)),
      (4, 1, b2n s.pw.fromUx1), (16, 16, s.pw.inputW)]
  else if a = aSysFrmCap then
    [(0, 13, if s.inLight then s.frm.cap else 0), (13, 1, b2n (s.inLight && !s.boot.bankAOut)), (14, 1, b2n (s.inLight && !s.boot.bankBOut)),
     (15, 1, b2n (s.thm.step ≥ 1))]
  else if a = aSysUrgStat then
    [(0, 5, s.frm.urgQ.length - 1), (9, 1, b2n (s.slt.pin != .idle)), (16, 16, s.frm.urgCount)]
  else if a = aSysVctlSel then [(0, 12, s.ten.sel)]
  else if a = aSysVctlStat then match sel with
    | none => []
    | some c => [(0, 2, match c.st with | .active => 1 | .removing _ => 2), (2, 1, b2n ((tget s.ses.assoc s.ten.sel).any (fun x => x.phase == .opened))),
        (4, 3, c.q.logP), (8, 4, c.phase), (16, 12, c.tokens)]
  else if a = aSysVctlSpend then match sel with
    | none => []
    | some c => [(0, 13, c.spent), (16, 13, c.allow)]
  else if a = aSysVctlRefuse then [(0, 32, (sel.map (·.refused)).getD 0)]
  else if a = aSysTokLoad then [(0, 4, s.ten.phaseSel), (16, 11, s.tokLoad s.ten.phaseSel none)]
  else if a = aSysVctlCount then
    [(0, 13, s.ten.vctls.length), (16, 13, (s.ten.vctls.filter (fun e => e.2.st != .active)).length)]
  else if a = aSysVctlInc then [(0, 32, tgetD s.ten.incarn s.ten.sel 0)]
  else if a = aSysHbmStat then [(0, 24, s.thm.written.length)]
  else []

/-- SVC registers (R79, R555). -/
def svcLive (b n : Nat) (s : State) : List LiveField :=
  let img (x : Option Image) : List LiveField := [(0, 32, (x.map (·.version)).getD 0)]
  if b = aSvcCarrier then
    [(0, 1, b2n s.pw.emergA), (1, 1, b2n s.pw.emergB), (4, 2, s.boot.stat), (6, 1, b2n s.pw.carrier.valid)]
  else if b = aSvcGpioIn then [(0, 16, (s.pw.gpioIn &&& (0xFFFF - s.reg aSvcGpioDir % 65536)) ||| (s.reg aSvcGpioOut &&& s.reg aSvcGpioDir))]
  else if b = aSvcKx1Stat then [(0, 2, loopCode s.pw.loop), (16, 16, s.pw.loopOhm)]
  else if b = aSvcLevel then [(0, 32, s.svcLevel)]
  else if b = aSvcBlocks then [(0, 32, s.svcBlocks)]
  else if b = aSvcUpd then [(0, 3, s.updState), (8, 4, (s.boot.act.map (·.swapped)).getD 0)]
  else if b = aSvcStart then
    [(0, 2, s.boot.attempts), (2, 1, b2n s.boot.prev), (8, 4, s.boot.cause), (16, 16, min s.boot.starts 65535)]
  else if b = aSvcFlash then [(0, 1, b2n s.boot.dev0), (1, 1, b2n s.boot.dev1), (16, 16, s.boot.jseq)]
  else if b = aSvcUx1 then
    let x := s.pw.ux1
    [(0, 1, b2n x.attached), (1, 1, b2n x.source), (2, 1, b2n x.dfp), (3, 1, b2n x.contract), (8, 8, x.mv / 100), (16, 8, x.ma / 50)]
  else if b = aSvcImgAct 0 then img (s.slots n).act
  else if b = aSvcImgPrev 0 then img (s.slots n).prev
  else if b = aSvcImgStg 0 then img (s.slots n).stg
  else if b = aSvcImgSt 0 then
    [(0, 2, ((s.slots n).staging.map (·.stage)).getD (if (s.slots n).stg.isSome then 2 else 0)), (8, 7, ((s.slots n).stg.map (·.svn)).getD 0)]
  else []

/-- LDS registers (R108). -/
def ldsLive (a : Nat) (s : State) : List LiveField :=
  let l := s.lds
  if a = aLdsNs then [(0, 32, l.nsReg)]
  else if a = aLdsInc then [(0, 32, l.incNext.getD l.inc)]
  else if a = aLdsLoad then [(0, 32, l.load)]
  else if a = aLdsCtl then [(1, 1, b2n l.fsyncSlave), (2, 1, b2n l.todBaud), (3, 1, b2n l.todZda), (4, 1, b2n l.ref10Out)]
  else if a = aLdsStat then
    [(0, 3, ldsCode l.st), (4, 3, l.refField), (8, 1, b2n (l.qual.contains .fsync)), (9, 1, b2n (l.qual.contains .pps)),
     (10, 1, b2n (l.qual.contains .ptp)), (11, 1, b2n (l.qual.contains .ref10)), (12, 1, b2n s.boot.inService)]
  else if a = aLdsFrameLo then [(0, 32, s.frm.now % 2 ^ 32)]
  else if a = aLdsFrameHi then [(0, 32, l.hiLatch)]
  else if a = aLdsBeat then [(0, 7, s.frm.beat)]
  else if a = aLdsWrap then [(0, 16, l.wrapLatch)]
  else if a = aLdsRefCfg then
    [(0, 1, b2n l.enPps), (1, 1, b2n l.enPtp), (2, 1, b2n l.enRef10), (3, 1, b2n l.enFsync), (8, 16, l.slewPpb)]
  else if a = aLdsPtpThr then [(0, 16, l.sdNs)]
  else if a = aLdsAcq then [(0, 12, l.tmoS)]
  else if a = aLdsOffset then [(0, 32, twos 32 (satInt 32 l.offset))]
  else if a = aLdsHold then [(0, 32, if l.st = .holdover then l.holdFrames / 100 else 0)]
  else if a = aLdsRefIgn then [(0, 32, l.ignored)]
  else if a = aLdsClkIdLo then [(0, 32, Config.moduleEui % 2 ^ 32)]
  else if a = aLdsClkIdHi then [(0, 32, Config.moduleEui / 2 ^ 32 % 2 ^ 32)]
  else []

/-- GRN_CENSUS.STATE (R225). -/
def Grain.censusState (g : Grain) (now : Nat) : Nat :=
  match g.census with
  | some c => if c.higherPass then 2 else 1
  | none => if g.waitUntil.any (fun f => now < f) then 4 else 0

/-- GRN registers (R225, R249); the check registers of R331 are stored. -/
def grnLive (b n : Nat) (s : State) : List LiveField :=
  let g := s.grain n
  let br := s.gbr n
  let poles (p : Pole → Bool) : Nat := (g.record.filter (fun e => p e.2)).length
  if b = aGrnLink 0 then
    [(0, 4, g.rate), (4, 2, g.rateCfg), (6, 1, b2n g.fec), (8, 4, if g.rate = 1 then 2 else if g.rate = 2 then 5 else 0),
     (12, 2, match g.role with | .single => 0 | .lower _ => 1 | .higher _ => 2), (14, 1, b2n g.folded),
     (16, 8, match g.role with | .single => 0 | .lower p => p | .higher p => p)]
  else if b = aGrnCensus 0 then
    [(0, 3, g.censusState s.frm.now), (4, 3, g.result), (8, 7, g.reachA), (16, 7, g.reachB), (24, 7, g.record.length)]
  else if b = aGrnCensusCnt 0 then [(0, 16, g.number), (16, 4, g.aborts)]
  else if b = aGrnCredit 0 then
    let w := s.regD (aGrnCredit n) 1
    [(16, 6, ((tget g.record (fieldOf w 0 7)).map (fun q => q.credits.getD (fieldOf w 8 2) 0)).getD 0)]
  else if b = aGrnAssoc 0 then
    [(0, 7, poles (fun q => q.assoc.isSome)), (8, 7, poles (fun q => q.assoc.isSome && q.init.isSome)),
     (16, 7, poles (fun q => q.adopted && q.assoc.isNone)), (24, 1, g.gEpoch)]
  else if b = aGrnStat 0 then [(6, 1, b2n (g.record.any (fun e => !e.2.adopted) || !g.beyond.isEmpty))]
  else if b = aGrnBrTags 0 then
    let out := (br.tags.filter (fun t => t.2.st.late)).length
    [(0, 9, 256 - br.tags.length), (10, 9, br.tags.length - out), (20, 9, out)]
  else if b = aGrnBrSem 0 then
    [(0, 7, br.sems.length), (16, 11, (br.sems.map (fun x => x.waiters.length)).foldl (· + ·) 0 + br.entryQ.length)]
  else []

/-- SLT registers (R287); those of R311 are stored. -/
def sltLive (a : Nat) (s : State) : List LiveField :=
  let t := s.slt
  if a = aSltStat then [(0, 1, t.frontNo), (1, 1, b2n t.frozen), (2, 1, b2n t.presetAct), (16, 16, t.composed)]
  else if a = aSltInrSel then [(0, 7, t.inrSel)]
  else if a = aSltInrStat then
    [(0, 20, (t.queue.filter (fun w => w.circuit == t.inrSel)).length), (22, 2, s.phase t.inrSel), (24, 8, tgetD t.nir t.inrSel 16)]
  else if a = aSltInrTurn then [(0, 7, t.turn.1), (8, 7, t.turn.2.1), (16, 7, t.turn.2.2)]
  else if a = aSltInrCnt then [(0, 32, t.admitted)]
  else []

/-- GEO registers (R360, R387). -/
def geoLive (b n : Nat) (s : State) : List LiveField :=
  match s.geo.mir.pkt with
  | none => []
  | some p =>
    let c := p.cirs[n]?
    let cir (f : PktCir → List LiveField) : List LiveField := (c.map f).getD []
    let ph := p.phases.getD n (0, 0)
    let pl := p.pulses.getD n (0, false, false)
    if b = aGeoStat then [(0, 1, b2n (s.frm.now ≤ s.geo.mir.at_ + 1)), (1, 2, p.sync), (3, 1, b2n p.free)]
    else if b = aGeoFrame then [(0, 32, p.frame % 2 ^ 32)]
    else if b = aGeoSnapStat then [(0, 1, b2n p.snap.1), (1, 1, b2n p.snap.2), (16, 16, min (p.counts.getD 0 0) 65535)]
    else if b = aGeoCnt then [(0, 16, min (p.counts.getD 1 0) 65535), (16, 16, min (p.counts.getD 2 0) 65535)]
    else if b = aGeoPhV 0 then [(0, 24, ph.1)]
    else if b = aGeoPhF 0 then [(0, 17, ph.2)]
    else if b = aGeoPulse 0 then [(0, 32, pl.1 % 2 ^ 32)]
    else if b = aGeoPulseSt 0 then [(0, 16, pl.1 / 2 ^ 32), (16, 1, b2n pl.2.1), (17, 1, b2n pl.2.2)]
    else if b = aGeoCirI 0 then
      cir (fun x => [(0, 24, min (x.irms / 10) (2 ^ 24 - 1)), (24, 2, pathCode x.path), (26, 1, b2n x.unused), (27, 1, b2n x.oc), (28, 1, b2n x.mask),
        (29, 2, x.mphase)])
    else if b = aGeoCirP 0 then cir (fun x => [(0, 32, twos 32 x.pwin)])
    else if b = aGeoCirQ 0 then cir (fun x => [(0, 32, twos 32 x.q1)])
    else if b = aGeoCirH 0 then cir (fun x => [(0, 16, x.thd), (16, 16, min x.clip 65535)])
    else if b = aGeoCust then [(0, 2, p.state), (2, 1, b2n p.optAssoc), (3, 1, b2n p.flood), (16, 16, twos 16 p.temp)]
    else if b = aGeoPset then [(0, 32, p.pset)]
    else if b = aGeoRseqLo then [(0, 32, p.rseq % 2 ^ 32)]
    else if b = aGeoRseqHi then [(0, 32, p.rseq / 2 ^ 32)]
    else if b = aGeoLog then [(0, 32, p.logSeq % 2 ^ 32)]
    else if b = aGeoOpt then [(0, 16, min (p.counts.getD 3 0) 65535), (16, 16, min (p.counts.getD 4 0) 65535)]
    else if b = aGeoFw then [(0, 32, p.fw)]
    else []

/-- QRY registers (R443). -/
def qryLive (b n : Nat) (s : State) : List LiveField :=
  let bank := fieldOf (s.reg aQryBankSel) 0 4
  if b = aQryCells then [(0, 19, 262144 - s.allocCells)]
  else if b = aQryCellsUse then [(0, 19, s.allocCells)]
  else if b = aQryPool then [(0, 19, s.tenRes)]
  else if b = aQryPoolBorrow then [(0, 19, s.borrowed)]
  else if b = aQryStat then [(0, 1, b2n s.beHalf)]
  else if b = aQryBank then [(0, 9, tgetD s.qry.bankPtr bank 0), (16, 9, tgetD s.qry.bankWait bank 0)]
  else if b = aQryUplStat 0 then
    [(0, 1, b2n (tgetD s.qry.upl n {}).link), (8, 13, (s.ten.vctls.filter (fun e => (s.domsOf e.1).any (fun d => d.uplinks.contains n))).length)]
  else if b = aQryUplRate 0 then [(0, 17, s.committed (0x100 + n))]
  else []

/-- DMA_CH_STAT.STATE (R444). -/
def State.dmaState (s : State) (n : Nat) : Nat :=
  match (s.dch n).q with
  | [] => 0
  | ⟨_, .desc d⟩ :: _ =>
    if !s.afterDone d.after then 3 else if d.paced && d.moved < d.total && (s.dch n).pending = 0 then 2 else 1
  | _ :: _ => 1

/-- The channel has a descriptor running (R444). -/
def State.dmaRuns (s : State) (n : Nat) : Bool :=
  match (s.dch n).q with
  | ⟨_, .fence _⟩ :: _ => false
  | [] => false
  | _ :: _ => true

/-- DMA registers (R444). -/
def dmaLive (b n : Nat) (s : State) : List LiveField :=
  let c := s.dch n
  let bits (l : List Nat) : Nat := l.foldl (fun v k => setBit v k) 0
  if b = aDmaBusy then [(0, 32, bits ((List.range 32).filter s.dmaRuns))]
  else if b = aDmaReqOvr then [(0, 32, bits s.qry.reqOvr)]
  else if b = aDmaChStat 0 then
    [(0, 2, s.dmaState n), (4, 5, c.q.length), (16, 12, c.holder.getD 0), (28, 1, b2n c.holder.isSome)]
  else if b = aDmaChFifo 0 then
    [(0, 15, c.fifo.length), (16, 1, b2n c.fifo.isEmpty), (17, 1, b2n c.under), (18, 1, b2n c.ovf), (19, 1, b2n c.hit)]
  else if b = aDmaChLevel 0 then [(0, 15, c.level)]
  else if b = aDmaChReq 0 then [(0, 8, c.pending), (8, 1, b2n c.reqOvr), (16, 16, c.bursts)]
  else if b = aDmaChCnt 0 then [(0, 16, c.done), (16, 16, c.fences)]
  else []

/-- AIR registers (R474). -/
def airLive (b n : Nat) (s : State) : List LiveField :=
  let a := s.air
  let p := s.aport n
  if b = aAirCfg then
    [(0, 2, a.region), (8, 7, a.usWin), (16, 1, b2n a.vemer.isSome), (17, 2, s.vport.getD 0)]
  else if b = aAirEp then [(0, 19, a.eps.length)]
  else if b = aAirEpJoined then [(0, 19, (a.eps.filter (fun e => e.2.joined)).length)]
  else if b = aAirAck then [(0, 16, a.ackSent)]
  else if b = aAirUrg then [(0, 19, (a.q.filter (fun e => e.item == 2 && e.phase == .waiting)).length)]
  else if b = aAirDwSel then [(0, 6, a.dwSel)]
  else if b = aAirDw then [(0, 20, s.dwellUsed 4096 a.dwSel (s.ns / 1000) / 1000)]
  else if b = aAirDwBud then [(0, 20, s.dwellBudget 4096 a.dwSel / 1000)]
  else if b = aAirVemer then [(0, 6, (a.vemer.map (fun v => v.chan s.frm.now)).getD 0), (16, 16, a.vemerRx)]
  else if b = aAirPortCfg 0 then [(0, 1, b2n p.en), (8, 8, twos 8 (s.topPower n))]
  else if b = aAirPortStat 0 then [(0, 1, b2n p.fault), (8, 8, min p.vswr 255), (16, 16, p.rx)]
  else if b = aAirPortCnt 0 then [(0, 16, p.blocked), (16, 16, p.muted)]
  else []

/-- SPN registers (R493). -/
def spnLive (a : Nat) (s : State) : List LiveField :=
  let x := s.spn
  if a = aSpnCfg then [(0, 6, x.ring.getD 0), (6, 1, b2n x.ring.isSome), (7, 1, b2n x.master)]
  else if a = aSpnPos then
    [(0, 6, s.spinePos.getD 0), (6, 1, b2n s.spinePos.isSome), (8, 7, s.ringSize), (16, 3, (x.table.map (·.result)).getD 0), (24, 8, x.census)]
  else if a = aSpnLink then
    let reach (e : Bool) : Nat := (s.spinePos.map (fun p => reachFrom s p e (s.ringSize - 1))).getD 0
    [(0, 1, b2n x.east.up), (1, 1, b2n x.west.up), (2, 1, b2n s.folded), (8, 7, reach true), (16, 7, reach false)]
  else if a = aSpnSweep then
    [(0, 2, match x.sweep with | none => 0 | some w => (match w.stage with | .waiting => 1 | .latching => 2 | .collecting => 3)),
     (2, 1, b2n (x.sweep.any (·.origin))), (8, 5, (x.held.filter (fun h => s.within24 h.2.1)).length)]
  else []

/-- FLT registers (R522). -/
def fltLive (a : Nat) (s : State) : List LiveField :=
  let f := s.flt
  let n (p : Slot → Bool) : Nat := (f.slots.filter (fun e => p e.2)).length
  if a = aFltStat then [(0, 2, f.st), (2, 1, b2n f.rngOk), (16, 4, f.halt)]
  else if a = aFltSlots then [(0, 11, n (fun x => !x.bad)), (16, 11, n (fun x => x.bad))]
  else if a = aFltFuse then [(0, 7, s.fuse 0), (8, 7, s.fuse 1), (16, 7, s.fuse 2), (24, 7, s.fuse 3)]
  else if a = aFltReg then [(0, 20, f.reg.length + s.modBlobs), (20, 12, min (f.reg.filter (fun e => e.2.stale)).length 4095)]
  else if a = aFltMigr then [(0, 20, f.migrDone)]
  else if a = aFltKektagLo then [(0, 32, beNat ((kekTag f.mK).drop 4))]
  else if a = aFltKektagHi then [(0, 32, beNat ((kekTag f.mK).take 4))]
  else []

/-- THM registers (R570). -/
def thmLive (b n : Nat) (s : State) : List LiveField :=
  let t := s.thm
  if b = aThmStat then [(0, 2, t.step), (2, 1, b2n t.warn), (3, 1, b2n (!t.hot.isEmpty)), (8, 5, t.hottest), (16, 16, twos 16 t.tf)]
  else if b = aThmLast then
    [(0, 16, twos 16 t.lastTemp), (16, 5, t.lastSensor), (21, 1, b2n t.lastHard), (24, 2, min t.recent.length 3)]
  else if b = aThmT 0 then [(0, 16, twos 16 (tgetD t.temp n 0)), (16, 16, twos 16 (tgetD t.tmax n 0))]
  else []

/-- The live fields of instance `n` of the register whose instance 0 lies at `b`, by the blocks of R573. -/
def liveFields (b n : Nat) (s : State) : List LiveField :=
  if b < 0x10000 then sysLive b s
  else if b < 0x20000 then ldsLive b s
  else if b < 0x30000 then sltLive b s
  else if b < 0x200000 then grnLive b n s
  else if b < 0x300000 then []
  else if b < 0x340000 then qryLive b n s
  else if b < 0x380000 then dmaLive b n s
  else if b < 0x3C0000 then airLive b n s
  else if b < 0x400000 then spnLive b s
  else if b < 0x440000 then fltLive b s
  else if b < 0x480000 then geoLive b n s
  else if b < 0x4C0000 then svcLive b n s
  else thmLive b n s

/-! ### Reading -/

/-- A register of a block that reads its reset values for now: its domain has no rails (R36, R79), frame service has not been entered (R288, R311,
R332, R408), the air firmware has not started (R474), Flint has not completed its start (R522), or the grain's port is disabled (R225, R576). -/
def silentReg (b n : Nat) (s : State) : Bool :=
  if b = aSysId || b = aLdsClkIdLo || b = aLdsClkIdHi then false
  else if b = aSysPwrStat || b = aThmLast then false
  else if 0x400000 ≤ b && b < 0x440000 then !s.pw.service || s.flt.st == 0
  else if 0x480000 ≤ b && b < 0x4C0000 then !s.pw.service
  else if !s.pw.main then true
  else if 0x140 ≤ b && b < 0x160 then !s.boot.inService
  else if 0x20000 ≤ b && b < 0x30000 then !s.boot.inService
  else if 0x200000 ≤ b && b < 0x300000 then !s.boot.inService
  else if 0x100000 ≤ b && b < 0x200000 then !s.portFitted n
  else if 0x380000 ≤ b && b < 0x3C0000 then s.boot.airOut
  else false

/-- The stored word with the live fields laid over it. -/
def withLive (w : Nat) (l : List LiveField) : Nat := l.foldl (fun w f => withField w f.1 f.2.1 f.2.2) w

/-- What instance `n` of a register reads (R14, R15). -/
def State.regValue (s : State) (r : RegDef) (n : Nat) : Nat :=
  if silentReg r.base n s then r.resetWord else withLive (s.regD (r.base + n * r.stride) r.resetWord) (liveFields r.base n s)

/-- A read of LDS_NS latches LDS_WRAP, and the time extends from it (R84, R85); a read of LDS_FRAME_LO latches LDS_FRAME_HI (R86). -/
def readEffect (b : Nat) (s : State) : State :=
  if b = aLdsNs then nsRead s
  else if b = aLdsFrameLo then frameLoRead s
  else s

/-- Read one register: the value, and the state after the read. -/
def readReg (a : Nat) (s : State) : State × Nat :=
  match findReg a with
  | none => (s, 0)
  | some (r, n) => (readEffect r.base s, s.regValue r n)

/-! ### Writing -/

/-- The lock of an RWL field: FSVC; on timer channels 6 to 15 the fields are RW (R83, R108). -/
def State.locked (s : State) (b n : Nat) : Bool := s.boot.inService && !(b == aLdsTmrCtl 0 && n ≥ 6)

/-- A write to a timer's control register (R103 to R107): flags are cleared by ones; while ARM is 1 a write that changes DEST is ignored there and
sets CFG_ERR, and one that leaves DEST as it is counts as no write of DEST (R105; DEDUCED, log 45: every write of the register, also the one that clears
ARM, holds a DEST); a 1 in ARM arms the channel. -/
def writeTmrCtl (n v : Nat) (s : State) : State :=
  let a := aLdsTmrCtl n
  let w := s.reg a
  let s := s.setReg a (w - (w &&& v &&& 0xF00))
  if n < 6 && s.boot.inService then s
  else
    let was := bit w 0
    let dest := if was then fieldOf w 2 3 else fieldOf v 2 3
    let s := if bit v 0 then armTimer n (bit v 1) dest s
      else s.setReg a (withField (withField (clrBit (s.reg a) 0) 1 1 (fieldOf v 1 1)) 2 3 dest)
    if was && fieldOf v 2 3 != fieldOf w 2 3 then s.setFlag a 11 else s

/-- A write to CMP, PER or WID while ARM is 1 is ignored and sets CFG_ERR (R105). -/
def writeTmrValue (a n v : Nat) (s : State) : State :=
  if bit (s.reg (aLdsTmrCtl n)) 0 then s.setFlag (aLdsTmrCtl n) 11 else s.setReg a v

/-- A write to LDS_CTL (R82, R97, R99, R100, R108). -/
def writeLdsCtl (v : Nat) (s : State) : State :=
  let open_ := !s.boot.inService
  let s := s.lds' (fun l => { l with
    fsyncSlave := if open_ then bit v 1 else l.fsyncSlave, todBaud := bit v 2, todZda := bit v 3 })
  let s := if bit v 4 == s.lds.ref10Out then s else (s.lds' (fun l => { l with ref10Out := bit v 4 })).send .ref10Out 0 [b2n (bit v 4)]
  if bit v 0 then offsetLoad (extend s.lds.ext s.lds.load).toNat s else s

/-- A write to LDS_REF_CFG: the slew rate is held to 100 to 9,000, and a reference that is no longer enabled is lost (R94, R100, R108). Where one write
clears several enable bits, the losses follow each other in the order PPS, PTP, REF10, FSYNC (DESIGN CHOICE, log 9). -/
def writeRefCfg (v : Nat) (s : State) : State :=
  let s := s.lds' (fun l => { l with
    enPps := bit v 0, enPtp := bit v 1, enRef10 := bit v 2, enFsync := bit v 3, slewPpb := min 9000 (max 100 (fieldOf v 8 16)),
    fsConflict := l.fsConflict && bit v 3 })
  let drop (on : Bool) (r : Ref) (s : State) : State := if on then s else lose r s
  drop (bit v 3) .fsync (drop (bit v 2) .ref10 (drop (bit v 1) .ptp (drop (bit v 0) .pps s)))

/-- The effect of a write whose fields are state of the block; none for a register whose fields are stored as written. -/
def writeHook (b n v : Nat) (s : State) : Option State :=
  if b = aSysVctlSel then some { s with ten := { s.ten with sel := v % 4096 } }
  else if b = aSysTokLoad then some { s with ten := { s.ten with phaseSel := v % 16 } }
  else if b = aLdsInc then some (writeInc v s)
  else if b = aLdsLoad then some (s.lds' (fun l => { l with load := v }))
  else if b = aLdsCtl then some (writeLdsCtl v s)
  else if b = aLdsRefCfg then some (writeRefCfg v s)
  else if b = aLdsPtpThr then some (s.lds' (fun l => { l with sdNs := v % 65536 }))
  else if b = aLdsAcq then some (s.lds' (fun l => { l with tmoS := min 3600 (v % 4096) }))
  else if b = aLdsTmrCtl 0 then some (writeTmrCtl n v s)
  else if b = aLdsTmrCmp 0 then some (writeTmrValue (aLdsTmrCmp n) n v s)
  else if b = aLdsTmrPer 0 then some (writeTmrValue (aLdsTmrPer n) n v s)
  else if b = aLdsTmrWid 0 then some (writeTmrValue (aLdsTmrWid n) n (v % 2 ^ 17) s)
  else if b = aLdsFrameLo || b = aLdsFrameHi then some s
  else if b = aGrnLink 0 then
    some (let s := s.modGrain n (fun g => { g with fec := bit v 6 })
      let y := if fieldOf v 4 2 = 3 then 0 else fieldOf v 4 2
      if y = (s.grain n).rateCfg then s else setRateCfg n y s)
  else if b = aGrnBrCfg 0 then
    some (s.setReg (aGrnBrCfg n) (min 500 (max 20 (fieldOf v 0 9)) + 65536 * min 250 (max 1 (fieldOf v 16 8))))
  else if b = aSltInrSel then some (s.sl (fun t => { t with inrSel := v % 128 }))
  else if b = aDmaReqOvr then some (s.qr (fun q => { q with reqOvr := q.reqOvr.filter (fun k => !bit v k) }))
  else if b = aDmaChFifo 0 then
    some (s.modDch n (fun c => { c with under := c.under && !bit v 17, ovf := c.ovf && !bit v 18, hit := c.hit && !bit v 19 }))
  else if b = aDmaChLevel 0 then some (setLevel n (fieldOf v 0 15) s)
  else if b = aDmaChReq 0 then some (s.modDch n (fun c => { c with reqOvr := c.reqOvr && !bit v 8 }))
  else if b = aAirDwSel then some (s.ar (fun a => { a with dwSel := v % 64 }))
  else if b = aAirPortCfg 0 then some (writeTxEn n v s)
  else if b = aSvcGpioDir then some (driveGpio (s.setReg aSvcGpioDir (v % 2 ^ 16)))
  else if b = aSvcGpioOut then some (driveGpio (s.setReg aSvcGpioOut (v % 2 ^ 16)))
  else none

/-- A stored word after a write, field by field: RW stores, each 1 of a W1C field clears, RO and WO leave the word (R15). -/
def writeFields (fs : List Fld) (old v : Nat) : Nat :=
  fs.foldl (fun w f => match f.acc with
    | .rw => withField w f.lo f.w (fieldOf v f.lo f.w)
    | .rwl => withField w f.lo f.w (fieldOf v f.lo f.w)
    | .w1c => withField w f.lo f.w (fieldOf w f.lo f.w - (fieldOf w f.lo f.w &&& fieldOf v f.lo f.w))
    | _ => w) old

/-- The write would change a locked field (R15, R154). -/
def State.hitsLock (s : State) (r : RegDef) (n v : Nat) : Bool :=
  s.locked r.base n && r.fields.any (fun f => f.acc == .rwl && fieldOf v f.lo f.w != fieldOf (s.regValue r n) f.lo f.w)

/-- Write one register: the state, and whether a locked field kept its value. A register of a disabled grain keeps its reset value (R576). -/
def writeReg (a v : Nat) (s : State) : State × Bool :=
  match findReg a with
  | none => (s, false)
  | some (r, n) =>
    if 0x100000 ≤ a && a < 0x200000 && !s.portFitted n then (s, false)
    else
      let lockHit := s.hitsLock r n v
      match writeHook r.base n v s with
      | some t => (t, lockHit)
      | none => (s.setReg a (writeFields r.fields (s.regD a r.resetWord) v), lockHit)

/-! ### REG_READ and REG_WRITE -/

/-- First address and count of a register command. -/
def Cmd.regSpan (c : Cmd) : Nat × Nat := (c.nat 0x0011, c.nat 0x000F)

/-- The addresses of a register command (R154). -/
def Cmd.regAddrs (c : Cmd) : List Nat := (List.range c.regSpan.2).map (fun i => c.regSpan.1 + 4 * i)

/-- An address outside every register refuses the command with PARAM_RANGE (R154, R573). -/
def regRange (c : Cmd) : Except Err Unit := need (c.regAddrs.all (fun a => (findReg a).isSome)) (eRange 0x0011)

/-- An address outside the tenant's granted windows refuses it with RIGHT_MISSING (R154, R185, R582). -/
def regRights (c : Cmd) (s : State) : Except Err Unit :=
  match c.key with
  | .svc _ => .ok ()
  | .vctl 0 => .ok ()
  | .vctl v =>
    let ws := ((s.vctl? v).map (·.windows)).getD []
    need (c.regAddrs.all (fun a => ws.any (fun w => w.1 ≤ a && a + 4 ≤ w.1 + w.2))) (eStat stRightMissing)

/-- Read registers in ascending order. -/
def readRegs : List Nat → State → State × Bytes
  | [], s => (s, [])
  | a :: r, s =>
    let (s, v) := readReg a s
    let (s, b) := readRegs r s
    (s, beBytes 4 v ++ b)

/-- Write registers in ascending order, one at a time. -/
def writeRegs : List (Nat × Nat) → State → State × Bool
  | [], s => (s, false)
  | e :: r, s =>
    let (s, l) := writeReg e.1 e.2 s
    let (s, m) := writeRegs r s
    (s, l || m)

/-- REG_READ (R154). -/
def opRegRead : OpInfo :=
  { op := 0x1010, need := .window, specs := [cAddress.must, (cCount 1 64).must], maint := fun _ => true, svc := .any,
    rights := fun c s => regRights c s,
    ranges := fun c _ => regRange c,
    commit := fun c s => let (s, b) := readRegs c.regAddrs s; (s, c.ok [tData b]) }

/-- DATA has 4 bytes per register (R154). -/
def regData (c : Cmd) : Except Err Unit := need (((c.tlv? 0x0009).getD []).length == 4 * c.regSpan.2) (eRange 0x0009)

/-- REG_WRITE (R15, R154). -/
def opRegWrite : OpInfo :=
  { op := 0x1011, need := .window, specs := [cAddress.must, (cCount 1 64).must, (cData 256).must],
    rights := fun c s => regRights c s,
    ranges := fun c _ => do
      regRange c
      regData c,
    commit := fun c s =>
      let (s, l) := writeRegs (c.regAddrs.zip (beNats 4 ((c.tlv? 0x0009).getD []))) s
      (s, c.ok [] (if l then rfLocked else 0)) }

/-- REG_READ. -/
def execRegRead (src : Src) (tlvs : List Tlv) (s : State) : Outcome := execOp opRegRead src tlvs s
/-- REG_WRITE. -/
def execRegWrite (src : Src) (tlvs : List Tlv) (s : State) : Outcome := execOp opRegWrite src tlvs s

end Sys2Proof.Machine
end

