-- ==== Sys2Proof/Machine/Wakes.lean ====
section
/-!
DEFINITION. Machine/Wakes.lean: road graphs, tracks, projections, tails, and the handoff of wakes (R289 to R311).
-/
namespace Sys2Proof.Machine

/-- Change the wakes. -/
def State.wk (s : State) (f : Wakes → Wakes) : State := { s with wak := f s.wak }

/-- T_n: network time in ns of the start of the current frame. -/
def State.tn0 (s : State) : Nat := s.frm.now * 10000000

/-! ### Node keys, edges and traversals (R289) -/

/-- A border key. -/
def isBorder (k : Nat) : Bool := k / 16384 == 1
/-- Key of a border. -/
def borderKey (b : Nat) : Nat := 16384 + b
/-- Stratum of a pole key. -/
def keyStratum (k : Nat) : Nat := k / 1024
/-- Node key of a string-realm handle: H[17:4]. -/
def nodeOf (h : Nat) : Nat := h / 16

/-- The graph of a stratum. -/
def State.graph (s : State) (st : Nat) : Graph := tgetD s.wak.graphs st {}

/-- The edge of a traversal. -/
def State.edge? (s : State) (t : Trav) : Option Edge := (s.graph t.st).edges[t.ix]?

/-- Start node of an edge in a sense. -/
def Edge.start (e : Edge) (rev : Bool) : Nat := if rev then e.b else e.a
/-- End node of an edge in a sense. -/
def Edge.stop (e : Edge) (rev : Bool) : Nat := if rev then e.a else e.b
/-- The sense is permitted. -/
def Edge.may (e : Edge) (rev : Bool) : Bool := if rev then e.rev else e.fwd

/-- An 8-byte edge record. -/
def edgeOf (b : Bytes) : Edge := ⟨u b 0 2, u b 2 2, u b 4 2, bit (u b 6 1) 0, bit (u b 6 1) 1⟩

/-- An edge satisfies R289 and R290 in its stratum. -/
def State.edgeOk (s : State) (st : Nat) (e : Edge) : Bool :=
  e.a < 16384 && keyStratum e.a == st && e.b < 32768 && e.a != e.b && e.len ≥ 1 && (e.fwd || e.rev)
    && (if isBorder e.b then e.b < 16400 && (tget s.wak.borders (e.b % 16)).isSome && e.fwd && !e.rev
        else keyStratum e.b == st || (e.fwd && !e.rev))

/-- Traversals that start at a node, with their edges (R299). -/
def State.travsAt (s : State) (k : Nat) : List (Trav × Edge) :=
  if isBorder k then []
  else ((s.graph (keyStratum k)).edges.zipIdx.flatMap (fun e =>
    (if e.1.fwd && e.1.a == k then [(⟨keyStratum k, e.2, false⟩, e.1)] else [])
      ++ (if e.1.rev && e.1.b == k then [(⟨keyStratum k, e.2, true⟩, e.1)] else [])))

/-- Onward traversals at a node: not the reverse of the arriving edge (R299), and not one to the border of the claim (R306). -/
def State.onward (s : State) (k : Nat) (arr : Option Trav) (via : Option Nat) : List (Trav × Edge) :=
  (s.travsAt k).filter (fun x =>
    arr != some { x.1 with rev := !x.1.rev } && !via.any (fun b => x.2.stop x.1.rev == borderKey b))

/-! ### Classes, tails and lifts (R291, R296, R302) -/

/-- A wake class. -/
def State.wclass (s : State) (k : Nat) : WClass := tgetD s.wak.classes k (defClass k)

/-- Length of the tail table of a class. -/
def State.tailLen (s : State) (cls : Nat) : Nat := ((tget s.wak.tails cls).map (·.length)).getD 256

/-- Entry `k` of the tail table of a class (R302). -/
def State.tailAt (s : State) (cls k : Nat) : Nat :=
  match tget s.wak.tails cls with
  | some l => l.getD k 0
  | none => (s.wclass cls).level * (255 - k) / 255

/-- The lift of a handle's node (R291, R302): w[c] of the composition. -/
def State.wakeLift (s : State) (h : Nat) : Nat :=
  if hRealm h = 0 then
    if bit (tgetD s.wak.masks (nodeOf h) 0xFFFE) (hSlot h) then tgetD s.wak.lifts (nodeOf h) 0 else 0
  else match tget s.wak.attach h with
    | some k => tgetD s.wak.lifts k 0
    | none => 0

/-- Speed of a speed class in dm/s (R296). -/
def State.speedOf (s : State) (k : Nat) : Nat := if k = 0 then 0 else s.wak.speeds.getD (k - 1) 0

/-! ### Counts and events (R295, R297, R306, R309) -/

/-- Add to a count that an event reports at most once per 100 frames. -/
def bumpEv (t : Tbl (Nat × Option Nat)) (k n : Nat) : Tbl (Nat × Option Nat) := tupd t k (0, none) (fun e => (e.1 + n, e.2))

/-- Raise the events of a table whose count is not 0 and whose latest event is 100 frames old; the counts start again. -/
def raiseEvs (code : Nat) (t : Tbl (Nat × Option Nat)) (s : State) : State × Tbl (Nat × Option Nat) :=
  t.foldl (fun a e =>
    if e.2.1 > 0 && due100 e.2.2 a.1.frm.now then
      (a.1.owner code [tCode e.1, tCount e.2.1], tset a.2 e.1 (0, some a.1.frm.now))
    else a) (s, t)

/-- TRACKS_FULL, at most once per 100 frames in the module (R297): the lowest stratum with tracks to tell of, the others after it (DESIGN CHOICE,
log 33: R297 and R309 do not say which stratum the one event names when several are at the limit). -/
def fullEvent (s : State) : State :=
  match s.wak.fullEv with
  | (st, n) :: r =>
    if due100 s.wak.fullAt s.frm.now then (s.owner 0x0111 [tCode st, tCount n]).wk (fun w => { w with fullEv := r, fullAt := some s.frm.now }) else s
  | [] => s

/-- WAKE_EVENTS_DROPPED, TRACKS_FULL and WAKE_HANDOFF_LOST where they are due. -/
def wakeEvents (s : State) : State :=
  let (s, d) := raiseEvs 0x0110 s.wak.dropEv s
  let (s, l) := raiseEvs 0x0112 s.wak.lostEv (fullEvent s)
  s.wk (fun w => { w with dropEv := d, lostEv := l })

/-- Count a discarded detection record (R295). -/
def dropRec (st : Nat) (s : State) : State :=
  (s.wk (fun w => { w with dropped := tupd w.dropped st 0 (fun n => satAdd 16 n 1), dropEv := bumpEv w.dropEv st 1 })).setFlag (aStrWakeFlags st) 0

/-- A track is refused for the limits of R297. -/
def trackFull (st : Nat) (s : State) : State := (s.wk (fun w => { w with fullEv := tupd w.fullEv st 0 (· + 1) })).setFlag aSltWakeTrk 16

/-- A stratum, or the module, is at its limit of tracks (R297). -/
def State.tracksFull (s : State) (st : Nat) : Bool :=
  s.wak.tracks.length ≥ 16384 || (s.wak.tracks.filter (fun e => e.2.st == st)).length ≥ 4096

/-- A track record is lost or refused (R306). -/
def lostTrack (b : Nat) (s : State) : State :=
  s.wk (fun w => { w with borderCnt := (w.borderCnt.1, satAdd 16 w.borderCnt.2 1), lostEv := bumpEv w.lostEv b 1 })

/-! ### Distances (R298) -/

/-- Insert a frontier entry by ascending distance and then node key. -/
def insFront (x : Nat × Nat × Option Trav) : List (Nat × Nat × Option Trav) → List (Nat × Nat × Option Trav)
  | [] => [x]
  | y :: r => if x.1 < y.1 || (x.1 == y.1 && x.2.1 < y.2.1) then x :: y :: r else y :: insFront x r

/-- Path distance along the edges of a stratum in either direction, within a gate, with fuel. -/
def pathTo (es : List Edge) (goal gate : Nat) : Nat → List (Nat × Nat × Option Trav) → List Nat → Option Nat
  | 0, _, _ => none
  | _, [], _ => none
  | f + 1, (d, k, _) :: r, seen =>
    if d > gate then none
    else if k = goal then some d
    else if seen.contains k then pathTo es goal gate f r seen
    else
      let next := es.filterMap (fun e => if e.a = k then some (d + 100 * e.len, e.b, none) else if e.b = k then some (d + 100 * e.len, e.a, none) else none)
      pathTo es goal gate f (next.foldl (fun l x => insFront x l) r) (k :: seen)

/-- Distance of a track from a pole, none beyond its gate of max(20,000, 100 × v) mm (R298). -/
def State.gateDist (s : State) (t : Track) (pole : Nat) : Option Nat :=
  let es := (s.graph t.st).edges
  let front : List (Nat × Nat × Option Trav) := match t.trav.bind (fun v => (s.edge? v).map (fun e => (v, e))) with
    | some (v, e) => insFront (t.x, e.start v.rev, none) [(100 * e.len - t.x, e.stop v.rev, none)]
    | none => [(0, t.node, none)]
  pathTo es pole (max 20000 (100 * t.v)) (2 * es.length + 4) front []

/-! ### Movement (R298 to R300) -/

/-- A track comes to a node with an excess: onto the one onward traversal, or it stands there; past a border it keeps the excess (R299). -/
def State.arrive (s : State) (t : Track) (k x : Nat) (arr : Option Trav) : Track :=
  if isBorder k then { t with trav := none, node := k, x := x, arr := none, via := none }
  else match s.onward k arr t.via with
    | [(v, _)] => { t with trav := some v, node := k, x := x, arr := none, via := none }
    | _ => { t with trav := none, node := k, x := 0, arr := arr }

/-- Pass a track over the ends of its traversals while x reaches their lengths (R299), with fuel. -/
def passEnds (s : State) : Nat → Track → Track
  | 0, t => t
  | f + 1, t => match t.trav with
    | none => t
    | some v => match s.edge? v with
      | none => { t with trav := none, x := 0 }
      | some e => if t.x < 100 * e.len then t else passEnds s f (s.arrive t (e.stop v.rev) (t.x - 100 * e.len) (some v))

/-- Advance a track by v mm (R299). -/
def State.advance (s : State) (t : Track) : Track := if t.trav.isNone then t else passEnds s 2048 { t with x := t.x + t.v }

/-- A track at a border whose entry is absent or whose neighbour has no route is dropped (R300). -/
def State.deadBorder (s : State) (t : Track) : Bool :=
  isBorder t.node && match tget s.wak.borders (t.node % 16) with
    | some b => (s.wayTo b.addr).isNone
    | none => true

/-! ### Records (R295, R298) -/

/-- Sensor binding of a direction. -/
def State.boundTrav (s : State) (h dir : Nat) : Option Trav :=
  match tget s.wak.binds h with
  | some b => if dir = 1 then b.1 else if dir = 2 then b.2 else none
  | none => none

/-- A record is discarded for its string, its slot, its class or its age (R295). -/
def State.recBad (s : State) (h : Nat) (r : DetRec) : Bool :=
  !bit (s.stringCaps (hString h)) 3 || (tget s.wak.binds h).isNone || !(s.wclass r.cls).on || r.time + 1000000000 < s.tn0

/-- The track of a record: nearest, then lowest number (R298). -/
def State.candidate (s : State) (st pole cls : Nat) : Option Nat :=
  ((s.wak.tracks.filter (fun e => e.2.cls == cls && e.2.st == st)).foldl (fun b e =>
    match s.gateDist e.2 pole, b with
    | some d, some (bd, bn) => if d < bd then some (d, e.1) else some (bd, bn)
    | some d, none => some (d, e.1)
    | none, b => b) (none : Option (Nat × Nat))).map (·.2)

/-- Apply one record (R298). -/
def applyRec (s : State) (e : Nat × DetRec) : State :=
  let (h, r) := e
  let pole := nodeOf h
  let st := stratumOf (hString h)
  let v := s.speedOf r.speed
  let time := min r.time s.tn0
  let bound := s.boundTrav h r.dir
  let place (t : Track) : Track :=
    let t := { t with v := v, confirm := time, frame := s.frm.now }
    match bound with
    | some tr => passEnds s 2048 { t with trav := some tr, node := pole, x := v * (s.tn0 - time) / 10000000, arr := none, via := none }
    | none => t
  match s.candidate st pole r.cls with
  | some n => s.wk (fun w => { w with tracks := tmod w.tracks n place })
  | none =>
    if s.tracksFull st then trackFull st s
    else
      let t : Track := { cls := r.cls, v := 0, trav := none, x := 0, node := pole, confirm := time, frame := s.frm.now, st := st }
      let t := if bound.isSome then place t else t
      s.wk (fun w => { w with tracks := tset w.tracks w.next t, next := (w.next + 1) % 2 ^ 32 })

/-- Insert a record by TIME and then sensor handle (R295). -/
def insRec (x : Nat × DetRec) : List (Nat × DetRec) → List (Nat × DetRec)
  | [] => [x]
  | y :: r => if x.2.time < y.2.time || (x.2.time == y.2.time && x.1 < y.1) then x :: y :: r else y :: insRec x r

/-- A stratum's own share of the records of a frame (R295). -/
def ownShare (st : Nat) : Nat := if st < 8 then 63 else 62

/-- Records each stratum takes: its own share, and what the others leave, in ascending stratum, up to 250 (R295). -/
def shares (n : Nat → Nat) : List Nat :=
  let own := (List.range 16).map (fun st => min (n st) (ownShare st))
  ((List.range 16).foldl (fun (a : List Nat × Nat) st =>
    let more := min a.2 (min (n st) 250 - own.getD st 0)
    (a.1 ++ [own.getD st 0 + more], a.2 - more)) ([], 1000 - own.foldl (· + ·) 0)).1

/-- Take the records of the frame (R295, R298). -/
def takeRecs (s : State) : State :=
  let all := s.wak.recs.foldl (fun l x => insRec x l) []
  let s := s.wk (fun w => { w with recs := [] })
  let bad := all.filter (fun e => s.recBad e.1 e.2)
  let good := all.filter (fun e => !s.recBad e.1 e.2)
  let mine (st : Nat) : List (Nat × DetRec) := good.filter (fun e => stratumOf (hString e.1) == st)
  let sh := shares (fun st => (mine st).length)
  let s := bad.foldl (fun s e => dropRec (stratumOf (hString e.1)) s) s
  let s := s.wk (fun w => { w with taken := (List.range 16).map (fun st => (st, sh.getD st 0)) })
  (List.range 16).foldl (fun s st =>
    let s := ((mine st).drop (sh.getD st 0)).foldl (fun s _ => dropRec st s) s
    ((mine st).take (sh.getD st 0)).foldl applyRec s) s

/-! ### Projection (R301) -/

/-- A walk: nodes visited, spills, and whether it was cut at 64 nodes. -/
structure Walk where
  /-- nodes -/
  nodes : List Nat := []
  /-- spills: node or border key and the distance -/
  spills : List (Nat × Nat) := []
  /-- cut -/
  cut : Bool := false
deriving DecidableEq, Repr

/-- Visit a node: the walk is cut when it reaches 64 nodes (R301, R310). -/
def Walk.visit (w : Walk) (k : Nat) : Walk :=
  if w.nodes.contains k then w else { w with nodes := w.nodes ++ [k], cut := w.cut || w.nodes.length + 1 ≥ 64 }

/-- Walk in ascending distance and node key up to a distance, at most 64 nodes of stratum `st` (R301), with fuel; `seen` are the nodes left already,
each with the traversal of its arrival, on which its onward traversals depend (R299). -/
def walk (s : State) (st lim : Nat) : Nat → List (Nat × Nat × Option Trav) → List (Nat × Option Trav) → Walk → Walk
  | 0, _, _, w => w
  | _, [], _, w => w
  | f + 1, (d, k, arr) :: r, seen, w =>
    if d > lim then w
    else if seen.contains (k, arr) then walk s st lim f r seen w
    else if isBorder k || keyStratum k != st then
      walk s st lim f r ((k, arr) :: seen) (if w.spills.any (fun x => x.1 == k) then w else { w with spills := w.spills ++ [(k, d)] })
    else if !w.nodes.contains k && w.nodes.length ≥ 64 then w
    else
      let next := (s.onward k arr none).map (fun x => (d + 100 * x.2.len, x.2.stop x.1.rev, some x.1))
      walk s st lim f (next.foldl (fun l x => insFront x l) r) ((k, arr) :: seen) (w.visit k)

/-- Fuel of a walk: every frontier entry comes from a pair of traversals that follow one another. -/
def State.walkFuel (s : State) (st : Nat) : Nat := (2 * (s.graph st).edges.length + 2) ^ 2

/-- Look-ahead in mm (R301). -/
def State.ahead (s : State) (t : Track) : Nat := t.v * (s.wclass t.cls).lead / 100 * 100

/-- Add a walk to the set of its track, and its spills to those that await delivery (R301). -/
def bookWalk (own cls v st lim : Nat) (w : Walk) (s : State) : State :=
  let s := if w.cut then s.setFlag (aStrWakeFlags st) 1 else s
  s.wk (fun k => { k with
    cur := tupd k.cur own (cls, []) (fun e => (cls, e.2 ++ w.nodes.filter (fun n => !e.2.contains n))),
    spills := k.spills ++ w.spills.map (fun x => ⟨x.1, lim - x.2, cls, v, own, st, none⟩) })

/-- The frontier of a walk from a node. -/
def State.frontAt (s : State) (k : Nat) (arr : Option Trav) (via : Option Nat) : List (Nat × Nat × Option Trav) :=
  ((s.onward k arr via).map (fun x => (100 * x.2.len, x.2.stop x.1.rev, some x.1))).foldl (fun l x => insFront x l) []

/-- Project a track (R301). -/
def projectTrack (n : Nat) (t : Track) (s : State) : State :=
  let lim := s.ahead t
  match t.trav.bind (fun v => (s.edge? v).map (fun e => (v, e))) with
  | some (v, e) =>
    bookWalk n t.cls t.v t.st lim
      (walk s t.st lim (s.walkFuel t.st) [(100 * e.len - t.x, e.stop v.rev, some v)] [] { nodes := if 2 * t.x ≤ 100 * e.len then [t.node] else [] }) s
  | none =>
    bookWalk n t.cls t.v t.st lim (walk s t.st lim (s.walkFuel t.st) (s.frontAt t.node t.arr t.via) [] { nodes := [t.node] }) s

/-- Continue a spill in the stratum of its node (R301, R303). -/
def continueSpill (s : State) (p : Spill) : State :=
  let st := keyStratum p.into
  bookWalk p.own p.cls p.v st p.rem (walk s st p.rem (s.walkFuel st) (s.frontAt p.into none p.via) [] { nodes := [p.into] }) s

/-- The track's traversal starts in another stratum, or it has crossed a border: it is marked for the epoch (R303, R305). -/
def Track.marked (t : Track) : Bool := isBorder t.node || keyStratum t.node != t.st

/-! ### Wake records from neighbours (R304, R306) -/

/-- The gate of a track in mm (R298). -/
def Track.gate (t : Track) : Nat := max 20000 (100 * t.v)

/-- A track lies within the gate of another on the same traversal, along it or by the way round over its ends; tracks that stand, by the path between
their nodes (R298, R304). -/
def State.nearTrack (s : State) (o t : Track) : Bool :=
  match o.trav.bind s.edge? with
  | none => (s.gateDist o t.node).isSome
  | some e =>
    max o.x t.x - min o.x t.x ≤ o.gate ||
      (pathTo (s.graph o.st).edges e.b o.gate (2 * (s.graph o.st).edges.length + 4) [(0, e.a, none)] []).any (fun d =>
        min (o.x + d + (100 * e.len - t.x)) (100 * e.len - o.x + d + t.x) ≤ o.gate)

/-- A received track merges into one that the stratum owns: same class and traversal, within its gate (R304). -/
def State.merges (s : State) (t : Track) (st : Nat) : Bool :=
  s.wak.tracks.any (fun e => e.2.st == st && !e.2.marked && e.2.cls == t.cls && e.2.trav == t.trav && s.nearTrack e.2 t)

/-- Own number of a neighbour's track. -/
def foreign (border track : Nat) : Nat := 2 ^ 32 * (1 + border) + track

/-- Use one wake record in the first phase of a frame (R306). -/
def useRec (s : State) (r : WakeRec) : State :=
  match tget s.wak.borders r.border with
  | none => spOther s
  | some b =>
    let st := keyStratum b.entry
    if r.kind = 1 then
      if r.epoch + 1 = s.frm.now then continueSpill s ⟨b.entry, r.dist, r.cls, r.speed, foreign r.border r.track, 16, some r.border⟩ else spOther s
    else
      let t : Track := { cls := r.cls, v := r.speed, trav := none, x := 0, node := b.entry, via := some r.border, confirm := r.confirm,
                         frame := s.frm.now, st := st }
      let t := passEnds s 2048 (s.arrive t b.entry (r.dist + r.speed * (s.frm.now - (r.epoch + 1))) none)
      let answer (kind : Nat) (s : State) : State :=
        s.wk (fun w => { w with answers := w.answers ++ [{ r with kind := kind, border := r.border, epoch := s.frm.now }] })
      let refuse (s : State) : State := answer 3 (s.wk (fun w => { w with claimCnt := (w.claimCnt.1, satAdd 16 w.claimCnt.2 1) }))
      if s.merges t st then refuse (s.setFlag (aStrWakeFlags st) 3)
      else if s.tracksFull st then refuse (trackFull st s)
      else
        answer 2 (s.wk (fun w => { w with
          tracks := tset w.tracks w.next t, next := (w.next + 1) % 2 ^ 32, claimCnt := (satAdd 16 w.claimCnt.1 1, w.claimCnt.2) }))

/-! ### The phases of a frame (R303) -/

/-- Wakes run only in frame service (R308). -/
def State.wakesOn (s : State) : Bool := s.inLight

/-- Tracks more than 3 s after their last confirmation, and those at a border that leads nowhere, are dropped (R300). -/
def dropTracks (s : State) : State :=
  s.wk (fun w => { w with tracks := w.tracks.filter (fun e => s.tn0 ≤ e.2.confirm + 3000000000 && !s.deadBorder e.2) })

/-- The first phase of the current frame: records, advance, drops, projections, and spills left from before (R298 to R303, R306). -/
def wakePhase1 (s : State) : State :=
  let s := takeRecs s
  let s := s.wk (fun w => { w with tracks := tmap w.tracks (fun _ t => if t.frame = s.frm.now then t else s.advance t) })
  let inbox := s.wak.inbox
  let later := s.wak.later
  let s := dropTracks (s.wk (fun w => { w with inbox := inbox.filter (fun r => r.epoch + 1 > s.frm.now), later := [] }))
  let s := dropTracks ((inbox.filter (fun r => r.epoch + 1 ≤ s.frm.now)).foldl useRec s)
  let s := later.foldl continueSpill s
  wakeEvents ((s.wak.tracks.filter (fun e => !e.2.marked)).foldl (fun s e => projectTrack e.1 e.2 s) s)

/-- A 32-byte wake record (R305). -/
def wakeBytes (r : WakeRec) : Bytes :=
  [byte r.kind, byte r.border, byte r.cls, 0] ++ beBytes 2 r.speed ++ [0, 0] ++ beBytes 4 r.track ++ beBytes 4 r.dist ++ beBytes 8 r.confirm
    ++ beBytes 8 r.epoch

/-- The fields of wake records as arguments of a message. -/
def wakeArgs (l : List WakeRec) : List Nat :=
  l.length :: l.flatMap (fun r => [r.kind, r.border, r.cls, r.speed, r.track, r.dist, r.confirm, r.epoch])

/-- Put records for a neighbour into WAKE messages of 1 to 64 records (R484), with fuel. -/
def wakeMsgs (addr : Nat) : Nat → List WakeRec → State → State
  | 0, _, s => s
  | _, [], s => s
  | f + 1, l, s =>
    let m := l.take 64
    wakeMsgs addr f (l.drop 64)
      (if (s.wayTo addr).isSome then spTo addr 0x30 63 s.spineAddr false (wakeArgs m) (m.flatMap wakeBytes) s else s)

/-- Hand a marked track over to the stratum of its node (R304): merged, dropped at the limit, or moved whole. -/
def handover (s : State) (n : Nat) (t : Track) : State :=
  let st := keyStratum t.node
  if s.merges t st then (s.wk (fun w => { w with tracks := terase w.tracks n })).setFlag (aStrWakeFlags st) 3
  else if (s.wak.tracks.filter (fun e => e.2.st == st)).length ≥ 4096 then trackFull st (s.wk (fun w => { w with tracks := terase w.tracks n }))
  else s.wk (fun w => { w with tracks := tset w.tracks n { t with st := st } })

/-- The handoff epoch (R303 to R307): `late` strata have not finished their first phase; they deliver the handoffs and spills that are complete, and
those of the tracks named at the next epoch. -/
def wakeEpoch (late : LateWake) (s : State) : State :=
  let s := late.strata.foldl (fun s st => s.setFlag (aStrWakeFlags st) 2) s
  let ready (st n : Nat) : Bool := !(late.strata.contains st && late.tracks.contains n)
  let marked := s.wak.tracks.filter (fun e => e.2.marked && ready e.2.st e.1)
  let toStrata := marked.filter (fun e => !isBorder e.2.node)
  let toBorders := marked.filter (fun e => isBorder e.2.node)
  let s := toStrata.foldl (fun s e => handover s e.1 e.2) s
  let goes (p : Spill) : Bool := p.st = 16 || ready p.st p.own
  let spills := s.wak.spills.filter goes
  let s := s.wk (fun w => { w with
    tracks := w.tracks.filter (fun e => !toBorders.any (fun x => x.1 == e.1)),
    spills := w.spills.filter (fun p => !goes p) })
  let now := s.frm.now
  let outs : List (Nat × WakeRec) :=
    toBorders.map (fun e => (e.2.node % 16, ⟨0, 0, e.2.cls, e.2.v, e.1, e.2.x, e.2.confirm, now⟩))
      ++ (spills.filter (fun p => isBorder p.into)).map (fun p => (p.into % 16, ⟨1, 0, p.cls, p.v, p.own % 2 ^ 32, p.rem, 0, now⟩))
      ++ s.wak.answers.map (fun r => (r.border, r))
  let s := s.wk (fun w => { w with
    answers := [], sent := w.sent ++ toBorders.map (fun e => ⟨e.2.node % 16, e.1, now⟩),
    borderCnt := (satAdd 16 w.borderCnt.1 toBorders.length, w.borderCnt.2) })
  let s := s.wak.borders.foldl (fun s b =>
    let l := (outs.filter (fun o => o.1 == b.1)).map (fun o => { o.2 with border := b.2.partner })
    wakeMsgs b.2.addr (l.length + 1) l s) s
  let s := (s.wak.sent.filter (fun x => x.epoch + 3 ≤ now)).foldl (fun s x => lostTrack x.border s) s
  let s := s.wk (fun w => { w with sent := w.sent.filter (fun x => !(decide (x.epoch + 3 ≤ now))) })
  let held := s.wak.spills
  let s := s.wk (fun w => { w with spills := [] })
  let s := (toStrata.filter (fun e => (tget s.wak.tracks e.1).any (fun t => !t.marked))).foldl (fun s e =>
    match tget s.wak.tracks e.1 with
    | some t => projectTrack e.1 t s
    | none => s) s
  let s := (spills.filter (fun p => !isBorder p.into)).foldl continueSpill s
  wakeEvents (s.wk (fun w => { w with
    spills := held ++ w.spills.filter (fun p => isBorder p.into), later := w.later ++ w.spills.filter (fun p => !isBorder p.into) }))

/-- An epoch fired by a pool channel in beats 41 to 62 delivers the second-phase spills, which continue in the same frame; in any other beat it is
ignored and flagged (R307). -/
def poolEpoch (s : State) : State :=
  if 41 ≤ s.frm.beat && s.frm.beat ≤ 62 then
    let l := s.wak.later
    let held := s.wak.spills
    let s := l.foldl continueSpill (s.wk (fun w => { w with later := [], spills := [] }))
    s.wk (fun w => { w with
      spills := held ++ w.spills.filter (fun p => isBorder p.into), later := w.spills.filter (fun p => !isBorder p.into) })
  else (List.range 16).foldl (fun s st => s.setFlag (aStrWakeFlags st) 2) s

/-- WAKE_HANDOFF_EPOCH. -/
def execWakeHandoffEpoch (pool : Bool) (late : LateWake) (s : State) : Outcome :=
  done s (fun s => guardS s.wakesOn (fun s => if pool then poolEpoch s else wakeEpoch late s) s)

/-- Start the tail of a class at a node unless a running tail stands higher (R302). -/
def startTail (cls : Nat) (s : State) (k : Nat) : State :=
  let now := match tget s.wak.running k with | some t => s.tailAt t.cls t.k | none => 0
  if s.tailAt cls 0 ≥ now then s.wk (fun w => { w with running := tset w.running k ⟨cls, 0⟩ }) else s

/-- The lifts of the frame become final (R302, R303): projections that were carried keep the nodes of the frame before, if any (R307), tails advance and
start, and each node takes its largest value. -/
def wakeFinal (carried : List Nat) (s : State) : State :=
  let s := s.wk (fun w => { w with
    cur := carried.foldl (fun c n => match tget w.prev n with | some e => tset c n e | none => terase c n) w.cur })
  let s := s.wk (fun w => { w with
    running := (tmap w.running (fun _ t => { t with k := t.k + 1 })).filter (fun e => e.2.k < s.tailLen e.2.cls) })
  let s := s.wak.prev.foldl (fun s e =>
    let now := ((tget s.wak.cur e.1).map (·.2)).getD []
    (e.2.2.filter (fun k => !now.contains k)).foldl (startTail e.2.1) s) s
  let put (t : Tbl Nat) (k v : Nat) : Tbl Nat := if v = 0 then t else tset t k (max v (tgetD t k 0))
  let l := s.wak.running.foldl (fun t e => put t e.1 (s.tailAt e.2.cls e.2.k)) []
  let l := s.wak.cur.foldl (fun t e => e.2.2.foldl (fun t k => put t k (s.wclass e.2.1).level) t) l
  s.wk (fun w => { w with lifts := l, prev := w.cur, cur := [] })

/-- The wake registers of a freeze (R310, R311). -/
def wakeRegs (s : State) : State :=
  let w := s.wak
  let s := (List.range 16).foldl (fun s st =>
    let s := s.setReg (aStrWakeStat st) (w.tracks.filter (fun e => e.2.st == st)).length
    let s := s.setField (aStrWakeStat st) 16 11 (w.lifts.filter (fun e => keyStratum e.1 == st)).length
    let s := s.setReg (aStrWakeEv st) (tgetD w.taken st 0 + 65536 * tgetD w.dropped st 0)
    s.setReg (aStrWakeGraph st) ((tgetD w.graphs st {}).edges.length + 2 ^ 24 * (tgetD w.graphs st {}).gen)) s
  let s := s.setField aSltWakeTrk 0 15 w.tracks.length
  let s := s.setReg aSltWakeBorder (w.borderCnt.1 + 65536 * w.borderCnt.2)
  let s := s.setReg aSltWakeClaim (w.claimCnt.1 + 65536 * w.claimCnt.2)
  s.setReg aSltWakeAir w.attach.length

/-! ### Rows -/

/-- DETECTION (R294, R295): the records wait for the next evaluation. -/
def execDetection (str pos : Nat) (hdr : MslHdr) (recs : List DetRec) (s : State) : Outcome :=
  done s (onMsl str pos hdr (fun s => guardS s.wakesOn (fun s =>
    s.wk (fun w => { w with recs := w.recs ++ recs.map (fun r => (mkHandle str pos (r.slot % 16), { r with dir := if r.dir = 3 then 0 else r.dir })) })) s))

/-- One received wake record (R305, R306): tracks and spills wait for the first phase; a claim or a refusal answers a record. -/
def takeWake (s : State) (r : WakeRec) : State :=
  if r.kind > 3 || (tget s.wak.borders r.border).isNone then spOther s
  else if r.kind ≤ 1 then s.wk (fun w => { w with inbox := w.inbox ++ [r] })
  else if s.wak.sent.any (fun x => x.border == r.border && x.track == r.track) then
    let s := s.wk (fun w => { w with sent := w.sent.filter (fun x => !(x.border == r.border && x.track == r.track)) })
    if r.kind = 3 then wakeEvents (lostTrack r.border s) else s
  else s

/-- WAKE_MESSAGE (R484, R305, R306). -/
def execWakeMessage (east : Bool) (h : SpHdr) (recs : List WakeRec) (s : State) : Outcome :=
  done s (fun s => guardS s.spOn (fun s =>
    let (s, ok) := spAccept east h s
    if !ok then s
    else if s.spMine h then (if s.wakesOn then recs.foldl takeWake s else s)
    else spForward h 0x30 (wakeArgs recs) (recs.flatMap wakeBytes) s) s)

/-! ### Configuration (R290 to R293, R308) -/

/-- A binding's traversal: it exists, its sense is permitted, and it starts at the sensor's pole (R293). -/
def State.bindOk (s : State) (h : Nat) (t : Trav) : Bool :=
  match s.edge? t with
  | some e => e.may t.rev && e.start t.rev == nodeOf h && t.st == stratumOf (hString h)
  | none => false

/-- Check the bindings of a stratum again: those cleared are counted (R293). -/
def recheckBinds (st : Nat) (s : State) : State × Nat :=
  let mine := s.wak.binds.filter (fun b => stratumOf (hString b.1) == st)
  let bad (h : Nat) (t : Option Trav) : Bool := t.any (fun t => !s.bindOk h t)
  let n := mine.foldl (fun n b => n + b2n (bad b.1 b.2.1) + b2n (bad b.1 b.2.2)) 0
  (s.wk (fun w => { w with binds := tmap w.binds (fun h b =>
    if stratumOf (hString h) = st then (if bad h b.1 then none else b.1, if bad h b.2 then none else b.2) else b) }), n)

/-- GRAPH_COMMIT: validate the first `n` staged records, make them active, end the tracks of the stratum (R290). -/
def commitGraph (st n : Nat) (s : State) : Except Err State :=
  let g := s.graph st
  let recs := (List.range n).map (fun i => edgeOf (tgetD g.staged i (beBytes 8 0)))
  match recs.zipIdx.find? (fun e => !s.edgeOk st e.1) with
  | some e => .error ⟨stConfigRefused, [tDetail 0x01A1 e.2]⟩
  | none =>
    let s := s.wk (fun w => { w with
      graphs := tset w.graphs st { g with edges := recs, gen := (g.gen + 1) % 256 }, tracks := w.tracks.filter (fun e => e.2.st != st) })
    let (s, cleared) := recheckBinds st s
    .ok (s.owner 0x0113 [tCode st, tCount n, tFrame s.frm.now, tValue cleared])

/-- The wake TLVs of SEGMENT_CONFIG (R308). -/
def segWake (id : Nat) (b : Bytes) (s : State) : Except Err State :=
  let x := u b 0 1
  match id with
  | 0x01A0 => do
    let first := u b 2 2
    let n := (b.length - 4) / 8
    need (x < 16 && 4 < b.length && (b.length - 4) % 8 = 0 && n ≤ 1000 && first + n ≤ 65536) (eRange id)
    let g := s.graph x
    return s.wk (fun w => { w with
      graphs := tset w.graphs x { g with staged := ((chunks 8 (b.drop 4)).zipIdx).foldl (fun t e => tset t (first + e.2) e.1) g.staged } })
  | 0x01A1 => do
    need (x < 16 && u b 4 4 ≤ 65536) (eRange id)
    commitGraph x (u b 4 4) s
  | 0x01A2 => do
    let h := u b 0 4
    let fl := u b 8 1
    need (hRealm h = 0 && hSlot h ≥ 1) (eRange id)
    let st := stratumOf (hString h)
    let tr (p ix k : Nat) : Option Trav :=
      if bit fl p then (let t : Trav := ⟨st, ix, bit fl k⟩; if s.bindOk h t then some t else none) else none
    return s.wk (fun w => { w with
      binds := if fl % 16 = 0 then terase w.binds h else tset w.binds h (tr 0 (u b 4 2) 2, tr 1 (u b 6 2) 3) })
  | 0x01A3 => do
    let h := u b 0 4
    need (hRealm h = 0 && hSlot h = 0) (eRange id)
    return s.wk (fun w => { w with masks := tput 0xFFFE w.masks (nodeOf h) (u b 4 2) })
  | 0x01A4 => do
    need (x < 8 && u b 1 1 ≤ 1 && u b 2 2 ≤ 64000 && 100 ≤ u b 4 2 && u b 4 2 ≤ 3000) (eRange id)
    return s.wk (fun w => { w with classes := tset w.classes x ⟨u b 1 1 == 1, u b 2 2, u b 4 2⟩ })
  | 0x01A5 => do
    let l := beNats 2 (b.drop 2)
    need (x < 8 && b.length % 2 = 0 && 1 ≤ l.length && l.length ≤ 256 && l.all (fun c => c ≤ 64000)) (eRange id)
    return s.wk (fun w => { w with tails := tset w.tails x l })
  | 0x01A6 => do
    let l := beNats 2 b
    need (b.length = 30 && l.all (fun v => 1 ≤ v && v ≤ 1000) && (l.zip (l.drop 1)).all (fun e => e.1 < e.2)) (eRange id)
    return s.wk (fun w => { w with speeds := l })
  | 0x01A7 => do
    let h := u b 4 4
    let a := u b 2 2 % 4096
    need (x < 16 && u b 1 1 < 16 && hSlot h = 0) (eRange id)
    need (hRealm h = 0 && s.spn.ring = some (a / 64) && !(s.spinePos.isSome && a == s.spineAddr)) (eConfig id)
    return s.wk (fun w => { w with borders := tset w.borders x ⟨u b 1 1, a, nodeOf h⟩ })
  | 0x01A8 => do
    need (x < 16) (eRange id)
    need (!s.wak.graphs.any (fun g => g.2.edges.any (fun e => e.b == borderKey x))) (eConfig id)
    return s.wk (fun w => { w with borders := terase w.borders x })
  | _ => do
    let recs := chunks 8 b
    need (b.length % 8 = 0 && 1 ≤ recs.length && recs.length ≤ 256) (eRange id)
    need (recs.all (fun r => hRealm (u r 0 4) = 1 && (u r 4 4 = 0xFFFFFFFF || (hRealm (u r 4 4) = 0 && hSlot (u r 4 4) = 0)))) (eRange id)
    let t := recs.foldl (fun t r => if u r 4 4 = 0xFFFFFFFF then terase t (u r 0 4) else tset t (u r 0 4) (nodeOf (u r 4 4))) s.wak.attach
    need (t.length ≤ 16384) (eConfig id)
    return s.wk (fun w => { w with attach := t })

end Sys2Proof.Machine
end

