-- ==== Sys2Proof/Machine/SegmentConfig.lean ====
section
/-!
DEFINITION. Machine/SegmentConfig.lean: SEGMENT_CONFIG, applied whole or not at all (R208, R285, R308, R327, R403, R427, R572).
-/
namespace Sys2Proof.Machine

/-- Handles of a string that something in the module names: its pole nodes' slots, rights, groups, leases and sources. -/
def State.stringHandles (s : State) (g : Nat) : List Nat :=
  let l := (s.grain g).record.flatMap (fun e => poleHandles g e.1 e.2)
    ++ s.ten.vctls.flatMap (fun e => e.2.rights.map (·.1))
    ++ s.slt.groups.flatMap (fun e => e.2.primary ++ e.2.secondary)
    ++ s.ten.leases.map (·.1) ++ s.slt.srcs.map (·.1)
  sortNat (l.filter (fun h => hRealm h == 0 && hString h == g))

/-- FORGET (R164, R208, R283): the record is empty; every right, group membership, lease and preset on the string's handles ends. -/
def forgetString (g : Nat) (s : State) : State :=
  let hs := s.stringHandles g
  let here := onString g
  let s := keepEntries (fun h => !here h) s
  let s := (s.grain g).record.foldl (fun s e => bridgeClose g e.1 s) s
  let s := hs.foldl (fun s h =>
    forgetHandle h ((s.ten.vctls.map (·.1)).foldl (fun s v => (s.groupsOf v h).foldl (leaveGroup v h) s) s)) s
  let s := s.sl (fun t => { t with preset := tkeep t.preset (fun h _ => !here h), queue := t.queue.filter (fun w => !here w.handle) })
  let s := s.lm (fun l => { l with chans := tkeep l.chans (fun h _ => !here h) })
  s.modGrain g (fun x => { x with record := [], candidate := none, beyond := [] })

/-- One TLV of SEGMENT_CONFIG; `occ` counts the TLVs of its identity before it in the command. -/
def segOne (id : Nat) (b : Bytes) (occ : Nat) (s : State) : Except Err State :=
  if id = 0x0148 then do
    need (!s.stringLink (beNat b) && (s.grain (beNat b)).rate == 0) (eConfig id)
    return forgetString (beNat b) s
  else if id < 0x0180 then segStrings id b s
  else if id < 0x01A0 then segLight id b s
  else if id < 0x01B0 then segWake id b s
  else if id < 0x01C0 then segLamp id b occ s
  else if id = 0x01E0 then segPeriod b s
  else if id = 0x01E4 then segSeed b s
  else segTraffic id b s

/-- The TLVs of a command in order, each against the state that those before it leave; the DST_TABLE TLVs join at the first (R285, R572). -/
def segAll (dst : List Bytes) : List (Nat × Bytes) → List Nat → State → Except Err State
  | [], _, s => .ok s
  | (id, b) :: r, seen, s => do
    let occ := (seen.filter (· == id)).length
    let s ← if id = 0x0182 then (if occ = 0 then segDst dst s else .ok s) else segOne id b occ s
    segAll dst r (id :: seen) s

/-- The TLVs of SEGMENT_CONFIG. -/
def segSpecs : List TSpec :=
  [tFix 0x0140 2 0 0xFFFF, tFix 0x0141 1 0 255, tFix 0x0142 2 0 0xFFFF, tFix 0x0143 2 0 0xFFFF, tFix 0x0144 1 0 255, tFix 0x0145 1 0 255,
   tFix 0x0146 2 0 0xFFFF, tFix 0x0147 48 0 0, tFix 0x0148 1 0 255,
   tLst 0x0182 12 1 32, tLst 0x0183 4 2 257, tFix 0x0184 2 0 0xFFFF, tFix 0x0185 2 0 0xFFFF, tLst 0x0186 4 2 257,
   tLst 0x01A0 4 3 2001, tFix 0x01A1 8 0 (2 ^ 64 - 1), tFix 0x01A2 12 0 0, tFix 0x01A3 8 0 (2 ^ 64 - 1), tFix 0x01A4 8 0 (2 ^ 64 - 1),
   tLst 0x01A5 2 2 257, tFix 0x01A7 8 0 (2 ^ 64 - 1), tFix 0x01A8 1 0 255, tLst 0x01A9 8 1 256,
   tFix 0x01B0 20 0 0, tLst 0x01B1 4 2 257, tLst 0x01E4 4 3 258, tFix 0x01F2 8 0 (2 ^ 64 - 1), tFix 0x01F3 4 0 (2 ^ 32 - 1)].map TSpec.many
  ++ [tFix 0x0180 8 0 (2 ^ 64 - 1), tFix 0x0181 2 0 0xFFFF, tFix 0x01A6 30 0 0, tFix 0x01E0 1 0 255, tFix 0x01F4 36 0 0]

/-- The commit of a SEGMENT_CONFIG: all of it, or nothing and the first refused TLV's status (R572). -/
def segCommit (c : Cmd) (s : State) : State × Reply :=
  match segAll (c.all 0x0182) c.tlvs [] s with
  | .error e => (s, c.err e)
  | .ok t => (if c.has 0x0184 then phaseMismatch t else t, c.ok)

/-- SEGMENT_CONFIG (R572). -/
def opSegmentConfig : OpInfo :=
  { op := 0x8006, need := .owner, cost := fun _ => 2, specs := segSpecs, commit := segCommit }

/-- SEGMENT_CONFIG. -/
def execSegmentConfig (src : Src) (tlvs : List Tlv) (s : State) : Outcome := execOp opSegmentConfig src tlvs s

end Sys2Proof.Machine
end

