-- ==== Sys2Proof/Machine/Opcodes.lean ====
section
/-!
DEFINITION. Machine/Opcodes.lean: the opcodes of R153 with all that decides each one.
-/
namespace Sys2Proof.Machine

/-- Families 0x00 and 0x01: session, device, registers, lighting. -/
def opsLight : List OpInfo :=
  [opSessionClose, opKeepalive, opDeviceInfo, opRegRead, opRegWrite, opLightLevel, opLightFade, opLightLease, opLightRead, opLightEmergency,
   opLightLevelX, opStepTable, opFactorSet, opSlateWindow]

/-- Families 0x02 and 0x03: schedules, groups, the bridge. -/
def opsGroups : List OpInfo :=
  [opGroupDefine, opGroupMembers, opScheduleWrite, opScheduleRead, opAonDefine, opAonClear, opScheduleWriteX, opAttrRead, opAttrWrite, opBridgeRead,
   opBridgeWrite, opSemAcquire, opSemRelease]

/-- Families 0x04 and 0x05: events, telemetry, metering. -/
def opsMeter : List OpInfo :=
  [opEvtSubscribe, opEvtAck, opTelemetryRead, opTelemetryStream, opMeterRead, opMeterPeriod, opAttribRead, opWaveformStream, opCorrectionRead,
   opAttribModel, opProbeDither, opSnapshot]

/-- Families 0x06 and 0x07: time and air. -/
def opsTime : List OpInfo :=
  [opTimeRead, opSolarRead, opTimeSet, opUtcTable, opPtpPort, opTimeRawRead, opTimedPulse, opStampMark, opAirEnrol, opAirSend, opAirRemove, opAirRawTx,
   opChannelPlan, opAirRawCapture, opVemerSet]

/-- Families 0x08 to 0x0A: keys, traffic, DMA. -/
def opsTraffic : List OpInfo :=
  [opKeySession, opSlotLoad, opSlotUnload, opSlotUse, opVlanAttach, opVlanDetach, opShaperSet, opQueueSet, opExportBlock, opWorkspaceInfo,
   opDmaDescriptor, opDmaFence]

/-- Families 0x80 and 0xF0: owner functions, service. -/
def opsOwner : List OpInfo :=
  [opVctlCreate, opVctlRemove, opRightsSet, opQuotaSet, opCredSet, opSegmentConfig, opSpineConfig, opSweepOrder, opRegwinGrant, opImageStage,
   opImageActivate, opDiagRead, opJournalExport]

/-- Every opcode of R153 but SESSION_OPEN, whose meaning depends on its packet and association. -/
def opTable : List OpInfo := opsLight ++ opsGroups ++ opsMeter ++ opsTime ++ opsTraffic ++ opsOwner

/-- What decides an opcode of a packet of header major `vmaj` on an association; none for a value outside R153, which is UNKNOWN_OPCODE under 2.x as
under 3.x (DESIGN CHOICE, log 84: R158 has 2.x refuse every opcode beyond its own with FEATURE_NOT_NEGOTIATED, and does not say that this covers values
that no interface assigns). -/
def opInfo? (vmaj : Nat) (a : Assoc) (tlvs : List Tlv) (op : Nat) : Option OpInfo :=
  if op = 0x0001 then some (opSessionOpen vmaj a tlvs) else opTable.find? (fun i => i.op == op)

/-- What decides an accepted command at its commit. -/
def opAt (op : Nat) : Option OpInfo := opTable.find? (fun i => i.op == op)

end Sys2Proof.Machine
end

