-- ==== Sys2Proof/Machine/Packet.lean ====
section
/-!
DEFINITION. Machine/Packet.lean: command packets, their header checks and their commands (R120, R123, R135 to R141), and the release of replies
and events (R137, R142 to R148).
-/
namespace Sys2Proof.Machine

/-! ### Bytes (R135, R138, R139) -/

/-- A command of a packet as it is delimited. -/
inductive Item where
  /-- a whole command; `broken` is the identity of a TLV that runs past CLEN or whose padding is not 0 -/
  | cmd (op cmdid : Nat) (chain noData : Bool) (broken : Option Nat) (tlvs : List Tlv)
  /-- refused with BAD_LENGTH -/
  | bad (op cmdid : Nat)
deriving DecidableEq, Repr

/-- The TLVs of a command's parameters, and the identity of the one that is malformed, with fuel (R139). -/
def parseTlvs : Nat → Bytes → Option Nat × List Tlv
  | 0, _ => (none, [])
  | f + 1, b =>
    let ty := u b 0 2
    let n := u b 2 2
    let pad := (4 + n + 3) / 4 * 4
    if b.isEmpty then (none, [])
    else if pad > b.length || (b.take pad).drop (4 + n) != List.replicate (pad - (4 + n)) 0 then (some (ty % 2 ^ 15), [])
    else
      let (e, l) := parseTlvs f (b.drop pad)
      (e, ⟨bit ty 15, ty % 2 ^ 15, (b.drop 4).take n⟩ :: l)

/-- The commands of a packet after its header, `k` of which came before, with fuel (R138). -/
def parseCmds : Nat → Nat → Bytes → List Item
  | 0, _, _ => []
  | f + 1, k, b =>
    let clen := u b 2 2
    if b.isEmpty then []
    else if b.length < 8 then [.bad 0 0xFFFF]
    else if clen % 4 ≠ 0 || clen < 8 || clen > b.length then [.bad (u b 0 2) (u b 4 2)]
    else
      let (e, l) := parseTlvs clen ((b.take clen).drop 8)
      (if k ≥ 255 then Item.bad (u b 0 2) (u b 4 2) else .cmd (u b 0 2) (u b 4 2) (bit (u b 6 2) 0) (bit (u b 6 2) 1) e l)
        :: parseCmds f (k + 1) (b.drop clen)

/-- The commands of a packet. -/
def packetItems (b : Bytes) : List Item := parseCmds b.length 0 (b.drop 16)

/-- The packet holds SESSION_OPEN alone (R134). -/
def opensAlone : List Item → Bool
  | [.cmd op _ _ _ _ _] => op == 1
  | _ => false

/-! ### The header checks (R136, R137, R145) -/

/-- The first of checks 1 to 4 that a packet fails (R136). Of the commands that must fit one part, bytes that are left after the last whole command count
as one, since they get an entry (R138; DEDUCED, log 11). -/
def headerFault (a : Assoc) (key : AssocKey) (b : Bytes) (n : Nat) : Option Nat :=
  if u b 0 2 ≠ 0x5A43 || b.length < 2 then some stBadMagic
  else if u b 12 2 ≠ b.length || b.length < 24 || b.length > (if a.major = 2 then 1200 else 8192)
    || (a.parts == 1 && 16 + 12 * n > a.room) then some stBadLength
  else if u b 4 2 % 2 ^ 12 ≠ actsFor key then some stVctlMismatch
  else if a.major ≠ 0 && u b 2 1 ≠ a.major then some stVersionUnsupported
  else none

/-- What R137 makes of a SEQ. -/
inductive SeqCheck where
  /-- accepted -/
  | fresh
  /-- the kept reply is sent again -/
  | again
  /-- discarded: the original reply is still owed -/
  | silent
  /-- SEQ_OLD -/
  | old
deriving DecidableEq, Repr

/-- R137 on an association. -/
def Assoc.seqCheck (a : Assoc) (seq : Nat) : SeqCheck :=
  if seq = 0 then .old
  else if a.high.all (· < seq) then .fresh
  else match a.kept.find? (fun k => k.seq == seq) with
    | some k => if k.parts.isSome then .again else .silent
    | none => .old

/-- An accepted SEQ: the highest so far, and one of the 64 packets whose replies are kept (R137). -/
def Assoc.take (a : Assoc) (seq : Nat) : Assoc := { a with high := some seq, kept := ({ seq := seq, parts := none } :: a.kept).take 64 }

/-- The header version of a reply while no major is fixed (R136); none when one is. -/
def verOf (a : Option Assoc) (vmaj : Nat) : Option (Nat × Nat) :=
  if a.any (fun a => a.major != 0) then none else let m := if vmaj = 2 then 2 else 3; some (m, minorOf m)

/-- Owe the reply of a packet at the next beat 0 (R111, R142). -/
def owe (key : AssocKey) (b : Bytes) (keep : Bool) (es : List Entry) (s : State) : State :=
  let p : PendPkt := { key := key, seq := u b 8 4, due := s.frm.now + 1, ver := verOf (s.assoc? key) (u b 2 1), keep := keep, entries := es }
  { s with frm := { s.frm with pkts := s.frm.pkts ++ [p] } }

/-- The whole packet is refused (R136). -/
def refusePacket (key : AssocKey) (b : Bytes) (keep : Bool) (st : Nat) (s : State) : State :=
  owe key b keep [.done { op := 0, cmdid := 0xFFFF, status := st }] s

/-! ### The commands (R120, R123, R138, R141) -/

/-- The commands of a packet as they are examined in turn: the state, the entries so far, and whether the last one was accepted. -/
structure Run where
  /-- the state -/
  s : State
  /-- entries, in packet order -/
  entries : List Entry := []
  /-- the command before was accepted -/
  ok : Bool := true

/-- A refused command. -/
def Run.refused (r : Run) (s : State) (e : Reply) : Run := { s := s, entries := r.entries ++ [.done e], ok := false }

/-- An opcode outside R153 defines no TLV. -/
def unknownOp (op : Nat) : OpInfo := { op := op, need := .any, commit := fun c s => (s, c.reply stUnknownOpcode) }

/-- Examine a command on the normal path: accepted for the next commit, or done at once when its effect is at acceptance (R110, R134, R141). -/
def Run.normal (r : Run) (i : OpInfo) (key : AssocKey) (seq cmdid : Nat) (noData : Bool) (flags : Nat) (a : Assoc) (tlvs : List Tlv) (s : State) : Run :=
  match submit i key seq cmdid noData flags a tlvs s with
  | (s, .error e) => r.refused s e
  | (s, .ok c) =>
    if i.early then
      let (s, e) := perform i c s
      { s := s, entries := r.entries ++ [.done e], ok := e.status == stOk }
    else { s := { s with frm := { s.frm with accepted := s.frm.accepted ++ [c] } }, entries := r.entries ++ [.wait c.uid], ok := true }

/-- An urgent command joins the urgent slot or its queue of 16 entries; a full queue sends it on the normal path with URGENT_DEFERRED (R123). -/
def Run.urgent (r : Run) (i : OpInfo) (key : AssocKey) (seq cmdid : Nat) (noData : Bool) (a : Assoc) (tlvs : List Tlv) (c : Cmd) (s : State) : Run :=
  if s.frm.urgQ.length < 17 then
    let s := { s with frm := { s.frm with uid := s.frm.uid + 1, urgQ := s.frm.urgQ ++ [⟨c, 80 * s.frm.now + s.frm.beat⟩] } }
    { s := s, entries := r.entries ++ [.wait c.uid], ok := true }
  else r.normal i key seq cmdid noData rfDeferred a tlvs (s.setFlag aSysUrgStat 8)

/-- One command of a packet; `fast`: the packet takes the urgent path, on which commands that set an EMERGENCY level go (R120, R141). -/
def runItem (fast : Bool) (key : AssocKey) (b : Bytes) (r : Run) (it : Item) : Run :=
  let s := r.s
  match it, s.assoc? key with
  | .bad op cmdid, _ => r.refused s { op := op, cmdid := cmdid, status := stBadLength }
  | .cmd .., none => r
  | .cmd op cmdid chain noData broken tlvs, some a =>
    if chain && !r.ok && !r.entries.isEmpty && a.major == 3 && bit a.caps 2 then r.refused s { op := op, cmdid := cmdid, status := stChainSkipped }
    else match broken with
      | some id => r.refused s (refusal op cmdid noData 0 [] ⟨stTlvMalformed, [tDetail id 0]⟩)
      | none => match opInfo? (u b 2 1) a tlvs op with
        | none => match checkFormat (unknownOp op) tlvs with
          | .error e => r.refused s (refusal op cmdid noData 0 ((unknownOp op).ignored tlvs) e)
          | .ok _ => r.refused s (refusal op cmdid noData 0 ((unknownOp op).ignored tlvs) (eStat stUnknownOpcode))
        | some i => match if fast && op == 0x0105 then (examine i key (u b 8 4) cmdid noData 0 s.frm.uid a tlvs s).toOption else none with
          | some c => if c.nat 0x000D = 0 then r.urgent i key (u b 8 4) cmdid noData a tlvs c s else r.normal i key (u b 8 4) cmdid noData 0 a tlvs s
          | none => r.normal i key (u b 8 4) cmdid noData 0 a tlvs s

/-- A packet that passes its header checks (R141). -/
def runPacket (fast : Bool) (key : AssocKey) (b : Bytes) (s : State) : State :=
  let r := (packetItems b).foldl (runItem fast key b) { s := s }
  owe key b true r.entries r.s

/-- The checks of R136 on an opened packet, in order. -/
def checkPacket (fast : Bool) (key : AssocKey) (b : Bytes) (a : Assoc) (s : State) : State :=
  match headerFault a key b (packetItems b).length with
  | some st => refusePacket key b false st s
  | none => match a.seqCheck (u b 8 4) with
    | .old => refusePacket key b false stSeqOld s
    | .silent => s
    | .again => { s with frm := { s.frm with dups := s.frm.dups ++ [(key, u b 8 4)] } }
    | .fresh =>
      let s := s.modAssoc key (fun a => a.take (u b 8 4))
      if a.phase == .opened || opensAlone (packetItems b) then runPacket fast key b s
      else refusePacket key b true stSessionNotOpen s

/-- The packet may take the urgent path: its path, the EMERGENCY right, and the fourth urgent packet of the frame (R120). -/
def State.mayUrgent (s : State) (key : AssocKey) (a : Assoc) : Bool :=
  s.inLight && a.urgent < 4
    && (match a.path with | .ux1 => false | _ => true)
    && (match key with | .vctl v => s.hasMod v 0 | .svc _ => false)

/-- A record of an association is opened: it is authenticated, and its packet is checked (R110, R134, R136, R145). A record of no association fails
authentication and is discarded without reply. -/
def openPacket (dscp46 : Bool) (key : AssocKey) (b : Bytes) (s : State) : State :=
  match s.assoc? key with
  | none => s
  | some a =>
    if !s.pathUp a.path then s
    else
      let fast := dscp46 && s.mayUrgent key a
      let a := { a with lastRx := s.frm.now, maxPkt := max a.maxPkt (min b.length 8192), urgent := a.urgent + b2n fast }
      checkPacket fast key b a (s.modAssoc key (fun _ => a))

/-- COMMAND_PACKET (R136): the bytes of a record that an association's traffic keys open. -/
def execCommandPacket (key : AssocKey) (bytes : Bytes) (s : State) : Outcome := done s (openPacket false key bytes)

/-- URGENT_PACKET (R120): a record whose IPv6 header carries DSCP 46. -/
def execUrgentPacket (key : AssocKey) (bytes : Bytes) (s : State) : Outcome := done s (openPacket true key bytes)

/-! ### Release (R142 to R145) -/

/-- Every entry of the packet is settled. -/
def PendPkt.replies (p : PendPkt) : Option (List Reply) :=
  p.entries.foldr (fun e l => match e, l with | .done r, some l => some (r :: l) | _, _ => none) (some [])

/-- The reply of a packet may be released at this beat 0 (R111, R125). -/
def State.releasable (s : State) (p : PendPkt) : Bool := p.due ≤ s.frm.now && p.replies.isSome

/-- Release the reply of one packet, and keep it (R137, R142). -/
def releasePkt (s : State) (p : PendPkt) : State :=
  match p.replies, s.assoc? p.key with
  | some rs, some a =>
    let ver := p.ver.getD (a.major, minorOf a.major)
    let parts := packReply a rs
    let keep (k : Kept) : Kept := if p.keep && k.seq == p.seq then { k with parts := some parts, ver := ver } else k
    noteClose p.key rs (sendReply p.key ver p.seq parts (s.modAssoc p.key (fun a => { a with kept := a.kept.map keep })))
  | _, _ => s

/-- Send a kept reply again (R137). -/
def resendKept (s : State) (d : AssocKey × Nat) : State :=
  match (s.assoc? d.1).bind (fun a => a.kept.find? (fun k => k.seq == d.2)) with
  | some k => match k.parts with
    | some parts => sendReply d.1 k.ver d.2 parts s
    | none => s
  | none => s

/-- Replies that are due, kept replies that duplicates ask for, and what follows them (R111, R134, R137). -/
def releaseReplies (s : State) : State :=
  let dups := s.frm.dups
  let due := s.frm.pkts.filter s.releasable
  let s := { s with frm := { s.frm with pkts := s.frm.pkts.filter (fun p => !s.releasable p), dups := [] } }
  settle (dups.foldl resendKept (due.foldl releasePkt s))

/-! ### Event packets (R147, R148) -/

/-- Send the chosen records of an association in one event packet of as many parts as R145 permits; the rest stay as they are (R148). -/
def sendEvents (choose : QRec → Bool) (key : AssocKey) (s : State) : State :=
  match s.assoc? key, tget s.ses.evq (evKey key) with
  | some a, some q =>
    let parts := (cutParts (fun r => r.rec_.size) (a.room - 16) (q.recs.filter choose) [] 0).take a.parts
    if a.phase != .opened || parts.isEmpty || !s.pathUp a.path then s
    else
      let now := s.frm.now
      let gone := parts.flatten.map (fun r => r.rec_.eseq)
      let mark (r : QRec) : QRec := if gone.contains r.rec_.eseq then { r with sent := some now, ever := true } else r
      let s := s.modAssoc key (fun a => { a with evSeq := a.evSeq + 1 })
      let s := { s with ses := { s.ses with evq := tset s.ses.evq (evKey key) { q with recs := q.recs.map mark } } }
      parts.zipIdx.foldl (fun s p => s.emitOn key
        (.packet key (eventPacket key (a.major, minorOf a.major) (a.evSeq + 1) p.2 (p.2 + 1 < parts.length) (p.1.map (·.rec_))))) s
  | _, _ => s

/-- The records queued before this frame that have not been sent on the present association. -/
def State.unsent (s : State) (r : QRec) : Bool := r.sent.isNone && r.rec_.frame < s.frm.now

/-- The records that 100 frames have left unacknowledged (R148). -/
def State.overdue (s : State) (r : QRec) : Bool := r.sent.any (fun f => f + 100 ≤ s.frm.now)

/-- EVENT_RELEASE on every association (R148). -/
def releaseEvents (s : State) : State := s.ses.assoc.foldl (fun s e => sendEvents s.unsent (keyOf e.1) s) s

/-- EVENT_RESEND (R148): at a beat 0, the records of the association's series that its commits have left unacknowledged for 100 frames. -/
def execEventResend (key : AssocKey) (s : State) : Outcome := done s (fun s => guardS (s.frm.beat == 0) (sendEvents s.overdue key) s)

end Sys2Proof.Machine
end

