-- ==== Sys2Proof/Machine/Urgent.lean ====
section
/-!
DEFINITION. Machine/Urgent.lean: acceptance on the urgent path, and the EMERG input (R49, R121 to R126, R181, R219, R281 to R284).
-/
namespace Sys2Proof.Machine

/-- The pole nodes that are served: adopted and associated, on strings with link whose stratum is in service (R119). -/
def State.served (s : State) : List (Nat × Nat) :=
  s.strs.grains.flatMap (fun g =>
    match g.2.role with
    | .higher _ => []
    | _ => if s.stringLink g.1 && !s.stratumOut (stratumOf g.1)
        then (g.2.record.filter (fun p => p.2.adopted && p.2.assoc.isSome)).map (fun p => (g.1, p.1)) else [])

/-- What a pole node was last sent for a handle. -/
def State.lastSent (s : State) (h : Nat) : Nat := ((s.pole? (hString h) (hPos h)).bind (fun p => tget p.sent (hSlot h))).getD hold

/-- Note a code sent to a pole node for activation in frame `f`: a switch-on opens its window (R218, R219, R321). -/
def noteSent (f h code : Nat) (s : State) : State :=
  let s := if darkCode (s.lastSent h) && !darkCode code then openWindow h f s else s
  s.modPole (hString h) (hPos h) (fun p => { p with sent := tset p.sent (hSlot h) code })

/-- The handles of a list that lie on a pole node. -/
def onPole (g p : Nat) (hs : List Nat) : List Nat := hs.filter (fun h => hRealm h == 0 && hString h == g && hPos h == p)

/-- URGENT messages for activation at the absolute beat `act`: one to each served pole node of a listed handle, with what the overlay or the preset
supplies (R121, R219, R284). -/
def sendUrgent (act : Nat) (hs : List Nat) (s : State) : State :=
  s.served.foldl (fun s gp =>
    let es := (onPole gp.1 gp.2 hs).filterMap (fun h => (s.overlaid h).map (fun c => (h, c)))
    if es.isEmpty then s
    else
      let s := es.foldl (fun s e => noteSent (act / 80) e.1 e.2 s) s
      let slots := es.map (fun e => (hSlot e.1, e.2))
      wirePole gp.1 gp.2 .mslUrgent ([act / 80, act % 80] ++ entryArgs slots) (urgentBody (act / 80) (act % 80) slots) [] s) s

/-- Count an urgent command or an assertion of EMERG in SYS_URG_STAT.ACCEPTED (R128). -/
def countUrgent (s : State) : State := { s with frm := { s.frm with urgCount := (s.frm.urgCount + 1) % 2 ^ 16 } }

/-! ### Urgent commands (R121, R123 to R125, R181, R281) -/

/-- A lower-numbered vCtl holds an active EMERGENCY source or an overlay entry on the endpoint; the preset counts as the owner's entry while it shows
(R122, R181, R284). -/
def State.outranked (s : State) (v h : Nat) : Bool :=
  (s.sources h).any (fun x => x.rank == 4 && x.vctl < v) || (tget s.slt.overlay h).any (fun o => o.vctl < v)
    || (v > 0 && s.slt.presetAct && (s.presetLevel h).isSome)

/-- Write one overlay entry with min(LEVEL, ceiling), to be cleared at the swap that begins frame m + 2 (R124, R281). -/
def writeOverlay (v lvl : Nat) (s : State) (h : Nat) : State :=
  s.sl (fun t => { t with overlay := tset t.overlay h { code := min lvl (s.ceiling h), vctl := v, clear := s.frm.now + 2 } })

/-- The lighting channels that an urgent command names. -/
def State.urgentTargets (s : State) (c : Cmd) : List Nat := (s.targets c).filter s.isLamp

/-- The frame at whose beat 0 the notice of an urgent packet is released: the first that begins after the application beat b + 4 (R125). -/
def noticeFrame (b : Nat) : Nat := (b + 4) / 80 + 1

/-- The waiting entry of a command. -/
def PendPkt.awaits (p : PendPkt) (uid : Nat) : Bool := p.entries.any (fun e => e == .wait uid)

/-- The urgent command `x` is accepted in the present beat: overlay, URGENT messages, its commit at the next beat 0, and its notice (R121 to R125). -/
def acceptUrgent (x : UrgCmd) (s : State) : State :=
  let c := x.cmd
  let hs := s.urgentTargets c
  let won := hs.filter (fun h => !s.outranked c.vctl h)
  let s := countUrgent { s with frm := { s.frm with
    urgQ := s.frm.urgQ.drop 1, urgBeat := some s.absBeat, accepted := s.frm.accepted ++ [c],
    urgLost := if won.length < hs.length then s.frm.urgLost ++ [c.uid] else s.frm.urgLost,
    pkts := s.frm.pkts.map (fun p => if p.awaits c.uid then { p with due := max p.due (noticeFrame s.absBeat) } else p) } }
  if !s.inLight then s
  else airUrgent won (sendUrgent (s.absBeat + 4) won (won.foldl (writeOverlay c.vctl ((c.level?).getD 0)) s))

/-- URGENT_ACCEPT (R121, R123): at a beat boundary after its arrival, and one beat after the command ahead of it, the command in the urgent slot is
accepted. -/
def execUrgentAccept (s : State) : Outcome :=
  done s (fun s => match s.frm.urgQ with
    | [] => s
    | x :: _ => guardS (x.since < s.absBeat && s.frm.urgBeat.all (· < s.absBeat)) (acceptUrgent x) s)

/-! ### The EMERG input (R49, R122, R283) -/

/-- The EMERG input is asserted (R49). -/
def State.emerg (s : State) : Bool := s.pw.emergA || s.pw.emergB

/-- The preset holds the light; its sources are installed at the next commit (R122, R283). -/
def holdPreset (s : State) : State :=
  s.sl (fun t => { t with presetAct := true, pin := match t.pin with | .held b => .held b | _ => .held false })

/-- Handles with a valid preset entry. -/
def State.presetHandles (s : State) : List Nat := (s.slt.preset.filter (fun e => e.2.2)).map (·.1)

/-- The input asserts: the preset goes to every pole node for the start of beat b + 4 (R122). -/
def emergOn (s : State) : State :=
  let s := s.setFlag aSvcCarrier 2
  if !s.pw.main then s
  else
    let s := countUrgent (holdPreset s)
    if !s.inLight then s else airUrgent s.presetHandles (sendUrgent (s.absBeat + 4) s.presetHandles s)

/-- EMERG_ASSERT: the contacts that have been low for 2 µs; an unwired one stays inactive (R49). -/
def execEmergAssert (a b : Bool) (s : State) : Outcome :=
  done s (fun s =>
    let x := a && s.pw.carrier.emergA
    let y := b && s.pw.carrier.emergB
    guardS (s.pw.service && (x || y)) (fun s =>
      let was := s.emerg
      let s := { s with pw := { s.pw with emergA := s.pw.emergA || x, emergB := s.pw.emergB || y } }
      if was then s else emergOn s) s)

/-- EMERG_DEASSERT: the contacts that have been high for 2 µs; when neither is asserted any longer, the sources of the input go at the next commit
(R49, R122, R283). -/
def execEmergDeassert (a b : Bool) (s : State) : Outcome :=
  done s (fun s => guardS (s.pw.service && s.emerg) (fun s =>
    let s := { s with pw := { s.pw with emergA := s.pw.emergA && !a, emergB := s.pw.emergB && !b } }
    if s.emerg then s
    else s.sl (fun t => { t with pin := match t.pin with | .held _ => .released | p => p })) s)

end Sys2Proof.Machine
end

