-- ==== Sys2Proof/Machine/Freeze.lean ====
section
/-!
DEFINITION. Machine/Freeze.lean: composition, freeze and dispatch of a frame (R109, R117 to R119, R218, R223, R252, R258, R278, R284, R288, R389, R467).
-/
namespace Sys2Proof.Machine

/-! ### Carried work (R117, R307) -/

/-- The compositions that are carried, in their order: those of the handles named. -/
def State.carriedOf (s : State) (hs : List Nat) : List Nat := s.composeWork.filter hs.contains

/-- The tracks whose projection is carried: those named that project in this frame. -/
def State.carriedNodes (s : State) (ns : List Nat) : List Nat := ns.filter (fun n => (tget s.wak.cur n).isSome)

/-- Record the carried items: compositions, firings of schedules, and `n` projections. SYS_FRM_CARRY holds their number, SYS_FRM_OVR counts the frame, and
FRAME_OVERRUN goes to the owner. -/
def noteCarry (hs : List Nat) (fires : List (Nat × Nat)) (n : Nat) (s : State) : State :=
  let n := hs.length + fires.length + n
  let s := { s with frm := { s.frm with carried := hs, lateFires := fires } }.setReg aSysFrmCarry (min n (2 ^ 24 - 1))
  if n = 0 then s else (s.count aSysFrmOvr 0 32).owner 0x0401 [tCount n]

/-! ### The back slate -/

/-- Compose the back slate: programs, base sources, admission, dither and derating; the circuits granted admission (R258, R277, R280, R401). -/
def composeFrame (unfinished : List Nat) (s : State) : State × List Nat :=
  let before := s.slt.back
  let s := composeAll s.wakeLift unfinished (skipEvents s)
  let (s, granted) := inrushAdmit s
  let s := derateStep (backlog (ditherStep s.frm.now s))
  let keys := sortNat (before.map (·.1) ++ s.slt.back.map (·.1))
  let changed := (keys.filter (fun h => tgetD before h hold != s.backCode h)).length
  (s.sl (fun t => { t with frozen := true, composed := min (changed / 16) 65535 }), granted)

/-! ### Dispatch (R109, R118, R119, R218, R223) -/

/-- Lighting channels of a pole node. -/
def State.poleLamps (s : State) (g p : Nat) : List Nat :=
  match s.pole? g p with
  | some q => (poleHandles g p q).filter s.isLamp
  | none => []

/-- The FRAME message in this frame is a full refresh (R223). -/
def State.fullDue (s : State) (p : Nat) (q : Pole) : Bool := q.full || s.frm.now % 100 == (p - 1) % 100

/-- The entries of a pole node's FRAME message: every lighting channel in a full refresh, else those whose dispatch value differs from the value last
sent and those left unsent before (R109, R118). -/
def State.frameEntries (s : State) (g p : Nat) (q : Pole) : List (Nat × Nat) :=
  ((s.poleLamps g p).map (fun h => (h, s.dispatchCode h))).filter (fun e =>
    s.fullDue p q || q.owed.contains (hSlot e.1) || tget q.sent (hSlot e.1) != some e.2)

/-- Keep the codes that a pole node's channels hold after the dispatch, for the lamp checks (R317). -/
def noteCodes (hs : List Nat) (s : State) : State :=
  hs.foldl (fun s h => s.modChan h (fun c => { c with codes := (s.lastSent h :: c.codes).take 3 })) s

/-- Send one pole node its FRAME message (R218). -/
def sendFrame (g p : Nat) (q : Pole) (s : State) : State :=
  let es := s.frameEntries g p q
  let full := s.fullDue p q
  let s := es.foldl (fun s e => noteSent (s.frm.now + 1) e.1 e.2 s) s
  let slots := es.map (fun e => (hSlot e.1, e.2))
  sendPole g p .mslFrame ([s.frm.now + 1, b2n full] ++ entryArgs slots) (frameBody (s.frm.now + 1) full slots)
    (s.modPole g p (fun q => { q with full := false, behind := 0, owed := [] }))

/-- The tick will find the pole node's message unsent (R118). -/
def leaveFrame (g p : Nat) (q : Pole) (s : State) : State :=
  let slots := (s.frameEntries g p q).map (fun e => hSlot e.1)
  let s := { s with frm := { s.frm with late := insNat g s.frm.late } }
  s.modPole g p (fun q => { q with behind := q.behind + 1, owed := sortNat (q.owed ++ slots) })

/-- Serve one pole node; `unsent` lists the nodes, by the handle of slot 0, whose message is not sent before the tick. -/
def dispatchPole (unsent : List Nat) (s : State) (gp : Nat × Nat) : State :=
  match s.pole? gp.1 gp.2 with
  | none => s
  | some q =>
    noteCodes (s.poleLamps gp.1 gp.2)
      (if unsent.contains (mkHandle gp.1 gp.2 0) then leaveFrame gp.1 gp.2 q s else sendFrame gp.1 gp.2 q s)

/-- The nodes in order of dispatch: those left unsent before go first (R118). -/
def State.dispatchOrder (s : State) : List (Nat × Nat) :=
  let behind (gp : Nat × Nat) : Bool := (s.pole? gp.1 gp.2).any (fun q => q.behind > 0)
  s.served.filter behind ++ s.served.filter (fun gp => !behind gp)

/-- The dispatcher slices send every served pole node its FRAME message (R119). -/
def dispatchAll (unsent : List Nat) (s : State) : State := s.dispatchOrder.foldl (dispatchPole unsent) s

/-- INRUSH hints for the granted circuits (R278). -/
def sendHints (granted : List Nat) (s : State) : State :=
  (granted.filter (· < 64)).foldl (fun s k => s.toGeode 3 ([byte k, 0, 0, 0] ++ beBytes 8 (s.frm.now + 1))) s

/-- The frames of an entry that wait to be booked with the code it is sent at last: none where it is not sent now either (R389). -/
def State.bookLate (s : State) (unsent : List Nat) (h : Nat) : Option Nat :=
  if hRealm h ≠ 0 then some 0
  else match s.pole? (hString h) (hPos h) with
    | none => some 0
    | some q =>
      if unsent.contains (mkHandle (hString h) (hPos h) 0) && s.served.contains (hString h, hPos h) then none else some q.behind

/-! ### Registers (R287, R288) -/

/-- Handles of a stratum in a list. -/
def inStratum (st : Nat) (hs : List Nat) : Nat := (hs.filter (fun h => hRealm h == 0 && stratumOf (hString h) == st)).length

/-- The slate registers of a freeze. -/
def slateRegs (s : State) : State :=
  let t := s.slt
  let s := (((s.setReg aSltGlobal t.g).setReg aSltUrg t.overlay.length).setReg aSltPreset (t.preset.filter (fun e => e.2.2)).length)
  (List.range 16).foldl (fun s st =>
    (s.setReg (aStrSltStat st) (inStratum st (t.srcs.map (·.1)) + 65536 * inStratum st (t.overlay.map (·.1)))).setReg (aStrSltFrame st)
      (inStratum st t.lifted + 65536 * inStratum st (t.queue.map (·.handle)))) s

/-- Beat 64 of a frame (R109, R117): `unfinished` are the handles not composed in time, `unsent` the pole nodes whose message the tick will find
unsent, `nodes` the nodes whose projection is unfinished. -/
def freeze (unfinished unsent nodes : List Nat) (s : State) : State :=
  let hs := s.carriedOf unfinished
  let fires := s.unfired
  let ns := s.carriedNodes nodes
  let (s, granted) := composeFrame unfinished s
  let s := noteCarry hs fires ns.length s
  let s := attribBook (s.frm.now + 1) s.dispatchCode (s.bookLate unsent) s
  let s := airLightQueue (sendHints granted (dispatchAll unsent s))
  let s := wakeRegs (wakeFinal ns s)
  bankLeaves (slateRegs (attribRegs s))

/-- BACK_SLATE_FREEZE. -/
def execBackSlateFreeze (unfinished unsent nodes : List Nat) (s : State) : Outcome :=
  done s (fun s => guardS (s.inLight && s.frm.beat == 64 && !s.slt.frozen) (freeze unfinished unsent nodes) s)

end Sys2Proof.Machine
end

