-- ==== Sys2Proof/Machine/Timers.lean ====
section
/-!
DEFINITION. Machine/Timers.lean: what happens as the counter moves on: timer channels fire, pulses end, beats begin (R80, R84 to R88, R98, R99, R103 to R107), and
the commands that come at an instant within a beat.
-/
namespace Sys2Proof.Machine

/-! ### Outputs (R98, R99, R104, R106) -/

/-- Cable advance of the outputs, LDS_SX1_DLY.PPS_OUT (R99). -/
def State.outAdvance (s : State) : Nat := fieldOf (s.reg aLdsSx1Dly) 16 16

/-- An edge of an output for the LDS_NS value `at_`: the level is the OR of its pulses, nothing is driven in UNSET, and the edge comes earlier by the
cable advance. -/
def driveOut (k : Msg) (pulses : Tbl Nat) (at_ : Nat) (s : State) : State :=
  s.send k 0 [b2n (s.lds.st != .unset && !pulses.isEmpty), (at_ + 2 ^ 32 - s.outAdvance) % 2 ^ 32]

/-- The pulse of a channel on PPS_OUT ends. -/
def endPps (n at_ : Nat) (s : State) : State :=
  let s := s.lds' (fun l => { l with ppsOut := terase l.ppsOut n })
  driveOut .ppsOut s.lds.ppsOut at_ s

/-- The pulse of a channel on FSYNC_OUT ends. -/
def endFsync (n at_ : Nat) (s : State) : State :=
  let s := s.lds' (fun l => { l with fsyncOut := terase l.fsyncOut n })
  driveOut .fsyncOut s.lds.fsyncOut at_ s

/-! ### Firing (R103, R104, R106) -/

/-- The SNAPSHOT trigger of a channel: the SNAPSHOT message of the time that the channel was set to, source 0 (R104, R352, R385). -/
def snapTrigger (cmp : Nat) (s : State) : State :=
  let t := match s.geo.mir.snaps.find? (fun x => x.2.2.2 % 2 ^ 32 == cmp) with
    | some x => x.2.2.2
    | none => s.ns
  s.toGeode 2 (snapContent t 0)

/-- The trigger of a channel reaches its internal destination (R104): the frame tick falls due, a snapshot is ordered, the sweep unit latches, or a wake
handoff epoch begins. -/
def deliver (dest n cmp : Nat) (s : State) : State :=
  let s := s.send .trigger dest [n]
  match dest with
  | 3 => { s with frm := { s.frm with tickDue := true } }
  | 4 => snapTrigger cmp s
  | 5 => guardS s.spOn sweepLatch s
  | 6 => guardS s.wakesOn (if n = 5 then wakeEpoch ⟨[], []⟩ else poolEpoch) s
  | _ => s

/-- One armed channel fires: `first` tells that no lower channel fires at this tick toward the same internal destination. -/
def fireTimer (n : Nat) (first : Bool) (s : State) : State :=
  let w := s.reg (aLdsTmrCtl n)
  if !bit w 0 then s
  else
    let dest := fieldOf w 2 3
    let cmp := s.reg (aLdsTmrCmp n)
    let s := s.setFlag (aLdsTmrCtl n) 8
    let s := if bit w 1 then s.setReg (aLdsTmrCmp n) ((cmp + s.reg (aLdsTmrPer n)) % 2 ^ 32)
      else s.setReg (aLdsTmrCtl n) (clrBit (s.reg (aLdsTmrCtl n)) 0)
    let fin := (s.lds.nsReg + s.tmrWid n * 1000) % 2 ^ 32
    match dest with
    | 0 => s
    | 1 => let s := s.lds' (fun l => { l with ppsOut := tset l.ppsOut n fin }); driveOut .ppsOut s.lds.ppsOut cmp s
    | 2 => let s := s.lds' (fun l => { l with fsyncOut := tset l.fsyncOut n fin }); driveOut .fsyncOut s.lds.fsyncOut cmp s
    | d => if first then deliver d n cmp s else s.setFlag (aLdsTmrCtl n) 10

/-- The channels that fire at this tick: armed, and (LDS_NS - CMP) mod 2^32 below 2^31. -/
def State.firing (s : State) : List Nat := (List.range 16).filter (fun n => bit (s.reg (aLdsTmrCtl n)) 0 && tmrPassed s n)

/-- A LDS_NS value has been reached. -/
def State.reached (s : State) (v : Nat) : Bool := (s.lds.nsReg + 2 ^ 32 - v) % 2 ^ 32 < 2 ^ 31

/-- What falls on this tick: pulses end, and the channels that reached their compare fire in ascending order. -/
def atTick (s : State) : State :=
  let s := (s.lds.ppsOut.filter (fun e => s.reached e.2)).foldl (fun s e => endPps e.1 e.2 s) s
  let s := (s.lds.fsyncOut.filter (fun e => s.reached e.2)).foldl (fun s e => endFsync e.1 e.2 s) s
  let chs := s.firing
  chs.foldl (fun t n => fireTimer n (!chs.any (fun m => m < n && s.tmrDest m == s.tmrDest n)) t) s

/-- The least number of a list. -/
def minOf : List Nat → Option Nat
  | [] => none
  | a :: l => some (l.foldl min a)

/-- Ticks until the next channel fires or the next pulse ends. -/
def State.nextEvent (s : State) : Option Nat :=
  let at_ (v : Nat) : Nat := if s.reached v then 0 else s.lds.ticksTo v
  minOf (((List.range 16).filter (fun n => bit (s.reg (aLdsTmrCtl n)) 0)).map (fun n => at_ (s.reg (aLdsTmrCmp n)))
    ++ (s.lds.ppsOut ++ s.lds.fsyncOut).map (fun e => at_ e.2))

/-- `n` Lodestone ticks pass, with what falls on them, up to a number of such moments. -/
def runTicks : Nat → Nat → State → State
  | 0, n, s => passTicks n s
  | f + 1, n, s => match s.nextEvent with
    | some k => if k ≤ n then runTicks f (n - k) (atTick (passTicks k s)) else passTicks n s
    | none => passTicks n s

/-- At most so many moments of firing are run through within one beat. -/
def tickFuel : Nat := 1024

/-- An instant `n` ticks on, held to the present beat: a command that comes within a beat never passes the start of the next (log 38). -/
def State.within (s : State) (n : Nat) : State := if s.lds.on then runTicks tickFuel (min n (s.ticksToBeat - 1)) s else s

/-- Ticks until LDS_NS reaches a value; none are left once it has been reached. -/
def State.ticksUntil (s : State) (v : Nat) : Nat := if s.reached v then 0 else s.lds.ticksTo v

/-- TIMER_FIRE (R103, R106): the counter reaches the compare value of an armed channel, where that lies within the present beat; every channel that
reaches its own on the way fires too. -/
def execTimerFire (n : Nat) (s : State) : Outcome :=
  done s (fun s =>
    let k := s.ticksUntil (s.reg (aLdsTmrCmp n))
    guardS (s.lds.on && n < 16 && bit (s.reg (aLdsTmrCtl n)) 0 && k < s.ticksToBeat) (runTicks tickFuel k) s)

/-- TIMER_PULSE_END (R104, R106): the counter reaches the end of the pulse of a channel, WID after its start, where that lies within the present beat. -/
def execTimerPulseEnd (n : Nat) (s : State) : Outcome :=
  done s (fun s => match (tget s.lds.ppsOut n).or (tget s.lds.fsyncOut n) with
    | some v =>
      let k := s.ticksUntil v
      guardS (s.lds.on && k < s.ticksToBeat) (runTicks tickFuel k) s
    | none => s)

/-! ### Beats (R86, R87, R116) -/

/-- A beat begins: while Lodestone runs, the counter reaches the compare value of the frame tick plus k × 125,000 ns with what falls on the way, a written
LDS_INC takes effect, and the edge goes to the Geode; else the oscillator of the service logic counts (R81, R86, R87, R116). At beat 0 the frame tick is
due. -/
def beatBoundary (s : State) : State :=
  let b := (s.frm.beat + 1) % 80
  let s := if s.lds.on then runTicks tickFuel s.ticksToBeat s else s
  let s := { s with frm := { s.frm with beat := b, tickDue := s.frm.tickDue || b == 0 } }
  if s.lds.on then (s.lds' (takeInc (80 * (s.frm.now + b2n (b == 0)) + b))).send .beatEdge 0 [b] else s

/-- Beats pass until the frame tick is due, with fuel. -/
def toBoundary : Nat → State → State
  | 0, s => s
  | f + 1, s => if s.frm.tickDue then s else toBoundary f (beatBoundary s)

/-- The levels on the GPIO contacts, which SVC_GPIO_IN shows within a beat (R79). -/
def sampleGpio (gpio : Nat) (s : State) : State := if s.pw.service then { s with pw := { s.pw with gpioIn := gpio % 2 ^ 16 } } else s

/-- BEAT_BOUNDARY, with the levels found on the GPIO contacts and the resistance of KX1 (R67, R79). -/
def execBeatBoundary (io : BeatIn) (s : State) : Outcome :=
  done s (fun s => guardS s.pw.service (fun s => beatBoundary (sampleLoop (sampleGpio io.gpio s) io.ohm)) s)

/-- COUNTER_WRAP (R80, R85): the counter wraps within the present beat, and LDS_WRAP counts it. -/
def execCounterWrap (s : State) : Outcome :=
  done s (fun s =>
    let k := s.lds.ticksFor (2 ^ 32 - s.lds.nsReg)
    guardS (s.lds.on && k < s.ticksToBeat) (runTicks tickFuel k) s)

/-! ### Commands at an instant within a beat -/

/-- An instant in the present frame: `beats` beats on, no further than the frame tick, and `ticks` into the beat. -/
def State.later (s : State) (beats ticks : Nat) : State := (toBoundary beats s).within ticks

/-- LDS_NS_READ (R84, R85), at an instant of the present frame. -/
def execLdsNsRead (beats ticks : Nat) (s : State) : Outcome := done s (fun s => nsRead (s.later beats ticks))

/-- PPS_IN_EDGE (R94), `ticks` after the latest event. -/
def execPpsInEdge (ticks : Nat) (s : State) : Outcome := done s (fun s => guardS s.lds.on (fun s => ppsEdge (s.within ticks)) s)

/-- TOD_RX_SENTENCE (R97), its last character `ticks` after the latest event. -/
def execTodRxSentence (ticks : Nat) (t : TodSentence) (sumOk : Bool) (s : State) : Outcome :=
  done s (fun s => guardS s.lds.on (fun s => todSentence t sumOk (s.within ticks)) s)

/-- FSYNC_IN_EDGE (R100), at an instant of the present frame; in frame-sync slave mode, while EN_FSYNC is 1. -/
def execFsyncInEdge (beats ticks : Nat) (s : State) : Outcome :=
  done s (fun s => guardS (s.lds.on && s.lds.fsyncSlave && s.lds.enFsync) (fun s => fsyncEdge (s.later beats ticks)) s)

end Sys2Proof.Machine
end

