-- ==== Sys2Proof/Machine/Ptp.lean ====
section
/-!
DEFINITION. Machine/Ptp.lean: the PTP instance (R88 to R91, R93, R94; IEEE 1588-2019 clauses 9.3 and 11, log 83).
-/
namespace Sys2Proof.Machine

/-- Change a PTP port. -/
def State.modPtp (s : State) (port : Nat) (f : PtpPort → PtpPort) : State := s.lds' (fun l => { l with ptp := tmod l.ptp port f })

/-! ### Stamps (R88 to R90) -/

/-- An ingress stamp taken now as PTP uses it, in tenths of a ns: extended, C_in and the owner's ingress delay subtracted (R84, R89, R90). -/
def State.ptpIn (s : State) (port : Nat) (p : PtpPort) : Int := 10 * (s.ns : Int) - (portConst (s.portMode port)).1 - 10 * p.inDelay

/-- An egress stamp taken now as PTP uses it, in tenths of a ns: extended, C_eg and the owner's egress delay added (R84, R89, R90). -/
def State.ptpEg (s : State) (port : Nat) (p : PtpPort) : Int := 10 * (s.ns : Int) + (portConst (s.portMode port)).2 + 10 * p.egDelay

/-! ### Port states (R91) -/

/-- Frames of a power of two of seconds, times `n`. -/
def logFrames (n : Nat) (k : Int) : Nat := if k ≥ 0 then n * 100 * 2 ^ k.toNat else n * 100 / 2 ^ (-k).toNat

/-- A list of numbers comes before another of the same length. -/
def lexLess : List Nat → List Nat → Bool
  | a :: l, b :: m => a < b || (a == b && lexLess l m)
  | _, _ => false

/-- The data set comparison of two Announce messages: a is better than b. -/
def annBetter (a b : AnnData) : Bool :=
  if a.gm ≠ b.gm then lexLess [a.prio1, a.cls, a.acc, a.var, a.prio2, a.gm] [b.prio1, b.cls, b.acc, b.var, b.prio2, b.gm]
  else lexLess [a.steps, a.src, a.srcPort] [b.steps, b.src, b.srcPort]

/-- The instance's own data set; priorities, accuracy and variance are the defaults of the profiles (PRESUMED, log 83). -/
def Lodestone.own (l : Lodestone) : AnnData := ⟨128, l.clockClass, 0xFE, 0xFFFF, 128, Config.moduleEui, 0, Config.moduleEui, 0⟩

/-- A foreign master counts once two of its Announce messages came within four announce intervals, and as long as they stay current. -/
def Foreign.counts (f : Foreign) (p : PtpPort) (now : Nat) : Bool :=
  f.prev.any (fun x => f.last ≤ x + logFrames 4 p.logAnn) && now ≤ f.last + logFrames 4 p.logAnn

/-- The better of two. -/
def annBest (a : Option AnnData) (d : AnnData) : Option AnnData :=
  match a with
  | none => some d
  | some x => if annBetter d x then some d else some x

/-- The best Announce of a port. -/
def PtpPort.best (p : PtpPort) (now : Nat) : Option AnnData := ((p.foreign.filter (fun f => f.counts p now)).map (·.data)).foldl annBest none

/-- The best Announce of all ports, and the lowest port that heard it. -/
def State.annOf (s : State) : Option (Nat × AnnData) :=
  s.lds.ptp.foldl (fun b e => match e.2.best s.frm.now, b with
    | none, b => b
    | some d, none => some (e.1, d)
    | some d, some x => if annBetter d x.2 then some (e.1, d) else some x) none

/-- The state that a port takes: the owner's, or that of the default BMCA. -/
def State.ptpState (s : State) (port : Nat) (p : PtpPort) : PtpState :=
  if p.role = 1 then .master
  else if p.role = 2 then .slave
  else
    let own := s.lds.own
    let mine := p.best s.frm.now
    if own.cls ≤ 127 then (if mine.all (annBetter own) then (if mine.isNone then p.st else .master) else .passive)
    else match s.annOf with
      | none => p.st
      | some (q, d) =>
        if annBetter own d then .master
        else if q = port then .slave
        else if mine.any (fun m => m.gm == d.gm && annBetter d m) then .passive else .master

/-- A port in a new state: one that is not SLAVE keeps no offset. -/
def PtpPort.enter (p : PtpPort) (st : PtpState) : PtpPort :=
  if st = .slave then { p with st := st } else { p with st := st, offs := [], sync := none, m2s := none, foreign := p.foreign }

/-- Port state selection; PTP counts as lost when no port in SLAVE is left (R91, R94). -/
def selectPtp (s : State) : State :=
  ptpCheckLost (s.lds' (fun l => { l with ptp := tmap l.ptp (fun k p => p.enter (s.ptpState k p)) }))

/-- An Announce is taken. -/
def takeAnnounce (port : Nat) (d : AnnData) (s : State) : State :=
  if d.src = Config.moduleEui || d.steps ≥ 255 then s
  else
    let now := s.frm.now
    selectPtp (s.modPtp port (fun p =>
      let old := p.foreign.find? (fun f => f.data.src == d.src && f.data.srcPort == d.srcPort)
      let f : Foreign := { data := d, last := now, prev := old.map (·.last) }
      { p with annAt := now, foreign := (f :: p.foreign.filter (fun f => !(f.data.src == d.src && f.data.srcPort == d.srcPort))).take 5 }))

/-! ### Offsets (R90, R94) -/

/-- A Sync is complete: ingress time, origin and correction give the offset, target minus local time, with the path delay and the owner's asymmetry. -/
def takeOffset (port : Nat) (rx : Int) (origin : Nat) (corr : Int) (s : State) : State :=
  match tget s.lds.ptp port with
  | none => s
  | some p =>
    let m2s := rx - 10 * origin - corr - 10 * p.asym
    let off := tdiv (p.mpd - m2s) 10
    let o := s.obs off
    let s := s.modPtp port (fun p => { p with m2s := some m2s, sync := none, offs := (o :: p.offs).take 64 })
    let s := noteOffset .ptp off s
    let offs := ((tget s.lds.ptp port).map (·.offs)).getD []
    if s.lds.qual.contains .ptp then ptpCheckLost s
    else if offs.length = 64 && sdBelow s.lds.sdNs offs then qualify .ptp s
    else s

/-- A delay measurement is complete: the mean of both directions (end to end). -/
def takeDelay (port seq rx : Nat) (corr : Int) (p : PtpPort) (s : State) : State :=
  match p.req, p.m2s with
  | some (k, tx), some m => if k = seq then s.modPtp port (fun p => { p with mpd := tdiv (m + (10 * rx - tx - corr + 10 * p.asym)) 2, req := none }) else s
  | _, _ => s

/-- A peer delay measurement is complete: `turn` is the time that the peer held the request. -/
def takePdelay (port seq : Nat) (rx turn corr : Int) (p : PtpPort) (s : State) : State :=
  match p.req with
  | some (k, tx) => if k = seq then s.modPtp port (fun p => { p with mpd := tdiv (rx - tx - turn - corr) 2, req := none, presp := none }) else s
  | none => s

/-- Send a PTP message of the instance on a port: type, sequence, domain, and what follows; event messages are stamped at egress (R88, R91). -/
def sendPtp (port ty seq : Nat) (args : List Nat) (s : State) : State :=
  (if ty < 8 then noteEg port s else s).send .ptpTx port ([ty, seq, s.lds.domain] ++ args)

/-- A PTP message of the instance's domain and of a supported part (R91). -/
def ptpMessage (port : Nat) (p : PtpPort) (m : PtpMsg) (s : State) : State :=
  let rx := s.ptpIn port p
  match m with
  | .unsupported => s
  | .announce d => if p.role = 1 then s else takeAnnounce port d s
  | .sync two seq origin corr =>
    if p.st ≠ .slave then s
    else if two then s.modPtp port (fun p => { p with sync := some (seq, rx, corr) })
    else takeOffset port rx origin corr s
  | .followUp seq origin corr => match p.sync with
    | some (k, t, c) => if p.st = .slave && k = seq then takeOffset port t origin (c + corr) s else s
    | none => s
  | .delayReq seq src => if p.st = .master && p.mech = 0 then sendPtp port 9 seq [src, (tdiv rx 10).toNat] s else s
  | .delayResp seq t corr => if p.mech = 0 then takeDelay port seq t corr p s else s
  | .pdelayReq seq src =>
    if p.mech = 0 then s
    else
      let t2 := (tdiv rx 10).toNat
      let t3 := (tdiv (s.ptpEg port p) 10).toNat
      if p.step = 1 then sendPtp port 3 seq [src, 0, t3 - t2] s else sendPtp port 10 seq [src, t3] (sendPtp port 3 seq [src, t2, 0] s)
  | .pdelayResp two seq t corr =>
    if p.mech = 0 then s
    else if two then s.modPtp port (fun p => { p with presp := some (seq, 10 * t, rx, corr) })
    else takePdelay port seq rx 0 corr p s
  | .pdelayFollowUp seq t corr => match p.presp with
    | some (k, t2, t4, c) => if k = seq then takePdelay port seq t4 (10 * t - t2) (c + corr) p s else s
    | none => s

/-- PTP_MESSAGE, `hdr.ticks` after the latest event: on an enabled port, in the owner's management VLAN, in the instance's domain and with supported parts
only; every other message there is discarded and counted (R91). -/
def execPtpMessage (port : Nat) (hdr : PtpHdr) (m : PtpMsg) (s : State) : Outcome :=
  done s (fun s => guardS (s.lds.on && (tget s.lds.ptp port).isSome) (fun s =>
    let s := noteIn port (s.within hdr.ticks)
    if hdr.domain ≠ s.lds.domain || m = .unsupported then s.modPtp port (fun p => { p with drops := p.drops + 1 })
    else match tget s.lds.ptp port with
      | some p => ptpMessage port p m s
      | none => s) s)

/-- The announceReceiptTimeout of a port has passed since its latest Announce. -/
def State.annLost (s : State) (p : PtpPort) : Bool := p.annAt + logFrames p.annTmo p.logAnn ≤ s.frm.now

/-- ANNOUNCE_RECEIPT_TIMEOUT (R91, R94): the port becomes MASTER, unless the owner holds it in SLAVE. -/
def execAnnounceReceiptTimeout (port : Nat) (s : State) : Outcome :=
  done s (fun s => guardS ((tget s.lds.ptp port).any (fun p => p.st != .master && s.annLost p))
    (fun s => selectPtp (s.modPtp port (fun p => ({ p with foreign := [] } : PtpPort).enter (if p.role = 2 then .slave else .master)))) s)

/-! ### Transmission (R91, R93) -/

/-- How many times an interval of 2^k seconds ends in frame `f`. -/
def logDue (k : Int) (f : Nat) : Nat :=
  let m (x : Nat) : Nat := if k ≥ 0 then x / (100 * 2 ^ k.toNat) else x * 2 ^ (-k).toNat / 100
  m (f + 1) - m f

/-- Repeat an action. -/
def times : Nat → (State → State) → State → State
  | 0, _, s => s
  | n + 1, f, s => times n f (f s)

/-- Send the next message of a port. -/
def sendNext (port ty : Nat) (args : PtpPort → List Nat) (s : State) : State :=
  match tget s.lds.ptp port with
  | some p => (sendPtp port ty (p.seq % 65536) (args p) s).modPtp port (fun p => { p with seq := p.seq + 1 })
  | none => s

/-- An Announce of a master port: the data set of the grandmaster, with the clockClass of R93, and TAI minus UTC. -/
def sendAnnounce (port : Nat) (s : State) : State :=
  let up := s.lds.ptp.find? (fun e => e.2.st == .slave)
  let d : AnnData := match up.bind (fun e => e.2.best s.frm.now) with
    | some d => { d with steps := d.steps + 1 }
    | none => s.lds.own
  sendNext port 11 (fun _ => [d.prio1, s.lds.clockClass, d.acc, d.var, d.prio2, d.gm, d.steps, s.lds.tai (s.ns / 1000000000)]) s

/-- A Sync of a master port: one-step with its own egress time, or two-step with a Follow_Up. -/
def sendSync (port : Nat) (s : State) : State :=
  match tget s.lds.ptp port with
  | none => s
  | some p =>
    let t := (tdiv (s.ptpEg port p) 10).toNat
    if p.step = 1 then sendNext port 0 (fun _ => [0, t]) s
    else sendPtp port 8 (p.seq % 65536) [t] (sendNext port 0 (fun _ => [1, 0]) s)

/-- A delay request of a port, whose egress time is kept. -/
def sendDelayReq (port ty : Nat) (s : State) : State :=
  match tget s.lds.ptp port with
  | none => s
  | some p => (sendNext port ty (fun _ => []) s).modPtp port (fun q => { q with req := some (p.seq % 65536, s.ptpEg port p) })

/-- What a port sends in a frame by its intervals. -/
def ptpPortTick (port : Nat) (p : PtpPort) (s : State) : State :=
  let now := s.frm.now
  let s := if p.st = .master then times (logDue p.logSync now) (sendSync port) (times (logDue p.logAnn now) (sendAnnounce port) s) else s
  if p.mech = 1 then times (logDue p.logDelay now) (sendDelayReq port 2) s
  else if p.st = .slave then times (logDue p.logDelay now) (sendDelayReq port 1) s
  else s

/-- What the instance sends in a frame. -/
def ptpTick (s : State) : State := if s.lds.on then s.lds.ptp.foldl (fun s e => ptpPortTick e.1 e.2 s) s else s

end Sys2Proof.Machine
end

