-- ==== Sys2Proof/Machine/Frame.lean ====
section
/-!
DEFINITION. Machine/Frame.lean: the frame tick: swap, commit, release (R87, R109 to R118, R124, R125, R142 to R148, R173 to R178, R283, R393).
-/
namespace Sys2Proof.Machine

/-! ### The end of the old frame -/

/-- What the bridge discarded in the frame: BRIDGE_LATE for each string, BRIDGE_DISCARD for each vCtl and endpoint (R237, R248). -/
def bridgeNews (s : State) : State :=
  s.brg.grains.foldl (fun s e =>
    let s := if e.2.lateNow = 0 then s else s.owner 0x0302 [tPort e.1, tCount e.2.lateNow]
    let s := e.2.dropNow.foldl (fun s d => match s.localOf d.1 d.2.1 with
      | some l => s.raise d.1 0x0301 [tEp [l], tCount d.2.2]
      | none => s) s
    s.modGbr e.1 (fun b => { b with lateNow := 0, dropNow := [] })) s

/-- The next frame begins. -/
def nextFrame (s : State) : State := { s with frm := { s.frm with now := s.frm.now + 1, tickDue := false } }

/-- What Lodestone counts by frames (R94, R100, R101, R108, R533). -/
def lodestoneFrame (s : State) : State :=
  if !s.lds.on then s
  else
    let miss := s.lds.fsyncSlave && !s.lds.fsSeen
    let s := if miss then s.setFlag aLdsStat 18 else s
    let s := s.lds' (fun l => { l with
      incHist := if s.frm.now % 100 = 0 then (l.inc :: l.incHist).take 1000 else l.incHist,
      holdFrames := if l.st = .holdover then satAdd 32 l.holdFrames 1 else l.holdFrames,
      fsMiss := if miss then l.fsMiss + 1 else 0, fsRun := if miss then [] else l.fsRun, fsSeen := false })
    s.setBoot (fun b => { b with timed := if b.timed.isNone && s.lds.st != .unset then some s.frm.now else b.timed })

/-- What the module measures on the carrier as the frame begins: input power and the feeds' voltages (R69, R79). -/
def measure (i : TickIn) (s : State) : State :=
  senseFeed .b i.mvB (senseFeed .a i.mvA { s with pw := { s.pw with inputW := i.watts % 2 ^ 16 } })

/-- What the power controller and the start-up log count by frames (R535, R564), and the end of a UX1 swap (R551). -/
def countFrame (s : State) : State :=
  let s := s.th (fun t => { t with pcFrames := t.pcFrames + 1 })
  ux1SwapEnd (if !s.boot.inService then s
    else s.setBoot (fun b => { b with served := b.served + 1, attempts := if b.served + 1 ≥ 360000 then 0 else b.attempts }))

/-! ### Swap, overrun of the dispatch, tokens -/

/-- The slates swap: the back slate comes to the front and is copied back, overlay entries that are due are cleared, and the preset is withdrawn once
the composition without it shows (R124, R252, R283). -/
def swapSlates (s : State) : State :=
  if !s.inLight then s
  else s.sl (fun t => { t with
    front := t.back, frontNo := 1 - t.frontNo, frozen := false, overlay := tkeep t.overlay (fun _ o => o.clear > s.frm.now),
    presetAct := if t.pin = .ending then false else t.presetAct, pin := if t.pin = .ending then .idle else t.pin })

/-- DISPATCH_OVERRUN: a slice had not sent every delta at the tick (R118). -/
def dispatchOverrun (s : State) : State :=
  if s.frm.late.isEmpty then s
  else { ((s.count aSysDispOvr 0 32).owner 0x0402 [tBitmap (bitmapBytes 32 s.frm.late)]) with frm := { s.frm with late := [] } }

/-- TOKEN_REFILL (R115, R173, R174). -/
def refill (f cap : Nat) (c : VCtl) : VCtl :=
  let t := min c.tokens c.q.burst
  if turnFrame c f then { c with tokens := min c.q.burst (t + c.q.refill), spent := 0, allow := turnAllow c cap }
  else { c with tokens := t, spent := 0, allow := 0 }

/-- Rates and shares that an earlier commit lowered take force (R172, R577). -/
def settleRates (c : VCtl) : VCtl := { c with rateNow := c.q.rate, dwellNow := c.q.dwell }

/-- Capacity, tokens and the allowances of the new frame (R113, R115, R116, R120, R173). -/
def openFrame (s : State) : State :=
  let cap := s.capacity
  { s with
    frm := { s.frm with cap := cap },
    ten := { s.ten with vctls := tmap s.ten.vctls (fun _ c => refill s.frm.now cap (settleRates c)) },
    ses := { s.ses with assoc := tmap s.ses.assoc (fun _ a => { a with accepted := 0, urgent := 0 }) } }

/-! ### The commit (R111, R178) -/

/-- Put the reply of a committed command into the packet that waits for it. -/
def fillEntry (uid : Nat) (r : Reply) (s : State) : State :=
  { s with frm := { s.frm with pkts := s.frm.pkts.map (fun p => { p with entries := p.entries.map (fun e => if e = .wait uid then .done r else e) }) } }

/-- The vCtl of a command still stands; the commands of a removed one are discarded (R163). -/
def State.stands (s : State) (c : Cmd) : Bool := c.vctl < 2 || s.active c.vctl

/-- An urgent command whose overlay was not written everywhere has lost (R181). -/
def lostUrgent (s : State) (c : Cmd) (r : Reply) : Reply :=
  if s.frm.urgLost.contains c.uid && r.status == stOk then { r with status := stConflictLost } else r

/-- Commit one command. One that was accepted before the module fell to MAINTENANCE commits only where R525 admits it there (R116; DESIGN CHOICE, log
11). -/
def commitOne (s : State) (c : Cmd) : State :=
  if !s.stands c then s
  else match opAt c.op with
    | none => s
    | some i =>
      let (s, r) := if s.inMaint && !i.maint c then (s, c.reply stMaintenanceOnly) else commitWith i c s
      fillEntry c.uid (lostUrgent s c r) s

/-- Step 1 of R178. -/
def isOwnerOp (c : Cmd) : Bool := c.op / 256 == 0x80
/-- Step 2 of R178. -/
def isRelease (c : Cmd) : Bool := c.op == 0x0103 && c.nat 0x000D == 1
/-- Step 3 of R178. -/
def isAcquire (c : Cmd) : Bool := c.op == 0x0103 && c.nat 0x000D != 1

/-- Commands by ascending vCtl, each vCtl's in order of acceptance. -/
def byVctl (l : List Cmd) : List Cmd := (sortNat (l.map (·.vctl))).flatMap (fun v => l.filter (fun c => c.vctl == v))

/-- The sources of the EMERG input follow the input at the commit (R122, R283). -/
def commitPin (s : State) : State :=
  match s.slt.pin with
  | .held false =>
    let s := s.presetHandles.foldl (fun s h => match s.presetLevel h with
      | some l => setSrc h { rank := 4, vctl := 0, prog := .level l, pin := true } s
      | none => s) s
    s.sl (fun t => { t with pin := .held true })
  | .released => ((s.slt.srcs.map (·.1)).foldl (fun s h => endSrcs h (·.pin) s) s).sl (fun t => { t with pin := .ending })
  | _ => s

/-- Semaphore leases and waits that end at this commit (R244, R246). -/
def commitSems (f : Nat → State → State) (s : State) : State := (s.brg.grains.map (·.1)).foldl (fun s g => f g s) s

/-- The commit of the commands accepted in the frame before, in the order of R178. Within step 4 too the lower-numbered vCtl goes first, so that of two
requests for one object it is served, and its source is in place when an equal-rank one of a higher-numbered vCtl is answered (R180, R182). -/
def commitAll (s : State) : State :=
  let l := s.frm.accepted
  let s := { s with frm := { s.frm with accepted := [] } }
  let s := (l.filter isOwnerOp).foldl commitOne s
  let s := expireLeases ((l.filter isRelease).foldl commitOne s)
  let s := (byVctl (l.filter isAcquire)).foldl commitOne s
  let s := commitSems semLeases s
  let s := (byVctl (l.filter (fun c => !isOwnerOp c && c.op != 0x0103))).foldl commitOne s
  let s := commitSems semWaits s
  { s with frm := { s.frm with urgLost := [] } }

/-! ### The tick -/

/-- EMERG still asserted when the main domain returns (R49, R122). -/
def senseEmerg (s : State) : State :=
  match s.slt.pin with
  | .held _ => s
  | _ => if s.pw.main && s.emerg then holdPreset s else s

/-- The end of the old frame and the start of the new one: the beats that are left pass, unless BEAT_BOUNDARY has brought them. -/
def turnFrames (i : TickIn) (s : State) : State :=
  let s := missingRecord s.frm.now (bridgeNews s)
  let s := measure i (countFrame (lodestoneFrame (nextFrame (toBoundary 80 s))))
  openFrame (dispatchOverrun (senseEmerg (swapSlates (thermTick s))))

/-- What beat 0 commits and releases. -/
def commitFrame (s : State) : State :=
  let s := commitAll (commitPin (installFails (concludeAll s)))
  let s := releaseEvents (releaseReplies s)
  if s.lds.on then s.toGeode 1 (beBytes 8 s.frm.now ++ beBytes 8 (s.frm.now * 10000000)) else s

/-- The hardware events of this beat 0 that W1C fields record stand after the writes that it commits (R16): FSYNC_MISS, the FIRED of the frame tick's
own channel, and STEP_SEEN of a thermal step. -/
def boundaryFlags (before s : State) (t : State) : State :=
  let t := if t.lds.on && s.lds.fsMiss > 0 then t.setFlag aLdsStat 18 else t
  let t := if t.lds.on && bit (s.reg (aLdsTmrCtl 0)) 8 then t.setFlag (aLdsTmrCtl 0) 8 else t
  if before.thm.next.any (before.thm.step < ·) then t.setFlag aThmFlags 0 else t

/-- The frame work of the new frame that no other command starts (R303, R329, R399): `room` fits of attribution find time. -/
def frameWork (room : Nat) (s : State) : State :=
  if s.inLight then wakePhase1 (attribFit (s.frm.now - 1) room (streamEvents s)) else s

/-- FRAME_TICK (R109): `room` observations fit the reserve of the frame, and `i` is what the module measures on the carrier. -/
def frameTick (room : Nat) (i : TickIn) (s : State) : State :=
  let t := turnFrames i s
  updateTick i.start (ptpTick (announce (dropEvents (frameWork room (boundaryFlags s t (commitFrame t))))))

/-- FRAME_TICK. -/
def execFrameTick (room : Nat) (inp : TickIn) (s : State) : Outcome := done s (fun s => guardS s.pw.service (frameTick room inp) s)

end Sys2Proof.Machine
end

