-- ==== Sys2Proof/Machine/Dispatch.lean ====
section
/-!
DEFINITION. Machine/Dispatch.lean: one arm for each command, each arm one call of that command's meaning.
-/
namespace Sys2Proof.Machine

def exec (i : Instr) (s : State) : Host.Outcome State Fault Refusal :=
  match i with
  | .feedUsable feed start => Sys2Proof.Machine.execFeedUsable feed start s
  | .feedLost feed => Sys2Proof.Machine.execFeedLost feed s
  | .allFeedsLost => Sys2Proof.Machine.execAllFeedsLost s
  | .inputLow feed => Sys2Proof.Machine.execInputLow feed s
  | .inputHigh feed => Sys2Proof.Machine.execInputHigh feed s
  | .ovpTrip feed => Sys2Proof.Machine.execOvpTrip feed s
  | .ovpReconnect feed start => Sys2Proof.Machine.execOvpReconnect feed start s
  | .carrierRst => Sys2Proof.Machine.execCarrierRst s
  | .carrierRstRelease start => Sys2Proof.Machine.execCarrierRstRelease start s
  | .emergAssert a b => Sys2Proof.Machine.execEmergAssert a b s
  | .emergDeassert a b => Sys2Proof.Machine.execEmergDeassert a b s
  | .tamperLoop n ohm => Sys2Proof.Machine.execTamperLoop n ohm s
  | .gpioDirWrite dir => Sys2Proof.Machine.execGpioDirWrite dir s
  | .ux1Attach source => Sys2Proof.Machine.execUx1Attach source s
  | .ux1SourceCaps offers unconstrained typeC3A start => Sys2Proof.Machine.execUx1SourceCaps offers unconstrained typeC3A start s
  | .ux1PrSwapRequest => Sys2Proof.Machine.execUx1PrSwapRequest s
  | .ux1DrSwapRequest => Sys2Proof.Machine.execUx1DrSwapRequest s
  | .ux1PrSwapInitiate => Sys2Proof.Machine.execUx1PrSwapInitiate s
  | .ux1DrSwapInitiate => Sys2Proof.Machine.execUx1DrSwapInitiate s
  | .ux1Collision => Sys2Proof.Machine.execUx1Collision s
  | .ux1Detach vbus => Sys2Proof.Machine.execUx1Detach vbus s
  | .ux1PsRdyTimeout => Sys2Proof.Machine.execUx1PsRdyTimeout s
  | .ldsIncWrite v => Sys2Proof.Machine.execLdsIncWrite v s
  | .ldsOffsetLoad full => Sys2Proof.Machine.execLdsOffsetLoad full s
  | .ldsNsRead beats ticks => Sys2Proof.Machine.execLdsNsRead beats ticks s
  | .ldsFrameLoRead => Sys2Proof.Machine.execLdsFrameLoRead s
  | .counterWrap => Sys2Proof.Machine.execCounterWrap s
  | .timerArm n periodic cfg => Sys2Proof.Machine.execTimerArm n periodic cfg s
  | .timerFire n => Sys2Proof.Machine.execTimerFire n s
  | .timerPulseEnd n => Sys2Proof.Machine.execTimerPulseEnd n s
  | .beatBoundary io => Sys2Proof.Machine.execBeatBoundary io s
  | .ptpMessage port hdr m => Sys2Proof.Machine.execPtpMessage port hdr m s
  | .ppsInEdge ticks => Sys2Proof.Machine.execPpsInEdge ticks s
  | .ppsInMissing => Sys2Proof.Machine.execPpsInMissing s
  | .todRxSentence ticks t sumOk => Sys2Proof.Machine.execTodRxSentence ticks t sumOk s
  | .fsyncInEdge beats ticks => Sys2Proof.Machine.execFsyncInEdge beats ticks s
  | .fsyncLost => Sys2Proof.Machine.execFsyncLost s
  | .ref10Qualify => Sys2Proof.Machine.execRef10Qualify s
  | .ref10Lost => Sys2Proof.Machine.execRef10Lost s
  | .acqTimeout => Sys2Proof.Machine.execAcqTimeout s
  | .slewComplete => Sys2Proof.Machine.execSlewComplete s
  | .holdoverExpired => Sys2Proof.Machine.execHoldoverExpired s
  | .todTxSentence => Sys2Proof.Machine.execTodTxSentence s
  | .frameTick room inp => Sys2Proof.Machine.execFrameTick room inp s
  | .eventResend key => Sys2Proof.Machine.execEventResend key s
  | .scheduleFire v no ix => Sys2Proof.Machine.execScheduleFire v no ix s
  | .backSlateFreeze unfinished unsent nodes => Sys2Proof.Machine.execBackSlateFreeze unfinished unsent nodes s
  | .urgentPacket key bytes => Sys2Proof.Machine.execUrgentPacket key bytes s
  | .urgentAccept => Sys2Proof.Machine.execUrgentAccept s
  | .clientHello id hello path cookie => Sys2Proof.Machine.execClientHello id hello path cookie s
  | .serverFlight id => Sys2Proof.Machine.execServerFlight id s
  | .clientFinished id key => Sys2Proof.Machine.execClientFinished id key s
  | .dtlsAlert id => Sys2Proof.Machine.execDtlsAlert id s
  | .dtlsRetransmit id => Sys2Proof.Machine.execDtlsRetransmit id s
  | .handshakeTimeout id => Sys2Proof.Machine.execHandshakeTimeout id s
  | .assocIdleTimeout key => Sys2Proof.Machine.execAssocIdleTimeout key s
  | .dtlsKeyUpdate key acked => Sys2Proof.Machine.execDtlsKeyUpdate key acked s
  | .dtlsRecordLimit key => Sys2Proof.Machine.execDtlsRecordLimit key s
  | .commandPacket key bytes => Sys2Proof.Machine.execCommandPacket key bytes s
  | .sessionOpen vmaj src tlvs => Sys2Proof.Machine.execSessionOpen vmaj src tlvs s
  | .sessionClose src tlvs => Sys2Proof.Machine.execSessionClose src tlvs s
  | .keepalive src tlvs => Sys2Proof.Machine.execKeepalive src tlvs s
  | .deviceInfo src tlvs => Sys2Proof.Machine.execDeviceInfo src tlvs s
  | .regRead src tlvs => Sys2Proof.Machine.execRegRead src tlvs s
  | .regWrite src tlvs => Sys2Proof.Machine.execRegWrite src tlvs s
  | .lightLevel src tlvs => Sys2Proof.Machine.execLightLevel src tlvs s
  | .lightFade src tlvs => Sys2Proof.Machine.execLightFade src tlvs s
  | .lightLease src tlvs => Sys2Proof.Machine.execLightLease src tlvs s
  | .lightRead src tlvs => Sys2Proof.Machine.execLightRead src tlvs s
  | .lightEmergency src tlvs => Sys2Proof.Machine.execLightEmergency src tlvs s
  | .lightLevelX src tlvs => Sys2Proof.Machine.execLightLevelX src tlvs s
  | .stepTable src tlvs => Sys2Proof.Machine.execStepTable src tlvs s
  | .factorSet src tlvs => Sys2Proof.Machine.execFactorSet src tlvs s
  | .slateWindow src tlvs => Sys2Proof.Machine.execSlateWindow src tlvs s
  | .groupDefine src tlvs => Sys2Proof.Machine.execGroupDefine src tlvs s
  | .groupMembers src tlvs => Sys2Proof.Machine.execGroupMembers src tlvs s
  | .scheduleWrite src tlvs => Sys2Proof.Machine.execScheduleWrite src tlvs s
  | .scheduleWriteX src tlvs => Sys2Proof.Machine.execScheduleWriteX src tlvs s
  | .scheduleRead src tlvs => Sys2Proof.Machine.execScheduleRead src tlvs s
  | .aonDefine src tlvs => Sys2Proof.Machine.execAonDefine src tlvs s
  | .aonClear src tlvs => Sys2Proof.Machine.execAonClear src tlvs s
  | .attrRead src tlvs => Sys2Proof.Machine.execAttrRead src tlvs s
  | .attrWrite src tlvs => Sys2Proof.Machine.execAttrWrite src tlvs s
  | .bridgeRead src tlvs => Sys2Proof.Machine.execBridgeRead src tlvs s
  | .bridgeWrite src tlvs => Sys2Proof.Machine.execBridgeWrite src tlvs s
  | .semAcquire src tlvs => Sys2Proof.Machine.execSemAcquire src tlvs s
  | .semRelease src tlvs => Sys2Proof.Machine.execSemRelease src tlvs s
  | .evtSubscribe src tlvs => Sys2Proof.Machine.execEvtSubscribe src tlvs s
  | .evtAck src tlvs => Sys2Proof.Machine.execEvtAck src tlvs s
  | .telemetryRead src tlvs => Sys2Proof.Machine.execTelemetryRead src tlvs s
  | .telemetryStream src tlvs => Sys2Proof.Machine.execTelemetryStream src tlvs s
  | .meterRead src tlvs => Sys2Proof.Machine.execMeterRead src tlvs s
  | .meterPeriod src tlvs => Sys2Proof.Machine.execMeterPeriod src tlvs s
  | .attribRead src tlvs => Sys2Proof.Machine.execAttribRead src tlvs s
  | .waveformStream src tlvs => Sys2Proof.Machine.execWaveformStream src tlvs s
  | .correctionRead src tlvs => Sys2Proof.Machine.execCorrectionRead src tlvs s
  | .attribModel src tlvs => Sys2Proof.Machine.execAttribModel src tlvs s
  | .probeDither src tlvs => Sys2Proof.Machine.execProbeDither src tlvs s
  | .snapshot src tlvs => Sys2Proof.Machine.execSnapshot src tlvs s
  | .timeRead src tlvs => Sys2Proof.Machine.execTimeRead src tlvs s
  | .solarRead src tlvs => Sys2Proof.Machine.execSolarRead src tlvs s
  | .timeSet src tlvs => Sys2Proof.Machine.execTimeSet src tlvs s
  | .utcTable src tlvs => Sys2Proof.Machine.execUtcTable src tlvs s
  | .ptpPort src tlvs => Sys2Proof.Machine.execPtpPort src tlvs s
  | .timeRawRead src tlvs => Sys2Proof.Machine.execTimeRawRead src tlvs s
  | .timedPulse src tlvs => Sys2Proof.Machine.execTimedPulse src tlvs s
  | .stampMark src tlvs => Sys2Proof.Machine.execStampMark src tlvs s
  | .airEnrol src tlvs => Sys2Proof.Machine.execAirEnrol src tlvs s
  | .airSend src tlvs => Sys2Proof.Machine.execAirSend src tlvs s
  | .airRemove src tlvs => Sys2Proof.Machine.execAirRemove src tlvs s
  | .airRawTx src tlvs => Sys2Proof.Machine.execAirRawTx src tlvs s
  | .channelPlan src tlvs => Sys2Proof.Machine.execChannelPlan src tlvs s
  | .airRawCapture src tlvs => Sys2Proof.Machine.execAirRawCapture src tlvs s
  | .vemerSet src tlvs => Sys2Proof.Machine.execVemerSet src tlvs s
  | .keySession src tlvs => Sys2Proof.Machine.execKeySession src tlvs s
  | .slotLoad src tlvs => Sys2Proof.Machine.execSlotLoad src tlvs s
  | .slotUnload src tlvs => Sys2Proof.Machine.execSlotUnload src tlvs s
  | .slotUse src tlvs => Sys2Proof.Machine.execSlotUse src tlvs s
  | .vlanAttach src tlvs => Sys2Proof.Machine.execVlanAttach src tlvs s
  | .vlanDetach src tlvs => Sys2Proof.Machine.execVlanDetach src tlvs s
  | .shaperSet src tlvs => Sys2Proof.Machine.execShaperSet src tlvs s
  | .queueSet src tlvs => Sys2Proof.Machine.execQueueSet src tlvs s
  | .exportBlock src tlvs => Sys2Proof.Machine.execExportBlock src tlvs s
  | .workspaceInfo src tlvs => Sys2Proof.Machine.execWorkspaceInfo src tlvs s
  | .dmaDescriptor src tlvs => Sys2Proof.Machine.execDmaDescriptor src tlvs s
  | .dmaFence src tlvs => Sys2Proof.Machine.execDmaFence src tlvs s
  | .vctlCreate src tlvs => Sys2Proof.Machine.execVctlCreate src tlvs s
  | .vctlRemove src tlvs => Sys2Proof.Machine.execVctlRemove src tlvs s
  | .rightsSet src tlvs => Sys2Proof.Machine.execRightsSet src tlvs s
  | .quotaSet src tlvs => Sys2Proof.Machine.execQuotaSet src tlvs s
  | .credSet src tlvs => Sys2Proof.Machine.execCredSet src tlvs s
  | .segmentConfig src tlvs => Sys2Proof.Machine.execSegmentConfig src tlvs s
  | .spineConfig src tlvs => Sys2Proof.Machine.execSpineConfig src tlvs s
  | .sweepOrder src tlvs => Sys2Proof.Machine.execSweepOrder src tlvs s
  | .regwinGrant src tlvs => Sys2Proof.Machine.execRegwinGrant src tlvs s
  | .imageStage src tlvs => Sys2Proof.Machine.execImageStage src tlvs s
  | .imageVerified cls => Sys2Proof.Machine.execImageVerified cls s
  | .imageActivate src tlvs => Sys2Proof.Machine.execImageActivate src tlvs s
  | .diagRead src tlvs => Sys2Proof.Machine.execDiagRead src tlvs s
  | .journalExport src tlvs => Sys2Proof.Machine.execJournalExport src tlvs s
  | .vctlRemovalEnd v => Sys2Proof.Machine.execVctlRemovalEnd v s
  | .stringLink port up rate => Sys2Proof.Machine.execStringLink port up rate s
  | .rateTryTimeout port => Sys2Proof.Machine.execRateTryTimeout port s
  | .censusStart port => Sys2Proof.Machine.execCensusStart port s
  | .enumReport port number hop rep last => Sys2Proof.Machine.execEnumReport port number hop rep last s
  | .enumerateLoopReturn port number => Sys2Proof.Machine.execEnumerateLoopReturn port number s
  | .censusPassTimeout port => Sys2Proof.Machine.execCensusPassTimeout port s
  | .linkChange port => Sys2Proof.Machine.execLinkChange port s
  | .censusRetry port => Sys2Proof.Machine.execCensusRetry port s
  | .pairResp str pos resp eui sigOk => Sys2Proof.Machine.execPairResp str pos resp eui sigOk s
  | .pairTimeout str pos => Sys2Proof.Machine.execPairTimeout str pos s
  | .pairRetry str pos => Sys2Proof.Machine.execPairRetry str pos s
  | .assocConfirm str pos hdr => Sys2Proof.Machine.execAssocConfirm str pos hdr s
  | .assocInitTimeout str pos => Sys2Proof.Machine.execAssocInitTimeout str pos s
  | .assocClose str pos hdr => Sys2Proof.Machine.execAssocClose str pos hdr s
  | .assocRekey str pos => Sys2Proof.Machine.execAssocRekey str pos s
  | .assocOldKeyErase str pos => Sys2Proof.Machine.execAssocOldKeyErase str pos s
  | .assocExhausted str pos => Sys2Proof.Machine.execAssocExhausted str pos s
  | .groupKeyReplace str => Sys2Proof.Machine.execGroupKeyReplace str s
  | .timeSyncSend str => Sys2Proof.Machine.execTimeSyncSend str s
  | .delayReq str pos hdr => Sys2Proof.Machine.execDelayReq str pos hdr s
  | .resyncReq str pos hdr => Sys2Proof.Machine.execResyncReq str pos hdr s
  | .credit str pos hdr counts => Sys2Proof.Machine.execCredit str pos hdr counts s
  | .creditQuery str pos cls => Sys2Proof.Machine.execCreditQuery str pos cls s
  | .bridgeIssue str v => Sys2Proof.Machine.execBridgeIssue str v s
  | .brReadResp str pos hdr slot tag reg count estat data => Sys2Proof.Machine.execBrReadResp str pos hdr slot tag reg count estat data s
  | .brWriteAck str pos hdr slot tag reg count estat => Sys2Proof.Machine.execBrWriteAck str pos hdr slot tag reg count estat s
  | .tagTimeout str tag => Sys2Proof.Machine.execTagTimeout str tag s
  | .tagSecondTimeout str tag => Sys2Proof.Machine.execTagSecondTimeout str tag s
  | .semWaitTimeout str => Sys2Proof.Machine.execSemWaitTimeout str s
  | .semBrokenExpire str => Sys2Proof.Machine.execSemBrokenExpire str s
  | .detection str pos hdr recs => Sys2Proof.Machine.execDetection str pos hdr recs s
  | .wakeHandoffEpoch pool late => Sys2Proof.Machine.execWakeHandoffEpoch pool late s
  | .wakeMessage east h recs => Sys2Proof.Machine.execWakeMessage east h recs s
  | .lampSamples str pos hdr frame8 recs => Sys2Proof.Machine.execLampSamples str pos hdr frame8 recs s
  | .lampClassify => Sys2Proof.Machine.execLampClassify s
  | .geodeBeatEdge edge spacing err smp => Sys2Proof.Machine.execGeodeBeatEdge edge spacing err smp s
  | .geodeEdgesMissing => Sys2Proof.Machine.execGeodeEdgesMissing s
  | .geodeTime frame ok => Sys2Proof.Machine.execGeodeTime frame ok s
  | .cycleEnd phase cross => Sys2Proof.Machine.execCycleEnd phase cross s
  | .geodeNoCrossing phase => Sys2Proof.Machine.execGeodeNoCrossing phase s
  | .geodeLinkPacket => Sys2Proof.Machine.execGeodeLinkPacket s
  | .linkPacketReceived => Sys2Proof.Machine.execLinkPacketReceived s
  | .geodeLinkSilent => Sys2Proof.Machine.execGeodeLinkSilent s
  | .geodeSnapshotMsg t src ok => Sys2Proof.Machine.execGeodeSnapshotMsg t src ok s
  | .snapshotLatch => Sys2Proof.Machine.execSnapshotLatch s
  | .readingSigned => Sys2Proof.Machine.execReadingSigned s
  | .profileClose e => Sys2Proof.Machine.execProfileClose e s
  | .inrushHint c a ok => Sys2Proof.Machine.execInrushHint c a ok s
  | .inrushMaskClose c => Sys2Proof.Machine.execInrushMaskClose c s
  | .readReq id obj ix ok => Sys2Proof.Machine.execReadReq id obj ix ok s
  | .readReqFailed id => Sys2Proof.Machine.execReadReqFailed id s
  | .pulseInputChange q high t => Sys2Proof.Machine.execPulseInputChange q high t s
  | .pulseStuck q => Sys2Proof.Machine.execPulseStuck q s
  | .geodeSave => Sys2Proof.Machine.execGeodeSave s
  | .geodePowerFail ok => Sys2Proof.Machine.execGeodePowerFail ok s
  | .geodeLineReturn ms => Sys2Proof.Machine.execGeodeLineReturn ms s
  | .geodeHoldupEnd => Sys2Proof.Machine.execGeodeHoldupEnd s
  | .geodeStart => Sys2Proof.Machine.execGeodeStart s
  | .geodeTempRead t => Sys2Proof.Machine.execGeodeTempRead t s
  | .geodeTempResume => Sys2Proof.Machine.execGeodeTempResume s
  | .coverOpened => Sys2Proof.Machine.execCoverOpened s
  | .opticalFlood => Sys2Proof.Machine.execOpticalFlood s
  | .opticalFloodEnd => Sys2Proof.Machine.execOpticalFloodEnd s
  | .hdlcFrame m => Sys2Proof.Machine.execHdlcFrame m s
  | .hdlcInactivity => Sys2Proof.Machine.execHdlcInactivity s
  | .sapLockEnd sap => Sys2Proof.Machine.execSapLockEnd sap s
  | .meteringResume e1 => Sys2Proof.Machine.execMeteringResume e1 s
  | .firmwareRevert => Sys2Proof.Machine.execFirmwareRevert s
  | .periodClose => Sys2Proof.Machine.execPeriodClose s
  | .tenantFrame port f t round full => Sys2Proof.Machine.execTenantFrame port f t round full s
  | .egressServe port t banks => Sys2Proof.Machine.execEgressServe port t banks s
  | .macAgeOut v vid mac => Sys2Proof.Machine.execMacAgeOut v vid mac s
  | .rawBlockWrite => Sys2Proof.Machine.execRawBlockWrite s
  | .dmaRequest n line tch => Sys2Proof.Machine.execDmaRequest n line tch s
  | .dmaDescriptorComplete n => Sys2Proof.Machine.execDmaDescriptorComplete n s
  | .dmaFenceComplete n => Sys2Proof.Machine.execDmaFenceComplete n s
  | .airFrameRx r => Sys2Proof.Machine.execAirFrameRx r s
  | .airAckTx t => Sys2Proof.Machine.execAirAckTx t s
  | .joinAcceptTx t => Sys2Proof.Machine.execJoinAcceptTx t s
  | .airTxStart t => Sys2Proof.Machine.execAirTxStart t s
  | .airTxEnd port t vswr => Sys2Proof.Machine.execAirTxEnd port t vswr s
  | .airRetry id => Sys2Proof.Machine.execAirRetry id s
  | .airRegRespTimeout id => Sys2Proof.Machine.execAirRegRespTimeout id s
  | .airHoldExpiry id => Sys2Proof.Machine.execAirHoldExpiry id s
  | .airRawTxExpiry id => Sys2Proof.Machine.execAirRawTxExpiry id s
  | .airLightRefresh n => Sys2Proof.Machine.execAirLightRefresh n s
  | .airSilent n => Sys2Proof.Machine.execAirSilent n s
  | .airRejoinDue n down => Sys2Proof.Machine.execAirRejoinDue n down s
  | .spinePortLink east ev => Sys2Proof.Machine.execSpinePortLink east ev s
  | .helloTimeout east => Sys2Proof.Machine.execHelloTimeout east s
  | .helloSend => Sys2Proof.Machine.execHelloSend s
  | .spineLinkSetup east m => Sys2Proof.Machine.execSpineLinkSetup east m s
  | .spineLinkInitRetry east => Sys2Proof.Machine.execSpineLinkInitRetry east s
  | .linkNotice east h eastUp westUp => Sys2Proof.Machine.execLinkNotice east h eastUp westUp s
  | .ringCensusStart => Sys2Proof.Machine.execRingCensusStart s
  | .spineEnumerate east h t reach => Sys2Proof.Machine.execSpineEnumerate east h t reach s
  | .ringTable east h result mods => Sys2Proof.Machine.execRingTable east h result mods s
  | .relay r => Sys2Proof.Machine.execRelay r s
  | .sweepOrderMsg east h id t => Sys2Proof.Machine.execSweepOrderMsg east h id t s
  | .orderReply east h id code => Sys2Proof.Machine.execOrderReply east h id code s
  | .sweepLatch => Sys2Proof.Machine.execSweepLatch s
  | .sweepRecordForm => Sys2Proof.Machine.execSweepRecordForm s
  | .sweepParticipantClose => Sys2Proof.Machine.execSweepParticipantClose s
  | .collectionStart => Sys2Proof.Machine.execCollectionStart s
  | .collect east h id map => Sys2Proof.Machine.execCollect east h id map s
  | .sweepRecord east h id pos body => Sys2Proof.Machine.execSweepRecord east h id pos body s
  | .collectTurn east h id => Sys2Proof.Machine.execCollectTurn east h id s
  | .collectionTimeout => Sys2Proof.Machine.execCollectionTimeout s
  | .sweepResultFinal => Sys2Proof.Machine.execSweepResultFinal s
  | .rngHealthFail => Sys2Proof.Machine.execRngHealthFail s
  | .rngResume => Sys2Proof.Machine.execRngResume s
  | .rngReseed => Sys2Proof.Machine.execRngReseed s
  | .slotIntegrityCheck v n ok => Sys2Proof.Machine.execSlotIntegrityCheck v n ok s
  | .flintHalt cause => Sys2Proof.Machine.execFlintHalt cause s
  | .keyMigrationComplete => Sys2Proof.Machine.execKeyMigrationComplete s
  | .fuseAdvance bank bad => Sys2Proof.Machine.execFuseAdvance bank bad s
  | .geodeFwCheck => Sys2Proof.Machine.execGeodeFwCheck s
  | .flintMeasure => Sys2Proof.Machine.execFlintMeasure s
  | .startStepTimeout step blk => Sys2Proof.Machine.execStartStepTimeout step blk s
  | .frameServiceEntry => Sys2Proof.Machine.execFrameServiceEntry s
  | .bankWatchdog b rejoin => Sys2Proof.Machine.execBankWatchdog b rejoin s
  | .watchdogReset start => Sys2Proof.Machine.execWatchdogReset start s
  | .bankBReady => Sys2Proof.Machine.execBankBReady s
  | .mainHandover => Sys2Proof.Machine.execMainHandover s
  | .bankAJoin => Sys2Proof.Machine.execBankAJoin s
  | .mainUpdateTimeout replayFail => Sys2Proof.Machine.execMainUpdateTimeout replayFail s
  | .grainStratumSwap ok => Sys2Proof.Machine.execGrainStratumSwap ok s
  | .airImageTakeover => Sys2Proof.Machine.execAirImageTakeover s
  | .airImageHandback => Sys2Proof.Machine.execAirImageHandback s
  | .flintImageTakeover ok => Sys2Proof.Machine.execFlintImageTakeover ok s
  | .journalCommit complete => Sys2Proof.Machine.execJournalCommit complete s
  | .flashDeviceFail dev => Sys2Proof.Machine.execFlashDeviceFail dev s
  | .thermalStep die last => Sys2Proof.Machine.execThermalStep die last s
  | .thermalWarning hbm sensor t => Sys2Proof.Machine.execThermalWarning hbm sensor t s
  | .hbmHot stack t => Sys2Proof.Machine.execHbmHot stack t s
  | .idlePortProbe port signal => Sys2Proof.Machine.execIdlePortProbe port signal s
  | .thermalShutdown sensor temps => Sys2Proof.Machine.execThermalShutdown sensor temps s
  | .thermalTrip sensor t => Sys2Proof.Machine.execThermalTrip sensor t s
  | .thermalRestart start => Sys2Proof.Machine.execThermalRestart start s
  | .hbmEccError addr correctable => Sys2Proof.Machine.execHbmEccError addr correctable s
  | .airPortTxEnWrite port v => Sys2Proof.Machine.execAirPortTxEnWrite port v s
  | .announceReceiptTimeout port => Sys2Proof.Machine.execAnnounceReceiptTimeout port s
  | .uplinkLink u up => Sys2Proof.Machine.execUplinkLink u up s
  | .opticalSignOn => Sys2Proof.Machine.execOpticalSignOn s
  | .mslReservedType port type => Sys2Proof.Machine.execMslReservedType port type s
  | .spineFrameDiscarded why => Sys2Proof.Machine.execSpineFrameDiscarded why s
  | .spineLinkRekey east => Sys2Proof.Machine.execSpineLinkRekey east s
  | .ringCensusTimeout reach => Sys2Proof.Machine.execRingCensusTimeout reach s

end Sys2Proof.Machine
end

