-- ==== Sys2Proof/WellFormed.lean ====
section
/-!
DEFINITION. WellFormed.lean: the range of every operand, as the widths and counts of the spec give it. exec itself does not need it: outside these
ranges a command has no sender. Each check has an ill-formed term in Tests/Slice0.lean that it refuses.
-/
namespace Sys2Proof

/-- A virtual controller number is 0 to 4,095; a service credential index is 0 to 7 (R133, R537). -/
def AssocKey.wf : AssocKey → Bool
  | .vctl v => decide (v < 4096)
  | .svc i => decide (i < 8)

/-- Uplinks 0 to 15 (R129). -/
def Path.wf : Path → Bool
  | .uplink u => decide (u < 16)
  | _ => true

/-- SEQ has 32 bits and CMDID 16 (R135, R138). -/
def Src.wf (s : Src) : Bool := s.key.wf && decide (s.seq < 2 ^ 32) && decide (s.cmdid < 2 ^ 16)

/-- A TLV identity has 15 bits, a length 16 (R139). -/
def Tlv.wf (t : Tlv) : Bool := decide (t.id < 2 ^ 15) && decide (t.val.length < 2 ^ 16)

/-- The numbers that a ClientHello carries have 16 bits (R130). -/
def Hello.wf (h : Hello) : Bool :=
  (h.versions ++ h.suites ++ h.groups ++ h.sigs).all (fun n => decide (n < 2 ^ 16)) && ((h.name.getD []) ++ (h.cid.getD [])).length < 2 ^ 16

/-- A string is 0 to 255 (the map of chapter 1). -/
def strOk (g : Nat) : Bool := decide (g < 256)

/-- A position is 1 to 64 (R201). -/
def posOk (p : Nat) : Bool := decide (1 ≤ p) && decide (p ≤ 64)

/-- A slot is 0 to 15 (R202). -/
def slotOk (n : Nat) : Bool := decide (n < 16)

/-- A bridge register address has 16 bits and is a multiple of 4 (R232). -/
def regOk (r : Nat) : Bool := decide (r < 65536) && decide (r % 4 = 0)

/-- A bridge operation moves 1 to 64 registers (R232). -/
def countOk (n : Nat) : Bool := decide (1 ≤ n) && decide (n ≤ 64)

/-- A string or an uplink by its port number in the fabric (R409). -/
def portOk (p : Nat) : Bool := decide (p < 0x112)

/-- The fields of ENUM_REPORT (R202). -/
def PoleReport.wf (r : PoleReport) : Bool :=
  decide (r.eui < 2 ^ 64) && decide (r.fw < 2 ^ 32) && decide (1 ≤ r.slots) && decide (r.slots ≤ 16) && decide (r.profiles.length = r.slots) &&
  decide (r.supply.length = r.slots) && decide (r.down ≤ 2)

/-- The fields of an MSL header, and the 8-byte signed trailer (R195, R221). -/
def MslHdr.wf (h : MslHdr) : Bool :=
  decide (h.aid < 2 ^ 32) && decide (h.ctr < 2 ^ 64) && decide (h.mver < 256) && decide (h.hop < 256) && decide (h.flags < 256) &&
  decide (-(2 ^ 63) ≤ h.trailer) && decide (h.trailer < 2 ^ 63)

/-- PAIR_RESP: an uncompressed P-256 key without its first byte, a 96-bit nonce, a SHA-384 digest (R208, R209). -/
def PairResp.wf (r : PairResp) : Bool := decide (r.key.length = 64) && decide (r.nonce.length = 12) && decide (r.anchor.length = 48)

/-- The EEPROM read has 76 bytes, and a port code 16 bits (R54, R140). -/
def StartIn.wf (i : StartIn) : Bool := (i.eeprom.all (fun b => b.length = 76)) && i.silent.all (· < 65536)

/-- A fixed supply offer has 10 bits of 50 mV and 10 bits of 10 mA (R550). -/
def Pdo.wf (p : Pdo) : Bool := decide (p.mv ≤ 51150) && decide (p.ma ≤ 10230)

/-- Voltages of 0 to 65,535 mV and a count of watts that SYS_PWR_STAT can hold (R69, R79). -/
def TickIn.wf (i : TickIn) : Bool :=
  decide (i.watts < 2 ^ 16) && decide (i.mvA < 65536) && decide (i.mvB < 65536) && i.start.wf

/-- A voltage of 0 to 65,535 mV (R69). -/
def FeedMv.wf (f : FeedMv) : Bool := decide (f.mv < 65536)

/-- 16 contacts (R79), and a resistance that the range of R67 holds. -/
def BeatIn.wf (i : BeatIn) : Bool := decide (i.gpio < 65536) && decide (i.ohm < 2 ^ 20)

/-- The registers of a timer channel (R108). -/
def TmrCfg.wf (c : TmrCfg) : Bool := decide (c.dest < 8) && decide (c.cmp < 2 ^ 32) && decide (c.per < 2 ^ 32) && decide (c.wid < 2 ^ 17)

/-- domainNumber has 8 bits (R91), and a beat is shorter than 2^20 ticks. -/
def PtpHdr.wf (h : PtpHdr) : Bool := decide (h.domain < 256) && decide (h.ticks < 2 ^ 20)

/-- The fields of an Announce: 8 and 16 bits, identities of 64 (R91, R93). -/
def AnnData.wf (d : AnnData) : Bool :=
  decide (d.prio1 < 256) && decide (d.cls < 256) && decide (d.acc < 256) && decide (d.var < 65536) && decide (d.prio2 < 256) &&
  decide (d.gm < 2 ^ 64) && decide (d.steps < 65536) && decide (d.src < 2 ^ 64) && decide (d.srcPort < 65536)

/-- sequenceId has 16 bits and a clockIdentity 64 (R91). -/
def PtpMsg.wf : PtpMsg → Bool
  | .announce d => d.wf
  | .sync _ q _ _ | .followUp q _ _ | .delayResp q _ _ | .pdelayResp _ q _ _ | .pdelayFollowUp q _ _ => decide (q < 65536)
  | .delayReq q i | .pdelayReq q i => decide (q < 65536) && decide (i < 2 ^ 64)
  | .unsupported => true

/-- The quality digit is 0 to 9 (R97). -/
def TodSentence.wf : TodSentence → Bool
  | .pztod _ _ q => decide (q ≤ 9)
  | .zda _ => true

/-- The fields of a LAMP_SAMPLES record (R312). -/
def LampRec.wf (r : LampRec) : Bool := slotOk r.slot && decide (r.flags < 256) && decide (r.duty < 65536) && decide (r.temp < 65536)

/-- The fields of a DETECTION record (R294). -/
def DetRec.wf (r : DetRec) : Bool := slotOk r.slot && decide (r.dir < 4)

/-- The fields of a wake record (R305). -/
def WakeRec.wf (r : WakeRec) : Bool := decide (r.kind < 4)

/-- Input codes are 0 to 66 (R357). -/
def GSample.wf (x : GSample) : Bool := decide (x.input < 67)

/-- A time in ns, where one is given, has 64 bits. -/
def timeOk (t : Option Nat) : Bool := t.all (fun x => decide (x < 2 ^ 64))

/-- Circuits, pulse inputs and records by number (R351, R375). -/
def Cosem.wf : Cosem → Bool
  | .register c _ => decide (c < 64)
  | .pulse q => decide (q < 16)
  | .circuit c => decide (c < 0x43)
  | _ => true

/-- Methods are 1 to 3; SAPs have 16 bits (R374 to R376). -/
def HdlcMsg.wf : HdlcMsg → Bool
  | .associate sap _ => decide (sap < 65536)
  | .release sap => decide (sap < 65536)
  | .get sap o => decide (sap < 65536) && o.wf
  | .set sap o _ => decide (sap < 65536) && o.wf
  | .image sap _ _ _ => decide (sap < 65536)
  | .activate sap m => decide (sap < 65536) && decide (1 ≤ m) && decide (m ≤ 3)
  | .other sap => decide (sap < 65536)
  | .connect => true
  | .disconnect => true

/-- A correctionField has 64 bits, a sequence and a trailer 16 (R92). -/
def EthKind.wf : EthKind → Bool
  | .ptpEvent q _ c t | .followUp q c t => decide (q < 65536) && t.all (· < 65536) && decide (-(2 ^ 63) ≤ c) && decide (c < 2 ^ 63)
  | _ => true

/-- VLAN IDs have 12 bits, the priority 3, MAC addresses 48 (R423). -/
def EthFrame.wf (f : EthFrame) : Bool :=
  f.svid.all (· < 4096) && f.cvid.all (· < 4096) && decide (f.pcp < 8) && decide (f.dst < 2 ^ 48) && decide (f.src < 2 ^ 48)
    && f.kind.wf

/-- Air ports are 0 to 3 (R453). -/
def AirCopy.wf (c : AirCopy) : Bool := decide (c.port < 4)

/-- A PHR gives a PSDU at most 2,047 octets (R445). -/
def AirRx.wf (r : AirRx) : Bool := r.copies.all AirCopy.wf && decide (r.psdu.length < 2048)

/-- The fields of a spine header (R475). -/
def SpHdr.wf (h : SpHdr) : Bool :=
  decide (h.laid < 2 ^ 32) && decide (h.ctr < 2 ^ 64) && decide (h.ttl < 64) && h.dest.all (· < 4096) && decide (h.src < 4096)

/-- A HELLO carries a spine header (R478). -/
def LinkEv.wf : LinkEv → Bool
  | .hello h => h.wf
  | _ => true

/-- An OWNER_TAG has 48 bytes, LAID 32 bits (R476). -/
def LinkMsg.wf : LinkMsg → Bool
  | .init p => p.tag.all (fun b => b.length = 48)
  | .resp p l => p.tag.all (fun b => b.length = 48) && decide (l < 2 ^ 32)
  | .confirm _ l => decide (l < 2 ^ 32)

/-- The ENUMERATE token: EUI-64, 16 bits of census number, position (R480). -/
def EnumTok.wf (t : EnumTok) : Bool := decide (t.master < 2 ^ 64) && decide (t.number < 2 ^ 16) && decide (t.pos ≤ 64)

/-- A module of a ring: its position and its EUI-64 (R480). -/
def modOk (m : Nat × Nat) : Bool := decide (m.1 < 2 ^ 64) && decide (m.2 < 2 ^ 64)

/-- The fields of a relayed packet (R482). -/
def RelayIn.wf : RelayIn → Bool
  | .entry port _ udp dscp _ _ => decide (port < 65536) && decide (udp < 65536) && decide (dscp < 64)
  | .msg _ h _ key _ => h.wf && key.all AssocKey.wf
  | .fragment => true

/-- Every operand of the command is in its range. -/
def Instr.wf : Instr → Bool
  | .feedUsable feed start => feed.wf && start.wf
  | .feedLost _ => true
  | .allFeedsLost => true
  | .inputLow feed => feed.wf
  | .inputHigh feed => feed.wf
  | .ovpTrip _ => true
  | .ovpReconnect feed start => feed.wf && start.wf
  | .carrierRst => true
  | .carrierRstRelease start => start.wf
  | .emergAssert _ _ => true
  | .emergDeassert _ _ => true
  | .tamperLoop n ohm => decide (n ≤ 80) && decide (ohm < 2 ^ 20)
  | .gpioDirWrite dir => decide (dir < 65536)
  | .ux1Attach _ => true
  | .ux1SourceCaps offers _ _ start => offers.all Pdo.wf && start.wf
  | .ux1PrSwapRequest => true
  | .ux1DrSwapRequest => true
  | .ux1PrSwapInitiate => true
  | .ux1DrSwapInitiate => true
  | .ux1Collision => true
  | .ux1Detach _ => true
  | .ux1PsRdyTimeout => true
  | .ldsIncWrite v => decide (v < 2 ^ 64)
  | .ldsOffsetLoad full => decide (full < 2 ^ 128)
  | .ldsNsRead beats ticks => decide (beats < 80) && decide (ticks < 2 ^ 20)
  | .ldsFrameLoRead => true
  | .counterWrap => true
  | .timerArm n _ cfg => decide (n < 16) && cfg.wf
  | .timerFire n => decide (n < 16)
  | .timerPulseEnd n => decide (n < 16)
  | .beatBoundary io => io.wf
  | .ptpMessage port hdr m => decide (port < 65536) && hdr.wf && m.wf
  | .ppsInEdge ticks => decide (ticks < 2 ^ 20)
  | .ppsInMissing => true
  | .todRxSentence ticks t _ => decide (ticks < 2 ^ 20) && t.wf
  | .fsyncInEdge beats ticks => decide (beats < 80) && decide (ticks < 2 ^ 20)
  | .fsyncLost => true
  | .ref10Qualify => true
  | .ref10Lost => true
  | .acqTimeout => true
  | .slewComplete => true
  | .holdoverExpired => true
  | .todTxSentence => true
  | .frameTick room inp => decide (room < 2 ^ 32) && inp.wf
  | .eventResend key => key.wf
  | .scheduleFire v no ix => decide (v < 4096) && decide (no < 65536) && decide (ix < 65536)
  | .backSlateFreeze unfinished unsent nodes => unfinished.all (· < 2 ^ 20) && unsent.all (· < 2 ^ 20) && nodes.all (· < 2 ^ 20)
  | .urgentPacket key bytes => key.wf && decide (bytes.length ≤ 8192)
  | .urgentAccept => true
  | .clientHello _ hello path _ => hello.wf && path.wf
  | .serverFlight _ => true
  | .clientFinished _ key => decide (key.length ≤ 64)
  | .dtlsAlert _ => true
  | .dtlsRetransmit _ => true
  | .handshakeTimeout _ => true
  | .assocIdleTimeout key => key.wf
  | .dtlsKeyUpdate key _ => key.wf
  | .dtlsRecordLimit key => key.wf
  | .commandPacket key bytes => key.wf && decide (bytes.length ≤ 8192)
  | .sessionOpen vmaj src tlvs => decide (vmaj < 256) && src.wf && tlvs.all Tlv.wf
  | .sessionClose src tlvs => src.wf && tlvs.all Tlv.wf
  | .keepalive src tlvs => src.wf && tlvs.all Tlv.wf
  | .deviceInfo src tlvs => src.wf && tlvs.all Tlv.wf
  | .regRead src tlvs => src.wf && tlvs.all Tlv.wf
  | .regWrite src tlvs => src.wf && tlvs.all Tlv.wf
  | .lightLevel src tlvs => src.wf && tlvs.all Tlv.wf
  | .lightFade src tlvs => src.wf && tlvs.all Tlv.wf
  | .lightLease src tlvs => src.wf && tlvs.all Tlv.wf
  | .lightRead src tlvs => src.wf && tlvs.all Tlv.wf
  | .lightEmergency src tlvs => src.wf && tlvs.all Tlv.wf
  | .lightLevelX src tlvs => src.wf && tlvs.all Tlv.wf
  | .stepTable src tlvs => src.wf && tlvs.all Tlv.wf
  | .factorSet src tlvs => src.wf && tlvs.all Tlv.wf
  | .slateWindow src tlvs => src.wf && tlvs.all Tlv.wf
  | .groupDefine src tlvs => src.wf && tlvs.all Tlv.wf
  | .groupMembers src tlvs => src.wf && tlvs.all Tlv.wf
  | .scheduleWrite src tlvs => src.wf && tlvs.all Tlv.wf
  | .scheduleWriteX src tlvs => src.wf && tlvs.all Tlv.wf
  | .scheduleRead src tlvs => src.wf && tlvs.all Tlv.wf
  | .aonDefine src tlvs => src.wf && tlvs.all Tlv.wf
  | .aonClear src tlvs => src.wf && tlvs.all Tlv.wf
  | .attrRead src tlvs => src.wf && tlvs.all Tlv.wf
  | .attrWrite src tlvs => src.wf && tlvs.all Tlv.wf
  | .bridgeRead src tlvs => src.wf && tlvs.all Tlv.wf
  | .bridgeWrite src tlvs => src.wf && tlvs.all Tlv.wf
  | .semAcquire src tlvs => src.wf && tlvs.all Tlv.wf
  | .semRelease src tlvs => src.wf && tlvs.all Tlv.wf
  | .evtSubscribe src tlvs => src.wf && tlvs.all Tlv.wf
  | .evtAck src tlvs => src.wf && tlvs.all Tlv.wf
  | .telemetryRead src tlvs => src.wf && tlvs.all Tlv.wf
  | .telemetryStream src tlvs => src.wf && tlvs.all Tlv.wf
  | .meterRead src tlvs => src.wf && tlvs.all Tlv.wf
  | .meterPeriod src tlvs => src.wf && tlvs.all Tlv.wf
  | .attribRead src tlvs => src.wf && tlvs.all Tlv.wf
  | .waveformStream src tlvs => src.wf && tlvs.all Tlv.wf
  | .correctionRead src tlvs => src.wf && tlvs.all Tlv.wf
  | .attribModel src tlvs => src.wf && tlvs.all Tlv.wf
  | .probeDither src tlvs => src.wf && tlvs.all Tlv.wf
  | .snapshot src tlvs => src.wf && tlvs.all Tlv.wf
  | .timeRead src tlvs => src.wf && tlvs.all Tlv.wf
  | .solarRead src tlvs => src.wf && tlvs.all Tlv.wf
  | .timeSet src tlvs => src.wf && tlvs.all Tlv.wf
  | .utcTable src tlvs => src.wf && tlvs.all Tlv.wf
  | .ptpPort src tlvs => src.wf && tlvs.all Tlv.wf
  | .timeRawRead src tlvs => src.wf && tlvs.all Tlv.wf
  | .timedPulse src tlvs => src.wf && tlvs.all Tlv.wf
  | .stampMark src tlvs => src.wf && tlvs.all Tlv.wf
  | .airEnrol src tlvs => src.wf && tlvs.all Tlv.wf
  | .airSend src tlvs => src.wf && tlvs.all Tlv.wf
  | .airRemove src tlvs => src.wf && tlvs.all Tlv.wf
  | .airRawTx src tlvs => src.wf && tlvs.all Tlv.wf
  | .channelPlan src tlvs => src.wf && tlvs.all Tlv.wf
  | .airRawCapture src tlvs => src.wf && tlvs.all Tlv.wf
  | .vemerSet src tlvs => src.wf && tlvs.all Tlv.wf
  | .keySession src tlvs => src.wf && tlvs.all Tlv.wf
  | .slotLoad src tlvs => src.wf && tlvs.all Tlv.wf
  | .slotUnload src tlvs => src.wf && tlvs.all Tlv.wf
  | .slotUse src tlvs => src.wf && tlvs.all Tlv.wf
  | .vlanAttach src tlvs => src.wf && tlvs.all Tlv.wf
  | .vlanDetach src tlvs => src.wf && tlvs.all Tlv.wf
  | .shaperSet src tlvs => src.wf && tlvs.all Tlv.wf
  | .queueSet src tlvs => src.wf && tlvs.all Tlv.wf
  | .exportBlock src tlvs => src.wf && tlvs.all Tlv.wf
  | .workspaceInfo src tlvs => src.wf && tlvs.all Tlv.wf
  | .dmaDescriptor src tlvs => src.wf && tlvs.all Tlv.wf
  | .dmaFence src tlvs => src.wf && tlvs.all Tlv.wf
  | .vctlCreate src tlvs => src.wf && tlvs.all Tlv.wf
  | .vctlRemove src tlvs => src.wf && tlvs.all Tlv.wf
  | .rightsSet src tlvs => src.wf && tlvs.all Tlv.wf
  | .quotaSet src tlvs => src.wf && tlvs.all Tlv.wf
  | .credSet src tlvs => src.wf && tlvs.all Tlv.wf
  | .segmentConfig src tlvs => src.wf && tlvs.all Tlv.wf
  | .spineConfig src tlvs => src.wf && tlvs.all Tlv.wf
  | .sweepOrder src tlvs => src.wf && tlvs.all Tlv.wf
  | .regwinGrant src tlvs => src.wf && tlvs.all Tlv.wf
  | .imageStage src tlvs => src.wf && tlvs.all Tlv.wf
  | .imageVerified cls => decide (cls < 4)
  | .imageActivate src tlvs => src.wf && tlvs.all Tlv.wf
  | .diagRead src tlvs => src.wf && tlvs.all Tlv.wf
  | .journalExport src tlvs => src.wf && tlvs.all Tlv.wf
  | .vctlRemovalEnd v => decide (v < 4096)
  | .stringLink port _ rate => strOk port && (rate == 0 || rate == 1 || rate == 2)
  | .rateTryTimeout port => strOk port
  | .censusStart port => strOk port
  | .enumReport port number hop rep _ => strOk port && decide (number < 65536) && decide (1 ≤ hop) && decide (hop ≤ 65) && rep.wf
  | .enumerateLoopReturn port number => strOk port && decide (number < 65536)
  | .censusPassTimeout port => strOk port
  | .linkChange port => strOk port
  | .censusRetry port => strOk port
  | .pairResp str pos resp eui _ => strOk str && posOk pos && resp.wf && decide (eui < 2 ^ 64)
  | .pairTimeout str pos => strOk str && posOk pos
  | .pairRetry str pos => strOk str && posOk pos
  | .assocConfirm str pos hdr => strOk str && posOk pos && hdr.wf
  | .assocInitTimeout str pos => strOk str && posOk pos
  | .assocClose str pos hdr => strOk str && posOk pos && hdr.wf
  | .assocRekey str pos => strOk str && posOk pos
  | .assocOldKeyErase str pos => strOk str && posOk pos
  | .assocExhausted str pos => strOk str && posOk pos
  | .groupKeyReplace str => strOk str
  | .timeSyncSend str => strOk str
  | .delayReq str pos hdr => strOk str && posOk pos && hdr.wf
  | .resyncReq str pos hdr => strOk str && posOk pos && hdr.wf
  | .credit str pos hdr counts => strOk str && posOk pos && hdr.wf && counts.all (· < 65536)
  | .creditQuery str pos cls => strOk str && posOk pos && decide (cls < 8)
  | .bridgeIssue str v => strOk str && decide (v < 4096)
  | .brReadResp str pos hdr slot tag reg count estat data => strOk str && posOk pos && hdr.wf && slotOk slot && decide (tag < 256) && regOk reg && countOk count && decide (estat < 256) && decide (data.length ≤ 256)
  | .brWriteAck str pos hdr slot tag reg count estat => strOk str && posOk pos && hdr.wf && slotOk slot && decide (tag < 256) && regOk reg && countOk count && decide (estat < 256)
  | .tagTimeout str tag => strOk str && decide (tag < 256)
  | .tagSecondTimeout str tag => strOk str && decide (tag < 256)
  | .semWaitTimeout str => strOk str
  | .semBrokenExpire str => strOk str
  | .detection str pos hdr recs => strOk str && posOk pos && hdr.wf && recs.all DetRec.wf
  | .wakeHandoffEpoch _ late => late.strata.all (fun x => decide (x < 16))
  | .wakeMessage _ h recs => h.wf && recs.all WakeRec.wf
  | .lampSamples str pos hdr frame8 recs => strOk str && posOk pos && hdr.wf && decide (frame8 < 2 ^ 64) && recs.all LampRec.wf
  | .lampClassify => true
  | .geodeBeatEdge _ _ _ smp => smp.all GSample.wf
  | .geodeEdgesMissing => true
  | .geodeTime frame _ => decide (frame < 2 ^ 64)
  | .cycleEnd phase cross => decide (1 ≤ phase) && decide (phase ≤ 3) && timeOk cross
  | .geodeNoCrossing phase => decide (1 ≤ phase) && decide (phase ≤ 3)
  | .geodeLinkPacket => true
  | .linkPacketReceived => true
  | .geodeLinkSilent => true
  | .geodeSnapshotMsg t _ _ => decide (t < 2 ^ 64)
  | .snapshotLatch => true
  | .readingSigned => true
  | .profileClose e => decide (e < 2 ^ 64)
  | .inrushHint c _ _ => decide (c < 64)
  | .inrushMaskClose c => decide (c < 64)
  | .readReq _ obj ix _ => decide (obj < 256) && decide (ix < 2 ^ 32)
  | .readReqFailed _ => true
  | .pulseInputChange q _ t => decide (q < 16) && decide (t < 2 ^ 64)
  | .pulseStuck q => decide (q < 16)
  | .geodeSave => true
  | .geodePowerFail _ => true
  | .geodeLineReturn ms => decide (ms < 65536)
  | .geodeHoldupEnd => true
  | .geodeStart => true
  | .geodeTempRead t => decide (-128 ≤ t) && decide (t ≤ 127)
  | .geodeTempResume => true
  | .coverOpened => true
  | .opticalFlood => true
  | .opticalFloodEnd => true
  | .hdlcFrame m => m.wf
  | .hdlcInactivity => true
  | .sapLockEnd sap => decide (sap < 65536)
  | .meteringResume e1 => decide (e1 < 2 ^ 64)
  | .firmwareRevert => true
  | .periodClose => true
  | .tenantFrame port f _ _ _ => portOk port && f.wf
  | .egressServe port _ banks => portOk port && banks.all (fun b => b.1 < 256)
  | .macAgeOut v vid mac => decide (v < 4096) && decide (vid < 4096) && decide (mac < 2 ^ 48)
  | .rawBlockWrite => true
  | .dmaRequest n line tch => decide (n < 32) && (line == 1 || line == 2) && decide (tch < 16)
  | .dmaDescriptorComplete n => decide (n < 32)
  | .dmaFenceComplete n => decide (n < 32)
  | .airFrameRx r => r.wf
  | .airAckTx _ => true
  | .joinAcceptTx _ => true
  | .airTxStart _ => true
  | .airTxEnd port _ vswr => decide (port < 4) && decide (vswr < 65536)
  | .airRetry _ => true
  | .airRegRespTimeout _ => true
  | .airHoldExpiry _ => true
  | .airRawTxExpiry _ => true
  | .airLightRefresh n => decide (n < 65536)
  | .airSilent n => decide (n < 65536)
  | .airRejoinDue n _ => decide (n < 65536)
  | .spinePortLink _ ev => ev.wf
  | .helloTimeout _ => true
  | .helloSend => true
  | .spineLinkSetup _ m => m.wf
  | .spineLinkInitRetry _ => true
  | .linkNotice _ h _ _ => h.wf
  | .ringCensusStart => true
  | .spineEnumerate _ h t reach => h.wf && t.wf && reach.all modOk
  | .ringTable _ h result mods => h.wf && decide (result < 256) && mods.all modOk
  | .relay r => r.wf
  | .sweepOrderMsg _ h id t => h.wf && decide (id < 2 ^ 32) && decide (t < 2 ^ 64)
  | .orderReply _ h id code => h.wf && decide (id < 2 ^ 32) && decide (code < 65536)
  | .sweepLatch => true
  | .sweepRecordForm => true
  | .sweepParticipantClose => true
  | .collectionStart => true
  | .collect _ h id map => h.wf && decide (id < 2 ^ 32) && map.all (· < 4096)
  | .sweepRecord _ h id pos body => h.wf && decide (id < 2 ^ 32) && decide (pos < 4096) && decide (body.length ≤ 8192)
  | .collectTurn _ h id => h.wf && decide (id < 2 ^ 32)
  | .collectionTimeout => true
  | .sweepResultFinal => true
  | .rngHealthFail => true
  | .rngResume => true
  | .rngReseed => true
  | .slotIntegrityCheck v n _ => decide (v < 4096) && decide (n < 65536)
  | .flintHalt cause => decide (1 ≤ cause) && decide (cause ≤ 4)
  | .keyMigrationComplete => true
  | .fuseAdvance bank bad => decide (bank < 4) && bad.all (· < 64)
  | .geodeFwCheck => true
  | .flintMeasure => true
  | .startStepTimeout step blk => decide (1 ≤ step) && decide (step ≤ 10) && decide (blk < 16)
  | .frameServiceEntry => true
  | .bankWatchdog _ _ => true
  | .watchdogReset start => start.wf
  | .bankBReady => true
  | .mainHandover => true
  | .bankAJoin => true
  | .mainUpdateTimeout _ => true
  | .grainStratumSwap _ => true
  | .airImageTakeover => true
  | .airImageHandback => true
  | .flintImageTakeover _ => true
  | .journalCommit _ => true
  | .flashDeviceFail dev => decide (dev < 2)
  | .thermalStep die last => decide (die.length ≤ 64) && decide (last.length ≤ 64)
  | .thermalWarning _ sensor _ => decide (sensor < 64)
  | .hbmHot stack _ => decide (stack < 2)
  | .idlePortProbe port _ => decide (port < 274)
  | .thermalShutdown sensor temps => decide (sensor < 64) && decide (temps.length ≤ 64)
  | .thermalTrip sensor _ => decide (sensor < 64)
  | .thermalRestart start => start.wf
  | .hbmEccError addr _ => decide (addr < 2 ^ 40)
  | .airPortTxEnWrite port v => decide (port < 4) && decide (v < 2 ^ 32)
  | .announceReceiptTimeout port => decide (port < 65536)
  | .uplinkLink u _ => decide (u < 16)
  | .opticalSignOn => true
  | .mslReservedType port type => strOk port && decide (type < 65536)
  | .spineFrameDiscarded _ => true
  | .spineLinkRekey _ => true
  | .ringCensusTimeout reach => reach.all modOk

end Sys2Proof
end

