-- ==== Sys2Proof/Safety.lean ====
section
/-!
DEFINITION. Safety.lean: the terms in which statements speak of commands: when a row of an opcode is accepted, what the sending of its reply may
change, and the invariants of the machine.
-/
namespace Sys2Proof.Machine

/-- What decides the row of an opcode, where a command is one: SESSION_OPEN apart, whose meaning depends on its association. -/
def opRow : Instr → Option (OpInfo × Src × List Tlv)
  | .sessionClose src tlvs => some (opSessionClose, src, tlvs)
  | .keepalive src tlvs => some (opKeepalive, src, tlvs)
  | .deviceInfo src tlvs => some (opDeviceInfo, src, tlvs)
  | .regRead src tlvs => some (opRegRead, src, tlvs)
  | .regWrite src tlvs => some (opRegWrite, src, tlvs)
  | .lightLevel src tlvs => some (opLightLevel, src, tlvs)
  | .lightFade src tlvs => some (opLightFade, src, tlvs)
  | .lightLease src tlvs => some (opLightLease, src, tlvs)
  | .lightRead src tlvs => some (opLightRead, src, tlvs)
  | .lightEmergency src tlvs => some (opLightEmergency, src, tlvs)
  | .lightLevelX src tlvs => some (opLightLevelX, src, tlvs)
  | .stepTable src tlvs => some (opStepTable, src, tlvs)
  | .factorSet src tlvs => some (opFactorSet, src, tlvs)
  | .slateWindow src tlvs => some (opSlateWindow, src, tlvs)
  | .groupDefine src tlvs => some (opGroupDefine, src, tlvs)
  | .groupMembers src tlvs => some (opGroupMembers, src, tlvs)
  | .scheduleWrite src tlvs => some (opScheduleWrite, src, tlvs)
  | .scheduleWriteX src tlvs => some (opScheduleWriteX, src, tlvs)
  | .scheduleRead src tlvs => some (opScheduleRead, src, tlvs)
  | .aonDefine src tlvs => some (opAonDefine, src, tlvs)
  | .aonClear src tlvs => some (opAonClear, src, tlvs)
  | .attrRead src tlvs => some (opAttrRead, src, tlvs)
  | .attrWrite src tlvs => some (opAttrWrite, src, tlvs)
  | .bridgeRead src tlvs => some (opBridgeRead, src, tlvs)
  | .bridgeWrite src tlvs => some (opBridgeWrite, src, tlvs)
  | .semAcquire src tlvs => some (opSemAcquire, src, tlvs)
  | .semRelease src tlvs => some (opSemRelease, src, tlvs)
  | .evtSubscribe src tlvs => some (opEvtSubscribe, src, tlvs)
  | .evtAck src tlvs => some (opEvtAck, src, tlvs)
  | .telemetryRead src tlvs => some (opTelemetryRead, src, tlvs)
  | .telemetryStream src tlvs => some (opTelemetryStream, src, tlvs)
  | .meterRead src tlvs => some (opMeterRead, src, tlvs)
  | .meterPeriod src tlvs => some (opMeterPeriod, src, tlvs)
  | .attribRead src tlvs => some (opAttribRead, src, tlvs)
  | .waveformStream src tlvs => some (opWaveformStream, src, tlvs)
  | .correctionRead src tlvs => some (opCorrectionRead, src, tlvs)
  | .attribModel src tlvs => some (opAttribModel, src, tlvs)
  | .probeDither src tlvs => some (opProbeDither, src, tlvs)
  | .snapshot src tlvs => some (opSnapshot, src, tlvs)
  | .timeRead src tlvs => some (opTimeRead, src, tlvs)
  | .solarRead src tlvs => some (opSolarRead, src, tlvs)
  | .timeSet src tlvs => some (opTimeSet, src, tlvs)
  | .utcTable src tlvs => some (opUtcTable, src, tlvs)
  | .ptpPort src tlvs => some (opPtpPort, src, tlvs)
  | .timeRawRead src tlvs => some (opTimeRawRead, src, tlvs)
  | .timedPulse src tlvs => some (opTimedPulse, src, tlvs)
  | .stampMark src tlvs => some (opStampMark, src, tlvs)
  | .airEnrol src tlvs => some (opAirEnrol, src, tlvs)
  | .airSend src tlvs => some (opAirSend, src, tlvs)
  | .airRemove src tlvs => some (opAirRemove, src, tlvs)
  | .airRawTx src tlvs => some (opAirRawTx, src, tlvs)
  | .channelPlan src tlvs => some (opChannelPlan, src, tlvs)
  | .airRawCapture src tlvs => some (opAirRawCapture, src, tlvs)
  | .vemerSet src tlvs => some (opVemerSet, src, tlvs)
  | .keySession src tlvs => some (opKeySession, src, tlvs)
  | .slotLoad src tlvs => some (opSlotLoad, src, tlvs)
  | .slotUnload src tlvs => some (opSlotUnload, src, tlvs)
  | .slotUse src tlvs => some (opSlotUse, src, tlvs)
  | .vlanAttach src tlvs => some (opVlanAttach, src, tlvs)
  | .vlanDetach src tlvs => some (opVlanDetach, src, tlvs)
  | .shaperSet src tlvs => some (opShaperSet, src, tlvs)
  | .queueSet src tlvs => some (opQueueSet, src, tlvs)
  | .exportBlock src tlvs => some (opExportBlock, src, tlvs)
  | .workspaceInfo src tlvs => some (opWorkspaceInfo, src, tlvs)
  | .dmaDescriptor src tlvs => some (opDmaDescriptor, src, tlvs)
  | .dmaFence src tlvs => some (opDmaFence, src, tlvs)
  | .vctlCreate src tlvs => some (opVctlCreate, src, tlvs)
  | .vctlRemove src tlvs => some (opVctlRemove, src, tlvs)
  | .rightsSet src tlvs => some (opRightsSet, src, tlvs)
  | .quotaSet src tlvs => some (opQuotaSet, src, tlvs)
  | .credSet src tlvs => some (opCredSet, src, tlvs)
  | .segmentConfig src tlvs => some (opSegmentConfig, src, tlvs)
  | .spineConfig src tlvs => some (opSpineConfig, src, tlvs)
  | .sweepOrder src tlvs => some (opSweepOrder, src, tlvs)
  | .regwinGrant src tlvs => some (opRegwinGrant, src, tlvs)
  | .imageStage src tlvs => some (opImageStage, src, tlvs)
  | .imageActivate src tlvs => some (opImageActivate, src, tlvs)
  | .diagRead src tlvs => some (opDiagRead, src, tlvs)
  | .journalExport src tlvs => some (opJournalExport, src, tlvs)
  | _ => none

/-- The command that a row of an opcode in one of the phases `ph` is accepted as at a beat 0, where it is committed and answered at once (R141, log
11), with the state after its tokens are paid; none where it is discarded or refused, or where its right is gone at the commit (R136, R170). -/
def acceptedIn (ph : Phase → Bool) (i : OpInfo) (src : Src) (tlvs : List Tlv) (s : State) : Option (State × Cmd) :=
  match s.assoc? src.key with
  | none => none
  | some a =>
    if ph a.phase && s.pathUp a.path && s.frm.beat == 0 then
      match submit i src.key src.seq src.cmdid src.noData 0 a tlvs
          (({ s with out := [] } : State).modAssoc src.key (fun a => { a with lastRx := s.frm.now })) with
      | (s1, .ok c) => if i.early || (roleHeld i c s1 && rightHeld i c s1) then some (s1, c) else none
      | _ => none
    else none

/-- The same on an OPEN association. -/
def accepted (i : OpInfo) (src : Src) (tlvs : List Tlv) (s : State) : Option (State × Cmd) := acceptedIn (· == .opened) i src tlvs s

/-- An uplink port apart from its queue of TC5. -/
def QPort.rest (p : QPort) : QPort := { p with ctl := [], ctlPrev := [] }

/-- A spine port apart from its link's association. -/
def SpPort.rest (p : SpPort) : SpPort := { p with assoc := none }

/-- `t` is `u` after the reply of a command: the association table, the replies owed, SPN_DROP, the outputs and what carries a packet on its path (TC5
of an uplink, the association of a spine link) may differ, nothing else. -/
structure AfterReply (u t : State) : Prop where
  /-- all but the parts named -/
  frame : t = { u with out := t.out, regs := t.regs, ses := { u.ses with assoc := t.ses.assoc },
                       frm := { u.frm with pkts := t.frm.pkts, dups := t.frm.dups }, qry := { u.qry with ports := t.qry.ports },
                       spn := { u.spn with east := t.spn.east, west := t.spn.west } }
  /-- registers -/
  regs : ∀ a d, a ≠ aSpnDrop → t.regD a d = u.regD a d
  /-- ports of Quarry -/
  ports : ∀ k, (tgetD t.qry.ports k {}).rest = (tgetD u.qry.ports k {}).rest
  /-- ports of the spine -/
  spine : t.spn.east.rest = u.spn.east.rest ∧ t.spn.west.rest = u.spn.west.rest

/-- `t` is `s` after an accepted command is paid for: the outputs of the step before are gone, the association has received a record, tokens are
spent, and the next command has the next number (R134, R174). -/
def AfterDebit (s t : State) : Prop :=
  t = { s with out := [], ses := { s.ses with assoc := t.ses.assoc }, ten := { s.ten with vctls := t.ten.vctls },
               frm := { s.frm with uid := s.frm.uid + 1 } }

/-- A reply on an association leaves the module at once in state `u`: it is a beat 0 (R111), the association stands, an uplink and the spine carry something, and the spine has a way
to the module that the packets enter by (R482, R525). -/
def replyGoes (u : State) (k : AssocKey) : Bool :=
  u.frm.beat == 0 && match u.assoc? k with
    | some a => match a.path with
      | .spine => u.inLight && (tget u.spn.entry (evKey k)).any (fun e => (u.wayTo e).any (fun d => (u.spPort d).up))
      | .uplink _ => u.inLight
      | _ => true
    | none => false

/-- The reply packet with the one entry `r`, or with the entry of 12 bytes that stands for one too large, has been sent for the command of `src`
(R142, R145). -/
def Replied (src : Src) (r : Reply) (t : State) : Prop :=
  ∃ maj min, Out.packet src.key (replyPacket src.key (maj, min) src.seq 0 false [r.held]) ∈ t.out

/-- No timer channel but those of `l` is armed, and no pulse runs on an output (R103, R106). -/
abbrev State.Quiet (s : State) (l : List Nat) : Prop :=
  (∀ m < 16, m ∉ l → bit (s.reg (aLdsTmrCtl m)) 0 = false) ∧ s.lds.ppsOut = [] ∧ s.lds.fsyncOut = []

/-- LDS_INC in force lies within its bound (R81). -/
abbrev State.rated (s : State) : Prop := 0 < s.lds.inc ∧ s.lds.inc ≤ 0x0200014F

/-- The message that leaves a spine port under the association `a` (R475, R476). -/
def spLeaves (east : Bool) (a : SpAssoc) (ty ttl dest src : Nat) (urgent : Bool) (args : List Nat) (body : Bytes) : Out :=
  .msg .spine (spCode east) ([ty, ttl, dest, src, b2n urgent, a.laid, a.tx + 1] ++ args)
    (spSealed east ty ttl dest src urgent a.laid (a.tx + 1) a.key body)

/-- The state when a command takes its effect, `ticks` after the latest event and within the present beat. -/
def State.at_ (s : State) (ticks : Nat) : State := ({ s with out := [] } : State).within ticks

/-- The queue of events of a series. -/
def State.queue (s : State) (key : Nat) : EvQueue := tgetD s.ses.evq key {}

/-! ### Effects that several rows share -/

/-- A feed that is not used has risen to 42.5 V (R69). -/
def State.feedRises (s : State) (f : FeedMv) : Bool := !(s.feed f.id).usable && !(s.feed f.id).ovp && 42500 ≤ f.mv && f.mv ≤ 59000

/-- A feed that overvoltage had disconnected has fallen below 57.5 V (R70). -/
def State.feedReturns (s : State) (f : FeedMv) : Bool := (s.feed f.id).ovp && 40000 ≤ f.mv && f.mv < 57500

/-- The first usable feed has started the service domain with the carrier description (R69, R73). -/
abbrev FeedStarts (f : FeedMv) (i : StartIn) (s t : State) : Prop :=
  (t.feed f.id).usable = true ∧ (t.feed f.id).ovp = false ∧ (t.feed f.id).mv = f.mv ∧ t.pw.service = true ∧
  t.pw.noFlash = false ∧ t.pw.carrier = carrierOf i ∧ t.boot.step = 1 ∧ t.boot.cause = (if s.boot.brownout then 4 else 0) ∧ t.geo = s.geo ∧
  t.slt = s.slt

/-- A feed has taken the service domain over and started the main domain with its channels (R62, R73, R107). -/
abbrev FeedTakesOver (f : FeedMv) (s t : State) : Prop :=
  (t.feed f.id).usable = true ∧ t.pw.fromUx1 = false ∧ t.pw.main = true ∧ t.lds.on = true ∧ t.boot.step = 8 ∧
  (∀ n ∈ [0, 1, 2, 5], bit (t.reg (aLdsTmrCtl n)) 0 = true) ∧ (44000 ≤ f.mv → f.mv ≤ 57000 → t.ses = s.ses) ∧
  t = { s with pw := t.pw, lds := t.lds, boot := t.boot, regs := t.regs, strs := { s.strs with since := t.strs.since }, ses := t.ses, out := t.out }

/-- No usable feed is left: the main domain stops, and the service domain goes on only where UX1 carries it (R62, R72). -/
abbrev FeedsGone (s t : State) : Prop :=
  t.anyFeed = false ∧ t.pw.main = false ∧ t.pw.inputW = 0 ∧ t.pw.noFlash = true ∧ t.slt.front = [] ∧
  t.slt.preset = s.slt.preset ∧ t.thm.off = false ∧ t.geo = { s.geo with mir := {} } ∧
  ((ux1Carries s.pw.ux1 && s.pw.service) = false → t.pw.service = false ∧ t.ses.assoc = []) ∧
  ((ux1Carries s.pw.ux1 && s.pw.service) = true → t.pw.service = true ∧ t.pw.fromUx1 = true)

/-- A level command has installed its source, or released it, on the lighting channels it names and its vCtl may drive (R176, R254, R256, R257). -/
abbrev LevelTaken (lv : Option Nat) (c : Cmd) (s s1 t : State) : Prop :=
  (∀ h, h ∈ s1.targets c → s.isLamp h = true → c.vctl = 0 ∨ s.holdsLease c.vctl h = true → c.has 0x0170 = false →
    ∃ y ∈ t.sources h, y.rank = rankOf c.vctl ∧ y.vctl = c.vctl ∧ y.prog = .level (lv.getD 0)) ∧
  (∀ h, h ∈ s1.targets c → s.isLamp h = true → c.vctl = 0 ∨ s.holdsLease c.vctl h = true → c.has 0x0170 = true →
    ∀ y ∈ t.sources h, y.rank = rankOf c.vctl → y.vctl = c.vctl → y.pin = true) ∧
  (∀ h, h ∉ s1.targets c → t.sources h = s.sources h) ∧
  AfterReply { s1 with slt := { s1.slt with srcs := t.slt.srcs, starts := t.slt.starts } } t

/-- A schedule write has replaced the schedule of its number and nothing of another (R271). -/
abbrev ScheduleKept (c : Cmd) (s s1 t : State) : Prop :=
  (∃ k, tget t.slt.scheds (256 * c.vctl + c.nat 0x0194) = some k ∧ k.enabled = (c.nat 0x0197 1 == 1) ∧ k.group = c.nat? 0x0002 ∧
    k.eps = c.eps ∧ k.entries.map SEntry.light = (c.schedEntries.filterMap id).map SEntry.light ∧
    k.entries.length = c.schedEntries.length ∧ 1 ≤ k.entries.length) ∧
  (∀ j, j ≠ 256 * c.vctl + c.nat 0x0194 → tget t.slt.scheds j = tget s.slt.scheds j) ∧
  AfterReply { s1 with slt := { s1.slt with scheds := t.slt.scheds, srcs := t.slt.srcs, starts := t.slt.starts },
                       frm := { s1.frm with lateFires := s.frm.lateFires.filter (fun e => e.1 != 256 * c.vctl + c.nat 0x0194) } } t

/-- Census `n` of the string `g` has begun from its lead port (R201, R203). -/
abbrev CensusBegins (g n : Nat) (s t : State) : Prop :=
  t.out = [.msg .mslEnumerate (s.leadPort g) [0, n]
    (mslEther (s.leadPort g) (mslMessage (s.stringRate g) 0 .mslEnumerate [0, n] .clear (beBytes 2 n)))] ∧
  (t.grain g).number = n ∧ (t.grain g).trigger = none ∧ (t.grain g).waitUntil = none ∧
  (t.grain g).census = some ⟨n, s.leadPort g != g, s.frm.now, [], [], false, false⟩ ∧ t = { s with strs := t.strs, out := t.out }

/-- The pass of census `c` from the higher port `h` of the loop `g` has begun (R203). -/
abbrev SecondPassBegins (g h : Nat) (c : Census) (closed : Bool) (s t : State) : Prop :=
  (t.grain g).census = some { c with closed := closed, higherPass := true, last := s.frm.now } ∧
  t.out = [.msg .mslEnumerate h [0, c.number] (mslEther h (mslMessage (s.stringRate g) 0 .mslEnumerate [0, c.number] .clear (beBytes 2 c.number)))] ∧
  t = { s with strs := t.strs, out := t.out }

/-- The pairing of a pole node has failed, and the owner is told (R209). -/
abbrev PairFails (g p : Nat) (q : Pole) (s t : State) : Prop :=
  (t.pole? g p).map (·.pair) = some (.failed s.frm.now) ∧ bit (t.reg (aGrnStat g)) 3 = true ∧
  t.ses = (s.owner 0x0324 [tPort g, tCode p, tValue q.rep.eui]).ses ∧ t = { s with strs := t.strs, regs := t.regs, ses := t.ses, out := [] }

/-- Attempt `m` of the pairing of a pole node has begun: PAIR_INIT with an ephemeral key, a nonce and the device chain (R209). -/
abbrev PairBegins (g p m : Nat) (q : Pole) (s t : State) : Prop :=
  (t.pole? g p).map (·.pair) = some (.waiting s.frm.now m) ∧
  (t.pole? g p).map (·.pairEph) = some (some (Config.freeNat (s.free + 1), beBytes 12 (Config.freeNat s.free))) ∧
  (∀ b, q.held = [] → b = p256Bytes (Config.p256Pub (Config.freeNat (s.free + 1))) ++ beBytes 12 (Config.freeNat s.free) ++ deviceChain s.flt.mA →
    creditCost (20 + b.length) ≤ 32 → t.out = [.msg .mslPairInit (mkHandle g p 0) [(s.route g p).1, (s.route g p).2]
      (mslEther (s.route g p).1 (mslMessage (s.stringRate g) (s.route g p).2 .mslPairInit [] .clear b))]) ∧
  t = { s with strs := t.strs, free := s.free + 2, out := t.out }

/-- A timely answer has returned its tag to the pool's end and gives the command its result (R238, R239). -/
abbrev TagAnswered (g n es : Nat) (data : List (Nat × Bytes)) (y : Tag) (s t : State) : Prop :=
  tget (t.gbr g).tags n = none ∧ (t.gbr g).free = (s.gbr g).free ++ [n] ∧
  (y.op.names = [] → t.ses = (s.result y.op.key y.op.seq y.op.cmdid (if es = 0 then stOk else stEndpointError)
    (if es = 0 then data else [(0x0166, [byte (if es > 6 then 5 else es)])])).ses) ∧
  t = { s with brg := t.brg, strs := t.strs, ses := t.ses, out := [] }

/-- An answer with a tag that is not in use has been dropped and counted (R239). -/
abbrev TagUnknown (g : Nat) (s t : State) : Prop :=
  bit (t.reg (aGrnBrStat g)) 3 = true ∧ fieldOf (t.reg (aGrnBrDrop g)) 0 16 = satAdd 16 (fieldOf (s.reg (aGrnBrDrop g)) 0 16) 1 ∧
  t = { s with regs := t.regs, strs := t.strs, out := [] }

/-- An answer to a tag that has timed out has freed it and been counted (R239). -/
abbrev TagLate (g n : Nat) (s t : State) : Prop :=
  tget (t.gbr g).tags n = none ∧ (t.gbr g).free = (s.gbr g).free ++ [n] ∧ (t.gbr g).lateNow = (s.gbr g).lateNow + 1 ∧
  bit (t.reg (aGrnBrStat g)) 1 = true ∧ fieldOf (t.reg (aGrnBrCnt g)) 16 16 = satAdd 16 (fieldOf (s.reg (aGrnBrCnt g)) 16 16) 1 ∧
  t = { s with brg := t.brg, regs := t.regs, strs := t.strs, out := [] }

/-! ### The form of a state -/

/-- The rate of Lodestone stays within the bound of R81: the register, the frequency that firmware steers, and a written value that waits for the beat
boundary. -/
def Lodestone.rateOk (l : Lodestone) : Prop :=
  0x01FFFEB1 ≤ l.inc ∧ l.inc ≤ 0x0200014F ∧ 0x01FFFEB1 ≤ l.freq ∧ l.freq ≤ 0x0200014F ∧ ∀ v, l.incNext = some v → 0x01FFFEB1 ≤ v ∧ v ≤ 0x0200014F

/-- The form of a state of the machine: HBM is canonical and inside its size (R567), registers are 32-bit words listed once (R573), the rate of
Lodestone is bounded (R81), and the tables of associations, PTP ports, tracks and key blobs list each key once, rising. -/
structure State.InForm (s : State) : Prop where
  /-- HBM -/
  mem : s.qry.mem.wf = true
  /-- stored registers: keys rise -/
  regs : twf s.regs = true
  /-- stored registers: 32-bit words -/
  words : ∀ e ∈ s.regs, e.2 < 2 ^ 32
  /-- the rate -/
  rate : s.lds.rateOk
  /-- associations -/
  assoc : twf s.ses.assoc = true
  /-- PTP ports -/
  ptp : twf s.lds.ptp = true
  /-- tracks -/
  tracks : twf s.wak.tracks = true
  /-- key blobs -/
  blobs : twf s.flt.reg = true

end Sys2Proof.Machine
end

