-- ==== Sys2Proof/Certificates/Slice0/Obligations.lean ====
section
/-!
DEFINITION. Certificates/Slice0/Obligations.lean: the statements about the block.
Where an event is raised, a statement says which one, by `State.owner` and `State.raise`: the queues and the sequence numbers of R147 to R149.
Where a step changes only some parts of the state, a last clause writes the next state as the old one with those parts replaced.
-/
section
open Sys2Proof Sys2Proof.Machine

/-! ### The block as a whole -/

/-- A step runs the command at the front of the queue on the state with the queue's rest; an empty queue idles (the model's choice, log 1). -/
def Obligations.StepRunsTheFrontCommand : Prop :=
  (∀ (c : Instr) (rest : List Instr) (s : State), s.pending = c :: rest → step s = exec c { s with pending := rest }) ∧
  (∀ s : State, s.pending = [] → step s = .next s)

/-- No command faults, is refused, or touches the queue: the commands leave it first in, first out (the model's form of the queue, log 1). -/
def Obligations.EveryCommandCompletesAndKeepsTheQueue : Prop :=
  (∀ (c : Instr) (s : State), ∃ t, exec c s = .next t ∧ t.pending = s.pending) ∧
  (∀ (c : Instr) (rest : List Instr) (s : State), s.pending = c :: rest → ∃ t, step s = .next t ∧ t.pending = rest) ∧
  (∀ s t : State, s.pending.all Instr.wf = true → step s = .next t → t.pending.all Instr.wf = true)

/-- R110, R111, R141, R142, R170: at a beat 0 a command that passes its examination, whose tokens are paid and whose rights hold is committed, and its
reply entry is sent; apart from payment, commit and reply nothing happens. The row takes the way from acceptance to the reply in one step at a beat 0;
at any other beat the command waits for its commit, and its entry for the release, at the next beat 0 (log 11). -/
def Obligations.AcceptedCommandsCommitAndReply : Prop :=
  (∀ (x : Instr) (i : OpInfo) (src : Src) (tlvs : List Tlv) (s s1 : State) (c : Cmd),
    opRow x = some (i, src, tlvs) → accepted i src tlvs s = some (s1, c) →
    AfterDebit s s1 ∧ c.op = i.op ∧ c.key = src.key ∧ c.cmdid = src.cmdid ∧
    ∃ t, exec x s = .next t ∧ AfterReply (i.commit c s1).1 t ∧
      (replyGoes (i.commit c s1).1 src.key = true → Replied src (i.commit c s1).2 t)) ∧
  (∀ (x : Instr) (i : OpInfo) (src : Src) (tlvs : List Tlv) (s s1 : State) (a : Assoc) (c : Cmd), opRow x = some (i, src, tlvs) →
    s.assoc? src.key = some a → a.phase = .opened → s.pathUp a.path = true → i.early = false → s.frm.beat ≠ 0 →
    submit i src.key src.seq src.cmdid src.noData 0 a tlvs
      (({ s with out := [] } : State).modAssoc src.key (fun a => { a with lastRx := s.frm.now })) = (s1, .ok c) →
    exec x s = .next { s1 with frm := { s1.frm with
      accepted := s.frm.accepted ++ [c],
      pkts := s.frm.pkts ++ [{ key := src.key, seq := src.seq, due := s.frm.now + 1, ver := some (s1.verFor src.key 3), keep := false,
                               entries := [.wait c.uid] }] } })

/-- R136, R141, R187: a record of no OPEN association is discarded without reply; a command that its examination or its tokens refuse has no effect
but its reply and the count of TOKENS_EXHAUSTED refusals. -/
def Obligations.RefusedCommandsHaveNoEffect : Prop :=
  (∀ (x : Instr) (i : OpInfo) (src : Src) (tlvs : List Tlv) (s : State), opRow x = some (i, src, tlvs) →
    (∀ a, s.assoc? src.key = some a → a.phase = .awaitOpen ∨ s.pathUp a.path = false) → exec x s = .next { s with out := [] }) ∧
  (∀ (x : Instr) (i : OpInfo) (src : Src) (tlvs : List Tlv) (s s1 : State) (a : Assoc) (r : Reply), opRow x = some (i, src, tlvs) →
    s.assoc? src.key = some a → a.phase = .opened → s.pathUp a.path = true →
    submit i src.key src.seq src.cmdid src.noData 0 a tlvs
      (({ s with out := [] } : State).modAssoc src.key (fun a => { a with lastRx := s.frm.now })) = (s1, .error r) →
    r.op = i.op ∧ r.cmdid = src.cmdid ∧
    ∃ t, exec x s = .next t ∧ AfterReply s1 t ∧ (replyGoes s1 src.key = true → Replied src r t) ∧
      s1.ten.leases = s.ten.leases ∧ s1.slt = s.slt ∧ s1.brg = s.brg ∧ s1.strs = s.strs ∧ s1.qry = s.qry ∧ s1.boot = s.boot ∧ s1.frm = s.frm)

/-! ### Power and contacts -/

/-- R62, R69, R72, R73: the first usable feed starts the service domain with the carrier description; one that comes while the service domain runs
from UX1 takes it over and starts the main domain; with no usable feed the main domain has no rails, its slates read HOLD and the service domain goes
on only where UX1 carries it; the same holds of an overvoltage trip of the last feed. R69, R70: a feed is lost while the other is usable: the module
goes on, the flag of SYS_PWR_STAT is set and FEED_LOST is raised; entering a band raises its event once, and none while the band is held. R107: the
main domain starts with channels 0, 1, 2 and 5 armed.
-/
def Obligations.FeedsStartAndStopTheDomains : Prop :=
  (∀ (f : FeedMv) (i : StartIn) (s : State), s.feedRises f = true → s.pw.held = false → s.thm.off = false → s.pw.service = false →
    ∃ t, exec (.feedUsable f i) s = .next t ∧ FeedStarts f i s t) ∧
  (∀ (f : FeedMv) (i : StartIn) (s : State), s.feedReturns f = true → s.pw.held = false → s.thm.off = false → s.pw.service = false →
    ∃ t, exec (.ovpReconnect f i) s = .next t ∧ FeedStarts f i s t) ∧
  (∀ (f : FeedMv) (i : StartIn) (s : State), s.feedRises f = true → s.pw.held = false → s.thm.off = false → s.pw.service = true →
    s.boot.maint = true → s.boot.noSet = false → s.pw.main = false → ∃ t, exec (.feedUsable f i) s = .next t ∧ FeedTakesOver f s t) ∧
  (∀ (f : FeedMv) (i : StartIn) (s : State), s.feedReturns f = true → s.pw.held = false → s.thm.off = false → s.pw.service = true →
    s.boot.maint = true → s.boot.noSet = false → s.pw.main = false → ∃ t, exec (.ovpReconnect f i) s = .next t ∧ FeedTakesOver f s t) ∧
  (∀ s : State, s.anyFeed = true → ∃ t, exec .allFeedsLost s = .next t ∧ FeedsGone s t) ∧
  (∀ (f : FeedId) (s : State), (s.feed f).usable = true → (s.feed (otherFeed f)).usable = false →
    ∃ t, exec (.ovpTrip f) s = .next t ∧ FeedsGone s t) ∧
  (∀ (f : FeedId) (s : State), (s.feed f).usable = true → (s.feed (otherFeed f)).usable = true →
    ∃ t, exec (.feedLost f) s = .next t ∧ (t.feed f).usable = false ∧ t.feed (otherFeed f) = s.feed (otherFeed f) ∧
      bit (t.reg aSysPwrStat) 9 = true ∧ t.ses = (s.owner 0x0F08 [tPort (feedPort f)]).ses ∧
      t.pw.service = s.pw.service ∧ t.pw.main = s.pw.main ∧
      t = { s with pw := t.pw, regs := t.regs, ses := t.ses, out := t.out }) ∧
  (∀ (f : FeedMv) (s : State), (s.feed f.id).usable = true → 40000 ≤ f.mv → f.mv < 44000 →
    ∃ t, exec (.inputLow f) s = .next t ∧ t.feed f.id = { s.feed f.id with mv := f.mv } ∧ t.feed (otherFeed f.id) = s.feed (otherFeed f.id) ∧
      t.ses = (if (s.feed f.id).low then s.ses else (s.owner 0x0F05 [tPort (feedPort f.id)]).ses) ∧
      t = { s with pw := t.pw, ses := t.ses, out := t.out }) ∧
  (∀ (f : FeedMv) (s : State), (s.feed f.id).usable = true → 57000 < f.mv → f.mv ≤ 59000 →
    ∃ t, exec (.inputHigh f) s = .next t ∧ t.feed f.id = { s.feed f.id with mv := f.mv } ∧ t.feed (otherFeed f.id) = s.feed (otherFeed f.id) ∧
      t.ses = (if (s.feed f.id).high then s.ses else (s.owner 0x0F06 [tPort (feedPort f.id)]).ses) ∧
      t = { s with pw := t.pw, ses := t.ses, out := t.out }) ∧
  (∀ (f : FeedId) (s : State), (s.feed f).usable = true → (s.feed (otherFeed f)).usable = true →
    ∃ t, exec (.ovpTrip f) s = .next t ∧ t.feed f = { ovp := true } ∧ t.feed (otherFeed f) = s.feed (otherFeed f) ∧
      bit (t.reg aSysPwrStat) 8 = true ∧ t.ses = (s.owner 0x0F07 [tPort (feedPort f)]).ses ∧
      t = { s with pw := t.pw, regs := t.regs, ses := t.ses, out := t.out })

/-- R50, R67, R79: CARRIER_RST stops both domains after a flash program operation in progress and leaves the Geode alone, its release starts the module
under R73, 80 agreeing samples make a new class of the seal loop, which is reported and raised, and a write of SVC_GPIO_DIR drives the contacts. R549 to R553: attach, source capabilities with a usable feed, swaps as the roles
and feeds decide, and collisions. R553: a detach ends the connection and closes the sessions of UX1 only, and a service domain that ran from UX1
browns out; a PS_RDY that does not come leads to Hard Reset and back to the roles of R549. -/
def Obligations.ContactsAndUx1ActAsTheirRulesSay : Prop :=
  (∀ s : State, s.pw.service = true → ∃ t, exec .carrierRst s = .next t ∧ t.pw.held = true ∧ t.pw.main = false ∧ t.pw.service = false ∧
      t.regs = [] ∧ t.slt.front = [] ∧ t.ses.assoc = [] ∧ t.geo = { s.geo with mir := {} } ∧
      (s.boot.jopen = true → s.flashOk = true → t.boot.jopen = false ∧ t.boot.jseq = s.boot.jseq + 1)) ∧
  (∀ (i : StartIn) (s : State), s.pw.held = true → s.anyFeed = true → ∃ t, exec (.carrierRstRelease i) s = .next t ∧ t.pw.held = false ∧
      t.pw.service = true ∧ t.pw.fromUx1 = false ∧ t.pw.carrier = carrierOf i ∧ t.boot.step = 1 ∧ t.geo = s.geo) ∧
  (∀ (n o : Nat) (s : State), s.pw.service = true → loopClass o ≠ s.pw.loop → 80 ≤ n → ∃ t, exec (.tamperLoop n o) s = .next t ∧
      t.pw.loop = loopClass o ∧ t.pw.loopOhm = min (o / 10) 0xFFFF ∧ t.ses = (s.owner 0x0F04 [tCode (loopCode (loopClass o))]).ses ∧
      (loopClass o ≠ .closed → bit (t.reg aSvcKx1Stat) 4 = true) ∧ (loopClass o = .closed → t.regs = s.regs) ∧
      t = { s with pw := t.pw, regs := t.regs, ses := t.ses, out := [] }) ∧
  (∀ (n o : Nat) (s : State), s.pw.service = true → loopClass o ≠ s.pw.loopRun.1 → 0 < n → n < 80 → ∃ t, exec (.tamperLoop n o) s = .next t ∧
      t.pw.loopOhm = min (o / 10) 0xFFFF ∧ t = { s with pw := { s.pw with loopOhm := t.pw.loopOhm, loopRun := (loopClass o, n) }, out := [] }) ∧
  (∀ o : Nat, (3700 ≤ o → o ≤ 5700 → loopClass o = .closed) ∧ (o < 1000 → loopClass o = .short) ∧ (20000 < o → loopClass o = .open_) ∧
      (1000 ≤ o → o < 3700 → loopClass o = .fault) ∧ (5700 < o → o ≤ 20000 → loopClass o = .fault)) ∧
  (∀ (d : Nat) (s : State), s.pw.service = true → ∃ t, exec (.gpioDirWrite d) s = .next t ∧ t.reg aSvcGpioDir = d % 2 ^ 16 ∧
      (∀ a, a ≠ aSvcGpioDir → t.reg a = s.reg a) ∧ t.out = [.msg .pinGpio 0 [d % 2 ^ 16, s.reg aSvcGpioOut] []] ∧
      t = { s with regs := t.regs, out := t.out }) ∧
  (∀ (r : Bool) (s : State), s.pw.ux1.attached = false → ∃ t, exec (.ux1Attach r) s = .next t ∧ t.pw.ux1.attached = true ∧
      t.pw.ux1.source = (r && s.anyFeed) ∧ t.pw.ux1.dfp = (r && s.anyFeed) ∧
      (r = true → s.opFeed = true → t.pw.ux1.mv = 5000 ∧ t.pw.ux1.ma = 1500) ∧
      t = { s with pw := { s.pw with ux1 := t.pw.ux1 }, ses := t.ses, out := t.out }) ∧
  (∀ (o : List Pdo) (u k : Bool) (i : StartIn) (s : State), s.pw.ux1.attached = true → s.pw.ux1.source = false → s.anyFeed = true →
    ∃ t, exec (.ux1SourceCaps o u k i) s = .next t ∧ t.pw.ux1.contract = true ∧ t.pw.ux1.mv = 5000 ∧ t.pw.ux1.ma = 10 ∧ t.pw.ux1.offers = o ∧
      t.out = [.msg .ux1Request 0 [5000, 10] []] ∧ t = { s with pw := { s.pw with ux1 := t.pw.ux1 }, out := t.out }) ∧
  (∀ s : State, s.pw.ux1.attached = true → s.anyFeed = true → ∃ t, exec .ux1PrSwapRequest s = .next t ∧
      t.pw.ux1 = { s.pw.ux1 with source := !s.pw.ux1.source, swapping := true, contract := false, mv := 0, ma := 0 } ∧
      t.out = .msg .ux1Accept 0 [0] [] :: (if s.pw.ux1.source = true ∧ s.pw.ux1.mv ≠ 0 then [.msg .ux1Source 0 [0] []] else []) ∧
      t = { s with pw := { s.pw with ux1 := t.pw.ux1 }, out := t.out }) ∧
  (∀ s : State, s.pw.ux1.attached = true → s.anyFeed = false → ∃ t, exec .ux1PrSwapRequest s = .next t ∧ t.pw = s.pw ∧
      bit (t.reg aSvcUx1Flags) 2 = true ∧ t.out = [.msg .ux1Reject 0 [] []] ∧ t = { s with regs := t.regs, out := t.out }) ∧
  (∀ s : State, s.pw.ux1.attached = true → s.pw.ux1.swapping = false → ∃ t, exec .ux1DrSwapRequest s = .next t ∧
      t.pw.ux1 = { s.pw.ux1 with dfp := !s.pw.ux1.dfp, dfpAt := s.frm.now } ∧ t.out = [.msg .ux1Accept 0 [1] []] ∧
      t = { s with pw := { s.pw with ux1 := t.pw.ux1 }, out := t.out }) ∧
  (∀ s : State, s.pw.ux1.attached = true → s.pw.ux1.swapping = true →
    exec .ux1DrSwapRequest s = .next { s with out := [.msg .ux1Wait 0 [] []] }) ∧
  (∀ s : State, s.pw.ux1.attached = true → s.pw.ux1.source = false → s.feedFor1s = true → s.pw.ux1.unconstrained = false →
    ∃ t, exec .ux1PrSwapInitiate s = .next t ∧ t.pw.ux1 = { s.pw.ux1 with source := true, swapping := true, contract := false, mv := 0, ma := 0 } ∧
      t.out = [.msg .ux1Swap 0 [0] []] ∧ t = { s with pw := { s.pw with ux1 := t.pw.ux1 }, out := t.out }) ∧
  (∀ s : State, s.pw.ux1.attached = true → s.pw.ux1.dfp = true → s.pw.ux1.swapping = false → s.pw.ux1.dfpAt + 200 ≤ s.frm.now →
    ∃ t, exec .ux1DrSwapInitiate s = .next t ∧ t.pw.ux1 = { s.pw.ux1 with dfp := false } ∧
      t.out = (if s.pw.ux1.source then [.msg .ux1Rp 0 [1500] [], .msg .ux1Swap 0 [1] [], .msg .ux1Rp 0 [3000] []] else [.msg .ux1Swap 0 [1] []]) ∧
      t = { s with pw := { s.pw with ux1 := t.pw.ux1 }, out := t.out }) ∧
  (∀ s : State, s.pw.ux1.attached = true → ∃ t, exec .ux1Collision s = .next t ∧ t.pw = s.pw ∧ bit (t.reg aSvcUx1Flags) 1 = true ∧
      (s.pw.ux1.source = true → t.out = [] ∧ t.free = s.free) ∧
      (s.pw.ux1.source = false → ∃ us, 50000 ≤ us ∧ us ≤ 100000 ∧ t.out = [.msg .ux1Retry 0 [us] []]) ∧
      t = { s with regs := t.regs, out := t.out, free := t.free }) ∧
  (∀ (b : Bool) (s : State), s.pw.ux1.attached = true → (b = false ∨ (s.pw.ux1.source = false ∧ s.pw.ux1.swapping = false)) →
    (s.pw.fromUx1 = false ∨ s.anyFeed = true) →
    ∃ t, exec (.ux1Detach b) s = .next t ∧ t.pw.ux1 = {} ∧ t.pw.service = s.pw.service ∧ bit (t.reg aSvcUx1Flags) 0 = true ∧
      t.ses.assoc = tkeep s.ses.assoc (fun _ a => a.path != .ux1) ∧
      t = { s with pw := { s.pw with ux1 := {} }, regs := t.regs, ses := t.ses, out := t.out }) ∧
  (∀ (b : Bool) (s : State), s.pw.ux1.attached = true → (b = false ∨ (s.pw.ux1.source = false ∧ s.pw.ux1.swapping = false)) →
    s.pw.fromUx1 = true → s.pw.service = true → s.anyFeed = false →
    ∃ t, exec (.ux1Detach b) s = .next t ∧ t.pw.service = false ∧ t.pw.fromUx1 = false ∧ t.boot.brownout = true ∧ t.ses.assoc = [] ∧
      t.geo = s.geo ∧ t.slt = s.slt) ∧
  (∀ s : State, s.pw.ux1.attached = true → s.pw.ux1.swapping = true → s.pw.ux1.source = false →
    ∃ t, exec .ux1PsRdyTimeout s = .next t ∧
      t.out = .msg .ux1HardReset 0 [] [] :: (if s.opFeed then [.msg .ux1Source 0 [1] [], .msg .ux1Caps 0 [5000, 1500] []] else []) ∧
      t.pw.ux1 = { s.pw.ux1 with swapping := false, contract := false, source := s.anyFeed, dfp := s.anyFeed, dfpAt := s.frm.now,
                                 mv := if s.opFeed then 5000 else 0, ma := if s.opFeed then 1500 else 0 } ∧
      t = { s with pw := { s.pw with ux1 := t.pw.ux1 }, out := t.out })

/-! ### Heat -/

/-- R556, R557, R559, R560, R561, R570: beat 64 takes the samples and decides the step of the next beat 0; warnings are raised once; HBM refresh follows its
sensor; an idled port that detects a signal powers up. -/
def Obligations.ThrottleLadderAndWarnings : Prop :=
  (∀ (die last : List Int) (s : State), s.pw.main = true → s.frm.beat = 64 → s.thm.judged ≠ some s.frm.now → die ≠ [] →
    ∃ t, exec (.thermalStep die last) s = .next t ∧
      t.thm.tf = (hottestOf (die.take 22)).1 ∧ t.thm.hottest = (hottestOf (die.take 22)).2 ∧ t.thm.step = s.thm.step ∧
      (deg 95 ≤ t.thm.tf → s.thm.step < 3 → s.thm.changed = none → t.thm.next = some (s.thm.step + 1)) ∧
      (deg 90 < t.thm.tf → t.thm.tf < deg 95 → t.thm.next = none ∧ t.thm.cool = 0) ∧
      (∀ j, s.thm.judged = some j → j + 1 = s.frm.now → t.thm.tf ≤ deg 90 → s.thm.cool = 99 → 0 < s.thm.step →
        t.thm.next = some (s.thm.step - 1) ∧ t.thm.cool = 0) ∧
      (∀ n v, (last.take 24)[n]? = some v → tget t.thm.temp n = some v) ∧
      t = { s with thm := t.thm, out := [] }) ∧
  (∀ s : State, s.pw.main = true → s.thm.judged = some s.frm.now → deg 110 ≤ s.thm.tf → s.thm.warn = false →
    ∃ t, exec (.thermalWarning false s.thm.hottest s.thm.tf) s = .next t ∧ t.thm = { s.thm with warn := true } ∧
      t.ses = (s.owner 0x0F21 [tCode 0, tCode s.thm.hottest, tValue s.thm.tf]).ses ∧
      t = { s with thm := t.thm, regs := t.regs, ses := t.ses, out := [] }) ∧
  (∀ (n : Nat) (d : Int) (s : State), s.pw.main = true → n = 22 ∨ n = 23 → deg 95 ≤ d → s.thm.hbmWarned.contains (n - 22) = false →
    ∃ t, exec (.thermalWarning true n d) s = .next t ∧ t.thm.hbmWarned = insNat (n - 22) s.thm.hbmWarned ∧ t.thm.hot = insNat (n - 22) s.thm.hot ∧
      tget t.thm.temp n = some d ∧ t.ses = (s.owner 0x0F21 [tCode 1, tCode n, tValue d]).ses ∧
      t = { s with thm := { s.thm with hbmWarned := t.thm.hbmWarned, hot := t.thm.hot, temp := t.thm.temp, tmax := t.thm.tmax }, regs := t.regs,
                   ses := t.ses, out := [] }) ∧
  (∀ (k : Nat) (d : Int) (s : State), s.pw.main = true → k < 2 → ∃ t, exec (.hbmHot k d) s = .next t ∧
      (deg 85 ≤ d → t.thm.hot = insNat k s.thm.hot) ∧ (d < deg 80 → t.thm.hot = s.thm.hot.filter (· != k)) ∧
      (deg 80 ≤ d → d < deg 85 → t.thm.hot = s.thm.hot) ∧ (deg 90 ≤ d → t.thm.hbmWarned = s.thm.hbmWarned) ∧
      (d < deg 90 → t.thm.hbmWarned = s.thm.hbmWarned.filter (· != k)) ∧ tget t.thm.temp (22 + k) = some d ∧
      t = { s with thm := { s.thm with hbmWarned := t.thm.hbmWarned, hot := t.thm.hot, temp := t.thm.temp, tmax := t.thm.tmax }, out := [] }) ∧
  (∀ (p : Nat) (s : State), s.pw.main = true → s.thm.idled.contains p = true → (∀ f, tget s.thm.probes p = some f → f + 100 ≤ s.frm.now) →
    ∃ t, exec (.idlePortProbe p true) s = .next t ∧
      t.thm.idled.contains p = false ∧ t.thm.woken.contains p = true ∧ (p < 256 → (t.grain p).try_ = (s.grain p).firstTry) ∧
      t = { s with thm := t.thm, strs := t.strs, out := [] }) ∧
  (∀ (p : Nat) (s : State), s.pw.main = true → s.thm.idled.contains p = true → (∀ f, tget s.thm.probes p = some f → f + 100 ≤ s.frm.now) →
    exec (.idlePortProbe p false) s = .next { s with thm := { s.thm with probes := tset s.thm.probes p s.frm.now }, out := [] }) ∧
  (∀ (p : Nat) (b : Bool) (s : State), s.thm.idled.contains p = false → exec (.idlePortProbe p b) s = .next { s with out := [] })

/-- R562 to R564: a shutdown and a hard trip take both domains down and record the sensor; a restart brings the service domain up with cause 3. R568:
an error met in a written granule of HBM is counted, flagged and raised; an uncorrectable one marks its 32-byte word; no stored byte changes; a never-
written granule is read without check. -/
def Obligations.ThermalStopsAndHbmErrors : Prop :=
  (∀ (n : Nat) (l : List Int) (s : State), s.pw.main = true → n < 24 → 8 ≤ l.length → (∀ d ∈ l.drop (l.length - 8), shutAt n ≤ d) →
    ∃ t, exec (.thermalShutdown n l) s = .next t ∧ t.thm.off = true ∧ t.thm.lastTemp = l.getLastD 0 ∧ t.thm.lastSensor = n ∧ t.thm.lastHard = false ∧
      t.pw.main = false ∧ t.pw.service = false ∧ t.slt.front = [] ∧ t.regs = [] ∧ t.qry.mem = [] ∧ t.geo = { s.geo with mir := {} }) ∧
  (∀ (n : Nat) (d : Int) (s : State), s.pw.main = true ∨ s.pw.service = true → n < 22 → deg 125 ≤ d →
    ∃ t, exec (.thermalTrip n d) s = .next t ∧ t.thm.off = true ∧ t.thm.lastTemp = d ∧ t.thm.lastSensor = n ∧ t.thm.lastHard = true ∧
      t.pw.main = false ∧ t.pw.service = false ∧ t.slt.front = [] ∧ t.regs = [] ∧ t.qry.mem = [] ∧ t.geo = { s.geo with mir := {} } ∧
      t.out = [.msg .pinStat 0 [0] []]) ∧
  (∀ (i : StartIn) (s : State), s.thm.off = true → s.anyFeed = true → s.pw.held = false → s.thm.barred = false → s.thm.restarts = [] →
    ∃ t, exec (.thermalRestart i) s = .next t ∧ t.thm.off = false ∧ t.thm.restarts = [s.thm.pcFrames + 6000] ∧ t.pw.service = true ∧
      t.pw.carrier = carrierOf i ∧ t.boot.step = 1 ∧ t.boot.cause = 3 ∧ t.geo = s.geo) ∧
  (∀ (i : StartIn) (s : State), s.thm.barred = true ∨
    3 ≤ (s.thm.restarts.filter (fun f => s.thm.pcFrames + 6000 < f + 360000)).length → exec (.thermalRestart i) s = .next { s with out := [] }) ∧
  (∀ (a : Nat) (s : State), s.pw.main = true → a < hbmSize → s.isWritten a = true → s.thm.lastCe = none →
    ∃ t, exec (.hbmEccError a true) s = .next t ∧ fieldOf (t.reg aSysHbmEcc) 0 16 = min (fieldOf (s.reg aSysHbmEcc) 0 16 + 1) 65535 ∧
      bit (t.reg aSysHbmFlags) 0 = true ∧ t.ses = (s.owner 0x0F23 [tCode 0, tValue (a / 32 * 32 : Nat)]).ses ∧
      t = { s with regs := t.regs, ses := t.ses, thm := { s.thm with lastCe := some s.frm.now }, out := [] }) ∧
  (∀ (a f : Nat) (s : State), s.pw.main = true → a < hbmSize → s.isWritten a = true → s.thm.lastCe = some f → s.frm.now < f + 100 →
    ∃ t, exec (.hbmEccError a true) s = .next t ∧ fieldOf (t.reg aSysHbmEcc) 0 16 = min (fieldOf (s.reg aSysHbmEcc) 0 16 + 1) 65535 ∧
      bit (t.reg aSysHbmFlags) 0 = true ∧ t = { s with regs := t.regs, out := [] }) ∧
  (∀ (a : Nat) (s : State), s.pw.main = true → a < hbmSize → s.isWritten a = true →
    ∃ t, exec (.hbmEccError a false) s = .next t ∧ fieldOf (t.reg aSysHbmEcc) 16 16 = min (fieldOf (s.reg aSysHbmEcc) 16 16 + 1) 65535 ∧
      bit (t.reg aSysHbmFlags) 1 = true ∧ t.isBad a = true ∧ t.ses = (s.owner 0x0F23 [tCode 1, tValue (a / 32 * 32 : Nat)]).ses ∧
      t = { s with regs := t.regs, ses := t.ses, thm := { s.thm with bad := t.thm.bad }, out := [] }) ∧
  (∀ (a : Nat) (k : Bool) (s : State), s.isWritten a = false → exec (.hbmEccError a k) s = .next { s with out := [] })

/-! ### Start, blocks, update, flash -/

/-- R496, R531 to R533: Flint measures the first approved set and reaches MAINTENANCE, without one it runs no image and the main domain stays off; a
step that is not reached in time leaves its block out; frame service is entered at a frame boundary, and the slates are as they were. R524, R535,
R565: a bank without progress is reset and leaves, rejoins unless it was its third reset within the hour, and a reset of both banks restarts the
module and counts a failed start. -/
def Obligations.StartReachesItsLevelsAndWatchdogsReset : Prop :=
  (∀ (l : List Image) (prev : Bool) (s : State), s.pw.service = true → s.flt.st = 0 → s.chooseSet = some (l, prev) →
    ∃ t, exec .flintMeasure s = .next t ∧ t.boot.maint = true ∧ t.boot.noSet = false ∧ t.boot.prev = prev ∧ t.flt.st = 1 ∧ t.flt.mK = measK l ∧
      t.flt.mA = measA l ∧ 3 ≤ t.boot.step ∧ (s.pw.main = false → t.pw.main = s.anyFeed) ∧ t.geo = s.geo) ∧
  (∀ s : State, s.pw.service = true → s.flt.st = 0 → s.chooseSet = none → s.pw.main = false →
    ∃ t, exec .flintMeasure s = .next t ∧ t.boot.maint = true ∧ t.boot.noSet = true ∧ t.boot.run = [] ∧ t.flt.st = 1 ∧ t.pw.main = false ∧ t.geo = s.geo) ∧
  (∀ (k : Nat) (s : State), s.pw.main = true → s.boot.inService = false → k < 16 → ∃ t, exec (.startStepTimeout 6 k) s = .next t ∧
      t.stratumOut k = true ∧ t = { s with boot := { s.boot with strataOut := t.boot.strataOut }, out := [] }) ∧
  (∀ s : State, s.pw.main = true → s.boot.inService = false →
    exec (.startStepTimeout 5 0) s = .next { s with boot := { s.boot with bankAOut := true }, out := [] } ∧
    exec (.startStepTimeout 5 1) s = .next { s with boot := { s.boot with bankBOut := true }, out := [] } ∧
    exec (.startStepTimeout 7 0) s = .next { s with boot := { s.boot with airOut := true }, out := [] }) ∧
  (∀ s : State, s.mayEnter = true → s.frm.beat = 0 → ∃ t, exec .frameServiceEntry s = .next t ∧ t.boot.inService = true ∧ 10 ≤ t.boot.step ∧
      t.slt.front = s.slt.front ∧ t.slt.back = s.slt.back ∧ t.geo = s.geo ∧ t.pw = s.pw) ∧
  (∀ s : State, s.pw.main = true → s.boot.bankAOut = false → ∃ t, exec (.bankWatchdog false false) s = .next t ∧ t.boot.bankAOut = true ∧
      t.boot.resets.1 = s.frm.now :: s.recent s.boot.resets.1 ∧ t.boot.resets.2 = s.boot.resets.2 ∧
      t = { s with boot := { s.boot with bankAOut := true, resets := t.boot.resets }, out := [] }) ∧
  (∀ s : State, s.pw.main = true → s.frm.beat = 0 → s.boot.bankBOut = true → s.boot.act = none → 0 < s.boot.resets.2.length → (s.recent s.boot.resets.2).length < 3 →
    exec (.bankWatchdog true true) s = .next { s with boot := { s.boot with bankBOut := false }, out := [] }) ∧
  (∀ s : State, s.pw.main = true → s.boot.bankBOut = true → 3 ≤ (s.recent s.boot.resets.2).length →
    exec (.bankWatchdog true true) s = .next { s with out := [] }) ∧
  (∀ (i : StartIn) (s : State), s.pw.service = true → s.pw.main = true → ∃ t, exec (.watchdogReset i) s = .next t ∧ t.pw.main = false ∧
      t.pw.service = true ∧ t.boot.step = 1 ∧ t.boot.cause = 2 ∧ t.slt.front = [] ∧ t.geo = { s.geo with mir := {} } ∧
      t.boot.attempts = (if s.boot.served < 360000 then min 3 (s.boot.attempts + 1) else s.boot.attempts))

/-- R540 to R542: bank B takes over at a beat 0 once it is ready and the keys are, and bank A joins; main that does not get ready is abandoned. R543
to R545: strata swap one at a tick, the air image takes over at a tick and is handed back when it handles nothing, and Flint takes over at beat 2 when
the keys are ready. -/
def Obligations.ImageUpdatesHandOver : Prop :=
  (∀ s : State, s.turnOf = some 1 → (∃ a, s.boot.act = some a ∧ a.left = true ∧ a.handed = false) →
    exec .bankBReady s = .next { s with boot := { s.boot with act := s.boot.act.map (fun a => { a with bReady := true }) }, out := [] }) ∧
  (∀ (a : Activation) (s : State), s.turnOf = some 1 → s.frm.beat = 0 → s.keysReady = true → s.boot.act = some a → a.bReady = true → a.handed = false →
    ∃ t, exec .mainHandover s = .next t ∧ t.boot.bankBOut = false ∧ t.boot.bankAOut = true ∧
      t.boot.resets = ([], []) ∧ t.boot.act.map (·.handed) = some true ∧ t.boot.act.map (·.since) = some s.frm.now ∧ t.slt = s.slt ∧ t.geo = s.geo) ∧
  (∀ (a : Activation) (k : Nat) (r : List Nat) (s : State), s.turnOf = some 1 → s.frm.beat = 0 → s.boot.act = some a → a.todo = 1 :: k :: r → a.handed = true →
    exec .bankAJoin s = .next { s with boot := { s.boot with bankAOut := false, act := some { a with todo := k :: r } }, out := [] }) ∧
  (∀ (a : Activation) (s : State), s.turnOf = some 1 → s.frm.beat = 0 → s.boot.act = some a → a.todo = [1] → a.handed = true →
    ∃ t, exec .bankAJoin s = .next t ∧ t.boot.bankAOut = false ∧ t.boot.act = none ∧ bit (t.reg aSvcUpd) 17 = true ∧ t.slt = s.slt ∧ t.geo = s.geo) ∧
  (∀ (a : Activation) (s : State), s.turnOf = some 1 → s.boot.act = some a → a.handed = false → a.left = true → s.flt.migr = none →
    ∃ t, exec (.mainUpdateTimeout true) s = .next t ∧ t.boot.act = none ∧ t.boot.bankBOut = false ∧ bit (t.reg aSvcUpd) 16 = true ∧
      t.slt = s.slt ∧ t.geo = s.geo) ∧
  (∀ (a : Activation) (s : State), s.turnOf = some 2 → s.frm.beat = 0 → s.boot.act = some a → a.lastSwap ≠ some s.frm.now → a.back = false →
    a.swapped < 16 → exec (.grainStratumSwap true) s =
      .next { s with boot := { s.boot with act := some { a with swapped := a.swapped + 1, lastSwap := some s.frm.now } }, out := [] }) ∧
  (∀ (a : Activation) (s : State), s.turnOf = some 2 → s.frm.beat = 0 → s.boot.act = some a → a.lastSwap ≠ some s.frm.now → 1 < a.swapped →
    exec (.grainStratumSwap false) s =
      .next { s with boot := { s.boot with act := some { a with back := true, swapped := a.swapped - 1, lastSwap := some s.frm.now } }, out := [] }) ∧
  (∀ (a : Activation) (i : Image) (s : State), s.turnOf = some 3 → s.frm.beat = 0 → s.boot.act = some a → a.airSince = none → a.classes.contains 3 = true →
    (s.slots 3).stg = some i → ∃ t, exec .airImageTakeover s = .next t ∧ tget t.boot.run 3 = some i ∧
      t.boot.act = some { a with airSince := some s.frm.now } ∧ t.ses = (s.owner 0x0F11 [tCode 1, tCode 3]).ses ∧
      t = { s with boot := t.boot, flt := t.flt, ses := t.ses, out := [] }) ∧
  (∀ (a : Activation) (f : Nat) (s : State), s.turnOf = some 3 → s.frm.beat = 0 → s.boot.act = some a → a.airSince = some f → f + 100 ≤ s.frm.now →
    (∀ r, s.air.rxFrame = some r → r < f) → s.flt.migr = none →
    ∃ t, exec .airImageHandback s = .next t ∧ t.boot.act = none ∧ bit (t.reg aSvcUpd) 16 = true ∧
      (∀ i, tget a.old 3 = some i → tget t.boot.run 3 = some i) ∧ t.slt = s.slt ∧ t.geo = s.geo) ∧
  (∀ (a : Activation) (k : Nat) (r : List Nat) (i : Image) (s : State), s.boot.act = some a → a.restart = false → a.todo = 0 :: k :: r → s.frm.beat = 2 →
    s.keysReady = true → a.classes.contains 0 = true → (s.slots 0).stg = some i → s.flt.migr = none →
    ∃ t, exec (.flintImageTakeover true) s = .next t ∧ tget t.boot.run 0 = some i ∧
      t.boot.act = some { a with todo := k :: r, handAt := some (s.frm.now + 1) } ∧ t.slt = s.slt ∧ t.geo = s.geo)

/-- R538, R547: verification ends a staging with its RESULT, a commit record begins and completes with the next sequence number, and a flash device that
fails is taken out of use and raised. -/
def Obligations.StagingAndFlashAreCarriedOut : Prop :=
  (∀ (k : Nat) (g : Staging) (w : Nat × Nat × Nat) (i : Image) (s : State), s.flintOn = true → (s.slots k).staging = some g → g.waiting = some w →
    s.verifyStaged k g = .ok i → ∃ t, exec (.imageVerified k) s = .next t ∧ (t.slots k).stg = some i ∧
      (t.slots k).staging.map (·.stage) = some 2 ∧ t.ses = (s.result w.1 w.2.1 w.2.2 stOk).ses ∧ t = { s with boot := t.boot, ses := t.ses, out := [] }) ∧
  (∀ (k e : Nat) (g : Staging) (w : Nat × Nat × Nat) (s : State), s.flintOn = true → (s.slots k).staging = some g → g.waiting = some w →
    s.verifyStaged k g = .error e → ∃ t, exec (.imageVerified k) s = .next t ∧ (t.slots k).stg = (s.slots k).stg ∧
      (t.slots k).staging.map (·.stage) = some 3 ∧ t.ses = (s.result w.1 w.2.1 w.2.2 e).ses ∧ t = { s with boot := t.boot, ses := t.ses, out := [] }) ∧
  (∀ s : State, s.pw.service = true → s.boot.maint = true → s.boot.jopen = false → s.flashOk = true → s.pw.noFlash = false →
    exec (.journalCommit false) s = .next { s with boot := { s.boot with jopen := true }, out := [] }) ∧
  (∀ s : State, s.pw.service = true → s.boot.jopen = true → s.flashOk = true → ∃ t, exec (.journalCommit true) s = .next t ∧
      t.boot = { s.boot with jopen := false, jseq := s.boot.jseq + 1 } ∧ t = { s with boot := t.boot, lds := { s.lds with journaled := t.lds.journaled }, out := [] }) ∧
  (∀ s : State, s.pw.noFlash = true → exec (.journalCommit false) s = .next { s with out := [] }) ∧
  (∀ (d : Nat) (s : State), s.pw.service = true → (d = 0 ∧ s.boot.dev0 = true) ∨ (d = 1 ∧ s.boot.dev1 = true) →
    ∃ t, exec (.flashDeviceFail d) s = .next t ∧ t.boot.dev0 = (s.boot.dev0 && d != 0) ∧ t.boot.dev1 = (s.boot.dev1 && d != 1) ∧
      bit (t.reg aSvcFlash) 2 = true ∧ t.ses = (s.owner 0x0F12 [tCode d]).ses ∧ t = { s with boot := t.boot, regs := t.regs, ses := t.ses, out := [] })

/-! ### Lodestone, references, timers -/

/-- R80 to R87: LDS_INC is clamped and waits for the next beat boundary, the offset load is taken once and outside frame service and sets the compare
value of the frame tick, a read of LDS_NS latches the wrap count, extends and tells of more than one wrap, LDS_FRAME_LO latches LDS_FRAME_HI, a wrap
counts, and a beat boundary brings the counter to the next multiple of 125,000 ns after the frame tick, moves the beat on and marks the edge to the
Geode; without Lodestone the service logic counts the beats (R116). -/
def Obligations.CounterAndLoads : Prop :=
  (∀ (v : Nat) (s : State), ∃ t, exec (.ldsIncWrite v) s = .next t ∧
      (0x01FFFEB1 ≤ v ∧ v ≤ 0x0200014F → t.lds.incNext = some v ∧ t.regs = s.regs) ∧
      (v < 0x01FFFEB1 → t.lds.incNext = some 0x01FFFEB1 ∧ bit (t.reg aLdsStat) 17 = true) ∧
      (0x0200014F < v → t.lds.incNext = some 0x0200014F ∧ bit (t.reg aLdsStat) 17 = true) ∧
      t = { s with lds := { s.lds with incNext := t.lds.incNext }, regs := t.regs, out := [] }) ∧
  (∀ (full : Nat) (s : State), s.lds.loadUsed = false → s.boot.inService = false → ∃ t, exec (.ldsOffsetLoad full) s = .next t ∧
      t.lds.load = full % 2 ^ 32 ∧ t.lds.loadUsed = true ∧ t.lds.time = full % 2 ^ 32 * 2 ^ 24 ∧ t.lds.wrap = 0 ∧ t.lds.wrapLatch = 0 ∧ t.lds.ext = full ∧
      t.lds.st = s.lds.st ∧ t.lds.inc = s.lds.inc ∧ t.frm.now = full / 10000000 ∧ t.frm.beat = full % 10000000 / 125000 ∧
      t.reg (aLdsTmrCmp 0) = (full / 10000000 + 1) * 10000000 % 2 ^ 32 ∧ t.slt = s.slt ∧ t.geo = s.geo ∧ t.brg = s.brg) ∧
  (∀ (full : Nat) (s : State), s.lds.loadUsed = true ∨ s.boot.inService = true → ∃ t, exec (.ldsOffsetLoad full) s = .next t ∧
      bit (t.reg aLdsStat) 16 = true ∧ t = { s with lds := { s.lds with load := full % 2 ^ 32 }, regs := t.regs, out := [] }) ∧
  (∀ (b k g : Nat) (s u : State), u = ({ s with out := [] } : State).later b k → g = (u.lds.wrap + 65536 - u.lds.wrapLatch) % 65536 →
    2 * (u.lds.ticks - u.lds.readTick) < 2 ^ 48 → ∃ t, exec (.ldsNsRead b k) s = .next t ∧
      (g ≤ 1 → t.lds = { u.lds with wrapLatch := u.lds.wrap, ext := u.ns, readTick := u.lds.ticks } ∧ t.ses = u.ses) ∧
      (1 < g → t.lds = { u.lds with wrapLatch := u.lds.wrap, ext := (u.lds.ext / 2 ^ 32 + g) * 2 ^ 32 + u.lds.nsReg, readTick := u.lds.ticks } ∧
        t.ses = (u.owner 0x0601 [tCount g]).ses) ∧
      t = { u with lds := t.lds, ses := t.ses, pending := s.pending }) ∧
  (∀ (b k : Nat) (s u : State), u = ({ s with out := [] } : State).later b k → 2 ^ 48 ≤ 2 * (u.lds.ticks - u.lds.readTick) → u.lds.bestP = none →
    ∃ t, exec (.ldsNsRead b k) s = .next t ∧ t.lds.untraceable = true ∧ t.lds.wrapLatch = u.lds.wrap ∧
      t = { u with lds := t.lds, ses := t.ses, pending := s.pending }) ∧
  (∀ s : State, exec .ldsFrameLoRead s = .next { s with lds := { s.lds with hiLatch := s.frm.now / 2 ^ 32 % 2 ^ 32 }, out := [] }) ∧
  (∀ s : State, s.lds.on = true → s.rated → s.lds.time < 2 ^ 56 → s.lds.ticksFor (2 ^ 32 - s.lds.nsReg) < s.ticksToBeat → s.Quiet [] →
    ∃ t, exec .counterWrap s = .next t ∧ t.lds.wrap = (s.lds.wrap + 1) % 65536 ∧ t.lds.time < s.lds.inc ∧
      t.lds = ldsTicks (s.lds.ticksFor (2 ^ 32 - s.lds.nsReg)) s.lds ∧ t = { s with lds := t.lds, out := [] }) ∧
  (∀ s : State, s.lds.on = true → s.lds.ticksFor (2 ^ 32 - s.lds.nsReg) < s.ticksToBeat → exec .counterWrap s =
      .next { runTicks tickFuel (s.lds.ticksFor (2 ^ 32 - s.lds.nsReg)) { s with out := [] } with pending := s.pending }) ∧
  (∀ (i : BeatIn) (s : State), s.lds.on = true → s.pw.service = true → s.rated → s.Quiet [] → loopClass i.ohm = s.pw.loop →
    ∃ t, exec (.beatBoundary i) s = .next t ∧ t.frm.beat = (s.frm.beat + 1) % 80 ∧ t.frm.tickDue = (s.frm.tickDue || t.frm.beat == 0) ∧
      t.lds.incNext = none ∧ (s.lds.st ≠ .switch → t.lds.inc = s.lds.incNext.getD s.lds.freq) ∧
      t.reached (s.beatStart (s.frm.beat + 1)) = true ∧ t.pw.gpioIn = i.gpio % 65536 ∧ t.pw.loopOhm = min (i.ohm / 10) 65535 ∧
      t.out = [.msg .beatEdge 0 [(s.frm.beat + 1) % 80] []] ∧
      t = { s with lds := t.lds, frm := { s.frm with beat := t.frm.beat, tickDue := t.frm.tickDue }, pw := t.pw, out := t.out }) ∧
  (∀ (i : BeatIn) (s : State), s.lds.on = false → s.pw.service = true → loopClass i.ohm = s.pw.loop → ∃ t, exec (.beatBoundary i) s = .next t ∧
      t.frm.beat = (s.frm.beat + 1) % 80 ∧ t.frm.tickDue = (s.frm.tickDue || t.frm.beat == 0) ∧ t.pw.gpioIn = i.gpio % 65536 ∧
      t.pw.loopOhm = min (i.ohm / 10) 65535 ∧
      t = { s with frm := { s.frm with beat := t.frm.beat, tickDue := t.frm.tickDue }, pw := t.pw, out := [] })

/-- R94, R97, R99, R100: an edge on PPS_IN waits for its sentence, the sentence labels it, and sixty labelled edges near their mean qualify the 1PPS
input; six thousand usable edges the frame-sync input. An edge without its sentence, missing edges, an offset that leaves the run by more than 10 µs,
eight frames without a usable edge and a label conflict lose them. Each command comes at an instant of its own, to which the counter runs first. -/
def Obligations.EdgeReferencesQualifyAndAreLost : Prop :=
  (∀ (k : Nat) (s u : State), s.lds.on = true → u = s.at_ k → u.lds.ppsWait = none → exec (.ppsInEdge k) s =
      .next { u with pending := s.pending, lds := { u.lds with
        ppsWait := some (u.obs ((u.ns : Int) - u.inDelay)), ppsLast := some ((u.ns : Int) - u.inDelay).toNat } }) ∧
  (∀ (k : Nat) (w : Obs) (s u : State), s.lds.on = true → u = s.at_ k → u.lds.ppsWait = some w → ∃ t, exec (.ppsInEdge k) s = .next t ∧
      t.lds.ppsWait = some (u.obs ((u.ns : Int) - u.inDelay)) ∧ t.lds.ppsLast = some ((u.ns : Int) - u.inDelay).toNat ∧ t.lds.ppsRun = [] ∧
      t.lds.qual = u.lds.qual.filter (· != .pps) ∧ t = { u with lds := t.lds, ses := t.ses, pending := s.pending }) ∧
  (∀ s : State, s.lds.on = true → (∀ e, s.lds.ppsLast = some e → e + 2000000000 ≤ s.ns) → ∃ t, exec .ppsInMissing s = .next t ∧
      t.lds.ppsWait = none ∧ t.lds.ppsRun = [] ∧ t.lds.qual = s.lds.qual.filter (· != .pps) ∧ t = { s with lds := t.lds, ses := t.ses, out := [] }) ∧
  (∀ (k : Nat) (x : TodSentence) (b : Bool) (o : Obs) (s u : State), s.lds.on = true → u = s.at_ k → u.lds.ppsWait = some o →
    todValid u.lds x b (decide ((u.ns : Int) - u.inDelay ≤ o.off + 800000000)) = false → ∃ t, exec (.todRxSentence k x b) s = .next t ∧
      t.lds.ppsWait = none ∧ t.lds.ppsRun = [] ∧ t.lds.qual = u.lds.qual.filter (· != .pps) ∧
      t = { u with lds := t.lds, ses := t.ses, pending := s.pending }) ∧
  (∀ (k : Nat) (x : TodSentence) (o : Obs) (r : List Obs) (s u : State), s.lds.on = true → u = s.at_ k → u.lds.ppsWait = some o →
    todValid u.lds x true true = true → (u.ns : Int) - u.inDelay ≤ o.off + 800000000 → u.lds.qual.contains .pps = false →
    r = ({ o with off := (u.lds.todSecond x * 1000000000 : Nat) - o.off } :: u.lds.ppsRun).take 60 →
    ∃ t, exec (.todRxSentence k x true) s = .next t ∧ t.lds.ppsWait = none ∧ (u.lds.st ≠ .unset → t.lds.ppsRun = r) ∧
      t.lds.qual.contains .pps = (decide (r.length = 60) && nearMean 1000 r && u.lds.enPps) ∧ t.slt = u.slt ∧ t.geo = u.geo) ∧
  (∀ (k : Nat) (x : TodSentence) (o : Obs) (r : List Obs) (s u : State), s.lds.on = true → u = s.at_ k → u.lds.ppsWait = some o →
    todValid u.lds x true true = true → (u.ns : Int) - u.inDelay ≤ o.off + 800000000 → u.lds.qual.contains .pps = true →
    r = ({ o with off := (u.lds.todSecond x * 1000000000 : Nat) - o.off } :: u.lds.ppsRun).take 60 →
    ∃ t, exec (.todRxSentence k x true) s = .next t ∧ t.lds.ppsWait = none ∧
      t.lds.qual = (if offTarget 10000 r then u.lds.qual.filter (· != .pps) else u.lds.qual) ∧
      (offTarget 10000 r = false → t.lds.ppsRun = r ∧
        (u.lds.target = some .pps → t.lds.offset = (u.lds.todSecond x * 1000000000 : Nat) - o.off)) ∧
      t = { u with lds := t.lds, ses := t.ses, pending := s.pending }) ∧
  (∀ (b k : Nat) (s u : State), s.lds.on = true → s.lds.fsyncSlave = true → s.lds.enFsync = true → u = ({ s with out := [] } : State).later b k →
    (u.fsDisagree u.fsOffset).natAbs < 5000000 → 50000 < u.fsOffset.natAbs → exec (.fsyncInEdge b k) s =
      .next { u with lds := { u.lds with fsConflict := false, fsFar := u.lds.fsFar + 1, fsRun := [] }, pending := s.pending }) ∧
  (∀ (b k : Nat) (r : List Obs) (s u : State), s.lds.on = true → s.lds.fsyncSlave = true → s.lds.enFsync = true →
    u = ({ s with out := [] } : State).later b k → u.lds.fsyncSlave = true → u.lds.enFsync = true → (u.fsDisagree u.fsOffset).natAbs < 5000000 →
    u.fsOffset.natAbs ≤ 50000 → u.lds.qual.contains .fsync = false → r = (u.obs u.fsOffset :: u.lds.fsRun).take 6000 →
    ∃ t, exec (.fsyncInEdge b k) s = .next t ∧ t.lds.fsSeen = true ∧ t.lds.fsConflict = false ∧ (u.lds.st ≠ .unset → t.lds.fsRun = r) ∧
      t.lds.qual.contains .fsync = (decide (r.length = 6000) && nearMean 1000 r) ∧ t.slt = u.slt ∧ t.geo = u.geo) ∧
  (∀ (b k : Nat) (s u : State), s.lds.on = true → s.lds.fsyncSlave = true → s.lds.enFsync = true → u = ({ s with out := [] } : State).later b k →
    5000000 ≤ (u.fsDisagree u.fsOffset).natAbs → u.lds.fsConflict = false → u.lds.qual.contains .fsync = false →
    ∃ t, exec (.fsyncInEdge b k) s = .next t ∧ t.lds = { u.lds with fsConflict := true, fsRun := [] } ∧
      t.ses = (u.owner 0x0608 [tValue (u.fsDisagree u.fsOffset)]).ses ∧ t = { u with lds := t.lds, ses := t.ses, pending := s.pending }) ∧
  (∀ (b k : Nat) (s : State), s.lds.on = true → s.lds.fsyncSlave = true → s.lds.enFsync = false → exec (.fsyncInEdge b k) s = .next { s with out := [] }) ∧
  (∀ s : State, s.lds.fsyncSlave = true → s.lds.qual.contains .fsync = true → 8 ≤ s.lds.fsMiss → ∃ t, exec .fsyncLost s = .next t ∧
      t.lds.qual = s.lds.qual.filter (· != .fsync) ∧ t.lds.fsRun = [] ∧
      (s.lds.qual = [.fsync] → s.lds.st = .locked → s.lds.target = some .fsync → t.lds.st = .holdover ∧ t.lds.target = none ∧ t.lds.holdFrames = 0) ∧
      t = { s with lds := t.lds, ses := t.ses, out := [] }) ∧
  (∀ (k : Nat) (s : State), s.lds.on = true → s.Quiet [] → k < s.ticksToBeat → s.at_ k = { s with lds := ldsTicks k s.lds, out := [] })

/-- R88 to R91, R94, R101: the PTP instance counts what it does not use, an Announce enters the best-master comparison, a Sync gives an offset that the
constants and the owner's delays correct, a port leaves SLAVE on a timeout and PTP is lost with its last port, and REF10_IN steers the frequency only
outside LOCKED and SWITCH. -/
def Obligations.PtpAndFrequencyReferences : Prop :=
  (∀ (p : Nat) (h : PtpHdr) (m : PtpMsg) (q : PtpPort) (s u : State), s.lds.on = true → tget s.lds.ptp p = some q → u = s.at_ h.ticks →
    h.domain ≠ u.lds.domain ∨ m = .unsupported → exec (.ptpMessage p h m) s = .next { u with pending := s.pending, lds := { u.lds with
      stampIn := tset u.lds.stampIn p u.lds.nsReg, ptp := tmod u.lds.ptp p (fun q => { q with drops := q.drops + 1 }) } }) ∧
  (∀ (p : Nat) (h : PtpHdr) (d : AnnData) (q r : PtpPort) (s u : State), s.lds.on = true → tget s.lds.ptp p = some q → u = s.at_ h.ticks →
    tget u.lds.ptp p = some r → r.role ≠ 1 → h.domain = u.lds.domain → d.src ≠ Config.moduleEui → d.steps < 255 →
    ∃ t, exec (.ptpMessage p h (.announce d)) s = .next t ∧
      (∃ r', tget t.lds.ptp p = some r' ∧ r'.annAt = u.frm.now ∧ r'.foreign.head?.map (·.data) = some d ∧ (r.role = 2 → r'.st = .slave)) ∧
      t = { u with lds := t.lds, ses := t.ses, pending := s.pending }) ∧
  (∀ (p seq origin : Nat) (h : PtpHdr) (corr m off : Int) (l : List Obs) (q r : PtpPort) (s u : State), s.lds.on = true →
    tget s.lds.ptp p = some q → u = s.at_ h.ticks → tget u.lds.ptp p = some r → r.st = .slave → h.domain = u.lds.domain →
    u.lds.qual.contains .ptp = false → m = u.ptpIn p r - 10 * origin - corr - 10 * r.asym → off = tdiv (r.mpd - m) 10 →
    l = (u.obs off :: r.offs).take 64 → ∃ t, exec (.ptpMessage p h (.sync false seq origin corr)) s = .next t ∧
      (u.lds.st ≠ .unset → tget t.lds.ptp p = some { r with m2s := some m, sync := none, offs := l }) ∧
      t.lds.qual.contains .ptp = (decide (l.length = 64) && sdBelow u.lds.sdNs l && u.lds.enPtp) ∧ t.slt = u.slt ∧ t.geo = u.geo) ∧
  (∀ (p : Nat) (q : PtpPort) (s : State), tget s.lds.ptp p = some q → q.st ≠ .master → q.annAt + logFrames q.annTmo q.logAnn ≤ s.frm.now →
    ∃ t, exec (.announceReceiptTimeout p) s = .next t ∧
      (∃ r, tget t.lds.ptp p = some r ∧ r.st = (if q.role = 2 then .slave else .master) ∧ r.foreign = [] ∧ (q.role ≠ 2 → r.offs = [])) ∧
      (twf s.lds.ptp = true → q.role ≠ 2 → (∀ e ∈ s.lds.ptp, e.1 ≠ p → e.2.offs.length ≠ 64) → t.lds.qual = s.lds.qual.filter (· != .ptp)) ∧
      t = { s with lds := t.lds, ses := t.ses, out := [] }) ∧
  (∀ s : State, s.lds.on = true → s.lds.enRef10 = true → s.lds.qual.contains .ref10 = false → ∃ t, exec .ref10Qualify s = .next t ∧
      t.lds.qual = .ref10 :: s.lds.qual ∧ t.lds.st = s.lds.st ∧
      (s.lds.st = .unset ∨ s.lds.st = .freerun ∨ s.lds.st = .holdover → t.lds.steer10 = true) ∧
      (s.lds.st = .locked ∨ s.lds.st = .switch → t.lds.steer10 = s.lds.steer10 ∧ t.lds.ignored = satAdd 32 s.lds.ignored 1) ∧
      t = { s with lds := t.lds, ses := t.ses, out := [] }) ∧
  (∀ s : State, s.lds.on = true → s.lds.qual.contains .ref10 = true → ∃ t, exec .ref10Lost s = .next t ∧
      t.lds.qual = s.lds.qual.filter (· != .ref10) ∧ t.lds.st = s.lds.st ∧ t.lds.steer10 = false ∧
      (s.lds.steer10 = true → t.lds.incNext = some (clampInc s.lds.heldInc)) ∧
      (s.lds.steer10 = false → t.lds.ignored = satAdd 32 s.lds.ignored 1 ∧ t.lds.incNext = s.lds.incNext) ∧
      t = { s with lds := t.lds, ses := t.ses, out := [] })

/-- R95, R98, R101, R534: the acquisition timeout loads the owner's time, or else the journaled one, or else the epoch and reaches FREERUN, and
outside UNSET it is an event without a row; a settled slew reaches LOCKED, holdover expires once and after 24 h, and a sentence is sent in every state but UNSET. -/
def Obligations.LodestoneStatesFollowTheirTimes : Prop :=
  (∀ s : State, s.acqDue = true → s.lds.st = .unset → s.lds.loadUsed = false → s.boot.inService = false → ∃ t, exec .acqTimeout s = .next t ∧
      t.lds.st = .freerun ∧ t.lds.untraceable = true ∧ t.lds.loadUsed = true ∧ t.lds.acqOver = true ∧
      (∀ v f, s.lds.timeSet = some (v, f) → t.lds.ext = v + (s.frm.now - f) * 10000000 + s.sinceBeat0) ∧
      (s.lds.timeSet = none → ∀ j, s.lds.journaled = some j → t.lds.ext = j) ∧
      (s.lds.timeSet = none → s.lds.journaled = none → t.lds.ext = 0) ∧ t.slt = s.slt ∧ t.geo = s.geo ∧ t.brg = s.brg) ∧
  (∀ s : State, s.acqDue = true → s.lds.st ≠ .unset → exec .acqTimeout s =
      .next { s with lds := { s.lds with acqOver := true, ignored := satAdd 32 s.lds.ignored 1 }, out := [] }) ∧
  (∀ s : State, s.acqDue = true → s.lds.st = .unset → s.lds.loadUsed = true → ∃ t, exec .acqTimeout s = .next t ∧
      t.lds = { s.lds with acqOver := true, untraceable := true, st := .freerun } ∧ t = { s with lds := t.lds, ses := t.ses, out := [] }) ∧
  (∀ s : State, s.lds.st = .switch → 16 ≤ s.lds.within → ∃ t, exec .slewComplete s = .next t ∧ t.lds = { s.lds with st := .locked, slewLeft := 0 } ∧
      t.ses = (s.owner 0x0604 [tCode 2, tCode t.lds.refField]).ses ∧ t = { s with lds := t.lds, ses := t.ses, out := [] }) ∧
  (∀ s : State, s.lds.st = .holdover → s.lds.holdExpired = false → 8640000 ≤ s.lds.holdFrames → ∃ t, exec .holdoverExpired s = .next t ∧
      t.lds.holdExpired = true ∧ t.lds.st = .holdover ∧ t.ses = (s.owner 0x0606).ses ∧ t = { s with lds := t.lds, ses := t.ses, out := [] }) ∧
  (∀ s : State, s.lds.st = .holdover → s.lds.holdExpired = true → exec .holdoverExpired s = .next { s with out := [] }) ∧
  (∀ s : State, s.lds.on = true → s.lds.st ≠ .unset → exec .todTxSentence s =
      .next { s with out := [.msg .todTx 0 [] (pztod (s.ns / 1000000000) (s.lds.tai (s.ns / 1000000000))
        (match s.lds.st with | .holdover => 1 | .freerun => 2 | _ => 0))] })

/-- R103 to R107: a channel with a legal configuration is armed, an illegal one disarmed with CFG_ERR, an armed one keeps its fields and sets CFG_ERR,
and nothing of channels 0 to 5 changes in frame service. The counter runs to the compare value within the beat: a one-shot channel that fires disarms, a
periodic one moves on by its period, the frame tick falls due, and a pulse starts and ends an edge of its output. -/
def Obligations.TimerChannelsFire : Prop :=
  (∀ (n : Nat) (per : Bool) (c : TmrCfg) (s : State), n < 16 → (n < 6 → s.boot.inService = false) → bit (s.reg (aLdsTmrCtl n)) 0 = false →
    destLegal n c.dest = true → c.per < 2 ^ 31 → 1 ≤ c.wid → c.wid ≤ 100000 → (per = true → 2000 ≤ c.per ∧ c.wid * 1000 < c.per) →
    ∃ t, exec (.timerArm n per c) s = .next t ∧ bit (t.reg (aLdsTmrCtl n)) 0 = true ∧ bit (t.reg (aLdsTmrCtl n)) 1 = per ∧ t.tmrDest n = c.dest ∧
      t.reg (aLdsTmrCmp n) = c.cmp % 2 ^ 32 ∧ t.reg (aLdsTmrPer n) = c.per ∧ t.tmrWid n = c.wid ∧
      ((s.lds.nsReg + 2 ^ 32 - c.cmp % 2 ^ 32) % 2 ^ 32 < 2 ^ 31 → bit (t.reg (aLdsTmrCtl n)) 9 = true) ∧
      (∀ a d, a ∉ [aLdsTmrCtl n, aLdsTmrCmp n, aLdsTmrPer n, aLdsTmrWid n] → t.regD a d = s.regD a d) ∧ t = { s with regs := t.regs, out := [] }) ∧
  (∀ (n : Nat) (per : Bool) (c : TmrCfg) (s : State), n < 16 → (n < 6 → s.boot.inService = false) → bit (s.reg (aLdsTmrCtl n)) 0 = false →
    c.per < 2 ^ 32 → c.wid < 2 ^ 17 → destLegal n c.dest = false ∨ (per = true ∧ (c.per < 2000 ∨ 2 ^ 31 ≤ c.per)) ∨
      ((c.dest = 1 ∨ c.dest = 2) ∧ (c.wid < 1 ∨ 100000 < c.wid ∨ (per = true ∧ c.per ≤ c.wid * 1000))) →
    ∃ t, exec (.timerArm n per c) s = .next t ∧ bit (t.reg (aLdsTmrCtl n)) 0 = false ∧ bit (t.reg (aLdsTmrCtl n)) 11 = true ∧
      (∀ a d, a ∉ [aLdsTmrCtl n, aLdsTmrCmp n, aLdsTmrPer n, aLdsTmrWid n] → t.regD a d = s.regD a d) ∧ t = { s with regs := t.regs, out := [] }) ∧
  (∀ (n : Nat) (per : Bool) (c : TmrCfg) (s : State), n < 16 → (n < 6 → s.boot.inService = false) → bit (s.reg (aLdsTmrCtl n)) 0 = true →
    ∃ t, exec (.timerArm n per c) s = .next t ∧ bit (t.reg (aLdsTmrCtl n)) 11 = true ∧ t.tmrDest n = s.tmrDest n ∧
      (∀ a d, a ≠ aLdsTmrCtl n → t.regD a d = s.regD a d) ∧ t = { s with regs := t.regs, out := [] }) ∧
  (∀ (n : Nat) (per : Bool) (c : TmrCfg) (s : State), n < 6 → s.boot.inService = true → exec (.timerArm n per c) s = .next { s with out := [] }) ∧
  (∀ (n : Nat) (s : State), s.lds.on = true → n < 16 → bit (s.reg (aLdsTmrCtl n)) 0 = true → s.ticksUntil (s.reg (aLdsTmrCmp n)) < s.ticksToBeat →
    exec (.timerFire n) s =
      .next { runTicks tickFuel (s.ticksUntil (s.reg (aLdsTmrCmp n))) { s with out := [] } with pending := s.pending }) ∧
  (∀ (n k : Nat) (s : State), s.lds.on = true → s.rated → s.Quiet [n] → n < 16 → bit (s.reg (aLdsTmrCtl n)) 0 = true →
    bit (s.reg (aLdsTmrCtl n)) 1 = false → s.tmrDest n = 0 → k = s.ticksUntil (s.reg (aLdsTmrCmp n)) → k < s.ticksToBeat →
    ∃ t, exec (.timerFire n) s = .next t ∧ bit (t.reg (aLdsTmrCtl n)) 0 = false ∧ bit (t.reg (aLdsTmrCtl n)) 8 = true ∧
      (∀ a d, a ≠ aLdsTmrCtl n → t.regD a d = s.regD a d) ∧ t.lds = ldsTicks k s.lds ∧ t = { s with lds := t.lds, regs := t.regs, out := [] }) ∧
  (∀ (n k : Nat) (s : State), s.lds.on = true → s.rated → s.Quiet [n] → n < 16 → bit (s.reg (aLdsTmrCtl n)) 0 = true →
    bit (s.reg (aLdsTmrCtl n)) 1 = true → s.tmrDest n = 3 → 2000 ≤ s.reg (aLdsTmrPer n) → s.reg (aLdsTmrPer n) < 2 ^ 31 →
    s.reached (s.reg (aLdsTmrCmp n)) = false → k = s.ticksUntil (s.reg (aLdsTmrCmp n)) → k < s.ticksToBeat →
    ∃ t, exec (.timerFire n) s = .next t ∧ bit (t.reg (aLdsTmrCtl n)) 0 = true ∧ bit (t.reg (aLdsTmrCtl n)) 8 = true ∧
      t.reg (aLdsTmrCmp n) = (s.reg (aLdsTmrCmp n) + s.reg (aLdsTmrPer n)) % 2 ^ 32 ∧ t.out = [.msg .trigger 3 [n] []] ∧ t.lds = ldsTicks k s.lds ∧
      t = { s with lds := t.lds, regs := t.regs, frm := { s.frm with tickDue := true }, out := t.out }) ∧
  (∀ (n k : Nat) (s : State), s.lds.on = true → s.rated → s.Quiet [n] → n < 16 → bit (s.reg (aLdsTmrCtl n)) 0 = true →
    bit (s.reg (aLdsTmrCtl n)) 1 = false → s.tmrDest n = 1 → 1 ≤ s.tmrWid n → s.tmrWid n ≤ 100000 → s.lds.st ≠ .unset →
    k = s.ticksUntil (s.reg (aLdsTmrCmp n)) → k < s.ticksToBeat →
    ∃ t, exec (.timerFire n) s = .next t ∧ bit (t.reg (aLdsTmrCtl n)) 0 = false ∧
      t.lds = { ldsTicks k s.lds with ppsOut := [(n, ((ldsTicks k s.lds).nsReg + s.tmrWid n * 1000) % 2 ^ 32)] } ∧
      t.out = [.msg .ppsOut 0 [1, (s.reg (aLdsTmrCmp n) + 2 ^ 32 - s.outAdvance) % 2 ^ 32] []] ∧
      t = { s with lds := t.lds, regs := t.regs, out := t.out }) ∧
  (∀ (n v k : Nat) (s : State), s.lds.on = true → s.rated → (∀ m < 16, bit (s.reg (aLdsTmrCtl m)) 0 = false) → s.lds.ppsOut = [(n, v)] →
    s.lds.fsyncOut = [] → k = s.ticksUntil v → k < s.ticksToBeat → ∃ t, exec (.timerPulseEnd n) s = .next t ∧
      t.lds = { ldsTicks k s.lds with ppsOut := [] } ∧ t.out = [.msg .ppsOut 0 [0, (v + 2 ^ 32 - s.outAdvance) % 2 ^ 32] []] ∧
      t = { s with lds := t.lds, out := t.out }) ∧
  (∀ (n v : Nat) (s : State), s.lds.on = true → (tget s.lds.ppsOut n).or (tget s.lds.fsyncOut n) = some v → s.ticksUntil v < s.ticksToBeat →
    exec (.timerPulseEnd n) s = .next { runTicks tickFuel (s.ticksUntil v) { s with out := [] } with pending := s.pending })

/-- R91, R97, R101, R103 to R107, R534: what the accepted opcodes of time do (their TLVs where R153 does not lay them out: logs 10 and 13). -/
def Obligations.TimeOpcodes : Prop :=
  (∀ (src : Src) (tlvs : List Tlv) (s s1 : State) (c : Cmd), accepted opTimeRead src tlvs s = some (s1, c) →
    ∃ t, exec (.timeRead src tlvs) s = .next t ∧ AfterReply s1 t ∧ (replyGoes s1 src.key = true → Replied src
      (c.ok [tValue s1.ns, tCode (ldsCode s1.lds.st), tCode s1.lds.refField, tFrame s1.frm.now, tCount (s1.lds.tai (s1.ns / 1000000000))]
        s1.freeFlag) t)) ∧
  (∀ (src : Src) (tlvs : List Tlv) (s s1 : State) (c : Cmd), accepted opTimeSet src tlvs s = some (s1, c) → ∃ t,
    exec (.timeSet src tlvs) s = .next t ∧ s.lds.st = .unset ∧ s.lds.loadUsed = false ∧
    t.lds = { s.lds with timeSet := some (c.nat 0x000C, s.frm.now) } ∧ AfterReply { s1 with lds := t.lds } t) ∧
  (∀ (src : Src) (tlvs : List Tlv) (s s1 : State) (c : Cmd), accepted opUtcTable src tlvs s = some (s1, c) → ∃ t,
    exec (.utcTable src tlvs) s = .next t ∧ t.lds = { s.lds with taiUtc := c.nat 0x000F, leaps := t.lds.leaps } ∧
    t.lds.leaps.length * 12 = ((c.tlv? 0x0009).getD []).length ∧ AfterReply { s1 with lds := t.lds } t) ∧
  (∀ (src : Src) (tlvs : List Tlv) (s s1 : State) (c : Cmd), accepted opPtpPort src tlvs s = some (s1, c) → ∃ t,
    exec (.ptpPort src tlvs) s = .next t ∧ ((c.code? 0).getD 0 = 0 → tget t.lds.ptp (c.nat 0x000B) = none) ∧
    ((c.code? 0).getD 0 ≠ 0 → (∃ q, tget t.lds.ptp (c.nat 0x000B) = some q ∧ (∀ r, c.code? 1 = some r → q.role = r)) ∧
      (s.lds.qual.contains .ptp = false → t.ses.evq = s.ses.evq)) ∧
    t.lds.domain = (c.nat? 0x000F).getD s.lds.domain ∧ t.slt = s.slt ∧ t.geo = s.geo ∧ t.brg = s.brg) ∧
  (∀ (src : Src) (tlvs : List Tlv) (s s1 : State) (c : Cmd), accepted opTimeRawRead src tlvs s = some (s1, c) → ∃ t,
    exec (.timeRawRead src tlvs) s = .next t ∧ AfterReply { s1 with lds := t.lds } t ∧
    t.lds = { s.lds with stamps := s.lds.stamps.filter (fun e => !((s.lds.stamps.filter (fun e => e.1 == c.vctl && e.2.1 == c.nat 0x000B)).take 64).contains e) }) ∧
  (∀ (src : Src) (tlvs : List Tlv) (s s1 : State) (c : Cmd), accepted opTimedPulse src tlvs s = some (s1, c) → ∃ t,
    exec (.timedPulse src tlvs) s = .next t ∧ (s1.freeChannel c.vctl).isSome = true ∧
    t.reg (aLdsTmrCmp ((s1.freeChannel c.vctl).getD 0)) = c.nat 0x000C % 2 ^ 32 ∧
    AfterReply { s1 with regs := t.regs } t) ∧
  (∀ (src : Src) (tlvs : List Tlv) (s s1 : State) (c : Cmd), accepted opStampMark src tlvs s = some (s1, c) → ∃ t,
    exec (.stampMark src tlvs) s = .next t ∧
    t.lds = { s.lds with marks := s.lds.marks.filter (fun e => !(e.1 == c.vctl && e.2.1 == c.nat 0x000B)) ++
      (if c.nat 0x000F = 0 then [] else [(c.vctl, c.nat 0x000B, c.nat 0x000F)]) } ∧ AfterReply { s1 with lds := t.lds } t)

/-! ### Light, groups, schedules, all-or-none groups -/

/-- R176, R254, R256, R257, R262, R265: an accepted level command installs its source of the vCtl's rank on every lighting channel it names that is
leased, or releases it there, and touches no other endpoint's sources; a fade runs from the front code. R256, R281, R282: LIGHT_EMERGENCY installs or
ends EMERGENCY sources of its vCtl, writes the preset, or makes every preset entry invalid. R175, R177: a lease goes to who asks unless another holds
it, the owner takes it from a tenant, and its holder gives it up. -/
def Obligations.LevelLeaseAndEmergencyCommands : Prop :=
  (∀ (src : Src) (tlvs : List Tlv) (s s1 : State) (c : Cmd), accepted opLightLevel src tlvs s = some (s1, c) →
    ∃ t, exec (.lightLevel src tlvs) s = .next t ∧ LevelTaken (c.level?) c s s1 t) ∧
  (∀ (src : Src) (tlvs : List Tlv) (s s1 : State) (c : Cmd), accepted opLightLevelX src tlvs s = some (s1, c) →
    ∃ t, exec (.lightLevelX src tlvs) s = .next t ∧ LevelTaken (c.nat? 0x0003) c s s1 t) ∧
  (∀ (src : Src) (tlvs : List Tlv) (s s1 : State) (c : Cmd), accepted opLightFade src tlvs s = some (s1, c) →
    ∃ t, exec (.lightFade src tlvs) s = .next t ∧
      (∀ h, h ∈ s1.targets c → s.isLamp h = true → c.vctl = 0 ∨ s.holdsLease c.vctl h = true →
        ∃ y ∈ t.sources h, y.rank = rankOf c.vctl ∧ y.vctl = c.vctl ∧ y.prog = s.fadeProg h ((c.level?).getD 0) (c.nat 0x0004)) ∧
      (∀ h, h ∉ s1.targets c → t.sources h = s.sources h) ∧
      AfterReply { s1 with slt := { s1.slt with srcs := t.slt.srcs, starts := t.slt.starts } } t) ∧
  (∀ (src : Src) (tlvs : List Tlv) (s s1 : State) (c : Cmd), accepted opLightEmergency src tlvs s = some (s1, c) →
    ∃ t, exec (.lightEmergency src tlvs) s = .next t ∧
      (∀ h, c.nat 0x000D = 0 → h ∈ s1.targets c → s.isLamp h = true →
        ∃ y ∈ t.sources h, y.rank = 4 ∧ y.vctl = c.vctl ∧ y.pin = false ∧ y.prog = .level ((c.level?).getD 0)) ∧
      (∀ h, c.nat 0x000D = 1 → h ∈ s1.targets c → s.isLamp h = true → ∀ y ∈ t.sources h, y.rank = 4 → y.vctl = c.vctl → y.pin = true) ∧
      (∀ h, c.nat 0x000D = 2 → h ∈ s1.targets c → s.isLamp h = true → tget t.slt.preset h = some ((c.level?).getD 0, true)) ∧
      (c.nat 0x000D = 3 → ∀ e ∈ t.slt.preset, e.2.2 = false) ∧
      (2 ≤ c.nat 0x000D → t.slt.srcs = s.slt.srcs) ∧ (c.nat 0x000D ≤ 1 → t.slt.preset = s.slt.preset) ∧
      (∀ h, h ∉ s1.targets c → t.sources h = s.sources h) ∧
      AfterReply { s1 with slt := { s1.slt with srcs := t.slt.srcs, starts := t.slt.starts, preset := t.slt.preset } } t) ∧
  (∀ (src : Src) (tlvs : List Tlv) (s s1 : State) (c : Cmd), accepted opLightLease src tlvs s = some (s1, c) →
    ∃ t, exec (.lightLease src tlvs) s = .next t ∧
      (∀ h, c.nat 0x000D = 0 → h ∈ s1.targets c → (∀ l, tget s.ten.leases h = some l → l.holder = c.vctl ∨ c.vctl = 0) →
        tget t.ten.leases h = some ⟨c.vctl, if c.nat 0x0004 = 0 then none else some (s.frm.now + c.nat 0x0004)⟩) ∧
      (∀ h l, c.nat 0x000D = 0 → tget s.ten.leases h = some l → l.holder ≠ c.vctl → c.vctl ≠ 0 → tget t.ten.leases h = some l) ∧
      (∀ h, c.nat 0x000D = 1 → h ∈ s1.targets c → t.holdsLease c.vctl h = false) ∧
      (∀ h, h ∉ s1.targets c → tget t.ten.leases h = tget s.ten.leases h ∧ t.sources h = s.sources h) ∧
      AfterReply { s1 with ten := { s1.ten with leases := t.ten.leases }, slt := { s1.slt with srcs := t.slt.srcs, starts := t.slt.starts },
                           ses := { s1.ses with evq := t.ses.evq } } t)

/-- R263, R264, R273, R328: the reads of light change nothing and answer their records (the TLVs of SCHEDULE_READ and SOLAR_READ: log 16). R317 to
R320, R328, R329: at beat 40 every grain judges the records that came in time, puts them away and takes the telemetry that reads answer, and a
telemetry stream starts or stops. -/
def Obligations.LightReadsAndLampChecks : Prop :=
  (∀ (src : Src) (tlvs : List Tlv) (s s1 : State) (c : Cmd), accepted opLightRead src tlvs s = some (s1, c) →
    ∃ t, exec (.lightRead src tlvs) s = .next t ∧ AfterReply s1 t ∧ (replyGoes s1 src.key = true →
      Replied src (c.ok [(0x0178, (s1.targets c).flatMap (s1.lightState c))]) t)) ∧
  (∀ (src : Src) (tlvs : List Tlv) (s s1 : State) (c : Cmd), accepted opSlateWindow src tlvs s = some (s1, c) →
    ∃ t, exec (.slateWindow src tlvs) s = .next t ∧ AfterReply s1 t ∧ (replyGoes s1 src.key = true →
      Replied src (c.ok [tData ((List.range (c.nat 0x000F)).flatMap (fun i => beBytes 2 (s1.windowCode c.vctl (c.nat 0x0177 + i)))),
        tBitmap (bitmapBytes ((c.nat 0x000F + 7) / 8) ((List.range (c.nat 0x000F)).filter (fun i =>
          (s1.windowAt c.vctl (c.nat 0x0177 + i)).any (fun h => (s1.overlaid h).isSome)))),
        tBitmap (bitmapBytes ((c.nat 0x000F + 7) / 8) ((List.range (c.nat 0x000F)).filter (fun i =>
          (s1.windowAt c.vctl (c.nat 0x0177 + i)).isNone)))]) t)) ∧
  (∀ (src : Src) (tlvs : List Tlv) (s s1 : State) (c : Cmd) (k : Sched), accepted opScheduleRead src tlvs s = some (s1, c) →
    tget s.slt.scheds (256 * c.vctl + c.nat 0x0194) = some k →
    ∃ t, exec (.scheduleRead src tlvs) s = .next t ∧ AfterReply s1 t ∧ (replyGoes s1 src.key = true →
      Replied src (c.ok (fitEntry 12 ([(0x0194, [byte (c.nat 0x0194)]),
        match k.group with | some g => tGroup g | none => tEp (k.eps.filterMap (s1.localOf c.vctl)),
        (0x0197, [byte (b2n k.enabled)])] ++ k.entries.map (SEntry.tlv c)))) t)) ∧
  (∀ (src : Src) (tlvs : List Tlv) (s s1 : State) (c : Cmd), accepted opScheduleRead src tlvs s = some (s1, c) →
    tget s.slt.scheds (256 * c.vctl + c.nat 0x0194) = none →
    ∃ t, exec (.scheduleRead src tlvs) s = .next t ∧ AfterReply s1 t ∧ (replyGoes s1 src.key = true →
      Replied src (c.ok [(0x0194, [byte (c.nat 0x0194)])]) t)) ∧
  (∀ (src : Src) (tlvs : List Tlv) (s s1 : State) (c : Cmd), accepted opSolarRead src tlvs s = some (s1, c) →
    ∃ t, exec (.solarRead src tlvs) s = .next t ∧ s.slt.location.isSome = true ∧ AfterReply s1 t ∧
      (∀ la lo, s.slt.location = some (la, lo) → replyGoes s1 src.key = true →
        Replied src (c.ok ([1, 2, 3, 4].flatMap (fun k => match s1.solarAt la lo (c.int 0x000C) k with
          | some x => [tCode 0, tValue (x - s1.lds.tai x)]
          | none => [tCode 1, tValue 0])) s1.freeFlag) t)) ∧
  (∀ (src : Src) (tlvs : List Tlv) (s s1 : State) (c : Cmd), accepted opTelemetryRead src tlvs s = some (s1, c) →
    ∃ t, exec (.telemetryRead src tlvs) s = .next t ∧ AfterReply s1 t ∧ (replyGoes s1 src.key = true →
      Replied src (c.ok [(0x01C0, (s1.targets c).flatMap s1.telemetry)]) t)) ∧
  (∀ s : State, s.inLight = true → ∃ t, exec .lampClassify s = .next t ∧ t.lmp.fresh = [] ∧
      (∀ g h, g ∈ s.strs.grains.map (·.1) → h ∈ s.grainLamps g → (t.chan h).fresh = none ∧
        (t.chan h).rec_ = (((s.chan h).fresh.filter (fun f => f.1 == s.frm.now - 1)).map (·.2)).orElse (fun _ => (s.chan h).rec_)) ∧
      (∀ g h, g ∈ s.strs.grains.map (·.1) → h ∈ s.grainLamps g → (t.chan h).tele.isSome = true) ∧
      t = { s with regs := t.regs, lmp := t.lmp, ses := t.ses, out := [] }) ∧
  (∀ s : State, s.inLight = false → exec .lampClassify s = .next { s with out := [] }) ∧
  (∀ (src : Src) (tlvs : List Tlv) (s s1 : State) (c : Cmd), accepted opTelemetryStream src tlvs s = some (s1, c) →
    ∃ t, exec (.telemetryStream src tlvs) s = .next t ∧
      t.lmp.streams = dropStream c.vctl (s1.targets c) s.lmp.streams ++
        (if c.nat 0x000D = 0 ∨ s1.targets c = [] then [] else [⟨c.vctl, s.frm.now, c.nat 0x0004 100, s1.targets c⟩]) ∧
      AfterReply { s1 with lmp := { s1.lmp with streams := t.lmp.streams } } t)

/-- R258, R266, R279: a step table takes its entries and its length and starts on the leased channels it names; FACTOR_SET writes what it carries.
R269, R270: a group is created, removed or renamed, and members are added as primary or secondary, or taken out. -/
def Obligations.StepTablesFactorsAndGroups : Prop :=
  (∀ (src : Src) (tlvs : List Tlv) (s s1 : State) (c : Cmd), accepted opStepTable src tlvs s = some (s1, c) →
    ∃ t, exec (.stepTable src tlvs) s = .next t ∧
      (t.stepTable c.vctl (c.nat 0x0171)).len = newLen (s.stepTable c.vctl (c.nat 0x0171)) c ∧
      (∀ k e, (c.list 0x0173 2)[k]? = some e → tgetD (t.stepTable c.vctl (c.nat 0x0171)).entries (c.nat 0x0172 + k) hold = e) ∧
      (∀ j, j < c.nat 0x0172 ∨ c.nat 0x0172 + (c.list 0x0173 2).length ≤ j →
        tgetD (t.stepTable c.vctl (c.nat 0x0171)).entries j hold = tgetD (s.stepTable c.vctl (c.nat 0x0171)).entries j hold) ∧
      (∀ h, c.has 0x0001 = true ∨ c.has 0x0002 = true → h ∈ s1.targets c → s.isLamp h = true → c.vctl = 0 ∨ s.holdsLease c.vctl h = true →
        ∃ y ∈ t.sources h, y.rank = rankOf c.vctl ∧ y.vctl = c.vctl ∧
          y.prog = .table (c.nat 0x0171) (c.nat 0x0176) (c.nat 0x0175) s.slt.nextStart) ∧
      (c.has 0x0001 = false → c.has 0x0002 = false → t.slt.srcs = s.slt.srcs ∧ t.slt.starts = s.slt.starts) ∧
      AfterReply { s1 with slt := { s1.slt with tables := t.slt.tables, srcs := t.slt.srcs, starts := t.slt.starts, nextStart := t.slt.nextStart } } t) ∧
  (∀ (src : Src) (tlvs : List Tlv) (s s1 : State) (c : Cmd), accepted opFactorSet src tlvs s = some (s1, c) →
    ∃ t, exec (.factorSet src tlvs) s = .next t ∧ t.slt.g = c.nat 0x0179 s.slt.g ∧
      (∀ b, c.all 0x017A = [b] → tgetD t.slt.factors (u b 0 2) 4096 = u b 2 2) ∧ (c.all 0x017A = [] → t.slt.factors = s.slt.factors) ∧
      (∀ b, c.all 0x017B = [b] → tget t.slt.derateProfs (u b 0 1) = some (derateOf b)) ∧
      (c.all 0x017B = [] → t.slt.derateProfs = s.slt.derateProfs) ∧
      (∀ p h, c.nat? 0x017C = some p → h ∈ s1.targets c → s.isLamp h = true → (tgetD t.slt.derate h {}).prof = p) ∧ (c.nat? 0x017C = none → t.slt.derate = s.slt.derate) ∧
      AfterReply { s1 with slt := { s1.slt with g := t.slt.g, factors := t.slt.factors, derateProfs := t.slt.derateProfs, derate := t.slt.derate } } t) ∧
  (∀ (src : Src) (tlvs : List Tlv) (s s1 : State) (c : Cmd), accepted opGroupDefine src tlvs s = some (s1, c) →
    ∃ t, exec (.groupDefine src tlvs) s = .next t ∧
      (c.nat 0x0190 = 0 → tget s.slt.groups (gkey c.vctl (c.nat 0x0002)) = none ∧
        tget t.slt.groups (gkey c.vctl (c.nat 0x0002)) = some { name := (c.tlv? 0x0191).getD [] }) ∧
      (c.nat 0x0190 = 1 → tget t.slt.groups (gkey c.vctl (c.nat 0x0002)) = none) ∧
      (∀ k, c.nat 0x0190 = 2 → tget s.slt.groups (gkey c.vctl (c.nat 0x0002)) = some k →
        tget t.slt.groups (gkey c.vctl (c.nat 0x0002)) = some { k with name := (c.tlv? 0x0191).getD [] }) ∧
      (∀ j, j ≠ gkey c.vctl (c.nat 0x0002) → tget t.slt.groups j = tget s.slt.groups j) ∧
      AfterReply { s1 with slt := { s1.slt with groups := t.slt.groups } } t) ∧
  (∀ (src : Src) (tlvs : List Tlv) (s s1 : State) (c : Cmd) (k : Grp), accepted opGroupMembers src tlvs s = some (s1, c) →
    tget s.slt.groups (gkey c.vctl (c.nat 0x0002)) = some k → s.lmp.aon = [] → c.eps.length ≤ 256 →
    ∃ t, exec (.groupMembers src tlvs) s = .next t ∧
      (c.nat 0x0192 = 2 → ∀ h ∈ c.eps, h ∉ t.members c.vctl (c.nat 0x0002)) ∧
      (c.nat 0x0192 = 0 → ∃ k', tget t.slt.groups (gkey c.vctl (c.nat 0x0002)) = some k' ∧ k'.name = k.name ∧ ∀ h ∈ c.eps, h ∈ k'.primary) ∧
      (c.nat 0x0192 = 1 → (∀ h ∈ c.eps, ((s.slt.groups.filter (fun e => e.1 / 1024 == c.vctl && e.1 != gkey c.vctl (c.nat 0x0002) &&
          e.2.secondary.contains h)).length < 7)) →
        ∃ k', tget t.slt.groups (gkey c.vctl (c.nat 0x0002)) = some k' ∧ k'.name = k.name ∧ ∀ h ∈ c.eps, h ∈ k'.secondary) ∧
      AfterReply { s1 with slt := { s1.slt with groups := t.slt.groups } } t)

/-- R271, R274, R275: a schedule write replaces the schedule of its number, and an entry that fires sets the SCHEDULE source on its targets unless a
schedule of a higher number holds it; it fires once at its boundary, in that frame or carried (R117), and not when R274 does not admit it. R322 to R327: AON_DEFINE flags or unflags a group, which
latches at once on a member in a trigger class, and AON_CLEAR ends the latch of the number it names and makes the members start again from NO_DATA. -/
def Obligations.SchedulesAndAllOrNoneGroups : Prop :=
  (∀ (src : Src) (tlvs : List Tlv) (s s1 : State) (c : Cmd), accepted opScheduleWrite src tlvs s = some (s1, c) →
    ∃ t, exec (.scheduleWrite src tlvs) s = .next t ∧ ScheduleKept c s s1 t) ∧
  (∀ (src : Src) (tlvs : List Tlv) (s s1 : State) (c : Cmd), accepted opScheduleWriteX src tlvs s = some (s1, c) →
    ∃ t, exec (.scheduleWriteX src tlvs) s = .next t ∧ ScheduleKept c s s1 t) ∧
  (∀ (v no ix : Nat) (k : Sched) (e : SEntry) (s : State), tget s.slt.scheds (256 * v + no) = some k → k.entries[ix]? = some e →
    k.enabled = true → s.inLight = true → s.active v = true → s.fireDue k ix = true ∨ (256 * v + no, ix) ∈ s.frm.lateFires →
    ∃ t, exec (.scheduleFire v no ix) s = .next t ∧
      (∀ h ∈ s.schedTargets v k, (s.sources h).any (fun x => x.rank == 0 && x.vctl == v && x.sched.any (· > no)) = false →
        ∃ y ∈ t.sources h, y.rank = 0 ∧ y.vctl = v ∧ y.sched = some no ∧
          y.prog = (if e.light.1 > 64000 then .level e.light.1 else s.fadeProg h e.light.1 e.light.2)) ∧
      (∀ h, h ∉ s.schedTargets v k → t.sources h = s.sources h) ∧
      (∃ k', tget t.slt.scheds (256 * v + no) = some k' ∧ k'.entries.map SEntry.light = k.entries.map SEntry.light ∧
        ((256 * v + no, ix) ∉ s.frm.lateFires → k'.last = s.frm.now + 1)) ∧
      (∀ j, j ≠ 256 * v + no → tget t.slt.scheds j = tget s.slt.scheds j) ∧
      t = { s with slt := { s.slt with scheds := t.slt.scheds, srcs := t.slt.srcs, starts := t.slt.starts }, out := [],
                   frm := { s.frm with lateFires := s.frm.lateFires.filter (· != (256 * v + no, ix)) } }) ∧
  (∀ (v no ix : Nat) (s : State), tget s.slt.scheds (256 * v + no) = none ∨ s.inLight = false ∨ s.active v = false ∨
      ((256 * v + no, ix) ∉ s.frm.lateFires ∧ ∀ k, tget s.slt.scheds (256 * v + no) = some k → s.fireDue k ix = false) →
    exec (.scheduleFire v no ix) s = .next { s with out := [] }) ∧
  (∀ (src : Src) (tlvs : List Tlv) (s s1 : State) (c : Cmd), accepted opAonDefine src tlvs s = some (s1, c) →
    ∃ t, exec (.aonDefine src tlvs) s = .next t ∧
      (c.nat 0x0198 = 0xFF → t.aon? c.vctl (c.nat 0x0002) = none) ∧
      (c.nat 0x0198 ≠ 0xFF → s.aon? c.vctl (c.nat 0x0002) = none →
        ∃ a, t.aon? c.vctl (c.nat 0x0002) = some a ∧ a.level = (if c.nat 0x0198 = 1 then c.nat 0x0003 else 0) ∧ a.extra = c.nat 0x0199 % 4 ∧
          a.latched = (s.aonMembers c.vctl (c.nat 0x0002)).any (fun h => a.triggers (s.chan h).cls)) ∧
      (∀ k, k ≠ gkey c.vctl (c.nat 0x0002) → tget t.lmp.aon k = tget s.lmp.aon k) ∧
      t.slt.front = s.slt.front ∧ t.slt.back = s.slt.back ∧ t.strs = s.strs ∧ t.brg = s.brg ∧ t.geo = s.geo) ∧
  (∀ (src : Src) (tlvs : List Tlv) (s s1 : State) (c : Cmd) (a : Aon), accepted opAonClear src tlvs s = some (s1, c) →
    s.aon? (clearTarget c) (c.nat 0x0002) = some a → a.latched = true → s.latchNo (clearTarget c) (c.nat 0x0002) = c.nat 0x000F →
    ∃ t, exec (.aonClear src tlvs) s = .next t ∧ t.aon? (clearTarget c) (c.nat 0x0002) = some { a with latched := false, installed := false } ∧
      (∀ h ∈ s.aonMembers (clearTarget c) (c.nat 0x0002), (t.chan h).cls = 5 ∧ (t.chan h).hist = []) ∧
      t.slt.front = s.slt.front ∧ t.slt.back = s.slt.back ∧ t.strs = s.strs ∧ t.brg = s.brg ∧ t.geo = s.geo) ∧
  (∀ (src : Src) (tlvs : List Tlv) (s s1 : State) (c : Cmd), accepted opAonClear src tlvs s = some (s1, c) →
    (s.aon? (clearTarget c) (c.nat 0x0002)).any (·.latched) = false ∨ s.latchNo (clearTarget c) (c.nat 0x0002) ≠ c.nat 0x000F →
    ∃ t, exec (.aonClear src tlvs) s = .next t ∧ AfterReply s1 t ∧
      (replyGoes s1 src.key = true → Replied src (c.reply stConfigRefused) t))


/-! ### Associations, packets, events, the frame -/

/-- R130 to R134: a ClientHello without a cookie is answered and holds no state; one with a cookie starts a handshake with the suite and the group it
shares with the module, unless one of its name started within 40 frames, and gets an alert where it shares none (the alert's code: log 84); the server flight waits for beat 0 of the 40th frame, and an alert or 6,000 frames of silence discard the handshake. -/
def Obligations.HandshakesRunAsDtlsSays : Prop :=
  (∀ (id : Nat) (x : Hello) (p : Path) (s : State), s.pathUp p = true →
    exec (.clientHello id x p false) s = .next { s with out := [.msg .dtlsHelloRetry (nameCode (nameOn p (helloName x.name))) [] []] }) ∧
  (∀ (id : Nat) (x : Hello) (p : Path) (n : HelloName) (cs g : Nat) (s : State), s.pathUp p = true → n = nameOn p (helloName x.name) →
    s.tooSoon n = false → 0xFEFC ∈ x.versions → 0x0503 ∈ x.sigs → firstOf [0x1302, 0x1301] x.suites = some cs → firstOf [23, 24] x.groups = some g →
    ∃ t, exec (.clientHello id x p true) s = .next t ∧
      (∃ h, tget t.ses.hs id = some h ∧ h = { name := n, path := p, sel := ⟨cs, g, h.sel.cid⟩, hello := s.frm.now, flightSent := false,
                                              lastFlight := s.frm.now, finished := none } ∧ h.sel.cid.map (·.1) = x.cid) ∧
      (n ≠ .missing → tget t.ses.lastHs (nameCode n) = some s.frm.now) ∧
      t = { s with ses := { s.ses with hs := t.ses.hs, lastHs := t.ses.lastHs }, free := t.free, out := [] }) ∧
  (∀ (id : Nat) (x : Hello) (p : Path) (n : HelloName) (s : State), s.pathUp p = true → n = nameOn p (helloName x.name) → s.tooSoon n = false →
    selectHello x = none → exec (.clientHello id x p true) s = .next { s with out := [.msg .dtlsAlert (nameCode n) [helloAlert x] []] }) ∧
  (∀ (id : Nat) (x : Hello) (p : Path) (c : Bool) (s : State),
    s.pathUp p = false ∨ (c = true ∧ s.tooSoon (nameOn p (helloName x.name)) = true) → exec (.clientHello id x p c) s = .next { s with out := [] }) ∧
  (∀ (id : Nat) (h : Handshake) (s : State), tget s.ses.hs id = some h → s.frm.beat = 0 → h.flightSent = false → h.hello + 40 ≤ s.frm.now →
    ∃ t, exec (.serverFlight id) s = .next t ∧ tget t.ses.hs id = some { h with flightSent := true } ∧
      (isServicePath h.path = true → t.ses.assoc = s.ses.assoc ∧ t.out = [.msg .dtlsServerFlight (s.flightCert h.path h.name).1
        [(s.flightCert h.path h.name).2.1, b2n (!(s.flightCert h.path h.name).2.2), h.sel.suite, h.sel.group] ((h.sel.cid.map (·.2)).getD [])]) ∧
      AfterReply { s with ses := { s.ses with hs := t.ses.hs }, out := [] } t) ∧
  (∀ (id : Nat) (k : Bytes) (h : Handshake) (s : State), tget s.ses.hs id = some h → h.flightSent = true → h.finished = none →
    ∃ t, exec (.clientFinished id k) s = .next t ∧
      tget t.ses.hs id = some { h with finished := some (s.accepts h.path h.name k), lastFlight := s.frm.now } ∧
      t = { s with ses := { s.ses with hs := t.ses.hs }, out := [] }) ∧
  (∀ (id : Nat) (s : State), exec (.dtlsAlert id) s = .next { s with ses := { s.ses with hs := terase s.ses.hs id }, out := [] }) ∧
  (∀ (id : Nat) (h : Handshake) (s : State), tget s.ses.hs id = some h → s.frm.beat = 0 → h.flightSent = true → h.finished = none →
    isServicePath h.path = true →
    exec (.dtlsRetransmit id) s = .next { s with out := [.msg .dtlsRetransmit (nameCode h.name) [] []] }) ∧
  (∀ (id : Nat) (h : Handshake) (s : State), tget s.ses.hs id = some h → h.finished = none → h.lastFlight + 6000 ≤ s.frm.now →
    exec (.handshakeTimeout id) s = .next { s with ses := { s.ses with hs := terase s.ses.hs id }, out := [] })

/-- R133, R134, R156, R157: SESSION_OPEN fixes version and capabilities, SESSION_CLOSE ends the association after its reply, an association that
is idle or out of records ends, and KeyUpdate follows 2^23 records. -/
def Obligations.AssociationsOpenAndEnd : Prop :=
  (∀ (vm : Nat) (src : Src) (tlvs : List Tlv) (s s1 : State) (c : Cmd) (a : Assoc), twf s.ses.assoc = true → s.assoc? src.key = some a →
    a.closing = false → a.kuDue = false → acceptedIn (fun _ => true) (opSessionOpen vm a tlvs) src tlvs s = some (s1, c) →
    ∃ t, exec (.sessionOpen vm src tlvs) s = .next t ∧ (t.assoc? src.key).map (·.phase) = some .opened ∧
      (t.assoc? src.key).map (·.major) = chooseMajor a (offered vm tlvs) ∧
      (t.assoc? src.key).map (·.caps) = (chooseMajor a (offered vm tlvs)).map (fun m => if m = 3 then c.nat 0x0006 &&& moduleCaps else 0) ∧
      t.slt = s.slt ∧ t.brg = s.brg ∧ t.geo = s.geo ∧ t.boot = s.boot) ∧
  (∀ (src : Src) (tlvs : List Tlv) (s s1 : State) (c : Cmd), accepted opSessionClose src tlvs s = some (s1, c) →
    ∃ t, exec (.sessionClose src tlvs) s = .next t ∧ AfterReply s1 t ∧ t.assoc? src.key = none) ∧
  (∀ (k : AssocKey) (a : Assoc) (s : State), s.assoc? k = some a → a.phase = .opened → a.lastRx + 30000 ≤ s.frm.now →
    ∃ t, exec (.assocIdleTimeout k) s = .next t ∧ t.assoc? k = none ∧ t.ses.evq = s.ses.evq ∧ t.frm.accepted = s.frm.accepted ∧ t.out = [] ∧
      t = { s with ses := { s.ses with assoc := t.ses.assoc }, frm := { s.frm with pkts := t.frm.pkts, dups := t.frm.dups }, out := [] }) ∧
  (∀ (k : AssocKey) (a : Assoc) (s : State), s.assoc? k = some a → a.phase = .opened → 2 ^ 23 ≤ a.sent → a.keyUpdate = false →
    isServicePath a.path = true → ∃ t, exec (.dtlsKeyUpdate k false) s = .next t ∧ (t.assoc? k).map (·.keyUpdate) = some true ∧
      t.out = [.msg .dtlsKeyUpdate (evKey k) [] []] ∧ t = { s with ses := { s.ses with assoc := t.ses.assoc }, out := t.out }) ∧
  (∀ (k : AssocKey) (a : Assoc) (s : State), s.assoc? k = some a → a.keyUpdate = true → ∃ t, exec (.dtlsKeyUpdate k true) s = .next t ∧
      t.assoc? k = some { a with keyUpdate := false, sent := 0 } ∧ t = { s with ses := { s.ses with assoc := t.ses.assoc }, out := [] }) ∧
  (∀ (k : AssocKey) (a : Assoc) (s : State), s.assoc? k = some a → a.phase = .opened → 2 ^ 24 ≤ a.sent → isServicePath a.path = true →
    ∃ t, exec (.dtlsRecordLimit k) s = .next t ∧ t.assoc? k = none ∧ t.ses.evq = s.ses.evq ∧ t.out = [.msg .dtlsCloseNotify (evKey k) [] []] ∧
      t = { s with ses := { s.ses with assoc := t.ses.assoc }, frm := { s.frm with pkts := t.frm.pkts, dups := t.frm.dups }, out := t.out })

/-- R148, R149, R153, R154: KEEPALIVE does nothing, DEVICE_INFO answers, EVT_SUBSCRIBE sets the mask, EVT_ACK removes what was sent, register
commands read and write in ascending order, and records left unacknowledged for 100 frames are sent again. -/
def Obligations.SessionAndRegisterOpcodes : Prop :=
  (∀ (src : Src) (tlvs : List Tlv) (s s1 : State) (c : Cmd), accepted opKeepalive src tlvs s = some (s1, c) →
    ∃ t, exec (.keepalive src tlvs) s = .next t ∧ AfterReply s1 t ∧ (replyGoes s1 src.key = true → Replied src c.ok t)) ∧
  (∀ (src : Src) (tlvs : List Tlv) (s s1 : State) (c : Cmd), accepted opDeviceInfo src tlvs s = some (s1, c) →
    ∃ t, exec (.deviceInfo src tlvs) s = .next t ∧ AfterReply s1 t ∧ (replyGoes s1 src.key = true →
      Replied src (c.ok (fitEntry 12 (s1.deviceInfo c (((s1.assoc? c.key).map (·.caps)).getD 0)))) t)) ∧
  (∀ (src : Src) (tlvs : List Tlv) (s s1 : State) (c : Cmd), accepted opEvtSubscribe src tlvs s = some (s1, c) →
    ∃ t, exec (.evtSubscribe src tlvs) s = .next t ∧ (t.queue (evKey src.key)).recs = (s.queue (evKey src.key)).recs ∧
      (t.queue (evKey src.key)).mask = (((c.tlv? 0x0010).getD []).getD 0 0).toNat + 256 * (((c.tlv? 0x0010).getD []).getD 1 0).toNat ∧
      (∀ k, k ≠ evKey src.key → t.queue k = s.queue k) ∧ AfterReply { s1 with ses := { s1.ses with evq := t.ses.evq } } t) ∧
  (∀ (src : Src) (tlvs : List Tlv) (s s1 : State) (c : Cmd), accepted opEvtAck src tlvs s = some (s1, c) →
    ∃ t, exec (.evtAck src tlvs) s = .next t ∧
      (∀ r ∈ (s.queue (evKey src.key)).recs, r.ever = false ∨ c.nat 0x000F < r.rec_.eseq → r ∈ (t.queue (evKey src.key)).recs) ∧
      (∀ r ∈ (t.queue (evKey src.key)).recs, r ∈ (s.queue (evKey src.key)).recs → r.ever = true → c.nat 0x000F < r.rec_.eseq) ∧
      (∀ k, k ≠ evKey src.key → t.queue k = s.queue k) ∧ AfterReply { s1 with ses := { s1.ses with evq := t.ses.evq } } t) ∧
  (∀ (src : Src) (tlvs : List Tlv) (s s1 : State) (c : Cmd), accepted opRegRead src tlvs s = some (s1, c) →
    ∃ t, exec (.regRead src tlvs) s = .next t ∧ AfterReply (readRegs c.regAddrs s1).1 t ∧
      ((∀ a ∈ c.regAddrs, ∀ e, findReg a = some e → e.1.base ≠ aLdsNs ∧ e.1.base ≠ aLdsFrameLo) → AfterReply s1 t ∧
        (replyGoes s1 src.key = true → Replied src (c.ok [tData (c.regAddrs.flatMap (fun a => beBytes 4 (readReg a s1).2))]) t))) ∧
  (∀ (src : Src) (tlvs : List Tlv) (s s1 : State) (c : Cmd), accepted opRegWrite src tlvs s = some (s1, c) →
    ∃ t, exec (.regWrite src tlvs) s = .next t ∧
      AfterReply (writeRegs (c.regAddrs.zip (beNats 4 ((c.tlv? 0x0009).getD []))) s1).1 t ∧
      (∀ a v r n, c.regAddrs = [a] → beNats 4 ((c.tlv? 0x0009).getD []) = [v] → findReg a = some (r, n) → writeHook r.base n v s1 = none →
        a < 0x100000 → a ≠ aSpnDrop → t.regD a r.resetWord = writeFields r.fields (s.regD a r.resetWord) v % 2 ^ 32 ∧
          ∀ b d, b ≠ a → b ≠ aSpnDrop → t.regD b d = s.regD b d)) ∧
  (∀ (k : AssocKey) (s : State), s.frm.beat ≠ 0 → exec (.eventResend k) s = .next { s with out := [] }) ∧
  (∀ (k : AssocKey) (a : Assoc) (q : EvQueue) (r : QRec) (s : State), s.frm.beat = 0 → s.assoc? k = some a → a.phase = .opened →
    s.pathUp a.path = true → tget s.ses.evq (evKey k) = some q → q.recs = [r] → s.overdue r = true →
    ∃ t, exec (.eventResend k) s = .next t ∧ t.queue (evKey k) = { q with recs := [{ r with sent := some s.frm.now, ever := true }] } ∧
      (t.assoc? k).map (·.evSeq) = some (a.evSeq + 1) ∧ AfterReply { s with ses := { s.ses with evq := t.ses.evq }, out := [] } t)

/-- R110, R136 to R138: a packet that fails a header check owes one refusal and commands nothing, one that repeats a kept SEQ asks for its reply
again, and the command of a packet that passes is accepted, its reply owed for the next frame; a record of no association is discarded. R109, R111,
R115, R117, R118, R252: a tick that finds no command and no update swaps the slates, advances the frame and refills the tokens; the freeze of beat 64
freezes the back slate and names what it carries over. -/
def Obligations.PacketsAreCheckedAndFramesTick : Prop :=
  (∀ (f : Bool) (k : AssocKey) (b : Bytes) (s : State), s.assoc? k = none →
    exec (if f then .urgentPacket k b else .commandPacket k b) s = .next { s with out := [] }) ∧
  (∀ (k : AssocKey) (b : Bytes) (a a' : Assoc) (st : Nat) (s : State), s.assoc? k = some a → s.pathUp a.path = true →
    a' = { a with lastRx := s.frm.now, maxPkt := max a.maxPkt (min b.length 8192) } → headerFault a' k b (packetItems b).length = some st →
    ∃ t, exec (.commandPacket k b) s = .next t ∧ t.frm.accepted = s.frm.accepted ∧ (∃ p, t.frm.pkts = s.frm.pkts ++ [p] ∧
        p.key = k ∧ p.due = s.frm.now + 1 ∧ p.entries = [.done { op := 0, cmdid := 0xFFFF, status := st }]) ∧
      t = { s with frm := { s.frm with pkts := t.frm.pkts }, ses := { s.ses with assoc := t.ses.assoc }, out := [] }) ∧
  (∀ (k : AssocKey) (b : Bytes) (a a' : Assoc) (s : State), s.assoc? k = some a → s.pathUp a.path = true →
    a' = { a with lastRx := s.frm.now, maxPkt := max a.maxPkt (min b.length 8192) } → headerFault a' k b (packetItems b).length = none →
    a'.seqCheck (u b 8 4) = .again → ∃ t, exec (.commandPacket k b) s = .next t ∧ t.frm.dups = s.frm.dups ++ [(k, u b 8 4)] ∧
      t = { s with frm := { s.frm with dups := t.frm.dups }, ses := { s.ses with assoc := t.ses.assoc }, out := [] }) ∧
  (∀ (k : AssocKey) (b : Bytes) (a a' : Assoc) (op cid : Nat) (ch nd : Bool) (tlvs : List Tlv) (i : OpInfo) (c : Cmd) (s s1 s2 : State),
    s.assoc? k = some a → s.pathUp a.path = true → a' = { a with lastRx := s.frm.now, maxPkt := max a.maxPkt (min b.length 8192) } →
    headerFault a' k b (packetItems b).length = none → a'.seqCheck (u b 8 4) = .fresh → a'.phase = .opened →
    packetItems b = [.cmd op cid ch nd none tlvs] → opInfo? (u b 2 1) (a'.take (u b 8 4)) tlvs op = some i → i.early = false →
    s1 = (({ s with out := [] } : State).modAssoc k (fun _ => a')).modAssoc k (fun a => a.take (u b 8 4)) →
    submit i k (u b 8 4) cid nd 0 (a'.take (u b 8 4)) tlvs s1 = (s2, .ok c) →
    ∃ t, exec (.commandPacket k b) s = .next t ∧ t.frm.accepted = s.frm.accepted ++ [c] ∧ (∃ p, t.frm.pkts = s.frm.pkts ++ [p] ∧
        p.key = k ∧ p.seq = u b 8 4 ∧ p.due = s.frm.now + 1 ∧ p.entries = [.wait c.uid]) ∧
      t = { s2 with frm := { s2.frm with accepted := t.frm.accepted, pkts := t.frm.pkts } }) ∧
  (∀ (r : Nat) (i : TickIn) (s : State), s.pw.service = true → s.inLight = true → s.frm.tickDue = true → s.frm.accepted = [] →
    s.boot.act = none → s.slt.pin = .idle → s.emerg = false → s.thm.next = none → ∃ t, exec (.frameTick r i) s = .next t ∧
      t.frm.now = s.frm.now + 1 ∧ t.frm.beat = s.frm.beat ∧ t.frm.tickDue = false ∧ t.frm.cap = s.capacity ∧
      t.slt.front = s.slt.back ∧ t.slt.frontNo = 1 - s.slt.frontNo ∧ t.slt.frozen = false ∧ t.pw.inputW = i.watts % 65536 ∧
      (∀ v c, tget s.ten.vctls v = some c → ((t.vctl? v).map (·.spent)) = some 0 ∧ ((t.vctl? v).map (·.rateNow)) = some c.q.rate ∧
        ((t.vctl? v).map (·.allow)) = some (if turnFrame c (s.frm.now + 1) then turnAllow c s.capacity else 0)) ∧ t.geo = s.geo) ∧
  (∀ (r : Nat) (i : TickIn) (s : State), s.pw.service = true → s.lds.on = false → s.frm.tickDue = false → s.frm.accepted = [] → s.boot.act = none →
    ∃ t, exec (.frameTick r i) s = .next t ∧ t.frm.now = s.frm.now + 1 ∧ t.frm.beat = 0 ∧ t.frm.tickDue = false) ∧
  (∀ (r : Nat) (i : TickIn) (s : State), s.pw.service = false → exec (.frameTick r i) s = .next { s with out := [] }) ∧
  (∀ (x y n : List Nat) (s : State), s.inLight = true → s.frm.beat = 64 → s.slt.frozen = false →
    ∃ t, exec (.backSlateFreeze x y n) s = .next t ∧ t.slt.frozen = true ∧ t.slt.front = s.slt.front ∧ t.frm.carried = s.carriedOf x ∧
      (s.att.dither.1 = false → s.att.active = [] → ∀ h, s.isLamp h = false → s.slt.queue.all (fun w => w.handle != h) = true →
        t.backCode h = s.backCode h) ∧ t.geo = s.geo ∧ (s.boot.act = none → t.boot = s.boot) ∧ t.pw = s.pw ∧ t.frm.accepted = s.frm.accepted) ∧
  (∀ (x y n : List Nat) (s : State), s.inLight = false ∨ s.frm.beat ≠ 64 ∨ s.slt.frozen = true →
    exec (.backSlateFreeze x y n) s = .next { s with out := [] })

/-- R49, R120 to R123, R283: an urgent LIGHT_EMERGENCY waits for its slot, and its acceptance writes the overlay and counts it; the EMERG input
shows the preset, and its release ends its sources at the next commit. -/
def Obligations.UrgentCommandsAndTheEmergInput : Prop :=
  (∀ (k : AssocKey) (b : Bytes) (a a' : Assoc) (cid : Nat) (ch nd : Bool) (tlvs : List Tlv) (c : Cmd) (s s1 : State),
    s.assoc? k = some a → s.pathUp a.path = true → s.mayUrgent k a = true → s.frm.urgQ.length < 17 →
    a' = { a with lastRx := s.frm.now, maxPkt := max a.maxPkt (min b.length 8192), urgent := a.urgent + 1 } →
    headerFault a' k b (packetItems b).length = none → a'.seqCheck (u b 8 4) = .fresh → a'.phase = .opened →
    packetItems b = [.cmd 0x0105 cid ch nd none tlvs] →
    s1 = (({ s with out := [] } : State).modAssoc k (fun _ => a')).modAssoc k (fun a => a.take (u b 8 4)) →
    examine opLightEmergency k (u b 8 4) cid nd 0 s1.frm.uid (a'.take (u b 8 4)) tlvs s1 = .ok c → c.nat 0x000D = 0 →
    ∃ t, exec (.urgentPacket k b) s = .next t ∧ t.frm.urgQ = s.frm.urgQ ++ [⟨c, 80 * s.frm.now + s.frm.beat⟩] ∧
      t.frm.accepted = s.frm.accepted ∧ t = { s with frm := t.frm, ses := { s.ses with assoc := t.ses.assoc }, out := [] }) ∧
  (∀ (x : UrgCmd) (r : List UrgCmd) (s : State), s.frm.urgQ = x :: r → x.since < s.absBeat → s.frm.urgBeat.all (· < s.absBeat) = true →
    s.inLight = true → ∃ t, exec .urgentAccept s = .next t ∧ t.frm.urgQ = r ∧ t.frm.urgBeat = some s.absBeat ∧
      t.frm.accepted = s.frm.accepted ++ [x.cmd] ∧ t.frm.urgCount = (s.frm.urgCount + 1) % 2 ^ 16 ∧
      (∀ h ∈ s.urgentTargets x.cmd, s.outranked x.cmd.vctl h = false → tget t.slt.overlay h =
        some { code := min ((x.cmd.level?).getD 0) (s.ceiling h), vctl := x.cmd.vctl, clear := s.frm.now + 2 }) ∧
      (∀ h, h ∉ s.urgentTargets x.cmd → tget t.slt.overlay h = tget s.slt.overlay h) ∧
      t.slt = { s.slt with overlay := t.slt.overlay } ∧ t.geo = s.geo ∧ t.brg = s.brg ∧ t.qry = s.qry) ∧
  (∀ (a b : Bool) (s : State), s.pw.service = true → (a && s.pw.carrier.emergA || b && s.pw.carrier.emergB) = true → s.emerg = false →
    s.inLight = true → ∃ t, exec (.emergAssert a b) s = .next t ∧ t.emerg = true ∧ t.slt.presetAct = true ∧
      bit (t.reg aSvcCarrier) 2 = true ∧ t.frm.urgCount = (s.frm.urgCount + 1) % 2 ^ 16 ∧
      (s.slt.pin = .idle → t.slt.pin = .held false) ∧ t.slt.srcs = s.slt.srcs ∧ t.slt.overlay = s.slt.overlay ∧ t.geo = s.geo ∧ t.brg = s.brg) ∧
  (∀ (a b : Bool) (s : State), s.pw.service = true → s.emerg = true → (s.pw.emergA && !a || s.pw.emergB && !b) = false →
    ∃ t, exec (.emergDeassert a b) s = .next t ∧ t.emerg = false ∧ (∀ k, s.slt.pin = .held k → t.slt.pin = .released) ∧
      t = { s with pw := { s.pw with emergA := false, emergB := false }, slt := { s.slt with pin := t.slt.pin }, out := [] })


/-! ### The owner's commands -/

/-- R161 to R163, R173, R577: VCTL_CREATE gives a new number its quotas and nothing else, VCTL_REMOVE takes the session, the light, the leases and the
credentials away, and REMOVING ends when nothing of it remains or after 20 frames. R167 to R172, R185, R186, R499, R537, R580 to R582: rights by their
mode, quotas, credentials and register windows of the TARGET. -/
def Obligations.TenantsRightsAndQuotas : Prop :=
  (∀ (src : Src) (tlvs : List Tlv) (s s1 : State) (c : Cmd), accepted opVctlCreate src tlvs s = some (s1, c) →
    ∃ t, exec (.vctlCreate src tlvs) s = .next t ∧ s.vctl? c.target = none ∧ 2 ≤ c.target ∧
      tget t.ten.incarn c.target = some ((tgetD s.ten.incarn c.target 0 + 1) % 2 ^ 32) ∧
      (t.vctl? c.target).map (fun x => (x.st, x.q, x.tokens, x.modRights, x.rights, x.view, x.clientKey)) =
        some (.active, c.quotas tenantQuotas, 0, 0, [], [], none) ∧
      (∀ w, w ≠ c.target → t.vctl? w = s1.vctl? w) ∧ t.slt = s.slt ∧ t.geo = s.geo ∧ t.strs = s.strs ∧ t.boot = s.boot) ∧
  (∀ (src : Src) (tlvs : List Tlv) (s s1 : State) (c : Cmd), accepted opVctlRemove src tlvs s = some (s1, c) →
    ∃ t, exec (.vctlRemove src tlvs) s = .next t ∧ 2 ≤ c.target ∧ s.active c.target = true ∧
      (t.vctl? c.target).map (fun x => (x.st, x.windows, x.clientKey, x.cert)) = some (.removing s.frm.now, [], none, none) ∧
      t.assoc? (.vctl c.target) = none ∧ (∀ e ∈ t.ten.leases, e.2.holder ≠ c.target) ∧ (∀ h, ∀ y ∈ t.sources h, y.vctl ≠ c.target) ∧
      (∀ e ∈ t.slt.groups, e.1 / 1024 ≠ c.target) ∧ (∀ e ∈ t.slt.scheds, e.1 / 256 ≠ c.target) ∧
      (∀ e ∈ t.slt.overlay, e.2.vctl ≠ c.target) ∧ t.strs = s.strs ∧ t.boot = s.boot ∧ t.slt.back = s.slt.back) ∧
  (∀ (v : Nat) (s : State), s.removalDue v = true → ∃ t, exec (.vctlRemovalEnd v) s = .next t ∧ t.vctl? v = none ∧
      (∀ w, w ≠ v → (t.vctl? w).map (·.q) = (s.vctl? w).map (·.q)) ∧ (v ≠ 0 → tget t.ses.evq v = none) ∧ t.slt = s.slt ∧ t.geo = s.geo ∧ t.boot = s.boot) ∧
  (∀ (v : Nat) (s : State), s.removalDue v = false → exec (.vctlRemovalEnd v) s = .next { s with out := [] }) ∧
  (∀ (src : Src) (tlvs : List Tlv) (s s1 : State) (c : Cmd), accepted opRightsSet src tlvs s = some (s1, c) →
    ∃ t, exec (.rightsSet src tlvs) s = .next t ∧ 2 ≤ c.target ∧
      (∀ h ∈ c.handles, c.has 0x0122 = true → t.epRights c.target h = epAfter (c.nat 0x0124) (c.nat 0x0122 % 32) (s.epRights c.target h)) ∧
      (∀ h, h ∉ c.handles → t.epRights c.target h = s.epRights c.target h) ∧
      (c.has 0x0123 = true → (t.vctl? c.target).map (·.modRights) =
        (s.vctl? c.target).map (fun x => modAfter (c.nat 0x0124) (c.nat 0x0123 % 128) x.modRights)) ∧
      (c.has 0x0123 = false → (t.vctl? c.target).map (·.modRights) = (s.vctl? c.target).map (·.modRights)) ∧
      (∀ w, w ≠ c.target → (t.vctl? w).map (fun x => (x.rights, x.modRights)) = (s.vctl? w).map (fun x => (x.rights, x.modRights))) ∧
      t.slt.back = s.slt.back ∧ t.strs = s.strs ∧ t.boot = s.boot) ∧
  (∀ (src : Src) (tlvs : List Tlv) (s s1 : State) (c : Cmd), accepted opQuotaSet src tlvs s = some (s1, c) →
    ∃ t, exec (.quotaSet src tlvs) s = .next t ∧ s.active c.target = true ∧
      (t.vctl? c.target).map (·.q) = some (c.quotas (s.quotasOf c.target)) ∧
      (∀ w, w ≠ c.target → t.vctl? w = s1.vctl? w) ∧ t.slt = s.slt ∧ t.geo = s.geo ∧ t.strs = s.strs ∧ t.boot = s.boot) ∧
  (∀ (src : Src) (tlvs : List Tlv) (s s1 : State) (c : Cmd), accepted opCredSet src tlvs s = some (s1, c) →
    ∃ t, exec (.credSet src tlvs) s = .next t ∧
      (∀ k, c.tlvs = [(0x0120, beBytes 2 c.target), (0x0268, k)] → (t.vctl? c.target).bind (·.clientKey) = some k ∧
        ((s.vctl? c.target).bind (·.clientKey) ≠ some k → t.assoc? (.vctl c.target) = none)) ∧
      (∀ b, c.tlvs = [(0x0260, b)] → u b 1 1 % 8 ≠ 0 → tget t.boot.creds (u b 0 1) = some ⟨u b 1 1 % 8, b.drop 4⟩) ∧
      (∀ b, c.tlvs = [(0x0260, b)] → u b 1 1 % 8 = 0 → tget t.boot.creds (u b 0 1) = none ∧ t.assoc? (.svc (u b 0 1)) = none) ∧
      (∀ b, c.tlvs = [(0x0261, b)] → t.boot = { s.boot with imageKey := some b }) ∧
      t.slt = s.slt ∧ t.geo = s.geo ∧ t.strs = s.strs ∧ t.brg = s.brg) ∧
  (∀ (src : Src) (tlvs : List Tlv) (s s1 : State) (c : Cmd), accepted opRegwinGrant src tlvs s = some (s1, c) →
    ∃ t, exec (.regwinGrant src tlvs) s = .next t ∧
      t.vctl? c.target = (s1.vctl? c.target).map (fun x => { x with windows := putWindow (c.nat 0x0011) (c.nat 0x000F) x.windows }) ∧
      (∀ w, w ≠ c.target → t.vctl? w = s1.vctl? w) ∧ AfterReply { s1 with ten := { s1.ten with vctls := t.ten.vctls } } t)

/-- R285, R572: SEGMENT_CONFIG applies all its TLVs in order, or nothing and answers the first refusal. -/
def Obligations.SegmentConfigAppliesAllOrNothing : Prop :=
  (∀ (src : Src) (tlvs : List Tlv) (s s1 : State) (c : Cmd) (e : Err), accepted opSegmentConfig src tlvs s = some (s1, c) →
    segAll (c.all 0x0182) c.tlvs [] s1 = .error e → ∃ t, exec (.segmentConfig src tlvs) s = .next t ∧ AfterReply s1 t ∧
      (replyGoes s1 src.key = true → Replied src (c.err e) t)) ∧
  (∀ (src : Src) (tlvs : List Tlv) (s s1 : State) (c : Cmd) (b : Bytes), accepted opSegmentConfig src tlvs s = some (s1, c) →
    c.tlvs = [(0x0181, b)] → -720 ≤ beInt b → beInt b ≤ 840 → ∃ t, exec (.segmentConfig src tlvs) s = .next t ∧
      AfterReply { s1 with slt := { s1.slt with stdOffset := beInt b } } t ∧
      (replyGoes s1 src.key = true → Replied src c.ok t)) ∧
  (∀ (src : Src) (tlvs : List Tlv) (s s1 : State) (c : Cmd) (b : Bytes), accepted opSegmentConfig src tlvs s = some (s1, c) →
    c.tlvs = [(0x0186, b)] → u b 0 2 ≤ 64000 → 1 ≤ (handleList b).length → (handleList b).length ≤ 256 → (∀ h ∈ handleList b, s.isLamp h = true) →
    ∃ t, exec (.segmentConfig src tlvs) s = .next t ∧ (∀ h ∈ handleList b, t.ceiling h = u b 0 2) ∧
      (∀ h, h ∉ handleList b → t.ceiling h = s.ceiling h) ∧ AfterReply { s1 with slt := { s1.slt with ceilings := t.slt.ceilings } } t) ∧
  (∀ (src : Src) (tlvs : List Tlv) (s s1 u1 : State) (c : Cmd), accepted opSegmentConfig src tlvs s = some (s1, c) →
    segAll (c.all 0x0182) c.tlvs [] s1 = .ok u1 → c.has 0x0184 = false →
    ∃ t, exec (.segmentConfig src tlvs) s = .next t ∧ AfterReply u1 t ∧ (replyGoes u1 src.key = true → Replied src c.ok t))

/-- R538 to R540, R548: a chunk of an image joins its staging, an activation that its manifest covers begins, and the reads of the service port
answer (their layouts, and the content of the journal: log 34). -/
def Obligations.ServicePortOpcodes : Prop :=
  (∀ (src : Src) (tlvs : List Tlv) (s s1 : State) (c : Cmd), accepted opImageStage src tlvs s = some (s1, c) →
    ∃ t, exec (.imageStage src tlvs) s = .next t ∧ (t.slots (c.nat 0x0262)).stg = none ∧
      (t.slots (c.nat 0x0262)).act = (s.slots (c.nat 0x0262)).act ∧ (t.slots (c.nat 0x0262)).prev = (s.slots (c.nat 0x0262)).prev ∧
      (∃ g, (t.slots (c.nat 0x0262)).staging = some g ∧ g.total = c.nat 0x0264 ∧ g.stage = 1 ∧
        g.chunks = (if c.nat 0x0263 = 0 then [] else ((s.slots (c.nat 0x0262)).staging.map (·.chunks)).getD []) ++
          [(c.nat 0x0263, (c.tlv? 0x0265).getD [])] ∧
        g.waiting = (if g.whole then some (evKey c.key, c.seq, c.cmdid) else none)) ∧
      (∀ k, k ≠ c.nat 0x0262 → t.slots k = s.slots k) ∧
      AfterReply { s1 with boot := { s1.boot with images := t.boot.images }, ses := { s1.ses with evq := t.ses.evq } } t) ∧
  (∀ (src : Src) (tlvs : List Tlv) (s s1 : State) (c : Cmd) (l : List Image), accepted opImageActivate src tlvs s = some (s1, c) →
    s1.checkActivation ((c.tlv? 0x0266).getD []) (c.nat 0x0267) = .ok l →
    ∃ t, exec (.imageActivate src tlvs) s = .next t ∧ s.boot.act = none ∧
      t.boot.act.map (fun a => (a.todo, a.restart, a.handed)) = some (s.changed l, c.nat 0x0267 == 1, false) ∧
      t.boot.images = s.boot.images ∧ t.boot.run = s.boot.run ∧ t.slt = s.slt ∧ t.geo = s.geo ∧ t.pw = s.pw) ∧
  (∀ (src : Src) (tlvs : List Tlv) (s s1 : State) (c : Cmd), accepted opDiagRead src tlvs s = some (s1, c) →
    ∃ t, exec (.diagRead src tlvs) s = .next t ∧ AfterReply s1 t ∧
      (replyGoes s1 src.key = true → Replied src (c.ok [tData ((diagData s1 (c.nat 0x000D)).take 1152)]) t)) ∧
  (∀ (src : Src) (tlvs : List Tlv) (s s1 : State) (c : Cmd), accepted opJournalExport src tlvs s = some (s1, c) →
    ∃ t, exec (.journalExport src tlvs) s = .next t ∧ t.free = s.free + 1 + cdiv (Config.freeNat s.free) 1152 ∧
      AfterReply { s1 with free := t.free, ses := { s1.ses with evq := t.ses.evq } } t ∧ (replyGoes s1 src.key = true → Replied src c.pend t))

/-! ### Strings -/

/-- R26, R188, R189, R200 to R206: a port that gains or loses link is told of, a trigger starts a census, its reports are kept by hop, the end of a
pass judges it or starts the pass from the other port, and a link change aborts it. -/
def Obligations.CensusesRunOnTheirStrings : Prop :=
  (∀ (p r : Nat) (s : State), s.pw.main = true → s.portFitted p = true → (s.grain p).rate = 0 → s.mayLock p r = true →
    s.thm.idled.contains p = false → s.stratumOut (stratumOf p) = false → (s.grain (s.stringOf p)).census = none →
    (∀ e ∈ (s.grain (s.stringOf p)).record, e.2.told = 0) → ∃ t, exec (.stringLink p true r) s = .next t ∧ (t.grain p).rate = r ∧ (r = 1 ∨ r = 2) ∧
      (t.grain (s.stringOf p)).trigger = some ((s.grain (s.stringOf p)).trigger.getD s.frm.now) ∧
      t.ses = (s.owner 0x0320 [tPort p, tCode 1, tCode r]).ses ∧ t = { s with strs := t.strs, ses := t.ses, out := [] }) ∧
  (∀ (p r : Nat) (s : State), s.pw.main = true → s.portFitted p = true → (s.grain p).rate ≠ 0 → ∃ t, exec (.stringLink p false r) s = .next t ∧
      (t.grain p).rate = 0 ∧ bit (t.reg (aGrnStat (s.stringOf p))) 0 = true ∧ t.slt = s.slt ∧ t.geo = s.geo ∧ t.pw = s.pw ∧ t.frm = s.frm) ∧
  (∀ (p : Nat) (s : State), s.pw.main = true → s.portFitted p = true → (s.grain p).rate = 0 → (s.grain p).rateCfg = 0 →
    s.thm.idled.contains p = false → max (s.grain p).trySince s.strs.since + 400 ≤ s.absBeat → ∃ t, exec (.rateTryTimeout p) s = .next t ∧
      (t.grain p).try_ = .trying (3 - (s.grain p).tried) ∧ (t.grain p).trySince = s.absBeat ∧ t = { s with strs := t.strs, out := [] }) ∧
  (∀ (p g n : Nat) (s : State), g = s.stringOf p → n = ((s.grain g).number + 1) % 65536 → s.frm.beat = 0 → s.stringLink g = true →
    (s.grain g).trigger.any (fun f => f < s.frm.now) = true → (s.grain g).census = none → (s.grain g).waitUntil = none →
    ∃ t, exec (.censusStart p) s = .next t ∧ CensusBegins g n s t) ∧
  (∀ (p g n : Nat) (s : State), g = s.stringOf p → n = ((s.grain g).number + 1) % 65536 → s.frm.beat = 0 → s.stringLink g = true →
    (s.grain g).waitUntil.any (fun f => f ≤ s.frm.now) = true → ∃ t, exec (.censusRetry p) s = .next t ∧ CensusBegins g n s t) ∧
  (∀ (p hop : Nat) (rep : PoleReport) (c : Census) (s : State), (s.grain (s.stringOf p)).census = some c → c.higherPass = (p != s.stringOf p) →
    hop ≤ 64 → ∃ t, exec (.enumReport p c.number hop rep false) s = .next t ∧
      (t.grain (s.stringOf p)).census = some { c with
        last := s.frm.now, lower := if c.higherPass then c.lower else tset c.lower hop rep,
        higher := if c.higherPass then tset c.higher hop rep else c.higher } ∧
      t = { s with strs := t.strs, out := [] }) ∧
  (∀ (p hop : Nat) (rep : PoleReport) (c : Census) (s : State), (s.grain p).census = some c → (s.grain p).role = .single →
    (s.grain p).try_ = .settled → c.higherPass = false → hop ≤ 64 → ∃ t, exec (.enumReport p c.number hop rep true) s = .next t ∧
      (t.grain p).census = none ∧ (t.grain p).number = (s.grain p).number ∧
      (t.grain p).result = censusResult false (s.grain p).record { c with last := s.frm.now, lower := tset c.lower hop rep } ∧
      t.pw = s.pw ∧ t.frm = s.frm ∧ t.geo = s.geo) ∧
  (∀ (p : Nat) (c : Census) (s : State), (s.grain (s.stringOf p)).census = some c → (s.grain (s.stringOf p)).role = .single →
    (s.grain (s.stringOf p)).try_ = .settled → c.last + 1 ≤ s.frm.now → ∃ t, exec (.censusPassTimeout p) s = .next t ∧
      (t.grain (s.stringOf p)).census = none ∧ (t.grain (s.stringOf p)).result = censusResult false (s.grain (s.stringOf p)).record c ∧
      t.pw = s.pw ∧ t.frm = s.frm ∧ t.geo = s.geo) ∧
  (∀ (p h : Nat) (c : Census) (s : State), (s.grain (s.stringOf p)).census = some c → (s.grain (s.stringOf p)).role = .lower h →
    c.higherPass = false → (s.grain h).rate ≠ 0 → p ≠ s.stringOf p →
    ∃ t, exec (.enumerateLoopReturn p c.number) s = .next t ∧ SecondPassBegins (s.stringOf p) h c true s t) ∧
  (∀ (p h : Nat) (c : Census) (s : State), (s.grain (s.stringOf p)).census = some c → (s.grain (s.stringOf p)).role = .lower h →
    c.higherPass = false → (s.grain h).rate ≠ 0 → c.last + 1 ≤ s.frm.now →
    ∃ t, exec (.censusPassTimeout p) s = .next t ∧ SecondPassBegins (s.stringOf p) h c c.closed s t) ∧
  (∀ (p : Nat) (s : State), (s.grain (s.stringOf p)).census = none → ∃ t, exec (.linkChange p) s = .next t ∧
      (t.grain (s.stringOf p)) = { s.grain (s.stringOf p) with
        trigger := some ((s.grain (s.stringOf p)).trigger.getD s.frm.now) } ∧ t = { s with strs := t.strs, out := [] }) ∧
  (∀ (p : Nat) (c : Census) (s : State), (s.grain (s.stringOf p)).census = some c → ∃ t, exec (.linkChange p) s = .next t ∧
      (t.grain (s.stringOf p)).census = none ∧ (t.grain (s.stringOf p)).aborts = min 8 ((s.grain (s.stringOf p)).aborts + 1) ∧
      (t.grain (s.stringOf p)).waitUntil = some (s.frm.now + if 7 ≤ (s.grain (s.stringOf p)).aborts then 100 else 2) ∧
      bit (t.reg (aGrnStat (s.stringOf p))) 2 = true ∧ t = { s with strs := t.strs, regs := t.regs, ses := t.ses, out := [] })

/-- R196, R209 to R213: pairing answers and times out, an association opens on its confirmation and keeps the old keys for 8 frames, starts again
without an answer, and ends on a close, on exhaustion and, for the old keys, after the 8 frames. -/
def Obligations.PoleNodesPairAndAssociate : Prop :=
  (∀ (g p n k eui : Nat) (r : PairResp) (q : Pole) (s : State), s.pole? g p = some q → q.pair = .waiting n k →
    s.strs.anchors.contains r.anchor = true → eui = q.rep.eui → ∃ t, exec (.pairResp g p r eui true) s = .next t ∧
      (t.pole? g p).map (·.pair) = some .paired ∧ tget t.strs.pairs eui = some (pairwiseKey (q.pairEph.getD (0, [])) r) ∧
      (s.flt.rngOk = true → s.starting g < 4 → (t.pole? g p).map (·.init.isSome) = some true) ∧
      t = { s with strs := t.strs, free := t.free, out := t.out }) ∧
  (∀ (g p n k eui : Nat) (a : PairResp) (o : Bool) (q : Pole) (s : State), s.pole? g p = some q → q.pair = .waiting n k →
    s.strs.anchors.contains a.anchor = false ∨ eui ≠ q.rep.eui ∨ o = false → ∃ t, exec (.pairResp g p a eui o) s = .next t ∧ PairFails g p q s t) ∧
  (∀ (g p n k : Nat) (q : Pole) (s : State), s.pole? g p = some q → q.pair = .waiting n k → n + 2 ≤ s.frm.now → 3 ≤ k →
    ∃ t, exec (.pairTimeout g p) s = .next t ∧ PairFails g p q s t) ∧
  (∀ (g p n k : Nat) (q : Pole) (s : State), s.pole? g p = some q → s.flt.rngOk = true → q.pair = .waiting n k → n + 2 ≤ s.frm.now → k < 3 →
    ∃ t, exec (.pairTimeout g p) s = .next t ∧ PairBegins g p (k + 1) q s t) ∧
  (∀ (g p n : Nat) (q : Pole) (s : State), s.pole? g p = some q → s.flt.rngOk = true → q.pair = .failed n → n + 6000 ≤ s.frm.now →
    ∃ t, exec (.pairRetry g p) s = .next t ∧ PairBegins g p 1 q s t) ∧
  (∀ (g p : Nat) (h : MslHdr) (i : PoleInit) (q : Pole) (s : State), s.pole? g p = some q → q.init = some i → h.ok = true → h.flags % 4 = 1 →
    h.aid = i.keys.aidRx → h.ctr = 1 → ∃ t, exec (.assocConfirm g p h) s = .next t ∧
      (t.pole? g p).map (fun x => (x.assoc.map (fun k => (k.aidTx, k.aidRx, k.high)), x.init, x.full)) =
        some (some (i.keys.aidTx, i.keys.aidRx, 1), none, true) ∧
      (t.pole? g p).map (·.old) = some (q.assoc.map (fun k => (k, s.frm.now + 8))) ∧ t.slt = s.slt ∧ t.brg = s.brg ∧ t.geo = s.geo) ∧
  (∀ (g p : Nat) (h : MslHdr) (s : State), (∀ q, s.pole? g p = some q → ∀ i, q.init = some i →
      h.ok = false ∨ h.flags % 4 ≠ 1 ∨ h.aid ≠ i.keys.aidRx ∨ h.ctr ≠ 1) →
    ∃ t, exec (.assocConfirm g p h) s = .next t ∧ fieldOf (t.reg (aGrnDrop g)) 0 8 = satAdd 8 (fieldOf (s.reg (aGrnDrop g)) 0 8) 1 ∧
      t = { s with regs := t.regs, out := [] }) ∧
  (∀ (g p : Nat) (i : PoleInit) (q : Pole) (s : State), s.pole? g p = some q → q.init = some i → s.flt.rngOk = true →
    (i.gaveUp = false ∧ i.since + 2 ≤ s.frm.now ∧ i.tries < 3) ∨ (i.gaveUp = true ∧ i.since + 100 ≤ s.frm.now ∧ s.starting g < 4) →
    ∃ t, exec (.assocInitTimeout g p) s = .next t ∧
      (t.pole? g p).map (·.init) = some (some { i with
        keys := i.keys.derive (s.pairwise g p) (beBytes 12 (Config.freeNat s.free)), since := s.frm.now, wait := s.frm.now + 2,
        tries := if i.gaveUp then i.tries else i.tries + 1 }) ∧
      (q.held = [] → q.assoc = none ∨ 1 ≤ q.credits.getD 0 0 → t.out.length = 1) ∧ t = { s with strs := t.strs, free := s.free + 1, out := t.out }) ∧
  (∀ (g p : Nat) (i : PoleInit) (q : Pole) (s : State), s.pole? g p = some q → q.init = some i → i.gaveUp = false → i.since + 2 ≤ s.frm.now →
    3 ≤ i.tries → ∃ t, exec (.assocInitTimeout g p) s = .next t ∧
      (t.pole? g p).map (·.init) = some (some { i with gaveUp := true, since := s.frm.now }) ∧
      t.ses = (s.owner 0x0325 [tPort g, tCode p, tCode 1]).ses ∧ t = { s with strs := t.strs, ses := t.ses, free := t.free, out := t.out }) ∧
  (∀ (g p : Nat) (h : MslHdr) (s : State), (mslAccept g p h { s with out := [] }).2 = true → ∃ t, exec (.assocClose g p h) s = .next t ∧
      (t.pole? g p).map (fun q => (q.assoc, q.held)) = some (none, []) ∧
      (s.flt.rngOk = true → s.starting g < 4 → (t.pole? g p).map (·.init.isSome) = some true) ∧ t.slt = s.slt ∧ t.geo = s.geo ∧ t.frm = s.frm) ∧
  (∀ (g p : Nat) (q : Pole) (k : PoleKeys) (s : State), s.pole? g p = some q → q.assoc = some k → 2 ^ 62 ≤ k.ctrTx ∨ 2 ^ 62 ≤ k.high →
    q.init = none → s.flt.rngOk = true → s.starting g < 4 → ∃ t, exec (.assocRekey g p) s = .next t ∧
      (t.pole? g p).map (·.init.isSome) = some true ∧ (t.pole? g p).map (·.assoc) = some (some k) ∧
      t = { s with strs := t.strs, free := s.free + 1, out := t.out }) ∧
  (∀ (g p e : Nat) (q : Pole) (k : PoleKeys) (s : State), s.pole? g p = some q → q.old = some (k, e) → e ≤ s.frm.now →
    ∃ t, exec (.assocOldKeyErase g p) s = .next t ∧ t.pole? g p = some { q with old := none } ∧ t = { s with strs := t.strs, out := [] }) ∧
  (∀ (g p : Nat) (q : Pole) (k : PoleKeys) (s : State), s.pole? g p = some q → q.assoc = some k → 2 ^ 64 - 1 ≤ k.ctrTx ∨ 2 ^ 64 - 1 ≤ k.high →
    ∃ t, exec (.assocExhausted g p) s = .next t ∧ (t.pole? g p).map (·.assoc) = some none ∧ bit (t.reg (aGrnStat g)) 4 = true ∧
      t.slt = s.slt ∧ t.geo = s.geo ∧ t.frm = s.frm)

/-- R211, R214 to R217, R221, R223, R232: what pole nodes and the grain exchange under an association, and the count of what is discarded. -/
def Obligations.StringMessagesAreServed : Prop :=
  (∀ (x : Instr) (g p : Nat) (h : MslHdr) (cs : List Nat) (s : State), x = .delayReq g p h ∨ x = .resyncReq g p h ∨ x = .credit g p h cs ∨
      x = .assocClose g p h → (mslAccept g p h { s with out := [] }).2 = false →
    ∃ t, exec x s = .next t ∧ t.reg (aGrnDrop g) ≠ 0 ∧ (∀ a d, a ≠ aGrnDrop g → t.regD a d = s.regD a d) ∧ t = { s with regs := t.regs, out := [] }) ∧
  (∀ (g p : Nat) (h : MslHdr) (q : Pole) (k : PoleKeys) (s : State), s.pole? g p = some q → q.assoc = some k → k.aidRx = h.aid → h.ok = true →
    h.flags % 4 = 1 → h.round = false ∨ (s.grain g).folded = true → k.high < h.ctr → q.held = [] → 1 ≤ q.credits.getD 1 0 → k.ctrTx + 1 < 2 ^ 64 →
    ∃ t, exec (.delayReq g p h) s = .next t ∧
      (∀ port hop ns args, (port, hop) = s.route g p → ns = s.ingressNs port → args = [ns / 1000000000, ns % 1000000000] →
        t.lds = { s.lds with stampIn := tset s.lds.stampIn port s.lds.nsReg } ∧
        t.out = [.msg .mslDelayResp (mkHandle g p 0) ([port, hop, k.aidTx, k.ctrTx + 1] ++ args)
          (mslEther port (mslMessage (s.stringRate g) hop .mslDelayResp args (.sealed k.aidTx (k.ctrTx + 1) k.keyTx) (delayRespBody ns) ++
            beIntBytes 8 h.trailer))]) ∧
      (t.pole? g p).map (·.credits) = some (q.credits.set 1 (q.credits.getD 1 0 - 1)) ∧
      (t.pole? g p).bind (·.assoc.map (·.high)) = some h.ctr ∧ t = { s with strs := t.strs, lds := t.lds, out := t.out }) ∧
  (∀ (g p : Nat) (h : MslHdr) (s : State), (mslAccept g p h { s with out := [] }).2 = true → ∃ t, exec (.resyncReq g p h) s = .next t ∧
      (t.pole? g p).map (·.full) = some true ∧ t = { s with strs := t.strs, out := [] }) ∧
  (∀ (g p : Nat) (h : MslHdr) (cs : List Nat) (q : Pole) (s : State), s.pole? g p = some q → q.held = [] →
    (s.grain g).syncHeld = [] → (s.gbr g).credit = [] → (mslAccept g p h { s with out := [] }).2 = true → ∃ t, exec (.credit g p h cs) s = .next t ∧
      (t.pole? g p).map (·.credits) = some ((List.range 4).map (fun i =>
        min 32 (q.credits.getD i 0 + (cs.getD i 0 + 65536 - q.freed.getD i 0) % 65536))) ∧
      (t.pole? g p).map (·.freed) = some ((List.range 4).map (fun i => cs.getD i 0 % 65536)) ∧
      ((∃ e ∈ q.queried, cs.getD e.1 0 % 65536 = q.freed.getD e.1 0) → bit (t.reg (aGrnStat g)) 5 = true) ∧
      (q.queried = [] → t.regs = s.regs) ∧ t = { s with strs := t.strs, regs := t.regs, out := [] }) ∧
  (∀ (g p cls f : Nat) (q : Pole) (k : PoleKeys) (s : State), s.pole? g p = some q → q.assoc = some k → tget q.stall cls = some f →
    f + 10 ≤ s.frm.now → (tget q.queried cls).all (fun f => decide (f + 10 ≤ s.frm.now)) = true → ∃ t, exec (.creditQuery g p cls) s = .next t ∧
      (t.pole? g p).map (fun x => tget x.queried cls) = some (some s.frm.now) ∧
      (1 ≤ q.credits.getD 0 0 → q.held.any (fun h => h.cls == 0) = false → k.ctrTx + 1 < 2 ^ 64 →
        t.out = [.msg .mslCreditQuery (mkHandle g p 0) [(s.route g p).1, (s.route g p).2, k.aidTx, k.ctrTx + 1, cls]
          (mslEther (s.route g p).1 (mslMessage (s.stringRate g) (s.route g p).2 .mslCreditQuery [cls] (.sealed k.aidTx (k.ctrTx + 1) k.keyTx) []))]) ∧
      t = { s with strs := t.strs, out := t.out }) ∧
  (∀ (g : Nat) (s : State), s.pw.main = true → s.flt.rngOk = true → ∃ t, exec (.groupKeyReplace g) s = .next t ∧
      (t.grain g).gEpoch = 1 - (s.grain g).gEpoch ∧ (t.grain g).gCtr = 0 ∧ (t.grain g).gAid = (takeAid s).1 ∧
      (t.grain g).gKey = beBytes 32 (Config.freeNat s.free) ∧ t = { s with strs := t.strs, free := s.free + 1, out := t.out }) ∧
  (∀ (g : Nat) (s : State), s.inLight = true → s.stringLink g = true → s.frm.beat = 32 → (s.grain g).syncAt ≠ some s.frm.now →
    (s.grain g).gCtr < 2 ^ 62 → (s.grain g).role ≠ .lower g → ∃ t, exec (.timeSyncSend g) s = .next t ∧ (t.grain g).syncAt = some s.frm.now ∧
      ((∀ p ∈ s.portsOf g, s.maySync g p = true) → (t.grain g).gCtr = (s.grain g).gCtr + (s.portsOf g).length ∧ (t.grain g).syncHeld = [] ∧
        t.out = (s.portsOf g).zipIdx.map (fun e => .msg .mslTimeSync e.1
          [0xFF, (s.grain g).gAid, (s.grain g).gCtr + 1 + e.2, (s.grain g).gEpoch, s.egressNs e.1 / 1000000000, s.egressNs e.1 % 1000000000, s.frm.now]
          (mslEther e.1 (mslMessage (s.stringRate g) 0xFF .mslTimeSync
              [(s.grain g).gEpoch, s.egressNs e.1 / 1000000000, s.egressNs e.1 % 1000000000, s.frm.now]
              (.group (s.grain g).gAid ((s.grain g).gCtr + 1 + e.2) (s.grain g).gKey) (timeSyncBody (s.egressNs e.1) s.frm.now (s.grain g).gEpoch) ++
            beBytes 8 0)))) ∧
      (∀ p, s.portsOf g = [p] → s.maySync g p = false → t.out = [] ∧ p ∈ (t.grain g).syncHeld) ∧
      t = { s with strs := t.strs, lds := t.lds, out := t.out }) ∧
  (∀ (p ty : Nat) (s : State), mslTypes.contains ty = false → ∃ t, exec (.mslReservedType p ty) s = .next t ∧
      fieldOf (t.reg (aGrnDrop p)) 16 4 = satAdd 4 (fieldOf (s.reg (aGrnDrop p)) 16 4) 1 ∧ t = { s with regs := t.regs, out := [] }) ∧
  (∀ (p ty : Nat) (s : State), mslTypes.contains ty = true → exec (.mslReservedType p ty) s = .next { s with out := [] })

/-! ### The endpoint bridge -/

/-- R228 to R230, R234, R238, R241, R245, R246: an accepted read or non-posted write takes the tag that has been free longest and joins its grain's
queue, a posted write joins it without one, a block that another vCtl holds bars a write, and a broken semaphore is told once. -/
def Obligations.BridgeOpcodesEnterTheQueue : Prop :=
  (∀ (src : Src) (tlvs : List Tlv) (s s1 : State) (c : Cmd) (k : Nat) (r : List Nat), accepted opBridgeRead src tlvs s = some (s1, c) →
    (s.gbr (hString c.ep)).broken = [] → (s.gbr (hString c.ep)).free = k :: r → ∃ t, exec (.bridgeRead src tlvs) s = .next t ∧
      (t.gbr (hString c.ep)).queue = (s.gbr (hString c.ep)).queue ++ [{ (c.brOp .read c.regAddr (c.nat 0x000F) [] []) with tag := some k }] ∧
      (t.gbr (hString c.ep)).free = r ∧ (tget (t.gbr (hString c.ep)).tags k).map (·.st) = some .queued ∧
      (∀ g, g ≠ hString c.ep → t.gbr g = s.gbr g) ∧ AfterReply { s1 with brg := t.brg } t ∧
      (replyGoes s1 src.key = true → Replied src c.pend t)) ∧
  (∀ (src : Src) (tlvs : List Tlv) (s s1 : State) (c : Cmd), accepted opBridgeWrite src tlvs s = some (s1, c) → c.nat 0x0161 = 0 →
    (s.gbr (hString c.ep)).broken = [] → s.heldByOther c.vctl c.ep c.regAddr (c.nat 0x000F) = false →
    ∃ t, exec (.bridgeWrite src tlvs) s = .next t ∧ (t.gbr (hString c.ep)).queue = (s.gbr (hString c.ep)).queue ++
        [c.brOp .posted c.regAddr (c.nat 0x000F) ((c.tlv? 0x0009).getD []) []] ∧
      (∀ g, g ≠ hString c.ep → t.gbr g = s.gbr g) ∧ AfterReply { s1 with brg := t.brg } t ∧ (replyGoes s1 src.key = true → Replied src c.ok t)) ∧
  (∀ (src : Src) (tlvs : List Tlv) (s s1 : State) (c : Cmd) (k : Nat) (r : List Nat), accepted opBridgeWrite src tlvs s = some (s1, c) →
    c.nat 0x0161 = 1 → (s.gbr (hString c.ep)).broken = [] → s.heldByOther c.vctl c.ep c.regAddr (c.nat 0x000F) = false →
    (s.gbr (hString c.ep)).free = k :: r → ∃ t, exec (.bridgeWrite src tlvs) s = .next t ∧
      (t.gbr (hString c.ep)).queue = (s.gbr (hString c.ep)).queue ++
        [{ (c.brOp .nonPosted c.regAddr (c.nat 0x000F) ((c.tlv? 0x0009).getD []) []) with tag := some k }] ∧
      (t.gbr (hString c.ep)).free = r ∧ AfterReply { s1 with brg := t.brg } t ∧ (replyGoes s1 src.key = true → Replied src c.pend t)) ∧
  (∀ (src : Src) (tlvs : List Tlv) (s s1 : State) (c : Cmd), accepted opBridgeWrite src tlvs s = some (s1, c) →
    (s.gbr (hString c.ep)).broken = [] → s.heldByOther c.vctl c.ep c.regAddr (c.nat 0x000F) = true →
    ∃ t, exec (.bridgeWrite src tlvs) s = .next t ∧ AfterReply s1 t ∧ (replyGoes s1 src.key = true → Replied src (c.reply stSemNotHeld) t)) ∧
  (∀ (x : Instr) (i : OpInfo) (src : Src) (tlvs : List Tlv) (s s1 u1 : State) (c : Cmd),
    (x = .bridgeRead src tlvs ∧ i = opBridgeRead) ∨ (x = .bridgeWrite src tlvs ∧ i = opBridgeWrite) → accepted i src tlvs s = some (s1, c) →
    brokenCheck c.vctl c.ep c.regAddr (c.nat 0x000F) s1 = some u1 → ∃ t, exec x s = .next t ∧ AfterReply u1 t ∧
      (∀ b ∈ (t.gbr (hString c.ep)).broken, b ∈ (s.gbr (hString c.ep)).broken) ∧
      (t.gbr (hString c.ep)).queue = (s.gbr (hString c.ep)).queue ∧ (replyGoes u1 src.key = true → Replied src (c.reply stSemBroken) t)) ∧
  (∀ (src : Src) (tlvs : List Tlv) (s s1 : State) (c : Cmd), accepted opAttrRead src tlvs s = some (s1, c) → c.has 0x0165 = false →
    (∀ n ∈ c.list 0x0164 2, n < 0x100) → ∃ t, exec (.attrRead src tlvs) s = .next t ∧ AfterReply s1 t ∧ (replyGoes s1 src.key = true →
      Replied src (c.ok [tData ((c.list 0x0164 2).flatMap (fun n => beBytes 2 n ++ beBytes 2 (s1.commonAttr c.vctl c.ep n).length ++
        s1.commonAttr c.vctl c.ep n))]) t)) ∧
  (∀ (src : Src) (tlvs : List Tlv) (s s1 : State) (c : Cmd), accepted opAttrRead src tlvs s = some (s1, c) → c.has 0x0165 = true →
    ∃ t, exec (.attrRead src tlvs) s = .next t ∧ AfterReply s1 t ∧ (replyGoes s1 src.key = true →
      Replied src (c.ok [(0x0165, ((fromName (s1.slotProfile c.ep) (c.list 0x0164 2).head?).take 143).flatMap profRecord)]) t)) ∧
  (∀ (src : Src) (tlvs : List Tlv) (s s1 : State) (c : Cmd) (n k : Nat) (r : List Nat) (a : Config.ProfAttr),
    accepted opAttrRead src tlvs s = some (s1, c) → c.has 0x0165 = false → c.list 0x0164 2 = [n] → 0x100 ≤ n → s.attr? c.ep n = some a →
    (s.gbr (hString c.ep)).broken = [] → (s.gbr (hString c.ep)).free = k :: r → ∃ t, exec (.attrRead src tlvs) s = .next t ∧
      (t.gbr (hString c.ep)).queue = (s.gbr (hString c.ep)).queue ++ [{ (c.brOp .read a.addr a.count [] [n]) with tag := some k }] ∧
      (t.gbr (hString c.ep)).free = r ∧ AfterReply { s1 with brg := t.brg } t) ∧
  (∀ (src : Src) (tlvs : List Tlv) (s s1 : State) (c : Cmd) (n k : Nat) (r : List Nat) (a : Config.ProfAttr),
    accepted opAttrWrite src tlvs s = some (s1, c) → c.list 0x0164 2 = [n] → s.attr? c.ep n = some a → (s.gbr (hString c.ep)).broken = [] →
    s.heldByOther c.vctl c.ep a.addr a.count = false → (s.gbr (hString c.ep)).free = k :: r → ∃ t, exec (.attrWrite src tlvs) s = .next t ∧
      (t.gbr (hString c.ep)).queue = (s.gbr (hString c.ep)).queue ++ (if s.nonPosted (hString c.ep) then
        [{ (c.brOp .nonPosted a.addr a.count ((c.tlv? 0x0009).getD []) [n]) with tag := some k }] else
        [c.brOp .posted a.addr a.count ((c.tlv? 0x0009).getD []) [], { (c.brOp .read a.addr a.count [] [n]) with tag := some k }]) ∧
      (t.gbr (hString c.ep)).free = r ∧ AfterReply { s1 with brg := t.brg } t)

/-- R243 to R247: a semaphore of a free block is taken, its holder renews it, another waits or is told that it is busy, and a release passes it to
the first waiter; waits and broken records end with their time. -/
def Obligations.SemaphoresAreTakenAndPassed : Prop :=
  (∀ (src : Src) (tlvs : List Tlv) (s s1 : State) (c : Cmd), accepted opSemAcquire src tlvs s = some (s1, c) →
    (s.gbr (hString c.ep)).sem? c.ep c.regAddr = none → c.vctl = 0 ∨ (s.gbr (hString c.ep)).holds c.vctl < 8 →
    (s.gbr (hString c.ep)).sems.length < 64 → ∃ t, exec (.semAcquire src tlvs) s = .next t ∧
      (t.gbr (hString c.ep)).sems = (s.gbr (hString c.ep)).sems ++
        [⟨c.ep, c.regAddr, c.vctl, s.frm.now + (c.nat? 0x0163).getD (s.leaseDef (hString c.ep)), []⟩] ∧
      AfterReply { s1 with brg := t.brg } t ∧ (replyGoes s1 src.key = true → Replied src c.ok t)) ∧
  (∀ (src : Src) (tlvs : List Tlv) (s s1 : State) (c : Cmd) (e : Sem), accepted opSemAcquire src tlvs s = some (s1, c) →
    (s.gbr (hString c.ep)).sem? c.ep c.regAddr = some e → e.holder = c.vctl → ∃ t, exec (.semAcquire src tlvs) s = .next t ∧
      (t.gbr (hString c.ep)).sem? c.ep c.regAddr =
        some { e with until_ := s.frm.now + (c.nat? 0x0163).getD (s.leaseDef (hString c.ep)) } ∧
      AfterReply { s1 with brg := t.brg } t ∧ (replyGoes s1 src.key = true → Replied src c.ok t)) ∧
  (∀ (src : Src) (tlvs : List Tlv) (s s1 : State) (c : Cmd) (e : Sem), accepted opSemAcquire src tlvs s = some (s1, c) →
    (s.gbr (hString c.ep)).sem? c.ep c.regAddr = some e → e.holder ≠ c.vctl → c.nat 0x0162 = 0 ∨ 16 ≤ e.waiters.length →
    ∃ t, exec (.semAcquire src tlvs) s = .next t ∧ AfterReply s1 t ∧ (replyGoes s1 src.key = true → Replied src (c.reply stSemBusy) t)) ∧
  (∀ (src : Src) (tlvs : List Tlv) (s s1 : State) (c : Cmd) (e : Sem), accepted opSemAcquire src tlvs s = some (s1, c) →
    (s.gbr (hString c.ep)).sem? c.ep c.regAddr = some e → e.holder ≠ c.vctl → c.nat 0x0162 ≠ 0 → e.waiters.length < 16 →
    c.vctl = 0 ∨ (s.gbr (hString c.ep)).waits c.vctl < 8 → ∃ t, exec (.semAcquire src tlvs) s = .next t ∧
      ((t.gbr (hString c.ep)).sem? c.ep c.regAddr).map (fun x => (x.holder, x.waiters.length, x.waiters.getLast?.map (·.vctl))) =
        some (e.holder, e.waiters.length + 1, some c.vctl) ∧
      AfterReply { s1 with brg := t.brg } t ∧ (replyGoes s1 src.key = true → Replied src c.pend t)) ∧
  (∀ (src : Src) (tlvs : List Tlv) (s s1 : State) (c : Cmd) (e : Sem), accepted opSemRelease src tlvs s = some (s1, c) →
    (s.gbr (hString c.ep)).broken = [] → (s.gbr (hString c.ep)).sem? c.ep c.regAddr = some e → e.holder = c.vctl → c.has 0x0167 = false →
    ∃ t, exec (.semRelease src tlvs) s = .next t ∧
      (e.waiters = [] → (s.gbr (hString c.ep)).entryQ = [] → (t.gbr (hString c.ep)).sem? c.ep c.regAddr = none) ∧
      (∀ w r, e.waiters = w :: r → (s.gbr (hString c.ep)).mayHold w.vctl = true → (t.gbr (hString c.ep)).sem? c.ep c.regAddr =
        some { e with holder := w.vctl, until_ := s.frm.now + w.lease, waiters := r } ∧ t.ses.evq = (s1.result w.key w.seq w.cmdid stOk).ses.evq) ∧
      AfterReply { s1 with brg := t.brg, ses := { s1.ses with evq := t.ses.evq } } t ∧ (replyGoes s1 src.key = true → Replied src c.ok t)) ∧
  (∀ (src : Src) (tlvs : List Tlv) (s s1 : State) (c : Cmd), accepted opSemRelease src tlvs s = some (s1, c) →
    (s.gbr (hString c.ep)).broken = [] → (∀ e, (s.gbr (hString c.ep)).sem? c.ep c.regAddr = some e → e.holder ≠ c.vctl) → c.has 0x0167 = false →
    ∃ t, exec (.semRelease src tlvs) s = .next t ∧ AfterReply s1 t ∧ (replyGoes s1 src.key = true → Replied src (c.reply stSemNotHeld) t)) ∧
  (∀ (g : Nat) (s : State), ∃ t, exec (.semWaitTimeout g) s = .next t ∧
      (∀ x ∈ (t.gbr g).sems, ∀ w ∈ x.waiters, s.frm.now < w.deadline) ∧ (∀ w ∈ (t.gbr g).entryQ, s.frm.now < w.deadline) ∧
      (t.gbr g).sems.map (fun x => (x.handle, x.block, x.holder)) = (s.gbr g).sems.map (fun x => (x.handle, x.block, x.holder)) ∧
      (∀ h, h ≠ g → t.gbr h = s.gbr h) ∧ t = { s with brg := t.brg, ses := t.ses, out := [] }) ∧
  (∀ (g : Nat) (s : State), ∃ t, exec (.semBrokenExpire g) s = .next t ∧
      (t.gbr g) = { s.gbr g with broken := (s.gbr g).broken.filter (fun x => s.frm.now < x.since + 250) } ∧
      (∀ h, h ≠ g → t.gbr h = s.gbr h) ∧ t = { s with brg := t.brg, out := [] })

/-- R231 to R236, R239: an operation is issued in its vCtl's next slot and leaves the port once the credits reach, its answer frees the tag and gives the RESULT, a timeout answers BRIDGE_TIMEOUT and
keeps the tag until the late answer or the second timeout. -/
def Obligations.BridgeOperationsAreAnswered : Prop :=
  (∀ (g v n p port hop : Nat) (args : List Nat) (o : BrOp) (q : Pole) (k : PoleKeys) (s : State), issuable v [] (s.gbr g).queue = some o →
    s.nextSlot g v = some n → (s.gbr g).credit = [] → hString o.handle = g → p = hPos o.handle → s.pole? g p = some q → q.assoc = some k →
    k.ctrTx + 1 < 2 ^ 64 → creditCost (44 + o.data.length) ≤ q.credits.getD 2 0 → (port, hop) = s.route g p →
    args = [brType o.kind, hSlot o.handle, o.tag.getD 0, o.reg, o.count] → ∃ t, exec (.bridgeIssue g v) s = .next t ∧
      (t.gbr g).queue = (s.gbr g).queue.erase o ∧ (t.gbr g).credit = [] ∧ (t.gbr g).slot = n + 1 ∧
      t.out = [.msg .mslBridge (mkHandle g p 0) ([port, hop, k.aidTx, k.ctrTx + 1] ++ args)
        (mslEther port (mslMessage (s.stringRate g) hop .mslBridge args (.sealed k.aidTx (k.ctrTx + 1) k.keyTx)
          (bridgeBody (hSlot o.handle) (o.tag.getD 0) o.reg o.count o.data)))] ∧
      (∀ m y, o.tag = some m → tget (s.gbr g).tags m = some y →
        (tget (t.gbr g).tags m).map (·.st) = some (.issued (s.brTimeout g p) (100 * n))) ∧
      (t.pole? g p).map (·.credits) = some (q.credits.set 2 (q.credits.getD 2 0 - creditCost (44 + o.data.length))) ∧
      t = { s with brg := t.brg, strs := t.strs, out := t.out }) ∧
  (∀ (g v n : Nat) (o : BrOp) (q : Pole) (s : State), issuable v [] (s.gbr g).queue = some o → s.nextSlot g v = some n → (s.gbr g).credit = [] →
    hString o.handle = g → s.pole? g (hPos o.handle) = some q → q.credits.getD 2 0 < creditCost (44 + o.data.length) →
    ∃ t, exec (.bridgeIssue g v) s = .next t ∧ (t.gbr g).queue = (s.gbr g).queue.erase o ∧ (t.gbr g).credit = [o] ∧ (t.gbr g).slot = n + 1 ∧
      (t.gbr g).tags = (s.gbr g).tags ∧ t = { s with brg := t.brg, strs := t.strs, out := [] }) ∧
  (∀ (g v : Nat) (s : State), issuable v [] (s.gbr g).queue = none ∨ s.nextSlot g v = none →
    exec (.bridgeIssue g v) s = .next { s with out := [] }) ∧
  (∀ (g p sl n rg ct es : Nat) (h : MslHdr) (d : Bytes) (y : Tag) (s : State), (mslAccept g p h { s with out := [] }).2 = true → tget (s.gbr g).tags n = some y →
    y.st.late = false → hPos y.op.handle = p → hSlot y.op.handle = sl → y.op.reg = rg → y.op.count = ct → y.op.kind = .read → y.charged = true →
    s.active y.op.vctl = true → ∃ t, exec (.brReadResp g p h sl n rg ct es d) s = .next t ∧
      TagAnswered g n es [tData (d.take (4 * ct))] y s t) ∧
  (∀ (g p sl n rg ct es : Nat) (h : MslHdr) (y : Tag) (s : State), (mslAccept g p h { s with out := [] }).2 = true → tget (s.gbr g).tags n = some y →
    y.st.late = false → hPos y.op.handle = p → hSlot y.op.handle = sl → y.op.reg = rg → y.op.count = ct → y.op.kind = .nonPosted → y.charged = true →
    s.active y.op.vctl = true → ∃ t, exec (.brWriteAck g p h sl n rg ct es) s = .next t ∧
      TagAnswered g n es [] y s t) ∧
  (∀ (g p sl n rg ct es : Nat) (h : MslHdr) (d : Bytes) (s : State), (mslAccept g p h { s with out := [] }).2 = true → tget (s.gbr g).tags n = none →
    ∃ t, exec (.brReadResp g p h sl n rg ct es d) s = .next t ∧ TagUnknown g s t) ∧
  (∀ (g p sl n rg ct es : Nat) (h : MslHdr) (s : State), (mslAccept g p h { s with out := [] }).2 = true → tget (s.gbr g).tags n = none →
    ∃ t, exec (.brWriteAck g p h sl n rg ct es) s = .next t ∧ TagUnknown g s t) ∧
  (∀ (g p sl n rg ct es : Nat) (h : MslHdr) (d : Bytes) (y : Tag) (s : State), (mslAccept g p h { s with out := [] }).2 = true → tget (s.gbr g).tags n = some y →
    y.st.late = true → ∃ t, exec (.brReadResp g p h sl n rg ct es d) s = .next t ∧ TagLate g n s t) ∧
  (∀ (g p sl n rg ct es : Nat) (h : MslHdr) (y : Tag) (s : State), (mslAccept g p h { s with out := [] }).2 = true → tget (s.gbr g).tags n = some y →
    y.st.late = true → ∃ t, exec (.brWriteAck g p h sl n rg ct es) s = .next t ∧ TagLate g n s t) ∧
  (∀ (g n d f : Nat) (y : Tag) (s : State), tget (s.gbr g).tags n = some y → y.st = .issued d f → s.timerDone d f = true → y.charged = true → s.active y.op.vctl = true →
    ∃ t, exec (.tagTimeout g n) s = .next t ∧ tget (t.gbr g).tags n = some { y with st := .timedOut d (f + 1000 * d) } ∧ (t.gbr g).free = (s.gbr g).free ∧
      bit (t.reg (aGrnBrStat g)) 0 = true ∧ t.ses = (s.result y.op.key y.op.seq y.op.cmdid stBridgeTimeout).ses ∧
      t = { s with brg := t.brg, regs := t.regs, ses := t.ses, out := [] }) ∧
  (∀ (g n d f : Nat) (y : Tag) (s : State), tget (s.gbr g).tags n = some y → y.st = .timedOut d f → s.timerDone d f = true → ∃ t, exec (.tagSecondTimeout g n) s = .next t ∧
      tget (t.gbr g).tags n = none ∧ (t.gbr g).free = (s.gbr g).free ++ [n] ∧ t = { s with brg := t.brg, out := [] }) ∧
  (∀ (g n : Nat) (s : State), (∀ y d f, tget (s.gbr g).tags n = some y → y.st = .timedOut d f → s.timerDone d f = false) →
    exec (.tagSecondTimeout g n) s = .next { s with out := [] })

/-! ### Wakes and lamp samples -/

/-- R294, R295, R303 to R307, R312, R313, R484: accepted detections wait for the next evaluation, wake records wait in the inbox or answer a track
record, an epoch hands marked tracks over and sends the rest of the records, and lamp samples of the last frame are kept before beat 40
(a message whose count or frame R312 does not admit is not used: the model's choice, log 80). -/
def Obligations.WakesAndLampSamplesAreTaken : Prop :=
  (∀ (g p : Nat) (h : MslHdr) (rs : List DetRec) (s : State), (mslAccept g p h { s with out := [] }).2 = true → s.inLight = true →
    ∃ t, exec (.detection g p h rs) s = .next t ∧
      t.wak = { s.wak with recs := s.wak.recs ++ rs.map (fun r => (mkHandle g p (r.slot % 16), { r with dir := if r.dir = 3 then 0 else r.dir })) } ∧
      t = { s with wak := t.wak, strs := t.strs, out := [] }) ∧
  (∀ (g p : Nat) (h : MslHdr) (rs : List DetRec) (s : State), (mslAccept g p h { s with out := [] }).2 = false →
    ∃ t, exec (.detection g p h rs) s = .next t ∧ t = { s with regs := t.regs, out := [] }) ∧
  (∀ (e : Bool) (h : SpHdr) (rs : List WakeRec) (s : State), s.pw.main = true → s.inLight = true → (spAccept e h { s with out := [] }).2 = true →
    s.spMine h = true → (∀ r ∈ rs, r.kind ≤ 1 ∧ (tget s.wak.borders r.border).isSome = true) →
    ∃ t, exec (.wakeMessage e h rs) s = .next t ∧ t.wak = { s.wak with inbox := s.wak.inbox ++ rs } ∧
      t = { s with wak := t.wak, spn := t.spn, out := [] }) ∧
  (∀ (e : Bool) (h : SpHdr) (r : WakeRec) (s : State), s.pw.main = true → s.inLight = true → (spAccept e h { s with out := [] }).2 = true →
    s.spMine h = true → r.kind = 2 → (tget s.wak.borders r.border).isSome = true → ∃ t, exec (.wakeMessage e h [r]) s = .next t ∧
      t.wak = { s.wak with sent := s.wak.sent.filter (fun x => !(x.border == r.border && x.track == r.track)) } ∧
      t = { s with wak := t.wak, spn := t.spn, out := [] }) ∧
  (∀ (e : Bool) (h : SpHdr) (r : WakeRec) (s : State), s.pw.main = true → s.inLight = true → (spAccept e h { s with out := [] }).2 = true →
    s.spMine h = true → r.kind = 3 → (tget s.wak.borders r.border).isSome = true →
    s.wak.sent.any (fun x => x.border == r.border && x.track == r.track) = true → ∃ t, exec (.wakeMessage e h [r]) s = .next t ∧
      t.wak.sent = s.wak.sent.filter (fun x => !(x.border == r.border && x.track == r.track)) ∧
      t.wak.borderCnt = (s.wak.borderCnt.1, satAdd 16 s.wak.borderCnt.2 1) ∧ t.wak.tracks = s.wak.tracks ∧
      t = { s with wak := t.wak, spn := t.spn, ses := t.ses, out := [] }) ∧
  (∀ (e : Bool) (h : SpHdr) (rs : List WakeRec) (s : State), s.pw.main = true → (spAccept e h { s with out := [] }).2 = false →
    ∃ t, exec (.wakeMessage e h rs) s = .next t ∧
      fieldOf (t.reg aSpnDrop) 0 16 = satAdd 16 (fieldOf (s.reg aSpnDrop) 0 16) 1 ∧ t = { s with regs := t.regs, out := [] }) ∧
  (∀ (e : Bool) (h : SpHdr) (rs : List WakeRec) (s : State), s.pw.main = true → (spAccept e h { s with out := [] }).2 = true →
    s.spMine h = false → ∃ t, exec (.wakeMessage e h rs) s = .next t ∧
      (h.ttl = 0 → t.out = [] ∧ fieldOf (t.reg aSpnDrop) 16 8 = satAdd 8 (fieldOf (s.reg aSpnDrop) 16 8) 1) ∧
      t = { s with spn := t.spn, regs := t.regs, out := t.out }) ∧
  (∀ (p : Bool) (late : LateWake) (s : State), s.inLight = false → exec (.wakeHandoffEpoch p late) s = .next { s with out := [] }) ∧
  (∀ (late : LateWake) (s : State), s.inLight = true → s.frm.beat < 41 ∨ 62 < s.frm.beat → ∃ t, exec (.wakeHandoffEpoch true late) s = .next t ∧
      (∀ st < 16, bit (t.reg (aStrWakeFlags st)) 2 = true) ∧ t = { s with regs := t.regs, out := [] }) ∧
  (∀ (late : LateWake) (s : State), s.inLight = true → 41 ≤ s.frm.beat → s.frm.beat ≤ 62 → ∃ t, exec (.wakeHandoffEpoch true late) s = .next t ∧
      t.wak.tracks = s.wak.tracks ∧ t.wak.inbox = s.wak.inbox ∧ t.wak.lifts = s.wak.lifts ∧ (∀ x ∈ t.wak.later, isBorder x.into = false) ∧
      (∀ x ∈ s.wak.spills, x ∈ t.wak.spills) ∧ (s.wak.later = [] → t.wak = { s.wak with later := [] }) ∧
      t = { s with wak := t.wak, regs := t.regs, out := [] }) ∧
  (∀ (late : LateWake) (s : State), s.inLight = true → twf s.wak.tracks = true → ∃ t, exec (.wakeHandoffEpoch false late) s = .next t ∧
      (∀ x ∈ late.strata, bit (t.reg (aStrWakeFlags x)) 2 = true) ∧ t.wak.answers = [] ∧
      (∀ x ∈ t.wak.sent, s.frm.now < x.epoch + 3) ∧
      (∀ x ∈ s.wak.tracks, x.2.marked = true → isBorder x.2.node = true → x.2.st ∉ late.strata ∨ x.1 ∉ late.tracks →
        tget t.wak.tracks x.1 = none ∧ ⟨x.2.node % 16, x.1, s.frm.now⟩ ∈ t.wak.sent) ∧
      (∀ x ∈ t.wak.tracks, x.2.marked = true → x.2.st ∈ late.strata ∧ x.1 ∈ late.tracks) ∧
      (late.strata = [] ∨ late.tracks = [] → t.wak.borderCnt.1 = satAdd 16 s.wak.borderCnt.1 (s.wak.tracks.filter (fun x => x.2.marked && isBorder x.2.node)).length) ∧
      t = { s with wak := t.wak, regs := t.regs, ses := t.ses, spn := t.spn, out := t.out }) ∧
  (∀ (g p f8 : Nat) (h : MslHdr) (r : LampRec) (s : State), (mslAccept g p h { s with out := [] }).2 = true → s.frm.beat < 40 →
    f8 + 1 = s.frm.now → r.slot ≠ 0 → s.isLamp (mkHandle g p (r.slot % 16)) = true →
    ∃ t, exec (.lampSamples g p h f8 [r]) s = .next t ∧
      t.chan (mkHandle g p (r.slot % 16)) = { s.chan (mkHandle g p (r.slot % 16)) with fresh := some (f8, r) } ∧
      (∀ k, k ≠ mkHandle g p (r.slot % 16) → t.chan k = s.chan k) ∧ (r.temp = 0x8000 → t.slt = s.slt) ∧
      t = { s with lmp := t.lmp, slt := t.slt, strs := t.strs, out := [] }) ∧
  (∀ (g p f8 : Nat) (h : MslHdr) (rs : List LampRec) (s : State), (mslAccept g p h { s with out := [] }).2 = true → 1 ≤ rs.length →
    rs.length ≤ 15 → f8 + 1 < s.frm.now ∨ (f8 < s.frm.now ∧ 40 ≤ s.frm.beat) → ∃ t, exec (.lampSamples g p h f8 rs) s = .next t ∧
      bit (t.reg (aGrnLcFlags g)) 2 = true ∧ t.lmp = s.lmp ∧
      fieldOf (t.reg (aGrnLcSusp g)) 16 16 = satAdd 16 (fieldOf (s.reg (aGrnLcSusp g)) 16 16) 1 ∧
      t = { s with strs := t.strs, regs := t.regs, out := [] }) ∧
  (∀ (g p f8 : Nat) (h : MslHdr) (r : LampRec) (s : State), (mslAccept g p h { s with out := [] }).2 = true → s.frm.beat < 40 →
    f8 + 1 = s.frm.now → r.slot = 0 ∨ s.isLamp (mkHandle g p (r.slot % 16)) = false →
    ∃ t, exec (.lampSamples g p h f8 [r]) s = .next t ∧ bit (t.reg (aGrnLcFlags g)) 3 = true ∧ t.lmp = s.lmp ∧
      t = { s with strs := t.strs, regs := t.regs, out := [] }) ∧
  (∀ (g p f8 : Nat) (h : MslHdr) (rs : List LampRec) (s : State), (mslAccept g p h { s with out := [] }).2 = true →
    rs = [] ∨ 15 < rs.length ∨ s.frm.now ≤ f8 → ∃ t, exec (.lampSamples g p h f8 rs) s = .next t ∧ t = { s with strs := t.strs, out := [] })

/-! ### The Geode -/

/-- R333, R336 to R338, R363: an edge advances the sample label and drives the sync states, a sample beyond its range lowers the path, missing edges
end in FREE, and TIME names the frame. -/
def Obligations.GeodeFollowsItsEdges : Prop :=
  (∀ (d : Nat) (e : Int) (xs : List GSample) (s : State), s.geo.on = true → ∃ t, exec (.geodeBeatEdge true d e xs) s = .next t ∧
      t.geo.label = (if s.geo.label.2 + 1 < 80 then (s.geo.label.1, s.geo.label.2 + 1) else (s.geo.label.1 + 1, 0)) ∧
      (80 ≤ s.geo.label.2 + 1 → t.geo.waveDone = s.geo.wave ∧ t.geo.narrow = 0) ∧ t.geo.gone = 0 ∧
      (s.geo.sync = 0 → 124000 ≤ d → d ≤ 126000 → 80 ≤ s.geo.run.1 + 1 → t.geo.sync = 1) ∧
      (s.geo.sync = 0 → d < 124000 ∨ 126000 < d → t.geo.sync = 0 ∧ t.geo.run = (0, 0)) ∧
      (s.geo.sync = 1 → e.natAbs ≤ 100 → 80 ≤ s.geo.run.1 + 1 → t.geo.sync = 2) ∧
      (s.geo.sync = 2 → 1000 < e.natAbs → 8 ≤ s.geo.run.2 + 1 → t.geo.sync = 1) ∧
      (s.geo.sync = 2 → e.natAbs ≤ 1000 → t.geo.sync = 2 ∧ t.geo.run = (0, 0)) ∧
      t = { s with geo := t.geo, out := [] }) ∧
  (∀ (d : Nat) (e : Int) (xs : List GSample) (s : State), s.geo.on = true → ∃ t, exec (.geodeBeatEdge false d e xs) s = .next t ∧
      t.geo.label = (if s.geo.label.2 + 1 < 80 then (s.geo.label.1, s.geo.label.2 + 1) else (s.geo.label.1 + 1, 0)) ∧
      t.geo.sync = s.geo.sync ∧ t.geo.run = (0, 0) ∧ t.geo.gone = s.geo.gone + 1 ∧ t = { s with geo := t.geo, out := [] }) ∧
  (∀ (k : Bool) (d : Nat) (e : Int) (x : GSample) (s : State), s.geo.on = true → x.input < 64 → s.geo.label.2 ≠ 3 →
    ∃ t, exec (.geodeBeatEdge k d e [x]) s = .next t ∧
      (t.geo.cir x.input).clip = (if 8388608 ≤ x.a.natAbs then satAdd 16 (s.geo.cir x.input).clip 1 else (s.geo.cir x.input).clip) ∧
      (8388608 ≤ x.a.natAbs → (t.geo.cir x.input).clipSeen = true) ∧
      (1 < (s.geo.cir x.input).p → 8388608 ≤ x.b.natAbs → (t.geo.cir x.input).p = rangeFor (gsat x.a).natAbs) ∧
      ((s.geo.rec_ x.input).mphase = 0 → (t.geo.cir x.input).buf = []) ∧
      ((s.geo.rec_ x.input).mphase ≠ 0 → (s.geo.rec_ x.input).sensor = 0 → (s.geo.cir x.input).p = 1 →
        (t.geo.cir x.input).buf = (s.geo.cir x.input).buf ++ [(t.geo.now, gsat x.a)]) ∧
      (s.geo.label.2 + 1 < 80 → ∀ c, c ≠ x.input → t.geo.cir c = s.geo.cir c)) ∧
  (∀ (k : Bool) (d : Nat) (e : Int) (x : GSample) (s : State), s.geo.on = true → 64 ≤ x.input → x.input < 67 →
    ∃ t, exec (.geodeBeatEdge k d e [x]) s = .next t ∧
      t.geo.phase (x.input - 63) =
        { s.geo.phase (x.input - 63) with buf := (s.geo.phase (x.input - 63)).buf ++ [(t.geo.now, gsat x.a)] } ∧
      (∀ p, p ≠ x.input - 63 → t.geo.phase p = s.geo.phase p)) ∧
  (∀ (k : Bool) (d : Nat) (e : Int) (s : State), s.geo.on = true → s.geo.label.2 = 3 → ∃ t, exec (.geodeBeatEdge k d e []) s = .next t ∧
      t.geo.frec.map (·.frame) = some s.geo.label.1 ∧ (∀ c, t.geo.cir c = { s.geo.cir c with clipSeen := false }) ∧
      (∀ c, c < 64 → s.geo.unused c = true →
        (t.geo.frec.bind (·.cirs[c]?)).map (fun x => (x.unused, x.pwin, x.irms, x.p1, x.q1)) = some (true, 0, 0, 0, 0) ∧
        (t.geo.frec.bind (·.cirs[c]?)).map (fun x => (x.thd, x.regs)) = some (0, List.replicate 9 0)) ∧
      (∀ c, c < 64 → s.geo.unused c = false →
        (t.geo.frec.bind (·.cirs[c]?)).map (fun x => (x.unused, x.clipSeen, x.irms, x.regs)) =
          some (false, (s.geo.cir c).clipSeen, (s.geo.cir c).irms / 1000,
            ((s.geo.cir c).accB.getD (s.geo.cir c).acc).map (fun a => a / 2 ^ 48 % 2 ^ 48)) ∧
        ((s.geo.phase (s.geo.rec_ c).mphase).freq = 0 → (t.geo.frec.bind (·.cirs[c]?)).map (·.thd) = some 0xFFFF) ∧
        (t.geo.frec.bind (·.cirs[c]?)).map (·.pwin) = some (s.geo.pwin c
          (if (s.geo.phase (s.geo.rec_ c).mphase).blocks then 20000000 else tgetD s.geo.t1 (s.geo.rec_ c).mphase 20000000)
          (s.geo.label.1 * 10000000)))) ∧
  (∀ (s : State), s.geo.on = true → s.geo.sync ≠ 0 → 16 ≤ s.geo.gone → ∃ t, exec .geodeEdgesMissing s = .next t ∧ t.geo.sync = 0 ∧ t.geo.run = (0, 0) ∧
      t.geo.evs = s.geo.evs ++ [(0x0522, 0xFF, [tCode 0])] ∧ t.geo.nlogSeq = s.geo.nlogSeq + 1 ∧ t = { s with geo := t.geo, out := [] }) ∧
  (∀ (s : State), s.geo.sync = 0 ∨ s.geo.gone < 16 → exec .geodeEdgesMissing s = .next { s with out := [] }) ∧
  (∀ (f : Nat) (s : State), s.geo.on = true → s.geo.narrow < 96 → exec (.geodeTime f true) s =
      .next { s with geo := { s.geo with label := (f, 0), narrow := s.geo.narrow + 1 }, out := [] }) ∧
  (∀ (f : Nat) (ok : Bool) (s : State), s.geo.on = true → ok = false ∨ 96 ≤ s.geo.narrow → ∃ t, exec (.geodeTime f ok) s = .next t ∧
      t.geo.label = s.geo.label ∧ t.geo.nlogSeq = s.geo.nlogSeq + 1 ∧ t = { s with geo := t.geo, out := [] })

/-- R333, R334, R338, R341 to R346, R365: an accepted crossing ends a cycle, and the sums over its corrected samples go into the registers of each
circuit of the phase; a block gives no fundamental quantity, and a piece cut by a latch takes the fundamental power of the cycle before. -/
def Obligations.CyclesAreMeteredFromTheirSamples : Prop :=
  (∀ (p z0 z c : Nat) (vs is : List (Nat × Int)) (s : State), s.geo.on = true → 1 ≤ p → p ≤ 3 → z ≤ s.geo.now →
    (s.geo.phase p).last = some z0 → z0 + 15380000 ≤ z → z ≤ z0 + 22220000 → (s.geo.phase p).blocks = false → (s.geo.phase p).cut = false →
    c < 64 → (s.geo.rec_ c).mphase = p → vs = (s.geo.voltage p).filter (fun x => x.1 < z) →
    is = (s.geo.current c (s.geo.phase p).freq).filter (fun x => x.1 < z) → is ≠ [] → vs ≠ [] → (s.geo.cir c).acc.length = 9 →
    ∃ t, exec (.cycleEnd p (some z)) s = .next t ∧
      (t.geo.cir c).irms = rmsCurrent (s.geo.rec_ c) is.length (sumSq is) ∧ (t.geo.cir c).xrms = (t.geo.cir c).irms ∧
      (t.geo.cir c).buf = (s.geo.cir c).buf.filter (fun x => z ≤ x.1) ∧
      (s.geo.accumulating = true → (s.geo.rec_ c).inMa ≤ (t.geo.cir c).irms →
        (0 ≤ energyOf (s.geo.rec_ c) (sumVI vs is) → (t.geo.cir c).acc.getD 1 0 = (s.geo.cir c).acc.getD 1 0 ∧
          (t.geo.cir c).acc.getD 0 0 = ((s.geo.cir c).acc.getD 0 0 + (energyOf (s.geo.rec_ c) (sumVI vs is)).natAbs) % 2 ^ 96) ∧
        (energyOf (s.geo.rec_ c) (sumVI vs is) < 0 → (t.geo.cir c).acc.getD 0 0 = (s.geo.cir c).acc.getD 0 0 ∧
          (t.geo.cir c).acc.getD 1 0 = ((s.geo.cir c).acc.getD 1 0 + (energyOf (s.geo.rec_ c) (sumVI vs is)).natAbs) % 2 ^ 96) ∧
        (t.geo.cir c).acc.getD 8 0 =
          ((s.geo.cir c).acc.getD 8 0 + apparentOf (s.geo.rec_ c) is.length vs.length (sumSq is) (sumSq vs)) % 2 ^ 96 ∧
        (t.geo.cir c).acc.getD (if 0 ≤ (t.geo.cir c).p1 then 2 else 3) 0 = ((s.geo.cir c).acc.getD (if 0 ≤ (t.geo.cir c).p1 then 2 else 3) 0
          + energyOfPower (t.geo.cir c).p1 is.length) % 2 ^ 96 ∧
        (t.geo.cir c).acc.getD (quadrant (t.geo.cir c).p1 (t.geo.cir c).q1) 0 =
          ((s.geo.cir c).acc.getD (quadrant (t.geo.cir c).p1 (t.geo.cir c).q1) 0 + energyOfPower (t.geo.cir c).q1 is.length) % 2 ^ 96) ∧
      (s.geo.accumulating = false ∨ (t.geo.cir c).irms < (s.geo.rec_ c).inMa → (t.geo.cir c).acc = (s.geo.cir c).acc) ∧
      (∀ d, (s.geo.rec_ d).mphase ≠ p → t.geo.cir d = s.geo.cir d) ∧ (∀ r, r ≠ p → t.geo.phase r = s.geo.phase r) ∧
      (t.geo.phase p).last = some z ∧ (t.geo.phase p).vrms = rmsVoltage vs.length (sumSq vs) ∧
      (t.geo.phase p).blocks = decide (rmsVoltage vs.length (sumSq vs) < 2000) ∧
      (t.geo.phase p).start = some z ∧ tget t.geo.t1 p = some (z - (s.geo.phase p).start.getD z0) ∧
      (2000 ≤ (t.geo.phase p).vrms → (t.geo.phase p).freq = 1000000000000 / (z - (s.geo.phase p).start.getD z0)) ∧
      t = { s with geo := t.geo, out := [] }) ∧
  (∀ (p z : Nat) (s : State), s.geo.on = true → 1 ≤ p → p ≤ 3 → z ≤ s.geo.now →
    (∀ z0, (s.geo.phase p).last = some z0 → z < z0 + 15380000 ∨ z0 + 22220000 < z) ∨
      (s.geo.phase p).blocks = true ∧ (s.geo.phase p).vrms < 2000 → exec (.cycleEnd p (some z)) s =
      .next { s with geo := { s.geo with phases := tupd s.geo.phases p {} (fun x => { x with last := some z }) }, out := [] }) ∧
  (∀ (p z : Nat) (s : State), s.geo.now < z → exec (.cycleEnd p (some z)) s = .next { s with out := [] }) ∧
  (∀ (p c : Nat) (x : Nat × Int) (vs is : List (Nat × Int)) (s : State), s.geo.on = true → 1 ≤ p → p ≤ 3 → (s.geo.phase p).blocks = true →
    (s.geo.phase p).buf[159]? = some x → c < 64 → (s.geo.rec_ c).mphase = p → vs = (s.geo.voltage p).filter (fun y => y.1 < x.1 + 1) →
    is = (s.geo.current c (s.geo.phase p).freq).filter (fun y => y.1 < x.1 + 1) → is ≠ [] → s.geo.accumulating = true →
    (s.geo.cir c).acc.length = 9 → ∃ t, exec (.cycleEnd p none) s = .next t ∧
      (t.geo.cir c).acc.getD 8 0 =
        ((s.geo.cir c).acc.getD 8 0 + apparentOf (s.geo.rec_ c) is.length vs.length (sumSq is) (sumSq vs)) % 2 ^ 96 ∧
      (∀ k, 2 ≤ k → k < 8 → (t.geo.cir c).acc.getD k 0 = (s.geo.cir c).acc.getD k 0) ∧ (t.geo.cir c).thd = 0xFFFF ∧
      (t.geo.cir c).irms = (s.geo.cir c).irms ∧ (t.geo.phase p).blocks = true ∧
      (t.geo.phase p).buf = (s.geo.phase p).buf.filter (fun y => x.1 + 1 ≤ y.1) ∧ t = { s with geo := t.geo, out := [] }) ∧
  (∀ (p : Nat) (s : State), (s.geo.phase p).buf.length < 160 → exec (.cycleEnd p none) s = .next { s with out := [] }) ∧
  (∀ (p c : Nat) (r : PendRead) (is : List (Nat × Int)) (s : State), s.geo.on = true → s.geo.pend = [r] → r.latch = none → r.kind ≠ 3 →
    r.e ≤ s.geo.now + 125000 → s.geo.profileEdge r.e = false → 1 ≤ p → p ≤ 3 → (s.geo.phase p).blocks = false → c < 64 →
    (s.geo.rec_ c).mphase = p → is = (s.geo.current c (s.geo.phase p).freq).filter (fun y => y.1 < r.e) → is ≠ [] → s.geo.accumulating = true →
    (s.geo.rec_ c).inMa ≤ rmsCurrent (s.geo.rec_ c) is.length (sumSq is) → (s.geo.cir c).acc.length = 9 →
    ∃ t, exec .snapshotLatch s = .next t ∧
      (t.geo.cir c).acc.getD (quadrant (s.geo.cir c).p1 (s.geo.cir c).q1) 0 =
        ((s.geo.cir c).acc.getD (quadrant (s.geo.cir c).p1 (s.geo.cir c).q1) 0 + energyOfPower (s.geo.cir c).q1 is.length) % 2 ^ 96 ∧
      (t.geo.cir c).p1 = (s.geo.cir c).p1 ∧ (t.geo.cir c).q1 = (s.geo.cir c).q1 ∧ (t.geo.cir c).irms = (s.geo.cir c).irms ∧
      (t.geo.cir c).buf = (s.geo.cir c).buf.filter (fun y => r.e ≤ y.1) ∧ t = { s with geo := t.geo, out := [] })

/-- R343, R349 to R351, R363, R365: a phase without crossings forms blocks, INRUSH masks open and close, and pulses are
counted. -/
def Obligations.MasksAndPulses : Prop :=
  (∀ (p : Nat) (s : State), s.geo.on = true → 1 ≤ p → p ≤ 3 →
      (s.geo.phase p).vrms < 2000 ∨ (∀ z, (s.geo.phase p).start = some z → z + 25000000 ≤ s.geo.now) → ∃ t, exec (.geodeNoCrossing p) s = .next t ∧
      t.geo.phase p = { s.geo.phase p with blocks := true, freq := 0 } ∧ (∀ r, r ≠ p → t.geo.phase r = s.geo.phase r) ∧
      t.geo.evs = s.geo.evs ++ (if (s.geo.phase p).blocks then [] else [(0x0526, 0xFF, [tCode p, tCode 0])]) ∧
      t = { s with geo := t.geo, out := [] }) ∧
  (∀ (p z : Nat) (s : State), 2000 ≤ (s.geo.phase p).vrms → (s.geo.phase p).start = some z → s.geo.now < z + 25000000 →
    exec (.geodeNoCrossing p) s = .next { s with out := [] }) ∧
  (∀ (c a : Nat) (s : State), s.geo.on = true → s.geo.narrow < 96 → c < 64 → s.geo.unused c = false → (s.geo.cir c).deaf ≤ s.geo.frame →
    s.geo.frame < a + 5 → (s.geo.cir c).mask = none → ∃ t, exec (.inrushHint c a true) s = .next t ∧
      (t.geo.cir c).mask = some ⟨max a s.geo.frame, a + 5⟩ ∧ (∀ d, d ≠ c → t.geo.cir d = s.geo.cir d) ∧
      t = { s with geo := t.geo, out := [] }) ∧
  (∀ (c a : Nat) (m : Mask) (s : State), s.geo.on = true → s.geo.narrow < 96 → c < 64 → s.geo.unused c = false →
    (s.geo.cir c).deaf ≤ s.geo.frame → s.geo.frame < a + 5 → (s.geo.cir c).mask = some m → s.geo.frame < m.until_ →
    ∃ t, exec (.inrushHint c a true) s = .next t ∧
      (t.geo.cir c).mask = some { m with until_ := min (max m.until_ (a + 5)) (m.from_ + 20) } ∧ t = { s with geo := t.geo, out := [] }) ∧
  (∀ (c a : Nat) (s : State), s.geo.on = true → s.geo.narrow < 96 → c < 64 → s.geo.unused c = false → s.geo.frame < (s.geo.cir c).deaf →
    (∀ m, (s.geo.cir c).mask = some m → s.geo.frame < m.until_) → ∃ t, exec (.inrushHint c a true) s = .next t ∧ t.geo.hintIgn = satAdd 16 s.geo.hintIgn 1 ∧ t.geo.cirs = s.geo.cirs ∧
      t.geo.nlogSeq = s.geo.nlogSeq + 1 ∧ t = { s with geo := t.geo, out := [] }) ∧
  (∀ (c : Nat) (m : Mask) (s : State), s.geo.on = true → (s.geo.cir c).mask = some m → m.until_ ≤ s.geo.frame →
    ∃ t, exec (.inrushMaskClose c) s = .next t ∧ (t.geo.cir c).mask = none ∧
      (t.geo.cir c).shut = some m ∧ (t.geo.cir c).deaf = (if m.from_ + 20 ≤ m.until_ then m.until_ + 10 else (s.geo.cir c).deaf) ∧
      t.geo.evs = s.geo.evs ++ (if (s.geo.cir c).oc then [(0x0520, c, [tCode c, tCode 1, tValue ((s.geo.cir c).half / 1000)])] else []) ∧
      t = { s with geo := t.geo, out := [] }) ∧
  (∀ (q t0 : Nat) (s : State), s.geo.on = true → q < 16 → t0 + 1875000 ≤ s.geo.now → (s.geo.pulse q).rise = none → ∃ t, exec (.pulseInputChange q true t0) s = .next t ∧
      t.geo.pulse q = { s.geo.pulse q with rise := some t0 } ∧ (∀ r, r ≠ q → t.geo.pulse r = s.geo.pulse r) ∧
      t = { s with geo := t.geo, out := [] }) ∧
  (∀ (q r t0 : Nat) (s : State), s.geo.on = true → q < 16 → t0 + 1875000 ≤ s.geo.now → (s.geo.pulse q).rise = some r →
    r + 10000000 ≤ t0 →
    ∃ t, exec (.pulseInputChange q false t0) s = .next t ∧
      t.geo.pulse q = { s.geo.pulse q with count := ((s.geo.pulse q).count + 1) % 2 ^ 48, last := r, rise := none, stuck := false } ∧
      t.geo.logSeq = s.geo.logSeq + (if (s.geo.pulse q).count + 1 = 2 ^ 48 then 1 else 0) ∧ t = { s with geo := t.geo, out := [] }) ∧
  (∀ (q r t0 : Nat) (s : State), s.geo.on = true → q < 16 → t0 + 1875000 ≤ s.geo.now → (s.geo.pulse q).rise = some r →
    (s.geo.pulse q).stuck = false → t0 < r + 10000000 →
    ∃ t, exec (.pulseInputChange q false t0) s = .next t ∧ (t.geo.pulse q).rise = none ∧ (t.geo.pulse q).count = (s.geo.pulse q).count ∧
      t.geo.glitch = satAdd 16 s.geo.glitch 1 ∧ t = { s with geo := t.geo, out := [] }) ∧
  (∀ (q r : Nat) (s : State), s.geo.on = true → (s.geo.pulse q).rise = some r → (s.geo.pulse q).stuck = false → r + 10000000000 ≤ s.geo.now →
    ∃ t, exec (.pulseStuck q) s = .next t ∧ t.geo.pulse q = { s.geo.pulse q with stuck := true } ∧
      t.geo.evs = s.geo.evs ++ [(0x0524, 0xFF, [tCode q, tCode 1])] ∧ t = { s with geo := t.geo, out := [] })

/-- R352 to R356, R362 to R369, R382, R386: a snapshot waits for its latch edge, a latch takes the next sequence number, a reading is signed, kept
and sent, and a link packet carries the Geode's state to the main side. -/
def Obligations.ReadingsAreLatchedSignedAndSent : Prop :=
  (∀ (t0 src : Nat) (s : State), s.geo.on = true → s.geo.narrow < 96 → s.geo.pend = [] → s.geo.now ≤ latchEdge t0 →
    exec (.geodeSnapshotMsg t0 src true) s = .next { s with
      geo := { s.geo with narrow := s.geo.narrow + 1, pend := [{ kind := if src = 1 then 1 else 0, t := t0, e := latchEdge t0 }] }, out := [] }) ∧
  (∀ (t0 src : Nat) (s : State), s.geo.on = true → s.geo.narrow < 96 → s.geo.pend ≠ [] ∨ latchEdge t0 < s.geo.now →
    ∃ t, exec (.geodeSnapshotMsg t0 src true) s = .next t ∧ t.geo.pend = s.geo.pend ∧ t.geo.missed = satAdd 16 s.geo.missed 1 ∧
      t.geo.evs = s.geo.evs ++ [(0x0521, 0xFF, [tValue t0, tCode src, tCode (if s.geo.pend = [] then 1 else 0)])] ∧
      t.geo.nlogSeq = s.geo.nlogSeq + 1 ∧ t = { s with geo := t.geo, out := [] }) ∧
  (∀ (r : PendRead) (s : State), s.geo.on = true → s.geo.pend = [r] → r.latch = none → r.kind ≠ 3 → r.e ≤ s.geo.now + 125000 →
    s.geo.profileEdge r.e = false → ∃ t, exec .snapshotLatch s = .next t ∧
      t.geo.pend = [{ r with latch := some ((cutCycles r.e s.geo).latchNow (s.geo.rseq + 1)) }] ∧ t.geo.rseq = s.geo.rseq + 1 ∧
      (∀ p, 1 ≤ p → p ≤ 3 → (t.geo.phase p).cut = true ∧ (t.geo.phase p).buf = (s.geo.phase p).buf.filter (fun x => r.e ≤ x.1) ∧
        (t.geo.phase p).freq = (s.geo.phase p).freq) ∧
      (∀ c, s.geo.unused c = true → t.geo.cir c = s.geo.cir c) ∧ t = { s with geo := t.geo, out := [] }) ∧
  (∀ (r : PendRead) (a : GeoAct) (p : LegalParams) (s : State), s.geo.on = true → s.geo.pend = [r] → r.latch = none → r.kind = 3 →
    r.e ≤ s.geo.now + 125000 → s.geo.act = some a → a.fw = none → s.geo.staged = some p → ∃ t, exec .snapshotLatch s = .next t ∧
      t.geo.paused = true ∧ t.geo.pset = (s.geo.pset + 1) % 2 ^ 32 ∧ t.geo.params = p ∧ t.geo.staged = none ∧
      t.geo.act = some { a with e0 := some r.e } ∧ (t.geo.log.getLast?).map (·.code) = some 0x0010 ∧ t.geo.rseq = s.geo.rseq + 1 ∧
      t = { s with geo := t.geo, out := [] }) ∧
  (∀ (r : PendRead) (rest : List PendRead) (l : Latch) (s : State), s.geo.on = true → s.geo.pend = r :: rest → r.latch = some l →
    s.geo.act = none → exec .readingSigned s = .next { s with
      geo := { s.geo with pend := rest, readings := keepReadings (s.geo.readings ++ [signReading r l]), outR := s.geo.outR ++ [signReading r l],
                          snapValid := s.geo.snapValid || decide (r.kind ≤ 1) }, out := [] }) ∧
  (∀ (e : Nat) (s : State), s.geo.on = true → s.geo.profileEdge e = true → s.geo.pend = [] → ∃ t, exec (.profileClose e) s = .next t ∧
      t.geo.pend = [{ kind := 2, t := e, e := e, latch := some ((cutCycles e s.geo).latchNow (s.geo.rseq + 1)) }] ∧
      t.geo.rseq = s.geo.rseq + 1 ∧ t = { s with geo := t.geo, out := [] }) ∧
  (∀ (e : Nat) (s : State), s.geo.profileEdge e = false → exec (.profileClose e) s = .next { s with out := [] }) ∧
  (∀ (i o x : Nat) (s : State), s.geo.on = true → s.geo.narrow < 96 → s.geo.reqs.length < 8 → exec (.readReq i o x true) s =
      .next { s with geo := { s.geo with narrow := s.geo.narrow + 1, reqs := s.geo.reqs ++ [(i, o, x)] }, out := [] }) ∧
  (∀ (i o x : Nat) (s : State), s.geo.on = true → 8 ≤ s.geo.reqs.length → ∃ t, exec (.readReq i o x true) s = .next t ∧
      t.geo.reqs = s.geo.reqs ∧ t.geo.nlogSeq = s.geo.nlogSeq + 1 ∧ t = { s with geo := t.geo, out := [] }) ∧
  (∀ (s : State), s.geo.on = true → 6 < s.geo.label.2 → s.geo.sent ≠ some s.geo.frame → s.pw.main = true → exec .geodeLinkPacket s =
      .next { s with geo := { s.geo with wire := some s.geo.packet, sent := some s.geo.frame, evs := [], outR := [], reqs := [] }, out := [] }) ∧
  (∀ (r : FrameRec) (s : State), s.geo.frec = some r → r.frame = s.geo.frame → s.geo.packet.frame = s.geo.label.1 ∧
    s.geo.packet.cirs = r.cirs ∧ s.geo.packet.evs = s.geo.evs ∧ s.geo.packet.readings = s.geo.outR ∧
    s.geo.packet.answers = s.geo.reqs.map (fun q => s.geo.answer q.1 q.2.1 q.2.2)) ∧
  (∀ (s : State), s.geo.on = true → 6 < s.geo.label.2 → s.geo.sent ≠ some s.geo.frame → s.pw.main = false → exec .geodeLinkPacket s =
      .next { s with geo := { s.geo with wire := none, sent := some s.geo.frame, evs := [], outR := [], reqs := [] }, out := [] }) ∧
  (∀ (s : State), s.geo.label.2 ≤ 6 ∨ s.geo.sent = some s.geo.frame → exec .geodeLinkPacket s = .next { s with out := [] }) ∧
  (∀ (p : LinkPkt) (s : State), s.pw.main = true → s.geo.wire = some p → ∃ t, exec .linkPacketReceived s = .next t ∧
      t.geo.wire = none ∧ t.geo.mir.pkt = some p ∧ t.geo.mir.at_ = s.frm.now ∧ t.geo.mir.silent = false ∧ t.att = attribPacket p s.att ∧
      (∀ a ∈ p.answers, ∀ x ∈ t.geo.mir.reqs, x.id ≠ a.id) ∧
      t = { s with geo := { s.geo with wire := none, mir := t.geo.mir }, ses := t.ses, qry := t.qry, att := t.att, out := [] }) ∧
  (∀ (s : State), s.pw.main = true → s.geo.mir.silent = false → s.geo.mir.at_ + 10 ≤ s.frm.now → ∃ t, exec .geodeLinkSilent s = .next t ∧
      t.geo.mir.silent = true ∧ t.ses = (meterEvent 0x052B 0xFF [tCode 0] s).ses ∧
      t = { s with geo := { s.geo with mir := { s.geo.mir with silent := true } }, ses := t.ses, out := [] }) ∧
  (∀ (i : Nat) (r : MainReq) (s : State), s.geo.mir.reqs.find? (fun r => r.id == i) = some r → r.since + 10 ≤ s.frm.now →
    ∃ t, exec (.readReqFailed i) s = .next t ∧ t.geo.mir.reqs = s.geo.mir.reqs.filter (fun x => x.id != i) ∧
      t.ses = (s.result r.cmd.1 r.cmd.2.1 r.cmd.2.2 stGeodeUnreachable []).ses ∧
      t = { s with geo := { s.geo with mir := t.geo.mir }, ses := t.ses, out := [] })

/-- R370 to R380: saves alternate between their slots, a power failure stops the Geode and a start resumes from the latest save, temperature and
changes by the metrology authority pause the accumulation. -/
def Obligations.SavesPauseAndResume : Prop :=
  (∀ (s : State), s.geo.on = true → s.geo.savedAt + 1000000000 ≤ s.geo.now → exec .geodeSave s = .next { s with
      geo := { s.geo with savedAt := s.geo.now, saves := if saveSeq s.geo.saves.1 ≤ saveSeq s.geo.saves.2
        then (some (s.geo.save (max (saveSeq s.geo.saves.1) (saveSeq s.geo.saves.2) + 1) false), s.geo.saves.2)
        else (s.geo.saves.1, some (s.geo.save (max (saveSeq s.geo.saves.1) (saveSeq s.geo.saves.2) + 1) false)) }, out := [] }) ∧
  (∀ (s : State), s.geo.now < s.geo.savedAt + 1000000000 → exec .geodeSave s = .next { s with out := [] }) ∧
  (∀ (ok : Bool) (s : State), s.geo.on = true → s.geo.failing = none → ∃ t, exec (.geodePowerFail ok) s = .next t ∧
      t.geo.failing = some s.geo.now ∧
      (ok = true → (t.geo.lastSave).map (fun v => (v.seq, v.pf)) = some (max (saveSeq s.geo.saves.1) (saveSeq s.geo.saves.2) + 1, true)) ∧
      t.geo = { s.geo with failing := t.geo.failing, saves := t.geo.saves } ∧ t = { s with geo := t.geo, out := [] }) ∧
  (∀ (ms : Nat) (s : State), s.geo.on = true → s.geo.failing.isSome = true → ∃ t, exec (.geodeLineReturn ms) s = .next t ∧
      t.geo.failing = none ∧ t.geo.logSeq = s.geo.logSeq + 1 ∧ (t.geo.log.getLast?).map (·.code) = some 0x0002 ∧ t.geo.cirs = s.geo.cirs ∧
      t = { s with geo := t.geo, out := [] }) ∧
  (∀ (s : State), s.geo.on = true → s.geo.failing.isSome = true → ∃ t, exec .geodeHoldupEnd s = .next t ∧
      t.geo.on = false ∧ t.geo.failing = none ∧ t.geo.saves = s.geo.saves ∧ t.geo.readings = s.geo.readings ∧ t.geo.log = s.geo.log ∧
      t.geo.params = s.geo.params ∧ t.geo.rseq = s.geo.rseq ∧ t.geo.pend = [] ∧ t.geo.saps = [] ∧ t.geo.staged = none ∧
      t.geo.mir = s.geo.mir ∧ t = { s with geo := t.geo, out := [] }) ∧
  (∀ (v : Save) (s : State), s.geo.on = false → s.geo.lastSave = some v → v.pf = true → s.geo.act = none → v.pend = [] →
    ∃ t, exec .geodeStart s = .next t ∧ t.geo.on = true ∧ t.geo.logSeq = s.geo.logSeq + 1 ∧
      (t.geo.log.getLast?).map (·.code) = some 0x0001 ∧ (∀ c, tget t.geo.cirs c = (tget v.acc c).map (fun a => { acc := a })) ∧
      (∀ q, tget t.geo.pulses q = (tget v.counts q).map (fun n => { count := n })) ∧ t.geo.paused = false ∧ t.geo.readings = s.geo.readings ∧
      t = { s with geo := t.geo, out := [] }) ∧
  (∀ (v : Save) (s : State), s.geo.on = false → s.geo.lastSave = some v → v.pf = false → s.geo.act = none → ∃ t, exec .geodeStart s = .next t ∧
      t.geo.logSeq = s.geo.logSeq + 2 ∧ (s.geo.log.length + 2 ≤ 8192 → t.geo.log.map (·.code) = s.geo.log.map (·.code) ++ [0x0003, 0x0001]) ∧
      t.geo.on = true ∧ t = { s with geo := t.geo, out := [] }) ∧
  (∀ (s : State), s.geo.on = true → exec .geodeStart s = .next { s with out := [] }) ∧
  (∀ (x : Int) (s : State), s.geo.on = true → 1680 ≤ x → 1 ≤ s.geo.hot → s.geo.suspended = none → ∃ t, exec (.geodeTempRead x) s = .next t ∧
      t.geo.suspended = some s.geo.now ∧ t.geo.accumulating = false ∧ t.geo.temp = x ∧ (t.geo.log.getLast?).map (·.code) = some 0x0020 ∧
      t.geo.saves ≠ s.geo.saves ∧ t = { s with geo := t.geo, out := [] }) ∧
  (∀ (x : Int) (s : State), s.geo.on = true → x < 1680 → exec (.geodeTempRead x) s = .next { s with
      geo := { s.geo with temp := x, hot := 0, cool := if x < 1600 then some (s.geo.cool.getD s.geo.now) else none }, out := [] }) ∧
  (∀ (a c : Nat) (s : State), s.geo.on = true → s.geo.suspended = some a → s.geo.cool = some c → c + 60000000000 ≤ s.geo.now →
    ∃ t, exec .geodeTempResume s = .next t ∧ t.geo.suspended = none ∧ (t.geo.log.getLast?).map (·.code) = some 0x0021 ∧
      (∀ p, 1 ≤ p → p ≤ 3 → (t.geo.phase p).cut = true ∧ (t.geo.phase p).buf = (s.geo.phase p).buf.filter (fun x => s.geo.now ≤ x.1)) ∧
      (∀ c, (t.geo.cir c).acc = (s.geo.cir c).acc) ∧ t = { s with geo := t.geo, out := [] }) ∧
  (∀ (s : State), s.geo.on = true → ∃ t, exec .coverOpened s = .next t ∧ t.geo.logSeq = s.geo.logSeq + 1 ∧
      (t.geo.log.getLast?).map (·.code) = some 0x0050 ∧ t.geo.log.length ≤ s.geo.log.length + 1 ∧
      t = { s with geo := { s.geo with log := t.geo.log, logSeq := t.geo.logSeq, evs := t.geo.evs }, out := [] }) ∧
  (∀ (a : GeoAct) (e0 e1 : Nat) (s : State), s.geo.on = true → s.geo.act = some a → a.e0 = some e0 → e0 ≤ e1 → e1 % 125000 = 0 →
    e1 ≤ e0 + (if a.firmware = false then 2000000000 else if a.fw = none then 30000000000 else 25000000000) →
    ∃ t, exec (.meteringResume e1) s = .next t ∧
      t.geo.paused = false ∧ t.geo.act = none ∧ t.geo.rseq = s.geo.rseq + 1 ∧ (t.geo.log.getLast?).map (·.code) = some 0x0013 ∧
      t.geo.pend = s.geo.pend ++ [{ kind := 4, t := e1, e := e1, latch := some ((cutCycles e1 s.geo).latchNow (s.geo.rseq + 1)) }] ∧
      t = { s with geo := t.geo, out := [] }) ∧
  (∀ (a : GeoAct) (e0 : Nat) (v : Nat × Nat) (s : State), s.geo.on = true → s.geo.act = some a → a.e0 = some e0 → a.fw = some v →
    e0 + 25000000000 ≤ s.geo.now → ∃ t, exec .firmwareRevert s = .next t ∧ t.geo.fw = s.geo.prevFw.1 ∧ t.geo.svn = s.geo.prevFw.2 ∧
      t.geo.act = some { a with fw := none } ∧ (t.geo.log.getLast?).map (fun r => (r.code, r.data)) = some (0x0012, pad12 (beBytes 4 v.1)) ∧
      t = { s with geo := t.geo, out := [] })

/-- R372 to R376: flooding, the sign-on, the HDLC link and its associations, reads, staged writes and activation on the optical port. -/
def Obligations.OpticalPortServesItsClients : Prop :=
  (∀ (s : State), s.geo.on = true → s.geo.flood = false → ∃ t, exec .opticalFlood s = .next t ∧ t.geo.flood = true ∧
      t.geo.floods = satAdd 16 s.geo.floods 1 ∧ t.geo.nlogSeq = s.geo.nlogSeq + 1 ∧ t = { s with geo := t.geo, out := [] }) ∧
  (∀ (s : State), s.geo.on = true → s.geo.flood = true → exec .opticalFloodEnd s = .next { s with geo := { s.geo with flood := false }, out := [] }) ∧
  (∀ (s : State), s.geo.on = true → s.geo.flood = false → exec .opticalSignOn s =
      .next { s with geo := { s.geo with ox1 := max s.geo.ox1 1 }, out := [.msg .ox1Ident 0 [s.geo.params.baud] []] }) ∧
  (∀ (m : HdlcMsg) (s : State), s.geo.flood = true ∨ s.geo.ox1 = 0 → exec (.hdlcFrame m) s = .next { s with out := [] }) ∧
  (∀ (s : State), s.geo.on = true → s.geo.flood = false → s.geo.ox1 = 1 ∨ s.geo.ox1 = 2 → exec (.hdlcFrame .connect) s =
      .next { s with geo := { s.geo with ox1At := s.geo.now, ox1 := 2 }, out := [.msg .ox1Reply 0 [0] []] }) ∧
  (∀ (s : State), s.geo.on = true → s.geo.flood = false → s.geo.ox1 = 2 → exec (.hdlcFrame (.associate 16 true)) s =
      .next { s with geo := { s.geo with ox1At := s.geo.now, saps := insNat 16 s.geo.saps }, out := [.msg .ox1Reply 16 [0] []] }) ∧
  (∀ (p : Nat) (s : State), s.geo.on = true → s.geo.flood = false → s.geo.ox1 = 2 → p = 1 ∨ p = 32 → (tget s.geo.locked p).isSome = false →
    exec (.hdlcFrame (.associate p true)) s = .next { s with
      geo := { s.geo with ox1At := s.geo.now, saps := insNat p s.geo.saps, fails := tset s.geo.fails p 0 }, out := [.msg .ox1Reply p [0] []] }) ∧
  (∀ (p : Nat) (s : State), s.geo.on = true → s.geo.flood = false → s.geo.ox1 = 2 → p = 1 ∨ p = 32 → (tget s.geo.locked p).isSome = false →
    tgetD s.geo.fails p 0 = 4 → ∃ t, exec (.hdlcFrame (.associate p false)) s = .next t ∧ t.out = [.msg .ox1Reply p [3] []] ∧
      tget t.geo.locked p = some (s.geo.now + 600000000000) ∧ tgetD t.geo.fails p 0 = 0 ∧ t.geo.saps = s.geo.saps ∧
      t.geo.authFail = satAdd 16 s.geo.authFail 1 ∧ t.geo.logSeq = s.geo.logSeq + 2 ∧ t = { s with geo := t.geo, out := t.out }) ∧
  (∀ (p tl : Nat) (s : State), s.geo.on = true → s.geo.flood = false → s.geo.ox1 = 2 → p = 1 ∨ p = 32 → tget s.geo.locked p = some tl →
    exec (.hdlcFrame (.associate p true)) s = .next { s with geo := { s.geo with ox1At := s.geo.now }, out := [.msg .ox1Reply p [3] []] }) ∧
  (∀ (p : Nat) (o : Cosem) (b : Bytes) (s : State), s.geo.on = true → s.geo.flood = false → s.geo.ox1 = 2 → s.geo.assoc p = true →
    cosemThere o = true → canRead p o = true → s.geo.cosem o = some b →
    exec (.hdlcFrame (.get p o)) s = .next { s with geo := { s.geo with ox1At := s.geo.now }, out := [.msg .ox1Reply p [0] b] }) ∧
  (∀ (o : Cosem) (b : Bytes) (p : LegalParams) (s : State), s.geo.on = true → s.geo.flood = false → s.geo.ox1 = 2 → s.geo.assoc 1 = true →
    cosemThere o = true → stageWrite o b (s.geo.staged.getD s.geo.params) = some p → exec (.hdlcFrame (.set 1 o b)) s =
      .next { s with geo := { s.geo with ox1At := s.geo.now, staged := some p }, out := [.msg .ox1Reply 1 [0] []] }) ∧
  (∀ (p : Nat) (o : Cosem) (b : Bytes) (s : State), s.geo.on = true → s.geo.flood = false → s.geo.ox1 = 2 → s.geo.assoc p = true →
    cosemThere o = true → p ≠ 1 → exec (.hdlcFrame (.set p o b)) s =
      .next { s with geo := { s.geo with ox1At := s.geo.now }, out := [.msg .ox1Reply p [1] []] }) ∧
  (∀ (v n : Nat) (good : Bool) (s : State), s.geo.on = true → s.geo.flood = false → s.geo.ox1 = 2 → s.geo.assoc 1 = true →
    exec (.hdlcFrame (.image 1 v n good)) s = .next (if good && decide (s.geo.svn ≤ n) then
      { s with geo := { s.geo with ox1At := s.geo.now, image := some (v, n) }, out := [.msg .ox1Reply 1 [0] []] }
      else { s with geo := { s.geo with ox1At := s.geo.now }, out := [.msg .ox1Reply 1 [3] []] })) ∧
  (∀ (p : LegalParams) (s : State), s.geo.on = true → s.geo.flood = false → s.geo.ox1 = 2 → s.geo.assoc 1 = true → s.geo.act = none →
    s.geo.staged = some p → s.geo.pend = [] → exec (.hdlcFrame (.activate 1 1)) s = .next { s with
      geo := { s.geo with ox1At := s.geo.now, act := some ⟨none, none, false⟩, pend := [{ kind := 3, t := s.geo.nextBoundary, e := s.geo.nextBoundary }] },
      out := [.msg .ox1Reply 1 [0] []] }) ∧
  (∀ (s : State), s.geo.on = true → s.geo.ox1 = 2 → s.geo.ox1At + s.geo.params.timeout * 1000000000 ≤ s.geo.now → s.geo.act = none →
    ∃ t, exec .hdlcInactivity s = .next t ∧ t.geo.ox1 = 0 ∧
      (∀ p ∈ [1, 16, 32], t.geo.assoc p = false) ∧ t.geo.staged = none ∧ t.geo.image = none ∧ t.geo.params = s.geo.params ∧
      t = { s with geo := t.geo, out := [] }) ∧
  (∀ (s : State), s.geo.now < s.geo.ox1At + s.geo.params.timeout * 1000000000 → exec .hdlcInactivity s = .next { s with out := [] }) ∧
  (∀ (p tl : Nat) (s : State), s.geo.on = true → tget s.geo.locked p = some tl → tl ≤ s.geo.now → ∃ t, exec (.sapLockEnd p) s = .next t ∧
      tget t.geo.locked p = none ∧ (∀ r, r ≠ p → tget t.geo.locked r = tget s.geo.locked r) ∧ t = { s with geo := t.geo, out := [] }) ∧
  (∀ (p tl : Nat) (s : State), tget s.geo.locked p = some tl → s.geo.now < tl → exec (.sapLockEnd p) s = .next { s with out := [] })

/-! ### Metering and attribution -/

/-- R357, R381 to R385, R391 to R394, R404 to R406: metering and attribution commands read the copies the main side holds or ask the Geode, streams,
dither and snapshots are set, and an ended period is closed. -/
def Obligations.MeteringAndAttributionCommands : Prop :=
  (∀ (src : Src) (tlvs : List Tlv) (s s1 : State) (c : Cmd) (p : LinkPkt), accepted opMeterRead src tlvs s = some (s1, c) → c.nat 0x000D = 0 →
    s.geo.mir.pkt = some p → ∃ t, exec (.meterRead src tlvs) s = .next t ∧ AfterReply s1 t ∧ (replyGoes s1 src.key = true →
      Replied src (c.ok [tFrame p.frame, (0x01D3, c.circuits.flatMap (fun k => copyRec k p))]) t)) ∧
  (∀ (src : Src) (tlvs : List Tlv) (s s1 : State) (c : Cmd) (r : Reading), accepted opMeterRead src tlvs s = some (s1, c) → c.nat 0x000D = 1 →
    s.geo.mir.readings.find? (fun r => r.seq == c.nat 0x01D1) = some r → ∃ t, exec (.meterRead src tlvs) s = .next t ∧ AfterReply s1 t ∧
      (replyGoes s1 src.key = true → Replied src (c.ok [tData ((r.bytes.drop (c.nat 0x01D2)).take 1152)]) t)) ∧
  (∀ (src : Src) (tlvs : List Tlv) (s s1 : State) (c : Cmd), accepted opMeterRead src tlvs s = some (s1, c) → c.nat 0x000D = 1 →
    s.geo.mir.readings.find? (fun r => r.seq == c.nat 0x01D1) = none → ∃ t, exec (.meterRead src tlvs) s = .next t ∧
      t.geo = { s.geo with mir := { s.geo.mir with nextId := s.geo.mir.nextId + 1, reqs := s.geo.mir.reqs ++
        [⟨s.geo.mir.nextId % 2 ^ 16, 0, c.nat 0x01D1, (evKey c.key, c.seq, c.cmdid), c.nat 0x01D2, s.frm.now⟩] } } ∧
      .msg .narrow 4 [] (beBytes 2 (s.geo.mir.nextId % 2 ^ 16) ++ [0, 0] ++ beBytes 8 (c.nat 0x01D1)) ∈ t.out ∧ AfterReply { s1 with geo := t.geo } t ∧
      (replyGoes s1 src.key = true → Replied src c.pend t)) ∧
  (∀ (src : Src) (tlvs : List Tlv) (s s1 : State) (c : Cmd) (r : Reading), accepted opMeterRead src tlvs s = some (s1, c) → c.nat 0x000D = 2 →
    (s.geo.mir.readings.filter (fun r => some r.kind == c.code? 1)).getLast? = some r → ∃ t, exec (.meterRead src tlvs) s = .next t ∧
      AfterReply s1 t ∧ (replyGoes s1 src.key = true → Replied src (c.ok [tData (r.bytes.take 64)]) t)) ∧
  (∀ (src : Src) (tlvs : List Tlv) (s s1 : State) (c : Cmd) (b : Bytes), accepted opMeterRead src tlvs s = some (s1, c) → 3 ≤ c.nat 0x000D →
    heldFrom (if c.nat 0x000D = 3 then s.geo.mir.log else s.geo.mir.nlog) (c.nat 0x01D4) (c.nat 0x000F) = b → b ≠ [] →
    ∃ t, exec (.meterRead src tlvs) s = .next t ∧ AfterReply s1 t ∧ (replyGoes s1 src.key = true → Replied src (c.ok [tData b]) t)) ∧
  (∀ (src : Src) (tlvs : List Tlv) (s s1 : State) (c : Cmd) (p : Closed), accepted opMeterPeriod src tlvs s = some (s1, c) → s.closedAt c = some p →
    ∃ t, exec (.meterPeriod src tlvs) s = .next t ∧ AfterReply s1 t ∧ (replyGoes s1 src.key = true →
      Replied src (c.ok [tFrame p.first, (0x01D7, c.circuits.flatMap (fun k => periodRec k p.flags true ((p.cirs[k]?.map (·.diffs)).getD [])))]) t)) ∧
  (∀ (src : Src) (tlvs : List Tlv) (s s1 : State) (c : Cmd) (p : Closed), accepted opAttribRead src tlvs s = some (s1, c) → c.nat 0x000D = 0 →
    s.closedAt c = some p → ∃ t, exec (.attribRead src tlvs) s = .next t ∧ AfterReply s1 t ∧ (replyGoes s1 src.key = true →
      Replied src (c.ok [tFrame p.first, (0x01E1, c.circuits.flatMap (fun k => match p.cirs[k]? with
        | some x => totalRec k p.first p.flags false x
        | none => []))] rfNotBilling) t)) ∧
  (∀ (src : Src) (tlvs : List Tlv) (s s1 : State) (c : Cmd) (p : Period), accepted opAttribRead src tlvs s = some (s1, c) → c.nat 0x000D = 2 →
    s.att.cur = some p → ∃ t, exec (.attribRead src tlvs) s = .next t ∧ AfterReply s1 t ∧ (replyGoes s1 src.key = true →
      Replied src (c.ok [tFrame p.first, (0x01E1, c.circuits.flatMap (fun k => totalRec k p.first p.close.flags true (p.provCir k)))] rfNotBilling) t)) ∧
  (∀ (src : Src) (tlvs : List Tlv) (s s1 : State) (c : Cmd), accepted opWaveformStream src tlvs s = some (s1, c) → c.nat 0x000D = 0 →
    ∃ t, exec (.waveformStream src tlvs) s = .next t ∧ t.geo = { s.geo with mir := { s.geo.mir with
        wave := s.geo.mir.wave.filter (fun e => !(e.1 == c.vctl && c.inputs.contains e.2)) } } ∧
      AfterReply { s1 with geo := t.geo } t ∧ (replyGoes s1 src.key = true → Replied src c.ok t)) ∧
  (∀ (src : Src) (tlvs : List Tlv) (s s1 : State) (c : Cmd), accepted opWaveformStream src tlvs s = some (s1, c) → c.nat 0x000D = 1 →
    ∃ t, exec (.waveformStream src tlvs) s = .next t ∧ (∀ i ∈ c.inputs, (c.vctl, i) ∈ t.geo.mir.wave) ∧
      (∀ e ∈ s.geo.mir.wave, e ∈ t.geo.mir.wave) ∧ (∀ e ∈ t.geo.mir.wave, e ∈ s.geo.mir.wave ∨ (e.1 = c.vctl ∧ e.2 ∈ c.inputs)) ∧
      AfterReply { s1 with geo := { s1.geo with mir := { s1.geo.mir with wave := t.geo.mir.wave } } } t ∧
      (replyGoes s1 src.key = true → Replied src c.ok t)) ∧
  (∀ (src : Src) (tlvs : List Tlv) (s s1 : State) (c : Cmd), accepted opCorrectionRead src tlvs s = some (s1, c) →
    ∃ t, exec (.correctionRead src tlvs) s = .next t ∧ .msg .narrow 4 [] (beBytes 2 (s.geo.mir.nextId % 2 ^ 16) ++ [3, 0] ++ beBytes 8 (c.nat 0x000D)) ∈ t.out ∧
      t.geo.mir.reqs = s.geo.mir.reqs ++ [⟨s.geo.mir.nextId % 2 ^ 16, 3, c.nat 0x000D, (evKey c.key, c.seq, c.cmdid), 0, s.frm.now⟩] ∧
      AfterReply { s1 with geo := { s1.geo with mir := t.geo.mir } } t ∧ (replyGoes s1 src.key = true → Replied src c.pend t)) ∧
  (∀ (src : Src) (tlvs : List Tlv) (s s1 : State) (c : Cmd), accepted opAttribModel src tlvs s = some (s1, c) →
    ∃ t, exec (.attribModel src tlvs) s = .next t ∧ AfterReply s1 t ∧ (replyGoes s1 src.key = true →
      Replied src (c.ok [(0x01E3, (List.zip (c.list 0x0001 4) c.eps).flatMap (fun e =>
        modelRec e.1 ((tget s.att.models0 e.2).getD (freshModel 0 0))))] rfNotBilling) t)) ∧
  (∀ (src : Src) (tlvs : List Tlv) (s s1 : State) (c : Cmd), accepted opProbeDither src tlvs s = some (s1, c) →
    ∃ t, exec (.probeDither src tlvs) s = .next t ∧
      t.att = { s.att with dither := (c.nat 0x000D == 1, (c.nat? 0x0004).getD 30000, (c.nat? 0x01E5).getD (2 ^ 64 - 1)) } ∧
      AfterReply { s1 with att := t.att } t ∧ (replyGoes s1 src.key = true → Replied src c.ok t)) ∧
  (∀ (src : Src) (tlvs : List Tlv) (s s1 : State) (c : Cmd) (n : Nat), accepted opSnapshot src tlvs s = some (s1, c) → s.snapChannel = some n →
    ∃ t, exec (.snapshot src tlvs) s = .next t ∧ bit (t.reg (aLdsTmrCtl n)) 0 = true ∧
      t.reg (aLdsTmrCmp n) = c.nat 0x01D6 % 2 ^ 32 ∧ t.reg (aLdsTmrPer n) = 0 ∧
      t.geo.mir.snaps = s.geo.mir.snaps ++ [(evKey c.key, c.seq, c.cmdid, c.nat 0x01D6)] ∧
      AfterReply { s1 with regs := t.regs, lds := t.lds, geo := { s1.geo with mir := t.geo.mir } } t ∧
      (replyGoes s1 src.key = true → Replied src c.pend t)) ∧
  (∀ (p : Period) (r : List Period) (s : State), s.frm.beat = 0 → s.att.closing = p :: r →
    (p.stopOk = true ∧ s.geo.mir.at_ < s.frm.now ∧ p.end_ < s.frm.now) ∨ p.end_ + 10 ≤ s.frm.now → ∃ t, exec .periodClose s = .next t ∧
      t.att.closing = r ∧ t.att.closed = keepClosed (s.att.closed ++ [p.close]) ∧ (p.gapped = true → bit (t.reg aSysAtrFlags) 0 = true) ∧
      (p.gapped = false → t.regs = s.regs) ∧ (∀ k, tget t.att.models k = (tget s.att.models k).map (fun m => { m with entered := false })) ∧
      (∀ x, x ∈ p.close.cirs → x.shares + x.resid = x.e) ∧ t = { s with att := t.att, ses := t.ses, regs := t.regs, out := [] }) ∧
  (∀ (s : State), s.att.closing = [] ∨ s.frm.beat ≠ 0 → exec .periodClose s = .next { s with out := [] })

/-! ### Quarry, raw FIFOs and DMA -/

/-- R413, R419, R421 to R425, R428 to R430, R443: tenant VLANs are attached and detached, traffic settings are taken, a frame enters its domain and is
stored or dropped, the chosen frame leaves, learned addresses age, and uplinks change. -/
def Obligations.TenantTrafficIsAttachedStoredAndSent : Prop :=
  (∀ (src : Src) (tlvs : List Tlv) (s s1 : State) (c : Cmd), accepted opVlanAttach src tlvs s = some (s1, c) →
    ∃ t, exec (.vlanAttach src tlvs) s = .next t ∧
      tget t.qry.doms (domKey c.vctl (c.nat 0x01F0)) = some { tgetD s.qry.doms (domKey c.vctl (c.nat 0x01F0)) {} with
        eps := sortNat ((tgetD s.qry.doms (domKey c.vctl (c.nat 0x01F0)) {}).eps ++ c.eps),
        uplinks := sortNat ((tgetD s.qry.doms (domKey c.vctl (c.nat 0x01F0)) {}).uplinks ++ c.uplinks) } ∧
      (∀ k, k ≠ domKey c.vctl (c.nat 0x01F0) → tget t.qry.doms k = tget s.qry.doms k) ∧
      (∀ h ∈ c.eps, .msg .vlanTable h ((t.qry.doms.filter (fun e => e.2.eps.contains h)).flatMap
        (fun e => [stringSvid (e.1 / 4096), e.1 % 4096])) [] ∈ t.out) ∧
      AfterReply { s1 with qry := { s1.qry with doms := t.qry.doms } } t ∧ (replyGoes s1 src.key = true → Replied src c.ok t)) ∧
  (∀ (src : Src) (tlvs : List Tlv) (s s1 : State) (c : Cmd), accepted opVlanDetach src tlvs s = some (s1, c) →
    c.has 0x0001 = false → c.has 0x01F1 = false → ∃ t, exec (.vlanDetach src tlvs) s = .next t ∧
      tget t.qry.doms (domKey c.vctl (c.nat 0x01F0)) = none ∧
      (∀ k, k ≠ domKey c.vctl (c.nat 0x01F0) → tget t.qry.doms k = tget s.qry.doms k) ∧
      AfterReply { s1 with qry := { s1.qry with doms := t.qry.doms } } t ∧ (replyGoes s1 src.key = true → Replied src c.ok t)) ∧
  (∀ (src : Src) (tlvs : List Tlv) (s s1 : State) (c : Cmd) (d : Domain), accepted opVlanDetach src tlvs s = some (s1, c) →
    c.has 0x0001 = true ∨ c.has 0x01F1 = true → tget s.qry.doms (domKey c.vctl (c.nat 0x01F0)) = some d →
    (∃ h ∈ d.eps, c.eps.contains h = false) ∨ (∃ u ∈ d.uplinks, c.uplinks.contains u = false) → ∃ t, exec (.vlanDetach src tlvs) s = .next t ∧
      (tget t.qry.doms (domKey c.vctl (c.nat 0x01F0))).map (fun d => (d.eps, d.uplinks)) =
        some (d.eps.filter (fun h => !c.eps.contains h), d.uplinks.filter (fun u => !c.uplinks.contains u)) ∧
      AfterReply { s1 with qry := { s1.qry with doms := t.qry.doms } } t ∧ (replyGoes s1 src.key = true → Replied src c.ok t)) ∧
  (∀ (src : Src) (tlvs : List Tlv) (s s1 : State) (c : Cmd), accepted opShaperSet src tlvs s = some (s1, c) →
    ∃ t, exec (.shaperSet src tlvs) s = .next t ∧ t.tcfg c.vctl = { s.tcfg c.vctl with
        peak := (c.all 0x01F7).foldl (fun l b => tset l (u b 0 1) (u b 4 4)) (s.tcfg c.vctl).peak } ∧
      (∀ v, v ≠ c.vctl → t.tcfg v = s.tcfg v) ∧ AfterReply { s1 with qry := { s1.qry with cfg := t.qry.cfg } } t ∧
      (replyGoes s1 src.key = true → Replied src c.ok t)) ∧
  (∀ (src : Src) (tlvs : List Tlv) (s s1 : State) (c : Cmd), accepted opQueueSet src tlvs s = some (s1, c) →
    ∃ t, exec (.queueSet src tlvs) s = .next t ∧ t.tcfg c.vctl = { s.tcfg c.vctl with
        pcp := ((c.tlv? 0x01F5).map (fun b => b.map (·.toNat))).getD (s.tcfg c.vctl).pcp,
        limit := (c.all 0x01F6).foldl (fun l b => tset l (u b 0 1) (u b 4 4)) (s.tcfg c.vctl).limit } ∧
      (∀ v, v ≠ c.vctl → t.tcfg v = s.tcfg v) ∧ AfterReply { s1 with qry := { s1.qry with cfg := t.qry.cfg } } t ∧
      (replyGoes s1 src.key = true → Replied src c.ok t)) ∧
  (∀ (p t0 : Nat) (f : EthFrame) (full : Bool) (s : State), 0x100 ≤ p → p < 0x110 → s.portUp p = true → s.uplinkIn (p - 0x100) f = .unknown →
    f.kind ≠ .msl → ∃ t, exec (.tenantFrame p f t0 false full) s = .next t ∧ bit (t.reg aQryStat) 10 = true ∧
      fieldOf (t.reg aQryDrop) 0 16 = satAdd 16 (fieldOf (s.reg aQryDrop) 0 16) 1 ∧
      t = { s with regs := t.regs, lds := { s.lds with stampIn := tset s.lds.stampIn p (t0 % 2 ^ 32) }, out := [] }) ∧
  (∀ (p t0 k o : Nat) (f : EthFrame) (full b : Bool) (d : Domain) (s w : State), 0x100 ≤ p → p < 0x110 → s.portUp p = true →
    s.uplinkIn (p - 0x100) f = .dom k → (tget s.qry.doms k).isSome = true → f.kind ≠ .msl → learn k f.src p { s with out := [] } = w →
    tget w.qry.doms k = some d → w.outPorts d p f = [o] → f.len ≤ w.portMax o →
    w.room (k / 4096) o ((w.tcfg (k / 4096)).pcp.getD f.pcp 0) (cdiv f.len 256) = some b → ∃ t, exec (.tenantFrame p f t0 false full) s = .next t ∧
      tget t.qry.store s.qry.nextId = some ⟨f, k / 4096, cdiv f.len 256, 1, t0, p⟩ ∧ t.qry.nextId = s.qry.nextId + 1 ∧
      (t.qport o).q = (s.qport o).q ++ [⟨s.qry.nextId, k / 4096, (w.tcfg (k / 4096)).pcp.getD f.pcp 0, f.len, cdiv f.len 256, b⟩] ∧
      (∀ x, x ≠ o → t.qport x = s.qport x) ∧ t.qry.doms = w.qry.doms ∧ tget t.lds.stampIn p = some (t0 % 2 ^ 32) ∧
      (f.kind = .data → t.lds = { s.lds with stampIn := t.lds.stampIn }) ∧ t = { w with qry := t.qry, lds := t.lds }) ∧
  (∀ (p t0 k o : Nat) (f : EthFrame) (full : Bool) (d : Domain) (s w : State), 0x100 ≤ p → p < 0x110 → s.portUp p = true →
    s.uplinkIn (p - 0x100) f = .dom k → (tget s.qry.doms k).isSome = true → f.kind ≠ .msl → learn k f.src p { s with out := [] } = w →
    tget w.qry.doms k = some d → w.outPorts d p f = [o] → f.len ≤ w.portMax o →
    w.room (k / 4096) o ((w.tcfg (k / 4096)).pcp.getD f.pcp 0) (cdiv f.len 256) = none → ∃ t, exec (.tenantFrame p f t0 false full) s = .next t ∧
      t.qry.store = s.qry.store ∧ t.qry.ports = s.qry.ports ∧ bit (t.reg aQryStat) 9 = true ∧
      fieldOf (t.reg aQryDropMod) 16 16 = satAdd 16 (fieldOf (s.reg aQryDropMod) 16 16) 1 ∧
      tget t.lds.stampIn p = some (t0 % 2 ^ 32) ∧ t = { s with qry := t.qry, regs := t.regs, ses := t.ses, lds := t.lds, out := [] }) ∧
  (∀ (p t0 v i tg du : Nat) (k : VClock) (f : Stored) (s : State), 0x100 ≤ p → p < 0x112 → s.portUp p = true →
    nextCtl (s.qport p).ctl = none → s.choose p (t0 * 1000) = some (v, k) → k.head = some (i, tg, du) → tget s.qry.store i = some f → f.frame.kind = .data →
    ∃ t, exec (.egressServe p t0 []) s = .next t ∧
      (∃ sv, t.out = [.msg .ethTx p [sv, f.frame.cvid.getD 0, f.frame.pcp, f.frame.dst, f.frame.src, f.frame.len] []]) ∧
      tget t.qry.store i = (if f.refs ≤ 1 then none else some { f with refs := f.refs - 1 }) ∧
      (t.qport p).q = (s.qport p).q.filter (fun c => !(c.id == i && c.vctl == v)) ∧ (∀ x, x ≠ p → t.qport x = s.qport x) ∧
      t = { s with qry := t.qry, lds := t.lds, out := t.out }) ∧
  (∀ (p t0 v i tg du : Nat) (k : VClock) (f : Stored) (s : State), p < 0x100 → s.portServes p = true → nextCtl (s.qport p).ctl = none →
    s.choose p (t0 * 1000) = some (v, k) → k.head = some (i, tg, du) → tget s.qry.store i = some f → f.frame.kind = .data →
    ∃ t, exec (.egressServe p t0 []) s = .next t ∧
      t.out = (s.framePorts v p f.frame).map (fun x => .msg .ethTx x [v, f.frame.cvid.getD 0, f.frame.pcp, f.frame.dst, f.frame.src, f.frame.len] []) ∧
      (∀ q ∈ s.pairPoles v f.frame p, ∀ x, s.pole? p q = some x →
        t.pole? p q = some { x with credits := x.credits.set 3 (x.credits.getD 3 0 - tenantCost f.frame.len) }) ∧
      tget t.qry.store i = (if f.refs ≤ 1 then none else some { f with refs := f.refs - 1 }) ∧ (∀ x, x ≠ p → t.qport x = s.qport x) ∧
      t = { s with qry := t.qry, lds := t.lds, strs := t.strs, out := t.out }) ∧
  (∀ (p t0 tg : Nat) (f : CtlFrame) (s : State), p < 0x112 → s.portServes p = true → nextCtl (s.qport p).ctl = some (f, tg) →
    ∃ t, exec (.egressServe p t0 []) s = .next t ∧ t.out = [.msg .ctlTx p [f.vctl, tg] f.data] ∧ t.qry.store = s.qry.store ∧
      (t.qport p).q = (s.qport p).q ∧ (t.qport p).ctl.length < (s.qport p).ctl.length ∧ (∀ x, x ≠ p → t.qport x = s.qport x) ∧
      t = { s with qry := t.qry, out := t.out }) ∧
  (∀ (p t0 : Nat) (b : List (Nat × Nat)) (s : State), 0x100 ≤ p → nextCtl (s.qport p).ctl = none → s.choose p (t0 * 1000) = none → exec (.egressServe p t0 b) s = .next { s with out := [] }) ∧
  (∀ (v i m : Nat) (d : Domain) (x : Mac) (s : State), tget s.qry.doms (domKey v i) = some d → tget d.macs m = some x →
    x.last + 30000 ≤ s.frm.now → ∃ t, exec (.macAgeOut v i m) s = .next t ∧
      tget t.qry.doms (domKey v i) = some { d with macs := terase d.macs m } ∧ (∀ k, k ≠ domKey v i → tget t.qry.doms k = tget s.qry.doms k) ∧
      t = { s with qry := { s.qry with doms := t.qry.doms }, out := [] }) ∧
  (∀ (n : Nat) (up : Bool) (s : State), n < 16 → s.pw.main = true → s.uplinkFitted n = true → up = false ∨ s.thm.idled.contains (0x100 + n) = false →
    ∃ t, exec (.uplinkLink n up) s = .next t ∧ (tget t.qry.upl n).map (·.link) = some up ∧
      (up = true → (tgetD s.qry.upl n {}).link = false → (tget t.qry.upl n).map (·.fec) = some (bit (s.reg (aQryUplCfg n)) 12)) ∧
      (∀ m, m ≠ n → tget t.qry.upl m = tget s.qry.upl m) ∧ t = { s with qry := { s.qry with upl := t.qry.upl }, out := [] })

/-- R432 to R441, R567, R568: descriptors and fences queue on their channel, requests release bursts, a completed descriptor has moved its bytes and
no other, a fence completes in order, exports are raised as events, and blocks reach their FIFO. -/
def Obligations.DmaMovesFencesAndExports : Prop :=
  (∀ (src : Src) (tlvs : List Tlv) (s s1 : State) (c : Cmd) (n : Nat), accepted opDmaDescriptor src tlvs s = some (s1, c) →
    s.dmaNo c.vctl c.descCh = some n → ∃ t, exec (.dmaDescriptor src tlvs) s = .next t ∧ (t.dch n).q.length = (s.dch n).q.length + 1 ∧
      (bit (u ((c.tlv? 0x0200).getD []) 1 1) 0 = false → (t.dch n).q.getLast? = some ⟨(evKey c.key, c.seq, c.cmdid),
        .desc (s.descOf c.vctl ((c.tlv? 0x0200).getD []) (c.nat? 0x0201))⟩) ∧
      AfterReply { s1 with qry := t.qry, thm := t.thm, regs := t.regs, ses := { s1.ses with evq := t.ses.evq } } t ∧
      (replyGoes s1 src.key = true → Replied src c.pend t)) ∧
  (∀ (src : Src) (tlvs : List Tlv) (s s1 : State) (c : Cmd) (n : Nat), accepted opDmaFence src tlvs s = some (s1, c) →
    s.dmaNo c.vctl (c.nat 0x000D) = some n → ∃ t, exec (.dmaFence src tlvs) s = .next t ∧
      (t.dch n).q.length = (s.dch n).q.length + 1 ∧ (t.dch n).fenceNo = ((s.dch n).fenceNo.1 + 1, (s.dch n).fenceNo.2) ∧
      (t.dch n).q.getLast? = some ⟨(evKey c.key, c.seq, c.cmdid), .fence ((s.dch n).fenceNo.1 + 1)⟩ ∧
      AfterReply { s1 with qry := t.qry, thm := t.thm, regs := t.regs, ses := { s1.ses with evq := t.ses.evq } } t ∧
      (replyGoes s1 src.key = true → Replied src c.pend t)) ∧
  (∀ (src : Src) (tlvs : List Tlv) (s s1 : State) (c : Cmd) (n : Nat), accepted opExportBlock src tlvs s = some (s1, c) →
    s.dmaNo c.vctl 0 = some n → ∃ t, exec (.exportBlock src tlvs) s = .next t ∧
      (t.dch n).q.getLast? = some ⟨(evKey c.key, c.seq, c.cmdid), .export_ (c.nat 0x0202) (c.nat 0x0203)⟩ ∧
      (t.dch n).q.length = (s.dch n).q.length + 1 ∧
      AfterReply { s1 with qry := t.qry, thm := t.thm, regs := t.regs, ses := { s1.ses with evq := t.ses.evq } } t ∧
      (replyGoes s1 src.key = true → Replied src c.pend t)) ∧
  (∀ (src : Src) (tlvs : List Tlv) (s s1 : State) (c : Cmd), accepted opWorkspaceInfo src tlvs s = some (s1, c) →
    ∃ t, exec (.workspaceInfo src tlvs) s = .next t ∧ AfterReply s1 t ∧ (replyGoes s1 src.key = true → Replied src
      (c.ok [tCount (s.pages c.vctl).length, tValue (s.wsWritten c.vctl : Nat), tCode (s.dmaChans c.vctl).length]) t)) ∧
  (∀ (n l tc : Nat) (d : Desc) (s : State), n < 32 → l = 1 ∨ l = 2 → (s.dch n).holder.isSome = true → s.headDesc n = some d → d.onLine l tc = true →
    d.moved < d.total → s.afterDone d.after = true → ∃ t, exec (.dmaRequest n l tc) s = .next t ∧
      (t.dch n).bursts = ((s.dch n).bursts + 1) % 2 ^ 16 ∧ (t.dch n).pending = (s.dch n).pending ∧ (∀ m, m ≠ n → t.dch m = s.dch m) ∧
      t = { s with qry := t.qry, thm := t.thm, regs := t.regs, ses := t.ses, out := [] }) ∧
  (∀ (n l tc : Nat) (d : Desc) (s : State), n < 32 → l = 1 ∨ l = 2 → (s.dch n).holder.isSome = true → s.headDesc n = some d → d.onLine l tc = true →
    d.moved < d.total → s.afterDone d.after = false → (s.dch n).pending < 255 → ∃ t, exec (.dmaRequest n l tc) s = .next t ∧
      t.dch n = { s.dch n with pending := (s.dch n).pending + 1 } ∧ t = { s with qry := t.qry, out := [] }) ∧
  (∀ (n v : Nat) (o : DmaOp) (d : Desc) (r : List DmaOp) (s : State), (s.dch n).holder = some v → (s.dch n).q = o :: r → o.kind = .desc d →
    d.paced = false → d.moved = 0 → d.err = false → d.after = none → d.sspace ≠ 1 → (∀ m < 32, (s.dch m).pending = 0) →
    (∀ i < d.total, s.thm.bad.contains (s.spaceAddr v d.sspace (lineAddr d.saddr d.sline d.sstride i) / 32 * 32) = false) →
    (∀ i < d.total, s.spaceAddr v d.dspace (lineAddr d.daddr d.dline d.dstride i) < hbmSize) →
    (∀ i < d.total, ∀ j < d.total, s.spaceAddr v d.sspace (lineAddr d.saddr d.sline d.sstride i) ≠
      s.spaceAddr v d.dspace (lineAddr d.daddr d.dline d.dstride j)) →
    (∀ i < d.total, ∀ j < d.total, s.spaceAddr v d.dspace (lineAddr d.daddr d.dline d.dstride i) =
      s.spaceAddr v d.dspace (lineAddr d.daddr d.dline d.dstride j) → i = j) → ∃ t, exec (.dmaDescriptorComplete n) s = .next t ∧
      (t.dch n).q = r ∧ (t.dch n).done = ((s.dch n).done + 1) % 2 ^ 16 ∧
      (∀ i < d.total, t.qry.mem.read (s.spaceAddr v d.dspace (lineAddr d.daddr d.dline d.dstride i)) =
        s.qry.mem.read (s.spaceAddr v d.sspace (lineAddr d.saddr d.sline d.sstride i))) ∧
      (∀ a, (∀ i < d.total, a ≠ s.spaceAddr v d.dspace (lineAddr d.daddr d.dline d.dstride i)) → t.qry.mem.read a = s.qry.mem.read a) ∧
      (∀ m, m ≠ n → t.dch m = s.dch m) ∧ t = { s with qry := t.qry, thm := t.thm, ses := t.ses, out := [] }) ∧
  (∀ (n v : Nat) (o : DmaOp) (d : Desc) (r : List DmaOp) (s : State), (s.dch n).holder = some v → (s.dch n).q = o :: r → o.kind = .desc d →
    s.afterDone d.after = false → exec (.dmaDescriptorComplete n) s = .next { s with out := [] }) ∧
  (∀ (n v off len : Nat) (o : DmaOp) (r : List DmaOp) (s : State), (s.dch n).holder = some v → (s.dch n).q = o :: r → o.kind = .export_ off len →
    (∀ m < 32, (s.dch m).pending = 0) → (∀ j < len, s.isBad (s.wsAddr v (off + j)) = false) → s.active v = true →
    ∃ t, exec (.dmaDescriptorComplete n) s = .next t ∧ (t.dch n).q = r ∧ t.qry.mem = s.qry.mem ∧
      t.ses = (dmaResult o stOk (dmaFlags ((List.range len).any (fun j => !s.isWritten (s.wsAddr v (off + j)))) false)
        (exportEvents v o off len s)).ses ∧ t = { s with qry := t.qry, ses := t.ses, out := [] }) ∧
  (∀ (n k : Nat) (o : DmaOp) (r : List DmaOp) (s : State), (s.dch n).q = o :: r → o.kind = .fence k → (∀ m < 32, (s.dch m).pending = 0) →
    ∃ t, exec (.dmaFenceComplete n) s = .next t ∧
      t.dch n = { s.dch n with q := r, fences := ((s.dch n).fences + 1) % 2 ^ 16, fenceNo := ((s.dch n).fenceNo.1, (s.dch n).fenceNo.2 + 1) } ∧
      t.ses = (dmaResult o stOk [] s).ses ∧ t.qry.mem = s.qry.mem ∧ t = { s with qry := t.qry, ses := t.ses, out := [] }) ∧
  (∀ (n : Nat) (b : RawBlock) (r : List RawBlock) (s : State), s.qry.blocks = b :: r → s.blockCh b = some n →
    (s.dch n).fifo.length + b.words.length ≤ 16384 → ∃ t, exec .rawBlockWrite s = .next t ∧ t.qry.blocks = r ∧
      ((s.dch n).fifo.length < (s.dch n).level → (s.dch n).level ≤ (s.dch n).fifo.length + b.words.length → (t.dch n).hit = true) ∧
      ((s.dch n).q = [] → (t.dch n).fifo = (s.dch n).fifo ++ b.words) ∧ (∀ m, m ≠ n → t.dch m = s.dch m) ∧
      t = { s with qry := t.qry, thm := t.thm, regs := t.regs, ses := t.ses, out := [] }) ∧
  (∀ (n : Nat) (b : RawBlock) (r : List RawBlock) (s : State), s.qry.blocks = b :: r → s.blockCh b = some n →
    16384 < (s.dch n).fifo.length + b.words.length → ∃ t, exec .rawBlockWrite s = .next t ∧ t.qry.blocks = r ∧ (t.dch n).ovf = true ∧
      (t.dch n).fifo = (s.dch n).fifo ∧ (t.dch n).q = (s.dch n).q ∧ t = { s with qry := t.qry, ses := t.ses, out := [] })

/-! ### The air unit -/

/-- R449, R461, R463, R466, R469 to R472, R474: air endpoints are enrolled and removed, frames are queued in their order, the channel plan, captures,
Vemer mode and the transmitters are set. -/
def Obligations.AirCommandsAreCarriedOut : Prop :=
  (∀ (src : Src) (tlvs : List Tlv) (s s1 : State) (c : Cmd), accepted opAirEnrol src tlvs s = some (s1, c) → c.vctl = 0 →
    ∃ t, exec (.airEnrol src tlvs) s = .next t ∧ tget t.air.eps (enrolIndex c s) = some (newEp c (enrolIndex c s) s) ∧
      (∀ n, n ≠ enrolIndex c s → tget t.air.eps n = tget s.air.eps n) ∧ tget t.air.freed (enrolIndex c s) = none ∧
      AfterReply { s1 with air := { s1.air with eps := t.air.eps, freed := t.air.freed }, slt := { s1.slt with preset := t.slt.preset } } t ∧
      (replyGoes s1 src.key = true → Replied src (c.ok [tEp [mkAir (enrolIndex c s)]]) t)) ∧
  (∀ (src : Src) (tlvs : List Tlv) (s s1 : State) (c : Cmd), accepted opAirEnrol src tlvs s = some (s1, c) → c.vctl ≠ 0 →
    ∃ t, exec (.airEnrol src tlvs) s = .next t ∧ tget t.air.eps (enrolIndex c s) = some (newEp c (enrolIndex c s) s) ∧
      (∀ n, n ≠ enrolIndex c s → tget t.air.eps n = tget s.air.eps n) ∧ (∀ k < 5, t.hasEp c.vctl (mkAir (enrolIndex c s)) k = true) ∧
      (tget s.ten.leases (mkAir (enrolIndex c s)) = none → tget t.ten.leases (mkAir (enrolIndex c s)) = some ⟨c.vctl, none⟩) ∧
      t.brg = s.brg ∧ t.geo = s.geo ∧ t.qry.mem = s.qry.mem ∧
      (replyGoes s1 src.key = true → Replied src (c.ok [tEp (t.localOf c.vctl (mkAir (enrolIndex c s))).toList]) t)) ∧
  (∀ (src : Src) (tlvs : List Tlv) (s s1 : State) (c : Cmd) (h : Nat), accepted opAirRemove src tlvs s = some (s1, c) → c.eps = [h] →
    ∃ t, exec (.airRemove src tlvs) s = .next t ∧ tget t.air.eps (hAir h) = none ∧
      (∀ n, n ≠ hAir h → tget t.air.eps n = tget s.air.eps n) ∧ tget t.air.freed (hAir h) = some (s.frm.now + 6000) ∧
      (∀ e ∈ t.air.q, e.handle ≠ some (mkAir (hAir h))) ∧ (∀ e ∈ t.air.q, e ∈ s.air.q) ∧ (∀ j ∈ t.air.joins, j.n ≠ hAir h) ∧
      tget t.ten.leases h = none ∧ t.brg = s.brg ∧ t.geo = s.geo ∧ (replyGoes s1 src.key = true → Replied src c.ok t)) ∧
  (∀ (src : Src) (tlvs : List Tlv) (s s1 : State) (c : Cmd), accepted opAirSend src tlvs s = some (s1, c) →
    ∃ t, exec (.airSend src tlvs) s = .next t ∧ t.air.nextId = s.air.nextId + 1 ∧ t.air.q = insTx
      { id := s.air.nextId, item := 5, handle := c.eps.head?, payer := some c.vctl, kind := sendKind c, since := s.frm.now,
        cmd := some (evKey c.key, c.seq, c.cmdid), hold := (c.nat? 0x0004).getD 360000, retries := (c.nat? 0x0218).getD 3 } s.air.q ∧
      AfterReply { s1 with air := { s1.air with nextId := t.air.nextId, q := t.air.q } } t ∧ (replyGoes s1 src.key = true → Replied src c.pend t)) ∧
  (∀ (src : Src) (tlvs : List Tlv) (s s1 : State) (c : Cmd), accepted opAirRawTx src tlvs s = some (s1, c) →
    ∃ t, exec (.airRawTx src tlvs) s = .next t ∧ t.air.nextId = s.air.nextId + 1 ∧ t.air.q = insTx
      { id := s.air.nextId, item := 5, handle := none, payer := some c.vctl,
        kind := .raw (u ((c.tlv? 0x021C).getD []) 0 1) (u ((c.tlv? 0x021C).getD []) 1 1) (((c.tlv? 0x021C).getD []).drop 4), since := s.frm.now,
        cmd := some (evKey c.key, c.seq, c.cmdid) } s.air.q ∧
      AfterReply { s1 with air := { s1.air with nextId := t.air.nextId, q := t.air.q } } t ∧ (replyGoes s1 src.key = true → Replied src c.pend t)) ∧
  (∀ (src : Src) (tlvs : List Tlv) (s s1 : State) (c : Cmd), accepted opChannelPlan src tlvs s = some (s1, c) →
    ∃ t, exec (.channelPlan src tlvs) s = .next t ∧ t.air.region = (c.nat? 0x0219).getD s.air.region ∧
      t.air.usWin = (c.nat? 0x021A).getD s.air.usWin ∧ (c.all 0x021B = [] → t.air.ports = s.air.ports) ∧
      (∀ b, c.all 0x021B = [b] → (t.aport (u b 0 1)).gain = i16 b 2 ∧ (t.aport (u b 0 1)).cap = beInt ((b.drop 4).take 1) ∧
        (t.aport (u b 0 1)).en = decide (u b 1 1 = 1) ∧ (∀ p, p ≠ u b 0 1 → t.aport p = s.aport p)) ∧
      AfterReply { s1 with air := { s1.air with region := t.air.region, usWin := t.air.usWin, ports := t.air.ports } } t ∧
      (replyGoes s1 src.key = true → Replied src c.ok t)) ∧
  (∀ (src : Src) (tlvs : List Tlv) (s s1 : State) (c : Cmd), accepted opAirRawCapture src tlvs s = some (s1, c) →
    ∃ t, exec (.airRawCapture src tlvs) s = .next t ∧
      tget t.air.capture c.vctl = (if c.nat 0x000D = 0 then none else some (c.nat 0x021D)) ∧
      (∀ v, v ≠ c.vctl → tget t.air.capture v = tget s.air.capture v) ∧
      AfterReply { s1 with air := { s1.air with capture := t.air.capture } } t ∧ (replyGoes s1 src.key = true → Replied src c.ok t)) ∧
  (∀ (src : Src) (tlvs : List Tlv) (s s1 : State) (c : Cmd), accepted opVemerSet src tlvs s = some (s1, c) →
    ∃ t, exec (.vemerSet src tlvs) s = .next t ∧
      t.air.vemer = (if u ((c.tlv? 0x021E).getD []) 1 1 = 1 then some ⟨u ((c.tlv? 0x021E).getD []) 0 1, u ((c.tlv? 0x021E).getD []) 2 1,
        (List.range 16).map (fun i => u ((c.tlv? 0x021E).getD []) (4 + i) 1)⟩ else none) ∧
      AfterReply { s1 with air := { s1.air with vemer := t.air.vemer } } t ∧ (replyGoes s1 src.key = true → Replied src c.ok t)) ∧
  (∀ (p v : Nat) (s : State), p < 4 → s.pw.main = true → s.boot.airOut = false → ∃ t, exec (.airPortTxEnWrite p v) s = .next t ∧
      t.aport p = (if v % 2 = 1 then { s.aport p with en := true, fault := false } else { s.aport p with en := false }) ∧
      (∀ r, r ≠ p → t.aport r = s.aport r) ∧ t = { s with air := { s.air with ports := t.air.ports }, out := [] })

/-- R450, R451, R453 to R455, R462, R464 to R469, R473: the first queued frame that finds a port, a channel and its budget is sent, its end, retries
and expiries are told, endpoints fall silent and rejoin, and acknowledgements and join accepts go out. -/
def Obligations.AirFramesAreSent : Prop :=
  (∀ (t0 p ch d : Nat) (e : AirTx) (r : List AirTx) (s : State), s.airOn = true → s.air.q = e :: r → s.txSpot e t0 = some (p, ch, d) →
    s.dwellOk (payerCode e.payer) ch t0 d = true → ∃ t, exec (.airTxStart t0) s = .next t ∧ (t.tx? e.id).map (·.phase) = some .sending ∧
      t.air.onAir.getLast? = some ⟨payerCode e.payer, ch, p, t0, t0 + d, false, some e.id, false⟩ ∧
      t.air.nextMsg = (s.air.nextMsg + 1) % 65536 ∧ tget t.air.msgUse s.air.nextMsg = some s.frm.now ∧
      (∀ h x, e.handle = some h → tget s.air.eps (hAir h) = some x → (∀ a b w, e.kind ≠ .raw a b w) →
        (tget t.air.eps (hAir h)).map (·.down) = some (x.down + 1)) ∧
      (∀ a b w, e.kind = .raw a b w → t.out = [.msg .airTx p [ch, s.centre ch, (s.power p ch + 128).toNat] (withFcs w)]) ∧
      (∀ h x w, e.handle = some h → tget s.air.eps (hAir h) = some x → e.kind = .message w →
        t.out = [.msg .airTx p [ch, s.centre ch, (s.power p ch + 128).toNat]
          (airFrame x.session ⟨0, x.hops == 0, x.hops, if x.vemer then 0 else 1, s.air.nextMsg, h, x.down + 1⟩ (2 :: w))]) ∧
      t = { s with air := t.air, out := t.out }) ∧
  (∀ (t0 : Nat) (s : State), s.airOn = true → (∀ e ∈ s.air.q, s.txSpot e t0 = none) → exec (.airTxStart t0) s = .next { s with out := [] }) ∧
  (∀ (p t0 v : Nat) (x : AirOn) (s : State), s.air.onAir.find? (fun x => x.port == p && !x.ended && decide (x.stop ≤ t0)) = some x →
    x.qid.bind s.tx? = none → ∃ t, exec (.airTxEnd p t0 v) s = .next t ∧
      t.air.onAir = s.air.onAir.map (fun y => if y.port = p ∧ y.start = x.start then { y with ended := true } else y) ∧
      t.aport p = (if 30 < v then { s.aport p with vswr := min v 255, en := false, fault := true } else { s.aport p with vswr := min v 255 }) ∧
      t.ses = (if 30 < v then (s.owner 0x0F03 [tPort (0x0201 + p)]).ses else s.ses) ∧ t = { s with air := t.air, ses := t.ses, out := [] }) ∧
  (∀ (p t0 v a b : Nat) (w : Bytes) (x : AirOn) (e : AirTx) (s : State), v ≤ 30 →
    s.air.onAir.find? (fun x => x.port == p && !x.ended && decide (x.stop ≤ t0)) = some x → x.qid.bind s.tx? = some e → e.kind = .raw a b w →
    ∃ t, exec (.airTxEnd p t0 v) s = .next t ∧ t.tx? e.id = none ∧ t.ses = (airResult e stOk [] s).ses ∧
      t = { s with air := t.air, ses := t.ses, out := [] }) ∧
  (∀ (i : Nat) (e : AirTx) (s : State), s.airOn = true → s.tx? i = some e → e.phase = .unacked → e.lastTx + 5 ≤ s.frm.now →
    0 < e.retries →
    ∃ t, exec (.airRetry i) s = .next t ∧ t.tx? i = some { e with phase := .waiting, retries := e.retries - 1, rel := none } ∧
      t = { s with air := { s.air with q := t.air.q }, out := [] }) ∧
  (∀ (i : Nat) (w : Bytes) (e : AirTx) (s : State), s.airOn = true → s.tx? i = some e → e.phase = .unacked →
    e.lastTx + 5 ≤ s.frm.now → e.retries = 0 → e.kind = .message w →
    ∃ t, exec (.airRetry i) s = .next t ∧ t.tx? i = none ∧ t.ses = (airResult e stEndpointUnreachable [] s).ses ∧
      t = { s with air := { s.air with q := t.air.q }, ses := t.ses, out := [] }) ∧
  (∀ (i a b : Nat) (e : AirTx) (s : State), s.tx? i = some e → e.kind = .regRead a b → e.phase = .resp ∨ e.phase = .unacked →
    e.lastTx + 200 ≤ s.frm.now → ∃ t, exec (.airRegRespTimeout i) s = .next t ∧ t.tx? i = none ∧
      t.ses = (airResult e stBridgeTimeout [] s).ses ∧ t = { s with air := { s.air with q := t.air.q }, ses := t.ses, out := [] }) ∧
  (∀ (i h : Nat) (e : AirTx) (x : AirEp) (s : State), s.tx? i = some e → e.handle = some h → tget s.air.eps (hAir h) = some x →
    bit x.mode 0 = true → e.cmd.isSome = true → e.phase = .waiting → e.since + e.hold ≤ s.frm.now → ∃ t, exec (.airHoldExpiry i) s = .next t ∧
      t.tx? i = none ∧ t.ses = (airResult e stEndpointUnreachable [] s).ses ∧
      t = { s with air := { s.air with q := t.air.q }, ses := t.ses, out := [] }) ∧
  (∀ (i a b : Nat) (w : Bytes) (e : AirTx) (s : State), s.tx? i = some e → e.kind = .raw a b w → e.phase = .waiting → e.since + 100 ≤ s.frm.now →
    ∃ t, exec (.airRawTxExpiry i) s = .next t ∧ t.tx? i = none ∧ t.ses = (airResult e stQuotaExceeded [] s).ses ∧
      t = { s with air := { s.air with q := t.air.q }, ses := t.ses, out := [] }) ∧
  (∀ (n : Nat) (e : AirEp) (s : State), tget s.air.eps n = some e → s.airOn = true → e.lighting = true → s.airReach e = true →
    e.lastLight + e.fallback * 3000 ≤ s.frm.now → s.waitingLight (mkAir n) = none → ∃ t, exec (.airLightRefresh n) s = .next t ∧
      t.air.nextId = s.air.nextId + 1 ∧ t.air.q = insTx
      { id := s.air.nextId, item := 4, handle := some (mkAir n), payer := none,
        kind := .light (s.dispatchCode (mkAir n)) 0, since := s.frm.now, retries := 2 } s.air.q ∧
      t = { s with air := { s.air with nextId := t.air.nextId, q := t.air.q }, out := [] }) ∧
  (∀ (n : Nat) (e : AirEp) (s : State), tget s.air.eps n = some e → e.joined = true → e.silent = false → e.lastUp + e.fallback * 6000 ≤ s.frm.now →
    ∃ t, exec (.airSilent n) s = .next t ∧ tget t.air.eps n = some { e with silent := true } ∧
      t.ses = (airEvent (mkAir n) 0x0704 [tFrame e.lastUp] s).ses ∧ t = { s with air := { s.air with eps := t.air.eps }, ses := t.ses, out := [] }) ∧
  (∀ (n : Nat) (e : AirEp) (s : State), tget s.air.eps n = some e → e.joined = true → 0xF0000000 ≤ e.down → e.downDue = false → e.vemer = false →
    ∃ t, exec (.airRejoinDue n true) s = .next t ∧ tget t.air.eps n = some { e with downDue := true } ∧
      t.air.q = insTx { id := s.air.nextId, item := 3, handle := some (mkAir n), payer := none, kind := .rejoin, since := s.frm.now } s.air.q ∧
      t.ses = (s.owner 0x0705 [tEp [mkAir n], tCode 1]).ses ∧ t = { s with air := t.air, ses := t.ses, out := [] }) ∧
  (∀ (t0 : Nat) (w : AckWin) (s : State), s.air.acks.find? (fun a => a.start == t0) = some w → ∃ t, exec (.airAckTx t0) s = .next t ∧
      t.air.acks = s.air.acks.filter (fun x => x != w) ∧ t.air.ackSent = (s.air.ackSent + 1) % 2 ^ 16 ∧
      t.out = [.msg .airTx w.port [w.ch, s.centre w.ch, (s.power w.port w.ch + 128).toNat]
        (ackFrame (if s.vport = some w.port then 0 else 1) w.msgid w.origin)] ∧
      t.air.onAir.getLast? = some ⟨4096, w.ch, w.port, t0, t0 + ackTime, true, none, false⟩ ∧ t = { s with air := t.air, out := t.out }) ∧
  (∀ (t0 p : Nat) (j : JoinAcc) (e : AirEp) (s : State), s.air.joins = [j] → j.endT + 5000 ≤ t0 → t0 ≤ j.endT + 55000 → tget s.air.eps j.n = some e →
    e.bestPort = some p → p < 4 → s.vport ≠ some p → s.txOn p = true → s.portFree p t0 (t0 + airtime 43) = true →
    s.chanFree p j.ch t0 (t0 + airtime 43) = true → s.airOn = true → s.usable j.ch = true → s.portsLeft t0 (t0 + airtime 43) = true →
    s.dwellOk 4096 j.ch t0 (airtime 43) = true → ∃ t, exec (.joinAcceptTx t0) s = .next t ∧ t.air.joins = [] ∧
      t.out = [.msg .airTx p [j.ch, s.centre j.ch, (s.power p j.ch + 128).toNat]
        (airFrame e.devKey ⟨3, false, e.hops, 1, j.msgid, mkAir j.n, j.fcnt⟩
          (beBytes 12 j.salt ++ [byte e.listen, byte e.ttlMax, byte e.mode] ++ beBytes 2 e.fallback ++ [0]))] ∧ t = { s with air := t.air, out := t.out }) ∧
  (∀ (t0 : Nat) (j : JoinAcc) (s : State), s.air.joins = [j] → j.endT + 55000 < t0 → exec (.joinAcceptTx t0) s =
      .next { s with air := { s.air with joins := [] }, out := [] })

/-- R452 to R460, R462, R473: receptions are checked, authenticated and counted, acknowledged and answered; a join is taken once. -/
def Obligations.AirFramesAreReceived : Prop :=
  (∀ (r : AirRx) (s : State), s.airOn = true → s.usable r.ch = true → (liveCopies r { s with out := [] }).2 ≠ [] → s.air.capture = [] →
    r.fcs = false → ∃ t, exec (.airFrameRx r) s = .next t ∧
      fieldOf (t.reg aAirSec2) 0 12 = satAdd 12 (fieldOf (s.reg aAirSec2) 0 12) 1 ∧ t.air.eps = s.air.eps ∧
      t = { s with air := t.air, regs := t.regs, out := [] }) ∧
  (∀ (r : AirRx) (e : AirEp) (w : Bytes) (s : State), s.airOn = true → s.usable r.ch = true → (liveCopies r { s with out := [] }).2 ≠ [] →
    s.air.vemer = none → r.fcs = true → 11 ≤ r.len → r.len ≤ 255 → r.shaped = true → r.ver = 1 → r.ty = 0 → addrOk r.origin = true → r.dest = 0xFFFFF →
    s.airEp? r.origin = some e → e.joined = true → r.mic = true → e.vemer = false → fcntFresh e r.fcnt = true → r.app = .message w →
    ∃ t, exec (.airFrameRx r) s = .next t ∧ (tget t.air.eps (hAir r.origin)).map (fun x => (x.upHi, x.window, x.lastUp, x.silent, x.fresh, x.down)) =
        some ((acceptFcnt r.fcnt e).upHi, (acceptFcnt r.fcnt e).window, s.frm.now, false, false, e.down) ∧
      (∀ n, n ≠ hAir r.origin → tget t.air.eps n = tget s.air.eps n) ∧
      t = { s with air := t.air, regs := t.regs, ses := t.ses, qry := t.qry, out := [] }) ∧
  (∀ (r : AirRx) (e : AirEp) (s : State), s.airOn = true → s.usable r.ch = true → (liveCopies r { s with out := [] }).2 ≠ [] →
    s.air.vemer = none → r.fcs = true → 11 ≤ r.len → r.len ≤ 255 → r.shaped = true → r.ver = 1 → r.ty = 0 → addrOk r.origin = true → r.dest = 0xFFFFF →
    s.airEp? r.origin = some e → e.joined = false ∨ r.mic = false ∨ e.vemer = true → ∃ t, exec (.airFrameRx r) s = .next t ∧
      fieldOf (t.reg aAirSec) 0 16 = satAdd 16 (fieldOf (s.reg aAirSec) 0 16) 1 ∧ t.air.eps = s.air.eps ∧ t.ses = s.ses ∧
      t = { s with air := t.air, regs := t.regs, qry := t.qry, out := [] }) ∧
  (∀ (r : AirRx) (e : AirEp) (s : State), s.airOn = true → s.usable r.ch = true → (liveCopies r { s with out := [] }).2 ≠ [] →
    s.air.vemer = none → r.fcs = true → 11 ≤ r.len → r.len ≤ 255 → r.shaped = true → r.ver = 1 → r.ty = 0 → addrOk r.origin = true → r.dest = 0xFFFFF →
    s.airEp? r.origin = some e → e.joined = true → r.mic = true → e.vemer = false → fcntFresh e r.fcnt = false →
    ∃ t, exec (.airFrameRx r) s = .next t ∧ fieldOf (t.reg aAirSec) 16 16 = satAdd 16 (fieldOf (s.reg aAirSec) 16 16) 1 ∧
      (tget t.air.eps (hAir r.origin)).map (fun x => (x.upHi, x.window, x.lastUp)) = some (e.upHi, e.window, e.lastUp) ∧ t.ses = s.ses ∧
      t = { s with air := t.air, regs := t.regs, qry := t.qry, out := [] }) ∧
  (∀ (r : AirRx) (p : Nat) (e : AirEp) (s : State), s.airOn = true → s.usable r.ch = true → (liveCopies r { s with out := [] }).2 ≠ [] →
    s.air.vemer = none → r.fcs = true → 11 ≤ r.len → r.len ≤ 255 → r.shaped = true → r.ver = 1 → r.ty = 0 → addrOk r.origin = true → r.dest = 0xFFFFF →
    s.airEp? r.origin = some e → r.ackReq = true → r.relayed = false → s.ackPort r (liveCopies r { s with out := [] }).2 = some p →
    ∃ t, exec (.airFrameRx r) s = .next t ∧
      (s.dwellOk 4096 r.ch (r.endT + 1000) ackTime = true → t.air.acks = s.air.acks ++ [⟨p, r.ch, r.endT + 1000, r.origin, r.msgid⟩]) ∧
      (s.dwellOk 4096 r.ch (r.endT + 1000) ackTime = false → t.air.acks = s.air.acks ∧ bit (t.reg aAirFlags) 1 = true)) ∧
  (∀ (r : AirRx) (e : AirTx) (w : Bytes) (s : State), s.airOn = true → s.usable r.ch = true → (liveCopies r { s with out := [] }).2 ≠ [] →
    s.air.vemer = none → r.fcs = true → 11 ≤ r.len → r.len ≤ 255 → r.shaped = true → r.ver = 1 → r.ty = 1 → r.ackOf = 0xFFFFF →
    s.air.q.find? (fun e => e.phase == .unacked && e.msgids.contains r.msgid) = some e → e.kind = .message w →
    ∃ t, exec (.airFrameRx r) s = .next t ∧ t.tx? e.id = none ∧ t.ses = (airResult e stOk [] s).ses ∧ t.air.eps = s.air.eps ∧
      t = { s with air := t.air, regs := t.regs, ses := t.ses, qry := t.qry, out := [] }) ∧
  (∀ (r : AirRx) (n : Nat) (e : AirEp) (s : State), s.airOn = true → s.usable r.ch = true → (liveCopies r { s with out := [] }).2 ≠ [] →
    s.air.vemer = none → r.fcs = true → 11 ≤ r.len → r.len ≤ 255 → r.shaped = true → r.ver = 1 → r.ty = 2 → r.origin = 0xFFFFE → r.dest = 0xFFFFF →
    s.air.eps.find? (fun e => !e.2.vemer && e.2.eui == r.eui) = some (n, e) → tget s.air.eps n = some e → r.mic = true →
    e.joinCtr < r.fcnt → s.flt.rngOk = true → ∃ t, exec (.airFrameRx r) s = .next t ∧
      (tget t.air.eps n).map (fun x => (x.joined, x.joinCtr, x.upHi, x.down, x.fresh)) = some (true, r.fcnt, 0, 0, true) ∧
      (∀ m, m ≠ n → tget t.air.eps m = tget s.air.eps m) ∧ ⟨n, r.ch, r.endT, r.msgid, r.fcnt, Config.freeNat s.free % 2 ^ 96⟩ ∈ t.air.joins ∧
      t = { s with air := t.air, regs := t.regs, qry := t.qry, free := t.free, out := [] })

/-! ### Flint -/

/-- R502, R504 to R514, R521: KEY_SESSION asks for new traffic keys, and key slots are loaded with new, imported and stored keys, unloaded, used, and
found BAD. -/
def Obligations.FlintKeySlots : Prop :=
  (∀ (src : Src) (tlvs : List Tlv) (s s1 : State) (c : Cmd), accepted opKeySession src tlvs s = some (s1, c) →
    ∃ t, exec (.keySession src tlvs) s = .next t ∧ AfterReply s1 t ∧ (replyGoes s1 src.key = true → Replied src c.ok t) ∧
      (∀ a, tget s1.ses.assoc (evKey src.key) = some a → twf s1.ses.assoc = true → a.closing = false →
        (tget t.ses.assoc (evKey src.key)).map (fun a => (a.keyUpdate, a.kuDue)) = some (true, false) ∧
        (replyGoes s1 src.key = true → Out.msg .dtlsKeyUpdate (evKey src.key) [] [] ∈ t.out))) ∧
  (∀ (src : Src) (tlvs : List Tlv) (s s1 : State) (c : Cmd), accepted opSlotLoad src tlvs s = some (s1, c) →
    c.has 0x0251 = false → c.has 0x0252 = true → s.regCount c.vctl < 16 * s.slotQuota c.vctl → s.flt.rngOk = true →
    ∃ t, exec (.slotLoad src tlvs) s = .next t ∧ t.free = s.free + 2 ∧
      t.flt.slots = tset s.flt.slots (slotKey c.vctl (c.nat 0x0250)) (sealSlot s.flt.intKey c.vctl ⟨beBytes (algKey (u c.newKey 0 1)) (Config.freeNat s.free), u c.newKey 0 1,
        u c.newKey 1 1, tgetD s.ten.incarn c.vctl 0, beBytes 12 (Config.freeNat (s.free + 1)), 0, s.freeReg c.vctl, [], false⟩) ∧
      t.flt.reg = tset s.flt.reg (regKey c.vctl (s.freeReg c.vctl)) ⟨beBytes (algKey (u c.newKey 0 1)) (Config.freeNat s.free), u c.newKey 0 1,
        u c.newKey 1 1, tgetD s.ten.incarn c.vctl 0, c.nat? 0x0255, false, s.newGens⟩ ∧
      AfterReply { s1 with flt := { s1.flt with slots := t.flt.slots, reg := t.flt.reg }, free := t.free, qry := t.qry, thm := t.thm } t ∧
      (c.has 0x0255 = false → t.qry = s.qry ∧ t.thm = s.thm) ∧
      tget s.flt.reg (regKey c.vctl (s.freeReg c.vctl)) = none ∧
      (∀ b, tget t.flt.reg (regKey c.vctl (s.freeReg c.vctl)) = some b → replyGoes s1 src.key = true →
        Replied src (c.ok [(0x0251, beBytes 4 (s.freeReg c.vctl)), (0x0258, blobHeader c.vctl (s.freeReg c.vctl) b s.flt.mK)]) t)) ∧
  (∀ (src : Src) (tlvs : List Tlv) (s s1 : State) (c : Cmd) (k : Bytes), accepted opSlotLoad src tlvs s = some (s1, c) →
    c.tlv? 0x0253 = some k → s.regCount c.vctl < 16 * s.slotQuota c.vctl → s.flt.rngOk = true →
    ∃ t, exec (.slotLoad src tlvs) s = .next t ∧ t.free = s.free + 1 ∧
      t.flt.slots = tset s.flt.slots (slotKey c.vctl (c.nat 0x0250)) (sealSlot s.flt.intKey c.vctl ⟨k.drop 4, u k 0 1, u k 1 1, tgetD s.ten.incarn c.vctl 0,
        beBytes 12 (Config.freeNat s.free), 0, s.freeReg c.vctl, [], false⟩) ∧
      t.flt.reg = tset s.flt.reg (regKey c.vctl (s.freeReg c.vctl))
        ⟨k.drop 4, u k 0 1, u k 1 1, tgetD s.ten.incarn c.vctl 0, c.nat? 0x0255, false, s.newGens⟩ ∧
      AfterReply { s1 with flt := { s1.flt with slots := t.flt.slots, reg := t.flt.reg }, free := t.free, qry := t.qry, thm := t.thm } t ∧
      (c.has 0x0255 = false → t.qry = s.qry ∧ t.thm = s.thm) ∧
      tget s.flt.reg (regKey c.vctl (s.freeReg c.vctl)) = none ∧
      (∀ b, tget t.flt.reg (regKey c.vctl (s.freeReg c.vctl)) = some b → replyGoes s1 src.key = true →
        Replied src (c.ok [(0x0251, beBytes 4 (s.freeReg c.vctl)), (0x0258, blobHeader c.vctl (s.freeReg c.vctl) b s.flt.mK)]) t)) ∧
  (∀ (src : Src) (tlvs : List Tlv) (s s1 : State) (c : Cmd) (b : Blob), accepted opSlotLoad src tlvs s = some (s1, c) →
    c.has 0x0251 = true → tget s.flt.reg (regKey c.vctl (c.nat 0x0251)) = some b → s.flt.rngOk = true →
    s.unwraps c.vctl (c.nat 0x0251) b = true → ∃ t, exec (.slotLoad src tlvs) s = .next t ∧
      t.flt.slots = tset s.flt.slots (slotKey c.vctl (c.nat 0x0250)) (sealSlot s.flt.intKey c.vctl ⟨b.key, b.alg, b.usage, b.incarn, beBytes 12 (Config.freeNat s.free), 0,
        c.nat 0x0251, [], false⟩) ∧
      AfterReply { s1 with flt := { s1.flt with slots := t.flt.slots }, free := s.free + 1 } t ∧
      (replyGoes s1 src.key = true → Replied src c.ok t)) ∧
  (∀ (src : Src) (tlvs : List Tlv) (s s1 : State) (c : Cmd) (b : Blob), accepted opSlotLoad src tlvs s = some (s1, c) →
    c.has 0x0251 = true → tget s.flt.reg (regKey c.vctl (c.nat 0x0251)) = some b → s.flt.rngOk = true →
    s.unwraps c.vctl (c.nat 0x0251) b = false → ∃ t, exec (.slotLoad src tlvs) s = .next t ∧
      t.flt.slots = terase s.flt.slots (slotKey c.vctl (c.nat 0x0250)) ∧ (b.loc = none → t.flt.reg = s.flt.reg) ∧
      AfterReply { s1 with flt := { s1.flt with slots := t.flt.slots, reg := t.flt.reg }, regs := t.regs,
                           ses := { s1.ses with evq := t.ses.evq } } t ∧
      (replyGoes s1 src.key = true → Replied src (c.reply stBlobNotBound) t)) ∧
  (∀ (src : Src) (tlvs : List Tlv) (s s1 : State) (c : Cmd), accepted opSlotUnload src tlvs s = some (s1, c) →
    (c.has 0x0251 = true → (tget s.flt.reg (regKey c.vctl (c.nat 0x0251))).isSome = true) →
    ∃ t, exec (.slotUnload src tlvs) s = .next t ∧
      t.flt.slots = (if c.has 0x0250 then terase s.flt.slots (slotKey c.vctl (c.nat 0x0250)) else s.flt.slots) ∧
      t.flt.reg = (if c.has 0x0251 then terase s.flt.reg (regKey c.vctl (c.nat 0x0251)) else s.flt.reg) ∧
      AfterReply { s1 with flt := { s1.flt with slots := t.flt.slots, reg := t.flt.reg } } t ∧
      (replyGoes s1 src.key = true → Replied src c.ok t)) ∧
  (∀ (src : Src) (tlvs : List Tlv) (s s1 : State) (c : Cmd) (x : Slot), accepted opSlotUse src tlvs s = some (s1, c) →
    tget s.flt.slots (slotKey c.vctl (c.nat 0x0250)) = some x → x.bad = false → s.tagOk c.vctl x = true → bit x.usage 0 = true → c.nat 0x0254 = 0 →
    x.ctr < 2 ^ 32 → ((c.tlv? 0x0009).getD []).length ≤ 1112 → ∃ t, exec (.slotUse src tlvs) s = .next t ∧
      tget t.flt.slots (slotKey c.vctl (c.nat 0x0250)) = some (sealSlot s.flt.intKey c.vctl { x with ctr := x.ctr + 1 }) ∧
      (∀ k, k ≠ slotKey c.vctl (c.nat 0x0250) → tget t.flt.slots k = tget s.flt.slots k) ∧
      AfterReply { s1 with flt := { s1.flt with slots := t.flt.slots } } t ∧
      (replyGoes s1 src.key = true → Replied src (c.ok [tData (x.salt ++ slotNonce x ++ beBytes (((c.tlv? 0x0009).getD []).length + 16)
        (Config.gcmSeal x.key x.salt (slotNonce x) ((c.tlv? 0x0256).getD []) ((c.tlv? 0x0009).getD [])))]) t)) ∧
  (∀ (src : Src) (tlvs : List Tlv) (s s1 : State) (c : Cmd) (x : Slot), accepted opSlotUse src tlvs s = some (s1, c) →
    tget s.flt.slots (slotKey c.vctl (c.nat 0x0250)) = some x → x.bad = false → s.tagOk c.vctl x = true → bit x.usage 2 = true → c.nat 0x0254 = 2 →
    ∃ t, exec (.slotUse src tlvs) s = .next t ∧ t.flt = s.flt ∧ AfterReply s1 t ∧
      (replyGoes s1 src.key = true → Replied src (c.ok [tData (beBytes 48 (Config.hmac384 x.key ((c.tlv? 0x0009).getD [])))]) t)) ∧
  (∀ (src : Src) (tlvs : List Tlv) (s s1 : State) (c : Cmd) (x : Slot), accepted opSlotUse src tlvs s = some (s1, c) →
    tget s.flt.slots (slotKey c.vctl (c.nat 0x0250)) = some x → x.bad = false → s.tagOk c.vctl x = false →
    ∃ t, exec (.slotUse src tlvs) s = .next t ∧ tget t.flt.slots (slotKey c.vctl (c.nat 0x0250)) = some { x with bad := true } ∧
      bit (t.reg aFltFlags) 0 = true ∧ t.ses.evq = (s.raise c.vctl 0x0801 [tCode (c.nat 0x0250)]).ses.evq ∧
      (replyGoes s1 src.key = true → Replied src (c.reply stKeySlotBad) t)) ∧
  (∀ (v n : Nat) (ok : Bool) (x : Slot) (s : State), s.flintOn = true → n < 64 → tget s.flt.slots (slotKey v n) = some x → x.bad = false →
    ok = false ∨ s.tagOk v x = false → ∃ t, exec (.slotIntegrityCheck v n ok) s = .next t ∧
      tget t.flt.slots (slotKey v n) = some { x with bad := true } ∧ (∀ k, k ≠ slotKey v n → tget t.flt.slots k = tget s.flt.slots k) ∧
      bit (t.reg aFltFlags) 0 = true ∧ t.ses = (s.raise v 0x0801 [tCode n]).ses ∧
      t = { s with flt := { s.flt with slots := t.flt.slots }, regs := t.regs, ses := t.ses, out := [] })

/-- R494, R502, R516 to R519, R521, R522: the generator fails and recovers, Flint halts, a migration re-wraps the registry, fuse banks advance, and
the firmware of Geode is held against its bank. -/
def Obligations.FlintGeneratorMigrationAndFuses : Prop :=
  (∀ s : State, s.pw.service = true → s.flt.st = 1 ∨ s.flt.st = 2 → ∃ t, exec .rngHealthFail s = .next t ∧
      t.flt = { s.flt with rngOk := false } ∧ bit (t.reg aFltFlags) 1 = true ∧ t.ses = (s.owner 0x0807 [tCode 0]).ses ∧
      t = { s with flt := t.flt, regs := t.regs, ses := t.ses, out := [] }) ∧
  (∀ s : State, s.pw.service = true → s.flt.st = 0 → exec .rngHealthFail s = exec (.flintHalt 4) s) ∧
  (∀ s : State, s.flintOn = true → s.flt.rngOk = false → ∃ t, exec .rngResume s = .next t ∧
      t.flt = { s.flt with rngOk := true, reseed := s.frm.now } ∧ t.ses = (s.owner 0x0807 [tCode 1]).ses ∧
      t = { s with flt := t.flt, ses := t.ses, strs := t.strs, free := t.free, out := t.out }) ∧
  (∀ s : State, s.flintOn = true → s.flt.rngOk = true →
    exec .rngReseed s = .next { s with flt := { s.flt with reseed := s.frm.now }, out := [] }) ∧
  (∀ (cause : Nat) (s : State), s.pw.service = true → s.flt.st ≠ 3 → 1 ≤ cause → cause ≤ 4 → ∃ t, exec (.flintHalt cause) s = .next t ∧
      t.flt = { s.flt with st := 3, halt := cause, rngOk := false } ∧ t.pw = { s.pw with main := false } ∧
      t.ses = { s.ses with assoc := [], hs := [] } ∧ t.boot.maint = false ∧ t.boot.inService = false ∧ t.lds.on = false ∧
      t.ten.vctls = s.ten.vctls ∧ t.ten.leases = [] ∧ t.out = []) ∧
  (∀ (g : Migr) (s : State), s.flintOn = true → s.flt.migr = some g → g.done = false → ∃ t, exec .keyMigrationComplete s = .next t ∧
      t.flt.migr = some { g with done := true } ∧ t.flt.modGens.contains g.target = true ∧ (∀ m ∈ s.flt.modGens, m ∈ t.flt.modGens) ∧
      (∀ k b, tget s.flt.reg k = some b → s.unwraps (k / 2 ^ 32) (k % 2 ^ 32) b = true →
        ∃ b', tget t.flt.reg k = some b' ∧ b'.gens.contains g.target = true ∧ (∀ m ∈ b.gens, m ∈ b'.gens) ∧ b'.key = b.key ∧ b'.stale = b.stale) ∧
      (∀ k b, tget s.flt.reg k = some b → s.unwraps (k / 2 ^ 32) (k % 2 ^ 32) b = false →
        ∃ b', tget t.flt.reg k = some b' ∧ b'.gens = b.gens ∧ b'.key = b.key ∧
          (b.gens.contains s.flt.mK = true → b'.stale = true) ∧ (b.gens.contains s.flt.mK = false → b'.stale = b.stale)) ∧
      ((∀ e ∈ s.flt.reg, s.unwraps (e.1 / 2 ^ 32) (e.1 % 2 ^ 32) e.2 = true) → twf s.flt.reg = true →
        t.flt.migrDone = s.flt.reg.length + s.modBlobs ∧ t.ses = (s.owner 0x0803 [tCode 1, tCount (s.flt.reg.length + s.modBlobs)]).ses) ∧
      t.flt.slots = s.flt.slots ∧ t.flt.mK = s.flt.mK ∧ t = { s with flt := t.flt, regs := t.regs, ses := t.ses, out := [] }) ∧
  (∀ (bank : Nat) (bad : List Nat) (i : Image) (f : Nat) (s : State), s.flintOn = true → bank ≤ 2 → tget s.boot.run (bankClass bank) = some i →
    tget s.flt.runs bank = some f → s.fuse bank < i.svn → i.advanceNow = true ∨ f + 8640000 ≤ s.frm.now →
    ∃ t, exec (.fuseAdvance bank bad) s = .next t ∧ t.fuse bank = i.svn ∧ (∀ b, b ≠ bank → t.fuse b = s.fuse b) ∧
      ((∃ n ∈ bad, s.fuse bank ≤ n ∧ n < i.svn) → bit (t.reg aFltFlags) 2 = true) ∧
      (bad = [] → t.ses = (s.owner 0x0804 [tCode bank, tCode i.svn]).ses ∧ t.regs = s.regs) ∧
      t = { s with flt := { s.flt with fuses := t.flt.fuses }, regs := t.regs, ses := t.ses, out := [] }) ∧
  (∀ (fw f v : Nat) (s : State), s.flintOn = true → s.flt.geoFw = some (fw, f) → s.geoSvn fw = some v → s.fuse 3 < v → v ≤ 64 →
    f + 8640000 ≤ s.frm.now → ∃ t, exec (.fuseAdvance 3 []) s = .next t ∧ t.fuse 3 = v ∧ (∀ b, b ≠ 3 → t.fuse b = s.fuse b) ∧
      t.ses = (s.owner 0x0804 [tCode 3, tCode v]).ses ∧ t = { s with flt := { s.flt with fuses := t.flt.fuses }, ses := t.ses, out := [] }) ∧
  (∀ (p : LinkPkt) (s : State), s.flintOn = true → s.geo.mir.pkt = some p → s.flt.geoFw.any (fun e => e.1 == p.fw) = false →
    ∃ t, exec .geodeFwCheck s = .next t ∧ t.flt = { s.flt with geoFw := some (p.fw, s.frm.now) } ∧
      (s.geoSvn p.fw = none → t.ses = ((s.raise 0 0x0806 [tValue (p.fw : Nat), tCode 1]).raise 1 0x0806 [tValue (p.fw : Nat), tCode 1]).ses) ∧
      (∀ v, s.geoSvn p.fw = some v → t.ses = (if v < s.fuse 3 then
        ((s.raise 0 0x0806 [tValue (p.fw : Nat), tCode 0]).raise 1 0x0806 [tValue (p.fw : Nat), tCode 0]).ses else s.ses)) ∧
      t = { s with flt := t.flt, ses := t.ses, out := [] })

/-! ### The spine -/

/-- R211, R212, R475 to R478, R491 to R493: messages are accepted once, links open by their setup and go up and down, are renewed and retried, frames
that are no message are counted, and SPINE_CONFIG takes effect. -/
def Obligations.SpineLinksOpenAndClose : Prop :=
  (∀ (east : Bool) (h : SpHdr) (a : SpAssoc) (s : State), h.ok = true → (s.spPort east).refused = false → (s.spPort east).assoc = some a →
    a.laid = h.laid → a.high < h.ctr → a.seen.contains h.ctr = false → ∃ b, b.high = h.ctr ∧ b.laid = a.laid ∧ b.key = a.key ∧ b.tx = a.tx ∧
      spAccept east h s = (s.modSp east (fun p => { p with assoc := some b }), true)) ∧
  (∀ (east : Bool) (h : SpHdr) (s : State), h.ok = false ∨ (s.spPort east).refused = true ∨ (s.spPort east).assoc = none ∨
      (∃ a, (s.spPort east).assoc = some a ∧ a.laid = h.laid ∧ (h.ctr = a.high ∨ h.ctr + 64 < a.high)) →
      spAccept east h s = (s.count aSpnDrop 0 16, false)) ∧
  (∀ (east : Bool) (s : State), s.pw.main = true → (s.spPort east).lock = false → s.thm.idled.contains (spCode east) = false → s.flt.rngOk = true →
    ∃ t, exec (.spinePortLink east .lock) s = .next t ∧ t.spPort east = { lock := true, init := s.frm.now, waiting := true, eph := some (Config.freeNat (s.free + 1), beBytes 12 (Config.freeNat s.free)) } ∧
      t.spPort (!east) = s.spPort (!east) ∧
      t.out = [.msg .spine (spCode east) [0x01, 0, 0, s.spineAddr, 0, 0, 0] (spClear east 0x01 s.spineAddr
        (s.linkSelf (Config.freeNat (s.free + 1), beBytes 12 (Config.freeNat s.free))))] ∧
      t = { s with spn := t.spn, free := s.free + 2, out := t.out }) ∧
  (∀ (east : Bool) (s : State), s.pw.main = true → (s.spPort east).up = true → s.spn.run = none →
    ∃ t, exec (.spinePortLink east .lost) s = .next t ∧
      t.spPort east = { s.spPort east with lock := false, assoc := none, old := none, waiting := false, eph := none, offer := none, hello := none,
                                           up := false } ∧
      bit (t.reg aSpnStat) 0 = true ∧ t.ses = (s.owner 0x0B01 [tPort (spCode east), tCode 0]).ses ∧
      t = { s with spn := t.spn, regs := t.regs, ses := t.ses, out := t.out }) ∧
  (∀ (east : Bool) (h : SpHdr) (s s1 : State), s.pw.main = true → spAccept east h { s with out := [] } = (s1, true) → (s.spPort east).up = false →
    s.spn.run = none → (∀ a, (s.spPort east).assoc = some a → a.tx + 1 < 2 ^ 64) → ∃ t, exec (.spinePortLink east (.hello h)) s = .next t ∧ (t.spPort east).up = true ∧
      (t.spPort east).hello = some s.frm.now ∧ t.ses = (s.owner 0x0B01 [tPort (spCode east), tCode 1]).ses ∧
      (∃ l b, Out.msg .spine (spCode east) (0x05 :: l) b ∈ t.out) ∧ t = { s with spn := t.spn, ses := t.ses, out := t.out }) ∧
  (∀ (east : Bool) (s : State), (s.spPort east).up = true → (∀ f, (s.spPort east).hello = some f → f + 3 < s.frm.now) →
    ∃ t, exec (.helloTimeout east) s = .next t ∧ (t.spPort east).up = false ∧ bit (t.reg aSpnStat) 0 = true ∧ t.spn.run = none ∧
      (s.spn.run = none → t.ses = (s.owner 0x0B01 [tPort (spCode east), tCode 0]).ses) ∧
      t = { s with spn := t.spn, regs := t.regs, ses := t.ses, out := t.out }) ∧
  (∀ (a b : SpAssoc) (s : State), s.pw.main = true → s.frm.beat = 20 → s.spn.helloAt ≠ some s.frm.now → s.spn.east.assoc = some a →
    s.spn.west.assoc = some b → a.tx + 1 < 2 ^ 64 → b.tx + 1 < 2 ^ 64 →
    ∃ t, exec .helloSend s = .next t ∧ t.out = [spLeaves true a 0x04 0 0 s.spineAddr false [] [], spLeaves false b 0x04 0 0 s.spineAddr false [] []] ∧
      t = { s with spn := { s.spn with helloAt := some s.frm.now, east := { s.spn.east with assoc := some { a with tx := a.tx + 1 } },
                                       west := { s.spn.west with assoc := some { b with tx := b.tx + 1 } } }, out := t.out }) ∧
  (∀ s : State, s.frm.beat ≠ 20 ∨ s.spn.helloAt = some s.frm.now → exec .helloSend s = .next { s with out := [] }) ∧
  (∀ (east : Bool) (p : LinkPeer) (laid : Nat) (own : Nat × Bytes) (s : State), s.pw.main = true → (s.spPort east).lock = true → s.flintOn = true → s.flt.rngOk = true →
    p.chain = true → p.tag = s.spn.tag → east = false ∨ (s.spPort east).waiting = false → laid = s.spn.laid % (2 ^ 32 - 1) + 1 →
    own = (Config.freeNat (s.free + 1), beBytes 12 (Config.freeNat s.free)) → ∃ t, exec (.spineLinkSetup east (.init p)) s = .next t ∧
      t.spPort east = { s.spPort east with refused := false, waiting := false, eph := none,
                                           offer := some (laid, linkKey own.1 p.key (p.nonce ++ own.2)) } ∧ t.spn.laid = laid ∧
      t.spPort (!east) = s.spPort (!east) ∧
      t.out = [.msg .spine (spCode east) [0x02, 0, 0, s.spineAddr, 0, 0, 0] (spClear east 0x02 s.spineAddr (beBytes 4 laid ++ s.linkSelf own ++
        linkSign (p.key ++ p256Bytes (Config.p256Pub own.1)) (p.nonce ++ own.2)))] ∧
      t = { s with spn := t.spn, free := s.free + 2, out := t.out }) ∧
  (∀ (east : Bool) (p : LinkPeer) (s : State), s.pw.main = true → (s.spPort east).lock = true → s.flintOn = true →
    (s.spPort east).up = false → p.chain = false ∨ p.tag ≠ s.spn.tag → ∃ t, exec (.spineLinkSetup east (.init p)) s = .next t ∧
      t.spPort east = { s.spPort east with assoc := none, old := none, waiting := false, eph := none, offer := none, hello := none,
                                           refused := true, init := s.frm.now } ∧
      bit (t.reg aSpnStat) 1 = true ∧ t.ses = (s.owner 0x0B01 [tPort (spCode east), tCode 2]).ses ∧
      t = { s with spn := t.spn, regs := t.regs, ses := t.ses, out := [] }) ∧
  (∀ (east : Bool) (p : LinkPeer) (laid : Nat) (own : Nat × Bytes) (key : Bytes) (s : State), s.pw.main = true → (s.spPort east).lock = true →
    s.flintOn = true → (s.spPort east).eph = some own → p.chain = true → p.tag = s.spn.tag → key = linkKey own.1 p.key (own.2 ++ p.nonce) →
    ∃ t, exec (.spineLinkSetup east (.resp p laid)) s = .next t ∧
      t.spPort east = { s.spPort east with assoc := some { laid := laid, key := key, tx := 1 },
                                           old := (s.spPort east).assoc.map (fun a => (a, s.frm.now + 8)),
                                           waiting := false, eph := none, offer := none, refused := false } ∧
      t.out = [spLeaves east { laid := laid, key := key } 0x03 0 0 s.spineAddr false []
        (linkSign (p256Bytes (Config.p256Pub own.1) ++ p.key) (own.2 ++ p.nonce))] ∧ t = { s with spn := t.spn, out := t.out }) ∧
  (∀ (east : Bool) (laid : Nat) (key : Bytes) (s : State), s.pw.main = true → (s.spPort east).lock = true → s.flintOn = true →
    (s.spPort east).offer = some (laid, key) → ∃ t, exec (.spineLinkSetup east (.confirm true laid)) s = .next t ∧
      t.spPort east = { s.spPort east with assoc := some { laid := laid, key := key }, old := (s.spPort east).assoc.map (fun a => (a, s.frm.now + 8)),
                                           waiting := false, eph := none, offer := none, refused := false } ∧
      t = { s with spn := t.spn, out := [] }) ∧
  (∀ (east ok : Bool) (laid : Nat) (s : State), s.pw.main = true → (s.spPort east).lock = true → s.flintOn = true →
    ok = false ∨ (s.spPort east).offer.map (·.1) ≠ some laid →
    exec (.spineLinkSetup east (.confirm ok laid)) s = .next (({ s with out := [] } : State).count aSpnDrop 0 16)) ∧
  (∀ (east : Bool) (s : State), s.pw.main = true → (s.spPort east).lock = true → (s.spPort east).assoc = none →
    (s.spPort east).init + 100 ≤ s.frm.now → s.flt.rngOk = true → ∃ t, exec (.spineLinkInitRetry east) s = .next t ∧
      t.spPort east = { s.spPort east with init := s.frm.now, waiting := true, eph := some (Config.freeNat (s.free + 1), beBytes 12 (Config.freeNat s.free)) } ∧
      t.out = [.msg .spine (spCode east) [0x01, 0, 0, s.spineAddr, 0, 0, 0] (spClear east 0x01 s.spineAddr
        (s.linkSelf (Config.freeNat (s.free + 1), beBytes 12 (Config.freeNat s.free))))] ∧
      t = { s with spn := t.spn, free := s.free + 2, out := t.out }) ∧
  (∀ (east : Bool) (o : SpAssoc) (f : Nat) (s : State), (s.spPort east).old = some (o, f) → f ≤ s.frm.now →
    ∃ t, exec (.spineLinkRekey east) s = .next t ∧ t.spPort east = { s.spPort east with old := none } ∧ t = { s with spn := t.spn, out := [] }) ∧
  (∀ (east : Bool) (a : SpAssoc) (s : State), (s.spPort east).old = none → (s.spPort east).assoc = some a → 2 ^ 62 ≤ a.tx → a.tx < 2 ^ 64 - 1 →
    a.high < 2 ^ 64 - 1 → (s.spPort east).waiting = false → s.flt.rngOk = true → ∃ t, exec (.spineLinkRekey east) s = .next t ∧
      t.spPort east = { s.spPort east with init := s.frm.now, waiting := true, eph := some (Config.freeNat (s.free + 1), beBytes 12 (Config.freeNat s.free)) } ∧ t = { s with spn := t.spn, free := s.free + 2, out := t.out }) ∧
  (∀ (east : Bool) (a : SpAssoc) (s : State), (s.spPort east).old = none → (s.spPort east).assoc = some a → 2 ^ 64 - 1 ≤ a.tx →
    ∃ t, exec (.spineLinkRekey east) s = .next t ∧ (t.spPort east).assoc = none ∧ (t.spPort east).up = false) ∧
  (∀ s : State, s.pw.main = true → ∃ t, exec (.spineFrameDiscarded .ttl) s = .next t ∧
      fieldOf (t.reg aSpnDrop) 16 8 = satAdd 8 (fieldOf (s.reg aSpnDrop) 16 8) 1 ∧ t = { s with regs := t.regs, out := [] }) ∧
  (∀ (why : SpDrop) (s : State), s.pw.main = true → why ≠ .ttl → ∃ t, exec (.spineFrameDiscarded why) s = .next t ∧
      fieldOf (t.reg aSpnDrop) 24 8 = satAdd 8 (fieldOf (s.reg aSpnDrop) 24 8) 1 ∧ t = { s with regs := t.regs, out := [] }) ∧
  (∀ (src : Src) (tlvs : List Tlv) (s s1 : State) (c : Cmd), accepted opSpineConfig src tlvs s = some (s1, c) →
    ∃ t, exec (.spineConfig src tlvs) s = .next t ∧ t.spn.tag = ((c.tlv? 0x0237).map some).getD s.spn.tag ∧
      (∀ v, c.nat? 0x0236 = some v → t.spn.ring = some (v / 256) ∧ t.spn.master = decide (v % 256 = 1)) ∧
      (c.has 0x0236 = false → t.spn.ring = s.spn.ring ∧ t.spn.master = s.spn.master) ∧
      (c.has 0x0236 = false → c.has 0x0238 = true → s.spn.master = false → t.spn.record = s.spn.changed ∧ t.spn.changed = none) ∧
      AfterReply { s1 with spn := t.spn, ses := { s1.ses with evq := t.ses.evq } } t ∧ (replyGoes s1 src.key = true → Replied src c.ok t))

/-- R31, R201 to R204, R478 to R483: the master's census, the token and the table of the ring, link notices, and relayed packets. -/
def Obligations.RingsAreCountedAndPacketsRelayed : Prop :=
  (∀ (r : Nat) (a : SpAssoc) (s : State), s.pw.main = true → s.spn.master = true → s.spn.ring = some r → s.spn.run = none →
    s.boot.inService = true → (∀ f, s.spn.last = some f → f + 6000 ≤ s.frm.now) → s.spn.east.up = true → s.spn.east.assoc = some a →
    a.tx + 1 < 2 ^ 64 → ∃ t, exec .ringCensusStart s = .next t ∧ t.spn.census = (s.spn.census + 1) % 65536 ∧ t.spn.last = some s.frm.now ∧
      t.spn.run = some ⟨false, s.frm.now, [], false⟩ ∧ 
      t.out = [spLeaves true a 0x10 63 0 s.spineAddr false [r, Config.moduleEui, (s.spn.census + 1) % 65536, 0]
        (tokenBody ⟨r, Config.moduleEui, (s.spn.census + 1) % 65536, 0⟩)] ∧
      t = { s with spn := t.spn, out := t.out }) ∧
  (∀ (c : RingCensus) (reach : List (Nat × Nat)) (s : State), s.spn.run = some c → c.west = false → c.since < s.frm.now →
    s.spn.west.up = false → s.spn.record = none → reach.length ≤ 63 → ∃ t, exec (.ringCensusTimeout reach) s = .next t ∧ t.spn.run = none ∧
      t.spn.record = some (reach.map (·.1)) ∧ (t.spn.table.map (·.result)) = some 0 ∧
      (t.spn.table.map (fun x => x.mods.map (·.1))) = some (Config.moduleEui :: reach.map (·.1)) ∧
      t.ses = (s.owner 0x0B02 [tCode 0, tCount s.spn.census, tBitmap (bitmapBytes 8 (0 :: (List.range reach.length).map (· + 1)))]).ses ∧
      t = { s with spn := t.spn, ses := t.ses, out := t.out }) ∧
  (∀ (c : RingCensus) (reach : List (Nat × Nat)) (a : SpAssoc) (r : Nat) (s : State), s.spn.run = some c → c.west = false → c.since < s.frm.now →
    s.spn.west.up = true → s.spn.west.assoc = some a → a.tx + 1 < 2 ^ 64 → s.spn.ring = some r → ∃ t, exec (.ringCensusTimeout reach) s = .next t ∧
      t.spn.run = some ⟨true, s.frm.now, reach, false⟩ ∧ 
      t.out = [spLeaves false a 0x10 63 0 s.spineAddr false [r, Config.moduleEui, s.spn.census, 0]
        (tokenBody ⟨r, Config.moduleEui, s.spn.census, 0⟩)] ∧ t = { s with spn := t.spn, out := t.out }) ∧
  (∀ (east : Bool) (h : SpHdr) (k : EnumTok) (reach : List (Nat × Nat)) (s s1 : State) (a : SpAssoc), s.pw.main = true →
    spAccept east h { s with out := [] } = (s1, true) → s.spn.ring = some k.ring → s.spn.master = false → k.pos < 63 → s.spn.token = none →
    (s.spPort (!east)).up = true → (s.spPort (!east)).assoc = some a → a.tx + 1 < 2 ^ 64 → h.ttl ≠ 0 → ∃ t, exec (.spineEnumerate east h k reach) s = .next t ∧
      t.spn.token = some (k.master, s.frm.now, if east then 0 else k.pos + 1) ∧
      t.out = [spLeaves (!east) a 0x10 (h.ttl - 1) 0 h.src false [k.ring, k.master, k.number, k.pos + 1] (tokenBody { k with pos := k.pos + 1 })] ∧
      t = { s with spn := t.spn, out := t.out }) ∧
  (∀ (east : Bool) (h : SpHdr) (k : EnumTok) (reach : List (Nat × Nat)) (s s1 : State) (a : SpAssoc), s.pw.main = true →
    spAccept east h { s with out := [] } = (s1, true) → s.spn.ring ≠ some k.ring → (s.spPort (!east)).up = true →
    (s.spPort (!east)).assoc = some a → a.tx + 1 < 2 ^ 64 → h.ttl ≠ 0 → ∃ t, exec (.spineEnumerate east h k reach) s = .next t ∧ t.spn.token = s.spn.token ∧
      t.out = [spLeaves (!east) a 0x10 (h.ttl - 1) 0 h.src false [k.ring, k.master, k.number, k.pos] (tokenBody k)] ∧
      t = { s with spn := t.spn, out := t.out }) ∧
  (∀ (east : Bool) (h : SpHdr) (result : Nat) (mods : List (Nat × Nat)) (k : Nat × Nat × Nat) (m : Nat × Nat) (s s1 : State), s.pw.main = true →
    spAccept east h { s with out := [] } = (s1, true) → s.spn.ring = some (h.src / 64) → s.spn.master = false → s.spn.token = some k →
    mods.head? = some m → k.1 = m.1 → ∃ t, exec (.ringTable east h result mods) s = .next t ∧ t.spn.table = some ⟨result, mods⟩ ∧
      t.spn.record = some ((mods.drop 1).map (·.1)) ∧ t = { s with spn := t.spn, regs := t.regs, out := t.out }) ∧
  (∀ (east eastUp westUp : Bool) (h : SpHdr) (s s1 : State), s.pw.main = true → spAccept east h { s with out := [] } = (s1, true) →
    s.spn.ring = some (h.src / 64) → tgetD s.spn.notices (h.src % 64) (true, true) = (true, true) → eastUp = false ∨ westUp = false →
    ∃ t, exec (.linkNotice east h eastUp westUp) s = .next t ∧ tget t.spn.notices (h.src % 64) = some (eastUp, westUp) ∧ t.spn.run = none ∧
      (s.spn.run = none → t.ses = s.ses) ∧
      (s.spn.run.isSome = true → t.ses = (s.owner 0x0B02 [tCode 6, tCount s.spn.census, tBitmap (bitmapBytes 8 [])]).ses) ∧
      t = { s with spn := t.spn, ses := t.ses, out := t.out }) ∧
  (∀ (port dst dscp q p : Nat) (e : Bool) (packet : Bytes) (a : SpAssoc) (s : State), s.pw.main = true → s.posOfAddr dst = some q →
    s.spinePos = some p → p ≠ q → s.spineWay q = some e → (s.spPort e).up = true → (s.spPort e).assoc = some a → a.tx + 1 < 2 ^ 64 → q < 64 →
    ∃ t, exec (.relay (.entry port dst 49400 dscp true packet)) s = .next t ∧ tget t.spn.relayed q = some port ∧
      t.out = [spLeaves e a 0x20 63 (s.spn.ring.getD 0 * 64 + q) s.spineAddr (dscp = 46) [] packet] ∧
      t = { s with spn := t.spn, out := t.out }) ∧
  (∀ (east : Bool) (h : SpHdr) (k : AssocKey) (packet : Bytes) (s s1 : State), s.pw.main = true →
    spAccept east h { s with out := [] } = (s1, true) → s.spMine h = true → actsFor k = 0 →
    ∃ t, exec (.relay (.msg east h false (some k) packet)) s = .next t ∧ tget t.spn.entry (evKey k) = some h.src ∧
      t = { s with spn := t.spn, out := [] }) ∧
  (∀ (east : Bool) (h : SpHdr) (packet : Bytes) (port : Nat) (key : Option AssocKey) (s s1 : State), s.pw.main = true →
    spAccept east h { s with out := [] } = (s1, true) → s.spMine h = true → tget s.spn.relayed (h.src % 64) = some port →
    ∃ t, exec (.relay (.msg east h true key packet)) s = .next t ∧ t.out = [.msg .ipTx port [] packet] ∧
      t = { s with spn := t.spn, out := t.out }) ∧
  (∀ s : State, s.pw.service = true → exec (.relay .fragment) s = .next (({ s with out := [] } : State).count aSvcFragDrop 0 32))

/-- R485 to R487, R489, R491, R493: sweeps are ordered and read, taken by their participants, latched at T and recorded. -/
def Obligations.SweepsAreOrderedAndLatched : Prop :=
  (∀ (src : Src) (tlvs : List Tlv) (s s1 : State) (c : Cmd), accepted opSweepOrder src tlvs s = some (s1, c) → c.nat 0x0230 = 0 →
    ∃ t, exec (.sweepOrder src tlvs) s = .next t ∧
      t.spn.sweep = some { id := c.nat 0x0231, t := c.nat 0x0232, origin := true, cmd := (evKey c.key, c.seq, c.cmdid) } ∧
      t.spn.results = ({ id := c.nat 0x0231, t := c.nat 0x0232, n := s.ringSize, replies := [(s.spinePos.getD 0, 0)] } :: s.spn.results).take 16 ∧
      t.reg (aLdsTmrCmp 4) = c.nat 0x0232 % 2 ^ 32 ∧ t.brg = s.brg ∧ t.lds = s.lds ∧ t.ten.leases = s.ten.leases ∧
      (replyGoes s1 src.key = true → Replied src c.pend t)) ∧
  (∀ (src : Src) (tlvs : List Tlv) (s s1 : State) (c : Cmd) (r : SweepRes), accepted opSweepOrder src tlvs s = some (s1, c) → c.nat 0x0230 = 1 →
    s.keptOf (c.nat 0x0231) = some r → ∃ t, exec (.sweepOrder src tlvs) s = .next t ∧
      t.spn.sweep.map (fun w => (w.id, w.t, w.origin, w.stage, w.start, w.cmd)) =
        some (r.id, r.t, true, .collecting, s.frm.now, (evKey c.key, c.seq, c.cmdid)) ∧ t.spn.results = s.spn.results ∧
      AfterReply { s1 with spn := t.spn } t ∧ (replyGoes s1 src.key = true → Replied src c.pend t)) ∧
  (∀ (src : Src) (tlvs : List Tlv) (s s1 : State) (c : Cmd) (r : SweepRes) (b : Bytes), accepted opSweepOrder src tlvs s = some (s1, c) →
    c.nat 0x0230 = 2 → s.keptOf (c.nat 0x0231) = some r → tget r.recs (c.nat 0x0233) = some b →
    ∃ t, exec (.sweepOrder src tlvs) s = .next t ∧ AfterReply s1 t ∧
      (replyGoes s1 src.key = true → Replied src (c.ok [tData (slice b (c.nat 0x0234) 1152)]) t)) ∧
  (∀ (src : Src) (tlvs : List Tlv) (s s1 : State) (c : Cmd) (r : SweepRes), accepted opSweepOrder src tlvs s = some (s1, c) → c.nat 0x0230 = 3 →
    s.keptOf (c.nat 0x0231) = some r → ∃ t, exec (.sweepOrder src tlvs) s = .next t ∧ AfterReply s1 t ∧
      (replyGoes s1 src.key = true → Replied src (c.ok [(0x0235, (List.range 64).map (fun p => byte (r.state p))), tCode (b2n r.complete)]) t)) ∧
  (∀ (east : Bool) (h : SpHdr) (id t0 : Nat) (s s1 : State), s.pw.main = true → spAccept east h { s with out := [] } = (s1, true) →
    s.spn.seen.contains id = false → s.spn.sweep = none → s.ns + 10000000 ≤ t0 → ∃ t, exec (.sweepOrderMsg east h id t0) s = .next t ∧
      t.spn.sweep = some { id := id, t := t0, origin := false } ∧ t.spn.seen = (id :: s.spn.seen).take 64 ∧
      t.reg (aLdsTmrCmp 4) = t0 % 2 ^ 32 ∧ t = { s with spn := t.spn, regs := t.regs, out := t.out }) ∧
  (∀ (east : Bool) (h : SpHdr) (id t0 : Nat) (s s1 : State), s.pw.main = true → spAccept east h { s with out := [] } = (s1, true) →
    s.spn.seen.contains id = false → s.spn.sweep.isSome = true ∨ t0 < s.ns + 10000000 → ∃ t, exec (.sweepOrderMsg east h id t0) s = .next t ∧
      t.spn.sweep = s.spn.sweep ∧ t.spn.seen = (id :: s.spn.seen).take 64 ∧
      (∀ d, t.regD (aLdsTmrCtl 4) d = s.regD (aLdsTmrCtl 4) d) ∧ t = { s with spn := t.spn, regs := t.regs, out := t.out }) ∧
  (∀ (east : Bool) (h : SpHdr) (id code : Nat) (s s1 : State), s.pw.main = true → spAccept east h { s with out := [] } = (s1, true) →
    s.spMine h = true → ∃ t, exec (.orderReply east h id code) s = .next t ∧
      t.spn.results = s.spn.results.map (fun r => if r.id = id then { r with replies := tset r.replies (h.src % 64) code } else r) ∧
      t.spn.sweep = s.spn.sweep ∧ t = { s with spn := t.spn, out := [] }) ∧
  (∀ (w : Sweep) (s : State), s.pw.main = true → s.spn.sweep = some w → w.stage = .waiting → w.t / 10000000 ≤ s.frm.now →
    ∃ t, exec .sweepLatch s = .next t ∧ t.spn.sweep = some { w with stage := .latching, latch := some (s.frm.now,
        2 * b2n (s.freeFlag != 0) + 4 * b2n s.geo.mir.silent, ldsCode s.lds.st, s.lds.offset) } ∧
      t.out = [.msg .narrow 2 [] (snapContent w.t 1)] ∧ t = { s with spn := t.spn, out := t.out }) ∧
  (∀ s : State, s.pw.main = true → (∀ w, s.spn.sweep = some w → w.stage ≠ .waiting) → ∃ t, exec .sweepLatch s = .next t ∧
      bit (t.reg aSpnStat) 4 = true ∧ t = { s with regs := t.regs, out := [] }) ∧
  (∀ (w : Sweep) (r : Reading) (s : State), s.spn.sweep = some w → w.stage = .latching → w.formed = false → s.sweepReading w = some r →
    ∃ t, exec .sweepRecordForm s = .next t ∧ ∃ b, t.spn.held = ((w.id, w.t, b) :: s.spn.held.filter (fun h => h.1 != w.id)).take 16 ∧
      b.length = 3904 ∧ b.take 3 = [0x53, 0x57, 1] ∧ slice b 4 4 = beBytes 4 w.id ∧ slice b 8 8 = beBytes 8 w.t ∧
      slice b 40 8 = beBytes 8 r.seq ∧ b.drop 64 = (r.bytes ++ beBytes 3840 0).take 3840 ∧
      t.spn.sweep = some { w with formed := true } ∧ t = { s with spn := t.spn, out := [] }) ∧
  (∀ (w : Sweep) (f l : Nat) (o : Int) (fl : Nat) (s : State), s.spn.sweep = some w → w.stage = .latching → w.formed = false →
    w.latch = some (f, fl, l, o) → s.sweepReading w = none → s.sweepDue w.t = true →
    ∃ t, exec .sweepRecordForm s = .next t ∧ ∃ b, t.spn.held = ((w.id, w.t, b) :: s.spn.held.filter (fun h => h.1 != w.id)).take 16 ∧
      b.length = 3904 ∧ slice b 24 1 = [byte (fl + 1)] ∧ b.drop 64 = beBytes 3840 0 ∧
      t.spn.sweep = some { w with formed := true } ∧ t = { s with spn := t.spn, out := [] }) ∧
  (∀ (w : Sweep) (s : State), s.spn.sweep = some w → w.origin = false → s.sweepDue w.t = true → ∃ t, exec .sweepParticipantClose s = .next t ∧
      t.spn.sweep = none ∧ (w.stage = .latching → w.formed = false → (t.spn.held.map (·.1)).head? = some w.id) ∧
      (w.formed = true → t.spn.held = s.spn.held) ∧ t = { s with spn := t.spn, out := [] })

/-- R488, R489: the records of a sweep are collected round the ring, and the result is final and answered. -/
def Obligations.SweepsAreCollected : Prop :=
  (∀ (w : Sweep) (a : SpAssoc) (s : State), s.spn.sweep = some w → w.origin = true → w.stage ≠ .collecting → s.sweepDue w.t = true →
    s.spn.east.up = true → s.spn.east.assoc = some a → a.tx + 1 < 2 ^ 64 → ∃ t, exec .collectionStart s = .next t ∧
      t.spn.sweep.map (fun w => (w.stage, w.start, w.west, w.ended)) = some (.collecting, s.frm.now, false, none) ∧
      (∃ m, t.out = [spLeaves true a 0x42 63 0 s.spineAddr false (w.id :: m) (collectBody w.id m)]) ∧
      t = { s with spn := t.spn, out := t.out }) ∧
  (∀ (east : Bool) (h : SpHdr) (id : Nat) (map : List Nat) (w : Sweep) (s s1 : State), s.pw.main = true →
    spAccept east h { s with out := [] } = (s1, true) → s.spinePos.isSome = true → h.src = s.spineAddr → s.spn.sweep = some w → w.id = id →
    w.origin = true → w.stage = .collecting → w.ended = none → w.west = true → ∃ t, exec (.collect east h id map) s = .next t ∧
      t.spn.sweep = some { w with ended := some s.frm.now } ∧ t.spn.results = s.spn.results ∧ t = { s with spn := t.spn, out := [] }) ∧
  (∀ (east : Bool) (h : SpHdr) (id p : Nat) (map : List Nat) (a : SpAssoc) (s s1 : State), s.pw.main = true →
    spAccept east h { s with out := [] } = (s1, true) → s.spinePos = some p → map.contains p = true → h.src ≠ s.spineAddr →
    (s.spPort (!east)).up = true → (s.spPort (!east)).assoc = some a → a.tx + 1 < 2 ^ 64 → h.ttl ≠ 0 → ∃ t, exec (.collect east h id map) s = .next t ∧
      t.out = [spLeaves (!east) a 0x42 (h.ttl - 1) 0 h.src false (id :: insNat p map) (collectBody id (insNat p map))] ∧
      t = { s with spn := t.spn, out := t.out }) ∧
  (∀ (east : Bool) (h : SpHdr) (id pos : Nat) (body : Bytes) (w : Sweep) (s s1 : State), s.pw.main = true →
    spAccept east h { s with out := [] } = (s1, true) → s.spMine h = true → s.spn.sweep = some w → w.id = id → w.origin = true →
    w.stage = .collecting → ∃ t, exec (.sweepRecord east h id pos body) s = .next t ∧
      t.spn.results = s.spn.results.map (fun r => if r.id = id ∧ r.done.contains pos = false then { r with recs := tset r.recs pos body } else r) ∧
      t.spn.sweep = s.spn.sweep ∧ t = { s with spn := t.spn, out := [] }) ∧
  (∀ (east : Bool) (h : SpHdr) (id : Nat) (w : Sweep) (s s1 : State), s.pw.main = true → spAccept east h { s with out := [] } = (s1, true) →
    s.spMine h = true → s.spn.sweep = some w → w.id = id → w.origin = true → w.stage = .collecting → w.ended = none →
    w.west = true ∨ s.spn.west.up = false → ∃ t, exec (.collectTurn east h id) s = .next t ∧
      t.spn.sweep = some { w with ended := some s.frm.now } ∧ t = { s with spn := t.spn, out := [] }) ∧
  (∀ (w : Sweep) (s : State), s.spn.sweep = some w → w.origin = true → w.stage = .collecting → w.ended = none → w.start + 20 ≤ s.frm.now →
    exec .collectionTimeout s = .next { s with spn := { s.spn with sweep := some { w with ended := some s.frm.now } }, out := [] }) ∧
  (∀ (w : Sweep) (f : Nat) (r : SweepRes) (s : State), s.spn.sweep = some w → w.origin = true → w.ended = some f → f < s.frm.now →
    s.keptOf w.id = some r → ∃ t, exec .sweepResultFinal s = .next t ∧ t.ses = (s.result w.cmd.1 w.cmd.2.1 w.cmd.2.2 stOk r.tlvs).ses ∧
      t = { s with spn := { s.spn with sweep := none }, ses := t.ses, out := [] })

/-! ### Rules stated whole, and the form of a state -/

/-- R22: a loop across strata is refused and leaves the ports as they were, whatever else the command carries; within a stratum any two fitted open
ports with an empty record on the higher make a loop, adjacent or not. -/
def Obligations.LoopsLieInOneStratum : Prop :=
  (∀ (src : Src) (tlvs : List Tlv) (s s1 : State) (c : Cmd) (lo hi : Byte), accepted opSegmentConfig src tlvs s = some (s1, c) →
    (0x0140, [lo, hi]) ∈ c.tlvs → lo.toNat / 16 ≠ hi.toNat / 16 → ∃ t, exec (.segmentConfig src tlvs) s = .next t ∧ t.strs = s.strs ∧
      AfterReply s1 t ∧ (c.tlvs = [(0x0140, [lo, hi])] → lo.toNat < hi.toNat → replyGoes s1 src.key = true →
        ∃ r, Replied src r t ∧ r.status = stConfigRefused)) ∧
  (∀ (src : Src) (tlvs : List Tlv) (s s1 : State) (c : Cmd) (lo hi : Byte), accepted opSegmentConfig src tlvs s = some (s1, c) →
    c.tlvs = [(0x0140, [lo, hi])] → lo.toNat / 16 = hi.toNat / 16 → lo.toNat < hi.toNat → bit s.pw.carrier.strings lo.toNat = true →
    bit s.pw.carrier.strings hi.toNat = true → (s.grain hi.toNat).record = [] → (s.grain lo.toNat).role = .single →
    (s.grain hi.toNat).role = .single → ∃ t, exec (.segmentConfig src tlvs) s = .next t ∧ (t.grain lo.toNat).role = .lower hi.toNat ∧
      (t.grain hi.toNat).role = .higher lo.toNat ∧ (replyGoes s1 src.key = true → Replied src c.ok t))

/-- R81: a written rate is clamped, takes effect at the next beat boundary, and stays within 1 part in 100,000 of the oscillator in every state. -/
def Obligations.IncWritesAreClampedAndBounded : Prop :=
  (∀ (v : Nat) (s : State), ∃ t, exec (.ldsIncWrite v) s = .next t ∧ t.lds = { s.lds with incNext := t.lds.incNext } ∧
      (0x02000000 - 335 ≤ v ∧ v ≤ 0x02000000 + 335 → t.lds.incNext = some v ∧ t.regs = s.regs) ∧
      (v < 0x02000000 - 335 → t.lds.incNext = some 0x01FFFEB1 ∧ bit (t.reg aLdsStat) 17 = true) ∧
      (0x02000000 + 335 < v → t.lds.incNext = some 0x0200014F ∧ bit (t.reg aLdsStat) 17 = true)) ∧
  (∀ (i : BeatIn) (v : Nat) (s : State), s.lds.on = true → s.pw.service = true → s.lds.st ≠ .switch → s.lds.incNext = some v →
    ∃ t, exec (.beatBoundary i) s = .next t ∧ t.lds.inc = v ∧ t.lds.freq = v ∧ t.lds.incNext = none) ∧
  (∀ (i : BeatIn) (s : State), s.lds.on = true → s.pw.service = true → s.lds.st ≠ .switch → s.lds.incNext = none →
    ∃ t, exec (.beatBoundary i) s = .next t ∧ t.lds.inc = s.lds.freq) ∧
  (∀ (i : BeatIn) (s : State), s.lds.on = true → s.pw.service = true → s.lds.st = .switch →
    ∃ t, exec (.beatBoundary i) s = .next t ∧ 0x01FFFEB1 ≤ t.lds.inc ∧ t.lds.inc ≤ 0x0200014F) ∧
  (∀ l : Lodestone, l.rateOk → 2 ^ 25 * 100000 ≤ l.inc * 100000 + 2 ^ 25 ∧ l.inc * 100000 ≤ 2 ^ 25 * 100000 + 2 ^ 25) ∧
  (∀ s t : State, s.InForm → step s = .next t → t.lds.rateOk)

/-- R106: pulses on one output are joined by OR, and of the channels that fire in one tick toward one internal destination the lowest-numbered one
delivers its trigger and the others set COINC. -/
def Obligations.CoincidentChannelsDeliverOneTrigger : Prop :=
  (∀ (n : Nat) (s : State), s.out = [] → n ∈ s.firing → 3 ≤ s.tmrDest n →
      ((∀ m ∈ s.firing, m < n → s.tmrDest m ≠ s.tmrDest n) → Out.msg .trigger (s.tmrDest n) [n] [] ∈ (atTick s).out) ∧
      ((∃ m ∈ s.firing, m < n ∧ s.tmrDest m = s.tmrDest n) →
        Out.msg .trigger (s.tmrDest n) [n] [] ∉ (atTick s).out ∧ bit ((atTick s).reg (aLdsTmrCtl n)) 10 = true)) ∧
  (∀ (n k v : Nat) (l : Tbl Nat) (s : State), s.lds.on = true → s.rated → (∀ m < 16, m ≠ n → bit (s.reg (aLdsTmrCtl m)) 0 = false) →
    s.lds.ppsOut = l → (∀ e ∈ l, k < s.ticksUntil e.2) → s.lds.fsyncOut = [] → s.lds.st ≠ .unset → n < 16 →
    bit (s.reg (aLdsTmrCtl n)) 0 = true → bit (s.reg (aLdsTmrCtl n)) 1 = false → s.tmrDest n = 1 → s.tmrWid n = v → 1 ≤ v → v ≤ 100000 →
    k = s.ticksUntil (s.reg (aLdsTmrCmp n)) → k < s.ticksToBeat → ∃ t, exec (.timerFire n) s = .next t ∧
      t.lds.ppsOut = tset l n (((ldsTicks k s.lds).nsReg + v * 1000) % 2 ^ 32) ∧
      t.out = [.msg .ppsOut 0 [1, (s.reg (aLdsTmrCmp n) + 2 ^ 32 - s.outAdvance) % 2 ^ 32] []]) ∧
  (∀ (n k v : Nat) (l : Tbl Nat) (s : State), s.lds.on = true → s.rated → (∀ m < 16, m ≠ n → bit (s.reg (aLdsTmrCtl m)) 0 = false) →
    s.lds.fsyncOut = l → (∀ e ∈ l, k < s.ticksUntil e.2) → s.lds.ppsOut = [] → s.lds.st ≠ .unset → n < 16 →
    bit (s.reg (aLdsTmrCtl n)) 0 = true → bit (s.reg (aLdsTmrCtl n)) 1 = false → s.tmrDest n = 2 → s.tmrWid n = v → 1 ≤ v → v ≤ 100000 →
    k = s.ticksUntil (s.reg (aLdsTmrCmp n)) → k < s.ticksToBeat → ∃ t, exec (.timerFire n) s = .next t ∧
      t.lds.fsyncOut = tset l n (((ldsTicks k s.lds).nsReg + v * 1000) % 2 ^ 32) ∧
      t.out = [.msg .fsyncOut 0 [1, (s.reg (aLdsTmrCmp n) + 2 ^ 32 - s.outAdvance) % 2 ^ 32] []]) ∧
  (∀ (n m k v w : Nat) (s : State), s.lds.on = true → s.rated → (∀ m < 16, bit (s.reg (aLdsTmrCtl m)) 0 = false) → n ≠ m →
    s.lds.ppsOut = tset [(m, w)] n v → s.lds.fsyncOut = [] → s.lds.st ≠ .unset → k = s.ticksUntil v → k < s.ticksUntil w → k < s.ticksToBeat →
    ∃ t, exec (.timerPulseEnd n) s = .next t ∧ t.lds.ppsOut = [(m, w)] ∧ t.out = [.msg .ppsOut 0 [1, (v + 2 ^ 32 - s.outAdvance) % 2 ^ 32] []]) ∧
  (∀ (n m k v w : Nat) (s : State), s.lds.on = true → s.rated → (∀ m < 16, bit (s.reg (aLdsTmrCtl m)) 0 = false) → n ≠ m →
    s.lds.fsyncOut = tset [(m, w)] n v → s.lds.ppsOut = [] → s.lds.st ≠ .unset → k = s.ticksUntil v → k < s.ticksUntil w → k < s.ticksToBeat →
    ∃ t, exec (.timerPulseEnd n) s = .next t ∧ t.lds.fsyncOut = [(m, w)] ∧
      t.out = [.msg .fsyncOut 0 [1, (v + 2 ^ 32 - s.outAdvance) % 2 ^ 32] []])

/-- R355: a SNAPSHOT message at a busy Geode, or after its own edge, is logged as missed and changes no snapshot; two channels that fire toward
DEST 4 in one tick send one message. -/
def Obligations.MissedSnapshotsAreLoggedOnly : Prop :=
  (∀ (t0 src : Nat) (s : State), s.geo.on = true → s.geo.narrow < 96 → s.geo.pend ≠ [] ∨ latchEdge t0 < s.geo.now →
    ∃ t, exec (.geodeSnapshotMsg t0 src true) s = .next t ∧ t.geo.pend = s.geo.pend ∧ t.geo.missed = satAdd 16 s.geo.missed 1 ∧
      t.geo.evs = s.geo.evs ++ [(0x0521, 0xFF, [tValue t0, tCode src, tCode (if s.geo.pend = [] then 1 else 0)])] ∧
      t.geo.nlog.getLast? = some ⟨s.geo.nlogSeq + 1, s.geo.now, 0x8002, b2n s.geo.free, beBytes 8 t0 ++ [byte src, 0, 0, 0]⟩ ∧
      t = { s with geo := { s.geo with narrow := s.geo.narrow + 1, missed := t.geo.missed, evs := t.geo.evs, nlogSeq := s.geo.nlogSeq + 1,
                                       nlog := t.geo.nlog }, out := [] }) ∧
  (∀ (a b k c : Nat) (s : State), s.lds.on = true → s.rated → s.Quiet [a, b] → a < b → b < 16 → (∀ n ∈ [a, b],
      bit (s.reg (aLdsTmrCtl n)) 0 = true ∧ bit (s.reg (aLdsTmrCtl n)) 1 = false ∧ s.tmrDest n = 4 ∧ s.reg (aLdsTmrCmp n) = c) →
    s.geo.mir.snaps = [] → k = s.ticksUntil c → k < s.ticksToBeat → ∃ t, exec (.timerFire b) s = .next t ∧
      t.out = [.msg .trigger 4 [a] [], .msg .narrow 2 [] (snapContent t.ns 0)] ∧ bit (t.reg (aLdsTmrCtl b)) 10 = true ∧
      bit (t.reg (aLdsTmrCtl a)) 10 = bit (s.reg (aLdsTmrCtl a)) 10)

/-- Every step keeps the form of the state: HBM canonical (R567), registers 32-bit words, the rate bounded (R81), tables ordered. That tables are
kept in order is the model's way to hold them. -/
def Obligations.EveryStepKeepsTheForm : Prop :=
  ∀ s t : State, s.InForm → step s = .next t → t.InForm

/-- At reset the form holds; no feed is usable and no domain runs, vCtl 0 and vCtl 1 exist (R39, R159), every slate code reads 0xFFFF (R251, R566),
HBM reads zeros (R567), slots are EMPTY (R510), and no command waits. What no rule resets is at the model's values (log 4). -/
def Obligations.ResetLeavesTheStatedState : Prop :=
  State.reset.InForm ∧ State.reset.pending = [] ∧ State.reset.out = [] ∧ State.reset.pw.feedA.usable = false ∧ State.reset.pw.feedB.usable = false ∧
  State.reset.pw.service = false ∧ State.reset.pw.main = false ∧ (State.reset.vctl? 0).isSome = true ∧ (State.reset.vctl? 1).isSome = true ∧
  (∀ h, State.reset.frontCode h = 0xFFFF) ∧ (∀ a, State.reset.qry.mem.read a = 0) ∧ (∀ k, tget State.reset.flt.slots k = none) ∧
  State.reset.flt.st = 0 ∧ State.reset.lds.st = .unset ∧ State.reset.lds.inc = 0x02000000
end
end

