-- ==== Sys2Proof/Laws/Tables.lean ====
section
/-!
SUPPORT. Laws/Tables.lean: what the operations on sparse tables do to the entry of a key, and that they keep the keys rising.
-/
namespace Sys2Proof.Machine

variable {α β : Type}

/-- Setting a key gives that key the value. -/
@[simp] theorem tget_tset_self (t : Tbl α) (k : Nat) (v : α) : tget (tset t k v) k = some v := by
  induction t with
  | nil => simp [tset, tget]
  | cons e r ih =>
    obtain ⟨j, w⟩ := e
    simp only [tset]
    split
    · simp [tget]
    · split
      · simp [tget]
      · simp [tget, *]

/-- Setting a key leaves every other key as it was. -/
theorem tget_tset_ne (t : Tbl α) {k j : Nat} (v : α) (h : j ≠ k) : tget (tset t k v) j = tget t j := by
  induction t with
  | nil => simp [tset, tget, Ne.symm h]
  | cons e r ih =>
    obtain ⟨i, w⟩ := e
    simp only [tset]
    split
    · simp [tget, Ne.symm h]
    · split
      · subst_vars; simp [tget, Ne.symm h]
      · simp [tget, ih]

/-- Reading one key of a table with another key set. -/
theorem tget_tset (t : Tbl α) (k j : Nat) (v : α) : tget (tset t k v) j = if j = k then some v else tget t j := by
  by_cases h : j = k
  · subst h; simp
  · simp [h, tget_tset_ne]

/-- Setting a key gives that key the value, whatever the default. -/
@[simp] theorem tgetD_tset_self (t : Tbl α) (k : Nat) (v d : α) : tgetD (tset t k v) k d = v := by simp [tgetD]

/-- Setting a key leaves what another key reads as. -/
theorem tgetD_tset_ne (t : Tbl α) {k j : Nat} (v d : α) (h : j ≠ k) : tgetD (tset t k v) j d = tgetD t j d := by
  simp [tgetD, tget_tset_ne, h]

/-- A filter on keys decides which keys remain. -/
theorem tget_filter_key (t : Tbl α) (p : Nat → Bool) (j : Nat) : tget (t.filter (fun e => p e.1)) j = if p j then tget t j else none := by
  induction t with
  | nil => simp [tget]
  | cons e r ih =>
    obtain ⟨i, w⟩ := e
    by_cases hp : p i
    · by_cases hij : i = j
      · subst hij; simp [tget, hp]
      · simp [tget, hp, ih, hij]
    · by_cases hij : i = j
      · subst hij; simp [hp, ih]
      · simp [tget, hp, ih, hij]

/-- An erased key has no entry. -/
@[simp] theorem tget_terase_self (t : Tbl α) (k : Nat) : tget (terase t k) k = none := by
  simp [terase, tget_filter_key t (fun i => i != k)]

/-- Erasing a key leaves every other key as it was. -/
theorem tget_terase_ne (t : Tbl α) {k j : Nat} (h : j ≠ k) : tget (terase t k) j = tget t j := by
  simp [terase, tget_filter_key t (fun i => i != k), h]

/-- A key put reads as the value put. -/
@[simp] theorem tgetD_tput_self [DecidableEq α] (d : α) (t : Tbl α) (k : Nat) (v : α) : tgetD (tput d t k v) k d = v := by
  unfold tput; split <;> simp [tgetD, *]

/-- Putting a key leaves what another key reads as. -/
theorem tgetD_tput_ne [DecidableEq α] (d : α) (t : Tbl α) {k j : Nat} (v : α) (h : j ≠ k) :
    tgetD (tput d t k v) j d = tgetD t j d := by
  unfold tput; split <;> simp [tgetD, tget_tset_ne, tget_terase_ne, h]

/-- Changing one key applies the function to its entry. -/
@[simp] theorem tget_tmod_self (t : Tbl α) (k : Nat) (f : α → α) : tget (tmod t k f) k = (tget t k).map f := by
  induction t with
  | nil => simp [tmod, tget]
  | cons e r ih =>
    obtain ⟨i, w⟩ := e
    by_cases h : i = k <;> simp_all [tmod, tget]

/-- Changing one key leaves every other key as it was. -/
theorem tget_tmod_ne (t : Tbl α) {k j : Nat} (f : α → α) (h : j ≠ k) : tget (tmod t k f) j = tget t j := by
  induction t with
  | nil => simp [tmod, tget]
  | cons e r ih =>
    obtain ⟨i, w⟩ := e
    by_cases hik : i = k
    · subst hik; simp_all [tmod, tget, Ne.symm h]
    · by_cases hij : i = j <;> simp_all [tmod, tget]

/-- Changing every entry applies the function to each. -/
theorem tget_tmap (t : Tbl α) (f : Nat → α → β) (j : Nat) : tget (tmap t f) j = (tget t j).map (f j) := by
  induction t with
  | nil => simp [tmap, tget]
  | cons e r ih =>
    obtain ⟨i, w⟩ := e
    by_cases h : i = j <;> simp_all [tmap, tget]

/-! ### The canonical form -/

/-- A table with rising keys is one whose keys are pairwise rising. -/
theorem twf_iff (t : Tbl α) : twf t = true ↔ t.Pairwise (fun a b => a.1 < b.1) := by
  induction t with
  | nil => simp [twf]
  | cons e r ih =>
    obtain ⟨i, w⟩ := e
    cases r with
    | nil => simp [twf]
    | cons e' r' =>
      obtain ⟨j, x⟩ := e'
      simp only [twf, Bool.and_eq_true, decide_eq_true_eq, ih]
      constructor
      · rintro ⟨h, hp⟩
        refine List.pairwise_cons.2 ⟨fun a ha => ?_, hp⟩
        rcases List.mem_cons.1 ha with rfl | ha
        · exact h
        · exact lt_trans h ((List.pairwise_cons.1 hp).1 a ha)
      · intro hp
        have := List.pairwise_cons.1 hp
        exact ⟨this.1 _ (List.mem_cons_self ..), this.2⟩

/-- The entries after setting a key are the new one or old ones. -/
theorem mem_tset (t : Tbl α) (k : Nat) (v : α) (e : Nat × α) (h : e ∈ tset t k v) : e = (k, v) ∨ e ∈ t := by
  induction t with
  | nil => simpa [tset] using h
  | cons a r ih =>
    obtain ⟨j, w⟩ := a
    simp only [tset] at h
    split at h
    · simpa using h
    · split at h
      · rcases List.mem_cons.1 h with h | h
        · exact .inl h
        · exact .inr (List.mem_cons_of_mem _ h)
      · rcases List.mem_cons.1 h with h | h
        · exact .inr (h ▸ List.mem_cons_self ..)
        · rcases ih h with h | h
          · exact .inl h
          · exact .inr (List.mem_cons_of_mem _ h)

/-- Setting a key keeps the keys rising. -/
theorem twf_tset (t : Tbl α) (k : Nat) (v : α) (h : twf t = true) : twf (tset t k v) = true := by
  rw [twf_iff] at *
  induction t with
  | nil => simp [tset]
  | cons e r ih =>
    obtain ⟨j, w⟩ := e
    have hp := List.pairwise_cons.1 h
    simp only [tset]
    split
    · rename_i hk
      refine List.pairwise_cons.2 ⟨fun a ha => ?_, h⟩
      rcases List.mem_cons.1 ha with rfl | ha
      · exact hk
      · exact lt_trans hk (hp.1 a ha)
    · split
      · subst_vars; exact List.pairwise_cons.2 ⟨hp.1, hp.2⟩
      · rename_i h1 h2
        refine List.pairwise_cons.2 ⟨fun a ha => ?_, ih hp.2⟩
        rcases mem_tset r k v a ha with rfl | ha
        · show j < k; omega
        · exact hp.1 a ha

/-- Leaving entries out keeps the keys rising. -/
theorem twf_filter (t : Tbl α) (p : Nat × α → Bool) (h : twf t = true) : twf (t.filter p) = true := by
  rw [twf_iff] at *; exact h.filter p

/-- Erasing a key keeps the keys rising. -/
theorem twf_terase (t : Tbl α) (k : Nat) (h : twf t = true) : twf (terase t k) = true := twf_filter t _ h

/-- Putting a key keeps the keys rising. -/
theorem twf_tput [DecidableEq α] (d : α) (t : Tbl α) (k : Nat) (v : α) (h : twf t = true) : twf (tput d t k v) = true := by
  unfold tput; split
  · exact twf_terase t k h
  · exact twf_tset t k v h

/-- A map that leaves the keys alone keeps them rising. -/
theorem twf_map (t : Tbl α) (f : Nat × α → Nat × β) (hf : ∀ e, (f e).1 = e.1) (h : twf t = true) : twf (t.map f) = true := by
  rw [twf_iff] at *; rw [List.pairwise_map]; exact h.imp (by intro a b hab; simpa [hf] using hab)

/-- Changing one key keeps the keys rising. -/
theorem twf_tmod (t : Tbl α) (k : Nat) (f : α → α) (h : twf t = true) : twf (tmod t k f) = true :=
  twf_map t _ (by intro e; split <;> rfl) h

/-- Changing every entry keeps the keys rising. -/
theorem twf_tmap (t : Tbl α) (f : Nat → α → β) (h : twf t = true) : twf (tmap t f) = true := twf_map t _ (fun _ => rfl) h

/-- Putting a key keeps the canonical form of a memory. -/
theorem tcanon_tput [DecidableEq α] (d : α) (t : Tbl α) (k : Nat) (v : α) (h : tcanon d t = true) : tcanon d (tput d t k v) = true := by
  simp only [tcanon, Bool.and_eq_true] at *
  refine ⟨twf_tput d t k v h.1, ?_⟩
  simp only [List.all_eq_true, decide_eq_true_eq] at *
  intro e he
  unfold tput at he
  split at he
  · exact h.2 e (List.mem_filter.1 he).1
  · rcases mem_tset t k v e he with rfl | he
    · assumption
    · exact h.2 e he

/-- Leaving entries out keeps the canonical form of a memory. -/
theorem tcanon_filter [DecidableEq α] (d : α) (t : Tbl α) (p : Nat × α → Bool) (h : tcanon d t = true) : tcanon d (t.filter p) = true := by
  simp only [tcanon, Bool.and_eq_true] at *
  refine ⟨twf_filter t p h.1, ?_⟩
  simp only [List.all_eq_true, decide_eq_true_eq] at *
  exact fun e he => h.2 e (List.mem_filter.1 he).1

end Sys2Proof.Machine
end

