-- ==== Sys2Proof/Laws/Regs.lean ====
section
/-!
SUPPORT. Laws/Regs.lean: what the operations on stored registers do.
-/
namespace Sys2Proof.Machine

/-- A stored register reads the word stored, modulo 2^32. -/
theorem setReg_reg (s : State) (a v : Nat) : (s.setReg a v).reg a = v % 2 ^ 32 := by
  simp only [State.setReg, State.reg, State.regD, tgetD_tset_self]

/-- Storing one register leaves every other one. -/
theorem setReg_reg_ne (s : State) {a b : Nat} (v : Nat) (h : b ≠ a) : (s.setReg a v).reg b = s.reg b := by
  simp [State.setReg, State.reg, State.regD, tgetD_tset_ne, h]

/-- Storing a register leaves every register but it, whatever its reset word. -/
theorem setReg_regD_ne (s : State) {a b : Nat} (v d : Nat) (h : b ≠ a) : (s.setReg a v).regD b d = s.regD b d := by
  simp [State.setReg, State.regD, tgetD_tset_ne, h]

/-- A bit below 32 that is set stays set when the word is stored (R15). -/
theorem bit_setBit (v k : Nat) (hk : k < 32) : bit (setBit v k % 2 ^ 32) k = true := by
  have key : ∀ w : Nat, bit (w % 2 ^ 32) k = bit w k := by
    intro w
    have h : w % 2 ^ 32 / 2 ^ k % 2 = w / 2 ^ k % 2 := by
      have e : 2 ^ 32 = 2 ^ k * 2 ^ (32 - k) := by rw [← pow_add]; congr 1; omega
      rw [e, Nat.mod_mul_right_div_self, Nat.mod_mod_of_dvd]
      exact dvd_pow_self 2 (by omega)
    simp only [bit, h]
  rw [key]
  unfold setBit
  split
  · assumption
  · rename_i h
    have hp : 0 < 2 ^ k := Nat.two_pow_pos k
    simp only [bit, beq_iff_eq] at h ⊢
    rw [Nat.add_div_right _ hp]; omega

/-- A hardware event sets its flag (R15). -/
@[simp] theorem setFlag_bit (s : State) (a k : Nat) (hk : k < 32) : bit ((s.setFlag a k).reg a) k = true := by
  rw [State.setFlag, setReg_reg]; exact bit_setBit _ _ hk

/-- A hardware event on one register leaves every other register. -/
theorem setFlag_reg_ne (s : State) {a b : Nat} (k : Nat) (h : b ≠ a) : (s.setFlag a k).reg b = s.reg b := setReg_reg_ne s _ h

/-- A field of a word after the field was replaced. -/
theorem fieldOf_withField (v lo w x : Nat) (h : lo + w ≤ 32) : fieldOf (withField v lo w x % 2 ^ 32) lo w = x % 2 ^ w := by
  have hp : 0 < 2 ^ lo := Nat.two_pow_pos lo
  have key : ∀ u : Nat, fieldOf (u % 2 ^ 32) lo w = fieldOf u lo w := by
    intro u
    have e : 2 ^ 32 = 2 ^ lo * 2 ^ (32 - lo) := by rw [← pow_add]; congr 1; omega
    rw [fieldOf, fieldOf, e, Nat.mod_mul_right_div_self, Nat.mod_mod_of_dvd]
    exact pow_dvd_pow 2 (by omega)
  rw [key]
  have hle : fieldOf v lo w * 2 ^ lo ≤ v := by
    unfold fieldOf
    calc v / 2 ^ lo % 2 ^ w * 2 ^ lo ≤ v / 2 ^ lo * 2 ^ lo := Nat.mul_le_mul_right _ (Nat.mod_le _ _)
      _ ≤ v := Nat.div_mul_le_self v (2 ^ lo)
  have hq : (v - fieldOf v lo w * 2 ^ lo) / 2 ^ lo = v / 2 ^ lo - fieldOf v lo w := by
    rw [Nat.mul_comm]; exact Nat.sub_mul_div v (2 ^ lo) (fieldOf v lo w)
  have hz : (v / 2 ^ lo - fieldOf v lo w) % 2 ^ w = 0 := by
    have : v / 2 ^ lo - fieldOf v lo w = 2 ^ w * (v / 2 ^ lo / 2 ^ w) := by
      have := Nat.div_add_mod (v / 2 ^ lo) (2 ^ w)
      simp only [fieldOf]; omega
    rw [this]; exact Nat.mul_mod_right _ _
  simp only [withField]
  rw [fieldOf, Nat.add_mul_div_right _ _ hp, hq, Nat.add_mod, hz, Nat.zero_add]
  simp

/-- A saturating counter in a field of a stored register goes up by n, at most to its top (R8). -/
theorem count_field (s : State) (a lo w n : Nat) (h : lo + w ≤ 32) :
    fieldOf ((s.count a lo w n).reg a) lo w = satAdd w (fieldOf (s.reg a) lo w) n := by
  simp only [State.count, State.setField, setReg_reg, fieldOf_withField _ _ _ _ h]
  apply Nat.mod_eq_of_lt
  have : 0 < 2 ^ w := Nat.two_pow_pos w
  simp only [satAdd]; omega

/-- Counting in one register leaves every other register. -/
theorem count_reg_ne (s : State) {a b : Nat} (lo w n : Nat) (h : b ≠ a) : (s.count a lo w n).reg b = s.reg b := setReg_reg_ne s _ h

end Sys2Proof.Machine
end

