-- ==== Sys2Proof/Laws/Exam.lean ====
section
/-!
SUPPORT. Laws/Exam.lean: what a row of an opcode does once its command is accepted.
-/
namespace Sys2Proof.Machine

theorem AfterReply.refl (u : State) : AfterReply u u := ⟨rfl, fun _ _ _ => rfl, fun _ => rfl, rfl, rfl⟩

theorem AfterReply.trans {u v t : State} (h : AfterReply u v) (k : AfterReply v t) : AfterReply u t := by
  refine ⟨?_, fun a d ha => (k.regs a d ha).trans (h.regs a d ha), fun n => (k.ports n).trans (h.ports n),
    k.spine.1.trans h.spine.1, k.spine.2.trans h.spine.2⟩
  have h1 := h.frame
  have k1 := k.frame
  rw [h1] at k1
  exact k1

/-- The queue plays no part. -/
theorem AfterReply.pending {u t : State} (h : AfterReply u t) (p : List Instr) :
    AfterReply { u with pending := p } { t with pending := p } :=
  ⟨congrArg (fun x : State => { x with pending := p }) h.frame, h.regs, h.ports, h.spine⟩

/-- Sending something changes the outputs only. -/
theorem afterReply_emit (s : State) (o : Out) : AfterReply s (s.emit o) := ⟨rfl, fun _ _ _ => rfl, fun _ => rfl, rfl, rfl⟩

/-- A discarded spine message is counted in SPN_DROP, and changes nothing else. -/
theorem afterReply_spOther (s : State) : AfterReply s (spOther s) :=
  ⟨rfl, fun _ d ha => setReg_regD_ne s _ d ha, fun _ => rfl, rfl, rfl⟩

/-- Changing the association table. -/
theorem afterReply_assoc (s : State) (l : Tbl Assoc) : AfterReply s { s with ses := { s.ses with assoc := l } } :=
  ⟨rfl, fun _ _ _ => rfl, fun _ => rfl, rfl, rfl⟩

/-- A message on a spine link raises the link's CTR. -/
theorem afterReply_spTx (east : Bool) (ty ttl dest src : Nat) (urgent : Bool) (args : List Nat) (body : Bytes) (s : State) :
    AfterReply s (spTx east ty ttl dest src urgent args body s) := by
  unfold spTx
  split
  · exact .refl s
  · unfold guardS
    split
    · cases east <;> exact ⟨rfl, fun _ _ _ => rfl, fun _ => rfl, rfl, rfl⟩
    · exact .refl s

/-- A message to one module by its route. -/
theorem afterReply_spTo (a ty ttl src : Nat) (urgent : Bool) (args : List Nat) (body : Bytes) (s : State) :
    AfterReply s (spTo a ty ttl src urgent args body s) := by
  unfold spTo
  split
  · split
    · exact afterReply_spTx ..
    · exact afterReply_spOther s
  · exact afterReply_spOther s

/-- A tag is given to a queued frame, and to nothing else of the port. -/
theorem tagCtl_rest (s : State) (v t : Nat) (p : QPort) : (tagCtl s v t p).rest = p.rest := by
  unfold tagCtl
  split
  · rfl
  · split <;> rfl

/-- A packet of TC5 changes the queue of TC5. -/
theorem afterReply_queueCtl (u v : Nat) (o : Out) (s : State) : AfterReply s (queueCtl u v o s) := by
  refine ⟨rfl, fun _ _ _ => rfl, fun k => ?_, rfl, rfl⟩
  show (tgetD (tset s.qry.ports (0x100 + u) _) k {}).rest = _
  by_cases h : k = 0x100 + u
  · subst h
    rw [tgetD_tset_self, tagCtl_rest]
    rfl
  · rw [tgetD_tset_ne _ _ _ h]

/-- What a packet of an association may change on its path. -/
theorem afterReply_sendVia (p : Path) (k : Nat) (o : Out) (s : State) : AfterReply s (sendVia p k o s) := by
  unfold sendVia
  repeat' split
  all_goals first
    | exact afterReply_emit s o
    | exact afterReply_spOther s
    | exact .refl s
    | exact (afterReply_queueCtl ..).trans (afterReply_emit ..)
    | exact (afterReply_spTo ..).trans (afterReply_emit ..)

/-- What a record of an association may change. -/
theorem afterReply_emitOn (k : AssocKey) (o : Out) (s : State) : AfterReply s (s.emitOn k o) := by
  unfold State.emitOn
  split
  · exact (afterReply_assoc s _).trans (afterReply_sendVia _ _ _ _)
  · exact afterReply_emit s o

/-- What a dropped association changes. -/
theorem afterReply_dropAssoc (n : Nat) (s : State) : AfterReply s (dropAssoc n s) := ⟨rfl, fun _ _ _ => rfl, fun _ => rfl, rfl, rfl⟩

theorem afterReply_closeSession (n : Nat) (s : State) : AfterReply s (closeSession n s) := by
  unfold closeSession
  split
  · exact (afterReply_sendVia _ _ _ s).trans (afterReply_dropAssoc n _)
  · exact .refl s

theorem afterReply_sendKeyUpdate (n : Nat) (s : State) : AfterReply s (sendKeyUpdate n s) := by
  unfold sendKeyUpdate
  split
  · exact (afterReply_assoc s _).trans (afterReply_sendVia _ _ _ _)
  · exact .refl s

/-- What follows the replies of a beat 0 changes sessions and outputs only. -/
theorem afterReply_settle (s : State) : AfterReply s (settle s) := by
  unfold settle
  suffices h : ∀ (l : Tbl Assoc) (u : State), AfterReply u (l.foldl (fun s e =>
      if e.2.closing then closeSession e.1 s else if e.2.kuDue then sendKeyUpdate e.1 s else s) u) from h _ s
  intro l
  induction l with
  | nil => exact fun u => .refl u
  | cons e l ih =>
    intro u
    refine AfterReply.trans ?_ (ih _)
    dsimp only
    split
    · exact afterReply_closeSession _ _
    · split
      · exact afterReply_sendKeyUpdate _ _
      · exact .refl u

theorem afterReply_noteClose (k : AssocKey) (rs : List Reply) (s : State) : AfterReply s (noteClose k rs s) := by
  unfold noteClose
  split
  · exact afterReply_assoc s _
  · exact .refl s

/-- What has been sent stays sent. -/
theorem mem_spTo (a ty ttl src : Nat) (urgent : Bool) (args : List Nat) (body : Bytes) (x : Out) (s : State) (h : x ∈ s.out) :
    x ∈ (spTo a ty ttl src urgent args body s).out := by
  unfold spTo spTx guardS
  repeat' split
  all_goals first
    | exact h
    | exact List.mem_append_left _ h

/-- The outputs only grow while sessions settle. -/
theorem mem_sendVia (p : Path) (k : Nat) (o x : Out) (s : State) (h : x ∈ s.out) : x ∈ (sendVia p k o s).out := by
  unfold sendVia
  repeat' split
  all_goals first
    | exact List.mem_append_left _ h
    | exact h
    | exact List.mem_append_left _ (mem_spTo _ _ _ _ _ _ _ _ _ h)

theorem mem_settle (x : Out) (s : State) (h : x ∈ s.out) : x ∈ (settle s).out := by
  unfold settle
  suffices g : ∀ (l : Tbl Assoc) (u : State), x ∈ u.out → x ∈ (l.foldl (fun s e =>
      if e.2.closing then closeSession e.1 s else if e.2.kuDue then sendKeyUpdate e.1 s else s) u).out from g _ s h
  intro l
  induction l with
  | nil => exact fun u h => h
  | cons e l ih =>
    intro u hu
    refine ih _ ?_
    dsimp only
    split
    · unfold closeSession; split
      · exact mem_sendVia _ _ _ _ _ hu
      · exact hu
    · split
      · unfold sendKeyUpdate; split
        · exact mem_sendVia _ _ _ _ _ hu
        · exact hu
      · exact hu

theorem mem_noteClose (k : AssocKey) (rs : List Reply) (x : Out) (s : State) (h : x ∈ s.out) : x ∈ (noteClose k rs s).out := by
  unfold noteClose; split <;> exact h

/-- Sessions play no part in the ways of the ring. -/
theorem reachFrom_ses (u : State) (x : Sessions) (east : Bool) (k p : Nat) : reachFrom { u with ses := x } p east k = reachFrom u p east k := by
  induction k generalizing p with
  | zero => rfl
  | succ k ih =>
    simp only [reachFrom, ih]
    rfl

theorem wayTo_ses (u : State) (x : Sessions) (e : Nat) : ({ u with ses := x } : State).wayTo e = u.wayTo e := by
  unfold State.wayTo State.spineWay
  simp only [reachFrom_ses]
  rfl

/-- A reply that goes is among the outputs. -/
theorem replied_emitOn (u : State) (k : AssocKey) (o : Out) (h : replyGoes u k = true) : o ∈ (u.emitOn k o).out := by
  unfold State.emitOn
  unfold replyGoes at h
  rw [Bool.and_eq_true] at h
  replace h := h.2
  simp only [State.assoc?, assocIx] at h
  cases ha : tget u.ses.assoc (evKey k) with
  | none => rw [ha] at h; exact absurd h (by simp)
  | some a =>
    simp only [ha] at h ⊢
    unfold sendVia
    cases hp : a.path <;> simp only [hp] at h ⊢
    · rw [if_pos (by exact h)]
      exact List.mem_append_right _ (List.mem_singleton.2 rfl)
    · exact List.mem_append_right _ (List.mem_singleton.2 rfl)
    · exact List.mem_append_right _ (List.mem_singleton.2 rfl)
    · rw [Bool.and_eq_true] at h
      obtain ⟨hl, hw⟩ := h
      cases he : tget u.spn.entry (evKey k) with
      | none => rw [he] at hw; exact absurd hw (by simp)
      | some e =>
        rw [he] at hw
        rw [if_neg (by show ¬(!u.inLight) = true; simp [hl])]
        dsimp only
        rw [if_pos (by rw [wayTo_ses]; exact hw)]
        exact List.mem_append_right _ (List.mem_singleton.2 rfl)

/-- One entry goes in one part, as it is or as the entry that stands for one too large (R145). -/
theorem packReply_one (a : Assoc) (r : Reply) : packReply a [r] = [[r.held]] := by
  have hr : r.held.size ≤ a.room - 16 := by
    have h1 : r.held.size ≤ 1176 := by
      unfold Reply.held
      split
      · assumption
      · simp [Reply.tooLarge, Reply.size, entrySize]
    have h2 : 1200 ≤ a.room := by unfold Assoc.room; split <;> omega
    omega
  unfold packReply
  cases hk : a.parts - 1 with
  | zero => simp [packGo, Reply.last, hr]
  | succ k => simp [packGo, hr]

/-- What the answer to a command that comes alone changes. -/
theorem afterReply_answer (m : Nat) (src : Src) (r : Reply) (u : State) : AfterReply u (answer m src (.done r) u) := by
  have hs : ∀ (v : Nat × Nat) (l : List (List Reply × Nat)) (n : Nat) (u : State), AfterReply u (l.foldl (fun s p =>
      s.emitOn src.key (.packet src.key (replyPacket src.key v src.seq p.2 (p.2 + 1 < n) p.1))) u) := by
    intro v l n
    induction l with
    | nil => exact fun u => .refl u
    | cons p l ih => exact fun u => (afterReply_emitOn _ _ u).trans (ih _)
  unfold answer
  split
  · exact ((hs _ _ _ u).trans (afterReply_noteClose _ _ _)).trans (afterReply_settle _)
  · exact .refl u
  · exact ⟨rfl, fun _ _ _ => rfl, fun _ => rfl, rfl, rfl⟩

/-- At a beat 0 the answer goes at once where it can go (R111). -/
theorem replied_answer (m : Nat) (src : Src) (r : Reply) (u : State) (h : replyGoes u src.key = true) :
    Replied src r (answer m src (.done r) u) := by
  have hb : u.frm.beat = 0 := by
    have := h
    simp only [replyGoes, Bool.and_eq_true, beq_iff_eq] at this
    exact this.1
  unfold answer
  cases ha : u.assoc? src.key with
  | none => simp [replyGoes, ha] at h
  | some a =>
    simp only [hb, packReply_one]
    refine ⟨(u.verFor src.key m).1, (u.verFor src.key m).2, mem_settle _ _ (mem_noteClose _ _ _ _ ?_)⟩
    simp only [sendReply, List.zipIdx_cons, List.zipIdx_nil, List.foldl_cons, List.foldl_nil]
    exact replied_emitOn u src.key _ h

/-- An accepted command is committed, and its reply is sent: the whole of what a row of an opcode does at a beat 0 (R111, R141, R142). -/
theorem runAs_accepted {i : OpInfo} {ph : Phase → Bool} {m : Nat} {src : Src} {tlvs : List Tlv} {s s1 : State} {c : Cmd}
    (h : acceptedIn ph i src tlvs s = some (s1, c)) :
    AfterReply (i.commit c s1).1 (runAs i ph m src tlvs { s with out := [] }) ∧
    (replyGoes (i.commit c s1).1 src.key = true → Replied src (i.commit c s1).2 (runAs i ph m src tlvs { s with out := [] })) := by
  unfold acceptedIn at h
  unfold runAs
  have ha : State.assoc? ({ s with out := [] } : State) src.key = s.assoc? src.key := rfl
  rw [ha]
  cases hk : s.assoc? src.key with
  | none => simp [hk] at h
  | some a =>
    simp only [hk] at h ⊢
    have hp : State.pathUp ({ s with out := [] } : State) a.path = s.pathUp a.path := rfl
    rw [hp]
    split at h
    · rename_i hg
      simp only [Bool.and_eq_true, beq_iff_eq] at hg
      obtain ⟨⟨hg1, hg2⟩, hg3⟩ := hg
      rw [if_neg (by simp [hg1, hg2])]
      split at h
      · rename_i s1' c' hs
        split at h
        · rename_i he
          simp only [Option.some.injEq, Prod.mk.injEq] at h
          obtain ⟨rfl, rfl⟩ := h
          have hper : perform i c' s1' = i.commit c' s1' := by
            unfold perform commitWith
            cases hi : i.early
            · simp only [hi, Bool.false_or] at he; simp [he]
            · simp
          simp only [hs, hper, hg3, decide_true, Bool.or_true, if_true]
          exact ⟨afterReply_answer _ _ _ _, replied_answer _ _ _ _⟩
        · exact absurd h (by simp)
      · exact absurd h (by simp)
    · exact absurd h (by simp)

/-- A list of checks finds no fault exactly where each of its checks passes. -/
theorem firstFault_ok {l : List (Except Err Unit)} : firstFault l = .ok () ↔ ∀ x ∈ l, x = .ok () := by
  induction l with
  | nil => simp [firstFault]
  | cons x r ih => cases x <;> simp [firstFault, ih]

/-- An examination passes exactly where the format of the TLVs and every check of R141 does; it then answers the command that they name. -/
theorem examine_iff {i : OpInfo} {key : AssocKey} {seq cmdid : Nat} {nd : Bool} {fl uid : Nat} {a : Assoc} {tlvs : List Tlv} {s : State} {c : Cmd} :
    examine i key seq cmdid nd fl uid a tlvs s = .ok c ↔ ∃ ks ign, checkFormat i tlvs = .ok (ks, ign) ∧
      (∀ x ∈ examChecks i (namedCmd i key seq cmdid nd fl uid a ks ign s) a s, x = .ok ()) ∧ c = namedCmd i key seq cmdid nd fl uid a ks ign s := by
  unfold examine
  rcases checkFormat i tlvs with e | ⟨ks, ign⟩
  · simp
  · cases hf : firstFault (examChecks i (namedCmd i key seq cmdid nd fl uid a ks ign s) a s) with
    | error e => simp only [hf]; constructor
                 · exact fun h => absurd h (by simp)
                 · rintro ⟨ks', ign', he, hx, -⟩
                   cases he
                   rw [firstFault_ok.2 hx] at hf
                   exact absurd hf (by simp)
    | ok u => simp only [hf, Except.ok.injEq]
              exact ⟨fun h => ⟨ks, ign, rfl, firstFault_ok.1 hf, h.symm⟩, fun ⟨ks', ign', he, _, hc⟩ => by cases he; exact hc.symm⟩

/-- What an examination that passes gives: a command of the row, of the same sender. -/
theorem examine_ok {i : OpInfo} {key : AssocKey} {seq cmdid : Nat} {nd : Bool} {fl uid : Nat} {a : Assoc} {tlvs : List Tlv} {s : State} {c : Cmd}
    (h : examine i key seq cmdid nd fl uid a tlvs s = .ok c) :
    c.op = i.op ∧ c.key = key ∧ c.seq = seq ∧ c.cmdid = cmdid ∧ c.uid = uid ∧ c.noData = nd := by
  obtain ⟨ks, ign, -, -, rfl⟩ := examine_iff.1 h
  exact ⟨rfl, rfl, rfl, rfl, rfl, rfl⟩

/-- Paying changes tokens and the count of R116. -/
theorem debit_eq (s : State) (c : Cmd) (k : Nat) : ∃ l v, s.debit c k = { s with ses := { s.ses with assoc := l }, ten := { s.ten with vctls := v } } := by
  unfold State.debit
  dsimp only
  split
  · exact ⟨_, s.ten.vctls, rfl⟩
  · exact ⟨_, _, rfl⟩

/-- An accepted command is one of its row and sender, and only its payment has changed the state (R141). -/
theorem acceptedIn_frame {i : OpInfo} {ph : Phase → Bool} {src : Src} {tlvs : List Tlv} {s s1 : State} {c : Cmd}
    (h : acceptedIn ph i src tlvs s = some (s1, c)) :
    AfterDebit s s1 ∧ c.op = i.op ∧ c.key = src.key ∧ c.seq = src.seq ∧ c.cmdid = src.cmdid ∧ c.noData = src.noData := by
  unfold acceptedIn submit at h
  split at h
  · exact absurd h (by simp)
  · split at h
    · split at h
      · rename_i s1' c' hs
        split at h
        · simp only [Option.some.injEq, Prod.mk.injEq] at h
          obtain ⟨rfl, rfl⟩ := h
          split at hs
          · exact absurd hs (by simp)
          · rename_i c2 hx
            obtain ⟨h1, h2, h3, h4, h5, h6⟩ := examine_ok hx
            split at hs
            · exact absurd hs (by simp)
            · simp only [Prod.mk.injEq, Except.ok.injEq] at hs
              obtain ⟨rfl, rfl⟩ := hs
              refine ⟨?_, h1, h2, h3, h4, h6⟩
              obtain ⟨l, v, e⟩ := debit_eq (({ s with out := [] } : State).modAssoc src.key (fun a => { a with lastRx := s.frm.now })) c2 (i.cost c2)
              simp only [e]; rfl
        · exact absurd h (by simp)
      · exact absurd h (by simp)
    · exact absurd h (by simp)

/-- The same for the meaning of a row. -/
theorem execOp_accepted {i : OpInfo} {src : Src} {tlvs : List Tlv} {s s1 : State} {c : Cmd} (h : accepted i src tlvs s = some (s1, c)) :
    ∃ t, execOp i src tlvs s = .next t ∧ AfterReply { (i.commit c s1).1 with pending := s.pending } t ∧
      (replyGoes (i.commit c s1).1 src.key = true → Replied src (i.commit c s1).2 t) := by
  obtain ⟨h1, h2⟩ := runAs_accepted (m := 3) h
  exact ⟨_, rfl, h1.pending _, h2⟩

end Sys2Proof.Machine
end

