-- ==== Sys2Proof/Laws/Hbm.lean ====
section
/-!
SUPPORT. Laws/Hbm.lean: the bytes of HBM, and the operations that keep its canonical form (R160, R163, R567).
-/
namespace Sys2Proof.Machine

/-- A byte written inside HBM is read back. -/
theorem Hbm.read_write_self (m : Hbm) {a : Nat} (b : Byte) (h : a < hbmSize) : (m.write a b).read a = b := by
  simp [Hbm.write, Hbm.read, h]

/-- A write leaves every other byte. -/
theorem Hbm.read_write_ne (m : Hbm) {a j : Nat} (b : Byte) (h : j ≠ a) : (m.write a b).read j = m.read j := by
  unfold Hbm.write Hbm.read
  split
  · exact tgetD_tput_ne _ _ _ h
  · rfl

/-- A write keeps the canonical form. -/
theorem Hbm.wf_write (m : Hbm) (a : Nat) (b : Byte) (h : m.wf = true) : (m.write a b).wf = true := by
  simp only [Hbm.wf, Hbm.write, Bool.and_eq_true] at h ⊢
  split
  · rename_i ha
    refine ⟨tcanon_tput _ _ _ _ h.1, ?_⟩
    simp only [List.all_eq_true, decide_eq_true_eq] at h ⊢
    intro e he
    unfold tput at he
    split at he
    · exact h.2 e (List.mem_of_mem_filter he)
    · rcases mem_tset _ _ _ _ he with rfl | he
      · exact ha
      · exact h.2 e he
  · exact h

/-- Leaving bytes out keeps the canonical form. -/
theorem Hbm.wf_filter (m : Hbm) (p : Nat × Byte → Bool) (h : m.wf = true) : Hbm.wf (m.filter p) = true := by
  simp only [Hbm.wf, Bool.and_eq_true] at h ⊢
  refine ⟨tcanon_filter _ _ _ h.1, ?_⟩
  simp only [List.all_eq_true, decide_eq_true_eq] at h ⊢
  exact fun e he => h.2 e (List.mem_of_mem_filter he)

/-- A byte of the MiB that is marked never-written reads 0. -/
theorem unwriteMib_read (s : State) (p a : Nat) :
    (s.unwriteMib p).qry.mem.read a = if a / 2 ^ 20 = p then 0 else s.qry.mem.read a := by
  show tgetD (s.qry.mem.filter (fun e => e.1 / 2 ^ 20 != p)) a 0 = _
  unfold tgetD
  rw [tget_filter_key s.qry.mem (fun k => k / 2 ^ 20 != p) a]
  by_cases h : a / 2 ^ 20 = p
  · rw [if_pos h, if_neg (by simpa using h)]; rfl
  · rw [if_neg h, if_pos (by simpa using h)]; rfl

/-- HBM keeps its form when a byte is written. -/
theorem hbmWrite_wf (s : State) (a : Nat) (b : Byte) (h : s.qry.mem.wf = true) : (s.hbmWrite a b).qry.mem.wf = true := Hbm.wf_write _ _ _ h

/-- HBM keeps its form when a MiB is marked never-written. -/
theorem unwriteMib_wf (s : State) (p : Nat) (h : s.qry.mem.wf = true) : (s.unwriteMib p).qry.mem.wf = true := Hbm.wf_filter _ _ h

/-- HBM keeps its form when a workspace is placed or cut (R171). -/
theorem setWorkspace_wf (v n : Nat) (s : State) (h : s.qry.mem.wf = true) : (setWorkspace v n s).qry.mem.wf = true := by
  unfold setWorkspace
  show Hbm.wf (((s.pages v).drop n).foldl (fun s p => s.unwriteMib p) s).qry.mem = true
  generalize (s.pages v).drop n = l
  induction l generalizing s with
  | nil => exact h
  | cons p l ih => exact ih _ (unwriteMib_wf s p h)

/-- HBM keeps its form when bytes are put into a workspace. -/
theorem wsPut_wf (v off : Nat) (b : Bytes) (s : State) (h : s.qry.mem.wf = true) : (wsPut v off b s).qry.mem.wf = true := by
  unfold wsPut
  generalize b.zipIdx = l
  induction l generalizing s with
  | nil => exact h
  | cons p l ih => exact ih _ (hbmWrite_wf _ _ _ h)

end Sys2Proof.Machine
end

