-- ==== Sys2Proof/Laws/State.lean ====
section
/-!
SUPPORT. Laws/State.lean: what each shared update of the state leaves and what it sets, field by field.
-/
namespace Sys2Proof.Machine

/-! `State.lds'` -/
@[simp] theorem State.lds'_pending (s : State) (f : Lodestone → Lodestone) : (s.lds' f).pending = s.pending := rfl
@[simp] theorem State.lds'_out (s : State) (f : Lodestone → Lodestone) : (s.lds' f).out = s.out := rfl
@[simp] theorem State.lds'_free (s : State) (f : Lodestone → Lodestone) : (s.lds' f).free = s.free := rfl
@[simp] theorem State.lds'_regs (s : State) (f : Lodestone → Lodestone) : (s.lds' f).regs = s.regs := rfl
@[simp] theorem State.lds'_pw (s : State) (f : Lodestone → Lodestone) : (s.lds' f).pw = s.pw := rfl
@[simp] theorem State.lds'_lds (s : State) (f : Lodestone → Lodestone) : (s.lds' f).lds = f s.lds := rfl
@[simp] theorem State.lds'_frm (s : State) (f : Lodestone → Lodestone) : (s.lds' f).frm = s.frm := rfl
@[simp] theorem State.lds'_ses (s : State) (f : Lodestone → Lodestone) : (s.lds' f).ses = s.ses := rfl
@[simp] theorem State.lds'_ten (s : State) (f : Lodestone → Lodestone) : (s.lds' f).ten = s.ten := rfl
@[simp] theorem State.lds'_strs (s : State) (f : Lodestone → Lodestone) : (s.lds' f).strs = s.strs := rfl
@[simp] theorem State.lds'_brg (s : State) (f : Lodestone → Lodestone) : (s.lds' f).brg = s.brg := rfl
@[simp] theorem State.lds'_slt (s : State) (f : Lodestone → Lodestone) : (s.lds' f).slt = s.slt := rfl
@[simp] theorem State.lds'_wak (s : State) (f : Lodestone → Lodestone) : (s.lds' f).wak = s.wak := rfl
@[simp] theorem State.lds'_lmp (s : State) (f : Lodestone → Lodestone) : (s.lds' f).lmp = s.lmp := rfl
@[simp] theorem State.lds'_geo (s : State) (f : Lodestone → Lodestone) : (s.lds' f).geo = s.geo := rfl
@[simp] theorem State.lds'_att (s : State) (f : Lodestone → Lodestone) : (s.lds' f).att = s.att := rfl
@[simp] theorem State.lds'_qry (s : State) (f : Lodestone → Lodestone) : (s.lds' f).qry = s.qry := rfl
@[simp] theorem State.lds'_air (s : State) (f : Lodestone → Lodestone) : (s.lds' f).air = s.air := rfl
@[simp] theorem State.lds'_spn (s : State) (f : Lodestone → Lodestone) : (s.lds' f).spn = s.spn := rfl
@[simp] theorem State.lds'_flt (s : State) (f : Lodestone → Lodestone) : (s.lds' f).flt = s.flt := rfl
@[simp] theorem State.lds'_boot (s : State) (f : Lodestone → Lodestone) : (s.lds' f).boot = s.boot := rfl
@[simp] theorem State.lds'_thm (s : State) (f : Lodestone → Lodestone) : (s.lds' f).thm = s.thm := rfl

/-! `State.tn` -/
@[simp] theorem State.tn_pending (s : State) (f : Tenancy → Tenancy) : (s.tn f).pending = s.pending := rfl
@[simp] theorem State.tn_out (s : State) (f : Tenancy → Tenancy) : (s.tn f).out = s.out := rfl
@[simp] theorem State.tn_free (s : State) (f : Tenancy → Tenancy) : (s.tn f).free = s.free := rfl
@[simp] theorem State.tn_regs (s : State) (f : Tenancy → Tenancy) : (s.tn f).regs = s.regs := rfl
@[simp] theorem State.tn_pw (s : State) (f : Tenancy → Tenancy) : (s.tn f).pw = s.pw := rfl
@[simp] theorem State.tn_lds (s : State) (f : Tenancy → Tenancy) : (s.tn f).lds = s.lds := rfl
@[simp] theorem State.tn_frm (s : State) (f : Tenancy → Tenancy) : (s.tn f).frm = s.frm := rfl
@[simp] theorem State.tn_ses (s : State) (f : Tenancy → Tenancy) : (s.tn f).ses = s.ses := rfl
@[simp] theorem State.tn_ten (s : State) (f : Tenancy → Tenancy) : (s.tn f).ten = f s.ten := rfl
@[simp] theorem State.tn_strs (s : State) (f : Tenancy → Tenancy) : (s.tn f).strs = s.strs := rfl
@[simp] theorem State.tn_brg (s : State) (f : Tenancy → Tenancy) : (s.tn f).brg = s.brg := rfl
@[simp] theorem State.tn_slt (s : State) (f : Tenancy → Tenancy) : (s.tn f).slt = s.slt := rfl
@[simp] theorem State.tn_wak (s : State) (f : Tenancy → Tenancy) : (s.tn f).wak = s.wak := rfl
@[simp] theorem State.tn_lmp (s : State) (f : Tenancy → Tenancy) : (s.tn f).lmp = s.lmp := rfl
@[simp] theorem State.tn_geo (s : State) (f : Tenancy → Tenancy) : (s.tn f).geo = s.geo := rfl
@[simp] theorem State.tn_att (s : State) (f : Tenancy → Tenancy) : (s.tn f).att = s.att := rfl
@[simp] theorem State.tn_qry (s : State) (f : Tenancy → Tenancy) : (s.tn f).qry = s.qry := rfl
@[simp] theorem State.tn_air (s : State) (f : Tenancy → Tenancy) : (s.tn f).air = s.air := rfl
@[simp] theorem State.tn_spn (s : State) (f : Tenancy → Tenancy) : (s.tn f).spn = s.spn := rfl
@[simp] theorem State.tn_flt (s : State) (f : Tenancy → Tenancy) : (s.tn f).flt = s.flt := rfl
@[simp] theorem State.tn_boot (s : State) (f : Tenancy → Tenancy) : (s.tn f).boot = s.boot := rfl
@[simp] theorem State.tn_thm (s : State) (f : Tenancy → Tenancy) : (s.tn f).thm = s.thm := rfl

/-! `State.sl` -/
@[simp] theorem State.sl_pending (s : State) (f : Slates → Slates) : (s.sl f).pending = s.pending := rfl
@[simp] theorem State.sl_out (s : State) (f : Slates → Slates) : (s.sl f).out = s.out := rfl
@[simp] theorem State.sl_free (s : State) (f : Slates → Slates) : (s.sl f).free = s.free := rfl
@[simp] theorem State.sl_regs (s : State) (f : Slates → Slates) : (s.sl f).regs = s.regs := rfl
@[simp] theorem State.sl_pw (s : State) (f : Slates → Slates) : (s.sl f).pw = s.pw := rfl
@[simp] theorem State.sl_lds (s : State) (f : Slates → Slates) : (s.sl f).lds = s.lds := rfl
@[simp] theorem State.sl_frm (s : State) (f : Slates → Slates) : (s.sl f).frm = s.frm := rfl
@[simp] theorem State.sl_ses (s : State) (f : Slates → Slates) : (s.sl f).ses = s.ses := rfl
@[simp] theorem State.sl_ten (s : State) (f : Slates → Slates) : (s.sl f).ten = s.ten := rfl
@[simp] theorem State.sl_strs (s : State) (f : Slates → Slates) : (s.sl f).strs = s.strs := rfl
@[simp] theorem State.sl_brg (s : State) (f : Slates → Slates) : (s.sl f).brg = s.brg := rfl
@[simp] theorem State.sl_slt (s : State) (f : Slates → Slates) : (s.sl f).slt = f s.slt := rfl
@[simp] theorem State.sl_wak (s : State) (f : Slates → Slates) : (s.sl f).wak = s.wak := rfl
@[simp] theorem State.sl_lmp (s : State) (f : Slates → Slates) : (s.sl f).lmp = s.lmp := rfl
@[simp] theorem State.sl_geo (s : State) (f : Slates → Slates) : (s.sl f).geo = s.geo := rfl
@[simp] theorem State.sl_att (s : State) (f : Slates → Slates) : (s.sl f).att = s.att := rfl
@[simp] theorem State.sl_qry (s : State) (f : Slates → Slates) : (s.sl f).qry = s.qry := rfl
@[simp] theorem State.sl_air (s : State) (f : Slates → Slates) : (s.sl f).air = s.air := rfl
@[simp] theorem State.sl_spn (s : State) (f : Slates → Slates) : (s.sl f).spn = s.spn := rfl
@[simp] theorem State.sl_flt (s : State) (f : Slates → Slates) : (s.sl f).flt = s.flt := rfl
@[simp] theorem State.sl_boot (s : State) (f : Slates → Slates) : (s.sl f).boot = s.boot := rfl
@[simp] theorem State.sl_thm (s : State) (f : Slates → Slates) : (s.sl f).thm = s.thm := rfl

/-! `State.wk` -/
@[simp] theorem State.wk_pending (s : State) (f : Wakes → Wakes) : (s.wk f).pending = s.pending := rfl
@[simp] theorem State.wk_out (s : State) (f : Wakes → Wakes) : (s.wk f).out = s.out := rfl
@[simp] theorem State.wk_free (s : State) (f : Wakes → Wakes) : (s.wk f).free = s.free := rfl
@[simp] theorem State.wk_regs (s : State) (f : Wakes → Wakes) : (s.wk f).regs = s.regs := rfl
@[simp] theorem State.wk_pw (s : State) (f : Wakes → Wakes) : (s.wk f).pw = s.pw := rfl
@[simp] theorem State.wk_lds (s : State) (f : Wakes → Wakes) : (s.wk f).lds = s.lds := rfl
@[simp] theorem State.wk_frm (s : State) (f : Wakes → Wakes) : (s.wk f).frm = s.frm := rfl
@[simp] theorem State.wk_ses (s : State) (f : Wakes → Wakes) : (s.wk f).ses = s.ses := rfl
@[simp] theorem State.wk_ten (s : State) (f : Wakes → Wakes) : (s.wk f).ten = s.ten := rfl
@[simp] theorem State.wk_strs (s : State) (f : Wakes → Wakes) : (s.wk f).strs = s.strs := rfl
@[simp] theorem State.wk_brg (s : State) (f : Wakes → Wakes) : (s.wk f).brg = s.brg := rfl
@[simp] theorem State.wk_slt (s : State) (f : Wakes → Wakes) : (s.wk f).slt = s.slt := rfl
@[simp] theorem State.wk_wak (s : State) (f : Wakes → Wakes) : (s.wk f).wak = f s.wak := rfl
@[simp] theorem State.wk_lmp (s : State) (f : Wakes → Wakes) : (s.wk f).lmp = s.lmp := rfl
@[simp] theorem State.wk_geo (s : State) (f : Wakes → Wakes) : (s.wk f).geo = s.geo := rfl
@[simp] theorem State.wk_att (s : State) (f : Wakes → Wakes) : (s.wk f).att = s.att := rfl
@[simp] theorem State.wk_qry (s : State) (f : Wakes → Wakes) : (s.wk f).qry = s.qry := rfl
@[simp] theorem State.wk_air (s : State) (f : Wakes → Wakes) : (s.wk f).air = s.air := rfl
@[simp] theorem State.wk_spn (s : State) (f : Wakes → Wakes) : (s.wk f).spn = s.spn := rfl
@[simp] theorem State.wk_flt (s : State) (f : Wakes → Wakes) : (s.wk f).flt = s.flt := rfl
@[simp] theorem State.wk_boot (s : State) (f : Wakes → Wakes) : (s.wk f).boot = s.boot := rfl
@[simp] theorem State.wk_thm (s : State) (f : Wakes → Wakes) : (s.wk f).thm = s.thm := rfl

/-! `State.lm` -/
@[simp] theorem State.lm_pending (s : State) (f : Lamps → Lamps) : (s.lm f).pending = s.pending := rfl
@[simp] theorem State.lm_out (s : State) (f : Lamps → Lamps) : (s.lm f).out = s.out := rfl
@[simp] theorem State.lm_free (s : State) (f : Lamps → Lamps) : (s.lm f).free = s.free := rfl
@[simp] theorem State.lm_regs (s : State) (f : Lamps → Lamps) : (s.lm f).regs = s.regs := rfl
@[simp] theorem State.lm_pw (s : State) (f : Lamps → Lamps) : (s.lm f).pw = s.pw := rfl
@[simp] theorem State.lm_lds (s : State) (f : Lamps → Lamps) : (s.lm f).lds = s.lds := rfl
@[simp] theorem State.lm_frm (s : State) (f : Lamps → Lamps) : (s.lm f).frm = s.frm := rfl
@[simp] theorem State.lm_ses (s : State) (f : Lamps → Lamps) : (s.lm f).ses = s.ses := rfl
@[simp] theorem State.lm_ten (s : State) (f : Lamps → Lamps) : (s.lm f).ten = s.ten := rfl
@[simp] theorem State.lm_strs (s : State) (f : Lamps → Lamps) : (s.lm f).strs = s.strs := rfl
@[simp] theorem State.lm_brg (s : State) (f : Lamps → Lamps) : (s.lm f).brg = s.brg := rfl
@[simp] theorem State.lm_slt (s : State) (f : Lamps → Lamps) : (s.lm f).slt = s.slt := rfl
@[simp] theorem State.lm_wak (s : State) (f : Lamps → Lamps) : (s.lm f).wak = s.wak := rfl
@[simp] theorem State.lm_lmp (s : State) (f : Lamps → Lamps) : (s.lm f).lmp = f s.lmp := rfl
@[simp] theorem State.lm_geo (s : State) (f : Lamps → Lamps) : (s.lm f).geo = s.geo := rfl
@[simp] theorem State.lm_att (s : State) (f : Lamps → Lamps) : (s.lm f).att = s.att := rfl
@[simp] theorem State.lm_qry (s : State) (f : Lamps → Lamps) : (s.lm f).qry = s.qry := rfl
@[simp] theorem State.lm_air (s : State) (f : Lamps → Lamps) : (s.lm f).air = s.air := rfl
@[simp] theorem State.lm_spn (s : State) (f : Lamps → Lamps) : (s.lm f).spn = s.spn := rfl
@[simp] theorem State.lm_flt (s : State) (f : Lamps → Lamps) : (s.lm f).flt = s.flt := rfl
@[simp] theorem State.lm_boot (s : State) (f : Lamps → Lamps) : (s.lm f).boot = s.boot := rfl
@[simp] theorem State.lm_thm (s : State) (f : Lamps → Lamps) : (s.lm f).thm = s.thm := rfl

/-! `State.geo'` -/
@[simp] theorem State.geo'_pending (s : State) (f : Geode → Geode) : (s.geo' f).pending = s.pending := rfl
@[simp] theorem State.geo'_out (s : State) (f : Geode → Geode) : (s.geo' f).out = s.out := rfl
@[simp] theorem State.geo'_free (s : State) (f : Geode → Geode) : (s.geo' f).free = s.free := rfl
@[simp] theorem State.geo'_regs (s : State) (f : Geode → Geode) : (s.geo' f).regs = s.regs := rfl
@[simp] theorem State.geo'_pw (s : State) (f : Geode → Geode) : (s.geo' f).pw = s.pw := rfl
@[simp] theorem State.geo'_lds (s : State) (f : Geode → Geode) : (s.geo' f).lds = s.lds := rfl
@[simp] theorem State.geo'_frm (s : State) (f : Geode → Geode) : (s.geo' f).frm = s.frm := rfl
@[simp] theorem State.geo'_ses (s : State) (f : Geode → Geode) : (s.geo' f).ses = s.ses := rfl
@[simp] theorem State.geo'_ten (s : State) (f : Geode → Geode) : (s.geo' f).ten = s.ten := rfl
@[simp] theorem State.geo'_strs (s : State) (f : Geode → Geode) : (s.geo' f).strs = s.strs := rfl
@[simp] theorem State.geo'_brg (s : State) (f : Geode → Geode) : (s.geo' f).brg = s.brg := rfl
@[simp] theorem State.geo'_slt (s : State) (f : Geode → Geode) : (s.geo' f).slt = s.slt := rfl
@[simp] theorem State.geo'_wak (s : State) (f : Geode → Geode) : (s.geo' f).wak = s.wak := rfl
@[simp] theorem State.geo'_lmp (s : State) (f : Geode → Geode) : (s.geo' f).lmp = s.lmp := rfl
@[simp] theorem State.geo'_geo (s : State) (f : Geode → Geode) : (s.geo' f).geo = f s.geo := rfl
@[simp] theorem State.geo'_att (s : State) (f : Geode → Geode) : (s.geo' f).att = s.att := rfl
@[simp] theorem State.geo'_qry (s : State) (f : Geode → Geode) : (s.geo' f).qry = s.qry := rfl
@[simp] theorem State.geo'_air (s : State) (f : Geode → Geode) : (s.geo' f).air = s.air := rfl
@[simp] theorem State.geo'_spn (s : State) (f : Geode → Geode) : (s.geo' f).spn = s.spn := rfl
@[simp] theorem State.geo'_flt (s : State) (f : Geode → Geode) : (s.geo' f).flt = s.flt := rfl
@[simp] theorem State.geo'_boot (s : State) (f : Geode → Geode) : (s.geo' f).boot = s.boot := rfl
@[simp] theorem State.geo'_thm (s : State) (f : Geode → Geode) : (s.geo' f).thm = s.thm := rfl

/-! `State.at'` -/
@[simp] theorem State.at'_pending (s : State) (f : Attrib → Attrib) : (s.at' f).pending = s.pending := rfl
@[simp] theorem State.at'_out (s : State) (f : Attrib → Attrib) : (s.at' f).out = s.out := rfl
@[simp] theorem State.at'_free (s : State) (f : Attrib → Attrib) : (s.at' f).free = s.free := rfl
@[simp] theorem State.at'_regs (s : State) (f : Attrib → Attrib) : (s.at' f).regs = s.regs := rfl
@[simp] theorem State.at'_pw (s : State) (f : Attrib → Attrib) : (s.at' f).pw = s.pw := rfl
@[simp] theorem State.at'_lds (s : State) (f : Attrib → Attrib) : (s.at' f).lds = s.lds := rfl
@[simp] theorem State.at'_frm (s : State) (f : Attrib → Attrib) : (s.at' f).frm = s.frm := rfl
@[simp] theorem State.at'_ses (s : State) (f : Attrib → Attrib) : (s.at' f).ses = s.ses := rfl
@[simp] theorem State.at'_ten (s : State) (f : Attrib → Attrib) : (s.at' f).ten = s.ten := rfl
@[simp] theorem State.at'_strs (s : State) (f : Attrib → Attrib) : (s.at' f).strs = s.strs := rfl
@[simp] theorem State.at'_brg (s : State) (f : Attrib → Attrib) : (s.at' f).brg = s.brg := rfl
@[simp] theorem State.at'_slt (s : State) (f : Attrib → Attrib) : (s.at' f).slt = s.slt := rfl
@[simp] theorem State.at'_wak (s : State) (f : Attrib → Attrib) : (s.at' f).wak = s.wak := rfl
@[simp] theorem State.at'_lmp (s : State) (f : Attrib → Attrib) : (s.at' f).lmp = s.lmp := rfl
@[simp] theorem State.at'_geo (s : State) (f : Attrib → Attrib) : (s.at' f).geo = s.geo := rfl
@[simp] theorem State.at'_att (s : State) (f : Attrib → Attrib) : (s.at' f).att = f s.att := rfl
@[simp] theorem State.at'_qry (s : State) (f : Attrib → Attrib) : (s.at' f).qry = s.qry := rfl
@[simp] theorem State.at'_air (s : State) (f : Attrib → Attrib) : (s.at' f).air = s.air := rfl
@[simp] theorem State.at'_spn (s : State) (f : Attrib → Attrib) : (s.at' f).spn = s.spn := rfl
@[simp] theorem State.at'_flt (s : State) (f : Attrib → Attrib) : (s.at' f).flt = s.flt := rfl
@[simp] theorem State.at'_boot (s : State) (f : Attrib → Attrib) : (s.at' f).boot = s.boot := rfl
@[simp] theorem State.at'_thm (s : State) (f : Attrib → Attrib) : (s.at' f).thm = s.thm := rfl

/-! `State.qr` -/
@[simp] theorem State.qr_pending (s : State) (f : Quarry → Quarry) : (s.qr f).pending = s.pending := rfl
@[simp] theorem State.qr_out (s : State) (f : Quarry → Quarry) : (s.qr f).out = s.out := rfl
@[simp] theorem State.qr_free (s : State) (f : Quarry → Quarry) : (s.qr f).free = s.free := rfl
@[simp] theorem State.qr_regs (s : State) (f : Quarry → Quarry) : (s.qr f).regs = s.regs := rfl
@[simp] theorem State.qr_pw (s : State) (f : Quarry → Quarry) : (s.qr f).pw = s.pw := rfl
@[simp] theorem State.qr_lds (s : State) (f : Quarry → Quarry) : (s.qr f).lds = s.lds := rfl
@[simp] theorem State.qr_frm (s : State) (f : Quarry → Quarry) : (s.qr f).frm = s.frm := rfl
@[simp] theorem State.qr_ses (s : State) (f : Quarry → Quarry) : (s.qr f).ses = s.ses := rfl
@[simp] theorem State.qr_ten (s : State) (f : Quarry → Quarry) : (s.qr f).ten = s.ten := rfl
@[simp] theorem State.qr_strs (s : State) (f : Quarry → Quarry) : (s.qr f).strs = s.strs := rfl
@[simp] theorem State.qr_brg (s : State) (f : Quarry → Quarry) : (s.qr f).brg = s.brg := rfl
@[simp] theorem State.qr_slt (s : State) (f : Quarry → Quarry) : (s.qr f).slt = s.slt := rfl
@[simp] theorem State.qr_wak (s : State) (f : Quarry → Quarry) : (s.qr f).wak = s.wak := rfl
@[simp] theorem State.qr_lmp (s : State) (f : Quarry → Quarry) : (s.qr f).lmp = s.lmp := rfl
@[simp] theorem State.qr_geo (s : State) (f : Quarry → Quarry) : (s.qr f).geo = s.geo := rfl
@[simp] theorem State.qr_att (s : State) (f : Quarry → Quarry) : (s.qr f).att = s.att := rfl
@[simp] theorem State.qr_qry (s : State) (f : Quarry → Quarry) : (s.qr f).qry = f s.qry := rfl
@[simp] theorem State.qr_air (s : State) (f : Quarry → Quarry) : (s.qr f).air = s.air := rfl
@[simp] theorem State.qr_spn (s : State) (f : Quarry → Quarry) : (s.qr f).spn = s.spn := rfl
@[simp] theorem State.qr_flt (s : State) (f : Quarry → Quarry) : (s.qr f).flt = s.flt := rfl
@[simp] theorem State.qr_boot (s : State) (f : Quarry → Quarry) : (s.qr f).boot = s.boot := rfl
@[simp] theorem State.qr_thm (s : State) (f : Quarry → Quarry) : (s.qr f).thm = s.thm := rfl

/-! `State.ar` -/
@[simp] theorem State.ar_pending (s : State) (f : Air → Air) : (s.ar f).pending = s.pending := rfl
@[simp] theorem State.ar_out (s : State) (f : Air → Air) : (s.ar f).out = s.out := rfl
@[simp] theorem State.ar_free (s : State) (f : Air → Air) : (s.ar f).free = s.free := rfl
@[simp] theorem State.ar_regs (s : State) (f : Air → Air) : (s.ar f).regs = s.regs := rfl
@[simp] theorem State.ar_pw (s : State) (f : Air → Air) : (s.ar f).pw = s.pw := rfl
@[simp] theorem State.ar_lds (s : State) (f : Air → Air) : (s.ar f).lds = s.lds := rfl
@[simp] theorem State.ar_frm (s : State) (f : Air → Air) : (s.ar f).frm = s.frm := rfl
@[simp] theorem State.ar_ses (s : State) (f : Air → Air) : (s.ar f).ses = s.ses := rfl
@[simp] theorem State.ar_ten (s : State) (f : Air → Air) : (s.ar f).ten = s.ten := rfl
@[simp] theorem State.ar_strs (s : State) (f : Air → Air) : (s.ar f).strs = s.strs := rfl
@[simp] theorem State.ar_brg (s : State) (f : Air → Air) : (s.ar f).brg = s.brg := rfl
@[simp] theorem State.ar_slt (s : State) (f : Air → Air) : (s.ar f).slt = s.slt := rfl
@[simp] theorem State.ar_wak (s : State) (f : Air → Air) : (s.ar f).wak = s.wak := rfl
@[simp] theorem State.ar_lmp (s : State) (f : Air → Air) : (s.ar f).lmp = s.lmp := rfl
@[simp] theorem State.ar_geo (s : State) (f : Air → Air) : (s.ar f).geo = s.geo := rfl
@[simp] theorem State.ar_att (s : State) (f : Air → Air) : (s.ar f).att = s.att := rfl
@[simp] theorem State.ar_qry (s : State) (f : Air → Air) : (s.ar f).qry = s.qry := rfl
@[simp] theorem State.ar_air (s : State) (f : Air → Air) : (s.ar f).air = f s.air := rfl
@[simp] theorem State.ar_spn (s : State) (f : Air → Air) : (s.ar f).spn = s.spn := rfl
@[simp] theorem State.ar_flt (s : State) (f : Air → Air) : (s.ar f).flt = s.flt := rfl
@[simp] theorem State.ar_boot (s : State) (f : Air → Air) : (s.ar f).boot = s.boot := rfl
@[simp] theorem State.ar_thm (s : State) (f : Air → Air) : (s.ar f).thm = s.thm := rfl

/-! `State.sp` -/
@[simp] theorem State.sp_pending (s : State) (f : Spine → Spine) : (s.sp f).pending = s.pending := rfl
@[simp] theorem State.sp_out (s : State) (f : Spine → Spine) : (s.sp f).out = s.out := rfl
@[simp] theorem State.sp_free (s : State) (f : Spine → Spine) : (s.sp f).free = s.free := rfl
@[simp] theorem State.sp_regs (s : State) (f : Spine → Spine) : (s.sp f).regs = s.regs := rfl
@[simp] theorem State.sp_pw (s : State) (f : Spine → Spine) : (s.sp f).pw = s.pw := rfl
@[simp] theorem State.sp_lds (s : State) (f : Spine → Spine) : (s.sp f).lds = s.lds := rfl
@[simp] theorem State.sp_frm (s : State) (f : Spine → Spine) : (s.sp f).frm = s.frm := rfl
@[simp] theorem State.sp_ses (s : State) (f : Spine → Spine) : (s.sp f).ses = s.ses := rfl
@[simp] theorem State.sp_ten (s : State) (f : Spine → Spine) : (s.sp f).ten = s.ten := rfl
@[simp] theorem State.sp_strs (s : State) (f : Spine → Spine) : (s.sp f).strs = s.strs := rfl
@[simp] theorem State.sp_brg (s : State) (f : Spine → Spine) : (s.sp f).brg = s.brg := rfl
@[simp] theorem State.sp_slt (s : State) (f : Spine → Spine) : (s.sp f).slt = s.slt := rfl
@[simp] theorem State.sp_wak (s : State) (f : Spine → Spine) : (s.sp f).wak = s.wak := rfl
@[simp] theorem State.sp_lmp (s : State) (f : Spine → Spine) : (s.sp f).lmp = s.lmp := rfl
@[simp] theorem State.sp_geo (s : State) (f : Spine → Spine) : (s.sp f).geo = s.geo := rfl
@[simp] theorem State.sp_att (s : State) (f : Spine → Spine) : (s.sp f).att = s.att := rfl
@[simp] theorem State.sp_qry (s : State) (f : Spine → Spine) : (s.sp f).qry = s.qry := rfl
@[simp] theorem State.sp_air (s : State) (f : Spine → Spine) : (s.sp f).air = s.air := rfl
@[simp] theorem State.sp_spn (s : State) (f : Spine → Spine) : (s.sp f).spn = f s.spn := rfl
@[simp] theorem State.sp_flt (s : State) (f : Spine → Spine) : (s.sp f).flt = s.flt := rfl
@[simp] theorem State.sp_boot (s : State) (f : Spine → Spine) : (s.sp f).boot = s.boot := rfl
@[simp] theorem State.sp_thm (s : State) (f : Spine → Spine) : (s.sp f).thm = s.thm := rfl

/-! `State.fl` -/
@[simp] theorem State.fl_pending (s : State) (f : Flint → Flint) : (s.fl f).pending = s.pending := rfl
@[simp] theorem State.fl_out (s : State) (f : Flint → Flint) : (s.fl f).out = s.out := rfl
@[simp] theorem State.fl_free (s : State) (f : Flint → Flint) : (s.fl f).free = s.free := rfl
@[simp] theorem State.fl_regs (s : State) (f : Flint → Flint) : (s.fl f).regs = s.regs := rfl
@[simp] theorem State.fl_pw (s : State) (f : Flint → Flint) : (s.fl f).pw = s.pw := rfl
@[simp] theorem State.fl_lds (s : State) (f : Flint → Flint) : (s.fl f).lds = s.lds := rfl
@[simp] theorem State.fl_frm (s : State) (f : Flint → Flint) : (s.fl f).frm = s.frm := rfl
@[simp] theorem State.fl_ses (s : State) (f : Flint → Flint) : (s.fl f).ses = s.ses := rfl
@[simp] theorem State.fl_ten (s : State) (f : Flint → Flint) : (s.fl f).ten = s.ten := rfl
@[simp] theorem State.fl_strs (s : State) (f : Flint → Flint) : (s.fl f).strs = s.strs := rfl
@[simp] theorem State.fl_brg (s : State) (f : Flint → Flint) : (s.fl f).brg = s.brg := rfl
@[simp] theorem State.fl_slt (s : State) (f : Flint → Flint) : (s.fl f).slt = s.slt := rfl
@[simp] theorem State.fl_wak (s : State) (f : Flint → Flint) : (s.fl f).wak = s.wak := rfl
@[simp] theorem State.fl_lmp (s : State) (f : Flint → Flint) : (s.fl f).lmp = s.lmp := rfl
@[simp] theorem State.fl_geo (s : State) (f : Flint → Flint) : (s.fl f).geo = s.geo := rfl
@[simp] theorem State.fl_att (s : State) (f : Flint → Flint) : (s.fl f).att = s.att := rfl
@[simp] theorem State.fl_qry (s : State) (f : Flint → Flint) : (s.fl f).qry = s.qry := rfl
@[simp] theorem State.fl_air (s : State) (f : Flint → Flint) : (s.fl f).air = s.air := rfl
@[simp] theorem State.fl_spn (s : State) (f : Flint → Flint) : (s.fl f).spn = s.spn := rfl
@[simp] theorem State.fl_flt (s : State) (f : Flint → Flint) : (s.fl f).flt = f s.flt := rfl
@[simp] theorem State.fl_boot (s : State) (f : Flint → Flint) : (s.fl f).boot = s.boot := rfl
@[simp] theorem State.fl_thm (s : State) (f : Flint → Flint) : (s.fl f).thm = s.thm := rfl

/-! `State.setBoot` -/
@[simp] theorem State.setBoot_pending (s : State) (f : Boot → Boot) : (s.setBoot f).pending = s.pending := rfl
@[simp] theorem State.setBoot_out (s : State) (f : Boot → Boot) : (s.setBoot f).out = s.out := rfl
@[simp] theorem State.setBoot_free (s : State) (f : Boot → Boot) : (s.setBoot f).free = s.free := rfl
@[simp] theorem State.setBoot_regs (s : State) (f : Boot → Boot) : (s.setBoot f).regs = s.regs := rfl
@[simp] theorem State.setBoot_pw (s : State) (f : Boot → Boot) : (s.setBoot f).pw = s.pw := rfl
@[simp] theorem State.setBoot_lds (s : State) (f : Boot → Boot) : (s.setBoot f).lds = s.lds := rfl
@[simp] theorem State.setBoot_frm (s : State) (f : Boot → Boot) : (s.setBoot f).frm = s.frm := rfl
@[simp] theorem State.setBoot_ses (s : State) (f : Boot → Boot) : (s.setBoot f).ses = s.ses := rfl
@[simp] theorem State.setBoot_ten (s : State) (f : Boot → Boot) : (s.setBoot f).ten = s.ten := rfl
@[simp] theorem State.setBoot_strs (s : State) (f : Boot → Boot) : (s.setBoot f).strs = s.strs := rfl
@[simp] theorem State.setBoot_brg (s : State) (f : Boot → Boot) : (s.setBoot f).brg = s.brg := rfl
@[simp] theorem State.setBoot_slt (s : State) (f : Boot → Boot) : (s.setBoot f).slt = s.slt := rfl
@[simp] theorem State.setBoot_wak (s : State) (f : Boot → Boot) : (s.setBoot f).wak = s.wak := rfl
@[simp] theorem State.setBoot_lmp (s : State) (f : Boot → Boot) : (s.setBoot f).lmp = s.lmp := rfl
@[simp] theorem State.setBoot_geo (s : State) (f : Boot → Boot) : (s.setBoot f).geo = s.geo := rfl
@[simp] theorem State.setBoot_att (s : State) (f : Boot → Boot) : (s.setBoot f).att = s.att := rfl
@[simp] theorem State.setBoot_qry (s : State) (f : Boot → Boot) : (s.setBoot f).qry = s.qry := rfl
@[simp] theorem State.setBoot_air (s : State) (f : Boot → Boot) : (s.setBoot f).air = s.air := rfl
@[simp] theorem State.setBoot_spn (s : State) (f : Boot → Boot) : (s.setBoot f).spn = s.spn := rfl
@[simp] theorem State.setBoot_flt (s : State) (f : Boot → Boot) : (s.setBoot f).flt = s.flt := rfl
@[simp] theorem State.setBoot_boot (s : State) (f : Boot → Boot) : (s.setBoot f).boot = f s.boot := rfl
@[simp] theorem State.setBoot_thm (s : State) (f : Boot → Boot) : (s.setBoot f).thm = s.thm := rfl

/-! `State.th` -/
@[simp] theorem State.th_pending (s : State) (f : Thermal → Thermal) : (s.th f).pending = s.pending := rfl
@[simp] theorem State.th_out (s : State) (f : Thermal → Thermal) : (s.th f).out = s.out := rfl
@[simp] theorem State.th_free (s : State) (f : Thermal → Thermal) : (s.th f).free = s.free := rfl
@[simp] theorem State.th_regs (s : State) (f : Thermal → Thermal) : (s.th f).regs = s.regs := rfl
@[simp] theorem State.th_pw (s : State) (f : Thermal → Thermal) : (s.th f).pw = s.pw := rfl
@[simp] theorem State.th_lds (s : State) (f : Thermal → Thermal) : (s.th f).lds = s.lds := rfl
@[simp] theorem State.th_frm (s : State) (f : Thermal → Thermal) : (s.th f).frm = s.frm := rfl
@[simp] theorem State.th_ses (s : State) (f : Thermal → Thermal) : (s.th f).ses = s.ses := rfl
@[simp] theorem State.th_ten (s : State) (f : Thermal → Thermal) : (s.th f).ten = s.ten := rfl
@[simp] theorem State.th_strs (s : State) (f : Thermal → Thermal) : (s.th f).strs = s.strs := rfl
@[simp] theorem State.th_brg (s : State) (f : Thermal → Thermal) : (s.th f).brg = s.brg := rfl
@[simp] theorem State.th_slt (s : State) (f : Thermal → Thermal) : (s.th f).slt = s.slt := rfl
@[simp] theorem State.th_wak (s : State) (f : Thermal → Thermal) : (s.th f).wak = s.wak := rfl
@[simp] theorem State.th_lmp (s : State) (f : Thermal → Thermal) : (s.th f).lmp = s.lmp := rfl
@[simp] theorem State.th_geo (s : State) (f : Thermal → Thermal) : (s.th f).geo = s.geo := rfl
@[simp] theorem State.th_att (s : State) (f : Thermal → Thermal) : (s.th f).att = s.att := rfl
@[simp] theorem State.th_qry (s : State) (f : Thermal → Thermal) : (s.th f).qry = s.qry := rfl
@[simp] theorem State.th_air (s : State) (f : Thermal → Thermal) : (s.th f).air = s.air := rfl
@[simp] theorem State.th_spn (s : State) (f : Thermal → Thermal) : (s.th f).spn = s.spn := rfl
@[simp] theorem State.th_flt (s : State) (f : Thermal → Thermal) : (s.th f).flt = s.flt := rfl
@[simp] theorem State.th_boot (s : State) (f : Thermal → Thermal) : (s.th f).boot = s.boot := rfl
@[simp] theorem State.th_thm (s : State) (f : Thermal → Thermal) : (s.th f).thm = f s.thm := rfl

/-! `State.setReg` -/
@[simp] theorem State.setReg_pending (s : State) (a v : Nat) : (s.setReg a v).pending = s.pending := rfl
@[simp] theorem State.setReg_out (s : State) (a v : Nat) : (s.setReg a v).out = s.out := rfl
@[simp] theorem State.setReg_free (s : State) (a v : Nat) : (s.setReg a v).free = s.free := rfl
@[simp] theorem State.setReg_regs (s : State) (a v : Nat) : (s.setReg a v).regs = tset s.regs a (v % 2 ^ 32) := rfl
@[simp] theorem State.setReg_pw (s : State) (a v : Nat) : (s.setReg a v).pw = s.pw := rfl
@[simp] theorem State.setReg_lds (s : State) (a v : Nat) : (s.setReg a v).lds = s.lds := rfl
@[simp] theorem State.setReg_frm (s : State) (a v : Nat) : (s.setReg a v).frm = s.frm := rfl
@[simp] theorem State.setReg_ses (s : State) (a v : Nat) : (s.setReg a v).ses = s.ses := rfl
@[simp] theorem State.setReg_ten (s : State) (a v : Nat) : (s.setReg a v).ten = s.ten := rfl
@[simp] theorem State.setReg_strs (s : State) (a v : Nat) : (s.setReg a v).strs = s.strs := rfl
@[simp] theorem State.setReg_brg (s : State) (a v : Nat) : (s.setReg a v).brg = s.brg := rfl
@[simp] theorem State.setReg_slt (s : State) (a v : Nat) : (s.setReg a v).slt = s.slt := rfl
@[simp] theorem State.setReg_wak (s : State) (a v : Nat) : (s.setReg a v).wak = s.wak := rfl
@[simp] theorem State.setReg_lmp (s : State) (a v : Nat) : (s.setReg a v).lmp = s.lmp := rfl
@[simp] theorem State.setReg_geo (s : State) (a v : Nat) : (s.setReg a v).geo = s.geo := rfl
@[simp] theorem State.setReg_att (s : State) (a v : Nat) : (s.setReg a v).att = s.att := rfl
@[simp] theorem State.setReg_qry (s : State) (a v : Nat) : (s.setReg a v).qry = s.qry := rfl
@[simp] theorem State.setReg_air (s : State) (a v : Nat) : (s.setReg a v).air = s.air := rfl
@[simp] theorem State.setReg_spn (s : State) (a v : Nat) : (s.setReg a v).spn = s.spn := rfl
@[simp] theorem State.setReg_flt (s : State) (a v : Nat) : (s.setReg a v).flt = s.flt := rfl
@[simp] theorem State.setReg_boot (s : State) (a v : Nat) : (s.setReg a v).boot = s.boot := rfl
@[simp] theorem State.setReg_thm (s : State) (a v : Nat) : (s.setReg a v).thm = s.thm := rfl

/-! `State.setField` -/
@[simp] theorem State.setField_pending (s : State) (a lo w x : Nat) : (s.setField a lo w x).pending = s.pending := rfl
@[simp] theorem State.setField_out (s : State) (a lo w x : Nat) : (s.setField a lo w x).out = s.out := rfl
@[simp] theorem State.setField_free (s : State) (a lo w x : Nat) : (s.setField a lo w x).free = s.free := rfl
@[simp] theorem State.setField_regs (s : State) (a lo w x : Nat) : (s.setField a lo w x).regs = tset s.regs a (withField (s.reg a) lo w x % 2 ^ 32) := rfl
@[simp] theorem State.setField_pw (s : State) (a lo w x : Nat) : (s.setField a lo w x).pw = s.pw := rfl
@[simp] theorem State.setField_lds (s : State) (a lo w x : Nat) : (s.setField a lo w x).lds = s.lds := rfl
@[simp] theorem State.setField_frm (s : State) (a lo w x : Nat) : (s.setField a lo w x).frm = s.frm := rfl
@[simp] theorem State.setField_ses (s : State) (a lo w x : Nat) : (s.setField a lo w x).ses = s.ses := rfl
@[simp] theorem State.setField_ten (s : State) (a lo w x : Nat) : (s.setField a lo w x).ten = s.ten := rfl
@[simp] theorem State.setField_strs (s : State) (a lo w x : Nat) : (s.setField a lo w x).strs = s.strs := rfl
@[simp] theorem State.setField_brg (s : State) (a lo w x : Nat) : (s.setField a lo w x).brg = s.brg := rfl
@[simp] theorem State.setField_slt (s : State) (a lo w x : Nat) : (s.setField a lo w x).slt = s.slt := rfl
@[simp] theorem State.setField_wak (s : State) (a lo w x : Nat) : (s.setField a lo w x).wak = s.wak := rfl
@[simp] theorem State.setField_lmp (s : State) (a lo w x : Nat) : (s.setField a lo w x).lmp = s.lmp := rfl
@[simp] theorem State.setField_geo (s : State) (a lo w x : Nat) : (s.setField a lo w x).geo = s.geo := rfl
@[simp] theorem State.setField_att (s : State) (a lo w x : Nat) : (s.setField a lo w x).att = s.att := rfl
@[simp] theorem State.setField_qry (s : State) (a lo w x : Nat) : (s.setField a lo w x).qry = s.qry := rfl
@[simp] theorem State.setField_air (s : State) (a lo w x : Nat) : (s.setField a lo w x).air = s.air := rfl
@[simp] theorem State.setField_spn (s : State) (a lo w x : Nat) : (s.setField a lo w x).spn = s.spn := rfl
@[simp] theorem State.setField_flt (s : State) (a lo w x : Nat) : (s.setField a lo w x).flt = s.flt := rfl
@[simp] theorem State.setField_boot (s : State) (a lo w x : Nat) : (s.setField a lo w x).boot = s.boot := rfl
@[simp] theorem State.setField_thm (s : State) (a lo w x : Nat) : (s.setField a lo w x).thm = s.thm := rfl

/-! `State.setFlag` -/
@[simp] theorem State.setFlag_pending (s : State) (a k : Nat) : (s.setFlag a k).pending = s.pending := rfl
@[simp] theorem State.setFlag_out (s : State) (a k : Nat) : (s.setFlag a k).out = s.out := rfl
@[simp] theorem State.setFlag_free (s : State) (a k : Nat) : (s.setFlag a k).free = s.free := rfl
@[simp] theorem State.setFlag_regs (s : State) (a k : Nat) : (s.setFlag a k).regs = tset s.regs a (setBit (s.reg a) k % 2 ^ 32) := rfl
@[simp] theorem State.setFlag_pw (s : State) (a k : Nat) : (s.setFlag a k).pw = s.pw := rfl
@[simp] theorem State.setFlag_lds (s : State) (a k : Nat) : (s.setFlag a k).lds = s.lds := rfl
@[simp] theorem State.setFlag_frm (s : State) (a k : Nat) : (s.setFlag a k).frm = s.frm := rfl
@[simp] theorem State.setFlag_ses (s : State) (a k : Nat) : (s.setFlag a k).ses = s.ses := rfl
@[simp] theorem State.setFlag_ten (s : State) (a k : Nat) : (s.setFlag a k).ten = s.ten := rfl
@[simp] theorem State.setFlag_strs (s : State) (a k : Nat) : (s.setFlag a k).strs = s.strs := rfl
@[simp] theorem State.setFlag_brg (s : State) (a k : Nat) : (s.setFlag a k).brg = s.brg := rfl
@[simp] theorem State.setFlag_slt (s : State) (a k : Nat) : (s.setFlag a k).slt = s.slt := rfl
@[simp] theorem State.setFlag_wak (s : State) (a k : Nat) : (s.setFlag a k).wak = s.wak := rfl
@[simp] theorem State.setFlag_lmp (s : State) (a k : Nat) : (s.setFlag a k).lmp = s.lmp := rfl
@[simp] theorem State.setFlag_geo (s : State) (a k : Nat) : (s.setFlag a k).geo = s.geo := rfl
@[simp] theorem State.setFlag_att (s : State) (a k : Nat) : (s.setFlag a k).att = s.att := rfl
@[simp] theorem State.setFlag_qry (s : State) (a k : Nat) : (s.setFlag a k).qry = s.qry := rfl
@[simp] theorem State.setFlag_air (s : State) (a k : Nat) : (s.setFlag a k).air = s.air := rfl
@[simp] theorem State.setFlag_spn (s : State) (a k : Nat) : (s.setFlag a k).spn = s.spn := rfl
@[simp] theorem State.setFlag_flt (s : State) (a k : Nat) : (s.setFlag a k).flt = s.flt := rfl
@[simp] theorem State.setFlag_boot (s : State) (a k : Nat) : (s.setFlag a k).boot = s.boot := rfl
@[simp] theorem State.setFlag_thm (s : State) (a k : Nat) : (s.setFlag a k).thm = s.thm := rfl

/-! `State.count` -/
@[simp] theorem State.count_pending (s : State) (a lo w n : Nat) : (s.count a lo w n).pending = s.pending := rfl
@[simp] theorem State.count_out (s : State) (a lo w n : Nat) : (s.count a lo w n).out = s.out := rfl
@[simp] theorem State.count_free (s : State) (a lo w n : Nat) : (s.count a lo w n).free = s.free := rfl
@[simp] theorem State.count_regs (s : State) (a lo w n : Nat) : (s.count a lo w n).regs = tset s.regs a (withField (s.reg a) lo w (satAdd w (fieldOf (s.reg a) lo w) n) % 2 ^ 32) := rfl
@[simp] theorem State.count_pw (s : State) (a lo w n : Nat) : (s.count a lo w n).pw = s.pw := rfl
@[simp] theorem State.count_lds (s : State) (a lo w n : Nat) : (s.count a lo w n).lds = s.lds := rfl
@[simp] theorem State.count_frm (s : State) (a lo w n : Nat) : (s.count a lo w n).frm = s.frm := rfl
@[simp] theorem State.count_ses (s : State) (a lo w n : Nat) : (s.count a lo w n).ses = s.ses := rfl
@[simp] theorem State.count_ten (s : State) (a lo w n : Nat) : (s.count a lo w n).ten = s.ten := rfl
@[simp] theorem State.count_strs (s : State) (a lo w n : Nat) : (s.count a lo w n).strs = s.strs := rfl
@[simp] theorem State.count_brg (s : State) (a lo w n : Nat) : (s.count a lo w n).brg = s.brg := rfl
@[simp] theorem State.count_slt (s : State) (a lo w n : Nat) : (s.count a lo w n).slt = s.slt := rfl
@[simp] theorem State.count_wak (s : State) (a lo w n : Nat) : (s.count a lo w n).wak = s.wak := rfl
@[simp] theorem State.count_lmp (s : State) (a lo w n : Nat) : (s.count a lo w n).lmp = s.lmp := rfl
@[simp] theorem State.count_geo (s : State) (a lo w n : Nat) : (s.count a lo w n).geo = s.geo := rfl
@[simp] theorem State.count_att (s : State) (a lo w n : Nat) : (s.count a lo w n).att = s.att := rfl
@[simp] theorem State.count_qry (s : State) (a lo w n : Nat) : (s.count a lo w n).qry = s.qry := rfl
@[simp] theorem State.count_air (s : State) (a lo w n : Nat) : (s.count a lo w n).air = s.air := rfl
@[simp] theorem State.count_spn (s : State) (a lo w n : Nat) : (s.count a lo w n).spn = s.spn := rfl
@[simp] theorem State.count_flt (s : State) (a lo w n : Nat) : (s.count a lo w n).flt = s.flt := rfl
@[simp] theorem State.count_boot (s : State) (a lo w n : Nat) : (s.count a lo w n).boot = s.boot := rfl
@[simp] theorem State.count_thm (s : State) (a lo w n : Nat) : (s.count a lo w n).thm = s.thm := rfl

/-! `State.emit` -/
@[simp] theorem State.emit_pending (s : State) (o : Out) : (s.emit o).pending = s.pending := rfl
@[simp] theorem State.emit_out (s : State) (o : Out) : (s.emit o).out = s.out ++ [o] := rfl
@[simp] theorem State.emit_free (s : State) (o : Out) : (s.emit o).free = s.free := rfl
@[simp] theorem State.emit_regs (s : State) (o : Out) : (s.emit o).regs = s.regs := rfl
@[simp] theorem State.emit_pw (s : State) (o : Out) : (s.emit o).pw = s.pw := rfl
@[simp] theorem State.emit_lds (s : State) (o : Out) : (s.emit o).lds = s.lds := rfl
@[simp] theorem State.emit_frm (s : State) (o : Out) : (s.emit o).frm = s.frm := rfl
@[simp] theorem State.emit_ses (s : State) (o : Out) : (s.emit o).ses = s.ses := rfl
@[simp] theorem State.emit_ten (s : State) (o : Out) : (s.emit o).ten = s.ten := rfl
@[simp] theorem State.emit_strs (s : State) (o : Out) : (s.emit o).strs = s.strs := rfl
@[simp] theorem State.emit_brg (s : State) (o : Out) : (s.emit o).brg = s.brg := rfl
@[simp] theorem State.emit_slt (s : State) (o : Out) : (s.emit o).slt = s.slt := rfl
@[simp] theorem State.emit_wak (s : State) (o : Out) : (s.emit o).wak = s.wak := rfl
@[simp] theorem State.emit_lmp (s : State) (o : Out) : (s.emit o).lmp = s.lmp := rfl
@[simp] theorem State.emit_geo (s : State) (o : Out) : (s.emit o).geo = s.geo := rfl
@[simp] theorem State.emit_att (s : State) (o : Out) : (s.emit o).att = s.att := rfl
@[simp] theorem State.emit_qry (s : State) (o : Out) : (s.emit o).qry = s.qry := rfl
@[simp] theorem State.emit_air (s : State) (o : Out) : (s.emit o).air = s.air := rfl
@[simp] theorem State.emit_spn (s : State) (o : Out) : (s.emit o).spn = s.spn := rfl
@[simp] theorem State.emit_flt (s : State) (o : Out) : (s.emit o).flt = s.flt := rfl
@[simp] theorem State.emit_boot (s : State) (o : Out) : (s.emit o).boot = s.boot := rfl
@[simp] theorem State.emit_thm (s : State) (o : Out) : (s.emit o).thm = s.thm := rfl

/-! `State.send` -/
@[simp] theorem State.send_pending (s : State) (k : Msg) (d : Nat) (l : List Nat) (b : Bytes) : (s.send k d l b).pending = s.pending := rfl
@[simp] theorem State.send_out (s : State) (k : Msg) (d : Nat) (l : List Nat) (b : Bytes) : (s.send k d l b).out = s.out ++ [.msg k d l b] := rfl
@[simp] theorem State.send_free (s : State) (k : Msg) (d : Nat) (l : List Nat) (b : Bytes) : (s.send k d l b).free = s.free := rfl
@[simp] theorem State.send_regs (s : State) (k : Msg) (d : Nat) (l : List Nat) (b : Bytes) : (s.send k d l b).regs = s.regs := rfl
@[simp] theorem State.send_pw (s : State) (k : Msg) (d : Nat) (l : List Nat) (b : Bytes) : (s.send k d l b).pw = s.pw := rfl
@[simp] theorem State.send_lds (s : State) (k : Msg) (d : Nat) (l : List Nat) (b : Bytes) : (s.send k d l b).lds = s.lds := rfl
@[simp] theorem State.send_frm (s : State) (k : Msg) (d : Nat) (l : List Nat) (b : Bytes) : (s.send k d l b).frm = s.frm := rfl
@[simp] theorem State.send_ses (s : State) (k : Msg) (d : Nat) (l : List Nat) (b : Bytes) : (s.send k d l b).ses = s.ses := rfl
@[simp] theorem State.send_ten (s : State) (k : Msg) (d : Nat) (l : List Nat) (b : Bytes) : (s.send k d l b).ten = s.ten := rfl
@[simp] theorem State.send_strs (s : State) (k : Msg) (d : Nat) (l : List Nat) (b : Bytes) : (s.send k d l b).strs = s.strs := rfl
@[simp] theorem State.send_brg (s : State) (k : Msg) (d : Nat) (l : List Nat) (b : Bytes) : (s.send k d l b).brg = s.brg := rfl
@[simp] theorem State.send_slt (s : State) (k : Msg) (d : Nat) (l : List Nat) (b : Bytes) : (s.send k d l b).slt = s.slt := rfl
@[simp] theorem State.send_wak (s : State) (k : Msg) (d : Nat) (l : List Nat) (b : Bytes) : (s.send k d l b).wak = s.wak := rfl
@[simp] theorem State.send_lmp (s : State) (k : Msg) (d : Nat) (l : List Nat) (b : Bytes) : (s.send k d l b).lmp = s.lmp := rfl
@[simp] theorem State.send_geo (s : State) (k : Msg) (d : Nat) (l : List Nat) (b : Bytes) : (s.send k d l b).geo = s.geo := rfl
@[simp] theorem State.send_att (s : State) (k : Msg) (d : Nat) (l : List Nat) (b : Bytes) : (s.send k d l b).att = s.att := rfl
@[simp] theorem State.send_qry (s : State) (k : Msg) (d : Nat) (l : List Nat) (b : Bytes) : (s.send k d l b).qry = s.qry := rfl
@[simp] theorem State.send_air (s : State) (k : Msg) (d : Nat) (l : List Nat) (b : Bytes) : (s.send k d l b).air = s.air := rfl
@[simp] theorem State.send_spn (s : State) (k : Msg) (d : Nat) (l : List Nat) (b : Bytes) : (s.send k d l b).spn = s.spn := rfl
@[simp] theorem State.send_flt (s : State) (k : Msg) (d : Nat) (l : List Nat) (b : Bytes) : (s.send k d l b).flt = s.flt := rfl
@[simp] theorem State.send_boot (s : State) (k : Msg) (d : Nat) (l : List Nat) (b : Bytes) : (s.send k d l b).boot = s.boot := rfl
@[simp] theorem State.send_thm (s : State) (k : Msg) (d : Nat) (l : List Nat) (b : Bytes) : (s.send k d l b).thm = s.thm := rfl

/-! `State.raise` -/
@[simp] theorem State.raise_pending (s : State) (key code : Nat) (tlvs : List OTlv) : (s.raise key code tlvs).pending = s.pending := rfl
@[simp] theorem State.raise_out (s : State) (key code : Nat) (tlvs : List OTlv) : (s.raise key code tlvs).out = s.out := rfl
@[simp] theorem State.raise_free (s : State) (key code : Nat) (tlvs : List OTlv) : (s.raise key code tlvs).free = s.free := rfl
@[simp] theorem State.raise_regs (s : State) (key code : Nat) (tlvs : List OTlv) : (s.raise key code tlvs).regs = s.regs := rfl
@[simp] theorem State.raise_pw (s : State) (key code : Nat) (tlvs : List OTlv) : (s.raise key code tlvs).pw = s.pw := rfl
@[simp] theorem State.raise_lds (s : State) (key code : Nat) (tlvs : List OTlv) : (s.raise key code tlvs).lds = s.lds := rfl
@[simp] theorem State.raise_frm (s : State) (key code : Nat) (tlvs : List OTlv) : (s.raise key code tlvs).frm = s.frm := rfl
@[simp] theorem State.raise_ses (s : State) (key code : Nat) (tlvs : List OTlv) : (s.raise key code tlvs).ses = { s.ses with evq := tset s.ses.evq key (queueEv (s.queue key) code s.frm.now tlvs) } := rfl
@[simp] theorem State.raise_ten (s : State) (key code : Nat) (tlvs : List OTlv) : (s.raise key code tlvs).ten = s.ten := rfl
@[simp] theorem State.raise_strs (s : State) (key code : Nat) (tlvs : List OTlv) : (s.raise key code tlvs).strs = s.strs := rfl
@[simp] theorem State.raise_brg (s : State) (key code : Nat) (tlvs : List OTlv) : (s.raise key code tlvs).brg = s.brg := rfl
@[simp] theorem State.raise_slt (s : State) (key code : Nat) (tlvs : List OTlv) : (s.raise key code tlvs).slt = s.slt := rfl
@[simp] theorem State.raise_wak (s : State) (key code : Nat) (tlvs : List OTlv) : (s.raise key code tlvs).wak = s.wak := rfl
@[simp] theorem State.raise_lmp (s : State) (key code : Nat) (tlvs : List OTlv) : (s.raise key code tlvs).lmp = s.lmp := rfl
@[simp] theorem State.raise_geo (s : State) (key code : Nat) (tlvs : List OTlv) : (s.raise key code tlvs).geo = s.geo := rfl
@[simp] theorem State.raise_att (s : State) (key code : Nat) (tlvs : List OTlv) : (s.raise key code tlvs).att = s.att := rfl
@[simp] theorem State.raise_qry (s : State) (key code : Nat) (tlvs : List OTlv) : (s.raise key code tlvs).qry = s.qry := rfl
@[simp] theorem State.raise_air (s : State) (key code : Nat) (tlvs : List OTlv) : (s.raise key code tlvs).air = s.air := rfl
@[simp] theorem State.raise_spn (s : State) (key code : Nat) (tlvs : List OTlv) : (s.raise key code tlvs).spn = s.spn := rfl
@[simp] theorem State.raise_flt (s : State) (key code : Nat) (tlvs : List OTlv) : (s.raise key code tlvs).flt = s.flt := rfl
@[simp] theorem State.raise_boot (s : State) (key code : Nat) (tlvs : List OTlv) : (s.raise key code tlvs).boot = s.boot := rfl
@[simp] theorem State.raise_thm (s : State) (key code : Nat) (tlvs : List OTlv) : (s.raise key code tlvs).thm = s.thm := rfl

/-! `State.owner` -/
@[simp] theorem State.owner_pending (s : State) (code : Nat) (tlvs : List OTlv) : (s.owner code tlvs).pending = s.pending := rfl
@[simp] theorem State.owner_out (s : State) (code : Nat) (tlvs : List OTlv) : (s.owner code tlvs).out = s.out := rfl
@[simp] theorem State.owner_free (s : State) (code : Nat) (tlvs : List OTlv) : (s.owner code tlvs).free = s.free := rfl
@[simp] theorem State.owner_regs (s : State) (code : Nat) (tlvs : List OTlv) : (s.owner code tlvs).regs = s.regs := rfl
@[simp] theorem State.owner_pw (s : State) (code : Nat) (tlvs : List OTlv) : (s.owner code tlvs).pw = s.pw := rfl
@[simp] theorem State.owner_lds (s : State) (code : Nat) (tlvs : List OTlv) : (s.owner code tlvs).lds = s.lds := rfl
@[simp] theorem State.owner_frm (s : State) (code : Nat) (tlvs : List OTlv) : (s.owner code tlvs).frm = s.frm := rfl
@[simp] theorem State.owner_ses (s : State) (code : Nat) (tlvs : List OTlv) : (s.owner code tlvs).ses = { s.ses with evq := tset s.ses.evq 0 (queueEv (s.queue 0) code s.frm.now tlvs) } := rfl
@[simp] theorem State.owner_ten (s : State) (code : Nat) (tlvs : List OTlv) : (s.owner code tlvs).ten = s.ten := rfl
@[simp] theorem State.owner_strs (s : State) (code : Nat) (tlvs : List OTlv) : (s.owner code tlvs).strs = s.strs := rfl
@[simp] theorem State.owner_brg (s : State) (code : Nat) (tlvs : List OTlv) : (s.owner code tlvs).brg = s.brg := rfl
@[simp] theorem State.owner_slt (s : State) (code : Nat) (tlvs : List OTlv) : (s.owner code tlvs).slt = s.slt := rfl
@[simp] theorem State.owner_wak (s : State) (code : Nat) (tlvs : List OTlv) : (s.owner code tlvs).wak = s.wak := rfl
@[simp] theorem State.owner_lmp (s : State) (code : Nat) (tlvs : List OTlv) : (s.owner code tlvs).lmp = s.lmp := rfl
@[simp] theorem State.owner_geo (s : State) (code : Nat) (tlvs : List OTlv) : (s.owner code tlvs).geo = s.geo := rfl
@[simp] theorem State.owner_att (s : State) (code : Nat) (tlvs : List OTlv) : (s.owner code tlvs).att = s.att := rfl
@[simp] theorem State.owner_qry (s : State) (code : Nat) (tlvs : List OTlv) : (s.owner code tlvs).qry = s.qry := rfl
@[simp] theorem State.owner_air (s : State) (code : Nat) (tlvs : List OTlv) : (s.owner code tlvs).air = s.air := rfl
@[simp] theorem State.owner_spn (s : State) (code : Nat) (tlvs : List OTlv) : (s.owner code tlvs).spn = s.spn := rfl
@[simp] theorem State.owner_flt (s : State) (code : Nat) (tlvs : List OTlv) : (s.owner code tlvs).flt = s.flt := rfl
@[simp] theorem State.owner_boot (s : State) (code : Nat) (tlvs : List OTlv) : (s.owner code tlvs).boot = s.boot := rfl
@[simp] theorem State.owner_thm (s : State) (code : Nat) (tlvs : List OTlv) : (s.owner code tlvs).thm = s.thm := rfl

/-! `State.result` -/
@[simp] theorem State.result_pending (s : State) (key seq cmdid st : Nat) (tlvs : List OTlv) : (s.result key seq cmdid st tlvs).pending = s.pending := rfl
@[simp] theorem State.result_out (s : State) (key seq cmdid st : Nat) (tlvs : List OTlv) : (s.result key seq cmdid st tlvs).out = s.out := rfl
@[simp] theorem State.result_free (s : State) (key seq cmdid st : Nat) (tlvs : List OTlv) : (s.result key seq cmdid st tlvs).free = s.free := rfl
@[simp] theorem State.result_regs (s : State) (key seq cmdid st : Nat) (tlvs : List OTlv) : (s.result key seq cmdid st tlvs).regs = s.regs := rfl
@[simp] theorem State.result_pw (s : State) (key seq cmdid st : Nat) (tlvs : List OTlv) : (s.result key seq cmdid st tlvs).pw = s.pw := rfl
@[simp] theorem State.result_lds (s : State) (key seq cmdid st : Nat) (tlvs : List OTlv) : (s.result key seq cmdid st tlvs).lds = s.lds := rfl
@[simp] theorem State.result_frm (s : State) (key seq cmdid st : Nat) (tlvs : List OTlv) : (s.result key seq cmdid st tlvs).frm = s.frm := rfl
@[simp] theorem State.result_ses (s : State) (key seq cmdid st : Nat) (tlvs : List OTlv) : (s.result key seq cmdid st tlvs).ses = (s.raise key 0x0001 ([tCmdRef seq cmdid, tStatus st] ++ tlvs)).ses := rfl
@[simp] theorem State.result_ten (s : State) (key seq cmdid st : Nat) (tlvs : List OTlv) : (s.result key seq cmdid st tlvs).ten = s.ten := rfl
@[simp] theorem State.result_strs (s : State) (key seq cmdid st : Nat) (tlvs : List OTlv) : (s.result key seq cmdid st tlvs).strs = s.strs := rfl
@[simp] theorem State.result_brg (s : State) (key seq cmdid st : Nat) (tlvs : List OTlv) : (s.result key seq cmdid st tlvs).brg = s.brg := rfl
@[simp] theorem State.result_slt (s : State) (key seq cmdid st : Nat) (tlvs : List OTlv) : (s.result key seq cmdid st tlvs).slt = s.slt := rfl
@[simp] theorem State.result_wak (s : State) (key seq cmdid st : Nat) (tlvs : List OTlv) : (s.result key seq cmdid st tlvs).wak = s.wak := rfl
@[simp] theorem State.result_lmp (s : State) (key seq cmdid st : Nat) (tlvs : List OTlv) : (s.result key seq cmdid st tlvs).lmp = s.lmp := rfl
@[simp] theorem State.result_geo (s : State) (key seq cmdid st : Nat) (tlvs : List OTlv) : (s.result key seq cmdid st tlvs).geo = s.geo := rfl
@[simp] theorem State.result_att (s : State) (key seq cmdid st : Nat) (tlvs : List OTlv) : (s.result key seq cmdid st tlvs).att = s.att := rfl
@[simp] theorem State.result_qry (s : State) (key seq cmdid st : Nat) (tlvs : List OTlv) : (s.result key seq cmdid st tlvs).qry = s.qry := rfl
@[simp] theorem State.result_air (s : State) (key seq cmdid st : Nat) (tlvs : List OTlv) : (s.result key seq cmdid st tlvs).air = s.air := rfl
@[simp] theorem State.result_spn (s : State) (key seq cmdid st : Nat) (tlvs : List OTlv) : (s.result key seq cmdid st tlvs).spn = s.spn := rfl
@[simp] theorem State.result_flt (s : State) (key seq cmdid st : Nat) (tlvs : List OTlv) : (s.result key seq cmdid st tlvs).flt = s.flt := rfl
@[simp] theorem State.result_boot (s : State) (key seq cmdid st : Nat) (tlvs : List OTlv) : (s.result key seq cmdid st tlvs).boot = s.boot := rfl
@[simp] theorem State.result_thm (s : State) (key seq cmdid st : Nat) (tlvs : List OTlv) : (s.result key seq cmdid st tlvs).thm = s.thm := rfl

/-! `State.modVctl` -/
@[simp] theorem State.modVctl_pending (s : State) (v : Nat) (f : VCtl → VCtl) : (s.modVctl v f).pending = s.pending := rfl
@[simp] theorem State.modVctl_out (s : State) (v : Nat) (f : VCtl → VCtl) : (s.modVctl v f).out = s.out := rfl
@[simp] theorem State.modVctl_free (s : State) (v : Nat) (f : VCtl → VCtl) : (s.modVctl v f).free = s.free := rfl
@[simp] theorem State.modVctl_regs (s : State) (v : Nat) (f : VCtl → VCtl) : (s.modVctl v f).regs = s.regs := rfl
@[simp] theorem State.modVctl_pw (s : State) (v : Nat) (f : VCtl → VCtl) : (s.modVctl v f).pw = s.pw := rfl
@[simp] theorem State.modVctl_lds (s : State) (v : Nat) (f : VCtl → VCtl) : (s.modVctl v f).lds = s.lds := rfl
@[simp] theorem State.modVctl_frm (s : State) (v : Nat) (f : VCtl → VCtl) : (s.modVctl v f).frm = s.frm := rfl
@[simp] theorem State.modVctl_ses (s : State) (v : Nat) (f : VCtl → VCtl) : (s.modVctl v f).ses = s.ses := rfl
@[simp] theorem State.modVctl_ten (s : State) (v : Nat) (f : VCtl → VCtl) : (s.modVctl v f).ten = { s.ten with vctls := tmod s.ten.vctls v f } := rfl
@[simp] theorem State.modVctl_strs (s : State) (v : Nat) (f : VCtl → VCtl) : (s.modVctl v f).strs = s.strs := rfl
@[simp] theorem State.modVctl_brg (s : State) (v : Nat) (f : VCtl → VCtl) : (s.modVctl v f).brg = s.brg := rfl
@[simp] theorem State.modVctl_slt (s : State) (v : Nat) (f : VCtl → VCtl) : (s.modVctl v f).slt = s.slt := rfl
@[simp] theorem State.modVctl_wak (s : State) (v : Nat) (f : VCtl → VCtl) : (s.modVctl v f).wak = s.wak := rfl
@[simp] theorem State.modVctl_lmp (s : State) (v : Nat) (f : VCtl → VCtl) : (s.modVctl v f).lmp = s.lmp := rfl
@[simp] theorem State.modVctl_geo (s : State) (v : Nat) (f : VCtl → VCtl) : (s.modVctl v f).geo = s.geo := rfl
@[simp] theorem State.modVctl_att (s : State) (v : Nat) (f : VCtl → VCtl) : (s.modVctl v f).att = s.att := rfl
@[simp] theorem State.modVctl_qry (s : State) (v : Nat) (f : VCtl → VCtl) : (s.modVctl v f).qry = s.qry := rfl
@[simp] theorem State.modVctl_air (s : State) (v : Nat) (f : VCtl → VCtl) : (s.modVctl v f).air = s.air := rfl
@[simp] theorem State.modVctl_spn (s : State) (v : Nat) (f : VCtl → VCtl) : (s.modVctl v f).spn = s.spn := rfl
@[simp] theorem State.modVctl_flt (s : State) (v : Nat) (f : VCtl → VCtl) : (s.modVctl v f).flt = s.flt := rfl
@[simp] theorem State.modVctl_boot (s : State) (v : Nat) (f : VCtl → VCtl) : (s.modVctl v f).boot = s.boot := rfl
@[simp] theorem State.modVctl_thm (s : State) (v : Nat) (f : VCtl → VCtl) : (s.modVctl v f).thm = s.thm := rfl

/-! `State.modAssoc` -/
@[simp] theorem State.modAssoc_pending (s : State) (k : AssocKey) (f : Assoc → Assoc) : (s.modAssoc k f).pending = s.pending := rfl
@[simp] theorem State.modAssoc_out (s : State) (k : AssocKey) (f : Assoc → Assoc) : (s.modAssoc k f).out = s.out := rfl
@[simp] theorem State.modAssoc_free (s : State) (k : AssocKey) (f : Assoc → Assoc) : (s.modAssoc k f).free = s.free := rfl
@[simp] theorem State.modAssoc_regs (s : State) (k : AssocKey) (f : Assoc → Assoc) : (s.modAssoc k f).regs = s.regs := rfl
@[simp] theorem State.modAssoc_pw (s : State) (k : AssocKey) (f : Assoc → Assoc) : (s.modAssoc k f).pw = s.pw := rfl
@[simp] theorem State.modAssoc_lds (s : State) (k : AssocKey) (f : Assoc → Assoc) : (s.modAssoc k f).lds = s.lds := rfl
@[simp] theorem State.modAssoc_frm (s : State) (k : AssocKey) (f : Assoc → Assoc) : (s.modAssoc k f).frm = s.frm := rfl
@[simp] theorem State.modAssoc_ses (s : State) (k : AssocKey) (f : Assoc → Assoc) : (s.modAssoc k f).ses = { s.ses with assoc := tmod s.ses.assoc (assocIx k) f } := rfl
@[simp] theorem State.modAssoc_ten (s : State) (k : AssocKey) (f : Assoc → Assoc) : (s.modAssoc k f).ten = s.ten := rfl
@[simp] theorem State.modAssoc_strs (s : State) (k : AssocKey) (f : Assoc → Assoc) : (s.modAssoc k f).strs = s.strs := rfl
@[simp] theorem State.modAssoc_brg (s : State) (k : AssocKey) (f : Assoc → Assoc) : (s.modAssoc k f).brg = s.brg := rfl
@[simp] theorem State.modAssoc_slt (s : State) (k : AssocKey) (f : Assoc → Assoc) : (s.modAssoc k f).slt = s.slt := rfl
@[simp] theorem State.modAssoc_wak (s : State) (k : AssocKey) (f : Assoc → Assoc) : (s.modAssoc k f).wak = s.wak := rfl
@[simp] theorem State.modAssoc_lmp (s : State) (k : AssocKey) (f : Assoc → Assoc) : (s.modAssoc k f).lmp = s.lmp := rfl
@[simp] theorem State.modAssoc_geo (s : State) (k : AssocKey) (f : Assoc → Assoc) : (s.modAssoc k f).geo = s.geo := rfl
@[simp] theorem State.modAssoc_att (s : State) (k : AssocKey) (f : Assoc → Assoc) : (s.modAssoc k f).att = s.att := rfl
@[simp] theorem State.modAssoc_qry (s : State) (k : AssocKey) (f : Assoc → Assoc) : (s.modAssoc k f).qry = s.qry := rfl
@[simp] theorem State.modAssoc_air (s : State) (k : AssocKey) (f : Assoc → Assoc) : (s.modAssoc k f).air = s.air := rfl
@[simp] theorem State.modAssoc_spn (s : State) (k : AssocKey) (f : Assoc → Assoc) : (s.modAssoc k f).spn = s.spn := rfl
@[simp] theorem State.modAssoc_flt (s : State) (k : AssocKey) (f : Assoc → Assoc) : (s.modAssoc k f).flt = s.flt := rfl
@[simp] theorem State.modAssoc_boot (s : State) (k : AssocKey) (f : Assoc → Assoc) : (s.modAssoc k f).boot = s.boot := rfl
@[simp] theorem State.modAssoc_thm (s : State) (k : AssocKey) (f : Assoc → Assoc) : (s.modAssoc k f).thm = s.thm := rfl

/-! `State.modGrain` -/
@[simp] theorem State.modGrain_pending (s : State) (g : Nat) (f : Grain → Grain) : (s.modGrain g f).pending = s.pending := rfl
@[simp] theorem State.modGrain_out (s : State) (g : Nat) (f : Grain → Grain) : (s.modGrain g f).out = s.out := rfl
@[simp] theorem State.modGrain_free (s : State) (g : Nat) (f : Grain → Grain) : (s.modGrain g f).free = s.free := rfl
@[simp] theorem State.modGrain_regs (s : State) (g : Nat) (f : Grain → Grain) : (s.modGrain g f).regs = s.regs := rfl
@[simp] theorem State.modGrain_pw (s : State) (g : Nat) (f : Grain → Grain) : (s.modGrain g f).pw = s.pw := rfl
@[simp] theorem State.modGrain_lds (s : State) (g : Nat) (f : Grain → Grain) : (s.modGrain g f).lds = s.lds := rfl
@[simp] theorem State.modGrain_frm (s : State) (g : Nat) (f : Grain → Grain) : (s.modGrain g f).frm = s.frm := rfl
@[simp] theorem State.modGrain_ses (s : State) (g : Nat) (f : Grain → Grain) : (s.modGrain g f).ses = s.ses := rfl
@[simp] theorem State.modGrain_ten (s : State) (g : Nat) (f : Grain → Grain) : (s.modGrain g f).ten = s.ten := rfl
@[simp] theorem State.modGrain_strs (s : State) (g : Nat) (f : Grain → Grain) : (s.modGrain g f).strs = { s.strs with grains := tset s.strs.grains g (f (s.grain g)) } := rfl
@[simp] theorem State.modGrain_brg (s : State) (g : Nat) (f : Grain → Grain) : (s.modGrain g f).brg = s.brg := rfl
@[simp] theorem State.modGrain_slt (s : State) (g : Nat) (f : Grain → Grain) : (s.modGrain g f).slt = s.slt := rfl
@[simp] theorem State.modGrain_wak (s : State) (g : Nat) (f : Grain → Grain) : (s.modGrain g f).wak = s.wak := rfl
@[simp] theorem State.modGrain_lmp (s : State) (g : Nat) (f : Grain → Grain) : (s.modGrain g f).lmp = s.lmp := rfl
@[simp] theorem State.modGrain_geo (s : State) (g : Nat) (f : Grain → Grain) : (s.modGrain g f).geo = s.geo := rfl
@[simp] theorem State.modGrain_att (s : State) (g : Nat) (f : Grain → Grain) : (s.modGrain g f).att = s.att := rfl
@[simp] theorem State.modGrain_qry (s : State) (g : Nat) (f : Grain → Grain) : (s.modGrain g f).qry = s.qry := rfl
@[simp] theorem State.modGrain_air (s : State) (g : Nat) (f : Grain → Grain) : (s.modGrain g f).air = s.air := rfl
@[simp] theorem State.modGrain_spn (s : State) (g : Nat) (f : Grain → Grain) : (s.modGrain g f).spn = s.spn := rfl
@[simp] theorem State.modGrain_flt (s : State) (g : Nat) (f : Grain → Grain) : (s.modGrain g f).flt = s.flt := rfl
@[simp] theorem State.modGrain_boot (s : State) (g : Nat) (f : Grain → Grain) : (s.modGrain g f).boot = s.boot := rfl
@[simp] theorem State.modGrain_thm (s : State) (g : Nat) (f : Grain → Grain) : (s.modGrain g f).thm = s.thm := rfl

/-! `State.modPole` -/
@[simp] theorem State.modPole_pending (s : State) (g p : Nat) (f : Pole → Pole) : (s.modPole g p f).pending = s.pending := rfl
@[simp] theorem State.modPole_out (s : State) (g p : Nat) (f : Pole → Pole) : (s.modPole g p f).out = s.out := rfl
@[simp] theorem State.modPole_free (s : State) (g p : Nat) (f : Pole → Pole) : (s.modPole g p f).free = s.free := rfl
@[simp] theorem State.modPole_regs (s : State) (g p : Nat) (f : Pole → Pole) : (s.modPole g p f).regs = s.regs := rfl
@[simp] theorem State.modPole_pw (s : State) (g p : Nat) (f : Pole → Pole) : (s.modPole g p f).pw = s.pw := rfl
@[simp] theorem State.modPole_lds (s : State) (g p : Nat) (f : Pole → Pole) : (s.modPole g p f).lds = s.lds := rfl
@[simp] theorem State.modPole_frm (s : State) (g p : Nat) (f : Pole → Pole) : (s.modPole g p f).frm = s.frm := rfl
@[simp] theorem State.modPole_ses (s : State) (g p : Nat) (f : Pole → Pole) : (s.modPole g p f).ses = s.ses := rfl
@[simp] theorem State.modPole_ten (s : State) (g p : Nat) (f : Pole → Pole) : (s.modPole g p f).ten = s.ten := rfl
@[simp] theorem State.modPole_strs (s : State) (g p : Nat) (f : Pole → Pole) : (s.modPole g p f).strs = (s.modGrain g (fun x => { x with record := tmod x.record p f })).strs := rfl
@[simp] theorem State.modPole_brg (s : State) (g p : Nat) (f : Pole → Pole) : (s.modPole g p f).brg = s.brg := rfl
@[simp] theorem State.modPole_slt (s : State) (g p : Nat) (f : Pole → Pole) : (s.modPole g p f).slt = s.slt := rfl
@[simp] theorem State.modPole_wak (s : State) (g p : Nat) (f : Pole → Pole) : (s.modPole g p f).wak = s.wak := rfl
@[simp] theorem State.modPole_lmp (s : State) (g p : Nat) (f : Pole → Pole) : (s.modPole g p f).lmp = s.lmp := rfl
@[simp] theorem State.modPole_geo (s : State) (g p : Nat) (f : Pole → Pole) : (s.modPole g p f).geo = s.geo := rfl
@[simp] theorem State.modPole_att (s : State) (g p : Nat) (f : Pole → Pole) : (s.modPole g p f).att = s.att := rfl
@[simp] theorem State.modPole_qry (s : State) (g p : Nat) (f : Pole → Pole) : (s.modPole g p f).qry = s.qry := rfl
@[simp] theorem State.modPole_air (s : State) (g p : Nat) (f : Pole → Pole) : (s.modPole g p f).air = s.air := rfl
@[simp] theorem State.modPole_spn (s : State) (g p : Nat) (f : Pole → Pole) : (s.modPole g p f).spn = s.spn := rfl
@[simp] theorem State.modPole_flt (s : State) (g p : Nat) (f : Pole → Pole) : (s.modPole g p f).flt = s.flt := rfl
@[simp] theorem State.modPole_boot (s : State) (g p : Nat) (f : Pole → Pole) : (s.modPole g p f).boot = s.boot := rfl
@[simp] theorem State.modPole_thm (s : State) (g p : Nat) (f : Pole → Pole) : (s.modPole g p f).thm = s.thm := rfl

/-! `State.modGbr` -/
@[simp] theorem State.modGbr_pending (s : State) (g : Nat) (f : GrainBr → GrainBr) : (s.modGbr g f).pending = s.pending := rfl
@[simp] theorem State.modGbr_out (s : State) (g : Nat) (f : GrainBr → GrainBr) : (s.modGbr g f).out = s.out := rfl
@[simp] theorem State.modGbr_free (s : State) (g : Nat) (f : GrainBr → GrainBr) : (s.modGbr g f).free = s.free := rfl
@[simp] theorem State.modGbr_regs (s : State) (g : Nat) (f : GrainBr → GrainBr) : (s.modGbr g f).regs = s.regs := rfl
@[simp] theorem State.modGbr_pw (s : State) (g : Nat) (f : GrainBr → GrainBr) : (s.modGbr g f).pw = s.pw := rfl
@[simp] theorem State.modGbr_lds (s : State) (g : Nat) (f : GrainBr → GrainBr) : (s.modGbr g f).lds = s.lds := rfl
@[simp] theorem State.modGbr_frm (s : State) (g : Nat) (f : GrainBr → GrainBr) : (s.modGbr g f).frm = s.frm := rfl
@[simp] theorem State.modGbr_ses (s : State) (g : Nat) (f : GrainBr → GrainBr) : (s.modGbr g f).ses = s.ses := rfl
@[simp] theorem State.modGbr_ten (s : State) (g : Nat) (f : GrainBr → GrainBr) : (s.modGbr g f).ten = s.ten := rfl
@[simp] theorem State.modGbr_strs (s : State) (g : Nat) (f : GrainBr → GrainBr) : (s.modGbr g f).strs = s.strs := rfl
@[simp] theorem State.modGbr_brg (s : State) (g : Nat) (f : GrainBr → GrainBr) : (s.modGbr g f).brg = { s.brg with grains := tset s.brg.grains g (f (s.gbr g)) } := rfl
@[simp] theorem State.modGbr_slt (s : State) (g : Nat) (f : GrainBr → GrainBr) : (s.modGbr g f).slt = s.slt := rfl
@[simp] theorem State.modGbr_wak (s : State) (g : Nat) (f : GrainBr → GrainBr) : (s.modGbr g f).wak = s.wak := rfl
@[simp] theorem State.modGbr_lmp (s : State) (g : Nat) (f : GrainBr → GrainBr) : (s.modGbr g f).lmp = s.lmp := rfl
@[simp] theorem State.modGbr_geo (s : State) (g : Nat) (f : GrainBr → GrainBr) : (s.modGbr g f).geo = s.geo := rfl
@[simp] theorem State.modGbr_att (s : State) (g : Nat) (f : GrainBr → GrainBr) : (s.modGbr g f).att = s.att := rfl
@[simp] theorem State.modGbr_qry (s : State) (g : Nat) (f : GrainBr → GrainBr) : (s.modGbr g f).qry = s.qry := rfl
@[simp] theorem State.modGbr_air (s : State) (g : Nat) (f : GrainBr → GrainBr) : (s.modGbr g f).air = s.air := rfl
@[simp] theorem State.modGbr_spn (s : State) (g : Nat) (f : GrainBr → GrainBr) : (s.modGbr g f).spn = s.spn := rfl
@[simp] theorem State.modGbr_flt (s : State) (g : Nat) (f : GrainBr → GrainBr) : (s.modGbr g f).flt = s.flt := rfl
@[simp] theorem State.modGbr_boot (s : State) (g : Nat) (f : GrainBr → GrainBr) : (s.modGbr g f).boot = s.boot := rfl
@[simp] theorem State.modGbr_thm (s : State) (g : Nat) (f : GrainBr → GrainBr) : (s.modGbr g f).thm = s.thm := rfl

/-! `State.hbmWrite` -/
@[simp] theorem State.hbmWrite_pending (s : State) (a : Nat) (b : Byte) : (s.hbmWrite a b).pending = s.pending := rfl
@[simp] theorem State.hbmWrite_out (s : State) (a : Nat) (b : Byte) : (s.hbmWrite a b).out = s.out := rfl
@[simp] theorem State.hbmWrite_free (s : State) (a : Nat) (b : Byte) : (s.hbmWrite a b).free = s.free := rfl
@[simp] theorem State.hbmWrite_regs (s : State) (a : Nat) (b : Byte) : (s.hbmWrite a b).regs = s.regs := rfl
@[simp] theorem State.hbmWrite_pw (s : State) (a : Nat) (b : Byte) : (s.hbmWrite a b).pw = s.pw := rfl
@[simp] theorem State.hbmWrite_lds (s : State) (a : Nat) (b : Byte) : (s.hbmWrite a b).lds = s.lds := rfl
@[simp] theorem State.hbmWrite_frm (s : State) (a : Nat) (b : Byte) : (s.hbmWrite a b).frm = s.frm := rfl
@[simp] theorem State.hbmWrite_ses (s : State) (a : Nat) (b : Byte) : (s.hbmWrite a b).ses = s.ses := rfl
@[simp] theorem State.hbmWrite_ten (s : State) (a : Nat) (b : Byte) : (s.hbmWrite a b).ten = s.ten := rfl
@[simp] theorem State.hbmWrite_strs (s : State) (a : Nat) (b : Byte) : (s.hbmWrite a b).strs = s.strs := rfl
@[simp] theorem State.hbmWrite_brg (s : State) (a : Nat) (b : Byte) : (s.hbmWrite a b).brg = s.brg := rfl
@[simp] theorem State.hbmWrite_slt (s : State) (a : Nat) (b : Byte) : (s.hbmWrite a b).slt = s.slt := rfl
@[simp] theorem State.hbmWrite_wak (s : State) (a : Nat) (b : Byte) : (s.hbmWrite a b).wak = s.wak := rfl
@[simp] theorem State.hbmWrite_lmp (s : State) (a : Nat) (b : Byte) : (s.hbmWrite a b).lmp = s.lmp := rfl
@[simp] theorem State.hbmWrite_geo (s : State) (a : Nat) (b : Byte) : (s.hbmWrite a b).geo = s.geo := rfl
@[simp] theorem State.hbmWrite_att (s : State) (a : Nat) (b : Byte) : (s.hbmWrite a b).att = s.att := rfl
@[simp] theorem State.hbmWrite_qry (s : State) (a : Nat) (b : Byte) : (s.hbmWrite a b).qry = { s.qry with mem := s.qry.mem.write a b } := rfl
@[simp] theorem State.hbmWrite_air (s : State) (a : Nat) (b : Byte) : (s.hbmWrite a b).air = s.air := rfl
@[simp] theorem State.hbmWrite_spn (s : State) (a : Nat) (b : Byte) : (s.hbmWrite a b).spn = s.spn := rfl
@[simp] theorem State.hbmWrite_flt (s : State) (a : Nat) (b : Byte) : (s.hbmWrite a b).flt = s.flt := rfl
@[simp] theorem State.hbmWrite_boot (s : State) (a : Nat) (b : Byte) : (s.hbmWrite a b).boot = s.boot := rfl
@[simp] theorem State.hbmWrite_thm (s : State) (a : Nat) (b : Byte) : (s.hbmWrite a b).thm = { s.thm with written := insNat (granule a) s.thm.written, bad := s.thm.bad.filter (fun w => !s.rewritten a w) } := rfl

/-! `State.unwriteMib` -/
@[simp] theorem State.unwriteMib_pending (s : State) (p : Nat) : (s.unwriteMib p).pending = s.pending := rfl
@[simp] theorem State.unwriteMib_out (s : State) (p : Nat) : (s.unwriteMib p).out = s.out := rfl
@[simp] theorem State.unwriteMib_free (s : State) (p : Nat) : (s.unwriteMib p).free = s.free := rfl
@[simp] theorem State.unwriteMib_regs (s : State) (p : Nat) : (s.unwriteMib p).regs = s.regs := rfl
@[simp] theorem State.unwriteMib_pw (s : State) (p : Nat) : (s.unwriteMib p).pw = s.pw := rfl
@[simp] theorem State.unwriteMib_lds (s : State) (p : Nat) : (s.unwriteMib p).lds = s.lds := rfl
@[simp] theorem State.unwriteMib_frm (s : State) (p : Nat) : (s.unwriteMib p).frm = s.frm := rfl
@[simp] theorem State.unwriteMib_ses (s : State) (p : Nat) : (s.unwriteMib p).ses = s.ses := rfl
@[simp] theorem State.unwriteMib_ten (s : State) (p : Nat) : (s.unwriteMib p).ten = s.ten := rfl
@[simp] theorem State.unwriteMib_strs (s : State) (p : Nat) : (s.unwriteMib p).strs = s.strs := rfl
@[simp] theorem State.unwriteMib_brg (s : State) (p : Nat) : (s.unwriteMib p).brg = s.brg := rfl
@[simp] theorem State.unwriteMib_slt (s : State) (p : Nat) : (s.unwriteMib p).slt = s.slt := rfl
@[simp] theorem State.unwriteMib_wak (s : State) (p : Nat) : (s.unwriteMib p).wak = s.wak := rfl
@[simp] theorem State.unwriteMib_lmp (s : State) (p : Nat) : (s.unwriteMib p).lmp = s.lmp := rfl
@[simp] theorem State.unwriteMib_geo (s : State) (p : Nat) : (s.unwriteMib p).geo = s.geo := rfl
@[simp] theorem State.unwriteMib_att (s : State) (p : Nat) : (s.unwriteMib p).att = s.att := rfl
@[simp] theorem State.unwriteMib_qry (s : State) (p : Nat) : (s.unwriteMib p).qry = { s.qry with mem := s.qry.mem.filter (fun e => e.1 / 2 ^ 20 != p) } := rfl
@[simp] theorem State.unwriteMib_air (s : State) (p : Nat) : (s.unwriteMib p).air = s.air := rfl
@[simp] theorem State.unwriteMib_spn (s : State) (p : Nat) : (s.unwriteMib p).spn = s.spn := rfl
@[simp] theorem State.unwriteMib_flt (s : State) (p : Nat) : (s.unwriteMib p).flt = s.flt := rfl
@[simp] theorem State.unwriteMib_boot (s : State) (p : Nat) : (s.unwriteMib p).boot = s.boot := rfl
@[simp] theorem State.unwriteMib_thm (s : State) (p : Nat) : (s.unwriteMib p).thm = { s.thm with written := s.thm.written.filter (fun g => g / 256 != p) } := rfl

/-! A free value is taken, and its counter advances. -/
@[simp] theorem State.fresh_fst (s : State) : s.fresh.1 = Config.freeNat s.free := rfl
@[simp] theorem State.fresh_pending (s : State) : s.fresh.2.pending = s.pending := rfl
@[simp] theorem State.fresh_out (s : State) : s.fresh.2.out = s.out := rfl
@[simp] theorem State.fresh_free (s : State) : s.fresh.2.free = s.free + 1 := rfl
@[simp] theorem State.fresh_regs (s : State) : s.fresh.2.regs = s.regs := rfl
@[simp] theorem State.fresh_pw (s : State) : s.fresh.2.pw = s.pw := rfl
@[simp] theorem State.fresh_lds (s : State) : s.fresh.2.lds = s.lds := rfl
@[simp] theorem State.fresh_frm (s : State) : s.fresh.2.frm = s.frm := rfl
@[simp] theorem State.fresh_ses (s : State) : s.fresh.2.ses = s.ses := rfl
@[simp] theorem State.fresh_ten (s : State) : s.fresh.2.ten = s.ten := rfl
@[simp] theorem State.fresh_strs (s : State) : s.fresh.2.strs = s.strs := rfl
@[simp] theorem State.fresh_brg (s : State) : s.fresh.2.brg = s.brg := rfl
@[simp] theorem State.fresh_slt (s : State) : s.fresh.2.slt = s.slt := rfl
@[simp] theorem State.fresh_wak (s : State) : s.fresh.2.wak = s.wak := rfl
@[simp] theorem State.fresh_lmp (s : State) : s.fresh.2.lmp = s.lmp := rfl
@[simp] theorem State.fresh_geo (s : State) : s.fresh.2.geo = s.geo := rfl
@[simp] theorem State.fresh_att (s : State) : s.fresh.2.att = s.att := rfl
@[simp] theorem State.fresh_qry (s : State) : s.fresh.2.qry = s.qry := rfl
@[simp] theorem State.fresh_air (s : State) : s.fresh.2.air = s.air := rfl
@[simp] theorem State.fresh_spn (s : State) : s.fresh.2.spn = s.spn := rfl
@[simp] theorem State.fresh_flt (s : State) : s.fresh.2.flt = s.flt := rfl
@[simp] theorem State.fresh_boot (s : State) : s.fresh.2.boot = s.boot := rfl
@[simp] theorem State.fresh_thm (s : State) : s.fresh.2.thm = s.thm := rfl

end Sys2Proof.Machine
end

