-- ==== Sys2Proof/Laws/Form.lean ====
section
/-!
SUPPORT. Laws/Form.lean: the form of a state under the shared updates.
-/
namespace Sys2Proof.Machine

/-- The form rests on nine places of the state only. -/
theorem State.InForm.congr {s t : State} (h : s.InForm) (mem : t.qry.mem = s.qry.mem) (regs : t.regs = s.regs) (inc : t.lds.inc = s.lds.inc)
    (freq : t.lds.freq = s.lds.freq) (nxt : t.lds.incNext = s.lds.incNext) (assoc : t.ses.assoc = s.ses.assoc) (ptp : t.lds.ptp = s.lds.ptp)
    (tracks : t.wak.tracks = s.wak.tracks) (blobs : t.flt.reg = s.flt.reg) : t.InForm :=
  ⟨mem ▸ h.mem, regs ▸ h.regs, regs ▸ h.words, by unfold Lodestone.rateOk; rw [inc, freq, nxt]; exact h.rate, assoc ▸ h.assoc, ptp ▸ h.ptp,
    tracks ▸ h.tracks, blobs ▸ h.blobs⟩

/-- The same when only parts outside them change, by fields of the state. -/
theorem State.InForm.frame {s t : State} (h : s.InForm) (qry : t.qry = s.qry) (regs : t.regs = s.regs) (lds : t.lds = s.lds)
    (ses : t.ses.assoc = s.ses.assoc) (wak : t.wak = s.wak) (flt : t.flt = s.flt) : t.InForm :=
  h.congr (by rw [qry]) regs (by rw [lds]) (by rw [lds]) (by rw [lds]) ses (by rw [lds]) (by rw [wak]) (by rw [flt])

/-- A register is stored as a 32-bit word. -/
theorem State.InForm.setReg {s : State} (h : s.InForm) (a v : Nat) : (s.setReg a v).InForm :=
  ⟨h.mem, twf_tset _ _ _ h.regs, fun e he => by
    rcases mem_tset _ _ _ _ he with rfl | he
    · exact Nat.mod_lt _ (by decide)
    · exact h.words e he, h.rate, h.assoc, h.ptp, h.tracks, h.blobs⟩

theorem State.InForm.setField {s : State} (h : s.InForm) (a lo w x : Nat) : (s.setField a lo w x).InForm := h.setReg _ _

theorem State.InForm.setFlag {s : State} (h : s.InForm) (a k : Nat) : (s.setFlag a k).InForm := h.setReg _ _

theorem State.InForm.count {s : State} (h : s.InForm) (a lo w n : Nat) : (s.count a lo w n).InForm := h.setField _ _ _ _

/-- Registers that are dropped are listed no more. -/
theorem State.InForm.filterRegs {s : State} (h : s.InForm) (p : Nat × Nat → Bool) : ({ s with regs := s.regs.filter p } : State).InForm :=
  ⟨h.mem, twf_filter _ _ h.regs, fun e he => h.words e (List.mem_of_mem_filter he), h.rate, h.assoc, h.ptp, h.tracks, h.blobs⟩

theorem State.InForm.emit {s : State} (h : s.InForm) (o : Out) : (s.emit o).InForm := h.frame rfl rfl rfl rfl rfl rfl

theorem State.InForm.send {s : State} (h : s.InForm) (k : Msg) (d : Nat) (l : List Nat) (b : Bytes) : (s.send k d l b).InForm := h.emit _

theorem State.InForm.fresh {s : State} (h : s.InForm) : s.fresh.2.InForm := h.frame rfl rfl rfl rfl rfl rfl

theorem State.InForm.raise {s : State} (h : s.InForm) (key code : Nat) (tlvs : List OTlv) : (s.raise key code tlvs).InForm :=
  h.frame rfl rfl rfl rfl rfl rfl

theorem State.InForm.owner {s : State} (h : s.InForm) (code : Nat) (tlvs : List OTlv) : (s.owner code tlvs).InForm := h.raise _ _ _

theorem State.InForm.result {s : State} (h : s.InForm) (key seq cmdid st : Nat) (tlvs : List OTlv) : (s.result key seq cmdid st tlvs).InForm :=
  h.raise _ _ _

theorem State.InForm.modVctl {s : State} (h : s.InForm) (v : Nat) (f : VCtl → VCtl) : (s.modVctl v f).InForm := h.frame rfl rfl rfl rfl rfl rfl

theorem State.InForm.modGrain {s : State} (h : s.InForm) (g : Nat) (f : Grain → Grain) : (s.modGrain g f).InForm :=
  h.frame rfl rfl rfl rfl rfl rfl

theorem State.InForm.modPole {s : State} (h : s.InForm) (g p : Nat) (f : Pole → Pole) : (s.modPole g p f).InForm := h.modGrain _ _

theorem State.InForm.modGbr {s : State} (h : s.InForm) (g : Nat) (f : GrainBr → GrainBr) : (s.modGbr g f).InForm :=
  h.frame rfl rfl rfl rfl rfl rfl

theorem State.InForm.setBoot {s : State} (h : s.InForm) (f : Boot → Boot) : (s.setBoot f).InForm := h.frame rfl rfl rfl rfl rfl rfl

theorem State.InForm.sl {s : State} (h : s.InForm) (f : Slates → Slates) : (s.sl f).InForm := h.frame rfl rfl rfl rfl rfl rfl

theorem State.InForm.lm {s : State} (h : s.InForm) (f : Lamps → Lamps) : (s.lm f).InForm := h.frame rfl rfl rfl rfl rfl rfl

theorem State.InForm.geo' {s : State} (h : s.InForm) (f : Geode → Geode) : (s.geo' f).InForm := h.frame rfl rfl rfl rfl rfl rfl

theorem State.InForm.at' {s : State} (h : s.InForm) (f : Attrib → Attrib) : (s.at' f).InForm := h.frame rfl rfl rfl rfl rfl rfl

theorem State.InForm.ar {s : State} (h : s.InForm) (f : Air → Air) : (s.ar f).InForm := h.frame rfl rfl rfl rfl rfl rfl

theorem State.InForm.sp {s : State} (h : s.InForm) (f : Spine → Spine) : (s.sp f).InForm := h.frame rfl rfl rfl rfl rfl rfl

theorem State.InForm.tn {s : State} (h : s.InForm) (f : Tenancy → Tenancy) : (s.tn f).InForm := h.frame rfl rfl rfl rfl rfl rfl

theorem State.InForm.th {s : State} (h : s.InForm) (f : Thermal → Thermal) : (s.th f).InForm := h.frame rfl rfl rfl rfl rfl rfl

/-- A change of Quarry keeps the form where it keeps HBM. -/
theorem State.InForm.qr {s : State} (h : s.InForm) (f : Quarry → Quarry) (hf : (f s.qry).mem = s.qry.mem) : (s.qr f).InForm :=
  h.congr hf rfl rfl rfl rfl rfl rfl rfl rfl

/-- A change of the wake unit keeps the form where the tracks stay in order. -/
theorem State.InForm.wk {s : State} (h : s.InForm) (f : Wakes → Wakes) (hf : twf (f s.wak).tracks = true) : (s.wk f).InForm :=
  ⟨h.mem, h.regs, h.words, h.rate, h.assoc, h.ptp, hf, h.blobs⟩

/-- A change of Lodestone keeps the form where the rate stays bounded and the ports in order. -/
theorem State.InForm.lds' {s : State} (h : s.InForm) (f : Lodestone → Lodestone) (hr : (f s.lds).rateOk) (hp : twf (f s.lds).ptp = true) :
    (s.lds' f).InForm := ⟨h.mem, h.regs, h.words, hr, h.assoc, hp, h.tracks, h.blobs⟩

/-- A change of Flint keeps the form where the registry stays in order. -/
theorem State.InForm.fl {s : State} (h : s.InForm) (f : Flint → Flint) (hf : twf (f s.flt).reg = true) : (s.fl f).InForm :=
  ⟨h.mem, h.regs, h.words, h.rate, h.assoc, h.ptp, h.tracks, hf⟩

theorem State.InForm.modAssoc {s : State} (h : s.InForm) (k : AssocKey) (f : Assoc → Assoc) : (s.modAssoc k f).InForm :=
  ⟨h.mem, h.regs, h.words, h.rate, twf_tmod _ _ _ h.assoc, h.ptp, h.tracks, h.blobs⟩

theorem State.InForm.hbmWrite {s : State} (h : s.InForm) (a : Nat) (b : Byte) : (s.hbmWrite a b).InForm :=
  ⟨hbmWrite_wf s a b h.mem, h.regs, h.words, h.rate, h.assoc, h.ptp, h.tracks, h.blobs⟩

theorem State.InForm.unwriteMib {s : State} (h : s.InForm) (p : Nat) : (s.unwriteMib p).InForm :=
  ⟨unwriteMib_wf s p h.mem, h.regs, h.words, h.rate, h.assoc, h.ptp, h.tracks, h.blobs⟩

/-- A fold of steps that keep the form keeps it. -/
theorem State.InForm.foldl {α : Type} {f : State → α → State} (hf : ∀ s a, s.InForm → (f s a).InForm) (l : List α) {s : State} (h : s.InForm) :
    (l.foldl f s).InForm := by
  induction l generalizing s with
  | nil => exact h
  | cons a l ih => exact ih (hf _ _ h)

/-- The effect of an event whose guard may fail keeps the form where it does. -/
theorem State.InForm.guardS {s : State} (h : s.InForm) (p : Bool) {f : State → State} (hf : s.InForm → (f s).InForm) :
    (Machine.guardS p f s).InForm := by
  unfold Machine.guardS; split
  · exact hf h
  · exact h

/-- A meaning keeps the form where its effect does: dropping old outputs and keeping the queue touch nothing of it. -/
theorem State.InForm.done {s t : State} (h : s.InForm) {f : State → State} (hf : ∀ u : State, u.InForm → (f u).InForm)
    (e : Machine.done s f = .next t) : t.InForm := by
  simp only [Machine.done, Host.Outcome.next.injEq] at e
  subst e
  exact (hf { s with out := [] } (h.frame rfl rfl rfl rfl rfl rfl)).frame rfl rfl rfl rfl rfl rfl

/-- Lodestone written with a clamped rate stays within its bound (R81). -/
theorem clampInc_bound (v : Nat) : 0x01FFFEB1 ≤ clampInc v ∧ clampInc v ≤ 0x0200014F := by
  unfold clampInc; omega

end Sys2Proof.Machine
end

