-- ==== Sys2Proof/Laws/Geode.lean ====
section
/-!
SUPPORT. Laws/Geode.lean: what the shared operations of the Geode change: its events and logs, one circuit, one accumulator, one piece.
-/
namespace Sys2Proof.Machine

@[simp] theorem Geode.ev_cirs (g : Geode) (a b : Nat) (l : List OTlv) : (g.ev a b l).cirs = g.cirs := rfl
@[simp] theorem Geode.ev_phases (g : Geode) (a b : Nat) (l : List OTlv) : (g.ev a b l).phases = g.phases := rfl
@[simp] theorem Geode.ev_params (g : Geode) (a b : Nat) (l : List OTlv) : (g.ev a b l).params = g.params := rfl
@[simp] theorem Geode.legal_cirs (g : Geode) (a : Nat) (b : Bytes) : (g.legal a b).cirs = g.cirs := rfl
@[simp] theorem Geode.legal_phases (g : Geode) (a : Nat) (b : Bytes) : (g.legal a b).phases = g.phases := rfl
@[simp] theorem Geode.legal_params (g : Geode) (a : Nat) (b : Bytes) : (g.legal a b).params = g.params := rfl
@[simp] theorem Geode.nonLegal_cirs (g : Geode) (a : Nat) (b : Bytes) : (g.nonLegal a b).cirs = g.cirs := rfl
@[simp] theorem Geode.nonLegal_phases (g : Geode) (a : Nat) (b : Bytes) : (g.nonLegal a b).phases = g.phases := rfl
@[simp] theorem Geode.modCir_phases (g : Geode) (c : Nat) (f : GeoCir → GeoCir) : (g.modCir c f).phases = g.phases := rfl
@[simp] theorem Geode.modCir_params (g : Geode) (c : Nat) (f : GeoCir → GeoCir) : (g.modCir c f).params = g.params := rfl

/-- Changing a circuit changes that circuit. -/
@[simp] theorem Geode.modCir_cir_self (g : Geode) (c : Nat) (f : GeoCir → GeoCir) : (g.modCir c f).cir c = f (g.cir c) := by
  simp [Geode.modCir, Geode.cir, tupd, tgetD]

/-- Changing a circuit leaves every other circuit alone. -/
@[simp] theorem Geode.modCir_cir_other (g : Geode) {c d : Nat} (f : GeoCir → GeoCir) (h : d ≠ c) : (g.modCir c f).cir d = g.cir d :=
  tgetD_tset_ne g.cirs (f (g.cir c)) {} h

/-- A circuit is read from the table of circuits alone. -/
theorem Geode.cir_congr {g h : Geode} (e : g.cirs = h.cirs) (c : Nat) : g.cir c = h.cir c := by
  unfold Geode.cir
  rw [e]

/-- A legal log record written under a condition changes no circuit. -/
@[simp] theorem legal_if_cirs (p : Prop) [Decidable p] (g : Geode) (a : Nat) (b : Bytes) : (if p then g.legal a b else g).cirs = g.cirs := by
  split <;> rfl

/-- One accumulator of a circuit takes the quantity modulo 2^96; beside it only the legal log and the events change. -/
theorem accumulate_cirs (c ix v : Nat) (g : Geode) : (accumulate c ix v g).cirs =
    (g.modCir c (fun x => { x with acc := x.acc.set ix (((g.cir c).acc.getD ix 0 + v) % 2 ^ 96) })).cirs := legal_if_cirs ..

/-- The circuit after an accumulation. -/
theorem accumulate_cir (c ix v : Nat) (g : Geode) :
    (accumulate c ix v g).cir c = { g.cir c with acc := (g.cir c).acc.set ix (((g.cir c).acc.getD ix 0 + v) % 2 ^ 96) } := by
  exact (Geode.cir_congr (accumulate_cirs c ix v g) c).trans (Geode.modCir_cir_self g c _)

/-- No other circuit, no phase and no parameter changes. -/
theorem accumulate_frame (c ix v : Nat) (g : Geode) :
    (∀ d, d ≠ c → (accumulate c ix v g).cir d = g.cir d) ∧ (accumulate c ix v g).phases = g.phases ∧ (accumulate c ix v g).params = g.params := by
  refine ⟨fun d h => ?_, ?_, ?_⟩
  · exact (Geode.cir_congr (accumulate_cirs c ix v g) d).trans (Geode.modCir_cir_other g _ h)
  all_goals
    unfold accumulate
    dsimp only
    split <;> rfl

/-- What is done to a list of circuits one after another leaves alone what each of its steps leaves alone. -/
theorem foldl_keeps {α β γ : Type} (f : β → α → β) (v : β → γ) (l : List α) (h : ∀ b, ∀ a ∈ l, v (f b a) = v b) (b : β) :
    v (l.foldl f b) = v b := by
  induction l generalizing b with
  | nil => rfl
  | cons a l ih =>
    rw [List.foldl_cons, ih (fun b x hx => h b x (List.mem_cons_of_mem a hx)), h b a (List.mem_cons_self ..)]

/-- A half-cycle changes the overcurrent state of its circuit alone (R349, R350). -/
theorem halfCycle_cirs (c z half : Nat) (g : Geode) : ∃ f, (halfCycle c z half g).cirs = (g.modCir c f).cirs ∧
    (∀ x, ∃ hi lo oc, f x = { x with ocHi := hi, ocLo := lo, half := half, oc := oc }) ∧
    (halfCycle c z half g).phases = g.phases ∧ (halfCycle c z half g).params = g.params := by
  unfold halfCycle
  extract_lets r x hi lo enter leave g1
  have h1 : (if ((enter || leave) && !g1.masked c z) = true then
      g1.ev 0x0520 c [tCode c, tCode (b2n enter), tValue (half / 1000)] else g1).cirs = g1.cirs := by split <;> rfl
  refine ⟨_, h1, fun x => ⟨_, _, _, rfl⟩, ?_, ?_⟩
  all_goals split <;> rfl

/-- No other circuit, no phase and no parameter changes. -/
theorem halfCycle_frame (c z half : Nat) (g : Geode) :
    (∀ d, d ≠ c → (halfCycle c z half g).cir d = g.cir d) ∧ (halfCycle c z half g).phases = g.phases ∧ (halfCycle c z half g).params = g.params := by
  obtain ⟨f, h1, -, h2, h3⟩ := halfCycle_cirs c z half g
  exact ⟨fun d h => (Geode.cir_congr h1 d).trans (Geode.modCir_cir_other g f h), h2, h3⟩

/-- The accumulation of a piece changes its circuit alone. -/
theorem accPiece_frame (b : Bool) (c n : Nat) (e : Int) (app : Nat) (p1 q1 : Int) (g : Geode) :
    (∀ d, d ≠ c → (accPiece b c n e app p1 q1 g).cir d = g.cir d) ∧ (accPiece b c n e app p1 q1 g).phases = g.phases ∧
      (accPiece b c n e app p1 q1 g).params = g.params := by
  have two : ∀ i v j w (g : Geode), (∀ d, d ≠ c → (accumulate c i v (accumulate c j w g)).cir d = g.cir d) ∧
      (accumulate c i v (accumulate c j w g)).phases = g.phases ∧ (accumulate c i v (accumulate c j w g)).params = g.params := fun i v j w g =>
    ⟨fun d h => ((accumulate_frame c i v _).1 d h).trans ((accumulate_frame c j w g).1 d h),
      (accumulate_frame c i v _).2.1.trans (accumulate_frame c j w g).2.1, (accumulate_frame c i v _).2.2.trans (accumulate_frame c j w g).2.2⟩
  unfold accPiece accSigned
  dsimp only
  split
  · exact two _ _ _ _ g
  · exact ⟨fun d h => ((two _ _ _ _ _).1 d h).trans ((two _ _ _ _ g).1 d h), (two _ _ _ _ _).2.1.trans (two _ _ _ _ g).2.1,
      (two _ _ _ _ _).2.2.trans (two _ _ _ _ g).2.2⟩

/-- The copy that an accumulation past the frame boundary keeps belongs to its circuit (R362). -/
theorem keepCopy_frame (z c : Nat) (g : Geode) :
    (∀ d, d ≠ c → (keepCopy z c g).cir d = g.cir d) ∧ (keepCopy z c g).phases = g.phases ∧ (keepCopy z c g).params = g.params := by
  unfold keepCopy
  split
  · exact ⟨fun _ _ => rfl, rfl, rfl⟩
  · exact ⟨fun d h => Geode.modCir_cir_other g _ h, rfl, rfl⟩

/-- The end of a piece changes its circuit, the legal log and the events alone (R342 to R349). -/
theorem endPiece_frame (block part : Bool) (freq : Nat) (vs : List (Nat × Int)) (v1 : Int × Int) (z0 z c : Nat) (g : Geode) :
    (∀ d, d ≠ c → (endPiece block part freq vs v1 z0 z c g).cir d = g.cir d) ∧ (endPiece block part freq vs v1 z0 z c g).phases = g.phases ∧
      (endPiece block part freq vs v1 z0 z c g).params = g.params := by
  unfold endPiece
  extract_lets all is r n irms starting g1 g2 g3 g4
  split
  · exact ⟨fun _ _ => rfl, rfl, rfl⟩
  · have h1 : (∀ d, d ≠ c → g1.cir d = g.cir d) ∧ g1.phases = g.phases ∧ g1.params = g.params :=
      ⟨fun d h => Geode.modCir_cir_other g _ h, Geode.modCir_phases g c _, Geode.modCir_params g c _⟩
    have h2 := keepCopy_frame z c g1
    have h3 : (∀ d, d ≠ c → g3.cir d = g2.cir d) ∧ g3.phases = g2.phases ∧ g3.params = g2.params := by
      refine iteInduction (motive := fun g3 : Geode => (∀ d, d ≠ c → g3.cir d = g2.cir d) ∧ g3.phases = g2.phases ∧ g3.params = g2.params)
        (fun _ => accPiece_frame ..) (fun _ => ⟨fun _ _ => rfl, rfl, rfl⟩)
    have h4 : (∀ d, d ≠ c → g4.cir d = g3.cir d) ∧ g4.phases = g3.phases ∧ g4.params = g3.params :=
      ⟨fun d h => Geode.modCir_cir_other g3 _ h, Geode.modCir_phases g3 c _, Geode.modCir_params g3 c _⟩
    change (∀ d, d ≠ c → g2.cir d = g1.cir d) ∧ g2.phases = g1.phases ∧ g2.params = g1.params at h2
    clear_value g4 g3 g2 g1
    refine ⟨fun d h => ?_, ?_, ?_⟩
    · rw [foldl_keeps _ (fun g : Geode => g.cir d) _ (fun b a _ => (halfCycle_frame c _ _ b).1 d h), h4.1 d h, h3.1 d h, h2.1 d h, h1.1 d h]
    · rw [foldl_keeps _ (fun g : Geode => g.phases) _ (fun b a _ => (halfCycle_frame c _ _ b).2.1), h4.2.1, h3.2.1, h2.2.1, h1.2.1]
    · rw [foldl_keeps _ (fun g : Geode => g.params) _ (fun b a _ => (halfCycle_frame c _ _ b).2.2), h4.2.2, h3.2.2, h2.2.2, h1.2.2]

/-- The end of a piece of a phase changes the circuits of the phase, and of the phases only this one (R343). -/
theorem endPhase_frame (whole part : Bool) (p z0 z : Nat) (g : Geode) :
    (∀ d, (g.rec_ d).mphase ≠ p → (endPhase whole part p z0 z g).cir d = g.cir d) ∧
      (∀ r, r ≠ p → (endPhase whole part p z0 z g).phase r = g.phase r) ∧ (endPhase whole part p z0 z g).params = g.params := by
  unfold endPhase
  extract_lets ph all vs v1 g1
  clear_value v1 vs
  have hp : g1.phases = g.phases := foldl_keeps _ (fun g : Geode => g.phases) _ (fun b a _ => (endPiece_frame ..).2.1) g
  refine ⟨fun d h => ?_, fun r h => ?_, foldl_keeps _ (fun g : Geode => g.params) _ (fun b a _ => (endPiece_frame ..).2.2) g⟩
  · refine foldl_keeps _ (fun g : Geode => g.cir d) _ (fun b a ha => ?_) g
    have hm : (g.rec_ a).mphase = p := by simpa [Geode.ofPhase] using (List.mem_filter.mp ha).2
    exact (endPiece_frame ..).1 d (fun e => h (e ▸ hm))
  · show tgetD (tset g1.phases p _) r {} = tgetD g.phases r {}
    rw [tgetD_tset_ne _ _ _ h, hp]

end Sys2Proof.Machine
end

