-- ==== Sys2Proof/Tests/Slice0.lean ====
section
/-!
SUPPORT. Tests/Slice0.lean: an ill-formed term for every check of WellFormed, the spec's worked examples, single steps, and one witness theorem for
every statement with hypotheses: concrete operands and states that meet them, clause by clause. A witness whose name ends in a number is the one of
that clause. Where a clause turns on a value that the spec leaves open (Config), its witness takes a value under which the clause applies.
-/
namespace Sys2Proof.Tests
open Sys2Proof Machine
set_option linter.unusedVariables false
set_option Elab.async false

/-! ### States that the tests start from -/

/-- Both domains run from both feeds; Lodestone has just started. -/
def on : State := { State.reset with pw := { State.reset.pw with feedA := { usable := true }, feedB := { usable := true }, service := true, main := true }, frm := { now := 5000, beat := 70 }, boot := { maint := true, dev0 := true, dev1 := true, step := 8 } }
/-- light level, owner association on the service link -/
def lit : State := { on with
  lds := { on := true, st := .locked, target := some .ptp, qual := [.ptp] }
  boot := { maint := true, dev0 := true, dev1 := true, step := 10, inService := true }
  frm := { now := 5000, beat := 0, cap := 4000 }
  ses := { assoc := [(0, { path := .service, phase := .opened, major := 3, caps := 255, lastRx := 4000 })] }
  ten := { State.reset.ten with vctls := [(0, { q := ownerQuotas, modRights := 0x7F, circuits := 2 ^ 64 - 1, tokens := 400, allow := 400, clientKey := some [] }), (1, { modRights := 2, circuits := 2 ^ 64 - 1 })] } }
def own : Src := { key := .vctl 0, seq := 7, cmdid := 1, noData := false }
def tl (id : Nat) (v : Bytes) : Tlv := { id := id, must := false, val := v }
def nn (n v : Nat) : Bytes := beBytes n v
def acS (i : OpInfo) (src : Src) (t : List Tlv) (s : State) : State := match accepted i src t s with | some (s1, _) => s1 | none => s
def c0 : Cmd := { uid := 0, op := 0, key := .vctl 0, seq := 0, cmdid := 0, noData := false, flags := 0, pre := [], tlvs := [], eps := [], major := 3 }
def acC (i : OpInfo) (src : Src) (t : List Tlv) (s : State) : Cmd := match accepted i src t s with | some (_, c) => c | none => c0
def lamp (n : Nat) : Nat × AirEp := (n, { lighting := true, joined := true, eui := n + 1 })
def lst : State := { lit with air := { lit.air with eps := [lamp 1, lamp 2, lamp 3] }, slt := { lit.slt with front := [(262145, 1000)], srcs := [(262145, [{ rank := 2, vctl := 0, prog := .level 1000 }]), (262146, [{ rank := 4, vctl := 0, prog := .level 9 }])], preset := [(262146, 7, true)] } }
def epl (l : List Nat) : Tlv := tl 1 (l.flatMap (nn 4))
/-- tenant 5 with an association and view [262145,262146] -/
def ten5 (s : State) : State := { s with ses := { s.ses with assoc := s.ses.assoc ++ [(5, { path := .service, phase := .opened, major := 3, caps := 255, lastRx := 4000 })] }, ten := { s.ten with vctls := s.ten.vctls ++ [(5, { q := { tenantQuotas with refill := 100, burst := 100 }, tokens := 100, allow := 100, rights := [(262145, 31), (262146, 31)], view := [.live 262145, .live 262146], modRights := 127 })] } }
def t5 : Src := { key := .vctl 5, seq := 7, cmdid := 1, noData := false }
def lsd (s : State) : State := { s with ten := { s.ten with leases := [(262145, ⟨5, none⟩)] } }
def sch (s : State) : State := { s with slt := { s.slt with location := some (0, 0), scheds := [(4, ⟨true, none, [262145], [.x 5001 77 0 false, .x 4000 88 0 true], 0⟩)] } }
def grp (s : State) : State := { s with slt := { s.slt with groups := [(9, { name := [65], primary := [262147] }), (10, { name := [65], primary := [262145], secondary := [262146] })] } }
def aonS (s : State) : State := { grp s with lmp := { s.lmp with aon := [(9, { st := 0, level := 5, extra := 1, latched := true, installed := true })], latchNo := [(9, 3)] } }
/-- The state after a step. -/
def afterStep (s : State) : State := match step s with | .next t => t | _ => s
theorem acc_some {i : OpInfo} {src : Src} {t : List Tlv} {s : State} (h : (accepted i src t s).isSome = true) :
    accepted i src t s = some (acS i src t s, acC i src t s) := by
  unfold acS acC; cases hx : accepted i src t s with
  | none => simp [hx] at h
  | some p => rfl

/-- An opcode with its own checks left out. -/
def bare (i : OpInfo) : OpInfo := { i with ranges := fun _ _ => .ok (), accept := fun _ _ => .ok () }
/-- The state in which a command of `src` is examined. -/
def atExam (src : Src) (s : State) : State := ({ s with out := [] } : State).modAssoc src.key (fun a => { a with lastRx := s.frm.now })

theorem examine_bare {i : OpInfo} {key : AssocKey} {seq cmdid : Nat} {nd : Bool} {fl uid : Nat} {a : Assoc} {tlvs : List Tlv} {s : State} {c : Cmd}
    (h : examine (bare i) key seq cmdid nd fl uid a tlvs s = .ok c) (hr : i.ranges c s = .ok ()) (ha : i.accept c s = .ok ()) :
    examine i key seq cmdid nd fl uid a tlvs s = .ok c := by
  obtain ⟨ks, ign, hf, hc, rfl⟩ := examine_iff.1 h
  refine examine_iff.2 ⟨ks, ign, hf, fun x hx => ?_, rfl⟩
  by_cases h1 : x = i.ranges (namedCmd i key seq cmdid nd fl uid a ks ign s) s
  · exact h1.trans hr
  by_cases h2 : x = i.accept (namedCmd i key seq cmdid nd fl uid a ks ign s) s
  · exact h2.trans ha
  refine hc x ?_
  generalize hn : namedCmd i key seq cmdid nd fl uid a ks ign s = n at h1 h2
  have e : examChecks (bare i) (namedCmd (bare i) key seq cmdid nd fl uid a ks ign s) a s =
      [i.form n, checkVersion i a, checkRights i n a s, i.path n a.path, i.rights n s, checkRanges i n,
       checkLocals s n.vctl (n.list 0x0001 4) stParamRange, .ok (), checkLocals s n.vctl (n.list 0x0001 4) stEndpointUnknown,
       if i.reach then checkReach s n.eps else .ok (), .ok ()] := by subst hn; rfl
  have f : x ∈ examChecks i n a s := by subst hn; exact hx
  rw [e]
  simp only [examChecks, List.mem_cons, List.not_mem_nil, h1, h2, or_false, false_or] at f ⊢
  tauto

theorem submit_bare {i : OpInfo} {key : AssocKey} {seq cmdid : Nat} {nd : Bool} {a : Assoc} {tlvs : List Tlv} {s s1 : State} {c : Cmd}
    (h : submit (bare i) key seq cmdid nd 0 a tlvs s = (s1, .ok c)) (hr : i.ranges c s = .ok ()) (ha : i.accept c s = .ok ()) :
    submit i key seq cmdid nd 0 a tlvs s = (s1, .ok c) := by
  unfold submit at h ⊢
  cases he : examine (bare i) key seq cmdid nd 0 s.frm.uid a tlvs s with
  | error e => rw [he] at h; cases h
  | ok c' =>
    rw [he] at h
    dsimp only at h
    cases hk : checkTokens s c' a ((bare i).cost c') with
    | error e => rw [hk] at h; cases h
    | ok u =>
      rw [hk] at h
      cases h
      rw [examine_bare he hr ha]
      dsimp only
      rw [show checkTokens s c a (i.cost c) = _ from hk]
      rfl

theorem accepted_bare {i : OpInfo} {src : Src} {tlvs : List Tlv} {s s1 : State} {c : Cmd} (h : accepted (bare i) src tlvs s = some (s1, c))
    (hr : i.ranges c (atExam src s) = .ok ()) (ha : i.accept c (atExam src s) = .ok ()) : accepted i src tlvs s = some (s1, c) := by
  unfold accepted acceptedIn at h ⊢
  cases hs : s.assoc? src.key with
  | none => rw [hs] at h; cases h
  | some a =>
    rw [hs] at h
    by_cases hp : ((a.phase == Phase.opened) && s.pathUp a.path && s.frm.beat == 0) = true
    · dsimp only at h ⊢
      rw [if_pos hp] at h ⊢
      obtain ⟨x, hx⟩ : ∃ x, submit (bare i) src.key src.seq src.cmdid src.noData 0 a tlvs (atExam src s) = x := ⟨_, rfl⟩
      obtain ⟨s2, y⟩ := x
      cases y with
      | error r => erw [hx] at h; cases h
      | ok c' =>
        erw [hx] at h
        have hc : s2 = s1 ∧ c' = c := by
          dsimp only at h; split at h
          · cases h; exact ⟨rfl, rfl⟩
          · cases h
        obtain ⟨rfl, rfl⟩ := hc
        erw [submit_bare hx hr ha]
        exact h
    · dsimp only at h; rw [if_neg hp] at h; cases h
/-- The reply of a refused command. -/
def errOf (p : State × Except Reply Cmd) : Reply := match p.2 with | .error r => r | .ok c => c.ok
theorem submit_err {p : State × Except Reply Cmd} (h : (match p.2 with | .ok _ => false | .error _ => true) = true) : p = (p.1, .error (errOf p)) := by
  obtain ⟨s, x⟩ := p
  cases x with
  | error r => rfl
  | ok c => cases h
/-- The command of an accepted one. -/
def okOf (p : State × Except Reply Cmd) : Cmd := match p.2 with | .ok c => c | .error _ => c0
theorem submit_ok {p : State × Except Reply Cmd} (h : (match p.2 with | .ok _ => true | .error _ => false) = true) : p = (p.1, .ok (okOf p)) := by
  obtain ⟨s, x⟩ := p
  cases x with
  | error r => cases h
  | ok c => rfl

/-! ### WellFormed: an ill-formed term for each check, which it refuses -/

theorem wf_refuses_1 : ([
    .feedUsable ⟨.a, 65536⟩ ⟨none, []⟩,
    .feedUsable ⟨.a, 48000⟩ ⟨some [], []⟩,
    .feedUsable ⟨.a, 48000⟩ ⟨none, [65536]⟩,
    .inputLow ⟨.a, 65536⟩,
    .inputHigh ⟨.a, 65536⟩,
    .ovpReconnect ⟨.a, 65536⟩ ⟨none, []⟩,
    .ovpReconnect ⟨.a, 48000⟩ ⟨some [], []⟩,
    .carrierRstRelease ⟨some [], []⟩,
    .tamperLoop 81 1,
    .tamperLoop 1 (2 ^ 20),
    .gpioDirWrite 65536,
    .ux1SourceCaps [⟨51151, 1⟩] true true ⟨none, []⟩,
    .ux1SourceCaps [⟨1, 10231⟩] true true ⟨none, []⟩,
    .ux1SourceCaps [] true true ⟨some [], []⟩,
    .ldsIncWrite (2 ^ 64),
    .ldsOffsetLoad (2 ^ 128),
    .ldsNsRead 80 1,
    .ldsNsRead 1 (2 ^ 20),
    .timerArm 16 true ⟨0, 0, 0, 1⟩,
    .timerArm 1 true ⟨8, 0, 0, 1⟩,
    .timerArm 1 true ⟨0, 2 ^ 32, 0, 1⟩,
    .timerArm 1 true ⟨0, 0, 2 ^ 32, 1⟩,
    .timerArm 1 true ⟨0, 0, 0, 2 ^ 17⟩,
    .timerFire 16,
    .timerPulseEnd 16,
    .beatBoundary ⟨65536, 0⟩,
    .beatBoundary ⟨0, 2 ^ 20⟩,
    .ptpMessage 65536 ⟨0, 0⟩ .unsupported,
    .ptpMessage 1 ⟨256, 0⟩ .unsupported,
    .ptpMessage 1 ⟨0, 2 ^ 20⟩ .unsupported] : List Instr).all (fun c => !c.wf) = true := by decide +kernel
theorem wf_refuses_2 : ([
    .ptpMessage 1 ⟨0, 0⟩ (.announce { prio1 := 256, cls := 6, acc := 33, var := 5, prio2 := 128, gm := 77, steps := 2, src := 78, srcPort := 1 }),
    .ptpMessage 1 ⟨0, 0⟩ (.announce { prio1 := 1, cls := 256, acc := 33, var := 5, prio2 := 128, gm := 77, steps := 2, src := 78, srcPort := 1 }),
    .ptpMessage 1 ⟨0, 0⟩ (.announce { prio1 := 1, cls := 6, acc := 256, var := 5, prio2 := 128, gm := 77, steps := 2, src := 78, srcPort := 1 }),
    .ptpMessage 1 ⟨0, 0⟩ (.announce { prio1 := 1, cls := 6, acc := 33, var := 65536, prio2 := 128, gm := 77, steps := 2, src := 78, srcPort := 1 }),
    .ptpMessage 1 ⟨0, 0⟩ (.announce { prio1 := 1, cls := 6, acc := 33, var := 5, prio2 := 256, gm := 77, steps := 2, src := 78, srcPort := 1 }),
    .ptpMessage 1 ⟨0, 0⟩ (.announce { prio1 := 1, cls := 6, acc := 33, var := 5, prio2 := 128, gm := 2 ^ 64, steps := 2, src := 78, srcPort := 1 }),
    .ptpMessage 1 ⟨0, 0⟩ (.announce { prio1 := 1, cls := 6, acc := 33, var := 5, prio2 := 128, gm := 77, steps := 65536, src := 78, srcPort := 1 }),
    .ptpMessage 1 ⟨0, 0⟩ (.announce { prio1 := 1, cls := 6, acc := 33, var := 5, prio2 := 128, gm := 77, steps := 2, src := 2 ^ 64, srcPort := 1 }),
    .ptpMessage 1 ⟨0, 0⟩ (.announce { prio1 := 1, cls := 6, acc := 33, var := 5, prio2 := 128, gm := 77, steps := 2, src := 78, srcPort := 65536 }),
    .ptpMessage 1 ⟨0, 0⟩ (.sync true 65536 0 0),
    .ptpMessage 1 ⟨0, 0⟩ (.followUp 65536 0 0),
    .ptpMessage 1 ⟨0, 0⟩ (.delayResp 65536 0 0),
    .ptpMessage 1 ⟨0, 0⟩ (.pdelayResp true 65536 0 0),
    .ptpMessage 1 ⟨0, 0⟩ (.pdelayFollowUp 65536 0 0),
    .ptpMessage 1 ⟨0, 0⟩ (.delayReq 65536 0),
    .ptpMessage 1 ⟨0, 0⟩ (.delayReq 0 (2 ^ 64)),
    .ptpMessage 1 ⟨0, 0⟩ (.pdelayReq 65536 0),
    .ptpMessage 1 ⟨0, 0⟩ (.pdelayReq 0 (2 ^ 64)),
    .ppsInEdge (2 ^ 20),
    .todRxSentence (2 ^ 20) (.zda 0) true,
    .todRxSentence 1 (.pztod 0 0 10) true,
    .fsyncInEdge 80 1,
    .fsyncInEdge 1 (2 ^ 20),
    .frameTick (2 ^ 32) ⟨0, 0, 0, ⟨none, []⟩⟩,
    .frameTick 1 ⟨65536, 0, 0, ⟨none, []⟩⟩,
    .frameTick 1 ⟨0, 65536, 0, ⟨none, []⟩⟩,
    .frameTick 1 ⟨0, 0, 65536, ⟨none, []⟩⟩,
    .frameTick 1 ⟨0, 0, 0, ⟨none, [65536]⟩⟩,
    .eventResend (.vctl 4096),
    .eventResend (.svc 8)] : List Instr).all (fun c => !c.wf) = true := by decide +kernel
theorem wf_refuses_3 : ([
    .scheduleFire 4096 1 1,
    .scheduleFire 1 65536 1,
    .scheduleFire 1 1 65536,
    .backSlateFreeze [2 ^ 20] [] [],
    .backSlateFreeze [] [2 ^ 20] [],
    .backSlateFreeze [] [] [2 ^ 20],
    .urgentPacket (.vctl 4096) [],
    .clientHello 1 ({ name := none, versions := [65536], suites := [], groups := [], sigs := [], cid := none, early := false }) .service true,
    .clientHello 1 ({ name := none, versions := [0xFEFC], suites := [65536], groups := [], sigs := [], cid := none, early := false }) .service true,
    .clientHello 1 ({ name := none, versions := [0xFEFC], suites := [], groups := [65536], sigs := [], cid := none, early := false }) .service true,
    .clientHello 1 ({ name := none, versions := [0xFEFC], suites := [], groups := [], sigs := [65536], cid := none, early := false }) .service true,
    .clientHello 1 ({ name := none, versions := [0xFEFC], suites := [], groups := [], sigs := [], cid := none, early := false }) (.uplink 16) true,
    .clientFinished 1 (List.replicate 65 0),
    .assocIdleTimeout (.vctl 4096),
    .dtlsKeyUpdate (.vctl 4096) true,
    .dtlsRecordLimit (.vctl 4096),
    .commandPacket (.vctl 4096) [],
    .sessionOpen 256 own [],
    .sessionOpen 1 ({ own with key := .vctl 4096 }) [],
    .sessionOpen 1 ({ own with seq := 2 ^ 32 }) [],
    .sessionOpen 1 ({ own with cmdid := 2 ^ 16 }) [],
    .sessionOpen 1 own [tl 0x8000 []],
    .keepalive ({ own with key := .vctl 4096 }) [],
    .keepalive own [tl 0x8000 []],
    .imageVerified 4,
    .vctlRemovalEnd 4096,
    .stringLink 256 true 1,
    .stringLink 1 true 3,
    .rateTryTimeout 256,
    .censusStart 256] : List Instr).all (fun c => !c.wf) = true := by decide +kernel
theorem wf_refuses_4 : ([
    .enumReport 256 1 1 ⟨9, 1, 1, 1, 24, 1, 15, [0], [0], 0, 1⟩ true,
    .enumReport 1 65536 1 ⟨9, 1, 1, 1, 24, 1, 15, [0], [0], 0, 1⟩ true,
    .enumReport 1 1 0 ⟨9, 1, 1, 1, 24, 1, 15, [0], [0], 0, 1⟩ true,
    .enumReport 1 1 66 ⟨9, 1, 1, 1, 24, 1, 15, [0], [0], 0, 1⟩ true,
    .enumReport 1 1 1 ⟨2 ^ 64, 1, 1, 1, 24, 1, 15, [0], [0], 0, 1⟩ true,
    .enumReport 1 1 1 ⟨9, 1, 1, 2 ^ 32, 24, 1, 15, [0], [0], 0, 1⟩ true,
    .enumReport 1 1 1 ⟨9, 1, 1, 1, 24, 0, 15, [], [], 0, 1⟩ true,
    .enumReport 1 1 1 ⟨9, 1, 1, 1, 24, 17, 15, List.replicate 17 0, List.replicate 17 0, 0, 1⟩ true,
    .enumReport 1 1 1 ⟨9, 1, 1, 1, 24, 1, 15, [], [0], 0, 1⟩ true,
    .enumReport 1 1 1 ⟨9, 1, 1, 1, 24, 1, 15, [0], [], 0, 1⟩ true,
    .enumReport 1 1 1 ⟨9, 1, 1, 1, 24, 1, 15, [0], [0], 0, 3⟩ true,
    .enumerateLoopReturn 256 1,
    .enumerateLoopReturn 1 65536,
    .censusPassTimeout 256,
    .linkChange 256,
    .censusRetry 256,
    .pairResp 256 1 ⟨List.replicate 64 0, List.replicate 12 0, List.replicate 48 0⟩ 1 true,
    .pairResp 1 0 ⟨List.replicate 64 0, List.replicate 12 0, List.replicate 48 0⟩ 1 true,
    .pairResp 1 65 ⟨List.replicate 64 0, List.replicate 12 0, List.replicate 48 0⟩ 1 true,
    .pairResp 1 1 ⟨[], List.replicate 12 0, List.replicate 48 0⟩ 1 true,
    .pairResp 1 1 ⟨List.replicate 64 0, [], List.replicate 48 0⟩ 1 true,
    .pairResp 1 1 ⟨List.replicate 64 0, List.replicate 12 0, []⟩ 1 true,
    .pairResp 1 1 ⟨List.replicate 64 0, List.replicate 12 0, List.replicate 48 0⟩ (2 ^ 64) true,
    .pairTimeout 256 1,
    .pairTimeout 1 0,
    .pairRetry 256 1,
    .pairRetry 1 0,
    .assocConfirm 256 1 ({ aid := 1, ctr := 1, ok := true }),
    .assocConfirm 1 0 ({ aid := 1, ctr := 1, ok := true }),
    .assocConfirm 1 1 ({ aid := 2 ^ 32, ctr := 1, ok := true })] : List Instr).all (fun c => !c.wf) = true := by decide +kernel
theorem wf_refuses_5 : ([
    .assocConfirm 1 1 ({ aid := 1, ctr := 2 ^ 64, ok := true }),
    .assocConfirm 1 1 ({ aid := 1, ctr := 1, ok := true, mver := 256 }),
    .assocConfirm 1 1 ({ aid := 1, ctr := 1, ok := true, hop := 256 }),
    .assocConfirm 1 1 ({ aid := 1, ctr := 1, ok := true, flags := 256 }),
    .assocConfirm 1 1 ({ aid := 1, ctr := 1, ok := true, trailer := -(2 ^ 63) - 1 }),
    .assocConfirm 1 1 ({ aid := 1, ctr := 1, ok := true, trailer := 2 ^ 63 }),
    .assocInitTimeout 256 1,
    .assocInitTimeout 1 0,
    .assocClose 256 1 ({ aid := 1, ctr := 1, ok := true }),
    .assocClose 1 0 ({ aid := 1, ctr := 1, ok := true }),
    .assocClose 1 1 ({ aid := 2 ^ 32, ctr := 1, ok := true }),
    .assocRekey 256 1,
    .assocRekey 1 0,
    .assocOldKeyErase 256 1,
    .assocOldKeyErase 1 0,
    .assocExhausted 256 1,
    .assocExhausted 1 0,
    .groupKeyReplace 256,
    .timeSyncSend 256,
    .delayReq 256 1 ({ aid := 1, ctr := 1, ok := true }),
    .delayReq 1 0 ({ aid := 1, ctr := 1, ok := true }),
    .delayReq 1 1 ({ aid := 2 ^ 32, ctr := 1, ok := true }),
    .resyncReq 256 1 ({ aid := 1, ctr := 1, ok := true }),
    .resyncReq 1 0 ({ aid := 1, ctr := 1, ok := true }),
    .resyncReq 1 1 ({ aid := 2 ^ 32, ctr := 1, ok := true }),
    .credit 256 1 ({ aid := 1, ctr := 1, ok := true }) [],
    .credit 1 0 ({ aid := 1, ctr := 1, ok := true }) [],
    .credit 1 1 ({ aid := 2 ^ 32, ctr := 1, ok := true }) [],
    .credit 1 1 ({ aid := 1, ctr := 1, ok := true }) [65536],
    .creditQuery 256 1 1] : List Instr).all (fun c => !c.wf) = true := by decide +kernel
theorem wf_refuses_6 : ([
    .creditQuery 1 0 1,
    .creditQuery 1 1 8,
    .bridgeIssue 256 1,
    .bridgeIssue 1 4096,
    .brReadResp 256 1 ({ aid := 1, ctr := 1, ok := true }) 1 1 4 1 1 [],
    .brReadResp 1 0 ({ aid := 1, ctr := 1, ok := true }) 1 1 4 1 1 [],
    .brReadResp 1 1 ({ aid := 2 ^ 32, ctr := 1, ok := true }) 1 1 4 1 1 [],
    .brReadResp 1 1 ({ aid := 1, ctr := 1, ok := true }) 16 1 4 1 1 [],
    .brReadResp 1 1 ({ aid := 1, ctr := 1, ok := true }) 1 256 4 1 1 [],
    .brReadResp 1 1 ({ aid := 1, ctr := 1, ok := true }) 1 1 65536 1 1 [],
    .brReadResp 1 1 ({ aid := 1, ctr := 1, ok := true }) 1 1 2 1 1 [],
    .brReadResp 1 1 ({ aid := 1, ctr := 1, ok := true }) 1 1 4 0 1 [],
    .brReadResp 1 1 ({ aid := 1, ctr := 1, ok := true }) 1 1 4 65 1 [],
    .brReadResp 1 1 ({ aid := 1, ctr := 1, ok := true }) 1 1 4 1 256 [],
    .brReadResp 1 1 ({ aid := 1, ctr := 1, ok := true }) 1 1 4 1 1 (List.replicate 257 0),
    .brWriteAck 256 1 ({ aid := 1, ctr := 1, ok := true }) 1 1 4 1 1,
    .brWriteAck 1 0 ({ aid := 1, ctr := 1, ok := true }) 1 1 4 1 1,
    .brWriteAck 1 1 ({ aid := 2 ^ 32, ctr := 1, ok := true }) 1 1 4 1 1,
    .brWriteAck 1 1 ({ aid := 1, ctr := 1, ok := true }) 16 1 4 1 1,
    .brWriteAck 1 1 ({ aid := 1, ctr := 1, ok := true }) 1 256 4 1 1,
    .brWriteAck 1 1 ({ aid := 1, ctr := 1, ok := true }) 1 1 65536 1 1,
    .brWriteAck 1 1 ({ aid := 1, ctr := 1, ok := true }) 1 1 4 0 1,
    .brWriteAck 1 1 ({ aid := 1, ctr := 1, ok := true }) 1 1 4 1 256,
    .tagTimeout 256 1,
    .tagTimeout 1 256,
    .tagSecondTimeout 256 1,
    .tagSecondTimeout 1 256,
    .semWaitTimeout 256,
    .semBrokenExpire 256,
    .detection 256 1 ({ aid := 1, ctr := 1, ok := true }) []] : List Instr).all (fun c => !c.wf) = true := by decide +kernel
theorem wf_refuses_7 : ([
    .detection 1 0 ({ aid := 1, ctr := 1, ok := true }) [],
    .detection 1 1 ({ aid := 2 ^ 32, ctr := 1, ok := true }) [],
    .detection 1 1 ({ aid := 1, ctr := 1, ok := true }) [⟨16, 0, 0, 0, 0⟩],
    .detection 1 1 ({ aid := 1, ctr := 1, ok := true }) [⟨1, 4, 0, 0, 0⟩],
    .wakeHandoffEpoch true ⟨[16], []⟩,
    .wakeMessage true ⟨2 ^ 32, 1, true, 1, none, 1, false⟩ [],
    .wakeMessage true ⟨1, 2 ^ 64, true, 1, none, 1, false⟩ [],
    .wakeMessage true ⟨1, 1, true, 64, none, 1, false⟩ [],
    .wakeMessage true ⟨1, 1, true, 1, some 4096, 1, false⟩ [],
    .wakeMessage true ⟨1, 1, true, 1, none, 4096, false⟩ [],
    .wakeMessage true ⟨1, 1, true, 1, none, 1, false⟩ [⟨4, 1, 1, 1, 1, 1, 1, 1⟩],
    .lampSamples 256 1 ({ aid := 1, ctr := 1, ok := true }) 1 [],
    .lampSamples 1 0 ({ aid := 1, ctr := 1, ok := true }) 1 [],
    .lampSamples 1 1 ({ aid := 2 ^ 32, ctr := 1, ok := true }) 1 [],
    .lampSamples 1 1 ({ aid := 1, ctr := 1, ok := true }) (2 ^ 64) [],
    .lampSamples 1 1 ({ aid := 1, ctr := 1, ok := true }) 1 [⟨16, 0, 0, 0, 0, 0, 0, 0, 0⟩],
    .lampSamples 1 1 ({ aid := 1, ctr := 1, ok := true }) 1 [⟨1, 256, 0, 0, 0, 0, 0, 0, 0⟩],
    .lampSamples 1 1 ({ aid := 1, ctr := 1, ok := true }) 1 [⟨1, 0, 65536, 0, 0, 0, 0, 0, 0⟩],
    .lampSamples 1 1 ({ aid := 1, ctr := 1, ok := true }) 1 [⟨1, 0, 0, 0, 0, 0, 0, 0, 65536⟩],
    .geodeBeatEdge true 1 0 [⟨67, 0, 0⟩],
    .geodeTime (2 ^ 64) true,
    .cycleEnd 0 none,
    .cycleEnd 4 none,
    .cycleEnd 1 (some (2 ^ 64)),
    .geodeNoCrossing 0,
    .geodeNoCrossing 4,
    .geodeSnapshotMsg (2 ^ 64) 1 true,
    .profileClose (2 ^ 64),
    .inrushHint 64 1 true,
    .inrushMaskClose 64] : List Instr).all (fun c => !c.wf) = true := by decide +kernel
theorem wf_refuses_8 : ([
    .readReq 1 256 1 true,
    .readReq 1 1 (2 ^ 32) true,
    .pulseInputChange 16 true 1,
    .pulseInputChange 1 true (2 ^ 64),
    .pulseStuck 16,
    .geodeLineReturn 65536,
    .geodeTempRead (-129),
    .geodeTempRead 128,
    .hdlcFrame (.associate 65536 true),
    .hdlcFrame (.release 65536),
    .hdlcFrame (.get 65536 .clock),
    .hdlcFrame (.get 1 (.register 64 0)),
    .hdlcFrame (.get 1 (.pulse 16)),
    .hdlcFrame (.get 1 (.circuit 67)),
    .hdlcFrame (.set 65536 .clock []),
    .hdlcFrame (.set 1 (.pulse 16) []),
    .hdlcFrame (.image 65536 1 1 true),
    .hdlcFrame (.activate 65536 1),
    .hdlcFrame (.activate 1 0),
    .hdlcFrame (.activate 1 4),
    .hdlcFrame (.other 65536),
    .sapLockEnd 65536,
    .meteringResume (2 ^ 64),
    .tenantFrame 0x112 ⟨none, none, 0, 1, 1, 64, .data⟩ 1 true true,
    .tenantFrame 1 ⟨some 4096, none, 0, 1, 1, 64, .data⟩ 1 true true,
    .tenantFrame 1 ⟨none, some 4096, 0, 1, 1, 64, .data⟩ 1 true true,
    .tenantFrame 1 ⟨none, none, 8, 1, 1, 64, .data⟩ 1 true true,
    .tenantFrame 1 ⟨none, none, 0, 2 ^ 48, 1, 64, .data⟩ 1 true true,
    .tenantFrame 1 ⟨none, none, 0, 1, 2 ^ 48, 64, .data⟩ 1 true true,
    .tenantFrame 1 ⟨none, none, 0, 1, 1, 64, .ptpEvent 65536 true 0 none⟩ 1 true true] : List Instr).all (fun c => !c.wf) = true := by decide +kernel
theorem wf_refuses_9 : ([
    .tenantFrame 1 ⟨none, none, 0, 1, 1, 64, .ptpEvent 0 true 0 (some 65536)⟩ 1 true true,
    .tenantFrame 1 ⟨none, none, 0, 1, 1, 64, .ptpEvent 0 true (2 ^ 63) none⟩ 1 true true,
    .tenantFrame 1 ⟨none, none, 0, 1, 1, 64, .ptpEvent 0 true (-(2 ^ 63) - 1) none⟩ 1 true true,
    .tenantFrame 1 ⟨none, none, 0, 1, 1, 64, .followUp 65536 0 none⟩ 1 true true,
    .egressServe 0x112 1 [],
    .egressServe 1 1 [(256, 0)],
    .macAgeOut 4096 1 1,
    .macAgeOut 1 4096 1,
    .macAgeOut 1 1 (2 ^ 48),
    .dmaRequest 32 1 1,
    .dmaRequest 1 3 1,
    .dmaRequest 1 1 16,
    .dmaDescriptorComplete 32,
    .dmaFenceComplete 32,
    .airFrameRx ⟨1, 1, 1, [⟨4, -90, false⟩], [], true, []⟩,
    .airTxEnd 4 1 1,
    .airTxEnd 1 1 65536,
    .airLightRefresh 65536,
    .airSilent 65536,
    .airRejoinDue 65536 true,
    .spinePortLink true (.hello ⟨2 ^ 32, 1, true, 1, none, 1, false⟩),
    .spineLinkSetup true (.init ⟨true, some [], [], []⟩),
    .spineLinkSetup true (.resp ⟨true, some [], [], []⟩ 1),
    .spineLinkSetup true (.resp ⟨true, none, [], []⟩ (2 ^ 32)),
    .spineLinkSetup true (.confirm true (2 ^ 32)),
    .linkNotice true ⟨2 ^ 32, 1, true, 1, none, 1, false⟩ true true,
    .spineEnumerate true ⟨2 ^ 32, 1, true, 1, none, 1, false⟩ ⟨1, 1, 1, 1⟩ [],
    .spineEnumerate true ⟨1, 1, true, 1, none, 1, false⟩ ⟨1, 2 ^ 64, 1, 1⟩ [],
    .spineEnumerate true ⟨1, 1, true, 1, none, 1, false⟩ ⟨1, 1, 2 ^ 16, 1⟩ [],
    .spineEnumerate true ⟨1, 1, true, 1, none, 1, false⟩ ⟨1, 1, 1, 65⟩ []] : List Instr).all (fun c => !c.wf) = true := by decide +kernel
theorem wf_refuses_10 : ([
    .spineEnumerate true ⟨1, 1, true, 1, none, 1, false⟩ ⟨1, 1, 1, 1⟩ [(2 ^ 64, 1)],
    .spineEnumerate true ⟨1, 1, true, 1, none, 1, false⟩ ⟨1, 1, 1, 1⟩ [(1, 2 ^ 64)],
    .ringTable true ⟨2 ^ 32, 1, true, 1, none, 1, false⟩ 1 [],
    .ringTable true ⟨1, 1, true, 1, none, 1, false⟩ 256 [],
    .ringTable true ⟨1, 1, true, 1, none, 1, false⟩ 1 [(2 ^ 64, 1)],
    .relay (.entry 65536 1 1 1 false []),
    .relay (.entry 1 1 65536 1 false []),
    .relay (.entry 1 1 1 64 false []),
    .relay (.msg true ⟨1, 1, true, 64, none, 1, false⟩ false none []),
    .relay (.msg true ⟨1, 1, true, 1, none, 1, false⟩ false (some (.svc 8)) []),
    .sweepOrderMsg true ⟨2 ^ 32, 1, true, 1, none, 1, false⟩ 1 1,
    .sweepOrderMsg true ⟨1, 1, true, 1, none, 1, false⟩ (2 ^ 32) 1,
    .sweepOrderMsg true ⟨1, 1, true, 1, none, 1, false⟩ 1 (2 ^ 64),
    .orderReply true ⟨2 ^ 32, 1, true, 1, none, 1, false⟩ 1 1,
    .orderReply true ⟨1, 1, true, 1, none, 1, false⟩ (2 ^ 32) 1,
    .orderReply true ⟨1, 1, true, 1, none, 1, false⟩ 1 65536,
    .collect true ⟨2 ^ 32, 1, true, 1, none, 1, false⟩ 1 [],
    .collect true ⟨1, 1, true, 1, none, 1, false⟩ (2 ^ 32) [],
    .collect true ⟨1, 1, true, 1, none, 1, false⟩ 1 [4096],
    .sweepRecord true ⟨2 ^ 32, 1, true, 1, none, 1, false⟩ 1 1 [],
    .sweepRecord true ⟨1, 1, true, 1, none, 1, false⟩ (2 ^ 32) 1 [],
    .sweepRecord true ⟨1, 1, true, 1, none, 1, false⟩ 1 4096 [],
    .collectTurn true ⟨2 ^ 32, 1, true, 1, none, 1, false⟩ 1,
    .collectTurn true ⟨1, 1, true, 1, none, 1, false⟩ (2 ^ 32),
    .slotIntegrityCheck 4096 1 true,
    .slotIntegrityCheck 1 65536 true,
    .flintHalt 0,
    .flintHalt 5,
    .fuseAdvance 4 [],
    .fuseAdvance 1 [64]] : List Instr).all (fun c => !c.wf) = true := by decide +kernel
theorem wf_refuses_11 : ([
    .startStepTimeout 0 1,
    .startStepTimeout 11 1,
    .startStepTimeout 1 16,
    .watchdogReset ⟨some [], []⟩,
    .flashDeviceFail 2,
    .thermalStep (List.replicate 65 0) [],
    .thermalStep [] (List.replicate 65 0),
    .thermalWarning true 64 0,
    .hbmHot 2 0,
    .idlePortProbe 274 true,
    .thermalShutdown 64 [],
    .thermalShutdown 1 (List.replicate 65 0),
    .thermalTrip 64 0,
    .thermalRestart ⟨some [], []⟩,
    .hbmEccError (2 ^ 40) true,
    .airPortTxEnWrite 4 1,
    .airPortTxEnWrite 1 (2 ^ 32),
    .announceReceiptTimeout 65536,
    .uplinkLink 16 true,
    .mslReservedType 256 1,
    .mslReservedType 1 65536,
    .ringCensusTimeout [(2 ^ 64, 1)]] : List Instr).all (fun c => !c.wf) = true := by decide +kernel
theorem wf_refuses_long_1 : Instr.wf (.urgentPacket (.vctl 0) (List.replicate 8193 0)) = false := by decide +kernel
theorem wf_refuses_long_2 : Instr.wf (.clientHello 1 ({ name := some (List.replicate 65536 0), versions := [0xFEFC], suites := [], groups := [], sigs := [], cid := none, early := false }) .service true) = false := by decide +kernel
theorem wf_refuses_long_3 : Instr.wf (.clientHello 1 ({ name := none, versions := [0xFEFC], suites := [], groups := [], sigs := [], cid := some (List.replicate 65536 0), early := false }) .service true) = false := by decide +kernel
theorem wf_refuses_long_4 : Instr.wf (.commandPacket (.vctl 0) (List.replicate 8193 0)) = false := by decide +kernel
theorem wf_refuses_long_5 : Instr.wf (.sessionOpen 1 own [tl 1 (List.replicate 65536 0)]) = false := by decide +kernel
theorem wf_refuses_long_6 : Instr.wf (.airFrameRx ⟨1, 1, 1, [], List.replicate 2048 0, true, []⟩) = false := by decide +kernel
theorem wf_refuses_long_7 : Instr.wf (.sweepRecord true ⟨1, 1, true, 1, none, 1, false⟩ 1 1 (List.replicate 8193 0)) = false := by decide +kernel
/-! One well-formed term of every row. -/
theorem wf_accepts_1 : ([
    .feedUsable ⟨.a, 48000⟩ ⟨none, []⟩,
    .feedLost .a,
    .allFeedsLost,
    .inputLow ⟨.a, 48000⟩,
    .inputHigh ⟨.a, 48000⟩,
    .ovpTrip .a,
    .ovpReconnect ⟨.a, 48000⟩ ⟨none, []⟩,
    .carrierRst,
    .carrierRstRelease ⟨none, []⟩,
    .emergAssert true true,
    .emergDeassert true true,
    .tamperLoop 1 1,
    .gpioDirWrite 1,
    .ux1Attach true,
    .ux1SourceCaps [] true true ⟨none, []⟩,
    .ux1PrSwapRequest,
    .ux1DrSwapRequest,
    .ux1PrSwapInitiate,
    .ux1DrSwapInitiate,
    .ux1Collision,
    .ux1Detach true,
    .ux1PsRdyTimeout,
    .ldsIncWrite 1,
    .ldsOffsetLoad 1,
    .ldsNsRead 1 1,
    .ldsFrameLoRead,
    .counterWrap,
    .timerArm 1 true ⟨0, 0, 0, 1⟩,
    .timerFire 1,
    .timerPulseEnd 1,
    .beatBoundary ⟨0, 4700⟩,
    .ptpMessage 1 ⟨0, 0⟩ .unsupported,
    .ppsInEdge 1,
    .ppsInMissing,
    .todRxSentence 1 (.zda 0) true,
    .fsyncInEdge 1 1,
    .fsyncLost,
    .ref10Qualify,
    .ref10Lost,
    .acqTimeout,
    .slewComplete,
    .holdoverExpired,
    .todTxSentence,
    .frameTick 1 ⟨0, 0, 0, ⟨none, []⟩⟩,
    .eventResend (.vctl 0),
    .scheduleFire 1 1 1,
    .backSlateFreeze [] [] [],
    .urgentPacket (.vctl 0) [],
    .urgentAccept,
    .clientHello 1 ({ name := none, versions := [0xFEFC], suites := [], groups := [], sigs := [], cid := none, early := false }) .service true,
    .serverFlight 1,
    .clientFinished 1 [],
    .dtlsAlert 1,
    .dtlsRetransmit 1,
    .handshakeTimeout 1,
    .assocIdleTimeout (.vctl 0),
    .dtlsKeyUpdate (.vctl 0) true,
    .dtlsRecordLimit (.vctl 0),
    .commandPacket (.vctl 0) [],
    .sessionOpen 1 own []] : List Instr).all Instr.wf = true := by decide +kernel
theorem wf_accepts_2 : ([
    .sessionClose own [],
    .keepalive own [],
    .deviceInfo own [],
    .regRead own [],
    .regWrite own [],
    .lightLevel own [],
    .lightFade own [],
    .lightLease own [],
    .lightRead own [],
    .lightEmergency own [],
    .lightLevelX own [],
    .stepTable own [],
    .factorSet own [],
    .slateWindow own [],
    .groupDefine own [],
    .groupMembers own [],
    .scheduleWrite own [],
    .scheduleWriteX own [],
    .scheduleRead own [],
    .aonDefine own [],
    .aonClear own [],
    .attrRead own [],
    .attrWrite own [],
    .bridgeRead own [],
    .bridgeWrite own [],
    .semAcquire own [],
    .semRelease own [],
    .evtSubscribe own [],
    .evtAck own [],
    .telemetryRead own [],
    .telemetryStream own [],
    .meterRead own [],
    .meterPeriod own [],
    .attribRead own [],
    .waveformStream own [],
    .correctionRead own [],
    .attribModel own [],
    .probeDither own [],
    .snapshot own [],
    .timeRead own [],
    .solarRead own [],
    .timeSet own [],
    .utcTable own [],
    .ptpPort own [],
    .timeRawRead own [],
    .timedPulse own [],
    .stampMark own [],
    .airEnrol own [],
    .airSend own [],
    .airRemove own [],
    .airRawTx own [],
    .channelPlan own [],
    .airRawCapture own [],
    .vemerSet own [],
    .keySession own [],
    .slotLoad own [],
    .slotUnload own [],
    .slotUse own [],
    .vlanAttach own [],
    .vlanDetach own []] : List Instr).all Instr.wf = true := by decide +kernel
theorem wf_accepts_3 : ([
    .shaperSet own [],
    .queueSet own [],
    .exportBlock own [],
    .workspaceInfo own [],
    .dmaDescriptor own [],
    .dmaFence own [],
    .vctlCreate own [],
    .vctlRemove own [],
    .rightsSet own [],
    .quotaSet own [],
    .credSet own [],
    .segmentConfig own [],
    .spineConfig own [],
    .sweepOrder own [],
    .regwinGrant own [],
    .imageStage own [],
    .imageVerified 1,
    .imageActivate own [],
    .diagRead own [],
    .journalExport own [],
    .vctlRemovalEnd 1,
    .stringLink 1 true 1,
    .rateTryTimeout 1,
    .censusStart 1,
    .enumReport 1 1 1 ⟨9, 1, 1, 1, 24, 1, 15, [0], [0], 0, 1⟩ true,
    .enumerateLoopReturn 1 1,
    .censusPassTimeout 1,
    .linkChange 1,
    .censusRetry 1,
    .pairResp 1 1 ⟨List.replicate 64 0, List.replicate 12 0, List.replicate 48 0⟩ 1 true,
    .pairTimeout 1 1,
    .pairRetry 1 1,
    .assocConfirm 1 1 ({ aid := 1, ctr := 1, ok := true }),
    .assocInitTimeout 1 1,
    .assocClose 1 1 ({ aid := 1, ctr := 1, ok := true }),
    .assocRekey 1 1,
    .assocOldKeyErase 1 1,
    .assocExhausted 1 1,
    .groupKeyReplace 1,
    .timeSyncSend 1,
    .delayReq 1 1 ({ aid := 1, ctr := 1, ok := true }),
    .resyncReq 1 1 ({ aid := 1, ctr := 1, ok := true }),
    .credit 1 1 ({ aid := 1, ctr := 1, ok := true }) [],
    .creditQuery 1 1 1,
    .bridgeIssue 1 1,
    .brReadResp 1 1 ({ aid := 1, ctr := 1, ok := true }) 1 1 4 1 1 [],
    .brWriteAck 1 1 ({ aid := 1, ctr := 1, ok := true }) 1 1 4 1 1,
    .tagTimeout 1 1,
    .tagSecondTimeout 1 1,
    .semWaitTimeout 1,
    .semBrokenExpire 1,
    .detection 1 1 ({ aid := 1, ctr := 1, ok := true }) [],
    .wakeHandoffEpoch true ⟨[], []⟩,
    .wakeMessage true ⟨1, 1, true, 1, none, 1, false⟩ [],
    .lampSamples 1 1 ({ aid := 1, ctr := 1, ok := true }) 1 [],
    .lampClassify,
    .geodeBeatEdge true 1 0 [],
    .geodeEdgesMissing,
    .geodeTime 1 true,
    .cycleEnd 1 none] : List Instr).all Instr.wf = true := by decide +kernel
theorem wf_accepts_4 : ([
    .geodeNoCrossing 1,
    .geodeLinkPacket,
    .linkPacketReceived,
    .geodeLinkSilent,
    .geodeSnapshotMsg 1 1 true,
    .snapshotLatch,
    .readingSigned,
    .profileClose 1,
    .inrushHint 1 1 true,
    .inrushMaskClose 1,
    .readReq 1 1 1 true,
    .readReqFailed 1,
    .pulseInputChange 1 true 1,
    .pulseStuck 1,
    .geodeSave,
    .geodePowerFail true,
    .geodeLineReturn 1,
    .geodeHoldupEnd,
    .geodeStart,
    .geodeTempRead 0,
    .geodeTempResume,
    .coverOpened,
    .opticalFlood,
    .opticalFloodEnd,
    .hdlcFrame .connect,
    .hdlcInactivity,
    .sapLockEnd 1,
    .meteringResume 1,
    .firmwareRevert,
    .periodClose,
    .tenantFrame 1 ⟨none, none, 0, 1, 1, 64, .data⟩ 1 true true,
    .egressServe 1 1 [],
    .macAgeOut 1 1 1,
    .rawBlockWrite,
    .dmaRequest 1 1 1,
    .dmaDescriptorComplete 1,
    .dmaFenceComplete 1,
    .airFrameRx ⟨1, 1, 1, [], [], true, []⟩,
    .airAckTx 1,
    .joinAcceptTx 1,
    .airTxStart 1,
    .airTxEnd 1 1 1,
    .airRetry 1,
    .airRegRespTimeout 1,
    .airHoldExpiry 1,
    .airRawTxExpiry 1,
    .airLightRefresh 1,
    .airSilent 1,
    .airRejoinDue 1 true,
    .spinePortLink true .lock,
    .helloTimeout true,
    .helloSend,
    .spineLinkSetup true (.confirm true 1),
    .spineLinkInitRetry true,
    .linkNotice true ⟨1, 1, true, 1, none, 1, false⟩ true true,
    .ringCensusStart,
    .spineEnumerate true ⟨1, 1, true, 1, none, 1, false⟩ ⟨1, 1, 1, 1⟩ [],
    .ringTable true ⟨1, 1, true, 1, none, 1, false⟩ 1 [],
    .relay (.entry 1 1 1 1 false []),
    .sweepOrderMsg true ⟨1, 1, true, 1, none, 1, false⟩ 1 1] : List Instr).all Instr.wf = true := by decide +kernel
theorem wf_accepts_5 : ([
    .orderReply true ⟨1, 1, true, 1, none, 1, false⟩ 1 1,
    .sweepLatch,
    .sweepRecordForm,
    .sweepParticipantClose,
    .collectionStart,
    .collect true ⟨1, 1, true, 1, none, 1, false⟩ 1 [],
    .sweepRecord true ⟨1, 1, true, 1, none, 1, false⟩ 1 1 [],
    .collectTurn true ⟨1, 1, true, 1, none, 1, false⟩ 1,
    .collectionTimeout,
    .sweepResultFinal,
    .rngHealthFail,
    .rngResume,
    .rngReseed,
    .slotIntegrityCheck 1 1 true,
    .flintHalt 1,
    .keyMigrationComplete,
    .fuseAdvance 1 [],
    .geodeFwCheck,
    .flintMeasure,
    .startStepTimeout 1 1,
    .frameServiceEntry,
    .bankWatchdog true true,
    .watchdogReset ⟨none, []⟩,
    .bankBReady,
    .mainHandover,
    .bankAJoin,
    .mainUpdateTimeout true,
    .grainStratumSwap true,
    .airImageTakeover,
    .airImageHandback,
    .flintImageTakeover true,
    .journalCommit true,
    .flashDeviceFail 1,
    .thermalStep [] [],
    .thermalWarning true 1 0,
    .hbmHot 1 0,
    .idlePortProbe 1 true,
    .thermalShutdown 1 [],
    .thermalTrip 1 0,
    .thermalRestart ⟨none, []⟩,
    .hbmEccError 1 true,
    .airPortTxEnWrite 1 1,
    .announceReceiptTimeout 1,
    .uplinkLink 1 true,
    .opticalSignOn,
    .mslReservedType 1 1,
    .spineFrameDiscarded .ttl,
    .spineLinkRekey true,
    .ringCensusTimeout []] : List Instr).all Instr.wf = true := by decide +kernel

/-! ### The spec's own worked examples -/

/-- Chapter 0: 37/12/3 is 38,083, and 255/63/15 (chapter 7) is the highest string-realm handle; pole index 12 is position 13. -/
theorem test_handles : mkHandle 37 13 3 = 38083 ∧ mkHandle 255 64 15 = 0x3FFFF ∧ mkHandle 40 17 2 = 41218 ∧ mkAir 1042 = 0x40412 := by decide
/-- The example of R258 with the wake lift, without it, and under the EMERGENCY source. -/
theorem test_compose : composeLevel 40000 2 3686 3072 4096 28000 48000 = 28000 ∧ composeLevel 40000 2 3686 3072 4096 28000 0 = 26997 ∧
    composeLevel 64000 5 3686 3072 3552 60000 48000 = 55500 := by decide
/-- The example of R280: 80.3125 °C and the floor at 100 °C. -/
theorem test_derate : derateTarget ⟨1200, [(1360, 0x0C00), (1520, 0x0800)]⟩ 1285 = 3552 ∧
    derateTarget ⟨1200, [(1360, 0x0C00), (1520, 0x0800)]⟩ 1600 = 0x0800 := by decide
/-- The example of R264: 128 frames from 16,000 to 48,000. -/
theorem test_fade_frames : fadeN 50 16000 48000 = 128 := by decide
/-- The example of R317: PARTIAL_SHORT with two junctions missing. -/
theorem test_verdict : verdict true (some ⟨3, 1, 4000, 12, 6300, 6280, 6320, 3500, 640⟩)
    { p := 3, nj := 24, vj := 2900, tc := -2000, imin := 50, vshort := 3000, vtol := 1200, vspread := 2000 } 4000 3200 = some (3, 2) := by decide
/-- The example of R115 and R174: the allowances with C of 4,000, 2,000 and 1,500. -/
theorem test_allowances : (turnAllow { q := { ownerQuotas with refill := 200, burst := 400 } } 4000, turnAllow { q := { ownerQuotas with refill := 200, burst := 400 } } 2000,
    turnAllow { q := { ownerQuotas with refill := 200, burst := 400 } } 1500, turnAllow { q := { tenantQuotas with refill := 20, burst := 40 } } 4000,
    turnAllow { q := { tenantQuotas with refill := 20, burst := 40 } } 2000, turnAllow { q := { tenantQuotas with refill := 20, burst := 40 } } 1500) =
    (400, 200, 150, 40, 20, 15) := by decide
/-- The packet of step 9 of the example of chapter 5. -/
def exPacket : Bytes := [0x5A, 0x43, 0x02, 0x04, 0x00, 0x07, 0x00, 0x00, 0x00, 0x00, 0x00, 0x02, 0x00, 0x28, 0x00, 0x00,
  0x01, 0x01, 0x00, 0x18, 0x00, 0x21, 0x00, 0x00, 0x00, 0x01, 0x00, 0x04, 0x00, 0x00, 0x00, 0x0C, 0x80, 0x03, 0x00, 0x02, 0x01, 0xF4, 0x00, 0x00]
/-- It reads as LIGHT_LEVEL with CMDID 0x0021, EP_LIST #12 and a must-understand LEVEL of 500. -/
theorem test_packet_reads : packetItems exPacket =
    [.cmd 0x0101 0x0021 false false none [⟨false, 1, [0, 0, 0, 12]⟩, ⟨true, 3, [1, 0xF4]⟩]] := by decide +kernel

/-- The example of R339: 40.0 mV leaves ×64 for ×16, 149.9 mV leaves ×16 for ×4, both with 8 settling samples. -/
theorem test_combiner : ((combine 335544 8388608 { p := 64 }).1.p, (combine 335544 8388608 { p := 64 }).1.settle) = (16, 8) ∧
    ((combine 1257452 8388608 { p := 16, settle := 8 }).1.p, (combine 1257452 8388608 { p := 16, settle := 8 }).1.settle) = (4, 8) := by decide
/-- The example of R341: at 7.0% of 20 A the gain is 1.0034 to 10^-8, and the phase 0.108°. -/
theorem test_correction : correction { pts := [(0x40000000, 0), (0x40000000, 0), (1078036791, 120000), (1076426179, 90000)] } 1400000 =
    (1077392547, 108000) := by decide
/-- R334: a steady 250 mV at a U_n of 250 mV stands for the I_n of 20 A. -/
theorem test_rms_current : rmsCurrent { inMa := 20000, un := 250000 } 4 (4 * 2 ^ 102) = 20000000 := by decide +kernel

/-! ### Single steps -/

/-- R81: a write above the range is clamped to 33,554,767, one below to 33,554,097. -/
theorem test_inc_clamp : (afterStep { lit with pending := [.ldsIncWrite 0x02000150] }).lds.incNext = some 33554767 ∧
    (afterStep { lit with pending := [.ldsIncWrite 1] }).lds.incNext = some 33554097 := by decide +kernel
/-- R62, R73: the first usable feed starts the service domain, and from reset nothing else does. -/
theorem test_first_feed : (afterStep { State.reset with pending := [.feedUsable ⟨.a, 48000⟩ ⟨none, []⟩] }).pw.service = true ∧
    (afterStep { State.reset with pending := [.frameTick 0 {}] }).pw.service = false := by decide +kernel
/-- LIGHT_LEVEL with LEVEL 500 on channel 3, under header major `m`, before a tick. -/
def lvlS (m : Nat) : State := { lst with ses := { lst.ses with assoc := [(0, { path := .service, phase := .opened, major := m, caps := 255, lastRx := 4000 })] }, pending := [.lightLevel own [epl [262147], tl 3 [1, 0xF4]], .frameTick 0 {}] }
/-- The example of chapter 5: under 2.x the module uses 500 × 64 = 32,000; under 3.x the code is 500; the queue advances. -/
theorem test_light_level : ((afterStep (lvlS 2)).sources 262147).map (·.prog) = [.level 32000] ∧
    ((afterStep (lvlS 3)).sources 262147).map (·.prog) = [.level 500] ∧ (afterStep (lvlS 2)).pending = [.frameTick 0 {}] := by decide +kernel
/-- R141, R142: the reply of a refused command carries its status: here EP_LIST is missing. -/
theorem test_light_level_refused :
    (afterStep { lst with pending := [.lightLevel own []] }).slt = lst.slt ∧ (afterStep { lst with pending := [.lightLevel own []] }).out ≠ [] := by
  decide +kernel
/-- Log 1: on an empty queue the block idles. -/
theorem test_idle : step State.reset = .next State.reset := rfl
/-- Log 5: the table gives no row a bit, so no word spells a command. -/
theorem test_no_words (n w : Nat) (s : State) : decodeTableWord n w = none ∧ s.withFetchWord n w = s := ⟨rfl, rfl⟩

/-! ### Witnesses -/

namespace PowerBoot

def on : State := { State.reset with pw := { State.reset.pw with feedA := { usable := true, mv := 48000 }, feedB := { usable := true, mv := 48000 }, service := true, main := true }, frm := { now := 5000, beat := 70 }, boot := { maint := true, dev0 := true, dev1 := true, step := 8 } }
def beat0 : State := { on with frm := { now := 5000, beat := 0 } }
def img (k : Nat) : Image := { version := 1, svn := 0, advanceNow := false, digest := [byte k], manifest := [⟨2,0,0xB0,0,0⟩, ⟨1,0,0,9,0⟩, ⟨1,1,0,9,0⟩, ⟨1,2,0,9,0⟩, ⟨1,3,0,9,0⟩], head := [], csig := [], good := true, factory := true }
def slots4 : Tbl ImgSlots := [(0, { act := some (img 0) }), (1, { act := some (img 1) }), (2, { act := some (img 2) }), (3, { act := some (img 3) })]
def cold : State := { State.reset with pw := { State.reset.pw with feedA := { usable := true, mv := 48000 }, service := true }, boot := { State.reset.boot with images := slots4, step := 1 } }
def si : StartIn := ⟨none, [3]⟩
def act (todo : List Nat) : Activation := { cmd := (0, 1, 2), todo := todo, classes := [0,1,2,3], restart := false, keepKeys := true, old := [(0, img 0), (1, img 1), (2, img 2), (3, img 3)], since := 0, left := true, bReady := true, handed := false, handAt := none, level := 1, swapped := 3, lastSwap := none, back := false, airSince := none }
def stgd : Tbl ImgSlots := [(0, { act := some (img 0), stg := some (img 10) }), (1, { act := some (img 1), stg := some (img 11) }), (2, { act := some (img 2), stg := some (img 12) }), (3, { act := some (img 3), stg := some (img 13) })]
def upd (a : Activation) : State := { beat0 with boot := { beat0.boot with act := some a, images := stgd, run := [(0, img 0), (1, img 1), (2, img 2), (3, img 3)] } }
def fm (m : Nat) : FeedMv := ⟨.a, m⟩
def noA (s : State) : State := { s with pw := { s.pw with feedA := {} } }
def fd (m : Nat) : State := { on with pw := { on.pw with feedA := { usable := true, mv := m } } }
def ux (u : Ux1) (f : Bool) : State := { on with pw := { on.pw with feedA := if f then { usable := true, mv := 48000 } else {}, feedB := {}, ux1 := u } }
def b64 (s : State) : State := { s with frm := { s.frm with beat := 64 } }
def wr : State := { on with thm := { written := [2] } }
def enter : State := { beat0 with lds := { on := true, st := .locked }, regs := (List.range 6).map (fun n => (aLdsTmrCtl n, 1)), boot := { beat0.boot with timed := some 100 } }
def stag : Staging := { total := 3, chunks := [(0, [1,2,3])], waiting := some (0, 4, 5), stage := 1 }
theorem witness_FeedsStartAndStopTheDomains :
    (∃ (f : FeedMv) (i : StartIn) (s : State), s.feedRises f = true ∧ s.pw.held = false ∧ s.thm.off = false ∧ s.pw.service = false) ∧
    (∃ (f : FeedMv) (i : StartIn) (s : State), s.feedReturns f = true ∧ s.pw.held = false ∧ s.thm.off = false ∧ s.pw.service = false) ∧
    (∃ (f : FeedMv) (i : StartIn) (s : State), s.feedRises f = true ∧ s.pw.held = false ∧ s.thm.off = false ∧ s.pw.service = true ∧ s.boot.maint = true ∧ s.boot.noSet = false ∧ s.pw.main = false) ∧
    (∃ (f : FeedMv) (i : StartIn) (s : State), s.feedReturns f = true ∧ s.pw.held = false ∧ s.thm.off = false ∧ s.pw.service = true ∧ s.boot.maint = true ∧ s.boot.noSet = false ∧ s.pw.main = false) ∧
    (∃ (s : State), s.anyFeed = true) ∧
    (∃ (f : FeedId) (s : State), (s.feed f).usable = true ∧ (s.feed (otherFeed f)).usable = false) ∧
    (∃ (f : FeedId) (s : State), (s.feed f).usable = true ∧ (s.feed (otherFeed f)).usable = true) ∧
    (∃ (f : FeedMv) (s : State), (s.feed f.id).usable = true ∧ 40000 ≤ f.mv ∧ f.mv < 44000) ∧
    (∃ (f : FeedMv) (s : State), (s.feed f.id).usable = true ∧ 57000 < f.mv ∧ f.mv ≤ 59000) ∧
    (∃ (f : FeedId) (s : State), (s.feed f).usable = true ∧ (s.feed (otherFeed f)).usable = true) :=
  ⟨⟨fm 48000, si, State.reset, by decide +kernel, by decide +kernel, by decide +kernel, by decide +kernel⟩,
   ⟨fm 48000, si, { State.reset with pw := { State.reset.pw with feedA := { ovp := true } } }, by decide +kernel, by decide +kernel, by decide +kernel, by decide +kernel⟩,
   ⟨fm 48000, si, noA { on with pw := { on.pw with main := false, fromUx1 := true } }, by decide +kernel, by decide +kernel, by decide +kernel, by decide +kernel, by decide +kernel, by decide +kernel, by decide +kernel⟩,
   ⟨fm 48000, si, { on with pw := { on.pw with feedA := { ovp := true }, main := false, fromUx1 := true } }, by decide +kernel, by decide +kernel, by decide +kernel, by decide +kernel, by decide +kernel, by decide +kernel, by decide +kernel⟩,
   ⟨on, by decide +kernel⟩,
   ⟨.a, { on with pw := { on.pw with feedB := {} } }, by decide +kernel, by decide +kernel⟩,
   ⟨.a, on, by decide +kernel, by decide +kernel⟩,
   ⟨fm 43000, on, by decide +kernel, by decide +kernel, by decide +kernel⟩,
   ⟨fm 58000, on, by decide +kernel, by decide +kernel, by decide +kernel⟩,
   ⟨.a, on, by decide +kernel, by decide +kernel⟩⟩
theorem witness_ContactsAndUx1ActAsTheirRulesSay :
    (∃ (s : State), s.pw.service = true) ∧
    (∃ (i : StartIn) (s : State), s.pw.held = true ∧ s.anyFeed = true) ∧
    (∃ (n : Nat) (o : Nat) (s : State), s.pw.service = true ∧ loopClass o ≠ s.pw.loop ∧ 80 ≤ n) ∧
    (∃ (n : Nat) (o : Nat) (s : State), s.pw.service = true ∧ loopClass o ≠ s.pw.loopRun.1 ∧ 0 < n ∧ n < 80) ∧
    (∃ (d : Nat) (s : State), s.pw.service = true) ∧
    (∃ (r : Bool) (s : State), s.pw.ux1.attached = false) ∧
    (∃ (o : List Pdo) (u : Bool) (k : Bool) (i : StartIn) (s : State), s.pw.ux1.attached = true ∧ s.pw.ux1.source = false ∧ s.anyFeed = true) ∧
    (∃ (s : State), s.pw.ux1.attached = true ∧ s.anyFeed = true) ∧
    (∃ (s : State), s.pw.ux1.attached = true ∧ s.anyFeed = false) ∧
    (∃ (s : State), s.pw.ux1.attached = true ∧ s.pw.ux1.swapping = false) ∧
    (∃ (s : State), s.pw.ux1.attached = true ∧ s.pw.ux1.swapping = true) ∧
    (∃ (s : State), s.pw.ux1.attached = true ∧ s.pw.ux1.source = false ∧ s.feedFor1s = true ∧ s.pw.ux1.unconstrained = false) ∧
    (∃ (s : State), s.pw.ux1.attached = true ∧ s.pw.ux1.dfp = true ∧ s.pw.ux1.swapping = false ∧ s.pw.ux1.dfpAt + 200 ≤ s.frm.now) ∧
    (∃ (s : State), s.pw.ux1.attached = true) ∧
    (∃ (b : Bool) (s : State), s.pw.ux1.attached = true ∧ ((b = false ∨ (s.pw.ux1.source = false ∧ s.pw.ux1.swapping = false))) ∧ ((s.pw.fromUx1 = false ∨ s.anyFeed = true))) ∧
    (∃ (b : Bool) (s : State), s.pw.ux1.attached = true ∧ ((b = false ∨ (s.pw.ux1.source = false ∧ s.pw.ux1.swapping = false))) ∧ s.pw.fromUx1 = true ∧ s.pw.service = true ∧ s.anyFeed = false) ∧
    (∃ (s : State), s.pw.ux1.attached = true ∧ s.pw.ux1.swapping = true ∧ s.pw.ux1.source = false) :=
  ⟨⟨on, by decide +kernel⟩,
   ⟨si, { State.reset with pw := { State.reset.pw with held := true, feedA := { usable := true, mv := 48000 } } }, by decide +kernel, by decide +kernel⟩,
   ⟨80, 770, on, by decide +kernel, by decide +kernel, by decide +kernel⟩,
   ⟨79, 77000, on, by decide +kernel, by decide +kernel, by decide +kernel, by decide +kernel⟩,
   ⟨70000, on, by decide +kernel⟩,
   ⟨true, ux {} true, by decide +kernel⟩,
   ⟨[⟨9000, 3000⟩], true, false, si, ux { attached := true } true, by decide +kernel, by decide +kernel, by decide +kernel⟩,
   ⟨ux { attached := true } true, by decide +kernel, by decide +kernel⟩,
   ⟨ux { attached := true } false, by decide +kernel, by decide +kernel⟩,
   ⟨ux { attached := true } false, by decide +kernel, by decide +kernel⟩,
   ⟨ux { attached := true, swapping := true } false, by decide +kernel, by decide +kernel⟩,
   ⟨ux { attached := true } true, by decide +kernel, by decide +kernel, by decide +kernel, by decide +kernel⟩,
   ⟨ux { attached := true, dfp := true } true, by decide +kernel, by decide +kernel, by decide +kernel, by decide +kernel⟩,
   ⟨ux { attached := true, source := true } true, by decide +kernel⟩,
   ⟨false, ux { attached := true, source := true } true, by decide +kernel, by decide +kernel, by decide +kernel⟩,
   ⟨true, { ux { attached := true } false with pw := { (ux { attached := true } false).pw with fromUx1 := true } }, by decide +kernel, by decide +kernel, by decide +kernel, by decide +kernel, by decide +kernel⟩,
   ⟨ux { attached := true, swapping := true } true, by decide +kernel, by decide +kernel, by decide +kernel⟩⟩
theorem witness_ThrottleLadderAndWarnings :
    (∃ (die : List Int) (last : List Int) (s : State), s.pw.main = true ∧ s.frm.beat = 64 ∧ s.thm.judged ≠ some s.frm.now ∧ die ≠ []) ∧
    (∃ (s : State), s.pw.main = true ∧ s.thm.judged = some s.frm.now ∧ deg 110 ≤ s.thm.tf ∧ s.thm.warn = false) ∧
    (∃ (n : Nat) (d : Int) (s : State), s.pw.main = true ∧ (n = 22 ∨ n = 23) ∧ deg 95 ≤ d ∧ s.thm.hbmWarned.contains (n - 22) = false) ∧
    (∃ (k : Nat) (d : Int) (s : State), s.pw.main = true ∧ k < 2) ∧
    (∃ (p : Nat) (s : State), s.pw.main = true ∧ s.thm.idled.contains p = true ∧ ((∀ f, tget s.thm.probes p = some f → f + 100 ≤ s.frm.now))) ∧
    (∃ (p : Nat) (s : State), s.pw.main = true ∧ s.thm.idled.contains p = true ∧ ((∀ f, tget s.thm.probes p = some f → f + 100 ≤ s.frm.now))) ∧
    (∃ (p : Nat) (b : Bool) (s : State), s.thm.idled.contains p = false) :=
  ⟨⟨[deg 96, deg 100], [deg 3], b64 on, by decide +kernel, by decide +kernel, by decide +kernel, by decide +kernel⟩,
   ⟨{ on with thm := { judged := some 5000, hottest := 4, tf := deg 110 } }, by decide +kernel, by decide +kernel, by decide +kernel, by decide +kernel⟩,
   ⟨23, deg 96, on, by decide +kernel, by decide +kernel, by decide +kernel, by decide +kernel⟩,
   ⟨1, deg 86, on, by decide +kernel, by decide +kernel⟩,
   ⟨7, { on with thm := { idled := [7, 9] } }, by decide +kernel, by decide +kernel, by decide +kernel⟩,
   ⟨7, { on with thm := { idled := [7, 9] } }, by decide +kernel, by decide +kernel, by decide +kernel⟩,
   ⟨8, true, { on with thm := { idled := [7, 9] } }, by decide +kernel⟩⟩
theorem witness_ThermalStopsAndHbmErrors :
    (∃ (n : Nat) (l : List Int) (s : State), s.pw.main = true ∧ n < 24 ∧ 8 ≤ l.length ∧ (∀ d ∈ l.drop (l.length - 8), shutAt n ≤ d)) ∧
    (∃ (n : Nat) (d : Int) (s : State), (s.pw.main = true ∨ s.pw.service = true) ∧ n < 22 ∧ deg 125 ≤ d) ∧
    (∃ (i : StartIn) (s : State), s.thm.off = true ∧ s.anyFeed = true ∧ s.pw.held = false ∧ s.thm.barred = false ∧ s.thm.restarts = []) ∧
    (∃ (i : StartIn) (s : State), (s.thm.barred = true ∨ 3 ≤ (s.thm.restarts.filter (fun f => s.thm.pcFrames + 6000 < f + 360000)).length)) ∧
    (∃ (a : Nat) (s : State), s.pw.main = true ∧ a < hbmSize ∧ s.isWritten a = true ∧ s.thm.lastCe = none) ∧
    (∃ (a : Nat) (f : Nat) (s : State), s.pw.main = true ∧ a < hbmSize ∧ s.isWritten a = true ∧ s.thm.lastCe = some f ∧ s.frm.now < f + 100) ∧
    (∃ (a : Nat) (s : State), s.pw.main = true ∧ a < hbmSize ∧ s.isWritten a = true) ∧
    (∃ (a : Nat) (k : Bool) (s : State), s.isWritten a = false) :=
  ⟨⟨21, List.replicate 8 (shutAt 21), on, by decide +kernel, by decide +kernel, by decide +kernel, by decide +kernel⟩,
   ⟨2, deg 126, on, by decide +kernel, by decide +kernel, by decide +kernel⟩,
   ⟨si, { on with thm := { off := true } }, by decide +kernel, by decide +kernel, by decide +kernel, by decide +kernel, by decide +kernel⟩,
   ⟨si, { on with thm := { off := true, restarts := [1,2,3], pcFrames := 5000 } }, by decide +kernel⟩,
   ⟨8200, wr, by decide +kernel, by decide +kernel, by decide +kernel, by decide +kernel⟩,
   ⟨8200, 4990, { wr with thm := { written := [2], lastCe := some 4990 } }, by decide +kernel, by decide +kernel, by decide +kernel, by decide +kernel, by decide +kernel⟩,
   ⟨8200, wr, by decide +kernel, by decide +kernel, by decide +kernel⟩,
   ⟨0, true, wr, by decide +kernel⟩⟩
theorem witness_StartReachesItsLevelsAndWatchdogsReset :
    (∃ (l : List Image) (prev : Bool) (s : State), s.pw.service = true ∧ s.flt.st = 0 ∧ s.chooseSet = some (l, prev)) ∧
    (∃ (s : State), s.pw.service = true ∧ s.flt.st = 0 ∧ s.chooseSet = none ∧ s.pw.main = false) ∧
    (∃ (k : Nat) (s : State), s.pw.main = true ∧ s.boot.inService = false ∧ k < 16) ∧
    (∃ (s : State), s.pw.main = true ∧ s.boot.inService = false) ∧
    (∃ (s : State), s.mayEnter = true ∧ s.frm.beat = 0) ∧
    (∃ (s : State), s.pw.main = true ∧ s.boot.bankAOut = false) ∧
    (∃ (s : State), s.pw.main = true ∧ s.frm.beat = 0 ∧ s.boot.bankBOut = true ∧ s.boot.act = none ∧ 0 < s.boot.resets.2.length ∧ (s.recent s.boot.resets.2).length < 3) ∧
    (∃ (s : State), s.pw.main = true ∧ s.boot.bankBOut = true ∧ 3 ≤ (s.recent s.boot.resets.2).length) ∧
    (∃ (i : StartIn) (s : State), s.pw.service = true ∧ s.pw.main = true) :=
  ⟨⟨[img 0, img 1, img 2, img 3], false, cold, by decide +kernel, by decide +kernel, by decide +kernel⟩,
   ⟨{ cold with boot := { cold.boot with images := [] } }, by decide +kernel, by decide +kernel, by decide +kernel, by decide +kernel⟩,
   ⟨9, on, by decide +kernel, by decide +kernel, by decide +kernel⟩,
   ⟨on, by decide +kernel, by decide +kernel⟩,
   ⟨enter, by decide +kernel, by decide +kernel⟩,
   ⟨on, by decide +kernel, by decide +kernel⟩,
   ⟨{ beat0 with boot := { on.boot with bankBOut := true, resets := ([], [4000]) } }, by decide +kernel, by decide +kernel, by decide +kernel, by decide +kernel, by decide +kernel, by decide +kernel⟩,
   ⟨{ on with boot := { on.boot with bankBOut := true, resets := ([], [4000, 3999, 3998]) } }, by decide +kernel, by decide +kernel, by decide +kernel⟩,
   ⟨si, on, by decide +kernel, by decide +kernel⟩⟩
theorem witness_ImageUpdatesHandOver :
    (∃ (s : State), s.turnOf = some 1 ∧ ((∃ a, s.boot.act = some a ∧ a.left = true ∧ a.handed = false))) ∧
    (∃ (a : Activation) (s : State), s.turnOf = some 1 ∧ s.frm.beat = 0 ∧ s.keysReady = true ∧ s.boot.act = some a ∧ a.bReady = true ∧ a.handed = false) ∧
    (∃ (a : Activation) (k : Nat) (r : List Nat) (s : State), s.turnOf = some 1 ∧ s.frm.beat = 0 ∧ s.boot.act = some a ∧ a.todo = 1 :: k :: r ∧ a.handed = true) ∧
    (∃ (a : Activation) (s : State), s.turnOf = some 1 ∧ s.frm.beat = 0 ∧ s.boot.act = some a ∧ a.todo = [1] ∧ a.handed = true) ∧
    (∃ (a : Activation) (s : State), s.turnOf = some 1 ∧ s.boot.act = some a ∧ a.handed = false ∧ a.left = true ∧ s.flt.migr = none) ∧
    (∃ (a : Activation) (s : State), s.turnOf = some 2 ∧ s.frm.beat = 0 ∧ s.boot.act = some a ∧ a.lastSwap ≠ some s.frm.now ∧ a.back = false ∧ a.swapped < 16) ∧
    (∃ (a : Activation) (s : State), s.turnOf = some 2 ∧ s.frm.beat = 0 ∧ s.boot.act = some a ∧ a.lastSwap ≠ some s.frm.now ∧ 1 < a.swapped) ∧
    (∃ (a : Activation) (i : Image) (s : State), s.turnOf = some 3 ∧ s.frm.beat = 0 ∧ s.boot.act = some a ∧ a.airSince = none ∧ a.classes.contains 3 = true ∧ (s.slots 3).stg = some i) ∧
    (∃ (a : Activation) (f : Nat) (s : State), s.turnOf = some 3 ∧ s.frm.beat = 0 ∧ s.boot.act = some a ∧ a.airSince = some f ∧ f + 100 ≤ s.frm.now ∧ ((∀ r, s.air.rxFrame = some r → r < f)) ∧ s.flt.migr = none) ∧
    (∃ (a : Activation) (k : Nat) (r : List Nat) (i : Image) (s : State), s.boot.act = some a ∧ a.restart = false ∧ a.todo = 0 :: k :: r ∧ s.frm.beat = 2 ∧ s.keysReady = true ∧ a.classes.contains 0 = true ∧ (s.slots 0).stg = some i ∧ s.flt.migr = none) :=
  ⟨⟨upd (act [1]), by decide +kernel, by decide +kernel⟩,
   ⟨act [1, 2], upd (act [1, 2]), by decide +kernel, by decide +kernel, by decide +kernel, by decide +kernel, by decide +kernel, by decide +kernel⟩,
   ⟨{ act [1, 2] with handed := true }, 2, [], upd { act [1, 2] with handed := true }, by decide +kernel, by decide +kernel, by decide +kernel, by decide +kernel, by decide +kernel⟩,
   ⟨{ act [1] with handed := true }, upd { act [1] with handed := true }, by decide +kernel, by decide +kernel, by decide +kernel, by decide +kernel, by decide +kernel⟩,
   ⟨act [1], upd (act [1]), by decide +kernel, by decide +kernel, by decide +kernel, by decide +kernel, by decide +kernel⟩,
   ⟨act [2], upd (act [2]), by decide +kernel, by decide +kernel, by decide +kernel, by decide +kernel, by decide +kernel, by decide +kernel⟩,
   ⟨act [2], upd (act [2]), by decide +kernel, by decide +kernel, by decide +kernel, by decide +kernel, by decide +kernel⟩,
   ⟨act [3], img 13, upd (act [3]), by decide +kernel, by decide +kernel, by decide +kernel, by decide +kernel, by decide +kernel, by decide +kernel⟩,
   ⟨{ act [3] with airSince := some 3 }, 3, upd { act [3] with airSince := some 3 }, by decide +kernel, by decide +kernel, by decide +kernel, by decide +kernel, by decide +kernel, by decide +kernel, by decide +kernel⟩,
   ⟨act [0, 1], 1, [], img 10, { upd (act [0, 1]) with frm := { now := 5000, beat := 2 } }, by decide +kernel, by decide +kernel, by decide +kernel, by decide +kernel, by decide +kernel, by decide +kernel, by decide +kernel, by decide +kernel⟩⟩
theorem witness_StagingAndFlashAreCarriedOut :
    (∃ (k : Nat) (e : Nat) (g : Staging) (w : Nat × Nat × Nat) (s : State), s.flintOn = true ∧ (s.slots k).staging = some g ∧ g.waiting = some w ∧ s.verifyStaged k g = .error e) ∧
    (∃ (s : State), s.pw.service = true ∧ s.boot.maint = true ∧ s.boot.jopen = false ∧ s.flashOk = true ∧ s.pw.noFlash = false) ∧
    (∃ (s : State), s.pw.service = true ∧ s.boot.jopen = true ∧ s.flashOk = true) ∧
    (∃ (s : State), s.pw.noFlash = true) ∧
    (∃ (d : Nat) (s : State), s.pw.service = true ∧ ((d = 0 ∧ s.boot.dev0 = true) ∨ (d = 1 ∧ s.boot.dev1 = true))) :=
  ⟨⟨2, stImageSignature, stag, (0, 4, 5), { on with flt := { on.flt with st := 1 }, boot := { on.boot with images := [(2, { staging := some stag })] } }, by decide +kernel, by decide +kernel, by decide +kernel, by decide +kernel⟩,
   ⟨on, by decide +kernel, by decide +kernel, by decide +kernel, by decide +kernel, by decide +kernel⟩,
   ⟨{ on with boot := { on.boot with jopen := true } }, by decide +kernel, by decide +kernel, by decide +kernel⟩,
   ⟨{ on with pw := { on.pw with noFlash := true } }, by decide +kernel⟩,
   ⟨1, on, by decide +kernel, by decide +kernel⟩⟩
theorem witness_StepRunsTheFrontCommand : (∃ (c : Instr) (rest : List Instr) (s : State), s.pending = c :: rest) ∧ (∃ s : State, s.pending = []) :=
  ⟨⟨.allFeedsLost, [.allFeedsLost], { on with pending := [.allFeedsLost, .allFeedsLost] }, rfl⟩, ⟨State.reset, rfl⟩⟩
theorem witness_EveryCommandCompletesAndKeepsTheQueue :
    (∃ (c : Instr) (rest : List Instr) (s : State), s.pending = c :: rest) ∧
    (∃ s t : State, s.pending.all Instr.wf = true ∧ step s = .next t) :=
  ⟨⟨.allFeedsLost, [], { on with pending := [.allFeedsLost] }, rfl⟩,
   ⟨{ on with pending := [.allFeedsLost] }, afterStep { on with pending := [.allFeedsLost] }, by decide, rfl⟩⟩
/-- A grain image of 176 bytes without payload. -/
def gimg : Bytes := nn 2 0x5A49 ++ [1, 2] ++ nn 4 1 ++ [0, 0] ++ nn 2 16 ++ nn 4 0 ++ nn 48 (Config.sha384 []) ++ (2 :: List.replicate 15 0) ++ List.replicate 96 0
theorem parse_good {c : Nat} {b : Bytes} (hv : ∀ k b g, Config.verify k b g = true) (hc : countersigned c = false)
    (h : (parseImage c b).isSome = true)
    (hd : beBytes 48 (Config.sha384 (b.drop (160 + u b 10 2))) = (b.drop 16).take 48) :
    ∃ i, parseImage c b = some i ∧ i.good = true := by
  unfold parseImage at h ⊢
  simp only [hc, Bool.false_eq_true, if_false] at h ⊢
  split at h
  · rename_i hk
    refine ⟨_, if_pos hk, ?_⟩
    simp [hv, hd]
  · exact absurd h (by simp)
/-- The staging of it, with its command waiting. -/
def gstg : Staging := { total := 176, chunks := [(0, gimg)], waiting := some (0, 7, 1), stage := 1 }
set_option maxRecDepth 20000 in
/-- The signature check is a free value: the witness takes one under which staged images verify. -/
theorem witness_StagingAndFlashAreCarriedOut_1 (hv : ∀ k b g, Config.verify k b g = true) : ∃ (k : Nat) (g : Staging) (w : Nat × Nat × Nat) (i : Image) (s : State),
    s.flintOn = true ∧ (s.slots k).staging = some g ∧ g.waiting = some w ∧ s.verifyStaged k g = .ok i := by
  obtain ⟨i, hp, hg⟩ := parse_good (c := 2) (b := gstg.bytes) hv rfl (by decide +kernel) (by rfl)
  refine ⟨2, gstg, (0, 7, 1), i, { on with flt := { on.flt with st := 1 }, boot := { on.boot with images := [(2, { staging := some gstg })] } }, rfl, rfl, rfl, ?_⟩
  unfold State.verifyStaged
  rw [hp]
  simp [State.authentic, State.rolledBack, hg, countersigned, imgBank]

end PowerBoot

namespace Time

/-- beat b of frame 5000, n ns into the beat, with Lodestone on -/
def clk (b n : Nat) (s : State) : State := { s with
  lds := { s.lds with on := true, time := (50000000000 % 2 ^ 32 + b * 125000 + n) * 2 ^ 24, wrap := 11, wrapLatch := 11, ext := 50000000000 }
  frm := { s.frm with beat := b }
  regs := (aLdsTmrCmp 0, 50010000000 % 2 ^ 32) :: s.regs }
def ck : State := clk 70 20 on
def ckl : State := { ck with lds := { ck.lds with ticks := 2 ^ 47 } }
def wrp : State := { ck with lds := { ck.lds with time := (2 ^ 32 - 5) * 2 ^ 24 }, regs := [(aLdsTmrCmp 0, 70000)], frm := { ck.frm with beat := 79 } }
def bi : BeatIn := { gpio := 3, ohm := 4700 }
def q0 (s : State) : State := { s with regs := s.regs.filter (fun e => !((List.range 16).any (fun n => e.1 == aLdsTmrCtl n))) }
def cl : State := clk 20 500 lit
/-- an edge of `o` ns at `a` ns -/
def ob (o : Int) : Obs := { off := o, at_ := 50002500000 * 2 ^ 24, tick := 0, inc := 33554432 }
/-- a 1PPS edge 2,500,000 ns after frame 5000 began waits for its sentence -/
def ppsS (n : Nat) (q : List Ref) : State := { cl with lds := { cl.lds with target := some .pps, qual := q, ppsWait := some (ob 50002500000), ppsLast := some 50002500000, ppsRun := List.replicate n (ob (-2500000)), fsyncSlave := true, enFsync := true, fsRun := List.replicate 5999 (ob 2) } }
def fsS (b : Nat) (q : List Ref) : State := { clk b 30 lit with lds := { (clk b 30 lit).lds with target := none, qual := q, fsyncSlave := true, enFsync := true, fsRun := List.replicate 5999 (ob (-30)) } }
def lt (b k : Nat) (s : State) : State := ({ s with out := [] } : State).later b k
def fsT : State := { fsS 0 [] with lds := { (fsS 0 []).lds with fsRun := [ob (-30)] } }
def fsC : State := { fsS 0 [.pps] with lds := { (fsS 0 [.pps]).lds with ppsRun := [ob 7000000] } }
def pp (n : Nat) : PtpPort := { st := .slave, offs := List.replicate n (ob 1) }
def ptpS (q : List Ref) (p : PtpPort) : State := { cl with lds := { cl.lds with target := some .pps, qual := q, ptp := [(256, p)] } }
def an : AnnData := { prio1 := 1, cls := 6, acc := 33, var := 5, prio2 := 128, gm := 77, steps := 2, src := Config.moduleEui + 1, srcPort := 1 }
def p3 : State := ptpS [] (pp 63)
def p3u : State := p3.at_ 4
def p3m : Int := p3u.ptpIn 256 (pp 63) - 10 * 50002500000 - 40
def uns (l : Lodestone) : State := { on with lds := { l with on := true, st := .unset, ticks := 2 ^ 60 } }
def acl : State := { lit with lds := { lit.lds with ticks := 2 ^ 60 } }
def tc : TmrCfg := { dest := 0, cmp := 70000, per := 2000 }
def tm (ctl cmp per wid : Nat) : State := let s := clk 20 500 { lit with regs := [] }
  { s with regs := s.regs ++ [(aLdsTmrCtl 9, ctl), (aLdsTmrCmp 9, cmp % 2 ^ 32), (aLdsTmrPer 9, per), (aLdsTmrWid 9, wid)] }
def cmpAt : Nat := (50000000000 + 20 * 125000 + 900) % 2 ^ 32
def pu : State := let s := clk 20 500 { lit with regs := [] }
  { s with lds := { s.lds with ppsOut := [(9, cmpAt)] } }
def uc (s : State) : State := { s with boot := { lit.boot with inService := false }, ses := lit.ses, ten := lit.ten, frm := { s.frm with beat := 0 } }
def ptS (n : Nat) : State := let s := ptpS [.ptp] (pp n); { s with pw := { lit.pw with carrier := { lit.pw.carrier with uplinks := 3 } }, frm := { s.frm with beat := 0 } }
theorem witness_CounterAndLoads :
    (∃ (full : Nat) (s : State), s.lds.loadUsed = false ∧ s.boot.inService = false) ∧
    (∃ (full : Nat) (s : State), (s.lds.loadUsed = true ∨ s.boot.inService = true)) ∧
    (∃ (b : Nat) (k : Nat) (g : Nat) (s : State) (u : State), u = ({ s with out := [] } : State).later b k ∧ g = (u.lds.wrap + 65536 - u.lds.wrapLatch) % 65536 ∧ 2 * (u.lds.ticks - u.lds.readTick) < 2 ^ 48) ∧
    (∃ (b : Nat) (k : Nat) (s : State) (u : State), u = ({ s with out := [] } : State).later b k ∧ 2 ^ 48 ≤ 2 * (u.lds.ticks - u.lds.readTick) ∧ u.lds.bestP = none) ∧
    (∃ (s : State), s.lds.on = true ∧ s.rated ∧ s.lds.time < 2 ^ 56 ∧ s.lds.ticksFor (2 ^ 32 - s.lds.nsReg) < s.ticksToBeat ∧ s.Quiet []) ∧
    (∃ (s : State), s.lds.on = true ∧ s.lds.ticksFor (2 ^ 32 - s.lds.nsReg) < s.ticksToBeat) ∧
    (∃ (i : BeatIn) (s : State), s.lds.on = true ∧ s.pw.service = true ∧ s.rated ∧ s.Quiet [] ∧ loopClass i.ohm = s.pw.loop) ∧
    (∃ (i : BeatIn) (s : State), s.lds.on = false ∧ s.pw.service = true ∧ loopClass i.ohm = s.pw.loop) :=
  ⟨⟨1234567890123, on, by decide +kernel, by decide +kernel⟩,
   ⟨1234567890123, { on with boot := { on.boot with inService := true } }, by decide +kernel⟩,
   ⟨0, 100, 0, ck, ({ ck with out := [] } : State).later 0 100, rfl, by decide +kernel, by decide +kernel⟩,
   ⟨0, 3, ckl, ({ ckl with out := [] } : State).later 0 3, rfl, by decide +kernel, by decide +kernel⟩,
   ⟨wrp, by decide +kernel, by decide +kernel, by decide +kernel, by decide +kernel, by decide +kernel⟩,
   ⟨wrp, by decide +kernel, by decide +kernel⟩,
   ⟨bi, q0 ck, by decide +kernel, by decide +kernel, by decide +kernel, by decide +kernel, by decide +kernel⟩,
   ⟨bi, on, by decide +kernel, by decide +kernel, by decide +kernel⟩⟩
theorem witness_EdgeReferencesQualifyAndAreLost :
    (∃ (k : Nat) (s : State) (u : State), s.lds.on = true ∧ u = s.at_ k ∧ u.lds.ppsWait = none) ∧
    (∃ (k : Nat) (w : Obs) (s : State) (u : State), s.lds.on = true ∧ u = s.at_ k ∧ u.lds.ppsWait = some w) ∧
    (∃ (s : State), s.lds.on = true ∧ ((∀ e, s.lds.ppsLast = some e → e + 2000000000 ≤ s.ns))) ∧
    (∃ (k : Nat) (x : TodSentence) (b : Bool) (o : Obs) (s : State) (u : State), s.lds.on = true ∧ u = s.at_ k ∧ u.lds.ppsWait = some o ∧ todValid u.lds x b (decide ((u.ns : Int) - u.inDelay ≤ o.off + 800000000)) = false) ∧
    (∃ (k : Nat) (x : TodSentence) (o : Obs) (r : List Obs) (s : State) (u : State), s.lds.on = true ∧ u = s.at_ k ∧ u.lds.ppsWait = some o ∧ todValid u.lds x true true = true ∧ (u.ns : Int) - u.inDelay ≤ o.off + 800000000 ∧ u.lds.qual.contains .pps = false ∧ r = ({ o with off := (u.lds.todSecond x * 1000000000 : Nat) - o.off } :: u.lds.ppsRun).take 60) ∧
    (∃ (k : Nat) (x : TodSentence) (o : Obs) (r : List Obs) (s : State) (u : State), s.lds.on = true ∧ u = s.at_ k ∧ u.lds.ppsWait = some o ∧ todValid u.lds x true true = true ∧ (u.ns : Int) - u.inDelay ≤ o.off + 800000000 ∧ u.lds.qual.contains .pps = true ∧ r = ({ o with off := (u.lds.todSecond x * 1000000000 : Nat) - o.off } :: u.lds.ppsRun).take 60) ∧
    (∃ (b : Nat) (k : Nat) (s : State) (u : State), s.lds.on = true ∧ s.lds.fsyncSlave = true ∧ s.lds.enFsync = true ∧ u = ({ s with out := [] } : State).later b k ∧ (u.fsDisagree u.fsOffset).natAbs < 5000000 ∧ 50000 < u.fsOffset.natAbs) ∧
    (∃ (b : Nat) (k : Nat) (r : List Obs) (s : State) (u : State), s.lds.on = true ∧ s.lds.fsyncSlave = true ∧ s.lds.enFsync = true ∧ u = ({ s with out := [] } : State).later b k ∧ u.lds.fsyncSlave = true ∧ u.lds.enFsync = true ∧ (u.fsDisagree u.fsOffset).natAbs < 5000000 ∧ u.fsOffset.natAbs ≤ 50000 ∧ u.lds.qual.contains .fsync = false ∧ r = (u.obs u.fsOffset :: u.lds.fsRun).take 6000) ∧
    (∃ (b : Nat) (k : Nat) (s : State) (u : State), s.lds.on = true ∧ s.lds.fsyncSlave = true ∧ s.lds.enFsync = true ∧ u = ({ s with out := [] } : State).later b k ∧ 5000000 ≤ (u.fsDisagree u.fsOffset).natAbs ∧ u.lds.fsConflict = false ∧ u.lds.qual.contains .fsync = false) ∧
    (∃ (b : Nat) (k : Nat) (s : State), s.lds.on = true ∧ s.lds.fsyncSlave = true ∧ s.lds.enFsync = false) ∧
    (∃ (s : State), s.lds.fsyncSlave = true ∧ s.lds.qual.contains .fsync = true ∧ 8 ≤ s.lds.fsMiss) ∧
    (∃ (k : Nat) (s : State), s.lds.on = true ∧ s.Quiet [] ∧ k < s.ticksToBeat) :=
  ⟨⟨5, cl, cl.at_ 5, by decide +kernel, rfl, by decide +kernel⟩,
   ⟨5, ob 50002500000, ppsS 4 [.pps], (ppsS 4 [.pps]).at_ 5, by decide +kernel, rfl, by decide +kernel⟩,
   ⟨{ ppsS 4 [.pps] with lds := { (ppsS 4 [.pps]).lds with ppsLast := some 47000000000 } }, by decide +kernel, by decide +kernel⟩,
   ⟨5, .zda 5, true, ob 50002500000, ppsS 4 [.pps], (ppsS 4 [.pps]).at_ 5, by decide +kernel, rfl, by decide +kernel, by decide +kernel⟩,
   ⟨5, .pztod 50 87 0, ob 50002500000, List.replicate 5 (ob (-2500000)), ppsS 4 [.ptp], (ppsS 4 [.ptp]).at_ 5, by decide +kernel, rfl, by decide +kernel, by decide +kernel, by decide +kernel, by decide +kernel, by decide +kernel⟩,
   ⟨5, .pztod 50 87 0, ob 50002500000, List.replicate 60 (ob (-2500000)), ppsS 59 [.pps], (ppsS 59 [.pps]).at_ 5, by decide +kernel, rfl, by decide +kernel, by decide +kernel, by decide +kernel, by decide +kernel, by decide +kernel⟩,
   ⟨0, 5, fsS 20 [], lt 0 5 (fsS 20 []), by decide +kernel, by decide +kernel, by decide +kernel, rfl, by decide +kernel, by decide +kernel⟩,
   ⟨0, 0, [(lt 0 0 fsT).obs (lt 0 0 fsT).fsOffset, ob (-30)], fsT, lt 0 0 fsT, by decide +kernel, by decide +kernel, by decide +kernel, rfl, by decide +kernel, by decide +kernel, by decide +kernel, by decide +kernel, by decide +kernel, by decide +kernel⟩,
   ⟨0, 0, fsC, lt 0 0 fsC, by decide +kernel, by decide +kernel, by decide +kernel, rfl, by decide +kernel, by decide +kernel, by decide +kernel⟩,
   ⟨0, 0, { fsC with lds := { fsC.lds with enFsync := false } }, by decide +kernel, by decide +kernel, by decide +kernel⟩,
   ⟨{ lit with lds := { on := true, fsyncSlave := true, qual := [.fsync], fsMiss := 8, st := .locked, target := some .fsync } }, by decide +kernel, by decide +kernel, by decide +kernel⟩,
   ⟨9, q0 cl, by decide +kernel, by decide +kernel, by decide +kernel⟩⟩
theorem witness_PtpAndFrequencyReferences :
    (∃ (p : Nat) (h : PtpHdr) (m : PtpMsg) (q : PtpPort) (s : State) (u : State), s.lds.on = true ∧ tget s.lds.ptp p = some q ∧ u = s.at_ h.ticks ∧ (h.domain ≠ u.lds.domain ∨ m = .unsupported)) ∧
    (∃ (p : Nat) (h : PtpHdr) (d : AnnData) (q : PtpPort) (r : PtpPort) (s : State) (u : State), s.lds.on = true ∧ tget s.lds.ptp p = some q ∧ u = s.at_ h.ticks ∧ tget u.lds.ptp p = some r ∧ r.role ≠ 1 ∧ h.domain = u.lds.domain ∧ d.src ≠ Config.moduleEui ∧ d.steps < 255) ∧
    (∃ (p : Nat) (seq : Nat) (origin : Nat) (h : PtpHdr) (corr : Int) (m : Int) (off : Int) (l : List Obs) (q : PtpPort) (r : PtpPort) (s : State) (u : State), s.lds.on = true ∧ tget s.lds.ptp p = some q ∧ u = s.at_ h.ticks ∧ tget u.lds.ptp p = some r ∧ r.st = .slave ∧ h.domain = u.lds.domain ∧ u.lds.qual.contains .ptp = false ∧ m = u.ptpIn p r - 10 * origin - corr - 10 * r.asym ∧ off = tdiv (r.mpd - m) 10 ∧ l = (u.obs off :: r.offs).take 64) ∧
    (∃ (p : Nat) (q : PtpPort) (s : State), tget s.lds.ptp p = some q ∧ q.st ≠ .master ∧ q.annAt + logFrames q.annTmo q.logAnn ≤ s.frm.now) ∧
    (∃ (s : State), s.lds.on = true ∧ s.lds.enRef10 = true ∧ s.lds.qual.contains .ref10 = false) ∧
    (∃ (s : State), s.lds.on = true ∧ s.lds.qual.contains .ref10 = true) :=
  ⟨⟨256, ⟨1, 4⟩, .sync false 3 5 0, pp 3, ptpS [] (pp 3), (ptpS [] (pp 3)).at_ 4, by decide +kernel, by decide +kernel, rfl, by decide +kernel⟩,
   ⟨256, ⟨0, 4⟩, an, pp 3, pp 3, ptpS [.ptp] (pp 3), (ptpS [.ptp] (pp 3)).at_ 4, by decide +kernel, by decide +kernel, rfl, by decide +kernel, by decide +kernel, by decide +kernel, Nat.succ_ne_self _, by decide +kernel⟩,
   ⟨256, 9, 50002500000, ⟨0, 4⟩, 40, p3m, tdiv (0 - p3m) 10, p3u.obs (tdiv (0 - p3m) 10) :: (pp 63).offs, pp 63, pp 63, p3, p3u, by decide +kernel, by decide +kernel, rfl, by decide +kernel, by decide +kernel, by decide +kernel, by decide +kernel, by decide +kernel, by decide +kernel, by decide +kernel⟩,
   ⟨256, pp 64, ptpS [.ptp] (pp 64), by decide +kernel, by decide +kernel, by decide +kernel⟩,
   ⟨{ ptpS [.ptp] (pp 3) with lds := { (ptpS [.ptp] (pp 3)).lds with enRef10 := true } }, by decide +kernel, by decide +kernel, by decide +kernel⟩,
   ⟨{ ptpS [.ptp, .ref10] (pp 3) with lds := { (ptpS [.ptp, .ref10] (pp 3)).lds with steer10 := true } }, by decide +kernel, by decide +kernel⟩⟩
theorem witness_LodestoneStatesFollowTheirTimes :
    (∃ (s : State), s.acqDue = true ∧ s.lds.st = .unset ∧ s.lds.loadUsed = false ∧ s.boot.inService = false) ∧
    (∃ (s : State), s.acqDue = true ∧ s.lds.st ≠ .unset) ∧
    (∃ (s : State), s.acqDue = true ∧ s.lds.st = .unset ∧ s.lds.loadUsed = true) ∧
    (∃ (s : State), s.lds.st = .switch ∧ 16 ≤ s.lds.within) ∧
    (∃ (s : State), s.lds.st = .holdover ∧ s.lds.holdExpired = false ∧ 8640000 ≤ s.lds.holdFrames) ∧
    (∃ (s : State), s.lds.st = .holdover ∧ s.lds.holdExpired = true) ∧
    (∃ (s : State), s.lds.on = true ∧ s.lds.st ≠ .unset) :=
  ⟨⟨uns {}, by decide +kernel, by decide +kernel, by decide +kernel, by decide +kernel⟩,
   ⟨acl, by decide +kernel, by decide +kernel⟩,
   ⟨uns { loadUsed := true }, by decide +kernel, by decide +kernel, by decide +kernel⟩,
   ⟨{ on with lds := { st := .switch, within := 16, target := some .ptp } }, by decide +kernel, by decide +kernel⟩,
   ⟨{ on with lds := { st := .holdover, holdFrames := 8640000 } }, by decide +kernel, by decide +kernel, by decide +kernel⟩,
   ⟨{ on with lds := { st := .holdover, holdExpired := true } }, by decide +kernel, by decide +kernel⟩,
   ⟨lit, by decide +kernel, by decide +kernel⟩⟩
theorem witness_TimerChannelsFire :
    (∃ (n : Nat) (per : Bool) (c : TmrCfg) (s : State), n < 16 ∧ ((n < 6 → s.boot.inService = false)) ∧ bit (s.reg (aLdsTmrCtl n)) 0 = false ∧ destLegal n c.dest = true ∧ c.per < 2 ^ 31 ∧ 1 ≤ c.wid ∧ c.wid ≤ 100000 ∧ ((per = true → 2000 ≤ c.per ∧ c.wid * 1000 < c.per))) ∧
    (∃ (n : Nat) (per : Bool) (c : TmrCfg) (s : State), n < 16 ∧ ((n < 6 → s.boot.inService = false)) ∧ bit (s.reg (aLdsTmrCtl n)) 0 = false ∧ c.per < 2 ^ 32 ∧ c.wid < 2 ^ 17 ∧ (destLegal n c.dest = false ∨ (per = true ∧ (c.per < 2000 ∨ 2 ^ 31 ≤ c.per)) ∨ ((c.dest = 1 ∨ c.dest = 2) ∧ (c.wid < 1 ∨ 100000 < c.wid ∨ (per = true ∧ c.per ≤ c.wid * 1000))))) ∧
    (∃ (n : Nat) (per : Bool) (c : TmrCfg) (s : State), n < 16 ∧ ((n < 6 → s.boot.inService = false)) ∧ bit (s.reg (aLdsTmrCtl n)) 0 = true) ∧
    (∃ (n : Nat) (per : Bool) (c : TmrCfg) (s : State), n < 6 ∧ s.boot.inService = true) ∧
    (∃ (n : Nat) (s : State), s.lds.on = true ∧ n < 16 ∧ bit (s.reg (aLdsTmrCtl n)) 0 = true ∧ s.ticksUntil (s.reg (aLdsTmrCmp n)) < s.ticksToBeat) ∧
    (∃ (n : Nat) (k : Nat) (s : State), s.lds.on = true ∧ s.rated ∧ s.Quiet [n] ∧ n < 16 ∧ bit (s.reg (aLdsTmrCtl n)) 0 = true ∧ bit (s.reg (aLdsTmrCtl n)) 1 = false ∧ s.tmrDest n = 0 ∧ k = s.ticksUntil (s.reg (aLdsTmrCmp n)) ∧ k < s.ticksToBeat) ∧
    (∃ (n : Nat) (k : Nat) (s : State), s.lds.on = true ∧ s.rated ∧ s.Quiet [n] ∧ n < 16 ∧ bit (s.reg (aLdsTmrCtl n)) 0 = true ∧ bit (s.reg (aLdsTmrCtl n)) 1 = true ∧ s.tmrDest n = 3 ∧ 2000 ≤ s.reg (aLdsTmrPer n) ∧ s.reg (aLdsTmrPer n) < 2 ^ 31 ∧ s.reached (s.reg (aLdsTmrCmp n)) = false ∧ k = s.ticksUntil (s.reg (aLdsTmrCmp n)) ∧ k < s.ticksToBeat) ∧
    (∃ (n : Nat) (k : Nat) (s : State), s.lds.on = true ∧ s.rated ∧ s.Quiet [n] ∧ n < 16 ∧ bit (s.reg (aLdsTmrCtl n)) 0 = true ∧ bit (s.reg (aLdsTmrCtl n)) 1 = false ∧ s.tmrDest n = 1 ∧ 1 ≤ s.tmrWid n ∧ s.tmrWid n ≤ 100000 ∧ s.lds.st ≠ .unset ∧ k = s.ticksUntil (s.reg (aLdsTmrCmp n)) ∧ k < s.ticksToBeat) ∧
    (∃ (n : Nat) (v : Nat) (k : Nat) (s : State), s.lds.on = true ∧ s.rated ∧ (∀ m < 16, bit (s.reg (aLdsTmrCtl m)) 0 = false) ∧ s.lds.ppsOut = [(n, v)] ∧ s.lds.fsyncOut = [] ∧ k = s.ticksUntil v ∧ k < s.ticksToBeat) ∧
    (∃ (n : Nat) (v : Nat) (s : State), s.lds.on = true ∧ (tget s.lds.ppsOut n).or (tget s.lds.fsyncOut n) = some v ∧ s.ticksUntil v < s.ticksToBeat) :=
  ⟨⟨9, false, tc, lit, by decide +kernel, by decide +kernel, by decide +kernel, by decide +kernel, by decide +kernel, by decide +kernel, by decide +kernel, by decide +kernel⟩,
   ⟨9, true, { tc with per := 1999 }, lit, by decide +kernel, by decide +kernel, by decide +kernel, by decide +kernel, by decide +kernel, by decide +kernel⟩,
   ⟨9, true, tc, tm 1 7 8 9, by decide +kernel, by decide +kernel, by decide +kernel⟩,
   ⟨3, true, tc, lit, by decide +kernel, by decide +kernel⟩,
   ⟨9, tm 1 cmpAt 0 0, by decide +kernel, by decide +kernel, by decide +kernel, by decide +kernel⟩,
   ⟨9, (tm 1 cmpAt 0 0).ticksUntil cmpAt, tm 1 cmpAt 0 0, by decide +kernel, by decide +kernel, by decide +kernel, by decide +kernel, by decide +kernel, by decide +kernel, by decide +kernel, by decide +kernel, by decide +kernel⟩,
   ⟨9, (tm (3 + 4 * 3) cmpAt 10000000 0).ticksUntil cmpAt, tm (3 + 4 * 3) cmpAt 10000000 0, by decide +kernel, by decide +kernel, by decide +kernel, by decide +kernel, by decide +kernel, by decide +kernel, by decide +kernel, by decide +kernel, by decide +kernel, by decide +kernel, by decide +kernel, by decide +kernel⟩,
   ⟨9, (tm (1 + 4) cmpAt 0 50).ticksUntil cmpAt, tm (1 + 4) cmpAt 0 50, by decide +kernel, by decide +kernel, by decide +kernel, by decide +kernel, by decide +kernel, by decide +kernel, by decide +kernel, by decide +kernel, by decide +kernel, by decide +kernel, by decide +kernel, by decide +kernel⟩,
   ⟨9, cmpAt, pu.ticksUntil cmpAt, pu, by decide +kernel, by decide +kernel, by decide +kernel, by decide +kernel, by decide +kernel, by decide +kernel, by decide +kernel⟩,
   ⟨9, cmpAt, pu, by decide +kernel, by decide +kernel, by decide +kernel⟩⟩
theorem witness_TimeOpcodes :
    (∃ (src : Src) (tlvs : List Tlv) (s : State) (s1 : State) (c : Cmd), accepted opTimeRead src tlvs s = some (s1, c)) ∧
    (∃ (src : Src) (tlvs : List Tlv) (s : State) (s1 : State) (c : Cmd), accepted opTimeSet src tlvs s = some (s1, c)) ∧
    (∃ (src : Src) (tlvs : List Tlv) (s : State) (s1 : State) (c : Cmd), accepted opUtcTable src tlvs s = some (s1, c)) ∧
    (∃ (src : Src) (tlvs : List Tlv) (s : State) (s1 : State) (c : Cmd), accepted opPtpPort src tlvs s = some (s1, c)) ∧
    (∃ (src : Src) (tlvs : List Tlv) (s : State) (s1 : State) (c : Cmd), accepted opTimeRawRead src tlvs s = some (s1, c)) ∧
    (∃ (src : Src) (tlvs : List Tlv) (s : State) (s1 : State) (c : Cmd), accepted opTimedPulse src tlvs s = some (s1, c)) ∧
    (∃ (src : Src) (tlvs : List Tlv) (s : State) (s1 : State) (c : Cmd), accepted opStampMark src tlvs s = some (s1, c)) :=
  ⟨⟨own, [], lit, acS opTimeRead own ([]) (lit), acC opTimeRead own ([]) (lit), acc_some (by decide +kernel)⟩,
   ⟨own, [tl 12 (nn 8 77)], uc (uns {}), acS opTimeSet own ([tl 12 (nn 8 77)]) (uc (uns {})), acC opTimeSet own ([tl 12 (nn 8 77)]) (uc (uns {})), acc_some (by decide +kernel)⟩,
   ⟨own, [tl 15 (nn 4 37), tl 9 (nn 12 99)], lit, acS opUtcTable own ([tl 15 (nn 4 37), tl 9 (nn 12 99)]) (lit), acC opUtcTable own ([tl 15 (nn 4 37), tl 9 (nn 12 99)]) (lit), acc_some (by decide +kernel)⟩,
   ⟨own, [tl 11 (nn 2 256), tl 13 (nn 1 0)], ptS 9, acS opPtpPort own ([tl 11 (nn 2 256), tl 13 (nn 1 0)]) (ptS 9), acC opPtpPort own ([tl 11 (nn 2 256), tl 13 (nn 1 0)]) (ptS 9), acc_some (by decide +kernel)⟩,
   ⟨own, [tl 11 (nn 2 5)], { lit with lds := { lit.lds with stamps := [(0, 5, true, 7), (0, 6, true, 8)] } }, acS opTimeRawRead own ([tl 11 (nn 2 5)]) ({ lit with lds := { lit.lds with stamps := [(0, 5, true, 7), (0, 6, true, 8)] } }), acC opTimeRawRead own ([tl 11 (nn 2 5)]) ({ lit with lds := { lit.lds with stamps := [(0, 5, true, 7), (0, 6, true, 8)] } }), acc_some (by decide +kernel)⟩,
   ⟨own, [tl 12 (nn 8 77), tl 13 (nn 1 1)], lit, acS opTimedPulse own ([tl 12 (nn 8 77), tl 13 (nn 1 1)]) (lit), acC opTimedPulse own ([tl 12 (nn 8 77), tl 13 (nn 1 1)]) (lit), acc_some (by decide +kernel)⟩,
   ⟨own, [tl 11 (nn 2 5), tl 15 (nn 4 2)], lit, acS opStampMark own ([tl 11 (nn 2 5), tl 15 (nn 4 2)]) (lit), acC opStampMark own ([tl 11 (nn 2 5), tl 15 (nn 4 2)]) (lit), acc_some (by decide +kernel)⟩⟩

end Time

namespace Light

theorem witness_LevelLeaseAndEmergencyCommands :
    (∃ (src : Src) (tlvs : List Tlv) (s : State) (s1 : State) (c : Cmd), accepted opLightLevel src tlvs s = some (s1, c)) ∧
    (∃ (src : Src) (tlvs : List Tlv) (s : State) (s1 : State) (c : Cmd), accepted opLightLevelX src tlvs s = some (s1, c)) ∧
    (∃ (src : Src) (tlvs : List Tlv) (s : State) (s1 : State) (c : Cmd), accepted opLightFade src tlvs s = some (s1, c)) ∧
    (∃ (src : Src) (tlvs : List Tlv) (s : State) (s1 : State) (c : Cmd), accepted opLightEmergency src tlvs s = some (s1, c)) ∧
    (∃ (src : Src) (tlvs : List Tlv) (s : State) (s1 : State) (c : Cmd), accepted opLightLease src tlvs s = some (s1, c)) :=
  ⟨⟨own, [epl [262145, 262146], tl 3 (nn 2 500)], lst, acS opLightLevel own [epl [262145, 262146], tl 3 (nn 2 500)] lst, acC opLightLevel own [epl [262145, 262146], tl 3 (nn 2 500)] lst, acc_some (by decide +kernel)⟩,
   ⟨t5, [epl [0, 1], tl 3 (nn 2 65533)], lsd (ten5 lst), acS opLightLevelX t5 [epl [0, 1], tl 3 (nn 2 65533)] (lsd (ten5 lst)), acC opLightLevelX t5 [epl [0, 1], tl 3 (nn 2 65533)] (lsd (ten5 lst)), acc_some (by decide +kernel)⟩,
   ⟨own, [epl [262145, 262146], tl 3 (nn 2 5000), tl 4 (nn 4 3)], lst, acS opLightFade own ([epl [262145, 262146], tl 3 (nn 2 5000), tl 4 (nn 4 3)]) (lst), acC opLightFade own ([epl [262145, 262146], tl 3 (nn 2 5000), tl 4 (nn 4 3)]) (lst), acc_some (by decide +kernel)⟩,
   ⟨own, [epl [262145, 262146], tl 3 (nn 2 5000), tl 13 [0]], lst, acS opLightEmergency own ([epl [262145, 262146], tl 3 (nn 2 5000), tl 13 [0]]) (lst), acC opLightEmergency own ([epl [262145, 262146], tl 3 (nn 2 5000), tl 13 [0]]) (lst), acc_some (by decide +kernel)⟩,
   ⟨own, [epl [262145, 262147], tl 13 [0], tl 4 (nn 4 9)], lsd (ten5 lst), acS opLightLease own ([epl [262145, 262147], tl 13 [0], tl 4 (nn 4 9)]) (lsd (ten5 lst)), acC opLightLease own ([epl [262145, 262147], tl 13 [0], tl 4 (nn 4 9)]) (lsd (ten5 lst)), acc_some (by decide +kernel)⟩⟩
theorem witness_LightReadsAndLampChecks :
    (∃ (src : Src) (tlvs : List Tlv) (s : State) (s1 : State) (c : Cmd), accepted opLightRead src tlvs s = some (s1, c)) ∧
    (∃ (src : Src) (tlvs : List Tlv) (s : State) (s1 : State) (c : Cmd), accepted opSlateWindow src tlvs s = some (s1, c)) ∧
    (∃ (src : Src) (tlvs : List Tlv) (s : State) (s1 : State) (c : Cmd) (k : Sched), accepted opScheduleRead src tlvs s = some (s1, c) ∧ tget s.slt.scheds (256 * c.vctl + c.nat 0x0194) = some k) ∧
    (∃ (src : Src) (tlvs : List Tlv) (s : State) (s1 : State) (c : Cmd), accepted opScheduleRead src tlvs s = some (s1, c) ∧ tget s.slt.scheds (256 * c.vctl + c.nat 0x0194) = none) ∧
    (∃ (src : Src) (tlvs : List Tlv) (s : State) (s1 : State) (c : Cmd), accepted opSolarRead src tlvs s = some (s1, c)) ∧
    (∃ (src : Src) (tlvs : List Tlv) (s : State) (s1 : State) (c : Cmd), accepted opTelemetryRead src tlvs s = some (s1, c)) ∧
    (∃ (s : State), s.inLight = true) ∧
    (∃ (s : State), s.inLight = false) ∧
    (∃ (src : Src) (tlvs : List Tlv) (s : State) (s1 : State) (c : Cmd), accepted opTelemetryStream src tlvs s = some (s1, c)) :=
  ⟨⟨own, [epl [262145, 262147]], lst, acS opLightRead own ([epl [262145, 262147]]) (lst), acC opLightRead own ([epl [262145, 262147]]) (lst), acc_some (by decide +kernel)⟩,
   ⟨t5, [tl 0x177 (nn 4 0), tl 15 (nn 4 3)], ten5 lst, acS opSlateWindow (t5) ([tl 0x177 (nn 4 0), tl 15 (nn 4 3)]) (ten5 lst), acC opSlateWindow (t5) ([tl 0x177 (nn 4 0), tl 15 (nn 4 3)]) (ten5 lst), acc_some (by decide +kernel)⟩,
   ⟨own, [tl 0x194 [4]], sch lst, acS opScheduleRead own [tl 0x194 [4]] (sch lst), acC opScheduleRead own [tl 0x194 [4]] (sch lst), ⟨true, none, [262145], [.x 5001 77 0 false, .x 4000 88 0 true], 0⟩, acc_some (by decide +kernel), by decide +kernel⟩,
   ⟨own, [tl 0x194 [5]], sch lst, acS opScheduleRead own ([tl 0x194 [5]]) (sch lst), acC opScheduleRead own ([tl 0x194 [5]]) (sch lst), acc_some (by decide +kernel), by decide +kernel⟩,
   ⟨own, [tl 12 (nn 8 5)], sch lst, acS opSolarRead own ([tl 12 (nn 8 5)]) (sch lst), acC opSolarRead own ([tl 12 (nn 8 5)]) (sch lst), acc_some (by decide +kernel)⟩,
   ⟨own, [epl [262145, 262147]], lst, acS opTelemetryRead own ([epl [262145, 262147]]) (lst), acC opTelemetryRead own ([epl [262145, 262147]]) (lst), acc_some (by decide +kernel)⟩,
   ⟨lst, by decide +kernel⟩,
   ⟨on, by decide +kernel⟩,
   ⟨own, [epl [262145, 262147], tl 13 [1], tl 4 (nn 4 50)], lst, acS opTelemetryStream own ([epl [262145, 262147], tl 13 [1], tl 4 (nn 4 50)]) (lst), acC opTelemetryStream own ([epl [262145, 262147], tl 13 [1], tl 4 (nn 4 50)]) (lst), acc_some (by decide +kernel)⟩⟩
theorem witness_StepTablesFactorsAndGroups :
    (∃ (src : Src) (tlvs : List Tlv) (s : State) (s1 : State) (c : Cmd), accepted opStepTable src tlvs s = some (s1, c)) ∧
    (∃ (src : Src) (tlvs : List Tlv) (s : State) (s1 : State) (c : Cmd), accepted opFactorSet src tlvs s = some (s1, c)) ∧
    (∃ (src : Src) (tlvs : List Tlv) (s : State) (s1 : State) (c : Cmd), accepted opGroupDefine src tlvs s = some (s1, c)) ∧
    (∃ (src : Src) (tlvs : List Tlv) (s : State) (s1 : State) (c : Cmd) (k : Grp), accepted opGroupMembers src tlvs s = some (s1, c) ∧ tget s.slt.groups (gkey c.vctl (c.nat 0x0002)) = some k ∧ s.lmp.aon = [] ∧ c.eps.length ≤ 256) :=
  ⟨⟨own, [epl [262145, 262147], tl 0x171 [3], tl 0x172 (nn 2 4), tl 0x173 (nn 2 55 ++ nn 2 66)], lst, acS opStepTable own ([epl [262145, 262147], tl 0x171 [3], tl 0x172 (nn 2 4), tl 0x173 (nn 2 55 ++ nn 2 66)]) (lst), acC opStepTable own ([epl [262145, 262147], tl 0x171 [3], tl 0x172 (nn 2 4), tl 0x173 (nn 2 55 ++ nn 2 66)]) (lst), acc_some (by decide +kernel)⟩,
   ⟨own, [epl [262145], tl 0x179 (nn 2 55), tl 0x17A (nn 2 3 ++ nn 2 4096), tl 0x17B ([1, 1] ++ nn 2 16 ++ nn 2 32 ++ nn 2 4000 ++ nn 8 0 ++ nn 4 0), tl 0x17C [1]], lst, acS opFactorSet own ([epl [262145], tl 0x179 (nn 2 55), tl 0x17A (nn 2 3 ++ nn 2 4096), tl 0x17B ([1, 1] ++ nn 2 16 ++ nn 2 32 ++ nn 2 4000 ++ nn 8 0 ++ nn 4 0), tl 0x17C [1]]) (lst), acC opFactorSet own ([epl [262145], tl 0x179 (nn 2 55), tl 0x17A (nn 2 3 ++ nn 2 4096), tl 0x17B ([1, 1] ++ nn 2 16 ++ nn 2 32 ++ nn 2 4000 ++ nn 8 0 ++ nn 4 0), tl 0x17C [1]]) (lst), acc_some (by decide +kernel)⟩,
   ⟨own, [tl 2 (nn 2 9), tl 0x190 [0], tl 0x191 (nn 16 65)], lst, acS opGroupDefine own ([tl 2 (nn 2 9), tl 0x190 [0], tl 0x191 (nn 16 65)]) (lst), acC opGroupDefine own ([tl 2 (nn 2 9), tl 0x190 [0], tl 0x191 (nn 16 65)]) (lst), acc_some (by decide +kernel)⟩,
   ⟨own, [tl 2 (nn 2 9), tl 0x192 [0], epl [262145, 262147]], grp lst, acS opGroupMembers own [tl 2 (nn 2 9), tl 0x192 [0], epl [262145, 262147]] (grp lst), acC opGroupMembers own [tl 2 (nn 2 9), tl 0x192 [0], epl [262145, 262147]] (grp lst), { name := [65], primary := [262147] }, acc_some (by decide +kernel), by decide +kernel, by decide +kernel, by decide +kernel⟩⟩
theorem witness_SchedulesAndAllOrNoneGroups :
    (∃ (src : Src) (tlvs : List Tlv) (s : State) (s1 : State) (c : Cmd), accepted opScheduleWrite src tlvs s = some (s1, c)) ∧
    (∃ (src : Src) (tlvs : List Tlv) (s : State) (s1 : State) (c : Cmd), accepted opScheduleWriteX src tlvs s = some (s1, c)) ∧
    (∃ (v : Nat) (no : Nat) (ix : Nat) (k : Sched) (e : SEntry) (s : State), tget s.slt.scheds (256 * v + no) = some k ∧ k.entries[ix]? = some e ∧ k.enabled = true ∧ s.inLight = true ∧ s.active v = true ∧ (s.fireDue k ix = true ∨ (256 * v + no, ix) ∈ s.frm.lateFires)) ∧
    (∃ (v : Nat) (no : Nat) (ix : Nat) (s : State), (tget s.slt.scheds (256 * v + no) = none ∨ s.inLight = false ∨ s.active v = false ∨ ((256 * v + no, ix) ∉ s.frm.lateFires ∧ ∀ k, tget s.slt.scheds (256 * v + no) = some k → s.fireDue k ix = false))) ∧
    (∃ (src : Src) (tlvs : List Tlv) (s : State) (s1 : State) (c : Cmd) (a : Aon), accepted opAonClear src tlvs s = some (s1, c) ∧ s.aon? (clearTarget c) (c.nat 0x0002) = some a ∧ a.latched = true ∧ s.latchNo (clearTarget c) (c.nat 0x0002) = c.nat 0x000F) ∧
    (∃ (src : Src) (tlvs : List Tlv) (s : State) (s1 : State) (c : Cmd), accepted opAonClear src tlvs s = some (s1, c) ∧ ((s.aon? (clearTarget c) (c.nat 0x0002)).any (·.latched) = false ∨ s.latchNo (clearTarget c) (c.nat 0x0002) ≠ c.nat 0x000F)) :=
  ⟨⟨own, [epl [262145], tl 0x194 [3], tl 0x195 ([0, 127, 0, 0] ++ nn 4 100 ++ nn 2 5 ++ nn 2 5)], sch lst, acS opScheduleWrite own [epl [262145], tl 0x194 [3], tl 0x195 ([0, 127, 0, 0] ++ nn 4 100 ++ nn 2 5 ++ nn 2 5)] (sch lst), acC opScheduleWrite own [epl [262145], tl 0x194 [3], tl 0x195 ([0, 127, 0, 0] ++ nn 4 100 ++ nn 2 5 ++ nn 2 5)] (sch lst), acc_some (by decide +kernel)⟩,
   ⟨own, [epl [262145], tl 0x194 [3], tl 0x196 (nn 8 4000 ++ nn 2 5 ++ nn 2 5 ++ nn 4 0)], sch lst, acS opScheduleWriteX own [epl [262145], tl 0x194 [3], tl 0x196 (nn 8 4000 ++ nn 2 5 ++ nn 2 5 ++ nn 4 0)] (sch lst), acC opScheduleWriteX own [epl [262145], tl 0x194 [3], tl 0x196 (nn 8 4000 ++ nn 2 5 ++ nn 2 5 ++ nn 4 0)] (sch lst), acc_some (by decide +kernel)⟩,
   ⟨0, 4, 0, ⟨true, none, [262145], [.x 5001 77 0 false, .x 4000 88 0 true], 0⟩, .x 5001 77 0 false, sch lst, by decide +kernel, by decide +kernel, by decide +kernel, by decide +kernel, by decide +kernel, by decide +kernel⟩,
   ⟨0, 5, 0, sch lst, by decide +kernel⟩,
   ⟨own, [tl 2 (nn 2 9), tl 15 (nn 4 3)], aonS lst, acS opAonClear own [tl 2 (nn 2 9), tl 15 (nn 4 3)] (aonS lst), acC opAonClear own [tl 2 (nn 2 9), tl 15 (nn 4 3)] (aonS lst), { st := 0, level := 5, extra := 1, latched := true, installed := true }, acc_some (by decide +kernel), by decide +kernel, by decide +kernel, by decide +kernel⟩,
   ⟨own, [tl 2 (nn 2 9), tl 15 (nn 4 4)], aonS lst, acS opAonClear own ([tl 2 (nn 2 9), tl 15 (nn 4 4)]) (aonS lst), acC opAonClear own ([tl 2 (nn 2 9), tl 15 (nn 4 4)]) (aonS lst), acc_some (by decide +kernel), by decide +kernel⟩⟩
theorem witness_AcceptedCommandsCommitAndReply_1 : ∃ (x : Instr) (i : OpInfo) (src : Src) (tlvs : List Tlv) (s s1 : State) (c : Cmd),
    opRow x = some (i, src, tlvs) ∧ accepted i src tlvs s = some (s1, c) :=
  ⟨.lightLevel own [epl [262145, 262146], tl 3 (nn 2 500)], _, _, _, lst, _, _, rfl, acc_some (i := opLightLevel) (by decide +kernel)⟩
/-- The same command in beat 3. -/
theorem witness_AcceptedCommandsCommitAndReply_2 : ∃ (x : Instr) (i : OpInfo) (src : Src) (tlvs : List Tlv) (s s1 : State) (a : Assoc) (c : Cmd),
    opRow x = some (i, src, tlvs) ∧ s.assoc? src.key = some a ∧ a.phase = .opened ∧ s.pathUp a.path = true ∧ i.early = false ∧ s.frm.beat ≠ 0 ∧
    submit i src.key src.seq src.cmdid src.noData 0 a tlvs
      (({ s with out := [] } : State).modAssoc src.key (fun a => { a with lastRx := s.frm.now })) = (s1, .ok c) :=
  ⟨.lightLevel own [epl [262145, 262146], tl 3 (nn 2 500)], opLightLevel, own, _, { lst with frm := { lst.frm with beat := 3 } }, _,
    { path := .service, phase := .opened, major := 3, caps := 255, lastRx := 4000 }, _,
    rfl, by decide +kernel, rfl, by decide +kernel, rfl, by decide, submit_ok (by decide +kernel)⟩
theorem witness_RefusedCommandsHaveNoEffect_1 : ∃ (x : Instr) (i : OpInfo) (src : Src) (tlvs : List Tlv) (s : State),
    opRow x = some (i, src, tlvs) ∧ (∀ a, s.assoc? src.key = some a → a.phase = .awaitOpen ∨ s.pathUp a.path = false) :=
  ⟨.lightLevel own [], _, _, _, State.reset, rfl, fun _ h => nomatch h⟩
theorem witness_RefusedCommandsHaveNoEffect_2 : ∃ (x : Instr) (i : OpInfo) (src : Src) (tlvs : List Tlv) (s s1 : State) (a : Assoc) (r : Reply),
    opRow x = some (i, src, tlvs) ∧ s.assoc? src.key = some a ∧ a.phase = .opened ∧ s.pathUp a.path = true ∧
    submit i src.key src.seq src.cmdid src.noData 0 a tlvs
      (({ s with out := [] } : State).modAssoc src.key (fun a => { a with lastRx := s.frm.now })) = (s1, .error r) :=
  ⟨.lightLevel own [], opLightLevel, own, [], lst, _, { path := .service, phase := .opened, major := 3, caps := 255, lastRx := 4000 }, _,
    rfl, by decide +kernel, rfl, by decide +kernel, submit_err (by decide +kernel)⟩
/-- A paired pole node with two slots of basic profile `n`. -/
def aonP (n : Nat) : Pole :=
  { rep := ⟨9, 1, 1, 1, 24, 3, 15, [0, n, n], [0, 0, 0], 0, 1⟩, pair := .paired, adopted := true, reached := true }
/-- Its two slots as the members of group 9. -/
def aonD (n : Nat) : State := { lst with strs := { lst.strs with grains := [(3, { rate := 1, record := [(1, aonP n)] })] }, slt := { lst.slt with groups := [(9, { name := [65], primary := [mkHandle 3 1 1, mkHandle 3 1 2] })] } }
theorem aonD_lamp {n : Nat} (h : Config.lightingClass n = true) (k : Nat) (hk : k = 1 ∨ k = 2) : (atExam own (aonD n)).isLamp (mkHandle 3 1 k) = true := by
  obtain rfl | rfl := hk <;> exact h
/-- The lighting class is a value of the profile table, which the spec leaves open: the witness takes a profile that it marks as one. -/
theorem witness_SchedulesAndAllOrNoneGroups_5 (n : Nat) (h : Config.lightingClass n = true) :
    ∃ (src : Src) (tlvs : List Tlv) (s s1 : State) (c : Cmd), accepted opAonDefine src tlvs s = some (s1, c) := by
  refine ⟨own, [tl 2 (nn 2 9), tl 0x198 [0]], aonD n, _, _, accepted_bare (acc_some ?_) ?_ ?_⟩
  · rfl
  · rfl
  · have h1 := aonD_lamp h 1 (.inl rfl)
    have h2 := aonD_lamp h 2 (.inr rfl)
    generalize hs : atExam own (aonD n) = s0 at h1 h2 ⊢
    generalize hc : acC (bare opAonDefine) own [tl 2 (nn 2 9), tl 0x198 [0]] (aonD n) = c
    have hv : c.vctl = 0 := by rw [← hc]; rfl
    have hg : c.nat 2 = 9 := by rw [← hc]; rfl
    have hm : s0.members 0 9 = [mkHandle 3 1 1, mkHandle 3 1 2] := by rw [← hs]; rfl
    have hr : ∀ h, s0.hasEp 0 h 2 = true := fun h => by simp only [State.hasEp, State.epRights, if_true]; decide
    have hl : s0.aonLoad (stratumOf (hString (mkHandle 3 1 1))) (gkey 0 9) = (0, 0) := by rw [← hs]; rfl
    show aonRefusal c s0 = _
    unfold aonRefusal
    simp only [hv, hg, hm, hr, List.zipIdx, List.find?, h1, h2]
    simp only [List.headD, hl]
    rfl

end Light

namespace Session

def hel : Hello := { name := some ([118, 48, 46, 122, 115, 99]), versions := [0xFEFC], suites := [0x1301], groups := [24], sigs := [0x0503], cid := none, early := false }
def hsS (b : Nat) (h : Handshake) : State := { lit with frm := { lit.frm with beat := b }, ses := { lit.ses with hs := [(3, h)], lastHs := [(0, 4990)] } }
def aw : Assoc := { path := .service, lastRx := 4000 }
def as1 (a : Assoc) : State := { lit with ses := { lit.ses with assoc := [(0, a)] } }
def a3 : Assoc := { path := .service, phase := .opened, major := 3, caps := 255, lastRx := 4000 }
def evS : State := { lit with frm := { now := 5000 }, ses := { lit.ses with evq := [(0, { recs := [⟨⟨0x0F10, 1, 4000, []⟩, some 4800, true⟩] })] } }
def pk (seq : Nat) (cmd : Bytes) : Bytes := nn 2 0x5A43 ++ [3, 2] ++ nn 4 0 ++ nn 4 seq ++ nn 2 (16 + cmd.length) ++ nn 2 0 ++ cmd
def ka : Bytes := nn 2 3 ++ nn 2 8 ++ nn 2 9 ++ nn 2 0
def a3k : Assoc := { a3 with high := some 4, kept := [⟨4, some [[]], (3, 2)⟩] }
def a3f : Assoc := { a3 with lastRx := 5000, maxPkt := 24 }
def s1f (s : State) : State := (({ s with out := [] } : State).modAssoc (.vctl 0) (fun _ => a3f)).modAssoc (.vctl 0) (fun a => a.take 4)
def emT : List Tlv := [tl 13 [0], epl [262145], tl 3 (nn 2 500)]
def emB : Bytes := nn 2 0x105 ++ nn 2 32 ++ nn 2 9 ++ nn 2 0 ++ nn 2 13 ++ nn 2 1 ++ [0,0,0,0] ++ nn 2 1 ++ nn 2 4 ++ nn 4 262145 ++ nn 2 3 ++ nn 2 2 ++ nn 2 500 ++ [0,0]
def emP : Bytes := pk 4 emB
def emA : Assoc := { a3 with lastRx := 5000, maxPkt := 48, urgent := 1 }
def emS : State := { lst with ses := { lst.ses with assoc := [(0, a3)] } }
def emS1 : State := (({ emS with out := [] } : State).modAssoc (.vctl 0) (fun _ => emA)).modAssoc (.vctl 0) (fun a => a.take 4)
def emC : Cmd := (match examine opLightEmergency (.vctl 0) 4 9 false 0 emS1.frm.uid (emA.take 4) emT emS1 with | .ok c => c | _ => c0)
def emg (a : Bool) : State := { emS with pw := { emS.pw with emergA := a, carrier := { emS.pw.carrier with emergA := true } } }
theorem witness_HandshakesRunAsDtlsSays :
    (∃ (id : Nat) (x : Hello) (p : Path) (s : State), s.pathUp p = true) ∧
    (∃ (id : Nat) (x : Hello) (p : Path) (n : HelloName) (cs : Nat) (g : Nat) (s : State), s.pathUp p = true ∧ n = nameOn p (helloName x.name) ∧ s.tooSoon n = false ∧ 0xFEFC ∈ x.versions ∧ 0x0503 ∈ x.sigs ∧ firstOf [0x1302, 0x1301] x.suites = some cs ∧ firstOf [23, 24] x.groups = some g) ∧
    (∃ (id : Nat) (x : Hello) (p : Path) (n : HelloName) (s : State), s.pathUp p = true ∧ n = nameOn p (helloName x.name) ∧ s.tooSoon n = false ∧ selectHello x = none) ∧
    (∃ (id : Nat) (x : Hello) (p : Path) (c : Bool) (s : State), (s.pathUp p = false ∨ (c = true ∧ s.tooSoon (nameOn p (helloName x.name)) = true))) ∧
    (∃ (id : Nat) (h : Handshake) (s : State), tget s.ses.hs id = some h ∧ s.frm.beat = 0 ∧ h.flightSent = false ∧ h.hello + 40 ≤ s.frm.now) ∧
    (∃ (id : Nat) (k : Bytes) (h : Handshake) (s : State), tget s.ses.hs id = some h ∧ h.flightSent = true ∧ h.finished = none) ∧
    (∃ (id : Nat) (h : Handshake) (s : State), tget s.ses.hs id = some h ∧ s.frm.beat = 0 ∧ h.flightSent = true ∧ h.finished = none ∧ isServicePath h.path = true) ∧
    (∃ (id : Nat) (h : Handshake) (s : State), tget s.ses.hs id = some h ∧ h.finished = none ∧ h.lastFlight + 6000 ≤ s.frm.now) :=
  ⟨⟨3, hel, .service, lit, by decide +kernel⟩,
   ⟨3, hel, .service, .vctl 0, 0x1301, 24, lit, by decide +kernel, by decide +kernel, by decide +kernel, by decide +kernel, by decide +kernel, by decide +kernel, by decide +kernel⟩,
   ⟨3, { hel with suites := [] }, .service, .vctl 0, lit, by decide +kernel, by decide +kernel, by decide +kernel, by decide +kernel⟩,
   ⟨3, hel, .service, true, hsS 0 ⟨.vctl 0, .service, ⟨0x1302, 23, none⟩, 4900, false, 4900, none⟩, by decide +kernel⟩,
   ⟨3, ⟨.vctl 0, .service, ⟨0x1302, 23, none⟩, 4900, false, 4900, none⟩, hsS 0 ⟨.vctl 0, .service, ⟨0x1302, 23, none⟩, 4900, false, 4900, none⟩, by decide +kernel, by decide +kernel, by decide +kernel, by decide +kernel⟩,
   ⟨3, [], ⟨.vctl 0, .service, ⟨0x1302, 23, none⟩, 4900, true, 4900, none⟩, hsS 0 ⟨.vctl 0, .service, ⟨0x1302, 23, none⟩, 4900, true, 4900, none⟩, by decide +kernel, by decide +kernel, by decide +kernel⟩,
   ⟨3, ⟨.vctl 0, .service, ⟨0x1302, 23, none⟩, 4900, true, 4900, none⟩, hsS 0 ⟨.vctl 0, .service, ⟨0x1302, 23, none⟩, 4900, true, 4900, none⟩, by decide +kernel, by decide +kernel, by decide +kernel, by decide +kernel, by decide +kernel⟩,
   ⟨3, ⟨.vctl 0, .service, ⟨0x1302, 23, none⟩, 4900, true, 4900, none⟩, { hsS 0 ⟨.vctl 0, .service, ⟨0x1302, 23, none⟩, 4900, true, 4900, none⟩ with frm := { now := 30000 } }, by decide +kernel, by decide +kernel, by decide +kernel⟩⟩
theorem witness_AssociationsOpenAndEnd :
    (∃ (vm : Nat) (src : Src) (tlvs : List Tlv) (s : State) (s1 : State) (c : Cmd) (a : Assoc), twf s.ses.assoc = true ∧ s.assoc? src.key = some a ∧ a.closing = false ∧ a.kuDue = false ∧ acceptedIn (fun _ => true) (opSessionOpen vm a tlvs) src tlvs s = some (s1, c)) ∧
    (∃ (src : Src) (tlvs : List Tlv) (s : State) (s1 : State) (c : Cmd), accepted opSessionClose src tlvs s = some (s1, c)) ∧
    (∃ (k : AssocKey) (a : Assoc) (s : State), s.assoc? k = some a ∧ a.phase = .opened ∧ a.lastRx + 30000 ≤ s.frm.now) ∧
    (∃ (k : AssocKey) (a : Assoc) (s : State), s.assoc? k = some a ∧ a.phase = .opened ∧ 2 ^ 23 ≤ a.sent ∧ a.keyUpdate = false ∧ isServicePath a.path = true) ∧
    (∃ (k : AssocKey) (a : Assoc) (s : State), s.assoc? k = some a ∧ a.keyUpdate = true) ∧
    (∃ (k : AssocKey) (a : Assoc) (s : State), s.assoc? k = some a ∧ a.phase = .opened ∧ 2 ^ 24 ≤ a.sent ∧ isServicePath a.path = true) :=
  ⟨⟨3, own, [tl 6 (nn 8 7)], as1 aw, (match acceptedIn (fun _ => true) (opSessionOpen 3 aw [tl 6 (nn 8 7)]) own [tl 6 (nn 8 7)] (as1 aw) with | some x => x.1 | none => lit), (match acceptedIn (fun _ => true) (opSessionOpen 3 aw [tl 6 (nn 8 7)]) own [tl 6 (nn 8 7)] (as1 aw) with | some x => x.2 | none => c0), aw, by decide +kernel, by decide +kernel, by decide +kernel, by decide +kernel, by decide +kernel⟩,
   ⟨own, [], lit, acS opSessionClose own ([]) (lit), acC opSessionClose own ([]) (lit), acc_some (by decide +kernel)⟩,
   ⟨.vctl 0, a3, { as1 a3 with frm := { now := 40000 } }, by decide +kernel, by decide +kernel, by decide +kernel⟩,
   ⟨.vctl 0, { a3 with sent := 2^23 }, as1 { a3 with sent := 2^23 }, by decide +kernel, by decide +kernel, by decide +kernel, by decide +kernel, by decide +kernel⟩,
   ⟨.vctl 0, { a3 with keyUpdate := true }, as1 { a3 with keyUpdate := true }, by decide +kernel, by decide +kernel⟩,
   ⟨.vctl 0, { a3 with sent := 2^24 }, as1 { a3 with sent := 2^24 }, by decide +kernel, by decide +kernel, by decide +kernel, by decide +kernel⟩⟩
theorem witness_SessionAndRegisterOpcodes :
    (∃ (src : Src) (tlvs : List Tlv) (s : State) (s1 : State) (c : Cmd), accepted opKeepalive src tlvs s = some (s1, c)) ∧
    (∃ (src : Src) (tlvs : List Tlv) (s : State) (s1 : State) (c : Cmd), accepted opDeviceInfo src tlvs s = some (s1, c)) ∧
    (∃ (src : Src) (tlvs : List Tlv) (s : State) (s1 : State) (c : Cmd), accepted opEvtSubscribe src tlvs s = some (s1, c)) ∧
    (∃ (src : Src) (tlvs : List Tlv) (s : State) (s1 : State) (c : Cmd), accepted opEvtAck src tlvs s = some (s1, c)) ∧
    (∃ (src : Src) (tlvs : List Tlv) (s : State) (s1 : State) (c : Cmd), accepted opRegRead src tlvs s = some (s1, c)) ∧
    (∃ (src : Src) (tlvs : List Tlv) (s : State) (s1 : State) (c : Cmd), accepted opRegWrite src tlvs s = some (s1, c)) ∧
    (∃ (k : AssocKey) (s : State), s.frm.beat ≠ 0) ∧
    (∃ (k : AssocKey) (a : Assoc) (q : EvQueue) (r : QRec) (s : State), s.frm.beat = 0 ∧ s.assoc? k = some a ∧ a.phase = .opened ∧ s.pathUp a.path = true ∧ tget s.ses.evq (evKey k) = some q ∧ q.recs = [r] ∧ s.overdue r = true) :=
  ⟨⟨own, [], lit, acS opKeepalive own ([]) (lit), acC opKeepalive own ([]) (lit), acc_some (by decide +kernel)⟩,
   ⟨own, [], lit, acS opDeviceInfo own ([]) (lit), acC opDeviceInfo own ([]) (lit), acc_some (by decide +kernel)⟩,
   ⟨own, [tl 16 [3, 1]], evS, acS opEvtSubscribe own ([tl 16 [3, 1]]) (evS), acC opEvtSubscribe own ([tl 16 [3, 1]]) (evS), acc_some (by decide +kernel)⟩,
   ⟨own, [tl 15 (nn 4 1)], evS, acS opEvtAck own ([tl 15 (nn 4 1)]) (evS), acC opEvtAck own ([tl 15 (nn 4 1)]) (evS), acc_some (by decide +kernel)⟩,
   ⟨own, [tl 17 (nn 4 aSvcGpioOut), tl 15 (nn 4 1)], lit, acS opRegRead own ([tl 17 (nn 4 aSvcGpioOut), tl 15 (nn 4 1)]) (lit), acC opRegRead own ([tl 17 (nn 4 aSvcGpioOut), tl 15 (nn 4 1)]) (lit), acc_some (by decide +kernel)⟩,
   ⟨own, [tl 17 (nn 4 aSvcGpioOut), tl 15 (nn 4 1), tl 9 (nn 4 5)], lit, acS opRegWrite own ([tl 17 (nn 4 aSvcGpioOut), tl 15 (nn 4 1), tl 9 (nn 4 5)]) (lit), acC opRegWrite own ([tl 17 (nn 4 aSvcGpioOut), tl 15 (nn 4 1), tl 9 (nn 4 5)]) (lit), acc_some (by decide +kernel)⟩,
   ⟨.vctl 0, { lit with frm := { lit.frm with beat := 3 } }, by decide +kernel⟩,
   ⟨.vctl 0, a3, { recs := [⟨⟨0x0F10, 1, 4000, []⟩, some 4800, true⟩] }, ⟨⟨0x0F10, 1, 4000, []⟩, some 4800, true⟩, evS, by decide +kernel, by decide +kernel, by decide +kernel, by decide +kernel, by decide +kernel, by decide +kernel, by decide +kernel⟩⟩
theorem witness_PacketsAreCheckedAndFramesTick :
    (∃ (f : Bool) (k : AssocKey) (b : Bytes) (s : State), s.assoc? k = none) ∧
    (∃ (k : AssocKey) (b : Bytes) (a : Assoc) (a' : Assoc) (st : Nat) (s : State), s.assoc? k = some a ∧ s.pathUp a.path = true ∧ a' = { a with lastRx := s.frm.now, maxPkt := max a.maxPkt (min b.length 8192) } ∧ headerFault a' k b (packetItems b).length = some st) ∧
    (∃ (k : AssocKey) (b : Bytes) (a : Assoc) (a' : Assoc) (s : State), s.assoc? k = some a ∧ s.pathUp a.path = true ∧ a' = { a with lastRx := s.frm.now, maxPkt := max a.maxPkt (min b.length 8192) } ∧ headerFault a' k b (packetItems b).length = none ∧ a'.seqCheck (u b 8 4) = .again) ∧
    (∃ (r : Nat) (i : TickIn) (s : State), s.pw.service = true ∧ s.inLight = true ∧ s.frm.tickDue = true ∧ s.frm.accepted = [] ∧ s.boot.act = none ∧ s.slt.pin = .idle ∧ s.emerg = false ∧ s.thm.next = none) ∧
    (∃ (r : Nat) (i : TickIn) (s : State), s.pw.service = true ∧ s.lds.on = false ∧ s.frm.tickDue = false ∧ s.frm.accepted = [] ∧ s.boot.act = none) ∧
    (∃ (r : Nat) (i : TickIn) (s : State), s.pw.service = false) ∧
    (∃ (x : List Nat) (y : List Nat) (n : List Nat) (s : State), s.inLight = true ∧ s.frm.beat = 64 ∧ s.slt.frozen = false) ∧
    (∃ (x : List Nat) (y : List Nat) (n : List Nat) (s : State), (s.inLight = false ∨ s.frm.beat ≠ 64 ∨ s.slt.frozen = true)) :=
  ⟨⟨true, .vctl 3, [], lit, by decide +kernel⟩,
   ⟨.vctl 0, [1, 2, 3], a3, { a3 with lastRx := 5000, maxPkt := 3 }, stBadMagic, as1 a3, by decide +kernel, by decide +kernel, by decide +kernel, by decide +kernel⟩,
   ⟨.vctl 0, pk 4 ka, a3k, { a3k with lastRx := 5000, maxPkt := 24 }, as1 a3k, by decide +kernel, by decide +kernel, by decide +kernel, by decide +kernel, by decide +kernel⟩,
   ⟨5, { watts := 70000 }, { lst with frm := { lst.frm with tickDue := true } }, by decide +kernel, by decide +kernel, by decide +kernel, by decide +kernel, by decide +kernel, by decide +kernel, by decide +kernel, by decide +kernel⟩,
   ⟨5, { watts := 70000 }, { on with frm := { on.frm with beat := 3 } }, by decide +kernel, by decide +kernel, by decide +kernel, by decide +kernel, by decide +kernel⟩,
   ⟨5, { watts := 70000 }, State.reset, by decide +kernel⟩,
   ⟨[262145], [], [], { lst with frm := { lst.frm with beat := 64 } }, by decide +kernel, by decide +kernel, by decide +kernel⟩,
   ⟨[], [], [], lst, by decide +kernel⟩⟩
theorem witness_UrgentCommandsAndTheEmergInput :
    (∃ (k : AssocKey) (b : Bytes) (a : Assoc) (a' : Assoc) (cid : Nat) (ch : Bool) (nd : Bool) (tlvs : List Tlv) (c : Cmd) (s : State) (s1 : State), s.assoc? k = some a ∧ s.pathUp a.path = true ∧ s.mayUrgent k a = true ∧ s.frm.urgQ.length < 17 ∧ a' = { a with lastRx := s.frm.now, maxPkt := max a.maxPkt (min b.length 8192), urgent := a.urgent + 1 } ∧ headerFault a' k b (packetItems b).length = none ∧ a'.seqCheck (u b 8 4) = .fresh ∧ a'.phase = .opened ∧ packetItems b = [.cmd 0x0105 cid ch nd none tlvs] ∧ s1 = (({ s with out := [] } : State).modAssoc k (fun _ => a')).modAssoc k (fun a => a.take (u b 8 4)) ∧ examine opLightEmergency k (u b 8 4) cid nd 0 s1.frm.uid (a'.take (u b 8 4)) tlvs s1 = .ok c ∧ c.nat 0x000D = 0) ∧
    (∃ (x : UrgCmd) (r : List UrgCmd) (s : State), s.frm.urgQ = x :: r ∧ x.since < s.absBeat ∧ s.frm.urgBeat.all (· < s.absBeat) = true ∧ s.inLight = true) ∧
    (∃ (a : Bool) (b : Bool) (s : State), s.pw.service = true ∧ (a && s.pw.carrier.emergA || b && s.pw.carrier.emergB) = true ∧ s.emerg = false ∧ s.inLight = true) ∧
    (∃ (a : Bool) (b : Bool) (s : State), s.pw.service = true ∧ s.emerg = true ∧ (s.pw.emergA && !a || s.pw.emergB && !b) = false) :=
  ⟨⟨.vctl 0, emP, a3, emA, 9, false, false, emT, emC, emS, emS1, by decide +kernel, by decide +kernel, by decide +kernel, by decide +kernel, by decide +kernel, by decide +kernel, by decide +kernel, by decide +kernel, by decide +kernel, by decide +kernel, by decide +kernel, by decide +kernel⟩,
   ⟨⟨emC, 399998⟩, [], { emS with frm := { emS.frm with urgQ := [⟨emC, 399998⟩] } }, by decide +kernel, by decide +kernel, by decide +kernel, by decide +kernel⟩,
   ⟨true, true, emg false, by decide +kernel, by decide +kernel, by decide +kernel, by decide +kernel⟩,
   ⟨true, true, { emg true with slt := { emS.slt with pin := .held true } }, by decide +kernel, by decide +kernel, by decide +kernel⟩⟩
theorem witness_PacketsAreCheckedAndFramesTick_4 : ∃ (k : AssocKey) (b : Bytes) (a : Assoc) (a' : Assoc) (op : Nat) (cid : Nat) (ch : Bool) (nd : Bool) (tlvs : List Tlv) (i : OpInfo) (c : Cmd) (s : State) (s1 : State) (s2 : State), (s.assoc? k = some a) ∧ (s.pathUp a.path = true) ∧ (a' = { a with lastRx := s.frm.now, maxPkt := max a.maxPkt (min b.length 8192) }) ∧ (headerFault a' k b (packetItems b).length = none) ∧ (a'.seqCheck (u b 8 4) = .fresh) ∧ (a'.phase = .opened) ∧ (packetItems b = [.cmd op cid ch nd none tlvs]) ∧ (opInfo? (u b 2 1) (a'.take (u b 8 4)) tlvs op = some i) ∧ (i.early = false) ∧ (s1 = (({ s with out := [] } : State).modAssoc k (fun _ => a')).modAssoc k (fun a => a.take (u b 8 4))) ∧ (submit i k (u b 8 4) cid nd 0 (a'.take (u b 8 4)) tlvs s1 = (s2, .ok c)) :=
  ⟨.vctl 0, pk 4 ka, a3, a3f, 3, 9, false, false, [], opKeepalive, (match submit opKeepalive (.vctl 0) 4 9 false 0 (a3f.take 4) [] (s1f (as1 a3)) with | (_, .ok c) => c | _ => c0), as1 a3, s1f (as1 a3), (submit opKeepalive (.vctl 0) 4 9 false 0 (a3f.take 4) [] (s1f (as1 a3))).1, by decide +kernel, by decide +kernel, by decide +kernel, by decide +kernel, by decide +kernel, by decide +kernel, by decide +kernel, by rfl, by decide +kernel, by decide +kernel, by decide +kernel⟩

end Session

namespace Owner

def rem (s : State) : State := { lsd (ten5 s) with slt := { s.slt with srcs := [(262145, [{ rank := 1, vctl := 5, prog := .level 5 }, { rank := 2, vctl := 0, prog := .level 5 }])], groups := [(5120, { name := [] })], overlay := [(262145, ⟨3, 5, 9⟩)] } }
def rmv (n : Nat) : State := (ten5 lst).modVctl 5 (fun c => { c with st := .removing n })
def sg (t : List Tlv) (s : State) := (acC opSegmentConfig own t s)
def stgS : State := { lst with boot := { lst.boot with images := [(1, { staging := some { total := 600, chunks := [(0, nn 500 7)], waiting := none, stage := 1 } })] } }
theorem witness_TenantsRightsAndQuotas :
    (∃ (src : Src) (tlvs : List Tlv) (s : State) (s1 : State) (c : Cmd), accepted opVctlCreate src tlvs s = some (s1, c)) ∧
    (∃ (src : Src) (tlvs : List Tlv) (s : State) (s1 : State) (c : Cmd), accepted opVctlRemove src tlvs s = some (s1, c)) ∧
    (∃ (v : Nat) (s : State), s.removalDue v = true) ∧
    (∃ (v : Nat) (s : State), s.removalDue v = false) ∧
    (∃ (src : Src) (tlvs : List Tlv) (s : State) (s1 : State) (c : Cmd), accepted opRightsSet src tlvs s = some (s1, c)) ∧
    (∃ (src : Src) (tlvs : List Tlv) (s : State) (s1 : State) (c : Cmd), accepted opQuotaSet src tlvs s = some (s1, c)) ∧
    (∃ (src : Src) (tlvs : List Tlv) (s : State) (s1 : State) (c : Cmd), accepted opCredSet src tlvs s = some (s1, c)) ∧
    (∃ (src : Src) (tlvs : List Tlv) (s : State) (s1 : State) (c : Cmd), accepted opRegwinGrant src tlvs s = some (s1, c)) :=
  ⟨⟨own, [tl 0x120 (nn 2 9)], lst, acS opVctlCreate own ([tl 0x120 (nn 2 9)]) (lst), acC opVctlCreate own ([tl 0x120 (nn 2 9)]) (lst), acc_some (by decide +kernel)⟩,
   ⟨own, [tl 0x120 (nn 2 5)], rem lst, acS opVctlRemove own ([tl 0x120 (nn 2 5)]) (rem lst), acC opVctlRemove own ([tl 0x120 (nn 2 5)]) (rem lst), acc_some (by decide +kernel)⟩,
   ⟨5, rmv 4990, by decide +kernel⟩,
   ⟨5, rmv 5000, by decide +kernel⟩,
   ⟨own, [tl 0x120 (nn 2 5), tl 0x121 (nn 4 262145 ++ nn 4 262147), tl 0x122 [2], tl 0x124 [0]], lsd (ten5 lst), acS opRightsSet own ([tl 0x120 (nn 2 5), tl 0x121 (nn 4 262145 ++ nn 4 262147), tl 0x122 [2], tl 0x124 [0]]) (lsd (ten5 lst)), acC opRightsSet own ([tl 0x120 (nn 2 5), tl 0x121 (nn 4 262145 ++ nn 4 262147), tl 0x122 [2], tl 0x124 [0]]) (lsd (ten5 lst)), acc_some (by decide +kernel)⟩,
   ⟨own, [tl 0x120 (nn 2 5), tl 0x113 (nn 2 9)], lsd (ten5 lst), acS opQuotaSet own ([tl 0x120 (nn 2 5), tl 0x113 (nn 2 9)]) (lsd (ten5 lst)), acC opQuotaSet own ([tl 0x120 (nn 2 5), tl 0x113 (nn 2 9)]) (lsd (ten5 lst)), acc_some (by decide +kernel)⟩,
   ⟨own, [tl 0x120 (nn 2 0), tl 0x268 (nn 65 9)], lst, acS opCredSet own ([tl 0x120 (nn 2 0), tl 0x268 (nn 65 9)]) (lst), acC opCredSet own ([tl 0x120 (nn 2 0), tl 0x268 (nn 65 9)]) (lst), acc_some (by decide +kernel)⟩,
   ⟨own, [tl 0x120 (nn 2 5), tl 17 (nn 4 0x1000), tl 15 (nn 4 64)], ten5 lst, acS opRegwinGrant own ([tl 0x120 (nn 2 5), tl 17 (nn 4 0x1000), tl 15 (nn 4 64)]) (ten5 lst), acC opRegwinGrant own ([tl 0x120 (nn 2 5), tl 17 (nn 4 0x1000), tl 15 (nn 4 64)]) (ten5 lst), acc_some (by decide +kernel)⟩⟩
theorem witness_SegmentConfigAppliesAllOrNothing :
    (∃ (src : Src) (tlvs : List Tlv) (s : State) (s1 : State) (c : Cmd) (e : Err), accepted opSegmentConfig src tlvs s = some (s1, c) ∧ segAll (c.all 0x0182) c.tlvs [] s1 = .error e) ∧
    (∃ (src : Src) (tlvs : List Tlv) (s : State) (s1 : State) (c : Cmd) (b : Bytes), accepted opSegmentConfig src tlvs s = some (s1, c) ∧ c.tlvs = [(0x0181, b)] ∧ -720 ≤ beInt b ∧ beInt b ≤ 840) ∧
    (∃ (src : Src) (tlvs : List Tlv) (s : State) (s1 : State) (c : Cmd) (b : Bytes), accepted opSegmentConfig src tlvs s = some (s1, c) ∧ c.tlvs = [(0x0186, b)] ∧ u b 0 2 ≤ 64000 ∧ 1 ≤ (handleList b).length ∧ (handleList b).length ≤ 256 ∧ (∀ h ∈ handleList b, s.isLamp h = true)) ∧
    (∃ (src : Src) (tlvs : List Tlv) (s : State) (s1 : State) (u1 : State) (c : Cmd), accepted opSegmentConfig src tlvs s = some (s1, c) ∧ segAll (c.all 0x0182) c.tlvs [] s1 = .ok u1 ∧ c.has 0x0184 = false) :=
  ⟨⟨own, [tl 0x181 (nn 2 5), tl 0x180 (nn 8 (2^62))], lst, acS opSegmentConfig own [tl 0x181 (nn 2 5), tl 0x180 (nn 8 (2^62))] lst, acC opSegmentConfig own [tl 0x181 (nn 2 5), tl 0x180 (nn 8 (2^62))] lst, eRange 0x180, acc_some (by decide +kernel), by decide +kernel⟩,
   ⟨own, [tl 0x181 (nn 2 65530)], lst, acS opSegmentConfig own [tl 0x181 (nn 2 65530)] lst, sg [tl 0x181 (nn 2 65530)] lst, nn 2 65530, acc_some (by decide +kernel), by decide +kernel, by decide +kernel, by decide +kernel⟩,
   ⟨own, [tl 0x186 (nn 2 500 ++ nn 2 0 ++ nn 4 262145)], lst, acS opSegmentConfig own [tl 0x186 (nn 2 500 ++ nn 2 0 ++ nn 4 262145)] lst, sg [tl 0x186 (nn 2 500 ++ nn 2 0 ++ nn 4 262145)] lst, nn 2 500 ++ nn 2 0 ++ nn 4 262145, acc_some (by decide +kernel), by decide +kernel, by decide +kernel, by decide +kernel, by decide +kernel, by decide +kernel⟩,
   ⟨own, [tl 0x181 (nn 2 5), tl 0x184 [3, 2]].take 1, lst, acS opSegmentConfig own [tl 0x181 (nn 2 5)] lst, (match segAll [] [(0x181, nn 2 5)] [] (acS opSegmentConfig own [tl 0x181 (nn 2 5)] lst) with | .ok x => x | .error _ => lst), sg [tl 0x181 (nn 2 5)] lst, acc_some (by decide +kernel), by decide +kernel, by decide +kernel⟩⟩
theorem witness_ServicePortOpcodes :
    (∃ (src : Src) (tlvs : List Tlv) (s : State) (s1 : State) (c : Cmd), accepted opImageStage src tlvs s = some (s1, c)) ∧
    (∃ (src : Src) (tlvs : List Tlv) (s : State) (s1 : State) (c : Cmd), accepted opDiagRead src tlvs s = some (s1, c)) ∧
    (∃ (src : Src) (tlvs : List Tlv) (s : State) (s1 : State) (c : Cmd), accepted opJournalExport src tlvs s = some (s1, c)) :=
  ⟨⟨own, [tl 0x262 [1], tl 0x263 (nn 4 0), tl 0x264 (nn 4 600), tl 0x265 (nn 600 9)], lst, acS opImageStage own ([tl 0x262 [1], tl 0x263 (nn 4 0), tl 0x264 (nn 4 600), tl 0x265 (nn 600 9)]) (lst), acC opImageStage own ([tl 0x262 [1], tl 0x263 (nn 4 0), tl 0x264 (nn 4 600), tl 0x265 (nn 600 9)]) (lst), acc_some (by decide +kernel)⟩,
   ⟨own, [tl 13 [1]], lst, acS opDiagRead own ([tl 13 [1]]) (lst), acC opDiagRead own ([tl 13 [1]]) (lst), acc_some (by decide +kernel)⟩,
   ⟨own, [], lst, acS opJournalExport own ([]) (lst), acC opJournalExport own ([]) (lst), acc_some (by decide +kernel)⟩⟩
/-- An image of digest bytes `k` that lists the others. -/
def aimg (k : Nat) : Image :=
  ⟨1, 0, false, List.replicate 48 (byte k), [⟨2, 0, 0xB0, 0, 0⟩, ⟨1, 0, 0, 9, 0⟩, ⟨1, 1, 0, 9, 0⟩, ⟨1, 2, 0, 9, 0⟩, ⟨1, 3, 0, 9, 0⟩], [], [], true, true⟩
/-- Four images run; one of class 2 is staged. -/
def actS : State := { lit with boot := { lit.boot with images := [(0, { act := some (aimg 0) }), (1, { act := some (aimg 1) }), (2, { act := some (aimg 2), stg := some (aimg 9) }), (3, { act := some (aimg 3) })], run := [(0, aimg 0), (1, aimg 1), (2, aimg 2), (3, aimg 3)] } }
/-- The set the update manifest names. -/
def actL : List Image := [aimg 0, aimg 1, aimg 9, aimg 3]
/-- The update manifest: the measurements are what the module computes of that set. -/
def actM : Bytes := nn 2 0x554D ++ [1, 0] ++ ([0, 0, 0, 0] ++ List.replicate 48 (byte 0)) ++ ([1, 0, 0, 0] ++ List.replicate 48 (byte 1)) ++
  ([2, 1, 0, 0] ++ List.replicate 48 (byte 9)) ++ ([3, 0, 0, 0] ++ List.replicate 48 (byte 3)) ++ nn 48 (Config.measure (measK actL)) ++ nn 48 (Config.measure (measA actL))
def actC : Cmd := acC (bare opImageActivate) own [tl 0x266 actM, tl 0x267 [0]] actS
set_option maxRecDepth 100000 in
theorem actM_check (s : State) (hs : s = atExam own actS ∨ s = acS (bare opImageActivate) own [tl 0x266 actM, tl 0x267 [0]] actS) :
    s.checkActivation actM 0 = .ok actL := by
  have h1 : (s.boot.act.isSome || s.boot.owed.isSome) = false := by obtain rfl | rfl := hs <;> decide +kernel
  have h3 : imgSet (s.named actM) = some actL := by obtain rfl | rfl := hs <;> decide +kernel
  have h4 : s.flt.migr.isSome = false := by obtain rfl | rfl := hs <;> decide +kernel
  have h5 : ((List.range 4).all (fun c => (actL[c]?).any (fun i => i.digest == (manifestRow actM c).2)) && s.approved actL &&
      (0 == 1 || s.boot.noSet || (stages s.runSet actL (s.changed actL)).all s.approved)) = true := by obtain rfl | rfl := hs <;> decide +kernel
  have h6 : beBytes 48 (Config.measure (measK actL)) = (actM.drop 212).take 48 := by rfl
  have h7 : beBytes 48 (Config.measure (measA actL)) = (actM.drop 260).take 48 := by rfl
  have h8 : s.inLight = true := by obtain rfl | rfl := hs <;> decide +kernel
  unfold State.checkActivation
  dsimp only
  rw [if_neg (by rw [h1]; decide), if_neg (by obtain rfl | rfl := hs <;> decide +kernel), h3]
  dsimp only
  rw [if_neg (by simp [h4]), ← h6, ← h7, h5, if_neg (by simp), if_neg (by rw [h8]; simp)]
set_option maxRecDepth 100000 in
theorem witness_ServicePortOpcodes_2 : ∃ (src : Src) (tlvs : List Tlv) (s s1 : State) (c : Cmd) (l : List Image),
    accepted opImageActivate src tlvs s = some (s1, c) ∧ s1.checkActivation ((c.tlv? 0x0266).getD []) (c.nat 0x0267) = .ok l := by
  have hm : (actC.tlv? 0x0266).getD [] = actM := by rfl
  have h0 : actC.nat 0x0267 = 0 := by rfl
  refine ⟨own, [tl 0x266 actM, tl 0x267 [0]], actS, _, actC, actL, accepted_bare (acc_some ?_) ?_ ?_, ?_⟩
  · decide +kernel
  · show need (manifestForm ((actC.tlv? 0x0266).getD [])) (eRange 0x0266) = _
    rw [hm]; decide +kernel
  · show (match (atExam own actS).checkActivation ((actC.tlv? 0x0266).getD []) (actC.nat 0x0267) with
      | .error e => Except.error (eStat e)
      | .ok _ => .ok ()) = Except.ok ()
    rw [hm, h0, actM_check _ (.inl rfl)]
  · rw [hm, h0, actM_check _ (.inr rfl)]

end Owner

namespace Strings

def hd (a c : Nat) : MslHdr := { aid := a, ctr := c, ok := true }
def rp (e : Nat) : PoleReport := { eui := e, maker := 1, model := 1, fw := 1, majors := 24, slots := 3, caps := 15, profiles := [0, 1, 1], supply := [0, 0, 0], fallback := 0, down := 1 }
def stS (gs : Tbl Grain) : State := { lit with flt := { lit.flt with rngOk := true },  pw := { lit.pw with carrier := { lit.pw.carrier with strings := 0xFFFF } }, strs := { lit.strs with grains := gs, anchors := [nn 48 7] } }
def pl (f : Pole → Pole) : Pole := f { rep := rp 9, pair := .paired, assoc := some { aidTx := 11, aidRx := 12, ctrTx := 5, high := 6 } }
def cs (hp : Bool) : Census := { number := 4, higherPass := hp, last := 4999, lower := [], higher := [], closed := false, far := false }
def lpS : State := stS [(1, { role := .lower 3, rate := 1, census := some (cs false) }), (3, { role := .higher 1, rate := 2 })]
def ps (q : Pole) : State := stS [(3, { rate := 1, record := [(1, q)] })]
def pw (x : PairSt) : Pole := { rep := rp 9, pair := x }
def pini (g : Bool) (n : Nat) : PoleInit := { keys := { aidTx := 21, aidRx := 22, ctrTx := 1 }, since := 4900, tries := n, gaveUp := g }
def pk2 (c : Nat) : Pole := pl (fun q => { q with assoc := some { aidTx := 11, aidRx := 12, ctrTx := c, high := 6 } })
def hld : Pole := pl (fun q => { q with held := [⟨2, 1, .mslFrame, [], []⟩], stall := [(2, 4980)], queried := [(2, 4990)] })
theorem witness_CensusesRunOnTheirStrings :
    (∃ (p : Nat) (r : Nat) (s : State), s.pw.main = true ∧ s.portFitted p = true ∧ (s.grain p).rate = 0 ∧ s.mayLock p r = true ∧ s.thm.idled.contains p = false ∧ s.stratumOut (stratumOf p) = false ∧ (s.grain (s.stringOf p)).census = none ∧ (∀ e ∈ (s.grain (s.stringOf p)).record, e.2.told = 0)) ∧
    (∃ (p : Nat) (r : Nat) (s : State), s.pw.main = true ∧ s.portFitted p = true ∧ (s.grain p).rate ≠ 0) ∧
    (∃ (p : Nat) (s : State), s.pw.main = true ∧ s.portFitted p = true ∧ (s.grain p).rate = 0 ∧ (s.grain p).rateCfg = 0 ∧ s.thm.idled.contains p = false ∧ max (s.grain p).trySince s.strs.since + 400 ≤ s.absBeat) ∧
    (∃ (p : Nat) (g : Nat) (n : Nat) (s : State), g = s.stringOf p ∧ n = ((s.grain g).number + 1) % 65536 ∧ s.frm.beat = 0 ∧ s.stringLink g = true ∧ (s.grain g).trigger.any (fun f => f < s.frm.now) = true ∧ (s.grain g).census = none ∧ (s.grain g).waitUntil = none) ∧
    (∃ (p : Nat) (g : Nat) (n : Nat) (s : State), g = s.stringOf p ∧ n = ((s.grain g).number + 1) % 65536 ∧ s.frm.beat = 0 ∧ s.stringLink g = true ∧ (s.grain g).waitUntil.any (fun f => f ≤ s.frm.now) = true) ∧
    (∃ (p : Nat) (hop : Nat) (rep : PoleReport) (c : Census) (s : State), (s.grain (s.stringOf p)).census = some c ∧ c.higherPass = (p != s.stringOf p) ∧ hop ≤ 64) ∧
    (∃ (p : Nat) (hop : Nat) (rep : PoleReport) (c : Census) (s : State), (s.grain p).census = some c ∧ (s.grain p).role = .single ∧ (s.grain p).try_ = .settled ∧ c.higherPass = false ∧ hop ≤ 64) ∧
    (∃ (p : Nat) (c : Census) (s : State), (s.grain (s.stringOf p)).census = some c ∧ (s.grain (s.stringOf p)).role = .single ∧ (s.grain (s.stringOf p)).try_ = .settled ∧ c.last + 1 ≤ s.frm.now) ∧
    (∃ (p : Nat) (h : Nat) (c : Census) (s : State), (s.grain (s.stringOf p)).census = some c ∧ (s.grain (s.stringOf p)).role = .lower h ∧ c.higherPass = false ∧ (s.grain h).rate ≠ 0 ∧ p ≠ s.stringOf p) ∧
    (∃ (p : Nat) (h : Nat) (c : Census) (s : State), (s.grain (s.stringOf p)).census = some c ∧ (s.grain (s.stringOf p)).role = .lower h ∧ c.higherPass = false ∧ (s.grain h).rate ≠ 0 ∧ c.last + 1 ≤ s.frm.now) ∧
    (∃ (p : Nat) (s : State), (s.grain (s.stringOf p)).census = none) ∧
    (∃ (p : Nat) (c : Census) (s : State), (s.grain (s.stringOf p)).census = some c) :=
  ⟨⟨3, 1, stS [], by decide +kernel, by decide +kernel, by decide +kernel, by decide +kernel, by decide +kernel, by decide +kernel, by decide +kernel, by decide +kernel⟩,
   ⟨3, 2, stS [(3, { rate := 1, record := [(1, pl id)] })], by decide +kernel, by decide +kernel, by decide +kernel⟩,
   ⟨3, stS [(3, { try_ := .trying 2 })], by decide +kernel, by decide +kernel, by decide +kernel, by decide +kernel, by decide +kernel, by decide +kernel⟩,
   ⟨3, 3, 1, stS [(3, { rate := 1, trigger := some 4999 })], by decide +kernel, by decide +kernel, by decide +kernel, by decide +kernel, by decide +kernel, by decide +kernel, by decide +kernel⟩,
   ⟨3, 1, 1, stS [(1, { role := .lower 3, waitUntil := some 5000, trigger := some 4000 }), (3, { role := .higher 1, rate := 2 })], by decide +kernel, by decide +kernel, by decide +kernel, by decide +kernel, by decide +kernel⟩,
   ⟨3, 2, rp 5, cs false, stS [(3, { rate := 1, census := some (cs false) })], by decide +kernel, by decide +kernel, by decide +kernel⟩,
   ⟨3, 1, rp 5, cs false, stS [(3, { rate := 1, try_ := .settled, census := some (cs false) })], by decide +kernel, by decide +kernel, by decide +kernel, by decide +kernel, by decide +kernel⟩,
   ⟨3, cs false, stS [(3, { rate := 1, try_ := .settled, census := some (cs false), record := [(1, pl id), (2, pl id)] })], by decide +kernel, by decide +kernel, by decide +kernel, by decide +kernel⟩,
   ⟨3, 3, cs false, lpS, by decide +kernel, by decide +kernel, by decide +kernel, by decide +kernel, by decide +kernel⟩,
   ⟨1, 3, cs false, lpS, by decide +kernel, by decide +kernel, by decide +kernel, by decide +kernel, by decide +kernel⟩,
   ⟨3, stS [], by decide +kernel⟩,
   ⟨3, cs false, lpS, by decide +kernel⟩⟩
theorem witness_PoleNodesPairAndAssociate :
    (∃ (g : Nat) (p : Nat) (n : Nat) (k : Nat) (eui : Nat) (r : PairResp) (q : Pole) (s : State), s.pole? g p = some q ∧ q.pair = .waiting n k ∧ s.strs.anchors.contains r.anchor = true ∧ eui = q.rep.eui) ∧
    (∃ (g : Nat) (p : Nat) (n : Nat) (k : Nat) (eui : Nat) (a : PairResp) (o : Bool) (q : Pole) (s : State), s.pole? g p = some q ∧ q.pair = .waiting n k ∧ (s.strs.anchors.contains a.anchor = false ∨ eui ≠ q.rep.eui ∨ o = false)) ∧
    (∃ (g : Nat) (p : Nat) (n : Nat) (k : Nat) (q : Pole) (s : State), s.pole? g p = some q ∧ q.pair = .waiting n k ∧ n + 2 ≤ s.frm.now ∧ 3 ≤ k) ∧
    (∃ (g : Nat) (p : Nat) (n : Nat) (k : Nat) (q : Pole) (s : State), s.pole? g p = some q ∧ s.flt.rngOk = true ∧ q.pair = .waiting n k ∧ n + 2 ≤ s.frm.now ∧ k < 3) ∧
    (∃ (g : Nat) (p : Nat) (n : Nat) (q : Pole) (s : State), s.pole? g p = some q ∧ s.flt.rngOk = true ∧ q.pair = .failed n ∧ n + 6000 ≤ s.frm.now) ∧
    (∃ (g : Nat) (p : Nat) (h : MslHdr) (i : PoleInit) (q : Pole) (s : State), s.pole? g p = some q ∧ q.init = some i ∧ h.ok = true ∧ h.flags % 4 = 1 ∧ h.aid = i.keys.aidRx ∧ h.ctr = 1) ∧
    (∃ (g : Nat) (p : Nat) (h : MslHdr) (s : State), ((∀ q, s.pole? g p = some q → ∀ i, q.init = some i → h.ok = false ∨ h.flags % 4 ≠ 1 ∨ h.aid ≠ i.keys.aidRx ∨ h.ctr ≠ 1))) ∧
    (∃ (g : Nat) (p : Nat) (i : PoleInit) (q : Pole) (s : State), s.pole? g p = some q ∧ q.init = some i ∧ s.flt.rngOk = true ∧ ((i.gaveUp = false ∧ i.since + 2 ≤ s.frm.now ∧ i.tries < 3) ∨ (i.gaveUp = true ∧ i.since + 100 ≤ s.frm.now ∧ s.starting g < 4))) ∧
    (∃ (g : Nat) (p : Nat) (i : PoleInit) (q : Pole) (s : State), s.pole? g p = some q ∧ q.init = some i ∧ i.gaveUp = false ∧ i.since + 2 ≤ s.frm.now ∧ 3 ≤ i.tries) ∧
    (∃ (g : Nat) (p : Nat) (h : MslHdr) (s : State), (mslAccept g p h { s with out := [] }).2 = true) ∧
    (∃ (g : Nat) (p : Nat) (q : Pole) (k : PoleKeys) (s : State), s.pole? g p = some q ∧ q.assoc = some k ∧ (2 ^ 62 ≤ k.ctrTx ∨ 2 ^ 62 ≤ k.high) ∧ q.init = none ∧ s.flt.rngOk = true ∧ s.starting g < 4) ∧
    (∃ (g : Nat) (p : Nat) (e : Nat) (q : Pole) (k : PoleKeys) (s : State), s.pole? g p = some q ∧ q.old = some (k, e) ∧ e ≤ s.frm.now) ∧
    (∃ (g : Nat) (p : Nat) (q : Pole) (k : PoleKeys) (s : State), s.pole? g p = some q ∧ q.assoc = some k ∧ (2 ^ 64 - 1 ≤ k.ctrTx ∨ 2 ^ 64 - 1 ≤ k.high)) :=
  ⟨⟨3, 1, 4998, 1, 9, { key := nn 64 1, nonce := nn 12 2, anchor := nn 48 7 }, pw (.waiting 4998 1), ps (pw (.waiting 4998 1)), by decide +kernel, by decide +kernel, by decide +kernel, by decide +kernel⟩,
   ⟨3, 1, 4998, 1, 9, { key := nn 64 1, nonce := nn 12 2, anchor := nn 48 7 }, false, pw (.waiting 4998 1), ps (pw (.waiting 4998 1)), by decide +kernel, by decide +kernel, by decide +kernel⟩,
   ⟨3, 1, 4998, 3, pw (.waiting 4998 3), ps (pw (.waiting 4998 3)), by decide +kernel, by decide +kernel, by decide +kernel, by decide +kernel⟩,
   ⟨3, 1, 4998, 1, pw (.waiting 4998 1), ps (pw (.waiting 4998 1)), by decide +kernel, by decide +kernel, by decide +kernel, by decide +kernel, by decide +kernel⟩,
   ⟨3, 1, 4998, pw (.failed 4998), { ps (pw (.failed 4998)) with frm := { now := 12000 } }, by decide +kernel, by decide +kernel, by decide +kernel, by decide +kernel⟩,
   ⟨3, 1, (hd 22 1), pini false 1, pl (fun q => { q with init := some (pini false 1) }), ps (pl (fun q => { q with init := some (pini false 1) })), by decide +kernel, by decide +kernel, by decide +kernel, by decide +kernel, by decide +kernel, by decide +kernel⟩,
   ⟨3, 1, (hd 23 1), ps (pl id), by decide +kernel⟩,
   ⟨3, 1, pini false 1, pl (fun q => { q with init := some (pini false 1) }), ps (pl (fun q => { q with init := some (pini false 1) })), by decide +kernel, by decide +kernel, by decide +kernel, by decide +kernel⟩,
   ⟨3, 1, pini false 3, pl (fun q => { q with init := some (pini false 3) }), ps (pl (fun q => { q with init := some (pini false 3) })), by decide +kernel, by decide +kernel, by decide +kernel, by decide +kernel, by decide +kernel⟩,
   ⟨3, 1, (hd 12 9), ps (pl id), by decide +kernel⟩,
   ⟨3, 1, pk2 (2^62), { aidTx := 11, aidRx := 12, ctrTx := 2^62, high := 6 }, ps (pk2 (2^62)), by decide +kernel, by decide +kernel, by decide +kernel, by decide +kernel, by decide +kernel, by decide +kernel⟩,
   ⟨3, 1, 4999, pl (fun q => { q with old := some ({ aidTx := 1, aidRx := 2, ctrTx := 3, high := 4 }, 4999) }), { aidTx := 1, aidRx := 2, ctrTx := 3, high := 4 }, ps (pl (fun q => { q with old := some ({ aidTx := 1, aidRx := 2, ctrTx := 3, high := 4 }, 4999) })), by decide +kernel, by decide +kernel, by decide +kernel⟩,
   ⟨3, 1, pk2 (2^64-1), { aidTx := 11, aidRx := 12, ctrTx := 2^64-1, high := 6 }, ps (pk2 (2^64-1)), by decide +kernel, by decide +kernel, by decide +kernel⟩⟩
theorem witness_StringMessagesAreServed :
    (∃ (x : Instr) (g : Nat) (p : Nat) (h : MslHdr) (cs : List Nat) (s : State), (x = .delayReq g p h ∨ x = .resyncReq g p h ∨ x = .credit g p h cs ∨ x = .assocClose g p h) ∧ (mslAccept g p h { s with out := [] }).2 = false) ∧
    (∃ (g : Nat) (p : Nat) (h : MslHdr) (q : Pole) (k : PoleKeys) (s : State), s.pole? g p = some q ∧ q.assoc = some k ∧ k.aidRx = h.aid ∧ h.ok = true ∧ h.flags % 4 = 1 ∧ (h.round = false ∨ (s.grain g).folded = true) ∧ k.high < h.ctr ∧ q.held = [] ∧ 1 ≤ q.credits.getD 1 0 ∧ k.ctrTx + 1 < 2 ^ 64) ∧
    (∃ (g : Nat) (p : Nat) (h : MslHdr) (s : State), (mslAccept g p h { s with out := [] }).2 = true) ∧
    (∃ (g : Nat) (p : Nat) (h : MslHdr) (cs : List Nat) (q : Pole) (s : State), s.pole? g p = some q ∧ q.held = [] ∧ (s.grain g).syncHeld = [] ∧ (s.gbr g).credit = [] ∧ (mslAccept g p h { s with out := [] }).2 = true) ∧
    (∃ (g : Nat) (p : Nat) (cls : Nat) (f : Nat) (q : Pole) (k : PoleKeys) (s : State), s.pole? g p = some q ∧ q.assoc = some k ∧ tget q.stall cls = some f ∧ f + 10 ≤ s.frm.now ∧ (tget q.queried cls).all (fun f => decide (f + 10 ≤ s.frm.now)) = true) ∧
    (∃ (g : Nat) (s : State), s.pw.main = true ∧ s.flt.rngOk = true) ∧
    (∃ (g : Nat) (s : State), s.inLight = true ∧ s.stringLink g = true ∧ s.frm.beat = 32 ∧ (s.grain g).syncAt ≠ some s.frm.now ∧ (s.grain g).gCtr < 2 ^ 62 ∧ (s.grain g).role ≠ .lower g) ∧
    (∃ (p : Nat) (ty : Nat) (s : State), mslTypes.contains ty = false) ∧
    (∃ (p : Nat) (ty : Nat) (s : State), mslTypes.contains ty = true) :=
  ⟨⟨.delayReq 3 1 (hd 13 9), 3, 1, (hd 13 9), [], ps (pl id), by decide +kernel, by decide +kernel⟩,
   ⟨3, 1, (hd 12 9), pl id, { aidTx := 11, aidRx := 12, ctrTx := 5, high := 6 }, ps (pl id), by decide +kernel, by decide +kernel, by decide +kernel, by decide +kernel, by decide +kernel, by decide +kernel, by decide +kernel, by decide +kernel, by decide +kernel, by decide +kernel⟩,
   ⟨3, 1, (hd 12 9), ps (pl id), by decide +kernel⟩,
   ⟨3, 1, (hd 12 9), [3, 70, 0, 65536], pl id, ps (pl id), by decide +kernel, by decide +kernel, by decide +kernel, by decide +kernel, by decide +kernel⟩,
   ⟨3, 1, 2, 4980, hld, { aidTx := 11, aidRx := 12, ctrTx := 5, high := 6 }, ps hld, by decide +kernel, by decide +kernel, by decide +kernel, by decide +kernel, by decide +kernel⟩,
   ⟨3, ps (pl id), by decide +kernel, by decide +kernel⟩,
   ⟨3, { ps (pl id) with frm := { lit.frm with beat := 32 } }, by decide +kernel, by decide +kernel, by decide +kernel, by decide +kernel, by decide +kernel, by decide +kernel⟩,
   ⟨3, 0x60, ps (pl id), by decide +kernel⟩,
   ⟨3, 0x10, ps (pl id), by decide +kernel⟩⟩

end Strings

namespace Bridge

def hd (a c : Nat) : MslHdr := { aid := a, ctr := c, ok := true }
def rp (e : Nat) : PoleReport := { eui := e, maker := 1, model := 1, fw := 1, majors := 24, slots := 3, caps := 15, profiles := [0, 1, 1], supply := [0, 0, 0], fallback := 0, down := 1 }
def qp : Pole := { rep := rp 9, pair := .paired, adopted := true, reached := true, assoc := some { aidTx := 11, aidRx := 12, ctrTx := 5, high := 6 } }
def brS (b : GrainBr → GrainBr) : State := { lit with strs := { lit.strs with grains := [(3, { rate := 1, record := [(1, qp)] })] }, brg := { grains := [(3, b { free := List.range 256 })] } }
def ba : State := brS id
def H : Nat := mkHandle 3 1 1
def rdT : List Tlv := [epl [H], tl 0x160 (nn 2 512), tl 15 (nn 4 2)]
def wrT : List Tlv := [epl [H], tl 0x160 (nn 2 512), tl 15 (nn 4 2), tl 9 (nn 8 77)]
def wnT : List Tlv := wrT ++ [tl 0x161 [1]]
def bS : State := brS (fun b => { b with sems := [⟨H, 512, 5, 6000, []⟩] })
def bB : State := brS (fun b => { b with broken := [⟨0, H, 512, 4990⟩, ⟨0, H, 0, 4990⟩] })
def atT : List Tlv := [epl [H], tl 0x164 (nn 2 1 ++ nn 2 5)]
def saT : List Tlv := [epl [H], tl 0x160 (nn 2 512), tl 0x163 [20]]
def bO : State := brS (fun b => { b with sems := [⟨H, 512, 0, 5100, []⟩] })
def swT : List Tlv := saT ++ [tl 0x162 [20]]
def srT : List Tlv := [epl [H], tl 0x160 (nn 2 512)]
def wtr : Waiter := ⟨0, 9, 3, 2, H, 512, 20, 5000⟩
def bW : State := brS (fun b => { b with sems := [⟨H, 512, 0, 5100, [{ wtr with vctl := 5 }]⟩] })
def bop (k : BrKind) (t : Option Nat) : BrOp := { vctl := 0, key := 9, seq := 3, cmdid := 2, kind := k, handle := H, reg := 512, count := 2, data := if k = .read then [] else nn 8 7, tag := t, names := [] }
def tgS (x : TagSt) (k : BrKind) (qd : Bool) : State := brS (fun b => { b with free := (List.range 256).tail, tags := [(0, { op := bop k (some 0), st := x })], queue := if qd then [bop k (some 0)] else [] })
def isS (c : Nat) : State := (let s := tgS .queued .read true; { s with strs := { s.strs with grains := [(3, { rate := 1, record := [(1, { qp with credits := [9,9,c,9] })] })] } })
theorem witness_BridgeOpcodesEnterTheQueue :
    (∃ (src : Src) (tlvs : List Tlv) (s : State) (s1 : State) (c : Cmd) (k : Nat) (r : List Nat), accepted opBridgeRead src tlvs s = some (s1, c) ∧ (s.gbr (hString c.ep)).broken = [] ∧ (s.gbr (hString c.ep)).free = k :: r) ∧
    (∃ (src : Src) (tlvs : List Tlv) (s : State) (s1 : State) (c : Cmd), accepted opBridgeWrite src tlvs s = some (s1, c) ∧ c.nat 0x0161 = 0 ∧ (s.gbr (hString c.ep)).broken = [] ∧ s.heldByOther c.vctl c.ep c.regAddr (c.nat 0x000F) = false) ∧
    (∃ (src : Src) (tlvs : List Tlv) (s : State) (s1 : State) (c : Cmd) (k : Nat) (r : List Nat), accepted opBridgeWrite src tlvs s = some (s1, c) ∧ c.nat 0x0161 = 1 ∧ (s.gbr (hString c.ep)).broken = [] ∧ s.heldByOther c.vctl c.ep c.regAddr (c.nat 0x000F) = false ∧ (s.gbr (hString c.ep)).free = k :: r) ∧
    (∃ (src : Src) (tlvs : List Tlv) (s : State) (s1 : State) (c : Cmd), accepted opBridgeWrite src tlvs s = some (s1, c) ∧ (s.gbr (hString c.ep)).broken = [] ∧ s.heldByOther c.vctl c.ep c.regAddr (c.nat 0x000F) = true) ∧
    (∃ (src : Src) (tlvs : List Tlv) (s : State) (s1 : State) (c : Cmd), accepted opAttrRead src tlvs s = some (s1, c) ∧ c.has 0x0165 = false ∧ (∀ n ∈ c.list 0x0164 2, n < 0x100)) :=
  ⟨⟨own, rdT, ba, acS opBridgeRead own rdT ba, acC opBridgeRead own rdT ba, 0, (List.range 256).tail, acc_some (by decide +kernel), by decide +kernel, by decide +kernel⟩,
   ⟨own, wrT, ba, acS opBridgeWrite own (wrT) (ba), acC opBridgeWrite own (wrT) (ba), acc_some (by decide +kernel), by decide +kernel, by decide +kernel, by decide +kernel⟩,
   ⟨own, wnT, ba, acS opBridgeWrite own wnT ba, acC opBridgeWrite own wnT ba, 0, (List.range 256).tail, acc_some (by decide +kernel), by decide +kernel, by decide +kernel, by decide +kernel, by decide +kernel⟩,
   ⟨own, wrT, bS, acS opBridgeWrite own (wrT) (bS), acC opBridgeWrite own (wrT) (bS), acc_some (by decide +kernel), by decide +kernel, by decide +kernel⟩,
   ⟨own, atT, ba, acS opAttrRead own (atT) (ba), acC opAttrRead own (atT) (ba), acc_some (by decide +kernel), by decide +kernel, by decide +kernel⟩⟩
theorem witness_SemaphoresAreTakenAndPassed :
    (∃ (src : Src) (tlvs : List Tlv) (s : State) (s1 : State) (c : Cmd), accepted opSemAcquire src tlvs s = some (s1, c) ∧ (s.gbr (hString c.ep)).sem? c.ep c.regAddr = none ∧ (c.vctl = 0 ∨ (s.gbr (hString c.ep)).holds c.vctl < 8) ∧ (s.gbr (hString c.ep)).sems.length < 64) ∧
    (∃ (src : Src) (tlvs : List Tlv) (s : State) (s1 : State) (c : Cmd) (e : Sem), accepted opSemAcquire src tlvs s = some (s1, c) ∧ (s.gbr (hString c.ep)).sem? c.ep c.regAddr = some e ∧ e.holder = c.vctl) ∧
    (∃ (src : Src) (tlvs : List Tlv) (s : State) (s1 : State) (c : Cmd) (e : Sem), accepted opSemAcquire src tlvs s = some (s1, c) ∧ (s.gbr (hString c.ep)).sem? c.ep c.regAddr = some e ∧ e.holder ≠ c.vctl ∧ (c.nat 0x0162 = 0 ∨ 16 ≤ e.waiters.length)) ∧
    (∃ (src : Src) (tlvs : List Tlv) (s : State) (s1 : State) (c : Cmd) (e : Sem), accepted opSemAcquire src tlvs s = some (s1, c) ∧ (s.gbr (hString c.ep)).sem? c.ep c.regAddr = some e ∧ e.holder ≠ c.vctl ∧ c.nat 0x0162 ≠ 0 ∧ e.waiters.length < 16 ∧ (c.vctl = 0 ∨ (s.gbr (hString c.ep)).waits c.vctl < 8)) ∧
    (∃ (src : Src) (tlvs : List Tlv) (s : State) (s1 : State) (c : Cmd) (e : Sem), accepted opSemRelease src tlvs s = some (s1, c) ∧ (s.gbr (hString c.ep)).broken = [] ∧ (s.gbr (hString c.ep)).sem? c.ep c.regAddr = some e ∧ e.holder = c.vctl ∧ c.has 0x0167 = false) ∧
    (∃ (src : Src) (tlvs : List Tlv) (s : State) (s1 : State) (c : Cmd), accepted opSemRelease src tlvs s = some (s1, c) ∧ (s.gbr (hString c.ep)).broken = [] ∧ ((∀ e, (s.gbr (hString c.ep)).sem? c.ep c.regAddr = some e → e.holder ≠ c.vctl)) ∧ c.has 0x0167 = false) :=
  ⟨⟨own, saT, ba, acS opSemAcquire own (saT) (ba), acC opSemAcquire own (saT) (ba), acc_some (by decide +kernel), by decide +kernel, by decide +kernel, by decide +kernel⟩,
   ⟨own, saT, bO, acS opSemAcquire own saT bO, acC opSemAcquire own saT bO, ⟨H, 512, 0, 5100, []⟩, acc_some (by decide +kernel), by decide +kernel, by decide +kernel⟩,
   ⟨own, saT, bS, acS opSemAcquire own saT bS, acC opSemAcquire own saT bS, ⟨H, 512, 5, 6000, []⟩, acc_some (by decide +kernel), by decide +kernel, by decide +kernel, by decide +kernel⟩,
   ⟨own, swT, bS, acS opSemAcquire own swT bS, acC opSemAcquire own swT bS, ⟨H, 512, 5, 6000, []⟩, acc_some (by decide +kernel), by decide +kernel, by decide +kernel, by decide +kernel, by decide +kernel, by decide +kernel⟩,
   ⟨own, srT, bO, acS opSemRelease own srT bO, acC opSemRelease own srT bO, ⟨H, 512, 0, 5100, []⟩, acc_some (by decide +kernel), by decide +kernel, by decide +kernel, by decide +kernel, by decide +kernel⟩,
   ⟨own, srT, bS, acS opSemRelease own (srT) (bS), acC opSemRelease own (srT) (bS), acc_some (by decide +kernel), by decide +kernel, by decide +kernel, by decide +kernel⟩⟩
theorem witness_BridgeOperationsAreAnswered :
    (∃ (g : Nat) (v : Nat) (n : Nat) (p : Nat) (port : Nat) (hop : Nat) (args : List Nat) (o : BrOp) (q : Pole) (k : PoleKeys) (s : State), issuable v [] (s.gbr g).queue = some o ∧ s.nextSlot g v = some n ∧ (s.gbr g).credit = [] ∧ hString o.handle = g ∧ p = hPos o.handle ∧ s.pole? g p = some q ∧ q.assoc = some k ∧ k.ctrTx + 1 < 2 ^ 64 ∧ creditCost (44 + o.data.length) ≤ q.credits.getD 2 0 ∧ (port, hop) = s.route g p ∧ args = [brType o.kind, hSlot o.handle, o.tag.getD 0, o.reg, o.count]) ∧
    (∃ (g : Nat) (v : Nat) (n : Nat) (o : BrOp) (q : Pole) (s : State), issuable v [] (s.gbr g).queue = some o ∧ s.nextSlot g v = some n ∧ (s.gbr g).credit = [] ∧ hString o.handle = g ∧ s.pole? g (hPos o.handle) = some q ∧ q.credits.getD 2 0 < creditCost (44 + o.data.length)) ∧
    (∃ (g : Nat) (v : Nat) (s : State), (issuable v [] (s.gbr g).queue = none ∨ s.nextSlot g v = none)) ∧
    (∃ (g : Nat) (p : Nat) (sl : Nat) (n : Nat) (rg : Nat) (ct : Nat) (es : Nat) (h : MslHdr) (d : Bytes) (y : Tag) (s : State), (mslAccept g p h { s with out := [] }).2 = true ∧ tget (s.gbr g).tags n = some y ∧ y.st.late = false ∧ hPos y.op.handle = p ∧ hSlot y.op.handle = sl ∧ y.op.reg = rg ∧ y.op.count = ct ∧ y.op.kind = .read ∧ y.charged = true ∧ s.active y.op.vctl = true) ∧
    (∃ (g : Nat) (p : Nat) (sl : Nat) (n : Nat) (rg : Nat) (ct : Nat) (es : Nat) (h : MslHdr) (y : Tag) (s : State), (mslAccept g p h { s with out := [] }).2 = true ∧ tget (s.gbr g).tags n = some y ∧ y.st.late = false ∧ hPos y.op.handle = p ∧ hSlot y.op.handle = sl ∧ y.op.reg = rg ∧ y.op.count = ct ∧ y.op.kind = .nonPosted ∧ y.charged = true ∧ s.active y.op.vctl = true) ∧
    (∃ (g : Nat) (p : Nat) (sl : Nat) (n : Nat) (rg : Nat) (ct : Nat) (es : Nat) (h : MslHdr) (d : Bytes) (s : State), (mslAccept g p h { s with out := [] }).2 = true ∧ tget (s.gbr g).tags n = none) ∧
    (∃ (g : Nat) (p : Nat) (sl : Nat) (n : Nat) (rg : Nat) (ct : Nat) (es : Nat) (h : MslHdr) (s : State), (mslAccept g p h { s with out := [] }).2 = true ∧ tget (s.gbr g).tags n = none) ∧
    (∃ (g : Nat) (p : Nat) (sl : Nat) (n : Nat) (rg : Nat) (ct : Nat) (es : Nat) (h : MslHdr) (d : Bytes) (y : Tag) (s : State), (mslAccept g p h { s with out := [] }).2 = true ∧ tget (s.gbr g).tags n = some y ∧ y.st.late = true) ∧
    (∃ (g : Nat) (p : Nat) (sl : Nat) (n : Nat) (rg : Nat) (ct : Nat) (es : Nat) (h : MslHdr) (y : Tag) (s : State), (mslAccept g p h { s with out := [] }).2 = true ∧ tget (s.gbr g).tags n = some y ∧ y.st.late = true) ∧
    (∃ (g : Nat) (n : Nat) (d : Nat) (f : Nat) (y : Tag) (s : State), tget (s.gbr g).tags n = some y ∧ y.st = .issued d f ∧ s.timerDone d f = true ∧ y.charged = true ∧ s.active y.op.vctl = true) ∧
    (∃ (g : Nat) (n : Nat) (d : Nat) (f : Nat) (y : Tag) (s : State), tget (s.gbr g).tags n = some y ∧ y.st = .timedOut d f ∧ s.timerDone d f = true) ∧
    (∃ (g : Nat) (n : Nat) (s : State), ((∀ y d f, tget (s.gbr g).tags n = some y → y.st = .timedOut d f → s.timerDone d f = false))) :=
  ⟨⟨3, 0, 500000000, 1, 3, 1, [0x40, 1, 0, 512, 2], bop .read (some 0), { qp with credits := [9,9,9,9] }, { aidTx := 11, aidRx := 12, ctrTx := 5, high := 6 }, isS 9, by decide +kernel, by decide +kernel, by decide +kernel, by decide +kernel, by decide +kernel, by decide +kernel, by decide +kernel, by decide +kernel, by decide +kernel, by decide +kernel, by decide +kernel⟩,
   ⟨3, 0, 500000000, bop .read (some 0), { qp with credits := [9,9,0,9] }, isS 0, by decide +kernel, by decide +kernel, by decide +kernel, by decide +kernel, by decide +kernel, by decide +kernel⟩,
   ⟨3, 0, ba, by decide +kernel⟩,
   ⟨3, 1, 1, 0, 512, 2, 0, (hd 12 9), nn 9 5, { op := bop .read (some 0), st := .issued 2000 40000 }, tgS (.issued 2000 40000) .read false, by decide +kernel, by decide +kernel, by decide +kernel, by decide +kernel, by decide +kernel, by decide +kernel, by decide +kernel, by decide +kernel, by decide +kernel, by decide +kernel⟩,
   ⟨3, 1, 1, 0, 512, 2, 3, (hd 12 9), { op := bop .nonPosted (some 0), st := .issued 2000 40000 }, tgS (.issued 2000 40000) .nonPosted false, by decide +kernel, by decide +kernel, by decide +kernel, by decide +kernel, by decide +kernel, by decide +kernel, by decide +kernel, by decide +kernel, by decide +kernel, by decide +kernel⟩,
   ⟨3, 1, 1, 0, 512, 2, 0, (hd 12 9), nn 9 5, ba, by decide +kernel, by decide +kernel⟩,
   ⟨3, 1, 1, 0, 512, 2, 3, (hd 12 9), ba, by decide +kernel, by decide +kernel⟩,
   ⟨3, 1, 1, 0, 512, 2, 0, (hd 12 9), nn 9 5, { op := bop .read (some 0), st := .timedOut 2000 40000 }, tgS (.timedOut 2000 40000) .read false, by decide +kernel, by decide +kernel, by decide +kernel⟩,
   ⟨3, 1, 1, 0, 512, 2, 0, (hd 12 9), { op := bop .nonPosted (some 0), st := .timedOut 2000 40000 }, tgS (.timedOut 2000 40000) .nonPosted false, by decide +kernel, by decide +kernel, by decide +kernel⟩,
   ⟨3, 0, 2000, 40000, { op := bop .read (some 0), st := .issued 2000 40000 }, tgS (.issued 2000 40000) .read false, by decide +kernel, by decide +kernel, by decide +kernel, by decide +kernel, by decide +kernel⟩,
   ⟨3, 0, 2000, 40000, { op := bop .read (some 0), st := .timedOut 2000 40000 }, tgS (.timedOut 2000 40000) .read false, by decide +kernel, by decide +kernel, by decide +kernel⟩,
   ⟨3, 0, tgS (.issued 2000 40000) .read false, fun y d f hy hs => by cases hy; cases hs⟩⟩
theorem witness_BridgeOpcodesEnterTheQueue_5 : ∃ (x : Instr) (i : OpInfo) (src : Src) (tlvs : List Tlv) (s s1 u1 : State) (c : Cmd),
    ((x = .bridgeRead src tlvs ∧ i = opBridgeRead) ∨ (x = .bridgeWrite src tlvs ∧ i = opBridgeWrite)) ∧
    accepted i src tlvs s = some (s1, c) ∧ brokenCheck c.vctl c.ep c.regAddr (c.nat 0x000F) s1 = some u1 :=
  ⟨_, _, _, _, _, _, (brokenCheck 0 H 512 2 (acS opBridgeRead own rdT bB)).getD bB, _, .inl ⟨rfl, rfl⟩,
    acc_some (i := opBridgeRead) (src := own) (t := rdT) (s := bB) (by decide +kernel), by decide +kernel⟩
/-- An attribute of the profile of `H`: two registers, read and write. -/
def pa : Config.ProfAttr := ⟨256, 512, 2, 1, false⟩
/-- PROFILE_DESC of an endpoint: with no first name it needs no profile. -/
theorem witness_BridgeOpcodesEnterTheQueue_7 : ∃ (src : Src) (tlvs : List Tlv) (s s1 : State) (c : Cmd),
    accepted opAttrRead src tlvs s = some (s1, c) ∧ c.has 0x0165 = true :=
  ⟨own, [epl [H], tl 0x165 []], ba, _, _, acc_some (by decide +kernel), by decide +kernel⟩
theorem attrH {s : State} (h : s.slotProfile H = [pa]) : s.attr? H 256 = some pa := by
  unfold State.attr?; rw [h]; rfl
def arC : Cmd := acC (bare opAttrRead) own [epl [H], tl 0x164 (nn 2 256)] ba
/-- The profile table is the main image's, which the spec leaves open: the witness takes one with an attribute. -/
theorem witness_BridgeOpcodesEnterTheQueue_8 (hp : Config.profileTable 1 = some [pa]) :
    ∃ (src : Src) (tlvs : List Tlv) (s s1 : State) (c : Cmd) (n k : Nat) (r : List Nat) (a : Config.ProfAttr),
    accepted opAttrRead src tlvs s = some (s1, c) ∧ c.has 0x0165 = false ∧ c.list 0x0164 2 = [n] ∧ 0x100 ≤ n ∧ s.attr? c.ep n = some a ∧
    (s.gbr (hString c.ep)).broken = [] ∧ (s.gbr (hString c.ep)).free = k :: r := by
  have h0 : ba.slotProfile H = [pa] := by show (Config.profileTable 1).getD [] = _; rw [hp]; rfl
  have h1 : (atExam own ba).slotProfile H = [pa] := by show (Config.profileTable 1).getD [] = _; rw [hp]; rfl
  refine ⟨own, [epl [H], tl 0x164 (nn 2 256)], ba, _, arC, 256, 0, (List.range 256).tail, pa, accepted_bare (acc_some ?_) ?_ ?_,
    by decide +kernel, by decide +kernel, by decide, attrH h0, by decide +kernel, by decide +kernel⟩
  · decide +kernel
  · have hf : ∀ x, (if (256 : Nat) < 0x100 then decide ((256 : Nat) > 5) else ((atExam own ba).attr? H 256).isNone) = x → x = false := by
      rintro _ rfl; rw [attrH h1]; rfl
    have hl : arC.list 0x0164 2 = [256] := by decide +kernel
    have he : arC.ep = H := by decide +kernel
    have hn : needString arC = .ok () := by decide +kernel
    have hh : arC.has 0x0164 = true := by decide +kernel
    show (do
      needString arC
      need (arC.has 0x0164 || arC.has 0x0165) ⟨stTlvMissing, [tDetail 0x0164 0]⟩
      match (arC.list 0x0164 2).zipIdx.find? (fun e => if e.1 < 0x100 then e.1 > 5 else ((atExam own ba).attr? arC.ep e.1).isNone) with
      | some e => .error (eRange 0x0164 e.2)
      | none => .ok () : Except Err Unit) = _
    rw [hn, hh, hl, he]
    simp only [List.zipIdx, List.find?, attrH h1]
    rfl
  · decide +kernel
def awC : Cmd := acC (bare opAttrWrite) own [epl [H], tl 0x164 (nn 2 256), tl 9 (nn 8 77)] ba
/-- The same for a write. -/
theorem witness_BridgeOpcodesEnterTheQueue_9 (hp : Config.profileTable 1 = some [pa]) :
    ∃ (src : Src) (tlvs : List Tlv) (s s1 : State) (c : Cmd) (n k : Nat) (r : List Nat) (a : Config.ProfAttr),
    accepted opAttrWrite src tlvs s = some (s1, c) ∧ c.list 0x0164 2 = [n] ∧ s.attr? c.ep n = some a ∧ (s.gbr (hString c.ep)).broken = [] ∧
    s.heldByOther c.vctl c.ep a.addr a.count = false ∧ (s.gbr (hString c.ep)).free = k :: r := by
  have h0 : ba.slotProfile H = [pa] := by show (Config.profileTable 1).getD [] = _; rw [hp]; rfl
  have h1 : (atExam own ba).slotProfile H = [pa] := by show (Config.profileTable 1).getD [] = _; rw [hp]; rfl
  have hl : (awC.list 0x0164 2).headD 0 = 256 := by decide +kernel
  have he : awC.ep = H := by decide +kernel
  have hn : needString awC = .ok () := by decide +kernel
  have hd : ((awC.tlv? 0x0009).getD []).length = 8 := by decide +kernel
  have hv : awC.vctl = 0 := by decide +kernel
  have hr : needReach awC (atExam own ba) = .ok () := by decide +kernel
  have ht : needTags awC (atExam own ba) = .ok () := by decide +kernel
  refine ⟨own, [epl [H], tl 0x164 (nn 2 256), tl 9 (nn 8 77)], ba, _, awC, 256, 0, (List.range 256).tail, pa, accepted_bare (acc_some ?_) ?_ ?_,
    by decide +kernel, attrH h0, by decide +kernel, by decide +kernel, by decide +kernel⟩
  · decide +kernel
  · unfold opAttrWrite
    dsimp only
    rw [hn, hl, he, attrH h1, hd]
    rfl
  · unfold opAttrWrite
    dsimp only
    rw [hl, he, attrH h1, hv, hr, ht]
    rfl

end Bridge

namespace Wakes

def rp (e : Nat) : PoleReport := { eui := e, maker := 1, model := 1, fw := 1, majors := 24, slots := 3, caps := 15, profiles := [0, 1, 1], supply := [0, 0, 0], fallback := 0, down := 1 }
def qp : Pole := { rep := rp 9, pair := .paired, adopted := true, reached := true, assoc := some { aidTx := 11, aidRx := 12, ctrTx := 5, high := 6 } }
def wS (f : Wakes → Wakes) : State := { lit with strs := { lit.strs with grains := [(3, { rate := 1, record := [(1, qp)] })] }, spn := { lit.spn with east := { up := true, lock := true, assoc := some { laid := 7, tx := 3, high := 4 } } }, wak := f { lit.wak with borders := [(2, ⟨5, 64, 48⟩)] } }
def hd (n : Nat) : MslHdr := { aid := n, ctr := 9, ok := true }
def dr : DetRec := ⟨1, 3, 0, 4, 49990000000⟩
def sh (l : Nat) (d : Option Nat) (ttl : Nat) : SpHdr := ⟨l, 9, true, ttl, d, 3, false⟩
def wr (k : Nat) : WakeRec := ⟨k, 2, 1, 30, 77, 400, 49990000000, 4999⟩
def wsn : State := wS (fun w => { w with sent := [⟨2, 77, 4999⟩, ⟨2, 78, 4997⟩] })
def trk (node st : Nat) : Track := { cls := 1, v := 30, trav := none, x := 100, node := node, confirm := 49990000000, frame := 4999, st := st }
def gr (f : Wakes → Wakes) : State := { wS f with frm := { lit.frm with beat := 50 } }
def gph : Tbl Graph := [(0, { edges := [⟨48, 49, 30, true, true⟩, ⟨49, 16386, 30, true, false⟩] }), (1, { edges := [⟨1030, 1031, 30, true, true⟩] })]
def w10 : State := gr (fun w => { w with graphs := gph, later := [⟨48, 9000, 1, 30, 5, 1, none⟩], spills := [⟨49, 10, 1, 30, 5, 0, none⟩] })
def w11 : State := wS (fun w => { w with graphs := gph, tracks := [(3, trk 48 0), (4, trk 16386 0), (5, trk 1030 0), (6, trk 16386 1), (8, trk 48 1)], sent := [⟨2, 70, 4997⟩], answers := [wr 2], spills := [⟨16386, 9, 1, 30, 4, 0, none⟩, ⟨49, 9, 1, 30, 4, 16, none⟩] })
def lr (s : Nat) : LampRec := ⟨s, 3, 64000, 5, 300, 290, 310, 3000, 0x8000⟩
theorem witness_WakesAndLampSamplesAreTaken :
    (∃ (g : Nat) (p : Nat) (h : MslHdr) (rs : List DetRec) (s : State), (mslAccept g p h { s with out := [] }).2 = true ∧ s.inLight = true) ∧
    (∃ (g : Nat) (p : Nat) (h : MslHdr) (rs : List DetRec) (s : State), (mslAccept g p h { s with out := [] }).2 = false) ∧
    (∃ (e : Bool) (h : SpHdr) (rs : List WakeRec) (s : State), s.pw.main = true ∧ s.inLight = true ∧ (spAccept e h { s with out := [] }).2 = true ∧ s.spMine h = true ∧ ((∀ r ∈ rs, r.kind ≤ 1 ∧ (tget s.wak.borders r.border).isSome = true))) ∧
    (∃ (e : Bool) (h : SpHdr) (r : WakeRec) (s : State), s.pw.main = true ∧ s.inLight = true ∧ (spAccept e h { s with out := [] }).2 = true ∧ s.spMine h = true ∧ r.kind = 2 ∧ (tget s.wak.borders r.border).isSome = true) ∧
    (∃ (e : Bool) (h : SpHdr) (r : WakeRec) (s : State), s.pw.main = true ∧ s.inLight = true ∧ (spAccept e h { s with out := [] }).2 = true ∧ s.spMine h = true ∧ r.kind = 3 ∧ (tget s.wak.borders r.border).isSome = true ∧ s.wak.sent.any (fun x => x.border == r.border && x.track == r.track) = true) ∧
    (∃ (e : Bool) (h : SpHdr) (rs : List WakeRec) (s : State), s.pw.main = true ∧ (spAccept e h { s with out := [] }).2 = false) ∧
    (∃ (e : Bool) (h : SpHdr) (rs : List WakeRec) (s : State), s.pw.main = true ∧ (spAccept e h { s with out := [] }).2 = true ∧ s.spMine h = false) ∧
    (∃ (p : Bool) (late : LateWake) (s : State), s.inLight = false) ∧
    (∃ (late : LateWake) (s : State), s.inLight = true ∧ (s.frm.beat < 41 ∨ 62 < s.frm.beat)) ∧
    (∃ (late : LateWake) (s : State), s.inLight = true ∧ 41 ≤ s.frm.beat ∧ s.frm.beat ≤ 62) ∧
    (∃ (late : LateWake) (s : State), s.inLight = true ∧ twf s.wak.tracks = true) ∧
    (∃ (g : Nat) (p : Nat) (f8 : Nat) (h : MslHdr) (rs : List LampRec) (s : State), (mslAccept g p h { s with out := [] }).2 = true ∧ 1 ≤ rs.length ∧ rs.length ≤ 15 ∧ (f8 + 1 < s.frm.now ∨ (f8 < s.frm.now ∧ 40 ≤ s.frm.beat))) ∧
    (∃ (g : Nat) (p : Nat) (f8 : Nat) (h : MslHdr) (r : LampRec) (s : State), (mslAccept g p h { s with out := [] }).2 = true ∧ s.frm.beat < 40 ∧ f8 + 1 = s.frm.now ∧ (r.slot = 0 ∨ s.isLamp (mkHandle g p (r.slot % 16)) = false)) ∧
    (∃ (g : Nat) (p : Nat) (f8 : Nat) (h : MslHdr) (rs : List LampRec) (s : State), (mslAccept g p h { s with out := [] }).2 = true ∧ (rs = [] ∨ 15 < rs.length ∨ s.frm.now ≤ f8)) :=
  ⟨⟨3, 1, hd 12, [dr, dr], wS id, by decide +kernel, by decide +kernel⟩,
   ⟨3, 1, hd 13, [dr, dr], wS id, by decide +kernel⟩,
   ⟨true, sh 7 none 9, [wr 0, wr 1], wS id, by decide +kernel, by decide +kernel, by decide +kernel, by decide +kernel, by decide +kernel⟩,
   ⟨true, sh 7 none 9, wr 2, wsn, by decide +kernel, by decide +kernel, by decide +kernel, by decide +kernel, by decide +kernel, by decide +kernel⟩,
   ⟨true, sh 7 none 9, wr 3, wsn, by decide +kernel, by decide +kernel, by decide +kernel, by decide +kernel, by decide +kernel, by decide +kernel, by decide +kernel⟩,
   ⟨true, sh 8 none 9, [wr 3], wsn, by decide +kernel, by decide +kernel⟩,
   ⟨true, sh 7 (some 99) 9, [wr 3], wsn, by decide +kernel, by decide +kernel, by decide +kernel⟩,
   ⟨true, ⟨[3], [9]⟩, on, by decide +kernel⟩,
   ⟨⟨[3], [9]⟩, wsn, by decide +kernel, by decide +kernel⟩,
   ⟨⟨[], []⟩, w10, by decide +kernel, by decide +kernel, by decide +kernel⟩,
   ⟨⟨[], []⟩, w11, by decide +kernel, by decide +kernel⟩,
   ⟨3, 1, 4999, hd 12, [lr 1], { wS id with frm := { now := 5000, beat := 40 } }, by decide +kernel, by decide +kernel, by decide +kernel, by decide +kernel⟩,
   ⟨3, 1, 4999, hd 12, lr 0, wS id, by decide +kernel, by decide +kernel, by decide +kernel, by decide +kernel⟩,
   ⟨3, 1, 5000, hd 12, [lr 1], wS id, by decide +kernel, by decide +kernel⟩⟩
/-- A lamp of string 3: the lighting class is a value of the profile table, which the spec leaves open; the witness takes a profile that is one. -/
theorem witness_WakesAndLampSamplesAreTaken_12 (hl : Config.lightingClass 1 = true) : ∃ (g p f8 : Nat) (h : MslHdr) (r : LampRec) (s : State),
    (mslAccept g p h { s with out := [] }).2 = true ∧ s.frm.beat < 40 ∧ f8 + 1 = s.frm.now ∧ r.slot ≠ 0 ∧
    s.isLamp (mkHandle g p (r.slot % 16)) = true :=
  ⟨3, 1, 4999, hd 12, lr 1, wS id, by decide +kernel, by decide +kernel, by decide +kernel, by decide +kernel, hl⟩

end Wakes

namespace Geode

def gS (f : Geode → Geode) : State := { lit with geo := f { lit.geo with on := true, sync := 2, label := (4990, 5), params := { lit.geo.params with cirs := [(3, { mphase := 1 }), (4, { mphase := 2 })] } } }
def sm (i : Nat) (a b : Int) : GSample := ⟨i, a, b⟩
def cyc (f : Geode → Geode) : State := gS (fun g => f { g with cirs := [(3, { acc := [1,2,3,4,5,6,7,8,9] })], phases := [(1, { blocks := false })] })
def rd (f : PendRead → PendRead) : PendRead := f { kind := 0, t := 49900500000, e := 49900625000 }
def swing (f : Geode → Geode) : State := cyc (fun g => f { g with cirs := [(3, { acc := [1,2,3,4,5,6,7,8,9], p1 := -77, q1 := 5, buf := [(49900000000, 300000), (49900125000, -400000), (49900250000, 500000)] })], phases := [(1, { blocks := false, last := some 49880000000, vrms := 23000, buf := [(49900000000, 6000000), (49900125000, -6000000), (49900250000, 9)] })] })
def vsOf (p z : Nat) (s : State) : List (Nat × Int) := (s.geo.voltage p).filter (fun x => x.1 < z)
def isOf (p z c : Nat) (s : State) : List (Nat × Int) := (s.geo.current c (s.geo.phase p).freq).filter (fun x => x.1 < z)
def blk : State := cyc (fun g => { g with cirs := [(3, { acc := [1,2,3,4,5,6,7,8,9], buf := [(49890000000, 300000), (49890125000, -400000)] })], phases := [(1, { buf := (List.range 161).map (fun k => (49880000000 + 125000 * k, 5000000)) })] })
def pls (f : PulseIn → PulseIn) : State := gS (fun g => { g with pulses := [(2, f { rise := some 77, count := 2^48-1 })] })
def rl : PendRead := rd (fun r => { r with latch := some ((gS id).geo.latchNow 4) })
def pk (f : LinkPkt → LinkPkt) : LinkPkt := f ((cyc id).geo.packet)
def mq : MainReq := ⟨1, 3, 3, (0, 4, 5), 0, 4990⟩
def wired (p : LinkPkt) : State := cyc (fun g => { g with wire := some p, mir := { g.mir with silent := true, reqs := [mq, { mq with id := 2 }] } })
theorem witness_GeodeFollowsItsEdges :
    (∃ (d : Nat) (e : Int) (xs : List GSample) (s : State), s.geo.on = true) ∧
    (∃ (d : Nat) (e : Int) (xs : List GSample) (s : State), s.geo.on = true) ∧
    (∃ (k : Bool) (d : Nat) (e : Int) (x : GSample) (s : State), s.geo.on = true ∧ x.input < 64 ∧ s.geo.label.2 ≠ 3) ∧
    (∃ (k : Bool) (d : Nat) (e : Int) (x : GSample) (s : State), s.geo.on = true ∧ 64 ≤ x.input ∧ x.input < 67) ∧
    (∃ (k : Bool) (d : Nat) (e : Int) (s : State), s.geo.on = true ∧ s.geo.label.2 = 3) ∧
    (∃ (s : State), s.geo.on = true ∧ s.geo.sync ≠ 0 ∧ 16 ≤ s.geo.gone) ∧
    (∃ (s : State), (s.geo.sync = 0 ∨ s.geo.gone < 16)) ∧
    (∃ (f : Nat) (s : State), s.geo.on = true ∧ s.geo.narrow < 96) ∧
    (∃ (f : Nat) (ok : Bool) (s : State), s.geo.on = true ∧ (ok = false ∨ 96 ≤ s.geo.narrow)) :=
  ⟨⟨125000, 0, [sm 3 9000000 5, sm 65 4 0], gS id, by decide +kernel⟩,
   ⟨125000, 0, [sm 3 9000000 5, sm 65 4 0], gS id, by decide +kernel⟩,
   ⟨true, 125000, 0, sm 3 9000000 5, gS id, by decide +kernel, by decide +kernel, by decide +kernel⟩,
   ⟨true, 125000, 0, sm 65 (-9000000) 5, gS id, by decide +kernel, by decide +kernel, by decide +kernel⟩,
   ⟨false, 125000, 0, gS (fun g => { g with label := (50, 3), cirs := [(3, { acc := [2 ^ 49, 7], irms := 5999, clipSeen := true, hist := [(499900000, 5000000)] })], phases := [(1, { blocks := false })] }), by decide +kernel, by decide +kernel⟩,
   ⟨gS (fun g => { g with gone := 16 }), by decide +kernel, by decide +kernel, by decide +kernel⟩,
   ⟨gS (fun g => { g with sync := 0 }), by decide +kernel⟩,
   ⟨77, gS id, by decide +kernel, by decide +kernel⟩,
   ⟨77, false, gS id, by decide +kernel, by decide +kernel⟩⟩
theorem witness_CyclesAreMeteredFromTheirSamples :
    (∃ (p : Nat) (z0 : Nat) (z : Nat) (c : Nat) (vs : List (Nat × Int)) (is : List (Nat × Int)) (s : State), s.geo.on = true ∧ 1 ≤ p ∧ p ≤ 3 ∧ z ≤ s.geo.now ∧ (s.geo.phase p).last = some z0 ∧ z0 + 15380000 ≤ z ∧ z ≤ z0 + 22220000 ∧ (s.geo.phase p).blocks = false ∧ (s.geo.phase p).cut = false ∧ c < 64 ∧ (s.geo.rec_ c).mphase = p ∧ vs = (s.geo.voltage p).filter (fun x => x.1 < z) ∧ is = (s.geo.current c (s.geo.phase p).freq).filter (fun x => x.1 < z) ∧ is ≠ [] ∧ vs ≠ [] ∧ (s.geo.cir c).acc.length = 9) ∧
    (∃ (p : Nat) (z : Nat) (s : State), s.geo.on = true ∧ 1 ≤ p ∧ p ≤ 3 ∧ z ≤ s.geo.now ∧ ((∀ z0, (s.geo.phase p).last = some z0 → z < z0 + 15380000 ∨ z0 + 22220000 < z) ∨ (s.geo.phase p).blocks = true ∧ (s.geo.phase p).vrms < 2000)) ∧
    (∃ (p : Nat) (z : Nat) (s : State), s.geo.now < z) ∧
    (∃ (p : Nat) (c : Nat) (x : Nat × Int) (vs : List (Nat × Int)) (is : List (Nat × Int)) (s : State), s.geo.on = true ∧ 1 ≤ p ∧ p ≤ 3 ∧ (s.geo.phase p).blocks = true ∧ (s.geo.phase p).buf[159]? = some x ∧ c < 64 ∧ (s.geo.rec_ c).mphase = p ∧ vs = (s.geo.voltage p).filter (fun y => y.1 < x.1 + 1) ∧ is = (s.geo.current c (s.geo.phase p).freq).filter (fun y => y.1 < x.1 + 1) ∧ is ≠ [] ∧ s.geo.accumulating = true ∧ (s.geo.cir c).acc.length = 9) ∧
    (∃ (p : Nat) (s : State), (s.geo.phase p).buf.length < 160) ∧
    (∃ (p : Nat) (c : Nat) (r : PendRead) (is : List (Nat × Int)) (s : State), s.geo.on = true ∧ s.geo.pend = [r] ∧ r.latch = none ∧ r.kind ≠ 3 ∧ r.e ≤ s.geo.now + 125000 ∧ s.geo.profileEdge r.e = false ∧ 1 ≤ p ∧ p ≤ 3 ∧ (s.geo.phase p).blocks = false ∧ c < 64 ∧ (s.geo.rec_ c).mphase = p ∧ is = (s.geo.current c (s.geo.phase p).freq).filter (fun y => y.1 < r.e) ∧ is ≠ [] ∧ s.geo.accumulating = true ∧ (s.geo.rec_ c).inMa ≤ rmsCurrent (s.geo.rec_ c) is.length (sumSq is) ∧ (s.geo.cir c).acc.length = 9) :=
  ⟨⟨1, 49880000000, 49900200000, 3, vsOf 1 49900200000 (swing id), isOf 1 49900200000 3 (swing id), swing id, by decide +kernel, by decide +kernel, by decide +kernel, by decide +kernel, by decide +kernel, by decide +kernel, by decide +kernel, by decide +kernel, by decide +kernel, by decide +kernel, by decide +kernel, by decide +kernel, by decide +kernel, by decide +kernel, by decide +kernel, by decide +kernel⟩,
   ⟨1, 49900200000, cyc id, by decide +kernel, by decide +kernel, by decide +kernel, by decide +kernel, by decide +kernel⟩,
   ⟨1, 49900625001, swing id, by decide +kernel⟩,
   ⟨1, 3, (49899875000, 5000000), vsOf 1 49899875001 blk, isOf 1 49899875001 3 blk, blk, by decide +kernel, by decide +kernel, by decide +kernel, by decide +kernel, by decide +kernel, by decide +kernel, by decide +kernel, by decide +kernel, by decide +kernel, by decide +kernel, by decide +kernel, by decide +kernel⟩,
   ⟨1, swing id, by decide +kernel⟩,
   ⟨1, 3, rd (fun r => { r with e := 49900200000 }), isOf 1 49900200000 3 (swing id), swing (fun g => { g with pend := [rd (fun r => { r with e := 49900200000 })] }), by decide +kernel, by decide +kernel, by decide +kernel, by decide +kernel, by decide +kernel, by decide +kernel, by decide +kernel, by decide +kernel, by decide +kernel, by decide +kernel, by decide +kernel, by decide +kernel, by decide +kernel, by decide +kernel, by decide +kernel, by decide +kernel⟩⟩
theorem witness_MasksAndPulses :
    (∃ (p : Nat) (s : State), s.geo.on = true ∧ 1 ≤ p ∧ p ≤ 3 ∧ ((s.geo.phase p).vrms < 2000 ∨ (∀ z, (s.geo.phase p).start = some z → z + 25000000 ≤ s.geo.now))) ∧
    (∃ (p : Nat) (z : Nat) (s : State), 2000 ≤ (s.geo.phase p).vrms ∧ (s.geo.phase p).start = some z ∧ s.geo.now < z + 25000000) ∧
    (∃ (c : Nat) (a : Nat) (s : State), s.geo.on = true ∧ s.geo.narrow < 96 ∧ c < 64 ∧ s.geo.unused c = false ∧ (s.geo.cir c).deaf ≤ s.geo.frame ∧ s.geo.frame < a + 5 ∧ (s.geo.cir c).mask = none) ∧
    (∃ (c : Nat) (a : Nat) (m : Mask) (s : State), s.geo.on = true ∧ s.geo.narrow < 96 ∧ c < 64 ∧ s.geo.unused c = false ∧ (s.geo.cir c).deaf ≤ s.geo.frame ∧ s.geo.frame < a + 5 ∧ (s.geo.cir c).mask = some m ∧ s.geo.frame < m.until_) ∧
    (∃ (c : Nat) (a : Nat) (s : State), s.geo.on = true ∧ s.geo.narrow < 96 ∧ c < 64 ∧ s.geo.unused c = false ∧ s.geo.frame < (s.geo.cir c).deaf ∧ ((∀ m, (s.geo.cir c).mask = some m → s.geo.frame < m.until_))) ∧
    (∃ (c : Nat) (m : Mask) (s : State), s.geo.on = true ∧ (s.geo.cir c).mask = some m ∧ m.until_ ≤ s.geo.frame) ∧
    (∃ (q : Nat) (t0 : Nat) (s : State), s.geo.on = true ∧ q < 16 ∧ t0 + 1875000 ≤ s.geo.now ∧ (s.geo.pulse q).rise = none) ∧
    (∃ (q : Nat) (r : Nat) (t0 : Nat) (s : State), s.geo.on = true ∧ q < 16 ∧ t0 + 1875000 ≤ s.geo.now ∧ (s.geo.pulse q).rise = some r ∧ r + 10000000 ≤ t0) ∧
    (∃ (q : Nat) (r : Nat) (t0 : Nat) (s : State), s.geo.on = true ∧ q < 16 ∧ t0 + 1875000 ≤ s.geo.now ∧ (s.geo.pulse q).rise = some r ∧ (s.geo.pulse q).stuck = false ∧ t0 < r + 10000000) ∧
    (∃ (q : Nat) (r : Nat) (s : State), s.geo.on = true ∧ (s.geo.pulse q).rise = some r ∧ (s.geo.pulse q).stuck = false ∧ r + 10000000000 ≤ s.geo.now) :=
  ⟨⟨1, cyc id, by decide +kernel, by decide +kernel, by decide +kernel, by decide +kernel⟩,
   ⟨1, 49900625000, cyc (fun g => { g with phases := [(1, { vrms := 2000, start := some 49900625000 })] }), by decide +kernel, by decide +kernel, by decide +kernel⟩,
   ⟨3, 4992, cyc id, by decide +kernel, by decide +kernel, by decide +kernel, by decide +kernel, by decide +kernel, by decide +kernel, by decide +kernel⟩,
   ⟨3, 4992, ⟨4980, 4995⟩, cyc (fun g => { g with cirs := [(3, { mask := some ⟨4980, 4995⟩ })] }), by decide +kernel, by decide +kernel, by decide +kernel, by decide +kernel, by decide +kernel, by decide +kernel, by decide +kernel, by decide +kernel⟩,
   ⟨3, 4992, cyc (fun g => { g with cirs := [(3, { deaf := 4995 })] }), by decide +kernel, by decide +kernel, by decide +kernel, by decide +kernel, by decide +kernel, by decide +kernel⟩,
   ⟨3, ⟨4960, 4980⟩, cyc (fun g => { g with cirs := [(3, { oc := true, half := 33, mask := some ⟨4960, 4980⟩ })] }), by decide +kernel, by decide +kernel, by decide +kernel⟩,
   ⟨2, 77, gS id, by decide +kernel, by decide +kernel, by decide +kernel, by decide +kernel⟩,
   ⟨2, 77, 10000077, pls id, by decide +kernel, by decide +kernel, by decide +kernel, by decide +kernel, by decide +kernel⟩,
   ⟨2, 77, 10000076, pls id, by decide +kernel, by decide +kernel, by decide +kernel, by decide +kernel, by decide +kernel, by decide +kernel⟩,
   ⟨2, 77, pls id, by decide +kernel, by decide +kernel, by decide +kernel, by decide +kernel⟩⟩
theorem witness_ReadingsAreLatchedSignedAndSent :
    (∃ (t0 : Nat) (src : Nat) (s : State), s.geo.on = true ∧ s.geo.narrow < 96 ∧ s.geo.pend = [] ∧ s.geo.now ≤ latchEdge t0) ∧
    (∃ (t0 : Nat) (src : Nat) (s : State), s.geo.on = true ∧ s.geo.narrow < 96 ∧ (s.geo.pend ≠ [] ∨ latchEdge t0 < s.geo.now)) ∧
    (∃ (r : PendRead) (s : State), s.geo.on = true ∧ s.geo.pend = [r] ∧ r.latch = none ∧ r.kind ≠ 3 ∧ r.e ≤ s.geo.now + 125000 ∧ s.geo.profileEdge r.e = false) ∧
    (∃ (r : PendRead) (a : GeoAct) (p : LegalParams) (s : State), s.geo.on = true ∧ s.geo.pend = [r] ∧ r.latch = none ∧ r.kind = 3 ∧ r.e ≤ s.geo.now + 125000 ∧ s.geo.act = some a ∧ a.fw = none ∧ s.geo.staged = some p) ∧
    (∃ (e : Nat) (s : State), s.geo.on = true ∧ s.geo.profileEdge e = true ∧ s.geo.pend = []) ∧
    (∃ (e : Nat) (s : State), s.geo.profileEdge e = false) ∧
    (∃ (i : Nat) (o : Nat) (x : Nat) (s : State), s.geo.on = true ∧ s.geo.narrow < 96 ∧ s.geo.reqs.length < 8) ∧
    (∃ (i : Nat) (o : Nat) (x : Nat) (s : State), s.geo.on = true ∧ 8 ≤ s.geo.reqs.length) ∧
    (∃ (s : State), s.geo.on = true ∧ 6 < s.geo.label.2 ∧ s.geo.sent ≠ some s.geo.frame ∧ s.pw.main = true) ∧
    (∃ (r : FrameRec) (s : State), s.geo.frec = some r ∧ r.frame = s.geo.frame) ∧
    (∃ (s : State), s.geo.on = true ∧ 6 < s.geo.label.2 ∧ s.geo.sent ≠ some s.geo.frame ∧ s.pw.main = false) ∧
    (∃ (s : State), (s.geo.label.2 ≤ 6 ∨ s.geo.sent = some s.geo.frame)) ∧
    (∃ (p : LinkPkt) (s : State), s.pw.main = true ∧ s.geo.wire = some p) ∧
    (∃ (s : State), s.pw.main = true ∧ s.geo.mir.silent = false ∧ s.geo.mir.at_ + 10 ≤ s.frm.now) ∧
    (∃ (i : Nat) (r : MainReq) (s : State), s.geo.mir.reqs.find? (fun r => r.id == i) = some r ∧ r.since + 10 ≤ s.frm.now) :=
  ⟨⟨49900500001, 1, gS id, by decide +kernel, by decide +kernel, by decide +kernel, by decide +kernel⟩,
   ⟨49900500001, 1, gS (fun g => { g with pend := [rl] }), by decide +kernel, by decide +kernel, by decide +kernel⟩,
   ⟨rd id, gS (fun g => { g with pend := [rd id] }), by decide +kernel, by decide +kernel, by decide +kernel, by decide +kernel, by decide +kernel, by decide +kernel⟩,
   ⟨rd (fun r => { r with kind := 3 }), ⟨none, none, false⟩, {}, cyc (fun g => { g with pend := [rd (fun r => { r with kind := 3 })], act := some ⟨none, none, false⟩, staged := some {} }), by decide +kernel, by decide +kernel, by decide +kernel, by decide +kernel, by decide +kernel, by decide +kernel, by decide +kernel, by decide +kernel⟩,
   ⟨900000000000, gS (fun g => { g with label := (90000, 0) }), by decide +kernel, by decide +kernel, by decide +kernel⟩,
   ⟨900000000001, gS id, by decide +kernel⟩,
   ⟨1, 3, 3, gS id, by decide +kernel, by decide +kernel, by decide +kernel⟩,
   ⟨1, 3, 3, gS (fun g => { g with reqs := List.replicate 8 (1, 3, 3) }), by decide +kernel, by decide +kernel⟩,
   ⟨cyc (fun g => { g with label := (4990, 7), sent := some 4989, evs := [(0x522, 255, [])], reqs := [(1, 3, 3)], outR := [] }), by decide +kernel, by decide +kernel, by decide +kernel, by decide +kernel⟩,
   ⟨(cyc id).geo.record, cyc (fun g => { g with frec := some (cyc id).geo.record, evs := [(0x522, 255, [])] }), by decide +kernel, by decide +kernel⟩,
   ⟨{ cyc (fun g => { g with label := (4990, 7) }) with pw := { (cyc id).pw with main := false } }, by decide +kernel, by decide +kernel, by decide +kernel, by decide +kernel⟩,
   ⟨cyc (fun g => { g with label := (4990, 6) }), by decide +kernel⟩,
   ⟨pk id, wired (pk id), by decide +kernel, by decide +kernel⟩,
   ⟨gS (fun g => { g with mir := { g.mir with at_ := 4990 } }), by decide +kernel, by decide +kernel, by decide +kernel⟩,
   ⟨1, mq, wired (pk id), by decide +kernel, by decide +kernel⟩⟩
theorem witness_ReadingsAreLatchedSignedAndSent_5 : ∃ (r : PendRead) (rest : List PendRead) (l : Latch) (s : State),
    s.geo.on = true ∧ s.geo.pend = r :: rest ∧ r.latch = some l ∧ s.geo.act = none :=
  ⟨rl, [rd id], _, gS (fun g => { g with pend := [rl, rd id] }), rfl, rfl, rfl, rfl⟩

end Geode

namespace Custody

def gS (f : Geode → Geode) : State := { lit with geo := f { lit.geo with on := true, sync := 2, label := (4990, 5), params := { lit.geo.params with cirs := [(3, { mphase := 1 }), (4, { mphase := 2 })] } } }
def sv (n : Nat) (pf : Bool) : Save := { seq := n, pf := pf, time := 55, acc := [(3, [1,2])], counts := [(2, 9)], rseq := 3, pend := [] }
def oS (f : Geode → Geode) : State := gS (fun g => f { g with ox1 := 2, saps := [1, 16] })
theorem witness_SavesPauseAndResume :
    (∃ (s : State), s.geo.on = true ∧ s.geo.savedAt + 1000000000 ≤ s.geo.now) ∧
    (∃ (s : State), s.geo.now < s.geo.savedAt + 1000000000) ∧
    (∃ (ok : Bool) (s : State), s.geo.on = true ∧ s.geo.failing = none) ∧
    (∃ (ms : Nat) (s : State), s.geo.on = true ∧ s.geo.failing.isSome = true) ∧
    (∃ (s : State), s.geo.on = true ∧ s.geo.failing.isSome = true) ∧
    (∃ (v : Save) (s : State), s.geo.on = false ∧ s.geo.lastSave = some v ∧ v.pf = true ∧ s.geo.act = none ∧ v.pend = []) ∧
    (∃ (v : Save) (s : State), s.geo.on = false ∧ s.geo.lastSave = some v ∧ v.pf = false ∧ s.geo.act = none) ∧
    (∃ (s : State), s.geo.on = true) ∧
    (∃ (x : Int) (s : State), s.geo.on = true ∧ 1680 ≤ x ∧ 1 ≤ s.geo.hot ∧ s.geo.suspended = none) ∧
    (∃ (x : Int) (s : State), s.geo.on = true ∧ x < 1680) ∧
    (∃ (a : Nat) (c : Nat) (s : State), s.geo.on = true ∧ s.geo.suspended = some a ∧ s.geo.cool = some c ∧ c + 60000000000 ≤ s.geo.now) ∧
    (∃ (s : State), s.geo.on = true) ∧
    (∃ (a : GeoAct) (e0 : Nat) (e1 : Nat) (s : State), s.geo.on = true ∧ s.geo.act = some a ∧ a.e0 = some e0 ∧ e0 ≤ e1 ∧ e1 % 125000 = 0 ∧ e1 ≤ e0 + (if a.firmware = false then 2000000000 else if a.fw = none then 30000000000 else 25000000000)) ∧
    (∃ (a : GeoAct) (e0 : Nat) (v : Nat × Nat) (s : State), s.geo.on = true ∧ s.geo.act = some a ∧ a.e0 = some e0 ∧ a.fw = some v ∧ e0 + 25000000000 ≤ s.geo.now) :=
  ⟨⟨gS id, by decide +kernel, by decide +kernel⟩,
   ⟨gS (fun g => { g with savedAt := 49900625000 - 999999999 }), by decide +kernel⟩,
   ⟨true, gS (fun g => { g with saves := (some (sv 5 false), some (sv 4 false)) }), by decide +kernel, by decide +kernel⟩,
   ⟨5, gS (fun g => { g with failing := some 4 }), by decide +kernel, by decide +kernel⟩,
   ⟨gS (fun g => { g with failing := some 4 }), by decide +kernel, by decide +kernel⟩,
   ⟨sv 5 true, gS (fun g => { g with on := false, saves := (some (sv 5 true), some (sv 4 false)) }), by decide +kernel, by decide +kernel, by decide +kernel, by decide +kernel, by decide +kernel⟩,
   ⟨sv 5 false, gS (fun g => { g with on := false, saves := (some (sv 5 false), some (sv 4 false)) }), by decide +kernel, by decide +kernel, by decide +kernel, by decide +kernel⟩,
   ⟨gS id, by decide +kernel⟩,
   ⟨1680, gS (fun g => { g with hot := 1 }), by decide +kernel, by decide +kernel, by decide +kernel, by decide +kernel⟩,
   ⟨1679, gS (fun g => { g with hot := 1 }), by decide +kernel, by decide +kernel⟩,
   ⟨5, 7, gS (fun g => { g with suspended := some 5, cool := some 7, label := (60000, 0) }), by decide +kernel, by decide +kernel, by decide +kernel, by decide +kernel⟩,
   ⟨gS id, by decide +kernel⟩,
   ⟨⟨some 5, none, false⟩, 5, 125000, gS (fun g => { g with act := some ⟨some 5, none, false⟩, paused := true }), by decide +kernel, by decide +kernel, by decide +kernel, by decide +kernel, by decide +kernel, by decide +kernel⟩,
   ⟨⟨some 5, some (7, 8), true⟩, 5, (7, 8), gS (fun g => { g with act := some ⟨some 5, some (7, 8), true⟩, paused := true }), by decide +kernel, by decide +kernel, by decide +kernel, by decide +kernel, by decide +kernel⟩⟩
theorem witness_OpticalPortServesItsClients :
    (∃ (s : State), s.geo.on = true ∧ s.geo.flood = false) ∧
    (∃ (s : State), s.geo.on = true ∧ s.geo.flood = true) ∧
    (∃ (s : State), s.geo.on = true ∧ s.geo.flood = false) ∧
    (∃ (m : HdlcMsg) (s : State), (s.geo.flood = true ∨ s.geo.ox1 = 0)) ∧
    (∃ (s : State), s.geo.on = true ∧ s.geo.flood = false ∧ (s.geo.ox1 = 1 ∨ s.geo.ox1 = 2)) ∧
    (∃ (s : State), s.geo.on = true ∧ s.geo.flood = false ∧ s.geo.ox1 = 2) ∧
    (∃ (p : Nat) (s : State), s.geo.on = true ∧ s.geo.flood = false ∧ s.geo.ox1 = 2 ∧ (p = 1 ∨ p = 32) ∧ (tget s.geo.locked p).isSome = false) ∧
    (∃ (p : Nat) (s : State), s.geo.on = true ∧ s.geo.flood = false ∧ s.geo.ox1 = 2 ∧ (p = 1 ∨ p = 32) ∧ (tget s.geo.locked p).isSome = false ∧ tgetD s.geo.fails p 0 = 4) ∧
    (∃ (p : Nat) (tl : Nat) (s : State), s.geo.on = true ∧ s.geo.flood = false ∧ s.geo.ox1 = 2 ∧ (p = 1 ∨ p = 32) ∧ tget s.geo.locked p = some tl) ∧
    (∃ (p : Nat) (o : Cosem) (b : Bytes) (s : State), s.geo.on = true ∧ s.geo.flood = false ∧ s.geo.ox1 = 2 ∧ s.geo.assoc p = true ∧ cosemThere o = true ∧ canRead p o = true ∧ s.geo.cosem o = some b) ∧
    (∃ (o : Cosem) (b : Bytes) (p : LegalParams) (s : State), s.geo.on = true ∧ s.geo.flood = false ∧ s.geo.ox1 = 2 ∧ s.geo.assoc 1 = true ∧ cosemThere o = true ∧ stageWrite o b (s.geo.staged.getD s.geo.params) = some p) ∧
    (∃ (p : Nat) (o : Cosem) (b : Bytes) (s : State), s.geo.on = true ∧ s.geo.flood = false ∧ s.geo.ox1 = 2 ∧ s.geo.assoc p = true ∧ cosemThere o = true ∧ p ≠ 1) ∧
    (∃ (v : Nat) (n : Nat) (good : Bool) (s : State), s.geo.on = true ∧ s.geo.flood = false ∧ s.geo.ox1 = 2 ∧ s.geo.assoc 1 = true) ∧
    (∃ (p : LegalParams) (s : State), s.geo.on = true ∧ s.geo.flood = false ∧ s.geo.ox1 = 2 ∧ s.geo.assoc 1 = true ∧ s.geo.act = none ∧ s.geo.staged = some p ∧ s.geo.pend = []) ∧
    (∃ (s : State), s.geo.on = true ∧ s.geo.ox1 = 2 ∧ s.geo.ox1At + s.geo.params.timeout * 1000000000 ≤ s.geo.now ∧ s.geo.act = none) ∧
    (∃ (s : State), s.geo.now < s.geo.ox1At + s.geo.params.timeout * 1000000000) ∧
    (∃ (p : Nat) (tl : Nat) (s : State), s.geo.on = true ∧ tget s.geo.locked p = some tl ∧ tl ≤ s.geo.now) ∧
    (∃ (p : Nat) (tl : Nat) (s : State), tget s.geo.locked p = some tl ∧ s.geo.now < tl) :=
  ⟨⟨gS id, by decide +kernel, by decide +kernel⟩,
   ⟨gS (fun g => { g with flood := true }), by decide +kernel, by decide +kernel⟩,
   ⟨gS id, by decide +kernel, by decide +kernel⟩,
   ⟨.connect, gS id, by decide +kernel⟩,
   ⟨oS id, by decide +kernel, by decide +kernel, by decide +kernel⟩,
   ⟨oS (fun g => { g with saps := [] }), by decide +kernel, by decide +kernel, by decide +kernel⟩,
   ⟨32, oS id, by decide +kernel, by decide +kernel, by decide +kernel, by decide +kernel, by decide +kernel⟩,
   ⟨32, oS (fun g => { g with fails := [(32, 4)] }), by decide +kernel, by decide +kernel, by decide +kernel, by decide +kernel, by decide +kernel, by decide +kernel⟩,
   ⟨32, 999, oS (fun g => { g with locked := [(32, 999)] }), by decide +kernel, by decide +kernel, by decide +kernel, by decide +kernel, by decide +kernel⟩,
   ⟨16, .register 3 0, ((oS id).geo.cosem (.register 3 0)).getD [], oS id, by decide +kernel, by decide +kernel, by decide +kernel, by decide +kernel, by decide +kernel, by decide +kernel, by decide +kernel⟩,
   ⟨.profile, [30], { (oS id).geo.params with period := 30 }, oS id, by decide +kernel, by decide +kernel, by decide +kernel, by decide +kernel, by decide +kernel, by decide +kernel⟩,
   ⟨16, .profile, [30], oS id, by decide +kernel, by decide +kernel, by decide +kernel, by decide +kernel, by decide +kernel, by decide +kernel⟩,
   ⟨4, 5, true, oS id, by decide +kernel, by decide +kernel, by decide +kernel, by decide +kernel⟩,
   ⟨{}, oS (fun g => { g with staged := some {} }), by decide +kernel, by decide +kernel, by decide +kernel, by decide +kernel, by decide +kernel, by decide +kernel, by decide +kernel⟩,
   ⟨oS (fun g => { g with staged := some {}, params := { g.params with timeout := 40 } }), by decide +kernel, by decide +kernel, by decide +kernel, by decide +kernel⟩,
   ⟨oS (fun g => { g with ox1At := 49900625000 - 1 }), by decide +kernel⟩,
   ⟨32, 999, oS (fun g => { g with locked := [(32, 999)] }), by decide +kernel, by decide +kernel, by decide +kernel⟩,
   ⟨32, 999, oS (fun g => { g with locked := [(32, 999)], label := (0, 0) }), by decide +kernel, by decide +kernel⟩⟩

end Custody

namespace Metering

def pk : LinkPkt := { ({ lit.geo with on := true }).packet with frame := 4999 }
def rdg (n k : Nat) : Reading := { seq := n, kind := k, t := 5, bytes := (List.range 1300).map byte }
def per : Period := { first := 0, end_ := 4990, start := some ⟨0, [[1,2,3,4,5,6,7,8,9]]⟩, stop := some ⟨4990, [[101,2,3,4,5,6,7,8,9]]⟩, cirs := [(0, { prov := 100000000, eps := [(262145, { units := 360000000, frames := 5 })] })] }
def mS (f : State → State) : State := f { lst with geo := { lst.geo with mir := { lst.geo.mir with pkt := some pk, at_ := 4999, readings := [rdg 4 0, rdg 5 2], log := [(7, [1,2]), (8, [3])], nextId := 65536, wave := [(0, 3), (5, 3)] } }, slt := { lst.slt with circuits := [(262145, 3)] }, att := { lst.att with cur := some { per with first := 4990, end_ := 9000 }, closed := [per.close], closing := [per] }, qry := { lst.qry with dma := [(2, { holder := some 0 })] } }
def r1 : List Tlv := [tl 13 [1], tl 0x1D1 (nn 8 4), tl 0x1D2 (nn 2 400)]
def r2 : List Tlv := [tl 13 [1], tl 0x1D1 (nn 8 3), tl 0x1D2 (nn 2 400)]
def r3 : List Tlv := [tl 13 [2], tl 13 [2]]
def r4 : List Tlv := [tl 13 [3], tl 0x1D4 (nn 8 7), tl 15 (nn 4 3)]
def r5 : List Tlv := [tl 0x1D0 (nn 8 9), tl 14 (nn 8 0)]
def r6 : List Tlv := tl 13 [0] :: r5
def r7 : List Tlv := [tl 13 [2], tl 0x1D0 (nn 8 9)]
def sT : List Tlv := [tl 0x1D6 (nn 8 60000000000)]
def mA : State := mS (fun s => s.setReg (aLdsTmrCtl 3) 1)
theorem witness_MeteringAndAttributionCommands :
    (∃ (src : Src) (tlvs : List Tlv) (s : State) (s1 : State) (c : Cmd) (p : LinkPkt), accepted opMeterRead src tlvs s = some (s1, c) ∧ c.nat 0x000D = 0 ∧ s.geo.mir.pkt = some p) ∧
    (∃ (src : Src) (tlvs : List Tlv) (s : State) (s1 : State) (c : Cmd) (r : Reading), accepted opMeterRead src tlvs s = some (s1, c) ∧ c.nat 0x000D = 1 ∧ s.geo.mir.readings.find? (fun r => r.seq == c.nat 0x01D1) = some r) ∧
    (∃ (src : Src) (tlvs : List Tlv) (s : State) (s1 : State) (c : Cmd), accepted opMeterRead src tlvs s = some (s1, c) ∧ c.nat 0x000D = 1 ∧ s.geo.mir.readings.find? (fun r => r.seq == c.nat 0x01D1) = none) ∧
    (∃ (src : Src) (tlvs : List Tlv) (s : State) (s1 : State) (c : Cmd) (r : Reading), accepted opMeterRead src tlvs s = some (s1, c) ∧ c.nat 0x000D = 2 ∧ (s.geo.mir.readings.filter (fun r => some r.kind == c.code? 1)).getLast? = some r) ∧
    (∃ (src : Src) (tlvs : List Tlv) (s : State) (s1 : State) (c : Cmd) (b : Bytes), accepted opMeterRead src tlvs s = some (s1, c) ∧ 3 ≤ c.nat 0x000D ∧ heldFrom (if c.nat 0x000D = 3 then s.geo.mir.log else s.geo.mir.nlog) (c.nat 0x01D4) (c.nat 0x000F) = b ∧ b ≠ []) ∧
    (∃ (src : Src) (tlvs : List Tlv) (s : State) (s1 : State) (c : Cmd) (p : Closed), accepted opMeterPeriod src tlvs s = some (s1, c) ∧ s.closedAt c = some p) ∧
    (∃ (src : Src) (tlvs : List Tlv) (s : State) (s1 : State) (c : Cmd) (p : Closed), accepted opAttribRead src tlvs s = some (s1, c) ∧ c.nat 0x000D = 0 ∧ s.closedAt c = some p) ∧
    (∃ (src : Src) (tlvs : List Tlv) (s : State) (s1 : State) (c : Cmd) (p : Period), accepted opAttribRead src tlvs s = some (s1, c) ∧ c.nat 0x000D = 2 ∧ s.att.cur = some p) ∧
    (∃ (src : Src) (tlvs : List Tlv) (s : State) (s1 : State) (c : Cmd), accepted opWaveformStream src tlvs s = some (s1, c) ∧ c.nat 0x000D = 0) ∧
    (∃ (src : Src) (tlvs : List Tlv) (s : State) (s1 : State) (c : Cmd), accepted opWaveformStream src tlvs s = some (s1, c) ∧ c.nat 0x000D = 1) ∧
    (∃ (src : Src) (tlvs : List Tlv) (s : State) (s1 : State) (c : Cmd), accepted opCorrectionRead src tlvs s = some (s1, c)) ∧
    (∃ (src : Src) (tlvs : List Tlv) (s : State) (s1 : State) (c : Cmd), accepted opAttribModel src tlvs s = some (s1, c)) ∧
    (∃ (src : Src) (tlvs : List Tlv) (s : State) (s1 : State) (c : Cmd), accepted opProbeDither src tlvs s = some (s1, c)) ∧
    (∃ (src : Src) (tlvs : List Tlv) (s : State) (s1 : State) (c : Cmd) (n : Nat), accepted opSnapshot src tlvs s = some (s1, c) ∧ s.snapChannel = some n) ∧
    (∃ (p : Period) (r : List Period) (s : State), s.frm.beat = 0 ∧ s.att.closing = p :: r ∧ ((p.stopOk = true ∧ s.geo.mir.at_ < s.frm.now ∧ p.end_ < s.frm.now) ∨ p.end_ + 10 ≤ s.frm.now)) ∧
    (∃ (s : State), (s.att.closing = [] ∨ s.frm.beat ≠ 0)) :=
  ⟨⟨own, [tl 13 [0], tl 0x1D0 (nn 8 9)], mS id, acS opMeterRead own [tl 13 [0], tl 0x1D0 (nn 8 9)] (mS id), acC opMeterRead own [tl 13 [0], tl 0x1D0 (nn 8 9)] (mS id), pk, acc_some (by decide +kernel), by decide +kernel, by decide +kernel⟩,
   ⟨own, r1, mS id, acS opMeterRead own r1 (mS id), acC opMeterRead own r1 (mS id), rdg 4 0, acc_some (by decide +kernel), by decide +kernel, by decide +kernel⟩,
   ⟨own, r2, mS id, acS opMeterRead own (r2) (mS id), acC opMeterRead own (r2) (mS id), acc_some (by decide +kernel), by decide +kernel, by decide +kernel⟩,
   ⟨own, r3, mS id, acS opMeterRead own r3 (mS id), acC opMeterRead own r3 (mS id), rdg 5 2, acc_some (by decide +kernel), by decide +kernel, by decide +kernel⟩,
   ⟨own, r4, mS id, acS opMeterRead own r4 (mS id), acC opMeterRead own r4 (mS id), [1, 2, 3], acc_some (by decide +kernel), by decide +kernel, by decide +kernel, by decide +kernel⟩,
   ⟨own, r5, mS id, acS opMeterPeriod own r5 (mS id), acC opMeterPeriod own r5 (mS id), per.close, acc_some (by decide +kernel), by decide +kernel⟩,
   ⟨own, r6, mS id, acS opAttribRead own r6 (mS id), acC opAttribRead own r6 (mS id), per.close, acc_some (by decide +kernel), by decide +kernel, by decide +kernel⟩,
   ⟨own, r7, mS id, acS opAttribRead own r7 (mS id), acC opAttribRead own r7 (mS id), { per with first := 4990, end_ := 9000 }, acc_some (by decide +kernel), by decide +kernel, by decide +kernel⟩,
   ⟨own, [tl 13 [0], tl 0x1D5 [3, 4]], mS id, acS opWaveformStream own ([tl 13 [0], tl 0x1D5 [3, 4]]) (mS id), acC opWaveformStream own ([tl 13 [0], tl 0x1D5 [3, 4]]) (mS id), acc_some (by decide +kernel), by decide +kernel⟩,
   ⟨own, [tl 13 [1], tl 0x1D5 [3, 4, 4, 66]], mS id, acS opWaveformStream own ([tl 13 [1], tl 0x1D5 [3, 4, 4, 66]]) (mS id), acC opWaveformStream own ([tl 13 [1], tl 0x1D5 [3, 4, 4, 66]]) (mS id), acc_some (by decide +kernel), by decide +kernel⟩,
   ⟨own, [tl 13 [0x41]], mS id, acS opCorrectionRead own ([tl 13 [0x41]]) (mS id), acC opCorrectionRead own ([tl 13 [0x41]]) (mS id), acc_some (by decide +kernel)⟩,
   ⟨own, [epl [262145]], mS id, acS opAttribModel own ([epl [262145]]) (mS id), acC opAttribModel own ([epl [262145]]) (mS id), acc_some (by decide +kernel)⟩,
   ⟨own, [tl 13 [1], tl 4 (nn 4 2000)], mS id, acS opProbeDither own ([tl 13 [1], tl 4 (nn 4 2000)]) (mS id), acC opProbeDither own ([tl 13 [1], tl 4 (nn 4 2000)]) (mS id), acc_some (by decide +kernel)⟩,
   ⟨own, sT, mS id, acS opSnapshot own sT (mS id), acC opSnapshot own sT (mS id), 3, acc_some (by decide +kernel), by decide +kernel⟩,
   ⟨per, [], mS id, by decide +kernel, by decide +kernel, by decide +kernel⟩,
   ⟨on, by decide +kernel⟩⟩

end Metering

namespace Quarry

def rp (e : Nat) : PoleReport := { eui := e, maker := 1, model := 1, fw := 1, majors := 24, slots := 3, caps := 15, profiles := [0, 1, 1], supply := [0, 0, 0], fallback := 0, down := 1 }
def qp : Pole := { rep := rp 9, pair := .paired, adopted := true, reached := true, assoc := some { aidTx := 11, aidRx := 12, ctrTx := 5, high := 6 } }
def ty (s : State) : State := { s with ten := { s.ten with vctls := s.ten.vctls.map (fun e => if e.1 = 0 then (0, { e.2 with q := { e.2.q with rate := 1000, vlans := 64 }, rateNow := 1000 }) else e) } }
def H : Nat := mkHandle 3 1 1
def qS (f : Quarry → Quarry) : State := ty { lit with pw := { lit.pw with carrier := { lit.pw.carrier with strings := 0xFFFF, uplinks := 0xFFFF } }, strs := { lit.strs with grains := [(3, { rate := 1, record := [(1, qp)] })] }, qry := f { lit.qry with upl := [(0, { link := true }), (1, { link := true })], doms := [(100, { eps := [H], uplinks := [0, 1], macs := [(77, ⟨0x101, 10⟩), (78, ⟨0x101, 4999⟩)] }), (200, { uplinks := [1] })] } }
def vd : List Tlv := [tl 0x1F0 (nn 2 100), tl 0x1F1 (nn 2 2), epl [H]]
def fr (c dst src : Nat) : EthFrame := ⟨none, some c, 5, dst, src, 600, .data⟩
def lw (s : State) (f : EthFrame) : State := learn 100 f.src 0x100 { s with out := [] }
def ldm (s : State) (f : EthFrame) : Domain := tgetD (lw s f).qry.doms 100 {}
def qF : State := qS (fun q => { q with ports := [(0x101, { q := [⟨1, 0, 3, 99, 40, false⟩] })] })
def qE : State := match exec (.tenantFrame 0x100 (fr 100 77 8) 5000 false false) (qS id) with | .next t => t | _ => on
def cz : Nat × VClock := (qE.choose 0x101 900000000).getD (99, {})
def qS2 : State := { qS (fun q => { q with doms := [(100, { eps := [H], uplinks := [0, 1], macs := [(79, ⟨3, 4999⟩)] })] }) with strs := { lit.strs with grains := [(3, { rate := 1, record := [(1, { qp with credits := [5,5,5,50] })] })] } }
def qE2 : State := match exec (.tenantFrame 0x100 (fr 100 79 8) 5000 false false) qS2 with | .next t => t | _ => on
def cz2 : Nat × VClock := (qE2.choose 3 900000000).getD (99, {})
def cf (v n : Nat) (t : Option Nat) : CtlFrame := ⟨v, n, t, [byte n]⟩
def qC : State := qS (fun q => { q with ports := [(0x101, { ctl := [cf 3 100 (some 90), cf 5 80 (some 70), cf 3 60 none, cf 5 40 none] })] })
def dS (x : DmaCh) (f : State → State) : State := f { lit with qry := { lit.qry with dma := [(0, { holder := some 0 }), (2, { x with holder := some 0 })] } }
def db (fl li : Nat) : Bytes := [1, byte fl, byte li, 0] ++ nn 4 256 ++ [0, 0, 0, 0] ++ nn 8 100 ++ nn 4 8 ++ nn 4 16 ++ nn 4 3 ++ nn 8 5000 ++ nn 4 12 ++ nn 4 20 ++ nn 4 2
def sb (b : Bytes) (s : State) (x : Option Nat) : Desc := s.descOf 0 b x
def dP : State := dS { pending := 5 } id
def eT : List Tlv := [tl 0x202 (nn 4 90), tl 0x203 (nn 4 2000)]
def dsc (fl li : Nat) : Desc := (dS {} id).descOf 0 (db fl li) none
def opd (d : Desc) : DmaOp := ⟨(0, 4, 5), .desc d⟩
def memS (s : State) : State := (List.range 60).foldl (fun s i => s.hbmWrite (90 + i) (byte (i + 1))) s
def da : Desc := { dsc 0 0 with after := some (0, 1) }
def oe : DmaOp := ⟨(0, 6, 7), .export_ 90 1200⟩
def blk : RawBlock := ⟨0, true, [5, 6, 7]⟩
def bS (x : DmaCh) : State := dS x (fun s => { s with qry := { s.qry with blocks := [blk, blk] } })
theorem witness_TenantTrafficIsAttachedStoredAndSent :
    (∃ (src : Src) (tlvs : List Tlv) (s : State) (s1 : State) (c : Cmd), accepted opVlanAttach src tlvs s = some (s1, c)) ∧
    (∃ (src : Src) (tlvs : List Tlv) (s : State) (s1 : State) (c : Cmd), accepted opVlanDetach src tlvs s = some (s1, c) ∧ c.has 0x0001 = false ∧ c.has 0x01F1 = false) ∧
    (∃ (src : Src) (tlvs : List Tlv) (s : State) (s1 : State) (c : Cmd) (d : Domain), accepted opVlanDetach src tlvs s = some (s1, c) ∧ (c.has 0x0001 = true ∨ c.has 0x01F1 = true) ∧ tget s.qry.doms (domKey c.vctl (c.nat 0x01F0)) = some d ∧ ((∃ h ∈ d.eps, c.eps.contains h = false) ∨ (∃ u ∈ d.uplinks, c.uplinks.contains u = false))) ∧
    (∃ (src : Src) (tlvs : List Tlv) (s : State) (s1 : State) (c : Cmd), accepted opShaperSet src tlvs s = some (s1, c)) ∧
    (∃ (src : Src) (tlvs : List Tlv) (s : State) (s1 : State) (c : Cmd), accepted opQueueSet src tlvs s = some (s1, c)) ∧
    (∃ (p : Nat) (t0 : Nat) (f : EthFrame) (full : Bool) (s : State), 0x100 ≤ p ∧ p < 0x110 ∧ s.portUp p = true ∧ s.uplinkIn (p - 0x100) f = .unknown ∧ f.kind ≠ .msl) ∧
    (∃ (p : Nat) (t0 : Nat) (k : Nat) (o : Nat) (f : EthFrame) (full : Bool) (b : Bool) (d : Domain) (s : State) (w : State), 0x100 ≤ p ∧ p < 0x110 ∧ s.portUp p = true ∧ s.uplinkIn (p - 0x100) f = .dom k ∧ (tget s.qry.doms k).isSome = true ∧ f.kind ≠ .msl ∧ learn k f.src p { s with out := [] } = w ∧ tget w.qry.doms k = some d ∧ w.outPorts d p f = [o] ∧ f.len ≤ w.portMax o ∧ w.room (k / 4096) o ((w.tcfg (k / 4096)).pcp.getD f.pcp 0) (cdiv f.len 256) = some b) ∧
    (∃ (p : Nat) (t0 : Nat) (k : Nat) (o : Nat) (f : EthFrame) (full : Bool) (d : Domain) (s : State) (w : State), 0x100 ≤ p ∧ p < 0x110 ∧ s.portUp p = true ∧ s.uplinkIn (p - 0x100) f = .dom k ∧ (tget s.qry.doms k).isSome = true ∧ f.kind ≠ .msl ∧ learn k f.src p { s with out := [] } = w ∧ tget w.qry.doms k = some d ∧ w.outPorts d p f = [o] ∧ f.len ≤ w.portMax o ∧ w.room (k / 4096) o ((w.tcfg (k / 4096)).pcp.getD f.pcp 0) (cdiv f.len 256) = none) ∧
    (∃ (p : Nat) (t0 : Nat) (v : Nat) (i : Nat) (tg : Nat) (du : Nat) (k : VClock) (f : Stored) (s : State), 0x100 ≤ p ∧ p < 0x112 ∧ s.portUp p = true ∧ nextCtl (s.qport p).ctl = none ∧ s.choose p (t0 * 1000) = some (v, k) ∧ k.head = some (i, tg, du) ∧ tget s.qry.store i = some f ∧ f.frame.kind = .data) ∧
    (∃ (p : Nat) (t0 : Nat) (v : Nat) (i : Nat) (tg : Nat) (du : Nat) (k : VClock) (f : Stored) (s : State), p < 0x100 ∧ s.portServes p = true ∧ nextCtl (s.qport p).ctl = none ∧ s.choose p (t0 * 1000) = some (v, k) ∧ k.head = some (i, tg, du) ∧ tget s.qry.store i = some f ∧ f.frame.kind = .data) ∧
    (∃ (p : Nat) (t0 : Nat) (tg : Nat) (f : CtlFrame) (s : State), p < 0x112 ∧ s.portServes p = true ∧ nextCtl (s.qport p).ctl = some (f, tg)) ∧
    (∃ (p : Nat) (t0 : Nat) (b : List (Nat × Nat)) (s : State), 0x100 ≤ p ∧ nextCtl (s.qport p).ctl = none ∧ s.choose p (t0 * 1000) = none) ∧
    (∃ (v : Nat) (i : Nat) (m : Nat) (d : Domain) (x : Mac) (s : State), tget s.qry.doms (domKey v i) = some d ∧ tget d.macs m = some x ∧ x.last + 30000 ≤ s.frm.now) ∧
    (∃ (n : Nat) (up : Bool) (s : State), n < 16 ∧ s.pw.main = true ∧ s.uplinkFitted n = true ∧ (up = false ∨ s.thm.idled.contains (0x100 + n) = false)) :=
  ⟨⟨own, [tl 0x1F0 (nn 2 300), tl 0x1F1 (nn 2 3)], qS id, acS opVlanAttach own ([tl 0x1F0 (nn 2 300), tl 0x1F1 (nn 2 3)]) (qS id), acC opVlanAttach own ([tl 0x1F0 (nn 2 300), tl 0x1F1 (nn 2 3)]) (qS id), acc_some (by decide +kernel)⟩,
   ⟨own, [tl 0x1F0 (nn 2 100)], qS id, acS opVlanDetach own ([tl 0x1F0 (nn 2 100)]) (qS id), acC opVlanDetach own ([tl 0x1F0 (nn 2 100)]) (qS id), acc_some (by decide +kernel), by decide +kernel, by decide +kernel⟩,
   ⟨own, vd, qS id, acS opVlanDetach own vd (qS id), acC opVlanDetach own vd (qS id), { eps := [H], uplinks := [0, 1], macs := [(77, ⟨0x101, 10⟩), (78, ⟨0x101, 4999⟩)] }, acc_some (by decide +kernel), by decide +kernel, by decide +kernel, by decide +kernel⟩,
   ⟨own, [tl 0x1F0 (nn 2 100), tl 0x1F7 ([2,0,0,0] ++ nn 4 500)], qS id, acS opShaperSet own ([tl 0x1F0 (nn 2 100), tl 0x1F7 ([2,0,0,0] ++ nn 4 500)]) (qS id), acC opShaperSet own ([tl 0x1F0 (nn 2 100), tl 0x1F7 ([2,0,0,0] ++ nn 4 500)]) (qS id), acc_some (by decide +kernel)⟩,
   ⟨own, [tl 0x1F0 (nn 2 100), tl 0x1F5 [0,1,2,3,4,4,4,4], tl 0x1F6 ([2,0,0,0] ++ nn 4 50)], qS id, acS opQueueSet own ([tl 0x1F0 (nn 2 100), tl 0x1F5 [0,1,2,3,4,4,4,4], tl 0x1F6 ([2,0,0,0] ++ nn 4 50)]) (qS id), acC opQueueSet own ([tl 0x1F0 (nn 2 100), tl 0x1F5 [0,1,2,3,4,4,4,4], tl 0x1F6 ([2,0,0,0] ++ nn 4 50)]) (qS id), acc_some (by decide +kernel)⟩,
   ⟨0x100, 5, fr 999 7 8, false, qS id, by decide +kernel, by decide +kernel, by decide +kernel, by decide +kernel, by decide +kernel⟩,
   ⟨0x100, 5, 100, 0x101, fr 100 77 8, false, false, ldm (qS id) (fr 100 77 8), qS id, lw (qS id) (fr 100 77 8), by decide +kernel, by decide +kernel, by decide +kernel, by decide +kernel, by decide +kernel, by decide +kernel, by decide +kernel, by decide +kernel, by decide +kernel, by decide +kernel, by decide +kernel⟩,
   ⟨0x100, 5, 100, 0x101, fr 100 77 8, false, ldm qF (fr 100 77 8), qF, lw qF (fr 100 77 8), by decide +kernel, by decide +kernel, by decide +kernel, by decide +kernel, by decide +kernel, by decide +kernel, by decide +kernel, by decide +kernel, by decide +kernel, by decide +kernel, by decide +kernel⟩,
   ⟨0x101, 900000, cz.1, (cz.2.head.getD (9,9,9)).1, (cz.2.head.getD (9,9,9)).2.1, (cz.2.head.getD (9,9,9)).2.2, cz.2, ⟨fr 100 77 8, 0, 3, 1, 5000, 0x100⟩, qE, by decide +kernel, by decide +kernel, by decide +kernel, by decide +kernel, by decide +kernel, by decide +kernel, by decide +kernel, by decide +kernel⟩,
   ⟨3, 900000, cz2.1, (cz2.2.head.getD (9,9,9)).1, (cz2.2.head.getD (9,9,9)).2.1, (cz2.2.head.getD (9,9,9)).2.2, cz2.2, ⟨fr 100 79 8, 0, 3, 1, 5000, 0x100⟩, qE2, by decide +kernel, by decide +kernel, by decide +kernel, by decide +kernel, by decide +kernel, by decide +kernel, by decide +kernel⟩,
   ⟨0x101, 900000, 70, cf 5 80 (some 70), qC, by decide +kernel, by decide +kernel, by decide +kernel⟩,
   ⟨0x101, 900000, [], qS id, by decide +kernel, by decide +kernel, by decide +kernel⟩,
   ⟨0, 100, 77, { eps := [H], uplinks := [0, 1], macs := [(77, ⟨0x101, 10⟩), (78, ⟨0x101, 4999⟩)] }, ⟨0x101, 10⟩, { qS id with frm := { lit.frm with now := 40000 } }, by decide +kernel, by decide +kernel, by decide +kernel⟩,
   ⟨5, true, (qS id).setReg (aQryUplCfg 5) 4096, by decide +kernel, by decide +kernel, by decide +kernel, by decide +kernel⟩⟩
theorem witness_DmaMovesFencesAndExports :
    (∃ (src : Src) (tlvs : List Tlv) (s : State) (s1 : State) (c : Cmd) (n : Nat), accepted opDmaDescriptor src tlvs s = some (s1, c) ∧ s.dmaNo c.vctl c.descCh = some n) ∧
    (∃ (src : Src) (tlvs : List Tlv) (s : State) (s1 : State) (c : Cmd) (n : Nat), accepted opDmaFence src tlvs s = some (s1, c) ∧ s.dmaNo c.vctl (c.nat 0x000D) = some n) ∧
    (∃ (src : Src) (tlvs : List Tlv) (s : State) (s1 : State) (c : Cmd) (n : Nat), accepted opExportBlock src tlvs s = some (s1, c) ∧ s.dmaNo c.vctl 0 = some n) ∧
    (∃ (src : Src) (tlvs : List Tlv) (s : State) (s1 : State) (c : Cmd), accepted opWorkspaceInfo src tlvs s = some (s1, c)) ∧
    (∃ (n : Nat) (l : Nat) (tc : Nat) (d : Desc) (s : State), n < 32 ∧ (l = 1 ∨ l = 2) ∧ (s.dch n).holder.isSome = true ∧ s.headDesc n = some d ∧ d.onLine l tc = true ∧ d.moved < d.total ∧ s.afterDone d.after = true) ∧
    (∃ (n : Nat) (l : Nat) (tc : Nat) (d : Desc) (s : State), n < 32 ∧ (l = 1 ∨ l = 2) ∧ (s.dch n).holder.isSome = true ∧ s.headDesc n = some d ∧ d.onLine l tc = true ∧ d.moved < d.total ∧ s.afterDone d.after = false ∧ (s.dch n).pending < 255) ∧
    (∃ (n : Nat) (v : Nat) (o : DmaOp) (d : Desc) (r : List DmaOp) (s : State), (s.dch n).holder = some v ∧ (s.dch n).q = o :: r ∧ o.kind = .desc d ∧ d.paced = false ∧ d.moved = 0 ∧ d.err = false ∧ d.after = none ∧ d.sspace ≠ 1 ∧ (∀ m < 32, (s.dch m).pending = 0) ∧ (∀ i < d.total, s.thm.bad.contains (s.spaceAddr v d.sspace (lineAddr d.saddr d.sline d.sstride i) / 32 * 32) = false) ∧ (∀ i < d.total, s.spaceAddr v d.dspace (lineAddr d.daddr d.dline d.dstride i) < hbmSize) ∧ (∀ i < d.total, ∀ j < d.total, s.spaceAddr v d.sspace (lineAddr d.saddr d.sline d.sstride i) ≠ s.spaceAddr v d.dspace (lineAddr d.daddr d.dline d.dstride j)) ∧ ((∀ i < d.total, ∀ j < d.total, s.spaceAddr v d.dspace (lineAddr d.daddr d.dline d.dstride i) = s.spaceAddr v d.dspace (lineAddr d.daddr d.dline d.dstride j) → i = j))) ∧
    (∃ (n : Nat) (v : Nat) (o : DmaOp) (d : Desc) (r : List DmaOp) (s : State), (s.dch n).holder = some v ∧ (s.dch n).q = o :: r ∧ o.kind = .desc d ∧ s.afterDone d.after = false) ∧
    (∃ (n : Nat) (v : Nat) (off : Nat) (len : Nat) (o : DmaOp) (r : List DmaOp) (s : State), (s.dch n).holder = some v ∧ (s.dch n).q = o :: r ∧ o.kind = .export_ off len ∧ (∀ m < 32, (s.dch m).pending = 0) ∧ (∀ j < len, s.isBad (s.wsAddr v (off + j)) = false) ∧ s.active v = true) ∧
    (∃ (n : Nat) (k : Nat) (o : DmaOp) (r : List DmaOp) (s : State), (s.dch n).q = o :: r ∧ o.kind = .fence k ∧ (∀ m < 32, (s.dch m).pending = 0)) ∧
    (∃ (n : Nat) (b : RawBlock) (r : List RawBlock) (s : State), s.qry.blocks = b :: r ∧ s.blockCh b = some n ∧ (s.dch n).fifo.length + b.words.length ≤ 16384) ∧
    (∃ (n : Nat) (b : RawBlock) (r : List RawBlock) (s : State), s.qry.blocks = b :: r ∧ s.blockCh b = some n ∧ 16384 < (s.dch n).fifo.length + b.words.length) :=
  ⟨⟨own, [tl 0x200 (db 0 0)], dS {} id, acS opDmaDescriptor own [tl 0x200 (db 0 0)] (dS {} id), acC opDmaDescriptor own [tl 0x200 (db 0 0)] (dS {} id), 2, acc_some (by decide +kernel), by decide +kernel⟩,
   ⟨own, [tl 13 [1]], dP, acS opDmaFence own [tl 13 [1]] dP, acC opDmaFence own [tl 13 [1]] dP, 2, acc_some (by decide +kernel), by decide +kernel⟩,
   ⟨own, eT, dP, acS opExportBlock own eT dP, acC opExportBlock own eT dP, 0, acc_some (by decide +kernel), by decide +kernel⟩,
   ⟨own, [], dP, acS opWorkspaceInfo own ([]) (dP), acC opWorkspaceInfo own ([]) (dP), acc_some (by decide +kernel)⟩,
   ⟨2, 1, 0, dsc 1 1, dS { q := [opd (dsc 1 1)] } id, by decide +kernel, by decide +kernel, by decide +kernel, by decide +kernel, by decide +kernel, by decide +kernel, by decide +kernel⟩,
   ⟨2, 1, 0, { dsc 1 1 with after := some (0, 1) }, dS { q := [opd { dsc 1 1 with after := some (0, 1) }] } id, by decide +kernel, by decide +kernel, by decide +kernel, by decide +kernel, by decide +kernel, by decide +kernel, by decide +kernel, by decide +kernel⟩,
   ⟨2, 0, opd (dsc 0 0), dsc 0 0, [⟨(0, 6, 7), .fence 1⟩], dS { q := [opd (dsc 0 0), ⟨(0, 6, 7), .fence 1⟩] } memS, by decide +kernel, by decide +kernel, by decide +kernel, by decide +kernel, by decide +kernel, by decide +kernel, by decide +kernel, by decide +kernel, by decide +kernel, by decide +kernel, by decide +kernel, by decide +kernel, by decide +kernel⟩,
   ⟨2, 0, opd da, da, [], dS { q := [opd da] } memS, by decide +kernel, by decide +kernel, by decide +kernel, by decide +kernel⟩,
   ⟨2, 0, 90, 1200, oe, [opd da], dS { q := [oe, opd da] } memS, by decide +kernel, by decide +kernel, by decide +kernel, by decide +kernel, by decide +kernel, by decide +kernel⟩,
   ⟨2, 1, ⟨(0, 6, 7), .fence 1⟩, [opd da], dS { q := [⟨(0, 6, 7), .fence 1⟩, opd da] } memS, by decide +kernel, by decide +kernel, by decide +kernel⟩,
   ⟨2, blk, [blk], bS { fifo := [1, 2], level := 4 }, by decide +kernel, by decide +kernel, by decide +kernel⟩,
   ⟨2, blk, [blk], bS { fifo := List.replicate 16383 4, level := 4, q := [opd (dsc 1 0)] }, by decide +kernel, by decide +kernel, by decide +kernel⟩⟩

end Quarry

namespace Air

def ty (s : State) : State := { s with ten := { s.ten with vctls := s.ten.vctls.map (fun e => if e.1 = 0 then (0, { e.2 with q := { e.2.q with airEp := 1000, dwell := 500 }, dwellNow := 500 }) else e) } }
def ep (n : Nat) : AirEp := { lighting := true, joined := true, eui := n + 1, listen := 3, upHi := 70, window := 5, down := 9, joinCtr := 4, lastUp := 4990 }
def aS (f : Air → Air) : State := ty { lit with air := f { lit.air with region := 2, eps := [(1, ep 1), (2, { ep 2 with mode := 1 })], ports := (List.range 4).map (fun p => (p, { en := true })), q := [], nextId := 7 }, boot := { lit.boot with airOut := false }, flt := { lit.flt with rngOk := true } }
def enT : List Tlv := [tl 0x210 (nn 8 99), tl 0x211 (nn 16 5), tl 0x212 [2], tl 0x213 [255]]
def aV : State := ten5 (aS (fun a => { a with eps := [], vemer := some ⟨1, 0, (List.range 16)⟩ }))
def tq (s : State) : State := { s with ten := { s.ten with vctls := s.ten.vctls.map (fun e => if e.1 = 5 then (5, { e.2 with q := { e.2.q with airEp := 10 } }) else e) } }
def vT : List Tlv := [tl 0x216 (nn 4 (mkAir 3) ++ nn 16 7 ++ nn 4 8 ++ nn 4 9), tl 0x212 [2]]
def tx (k : AirKind) : AirTx := { id := 3, item := 5, handle := some (mkAir 1), payer := some 0, kind := k, since := 4900, cmd := some (0, 4, 5), retries := 2 }
def sp (e : AirTx) (s : State) (t : Nat) : Nat × Nat × Nat := (s.txSpot e t).getD (9, 9, 9)
def oa (q : Option Nat) : AirOn := ⟨0, 3, 1, 100, 900, false, q, false⟩
def un (k : AirKind) (f : AirTx → AirTx) : AirTx := f { tx k with phase := .unacked, msgids := [44], lastTx := 4000 }
def hw : AirTx := { tx (.message [1]) with handle := some (mkAir 2), hold := 100 }
def late (f : Air → Air) : State := { aS f with frm := { lit.frm with now := 500000 } }
def dn : AirEp := { ep 1 with down := 0xF0000000 }
def mkP (ty ver org dest fcnt : Nat) (rest : Bytes) : Bytes := withFcs ([byte (ty + 8 + 48), byte ver] ++ beBytes 2 44 ++ beBytes 5 (org * 2 ^ 20 + dest) ++ beBytes 4 fcnt ++ rest)
def rx (p : Bytes) (f : AirRx → AirRx) : AirRx := f { ch := 3, endT := 50001000, stamp := 5, copies := [⟨1, -80, false⟩, ⟨2, -70, false⟩], psdu := p, mic := true, plain := [2, 1, 2] }
def dP (n : Nat) : Bytes := mkP 0 1 (mkAir 1) 0xFFFFF n (List.range 11 |>.map byte)
def bz : List AirOn := [⟨4096, 3, 0, 31000000, 31400000, true, none, true⟩, ⟨4096, 3, 0, 40000000, 40400000, true, none, true⟩]
def ak : AirRx := rx (withFcs ([1, 1] ++ beBytes 2 44 ++ beBytes 3 0xFFFFF0)) id
def jn : AirRx := rx (mkP 2 1 0xFFFFE 0xFFFFF 5 (beBytes 8 2 ++ beBytes 8 77)) id
def aw : AckWin := ⟨2, 3, 50002000, mkAir 1, 44⟩
def ja : JoinAcc := ⟨1, 3, 50001000, 44, 5, 6⟩
def je : AirEp := { ep 1 with bestPort := some 2, session := [1, 2] }
theorem witness_AirCommandsAreCarriedOut :
    (∃ (src : Src) (tlvs : List Tlv) (s : State) (s1 : State) (c : Cmd), accepted opAirEnrol src tlvs s = some (s1, c) ∧ c.vctl = 0) ∧
    (∃ (src : Src) (tlvs : List Tlv) (s : State) (s1 : State) (c : Cmd), accepted opAirEnrol src tlvs s = some (s1, c) ∧ c.vctl ≠ 0) ∧
    (∃ (src : Src) (tlvs : List Tlv) (s : State) (s1 : State) (c : Cmd) (h : Nat), accepted opAirRemove src tlvs s = some (s1, c) ∧ c.eps = [h]) ∧
    (∃ (src : Src) (tlvs : List Tlv) (s : State) (s1 : State) (c : Cmd), accepted opAirSend src tlvs s = some (s1, c)) ∧
    (∃ (src : Src) (tlvs : List Tlv) (s : State) (s1 : State) (c : Cmd), accepted opAirRawTx src tlvs s = some (s1, c)) ∧
    (∃ (src : Src) (tlvs : List Tlv) (s : State) (s1 : State) (c : Cmd), accepted opChannelPlan src tlvs s = some (s1, c)) ∧
    (∃ (src : Src) (tlvs : List Tlv) (s : State) (s1 : State) (c : Cmd), accepted opAirRawCapture src tlvs s = some (s1, c)) ∧
    (∃ (src : Src) (tlvs : List Tlv) (s : State) (s1 : State) (c : Cmd), accepted opVemerSet src tlvs s = some (s1, c)) ∧
    (∃ (p : Nat) (v : Nat) (s : State), p < 4 ∧ s.pw.main = true ∧ s.boot.airOut = false) :=
  ⟨⟨own, enT, aS id, acS opAirEnrol own (enT) (aS id), acC opAirEnrol own (enT) (aS id), acc_some (by decide +kernel), by decide +kernel⟩,
   ⟨t5, enT, tq (ten5 (aS id)), acS opAirEnrol (t5) (enT) (tq (ten5 (aS id))), acC opAirEnrol (t5) (enT) (tq (ten5 (aS id))), acc_some (by decide +kernel), by decide +kernel⟩,
   ⟨own, [epl [mkAir 1]], aS (fun a => { a with q := [tx (.message [1])], joins := [⟨1, 3, 5, 5, 5, 6⟩] }), acS opAirRemove own [epl [mkAir 1]] (aS (fun a => { a with q := [tx (.message [1])], joins := [⟨1, 3, 5, 5, 5, 6⟩] })), acC opAirRemove own [epl [mkAir 1]] (aS (fun a => { a with q := [tx (.message [1])], joins := [⟨1, 3, 5, 5, 5, 6⟩] })), mkAir 1, acc_some (by decide +kernel), by decide +kernel⟩,
   ⟨own, [epl [mkAir 1], tl 0x217 [0], tl 9 [1, 2, 3]], aS (fun a => { a with q := [tx (.message [1]), { tx (.message [1]) with payer := some 3 }] }), acS opAirSend own ([epl [mkAir 1], tl 0x217 [0], tl 9 [1, 2, 3]]) (aS (fun a => { a with q := [tx (.message [1]), { tx (.message [1]) with payer := some 3 }] })), acC opAirSend own ([epl [mkAir 1], tl 0x217 [0], tl 9 [1, 2, 3]]) (aS (fun a => { a with q := [tx (.message [1]), { tx (.message [1]) with payer := some 3 }] })), acc_some (by decide +kernel)⟩,
   ⟨own, [tl 0x21C ([2, 3, 0, 0] ++ nn 20 8)], aS (fun a => { a with q := [tx (.message [1])] }), acS opAirRawTx own ([tl 0x21C ([2, 3, 0, 0] ++ nn 20 8)]) (aS (fun a => { a with q := [tx (.message [1])] })), acC opAirRawTx own ([tl 0x21C ([2, 3, 0, 0] ++ nn 20 8)]) (aS (fun a => { a with q := [tx (.message [1])] })), acc_some (by decide +kernel)⟩,
   ⟨own, [tl 0x219 [1]], aS (fun a => { a with eps := [] }), acS opChannelPlan own ([tl 0x219 [1]]) (aS (fun a => { a with eps := [] })), acC opChannelPlan own ([tl 0x219 [1]]) (aS (fun a => { a with eps := [] })), acc_some (by decide +kernel)⟩,
   ⟨own, [tl 13 [1], tl 0x21D [1]], aS id, acS opAirRawCapture own ([tl 13 [1], tl 0x21D [1]]) (aS id), acC opAirRawCapture own ([tl 13 [1], tl 0x21D [1]]) (aS id), acc_some (by decide +kernel)⟩,
   ⟨own, [tl 0x21E ([1, 1, 2, 0] ++ (List.range 16).map byte)], aS id, acS opVemerSet own ([tl 0x21E ([1, 1, 2, 0] ++ (List.range 16).map byte)]) (aS id), acC opVemerSet own ([tl 0x21E ([1, 1, 2, 0] ++ (List.range 16).map byte)]) (aS id), acc_some (by decide +kernel)⟩,
   ⟨2, 1, aS (fun a => { a with ports := [(2, { fault := true, vswr := 40 })] }), by decide +kernel, by decide +kernel, by decide +kernel⟩⟩
theorem witness_AirFramesAreSent :
    (∃ (t0 : Nat) (p : Nat) (ch : Nat) (d : Nat) (e : AirTx) (r : List AirTx) (s : State), s.airOn = true ∧ s.air.q = e :: r ∧ s.txSpot e t0 = some (p, ch, d) ∧ s.dwellOk (payerCode e.payer) ch t0 d = true) ∧
    (∃ (t0 : Nat) (s : State), s.airOn = true ∧ (∀ e ∈ s.air.q, s.txSpot e t0 = none)) ∧
    (∃ (p : Nat) (t0 : Nat) (v : Nat) (x : AirOn) (s : State), s.air.onAir.find? (fun x => x.port == p && !x.ended && decide (x.stop ≤ t0)) = some x ∧ x.qid.bind s.tx? = none) ∧
    (∃ (p : Nat) (t0 : Nat) (v : Nat) (a : Nat) (b : Nat) (w : Bytes) (x : AirOn) (e : AirTx) (s : State), v ≤ 30 ∧ s.air.onAir.find? (fun x => x.port == p && !x.ended && decide (x.stop ≤ t0)) = some x ∧ x.qid.bind s.tx? = some e ∧ e.kind = .raw a b w) ∧
    (∃ (i : Nat) (e : AirTx) (s : State), s.airOn = true ∧ s.tx? i = some e ∧ e.phase = .unacked ∧ e.lastTx + 5 ≤ s.frm.now ∧ 0 < e.retries) ∧
    (∃ (i : Nat) (w : Bytes) (e : AirTx) (s : State), s.airOn = true ∧ s.tx? i = some e ∧ e.phase = .unacked ∧ e.lastTx + 5 ≤ s.frm.now ∧ e.retries = 0 ∧ e.kind = .message w) ∧
    (∃ (i : Nat) (a : Nat) (b : Nat) (e : AirTx) (s : State), s.tx? i = some e ∧ e.kind = .regRead a b ∧ (e.phase = .resp ∨ e.phase = .unacked) ∧ e.lastTx + 200 ≤ s.frm.now) ∧
    (∃ (i : Nat) (h : Nat) (e : AirTx) (x : AirEp) (s : State), s.tx? i = some e ∧ e.handle = some h ∧ tget s.air.eps (hAir h) = some x ∧ bit x.mode 0 = true ∧ e.cmd.isSome = true ∧ e.phase = .waiting ∧ e.since + e.hold ≤ s.frm.now) ∧
    (∃ (i : Nat) (a : Nat) (b : Nat) (w : Bytes) (e : AirTx) (s : State), s.tx? i = some e ∧ e.kind = .raw a b w ∧ e.phase = .waiting ∧ e.since + 100 ≤ s.frm.now) ∧
    (∃ (n : Nat) (e : AirEp) (s : State), tget s.air.eps n = some e ∧ s.airOn = true ∧ e.lighting = true ∧ s.airReach e = true ∧ e.lastLight + e.fallback * 3000 ≤ s.frm.now ∧ s.waitingLight (mkAir n) = none) ∧
    (∃ (n : Nat) (e : AirEp) (s : State), tget s.air.eps n = some e ∧ e.joined = true ∧ e.silent = false ∧ e.lastUp + e.fallback * 6000 ≤ s.frm.now) ∧
    (∃ (n : Nat) (e : AirEp) (s : State), tget s.air.eps n = some e ∧ e.joined = true ∧ 0xF0000000 ≤ e.down ∧ e.downDue = false ∧ e.vemer = false) ∧
    (∃ (t0 : Nat) (w : AckWin) (s : State), s.air.acks.find? (fun a => a.start == t0) = some w) ∧
    (∃ (t0 : Nat) (p : Nat) (j : JoinAcc) (e : AirEp) (s : State), s.air.joins = [j] ∧ j.endT + 5000 ≤ t0 ∧ t0 ≤ j.endT + 55000 ∧ tget s.air.eps j.n = some e ∧ e.bestPort = some p ∧ p < 4 ∧ s.vport ≠ some p ∧ s.txOn p = true ∧ s.portFree p t0 (t0 + airtime 43) = true ∧ s.chanFree p j.ch t0 (t0 + airtime 43) = true ∧ s.airOn = true ∧ s.usable j.ch = true ∧ s.portsLeft t0 (t0 + airtime 43) = true ∧ s.dwellOk 4096 j.ch t0 (airtime 43) = true) ∧
    (∃ (t0 : Nat) (j : JoinAcc) (s : State), s.air.joins = [j] ∧ j.endT + 55000 < t0) :=
  ⟨⟨50001000, (sp (tx (.message [1, 2])) (aS (fun a => { a with q := [tx (.message [1, 2])] })) 50001000).1, (sp (tx (.message [1, 2])) (aS (fun a => { a with q := [tx (.message [1, 2])] })) 50001000).2.1, (sp (tx (.message [1, 2])) (aS (fun a => { a with q := [tx (.message [1, 2])] })) 50001000).2.2, tx (.message [1, 2]), [], aS (fun a => { a with q := [tx (.message [1, 2])] }), by decide +kernel, by decide +kernel, by decide +kernel, by decide +kernel⟩,
   ⟨50001000, aS id, by decide +kernel, by decide +kernel⟩,
   ⟨1, 900, 31, oa none, aS (fun a => { a with onAir := [oa none] }), by decide +kernel, by decide +kernel⟩,
   ⟨1, 900, 20, 1, 5, [1], oa (some 3), { tx (.raw 1 5 [1]) with phase := .sending }, aS (fun a => { a with onAir := [oa (some 3)], q := [{ tx (.raw 1 5 [1]) with phase := .sending }] }), by decide +kernel, by decide +kernel, by decide +kernel, by decide +kernel⟩,
   ⟨3, un (.message [1]) id, aS (fun a => { a with q := [un (.message [1]) id] }), by decide +kernel, by decide +kernel, by decide +kernel, by decide +kernel, by decide +kernel⟩,
   ⟨3, [1], un (.message [1]) (fun x => { x with retries := 0 }), aS (fun a => { a with q := [un (.message [1]) (fun x => { x with retries := 0 })] }), by decide +kernel, by decide +kernel, by decide +kernel, by decide +kernel, by decide +kernel, by decide +kernel⟩,
   ⟨3, 8, 2, un (.regRead 8 2) id, aS (fun a => { a with q := [un (.regRead 8 2) id] }), by decide +kernel, by decide +kernel, by decide +kernel, by decide +kernel⟩,
   ⟨3, mkAir 2, hw, { ep 2 with mode := 1 }, aS (fun a => { a with q := [hw] }), by decide +kernel, by decide +kernel, by decide +kernel, by decide +kernel, by decide +kernel, by decide +kernel, by decide +kernel⟩,
   ⟨3, 1, 5, [1], tx (.raw 1 5 [1]), aS (fun a => { a with q := [tx (.raw 1 5 [1])] }), by decide +kernel, by decide +kernel, by decide +kernel, by decide +kernel⟩,
   ⟨1, ep 1, late id, by decide +kernel, by decide +kernel, by decide +kernel, by decide +kernel, by decide +kernel, by decide +kernel⟩,
   ⟨1, ep 1, late id, by decide +kernel, by decide +kernel, by decide +kernel, by decide +kernel⟩,
   ⟨1, dn, aS (fun a => { a with eps := [(1, dn)] }), by decide +kernel, by decide +kernel, by decide +kernel, by decide +kernel, by decide +kernel⟩,
   ⟨50002000, aw, aS (fun a => { a with acks := [aw] }), by decide +kernel⟩,
   ⟨50006000, 2, ja, je, aS (fun a => { a with joins := [ja], eps := [(1, je)] }), by decide +kernel, by decide +kernel, by decide +kernel, by decide +kernel, by decide +kernel, by decide +kernel, by decide +kernel, by decide +kernel, by decide +kernel, by decide +kernel, by decide +kernel, by decide +kernel, by decide +kernel, by decide +kernel⟩,
   ⟨50056001, ja, aS (fun a => { a with joins := [ja] }), by decide +kernel, by decide +kernel⟩⟩
theorem witness_AirFramesAreReceived :
    (∃ (r : AirRx) (s : State), s.airOn = true ∧ s.usable r.ch = true ∧ (liveCopies r { s with out := [] }).2 ≠ [] ∧ s.air.capture = [] ∧ r.fcs = false) ∧
    (∃ (r : AirRx) (e : AirEp) (w : Bytes) (s : State), s.airOn = true ∧ s.usable r.ch = true ∧ (liveCopies r { s with out := [] }).2 ≠ [] ∧ s.air.vemer = none ∧ r.fcs = true ∧ 11 ≤ r.len ∧ r.len ≤ 255 ∧ r.shaped = true ∧ r.ver = 1 ∧ r.ty = 0 ∧ addrOk r.origin = true ∧ r.dest = 0xFFFFF ∧ s.airEp? r.origin = some e ∧ e.joined = true ∧ r.mic = true ∧ e.vemer = false ∧ fcntFresh e r.fcnt = true ∧ r.app = .message w) ∧
    (∃ (r : AirRx) (e : AirEp) (s : State), s.airOn = true ∧ s.usable r.ch = true ∧ (liveCopies r { s with out := [] }).2 ≠ [] ∧ s.air.vemer = none ∧ r.fcs = true ∧ 11 ≤ r.len ∧ r.len ≤ 255 ∧ r.shaped = true ∧ r.ver = 1 ∧ r.ty = 0 ∧ addrOk r.origin = true ∧ r.dest = 0xFFFFF ∧ s.airEp? r.origin = some e ∧ (e.joined = false ∨ r.mic = false ∨ e.vemer = true)) ∧
    (∃ (r : AirRx) (e : AirEp) (s : State), s.airOn = true ∧ s.usable r.ch = true ∧ (liveCopies r { s with out := [] }).2 ≠ [] ∧ s.air.vemer = none ∧ r.fcs = true ∧ 11 ≤ r.len ∧ r.len ≤ 255 ∧ r.shaped = true ∧ r.ver = 1 ∧ r.ty = 0 ∧ addrOk r.origin = true ∧ r.dest = 0xFFFFF ∧ s.airEp? r.origin = some e ∧ e.joined = true ∧ r.mic = true ∧ e.vemer = false ∧ fcntFresh e r.fcnt = false) ∧
    (∃ (r : AirRx) (p : Nat) (e : AirEp) (s : State), s.airOn = true ∧ s.usable r.ch = true ∧ (liveCopies r { s with out := [] }).2 ≠ [] ∧ s.air.vemer = none ∧ r.fcs = true ∧ 11 ≤ r.len ∧ r.len ≤ 255 ∧ r.shaped = true ∧ r.ver = 1 ∧ r.ty = 0 ∧ addrOk r.origin = true ∧ r.dest = 0xFFFFF ∧ s.airEp? r.origin = some e ∧ r.ackReq = true ∧ r.relayed = false ∧ s.ackPort r (liveCopies r { s with out := [] }).2 = some p) ∧
    (∃ (r : AirRx) (e : AirTx) (w : Bytes) (s : State), s.airOn = true ∧ s.usable r.ch = true ∧ (liveCopies r { s with out := [] }).2 ≠ [] ∧ s.air.vemer = none ∧ r.fcs = true ∧ 11 ≤ r.len ∧ r.len ≤ 255 ∧ r.shaped = true ∧ r.ver = 1 ∧ r.ty = 1 ∧ r.ackOf = 0xFFFFF ∧ s.air.q.find? (fun e => e.phase == .unacked && e.msgids.contains r.msgid) = some e ∧ e.kind = .message w) ∧
    (∃ (r : AirRx) (n : Nat) (e : AirEp) (s : State), s.airOn = true ∧ s.usable r.ch = true ∧ (liveCopies r { s with out := [] }).2 ≠ [] ∧ s.air.vemer = none ∧ r.fcs = true ∧ 11 ≤ r.len ∧ r.len ≤ 255 ∧ r.shaped = true ∧ r.ver = 1 ∧ r.ty = 2 ∧ r.origin = 0xFFFFE ∧ r.dest = 0xFFFFF ∧ s.air.eps.find? (fun e => !e.2.vemer && e.2.eui == r.eui) = some (n, e) ∧ tget s.air.eps n = some e ∧ r.mic = true ∧ e.joinCtr < r.fcnt ∧ s.flt.rngOk = true) :=
  ⟨⟨rx ((dP 72).set 5 99) id, aS id, by decide +kernel, by decide +kernel, by decide +kernel, by decide +kernel, by decide +kernel⟩,
   ⟨rx (dP 72) id, ep 1, [1, 2], aS (fun a => { a with capture := [(0, 1)] }), by decide +kernel, by decide +kernel, by decide +kernel, by decide +kernel, by decide +kernel, by decide +kernel, by decide +kernel, by decide +kernel, by decide +kernel, by decide +kernel, by decide +kernel, by decide +kernel, by decide +kernel, by decide +kernel, by decide +kernel, by decide +kernel, by decide +kernel, by decide +kernel⟩,
   ⟨rx (dP 72) (fun r => { r with mic := false }), ep 1, aS id, by decide +kernel, by decide +kernel, by decide +kernel, by decide +kernel, by decide +kernel, by decide +kernel, by decide +kernel, by decide +kernel, by decide +kernel, by decide +kernel, by decide +kernel, by decide +kernel, by decide +kernel, by decide +kernel⟩,
   ⟨rx (dP 70) id, ep 1, aS id, by decide +kernel, by decide +kernel, by decide +kernel, by decide +kernel, by decide +kernel, by decide +kernel, by decide +kernel, by decide +kernel, by decide +kernel, by decide +kernel, by decide +kernel, by decide +kernel, by decide +kernel, by decide +kernel, by decide +kernel, by decide +kernel, by decide +kernel⟩,
   ⟨rx (dP 72) id, 2, ep 1, aS id, by decide +kernel, by decide +kernel, by decide +kernel, by decide +kernel, by decide +kernel, by decide +kernel, by decide +kernel, by decide +kernel, by decide +kernel, by decide +kernel, by decide +kernel, by decide +kernel, by decide +kernel, by decide +kernel, by decide +kernel, by decide +kernel⟩,
   ⟨ak, un (.message [1]) id, [1], aS (fun a => { a with q := [un (.message [1]) id] }), by decide +kernel, by decide +kernel, by decide +kernel, by decide +kernel, by decide +kernel, by decide +kernel, by decide +kernel, by decide +kernel, by decide +kernel, by decide +kernel, by decide +kernel, by decide +kernel, by decide +kernel⟩,
   ⟨jn, 1, ep 1, aS id, by decide +kernel, by decide +kernel, by decide +kernel, by decide +kernel, by decide +kernel, by decide +kernel, by decide +kernel, by decide +kernel, by decide +kernel, by decide +kernel, by decide +kernel, by decide +kernel, by decide +kernel, by decide +kernel, by decide +kernel, by decide +kernel, by decide +kernel⟩⟩

end Air

namespace Flint

def fS (f : Flint → Flint) : State := { lit with flt := f { lit.flt with st := 1, rngOk := true, mK := [[1]] } }
def ik : Bytes := lit.flt.intKey
def sl0 : Slot := sealSlot ik 0 ⟨nn 32 7, 1, 3, 0, nn 12 4, 5, 2, [], false⟩
def bl : Blob := ⟨nn 32 7, 1, 3, 0, none, false, [[[1]]]⟩
def ldS : State := fS (fun f => { f with slots := [(3, sl0)], reg := [(0, bl), (2, bl)] })
def ldX : State := fS (fun f => { f with slots := [(3, sl0)], reg := [(0, bl), (2, { bl with gens := [[]] })] })
def ldT : List Tlv := [tl 0x250 [3], tl 0x251 (nn 4 2)]
def ldY : State := fS (fun f => { f with slots := [(3, sl0)], reg := [(0, bl), (2, { bl with loc := some 0 })] })
def us (o : Nat) : List Tlv := [tl 0x250 [3], tl 0x254 [o], cD]
where cD := tl 9 (nn 20 5)
def hsl : Slot := sealSlot ik 0 { sl0 with alg := 2, usage := 12, key := nn 48 3 }
def ldH : State := fS (fun f => { f with slots := [(3, hsl)] })
def ldB : State := fS (fun f => { f with slots := [(3, { hsl with tag := [1] })] })
def im : Image := ⟨1, 5, true, [], [⟨3, 0, 10, 20, 7⟩], [], [], true, true⟩
def fz (bs : List (Nat × Nat)) : State := { fS (fun f => { f with fuses := bs, runs := [(1, 10), (0, 10)], geoFw := some (15, 3) }) with boot := { lit.boot with run := [(1, im), (0, im)] }, frm := { lit.frm with now := 9000000 } }
def pk (fw : Nat) : LinkPkt := ⟨5, 0, false, false, 0, 0, 0, 0, fw, 0, false, (false, false), [], [], [], [], [], [], [], [], []⟩
def gz (fw : Nat) (n : Nat) : State := { fz [(3, n)] with geo := { lit.geo with mir := { lit.geo.mir with pkt := some (pk fw) } } }
theorem witness_FlintKeySlots :
    (∃ (src : Src) (tlvs : List Tlv) (s : State) (s1 : State) (c : Cmd), accepted opKeySession src tlvs s = some (s1, c)) ∧
    (∃ (src : Src) (tlvs : List Tlv) (s : State) (s1 : State) (c : Cmd), accepted opSlotLoad src tlvs s = some (s1, c) ∧ c.has 0x0251 = false ∧ c.has 0x0252 = true ∧ s.regCount c.vctl < 16 * s.slotQuota c.vctl ∧ s.flt.rngOk = true) ∧
    (∃ (src : Src) (tlvs : List Tlv) (s : State) (s1 : State) (c : Cmd) (k : Bytes), accepted opSlotLoad src tlvs s = some (s1, c) ∧ c.tlv? 0x0253 = some k ∧ s.regCount c.vctl < 16 * s.slotQuota c.vctl ∧ s.flt.rngOk = true) ∧
    (∃ (src : Src) (tlvs : List Tlv) (s : State) (s1 : State) (c : Cmd) (b : Blob), accepted opSlotLoad src tlvs s = some (s1, c) ∧ c.has 0x0251 = true ∧ tget s.flt.reg (regKey c.vctl (c.nat 0x0251)) = some b ∧ s.flt.rngOk = true ∧ s.unwraps c.vctl (c.nat 0x0251) b = true) ∧
    (∃ (src : Src) (tlvs : List Tlv) (s : State) (s1 : State) (c : Cmd) (b : Blob), accepted opSlotLoad src tlvs s = some (s1, c) ∧ c.has 0x0251 = true ∧ tget s.flt.reg (regKey c.vctl (c.nat 0x0251)) = some b ∧ s.flt.rngOk = true ∧ s.unwraps c.vctl (c.nat 0x0251) b = false) ∧
    (∃ (src : Src) (tlvs : List Tlv) (s : State) (s1 : State) (c : Cmd), accepted opSlotUnload src tlvs s = some (s1, c) ∧ ((c.has 0x0251 = true → (tget s.flt.reg (regKey c.vctl (c.nat 0x0251))).isSome = true))) ∧
    (∃ (src : Src) (tlvs : List Tlv) (s : State) (s1 : State) (c : Cmd) (x : Slot), accepted opSlotUse src tlvs s = some (s1, c) ∧ tget s.flt.slots (slotKey c.vctl (c.nat 0x0250)) = some x ∧ x.bad = false ∧ s.tagOk c.vctl x = true ∧ bit x.usage 0 = true ∧ c.nat 0x0254 = 0 ∧ x.ctr < 2 ^ 32 ∧ ((c.tlv? 0x0009).getD []).length ≤ 1112) ∧
    (∃ (src : Src) (tlvs : List Tlv) (s : State) (s1 : State) (c : Cmd) (x : Slot), accepted opSlotUse src tlvs s = some (s1, c) ∧ tget s.flt.slots (slotKey c.vctl (c.nat 0x0250)) = some x ∧ x.bad = false ∧ s.tagOk c.vctl x = true ∧ bit x.usage 2 = true ∧ c.nat 0x0254 = 2) ∧
    (∃ (src : Src) (tlvs : List Tlv) (s : State) (s1 : State) (c : Cmd) (x : Slot), accepted opSlotUse src tlvs s = some (s1, c) ∧ tget s.flt.slots (slotKey c.vctl (c.nat 0x0250)) = some x ∧ x.bad = false ∧ s.tagOk c.vctl x = false) ∧
    (∃ (v : Nat) (n : Nat) (ok : Bool) (x : Slot) (s : State), s.flintOn = true ∧ n < 64 ∧ tget s.flt.slots (slotKey v n) = some x ∧ x.bad = false ∧ (ok = false ∨ s.tagOk v x = false)) :=
  ⟨⟨own, [], fS id, acS opKeySession own ([]) (fS id), acC opKeySession own ([]) (fS id), acc_some (by decide +kernel)⟩,
   ⟨own, [tl 0x250 [3], tl 0x252 [1, 3]], fS id, acS opSlotLoad own ([tl 0x250 [3], tl 0x252 [1, 3]]) (fS id), acC opSlotLoad own ([tl 0x250 [3], tl 0x252 [1, 3]]) (fS id), acc_some (by decide +kernel), by decide +kernel, by decide +kernel, by decide +kernel, by decide +kernel⟩,
   ⟨own, [tl 0x250 [3], tl 0x253 ([1, 3, 0, 0] ++ nn 32 99)], fS id, acS opSlotLoad own [tl 0x250 [3], tl 0x253 ([1, 3, 0, 0] ++ nn 32 99)] (fS id), acC opSlotLoad own [tl 0x250 [3], tl 0x253 ([1, 3, 0, 0] ++ nn 32 99)] (fS id), [1, 3, 0, 0] ++ nn 32 99, acc_some (by decide +kernel), by decide +kernel, by decide +kernel, by decide +kernel⟩,
   ⟨own, ldT, ldS, acS opSlotLoad own ldT ldS, acC opSlotLoad own ldT ldS, bl, acc_some (by decide +kernel), by decide +kernel, by decide +kernel, by decide +kernel, by decide +kernel⟩,
   ⟨own, ldT, ldX, acS opSlotLoad own ldT ldX, acC opSlotLoad own ldT ldX, { bl with gens := [[]] }, acc_some (by decide +kernel), by decide +kernel, by decide +kernel, by decide +kernel, by decide +kernel⟩,
   ⟨own, ldT, ldX, acS opSlotUnload own (ldT) (ldX), acC opSlotUnload own (ldT) (ldX), acc_some (by decide +kernel), by decide +kernel⟩,
   ⟨own, us 0, ldS, acS opSlotUse own (us 0) ldS, acC opSlotUse own (us 0) ldS, sl0, acc_some (by decide +kernel), by rw [show slotKey (acC opSlotUse own (us 0) ldS).vctl ((acC opSlotUse own (us 0) ldS).nat 0x0250) = 3 from by decide +kernel]; rfl, by decide +kernel, by rw [show (acC opSlotUse own (us 0) ldS).vctl = 0 from by decide +kernel]; exact beq_self_eq_true _, by decide +kernel, by decide +kernel, by decide +kernel, by decide +kernel⟩,
   ⟨own, us 2, ldH, acS opSlotUse own (us 2) ldH, acC opSlotUse own (us 2) ldH, hsl, acc_some (by decide +kernel), by rw [show slotKey (acC opSlotUse own (us 2) ldH).vctl ((acC opSlotUse own (us 2) ldH).nat 0x0250) = 3 from by decide +kernel]; rfl, by decide +kernel, by rw [show (acC opSlotUse own (us 2) ldH).vctl = 0 from by decide +kernel]; exact beq_self_eq_true _, by decide +kernel, by decide +kernel⟩,
   ⟨own, us 2, ldB, acS opSlotUse own (us 2) ldB, acC opSlotUse own (us 2) ldB, { hsl with tag := [1] }, acc_some (by decide +kernel), by rw [show slotKey (acC opSlotUse own (us 2) ldB).vctl ((acC opSlotUse own (us 2) ldB).nat 0x0250) = 3 from by decide +kernel]; rfl, by decide +kernel, by decide +kernel⟩,
   ⟨0, 3, false, sl0, ldS, by decide +kernel, by decide +kernel, rfl, by decide +kernel, by decide +kernel⟩⟩
theorem witness_FlintGeneratorMigrationAndFuses :
    (∃ (s : State), s.pw.service = true ∧ (s.flt.st = 1 ∨ s.flt.st = 2)) ∧
    (∃ (s : State), s.pw.service = true ∧ s.flt.st = 0) ∧
    (∃ (s : State), s.flintOn = true ∧ s.flt.rngOk = false) ∧
    (∃ (s : State), s.flintOn = true ∧ s.flt.rngOk = true) ∧
    (∃ (cause : Nat) (s : State), s.pw.service = true ∧ s.flt.st ≠ 3 ∧ 1 ≤ cause ∧ cause ≤ 4) ∧
    (∃ (g : Migr) (s : State), s.flintOn = true ∧ s.flt.migr = some g ∧ g.done = false) ∧
    (∃ (bank : Nat) (bad : List Nat) (i : Image) (f : Nat) (s : State), s.flintOn = true ∧ bank ≤ 2 ∧ tget s.boot.run (bankClass bank) = some i ∧ tget s.flt.runs bank = some f ∧ s.fuse bank < i.svn ∧ (i.advanceNow = true ∨ f + 8640000 ≤ s.frm.now)) ∧
    (∃ (fw : Nat) (f : Nat) (v : Nat) (s : State), s.flintOn = true ∧ s.flt.geoFw = some (fw, f) ∧ s.geoSvn fw = some v ∧ s.fuse 3 < v ∧ v ≤ 64 ∧ f + 8640000 ≤ s.frm.now) ∧
    (∃ (p : LinkPkt) (s : State), s.flintOn = true ∧ s.geo.mir.pkt = some p ∧ s.flt.geoFw.any (fun e => e.1 == p.fw) = false) :=
  ⟨⟨ldS, by decide +kernel, by decide +kernel⟩,
   ⟨{ ldS with flt := { ldS.flt with st := 0 } }, by decide +kernel, by decide +kernel⟩,
   ⟨{ ldS with flt := { ldS.flt with rngOk := false } }, by decide +kernel, by decide +kernel⟩,
   ⟨ldS, by decide +kernel, by decide +kernel⟩,
   ⟨2, ldS, by decide +kernel, by decide +kernel, by decide +kernel, by decide +kernel⟩,
   ⟨⟨[[9]], false⟩, fS (fun f => { f with st := 2, migr := some ⟨[[9]], false⟩, reg := [(0, bl), (2, bl)], modGens := [[[1]]] }), by decide +kernel, by decide +kernel, by decide +kernel⟩,
   ⟨1, [3], im, 10, fz [(1, 2)], by decide +kernel, by decide +kernel, by decide +kernel, by decide +kernel, by decide +kernel, by decide +kernel⟩,
   ⟨15, 3, 7, fz [(1, 2)], by decide +kernel, by decide +kernel, by decide +kernel, by decide +kernel, by decide +kernel, by decide +kernel⟩,
   ⟨pk 12, gz 12 4, by decide +kernel, by decide +kernel, by decide +kernel⟩⟩

end Flint

namespace Spine

def sa : SpAssoc := { laid := 9, tx := 40, high := 50, seen := [48, 49] }
def sb : SpAssoc := { laid := 8, tx := 41, high := 50 }
def pE : SpPort := { lock := true, assoc := some sa, hello := some 4999, up := true }
def pW : SpPort := { lock := true, assoc := some sb, hello := some 4999, up := true }
def sS (f : Spine → Spine) : State := { lit with spn := f { lit.spn with ring := some 3, east := pE, west := pW }, flt := { lit.flt with st := 1, rngOk := true } }
def pS (f : Spine → Spine) : State := sS (fun x => f { x with table := some ⟨0, [(77, 1), (Config.moduleEui, 5), (55, 6)]⟩ })
def hd (f : SpHdr → SpHdr) : SpHdr := f { laid := 9, ctr := 51, ok := true, ttl := 60, dest := none, src := 3 * 64 + 2, urgent := false }
def acp (h : SpHdr) (s : State) : State := (spAccept true h { s with out := [] }).1
def b20 (s : State) : State := { s with frm := { s.frm with beat := 20 } }
def lpr (f : LinkPeer → LinkPeer) : LinkPeer := f { chain := true, tag := some [1], key := nn 64 5, nonce := nn 12 6 }
def dr (s : State) : Nat × Bytes := (Config.freeNat (s.free + 1), beBytes 12 (Config.freeNat s.free))
def xS (f : SpPort → SpPort) : State := sS (fun x => { x with tag := some [1], east := f pE })
def mS (f : Spine → Spine) : State := sS (fun x => f { x with master := true })
def rc : RingCensus := ⟨false, 4990, [], false⟩
def tk : EnumTok := ⟨3, 99, 5, 1⟩
def oT : List Tlv := [tl 0x230 [0], tl 0x231 (nn 4 8), tl 0x232 (nn 8 60000000000)]
def sr : SweepRes := { id := 8, t := 40000000000, n := 3, replies := [(1, 0), (2, 2)], recs := [(1, nn 3904 77)] }
def kS (f : Spine → Spine) : State := sS (fun x => f { x with results := [sr] })
def m2 : List Tlv := [tl 0x230 [2], tl 0x231 (nn 4 8), tl 0x233 [1], tl 0x234 (nn 2 3840)]
def sw (f : Sweep → Sweep) : Sweep := f { id := 8, t := 40000000000, origin := true, latch := some (4000, 2, 3, -5) }
def wS (f : Sweep → Sweep) : State := kS (fun x => { x with sweep := some (sw f) })
def lw (w : Sweep) : Sweep := { w with stage := .latching }
def rg : Reading := { seq := 6, kind := 1, t := 40000000000, bytes := nn 300 9 }
def rS : State := { wS lw with geo := { lit.geo with mir := { lit.geo.mir with readings := [rg] } } }
def nw (w : Sweep) : Sweep := { w with stage := .latching, origin := false }
def cw (w : Sweep) : Sweep := { w with stage := .collecting, west := true, start := 4900 }
def pT (f : Sweep → Sweep) : State := pS (fun x => { x with sweep := some (sw f), results := [sr] })
def ew (w : Sweep) : Sweep := { w with stage := .collecting, ended := some 4900 }
theorem acp_some {h : SpHdr} {s : State} (e : (spAccept true h { s with out := [] }).2 = true) : spAccept true h { s with out := [] } = (acp h s, true) := Prod.ext rfl e
theorem witness_SpineLinksOpenAndClose :
    (∃ (east : Bool) (h : SpHdr) (a : SpAssoc) (s : State), h.ok = true ∧ (s.spPort east).refused = false ∧ (s.spPort east).assoc = some a ∧ a.laid = h.laid ∧ a.high < h.ctr ∧ a.seen.contains h.ctr = false) ∧
    (∃ (east : Bool) (h : SpHdr) (s : State), (h.ok = false ∨ (s.spPort east).refused = true ∨ (s.spPort east).assoc = none ∨ (∃ a, (s.spPort east).assoc = some a ∧ a.laid = h.laid ∧ (h.ctr = a.high ∨ h.ctr + 64 < a.high)))) ∧
    (∃ (east : Bool) (s : State), s.pw.main = true ∧ (s.spPort east).lock = false ∧ s.thm.idled.contains (spCode east) = false ∧ s.flt.rngOk = true) ∧
    (∃ (east : Bool) (s : State), s.pw.main = true ∧ (s.spPort east).up = true ∧ s.spn.run = none) ∧
    (∃ (east : Bool) (h : SpHdr) (s : State) (s1 : State), s.pw.main = true ∧ spAccept east h { s with out := [] } = (s1, true) ∧ (s.spPort east).up = false ∧ s.spn.run = none ∧ ((∀ a, (s.spPort east).assoc = some a → a.tx + 1 < 2 ^ 64))) ∧
    (∃ (east : Bool) (s : State), (s.spPort east).up = true ∧ ((∀ f, (s.spPort east).hello = some f → f + 3 < s.frm.now))) ∧
    (∃ (a : SpAssoc) (b : SpAssoc) (s : State), s.pw.main = true ∧ s.frm.beat = 20 ∧ s.spn.helloAt ≠ some s.frm.now ∧ s.spn.east.assoc = some a ∧ s.spn.west.assoc = some b ∧ a.tx + 1 < 2 ^ 64 ∧ b.tx + 1 < 2 ^ 64) ∧
    (∃ (s : State), (s.frm.beat ≠ 20 ∨ s.spn.helloAt = some s.frm.now)) ∧
    (∃ (east : Bool) (p : LinkPeer) (laid : Nat) (own : Nat × Bytes) (s : State), s.pw.main = true ∧ (s.spPort east).lock = true ∧ s.flintOn = true ∧ s.flt.rngOk = true ∧ p.chain = true ∧ p.tag = s.spn.tag ∧ (east = false ∨ (s.spPort east).waiting = false) ∧ laid = s.spn.laid % (2 ^ 32 - 1) + 1 ∧ own = (Config.freeNat (s.free + 1), beBytes 12 (Config.freeNat s.free))) ∧
    (∃ (east : Bool) (p : LinkPeer) (s : State), s.pw.main = true ∧ (s.spPort east).lock = true ∧ s.flintOn = true ∧ (s.spPort east).up = false ∧ (p.chain = false ∨ p.tag ≠ s.spn.tag)) ∧
    (∃ (east : Bool) (p : LinkPeer) (laid : Nat) (own : Nat × Bytes) (key : Bytes) (s : State), s.pw.main = true ∧ (s.spPort east).lock = true ∧ s.flintOn = true ∧ (s.spPort east).eph = some own ∧ p.chain = true ∧ p.tag = s.spn.tag ∧ key = linkKey own.1 p.key (own.2 ++ p.nonce)) ∧
    (∃ (east : Bool) (laid : Nat) (key : Bytes) (s : State), s.pw.main = true ∧ (s.spPort east).lock = true ∧ s.flintOn = true ∧ (s.spPort east).offer = some (laid, key)) ∧
    (∃ (east : Bool) (ok : Bool) (laid : Nat) (s : State), s.pw.main = true ∧ (s.spPort east).lock = true ∧ s.flintOn = true ∧ (ok = false ∨ (s.spPort east).offer.map (·.1) ≠ some laid)) ∧
    (∃ (east : Bool) (s : State), s.pw.main = true ∧ (s.spPort east).lock = true ∧ (s.spPort east).assoc = none ∧ (s.spPort east).init + 100 ≤ s.frm.now ∧ s.flt.rngOk = true) ∧
    (∃ (east : Bool) (o : SpAssoc) (f : Nat) (s : State), (s.spPort east).old = some (o, f) ∧ f ≤ s.frm.now) ∧
    (∃ (east : Bool) (a : SpAssoc) (s : State), (s.spPort east).old = none ∧ (s.spPort east).assoc = some a ∧ 2 ^ 62 ≤ a.tx ∧ a.tx < 2 ^ 64 - 1 ∧ a.high < 2 ^ 64 - 1 ∧ (s.spPort east).waiting = false ∧ s.flt.rngOk = true) ∧
    (∃ (east : Bool) (a : SpAssoc) (s : State), (s.spPort east).old = none ∧ (s.spPort east).assoc = some a ∧ 2 ^ 64 - 1 ≤ a.tx) ∧
    (∃ (s : State), s.pw.main = true) ∧
    (∃ (why : SpDrop) (s : State), s.pw.main = true ∧ why ≠ .ttl) ∧
    (∃ (src : Src) (tlvs : List Tlv) (s : State) (s1 : State) (c : Cmd), accepted opSpineConfig src tlvs s = some (s1, c)) :=
  ⟨⟨true, hd id, sa, sS id, by decide +kernel, by decide +kernel, by decide +kernel, by decide +kernel, by decide +kernel, by decide +kernel⟩,
   ⟨true, hd (fun h => { h with ok := false }), sS id, by decide +kernel⟩,
   ⟨true, sS (fun x => { x with east := {} }), by decide +kernel, by decide +kernel, by decide +kernel, by decide +kernel⟩,
   ⟨true, sS id, by decide +kernel, by decide +kernel, by decide +kernel⟩,
   ⟨true, hd id, sS (fun x => { x with east := { pE with up := false } }), acp (hd id) (sS (fun x => { x with east := { pE with up := false } })), by decide +kernel, acp_some (by decide +kernel), by decide +kernel, by decide +kernel, by decide +kernel⟩,
   ⟨true, sS (fun x => { x with east := { pE with hello := some 4900 } }), by decide +kernel, by decide +kernel⟩,
   ⟨sa, sb, b20 (sS (fun x => { x with helloAt := some 4999 })), by decide +kernel, by decide +kernel, by decide +kernel, by decide +kernel, by decide +kernel, by decide +kernel, by decide +kernel⟩,
   ⟨sS id, by decide +kernel⟩,
   ⟨true, lpr id, 1, dr (xS id), xS id, by decide +kernel, by decide +kernel, by decide +kernel, by decide +kernel, by decide +kernel, by decide +kernel, by decide +kernel, by decide +kernel, rfl⟩,
   ⟨true, lpr (fun p => { p with tag := some [2] }), xS (fun p => { p with up := false }), by decide +kernel, by decide +kernel, by decide +kernel, by decide +kernel, by decide +kernel⟩,
   ⟨true, lpr id, 6, (3, [4]), linkKey 3 (nn 64 5) ([4] ++ nn 12 6), xS (fun p => { p with waiting := true, eph := some (3, [4]) }), by decide +kernel, by decide +kernel, by decide +kernel, by decide +kernel, by decide +kernel, by decide +kernel, rfl⟩,
   ⟨true, 6, [7], xS (fun p => { p with offer := some (6, [7]) }), by decide +kernel, by decide +kernel, by decide +kernel, by decide +kernel⟩,
   ⟨true, true, 5, xS (fun p => { p with offer := some (6, [7]) }), by decide +kernel, by decide +kernel, by decide +kernel, by decide +kernel⟩,
   ⟨true, sS (fun x => { x with tag := some [1], east := { lock := true, init := 10 } }), by decide +kernel, by decide +kernel, by decide +kernel, by decide +kernel, by decide +kernel⟩,
   ⟨true, sb, 4900, sS (fun x => { x with tag := some [1], east := { pE with old := some (sb, 4900) } }), by decide +kernel, by decide +kernel⟩,
   ⟨true, { sa with tx := 2 ^ 62 }, sS (fun x => { x with east := { pE with assoc := some { sa with tx := 2 ^ 62 } } }), by decide +kernel, by decide +kernel, by decide +kernel, by decide +kernel, by decide +kernel, by decide +kernel, by decide +kernel⟩,
   ⟨true, { sa with tx := 2 ^ 64 - 1 }, sS (fun x => { x with east := { pE with assoc := some { sa with tx := 2 ^ 64 - 1 } } }), by decide +kernel, by decide +kernel, by decide +kernel⟩,
   ⟨sS id, by decide +kernel⟩,
   ⟨.other, sS id, by decide +kernel, by decide +kernel⟩,
   ⟨own, [tl 0x236 [3, 1], tl 0x237 (nn 48 5)], sS id, acS opSpineConfig own ([tl 0x236 [3, 1], tl 0x237 (nn 48 5)]) (sS id), acC opSpineConfig own ([tl 0x236 [3, 1], tl 0x237 (nn 48 5)]) (sS id), acc_some (by decide +kernel)⟩⟩
theorem witness_RingsAreCountedAndPacketsRelayed :
    (∃ (r : Nat) (a : SpAssoc) (s : State), s.pw.main = true ∧ s.spn.master = true ∧ s.spn.ring = some r ∧ s.spn.run = none ∧ s.boot.inService = true ∧ ((∀ f, s.spn.last = some f → f + 6000 ≤ s.frm.now)) ∧ s.spn.east.up = true ∧ s.spn.east.assoc = some a ∧ a.tx + 1 < 2 ^ 64) ∧
    (∃ (c : RingCensus) (reach : List (Nat × Nat)) (s : State), s.spn.run = some c ∧ c.west = false ∧ c.since < s.frm.now ∧ s.spn.west.up = false ∧ s.spn.record = none ∧ reach.length ≤ 63) ∧
    (∃ (c : RingCensus) (reach : List (Nat × Nat)) (a : SpAssoc) (r : Nat) (s : State), s.spn.run = some c ∧ c.west = false ∧ c.since < s.frm.now ∧ s.spn.west.up = true ∧ s.spn.west.assoc = some a ∧ a.tx + 1 < 2 ^ 64 ∧ s.spn.ring = some r) ∧
    (∃ (east : Bool) (h : SpHdr) (k : EnumTok) (reach : List (Nat × Nat)) (s : State) (s1 : State) (a : SpAssoc), s.pw.main = true ∧ spAccept east h { s with out := [] } = (s1, true) ∧ s.spn.ring = some k.ring ∧ s.spn.master = false ∧ k.pos < 63 ∧ s.spn.token = none ∧ (s.spPort (!east)).up = true ∧ (s.spPort (!east)).assoc = some a ∧ a.tx + 1 < 2 ^ 64 ∧ h.ttl ≠ 0) ∧
    (∃ (east : Bool) (h : SpHdr) (k : EnumTok) (reach : List (Nat × Nat)) (s : State) (s1 : State) (a : SpAssoc), s.pw.main = true ∧ spAccept east h { s with out := [] } = (s1, true) ∧ s.spn.ring ≠ some k.ring ∧ (s.spPort (!east)).up = true ∧ (s.spPort (!east)).assoc = some a ∧ a.tx + 1 < 2 ^ 64 ∧ h.ttl ≠ 0) ∧
    (∃ (east : Bool) (h : SpHdr) (result : Nat) (mods : List (Nat × Nat)) (k : Nat × Nat × Nat) (m : Nat × Nat) (s : State) (s1 : State), s.pw.main = true ∧ spAccept east h { s with out := [] } = (s1, true) ∧ s.spn.ring = some (h.src / 64) ∧ s.spn.master = false ∧ s.spn.token = some k ∧ mods.head? = some m ∧ k.1 = m.1) ∧
    (∃ (east : Bool) (eastUp : Bool) (westUp : Bool) (h : SpHdr) (s : State) (s1 : State), s.pw.main = true ∧ spAccept east h { s with out := [] } = (s1, true) ∧ s.spn.ring = some (h.src / 64) ∧ tgetD s.spn.notices (h.src % 64) (true, true) = (true, true) ∧ (eastUp = false ∨ westUp = false)) ∧
    (∃ (east : Bool) (h : SpHdr) (k : AssocKey) (packet : Bytes) (s : State) (s1 : State), s.pw.main = true ∧ spAccept east h { s with out := [] } = (s1, true) ∧ s.spMine h = true ∧ actsFor k = 0) ∧
    (∃ (east : Bool) (h : SpHdr) (packet : Bytes) (port : Nat) (key : Option AssocKey) (s : State) (s1 : State), s.pw.main = true ∧ spAccept east h { s with out := [] } = (s1, true) ∧ s.spMine h = true ∧ tget s.spn.relayed (h.src % 64) = some port) ∧
    (∃ (s : State), s.pw.service = true) :=
  ⟨⟨3, sa, mS id, by decide +kernel, by decide +kernel, by decide +kernel, by decide +kernel, by decide +kernel, by decide +kernel, by decide +kernel, by decide +kernel, by decide +kernel⟩,
   ⟨rc, [(4, 5), (6, 7)], mS (fun x => { x with run := some rc, west := {}, census := 4 }), by decide +kernel, by decide +kernel, by decide +kernel, by decide +kernel, by decide +kernel, by decide +kernel⟩,
   ⟨rc, [(4, 5), (6, 7)], sb, 3, mS (fun x => { x with run := some rc, census := 4 }), by decide +kernel, by decide +kernel, by decide +kernel, by decide +kernel, by decide +kernel, by decide +kernel, by decide +kernel⟩,
   ⟨true, hd id, tk, [], sS id, acp (hd id) (sS id), sb, by decide +kernel, acp_some (by decide +kernel), by decide +kernel, by decide +kernel, by decide +kernel, by decide +kernel, by decide +kernel, by decide +kernel, by decide +kernel, by decide +kernel⟩,
   ⟨true, hd id, { tk with ring := 4 }, [], sS id, acp (hd id) (sS id), sb, by decide +kernel, acp_some (by decide +kernel), by decide +kernel, by decide +kernel, by decide +kernel, by decide +kernel, by decide +kernel⟩,
   ⟨true, hd id, 0, [(99, 5), (4, 5)], (99, 4900, 0), (99, 5), sS (fun x => { x with token := some (99, 4900, 0) }), acp (hd id) (sS (fun x => { x with token := some (99, 4900, 0) })), by decide +kernel, acp_some (by decide +kernel), by decide +kernel, by decide +kernel, by decide +kernel, by decide +kernel, by decide +kernel⟩,
   ⟨true, true, false, hd id, sS id, acp (hd id) (sS id), by decide +kernel, acp_some (by decide +kernel), by decide +kernel, by decide +kernel, by decide +kernel⟩,
   ⟨true, hd id, .vctl 0, [1, 2], sS id, acp (hd id) (sS id), by decide +kernel, acp_some (by decide +kernel), by decide +kernel, by decide +kernel⟩,
   ⟨true, hd id, [1, 2], 7, none, sS (fun x => { x with relayed := [(2, 7)] }), acp (hd id) (sS (fun x => { x with relayed := [(2, 7)] })), by decide +kernel, acp_some (by decide +kernel), by decide +kernel, by decide +kernel⟩,
   ⟨sS id, by decide +kernel⟩⟩
theorem witness_SweepsAreOrderedAndLatched :
    (∃ (src : Src) (tlvs : List Tlv) (s : State) (s1 : State) (c : Cmd) (r : SweepRes), accepted opSweepOrder src tlvs s = some (s1, c) ∧ c.nat 0x0230 = 1 ∧ s.keptOf (c.nat 0x0231) = some r) ∧
    (∃ (src : Src) (tlvs : List Tlv) (s : State) (s1 : State) (c : Cmd) (r : SweepRes) (b : Bytes), accepted opSweepOrder src tlvs s = some (s1, c) ∧ c.nat 0x0230 = 2 ∧ s.keptOf (c.nat 0x0231) = some r ∧ tget r.recs (c.nat 0x0233) = some b) ∧
    (∃ (src : Src) (tlvs : List Tlv) (s : State) (s1 : State) (c : Cmd) (r : SweepRes), accepted opSweepOrder src tlvs s = some (s1, c) ∧ c.nat 0x0230 = 3 ∧ s.keptOf (c.nat 0x0231) = some r) ∧
    (∃ (east : Bool) (h : SpHdr) (id : Nat) (t0 : Nat) (s : State) (s1 : State), s.pw.main = true ∧ spAccept east h { s with out := [] } = (s1, true) ∧ s.spn.seen.contains id = false ∧ s.spn.sweep = none ∧ s.ns + 10000000 ≤ t0) ∧
    (∃ (east : Bool) (h : SpHdr) (id : Nat) (t0 : Nat) (s : State) (s1 : State), s.pw.main = true ∧ spAccept east h { s with out := [] } = (s1, true) ∧ s.spn.seen.contains id = false ∧ (s.spn.sweep.isSome = true ∨ t0 < s.ns + 10000000)) ∧
    (∃ (east : Bool) (h : SpHdr) (id : Nat) (code : Nat) (s : State) (s1 : State), s.pw.main = true ∧ spAccept east h { s with out := [] } = (s1, true) ∧ s.spMine h = true) ∧
    (∃ (w : Sweep) (s : State), s.pw.main = true ∧ s.spn.sweep = some w ∧ w.stage = .waiting ∧ w.t / 10000000 ≤ s.frm.now) ∧
    (∃ (s : State), s.pw.main = true ∧ ((∀ w, s.spn.sweep = some w → w.stage ≠ .waiting))) ∧
    (∃ (w : Sweep) (r : Reading) (s : State), s.spn.sweep = some w ∧ w.stage = .latching ∧ w.formed = false ∧ s.sweepReading w = some r) ∧
    (∃ (w : Sweep) (f : Nat) (l : Nat) (o : Int) (fl : Nat) (s : State), s.spn.sweep = some w ∧ w.stage = .latching ∧ w.formed = false ∧ w.latch = some (f, fl, l, o) ∧ s.sweepReading w = none ∧ s.sweepDue w.t = true) ∧
    (∃ (w : Sweep) (s : State), s.spn.sweep = some w ∧ w.origin = false ∧ s.sweepDue w.t = true) :=
  ⟨⟨own, [tl 0x230 [1], tl 0x231 (nn 4 8)], kS id, acS opSweepOrder own [tl 0x230 [1], tl 0x231 (nn 4 8)] (kS id), acC opSweepOrder own [tl 0x230 [1], tl 0x231 (nn 4 8)] (kS id), sr, acc_some (by decide +kernel), by decide +kernel, by decide +kernel⟩,
   ⟨own, m2, kS id, acS opSweepOrder own m2 (kS id), acC opSweepOrder own m2 (kS id), sr, nn 3904 77, acc_some (by decide +kernel), by decide +kernel, by decide +kernel, by decide +kernel⟩,
   ⟨own, [tl 0x230 [3], tl 0x231 (nn 4 8)], kS id, acS opSweepOrder own [tl 0x230 [3], tl 0x231 (nn 4 8)] (kS id), acC opSweepOrder own [tl 0x230 [3], tl 0x231 (nn 4 8)] (kS id), sr, acc_some (by decide +kernel), by decide +kernel, by decide +kernel⟩,
   ⟨true, hd id, 8, 60000000000, sS id, acp (hd id) (sS id), by decide +kernel, acp_some (by decide +kernel), by decide +kernel, by decide +kernel, by decide +kernel⟩,
   ⟨true, hd id, 8, 5, sS id, acp (hd id) (sS id), by decide +kernel, acp_some (by decide +kernel), by decide +kernel, by decide +kernel⟩,
   ⟨true, hd id, 8, 1, kS id, acp (hd id) (kS id), by decide +kernel, acp_some (by decide +kernel), by decide +kernel⟩,
   ⟨sw id, wS id, by decide +kernel, by decide +kernel, by decide +kernel, by decide +kernel⟩,
   ⟨kS id, by decide +kernel, by decide +kernel⟩,
   ⟨sw lw, rg, rS, by decide +kernel, by decide +kernel, by decide +kernel, by decide +kernel⟩,
   ⟨sw lw, 4000, 3, -5, 2, wS lw, by decide +kernel, by decide +kernel, by decide +kernel, by decide +kernel, by decide +kernel, by decide +kernel⟩,
   ⟨sw nw, wS nw, by decide +kernel, by decide +kernel, by decide +kernel⟩⟩
theorem witness_SweepsAreCollected :
    (∃ (w : Sweep) (a : SpAssoc) (s : State), s.spn.sweep = some w ∧ w.origin = true ∧ w.stage ≠ .collecting ∧ s.sweepDue w.t = true ∧ s.spn.east.up = true ∧ s.spn.east.assoc = some a ∧ a.tx + 1 < 2 ^ 64) ∧
    (∃ (east : Bool) (h : SpHdr) (id : Nat) (pos : Nat) (body : Bytes) (w : Sweep) (s : State) (s1 : State), s.pw.main = true ∧ spAccept east h { s with out := [] } = (s1, true) ∧ s.spMine h = true ∧ s.spn.sweep = some w ∧ w.id = id ∧ w.origin = true ∧ w.stage = .collecting) ∧
    (∃ (east : Bool) (h : SpHdr) (id : Nat) (w : Sweep) (s : State) (s1 : State), s.pw.main = true ∧ spAccept east h { s with out := [] } = (s1, true) ∧ s.spMine h = true ∧ s.spn.sweep = some w ∧ w.id = id ∧ w.origin = true ∧ w.stage = .collecting ∧ w.ended = none ∧ (w.west = true ∨ s.spn.west.up = false)) ∧
    (∃ (w : Sweep) (s : State), s.spn.sweep = some w ∧ w.origin = true ∧ w.stage = .collecting ∧ w.ended = none ∧ w.start + 20 ≤ s.frm.now) ∧
    (∃ (w : Sweep) (f : Nat) (r : SweepRes) (s : State), s.spn.sweep = some w ∧ w.origin = true ∧ w.ended = some f ∧ f < s.frm.now ∧ s.keptOf w.id = some r) :=
  ⟨⟨sw lw, sa, wS lw, by decide +kernel, by decide +kernel, by decide +kernel, by decide +kernel, by decide +kernel, by decide +kernel, by decide +kernel⟩,
   ⟨true, hd id, 8, 2, nn 3904 6, sw cw, wS cw, acp (hd id) (wS cw), by decide +kernel, acp_some (by decide +kernel), by decide +kernel, by decide +kernel, by decide +kernel, by decide +kernel, by decide +kernel⟩,
   ⟨true, hd id, 8, sw cw, wS cw, acp (hd id) (wS cw), by decide +kernel, acp_some (by decide +kernel), by decide +kernel, by decide +kernel, by decide +kernel, by decide +kernel, by decide +kernel, by decide +kernel, by decide +kernel⟩,
   ⟨sw cw, wS cw, by decide +kernel, by decide +kernel, by decide +kernel, by decide +kernel, by decide +kernel⟩,
   ⟨sw ew, 4900, sr, wS ew, by decide +kernel, by decide +kernel, by decide +kernel, by decide +kernel, by decide +kernel⟩⟩
/-- The ring of three with this module at position 0. -/
def p0 (f : Spine → Spine) : State := sS (fun x => f { x with table := some ⟨0, [(Config.moduleEui, 1), (77, 5), (55, 6)]⟩ })
theorem pos_first {s : State} {m : Nat} {r : List (Nat × Nat)} (h1 : s.spn.ring = some 3) (h2 : s.spn.table = some ⟨0, (Config.moduleEui, m) :: r⟩) :
    s.spinePos = some 0 := by
  unfold State.spinePos
  rw [h1, h2]
  simp [List.findIdx?, List.findIdx?.go]
theorem way_first {s : State} (h : s.spinePos = some 0) (hn : s.ringSize = 3) (hf : s.folded = false) : s.spineWay 2 = some false := by
  unfold State.spineWay
  rw [h, hn, hf]
  rfl
theorem witness_RingsAreCountedAndPacketsRelayed_8 : ∃ (port dst dscp q p : Nat) (e : Bool) (packet : Bytes) (a : SpAssoc) (s : State),
    s.pw.main = true ∧ s.posOfAddr dst = some q ∧ s.spinePos = some p ∧ p ≠ q ∧ s.spineWay q = some e ∧ (s.spPort e).up = true ∧
    (s.spPort e).assoc = some a ∧ a.tx + 1 < 2 ^ 64 ∧ q < 64 :=
  have h : (p0 id).spinePos = some 0 := pos_first rfl rfl
  ⟨7, 6, 46, 2, 0, false, [1, 2], sb, p0 id, rfl, by decide +kernel, h, by decide, way_first h (by decide +kernel) (by
    have hn : (p0 id).ringSize = 3 := by decide +kernel
    have hu : ∀ k, (p0 id).portsUp k = (true, true) := fun k => by
      unfold State.portsUp; rw [h]; split <;> rfl
    simp only [State.folded, State.ringLink, hu]
    simp), by decide +kernel, by decide +kernel, by decide +kernel, by decide⟩
theorem witness_SweepsAreOrderedAndLatched_1 : ∃ (src : Src) (tlvs : List Tlv) (s s1 : State) (c : Cmd),
    accepted opSweepOrder src tlvs s = some (s1, c) ∧ c.nat 0x0230 = 0 := by
  refine ⟨own, oT, p0 id, _, _, accepted_bare (acc_some ?_) ?_ ?_, ?_⟩
  · decide +kernel
  · decide +kernel
  · have hp : (atExam own (p0 id)).spinePos = some 0 := pos_first rfl rfl
    have h0 : (acC (bare opSweepOrder) own oT (p0 id)).nat 0x0230 = 0 := by decide +kernel
    show sweepCheck (acC (bare opSweepOrder) own oT (p0 id)) (atExam own (p0 id)) = Except.ok ()
    unfold sweepCheck orderCheck
    rw [if_pos h0, hp]
    decide +kernel
  · decide +kernel
theorem witness_SweepsAreCollected_2 : ∃ (east : Bool) (h : SpHdr) (id : Nat) (map : List Nat) (w : Sweep) (s s1 : State), s.pw.main = true ∧
    spAccept east h { s with out := [] } = (s1, true) ∧ s.spinePos.isSome = true ∧ h.src = s.spineAddr ∧ s.spn.sweep = some w ∧ w.id = id ∧
    w.origin = true ∧ w.stage = .collecting ∧ w.ended = none ∧ w.west = true := by
  let st := p0 (fun x => { x with sweep := some (sw cw), results := [sr] })
  have hp : st.spinePos = some 0 := pos_first rfl rfl
  refine ⟨true, hd (fun h => { h with src := 192 }), 8, [], sw cw, st, _, rfl, acp_some (by decide +kernel), ?_, ?_, rfl, rfl, rfl, rfl, rfl, rfl⟩
  · rw [hp]; rfl
  · unfold State.spineAddr; rw [hp]; rfl
theorem witness_SweepsAreCollected_3 : ∃ (east : Bool) (h : SpHdr) (id p : Nat) (map : List Nat) (a : SpAssoc) (s s1 : State), s.pw.main = true ∧
    spAccept east h { s with out := [] } = (s1, true) ∧ s.spinePos = some p ∧ map.contains p = true ∧ h.src ≠ s.spineAddr ∧
    (s.spPort (!east)).up = true ∧ (s.spPort (!east)).assoc = some a ∧ a.tx + 1 < 2 ^ 64 ∧ h.ttl ≠ 0 := by
  have hp : (p0 id).spinePos = some 0 := pos_first rfl rfl
  refine ⟨true, hd id, 8, 0, [0, 2], sb, p0 id, _, rfl, acp_some (by decide +kernel), hp, by decide, ?_, by decide +kernel, by decide +kernel, by decide +kernel, by decide +kernel⟩
  unfold State.spineAddr; rw [hp]; decide

end Spine

namespace Form

def lpT (l : List Nat) : List Tlv := [tl 0x140 (l.map byte)]
def lpS : State := { lit with pw := { lit.pw with carrier := { lit.pw.carrier with strings := 2 ^ 256 - 1 } } }
def ck (f : Lodestone → Lodestone) : State := ({ lit with lds := f { lit.lds with time := 49999875000 * 2 ^ 24, ext := 49999875000 } } : State).setReg (aLdsTmrCmp 0) ((50000000000 + 10000000) % 2 ^ 32)
def bi : BeatIn := { gpio := 7, ohm := 10000 }
def tmS (l : List (Nat × Nat × Nat)) (f : Lodestone → Lodestone) : State := l.foldl (fun s e => ((s.setReg (aLdsTmrCtl e.1) (1 + 4 * e.2.1)).setReg (aLdsTmrCmp e.1) (e.2.2 % 2 ^ 32)).setReg (aLdsTmrWid e.1) 10) (ck f)
def c0t : Nat := 49999875000
def tA : State := tmS [(9, 1, c0t + 500)] (fun l => { l with ppsOut := [(4, (c0t + 600) % 2 ^ 32)] })
def tB : State := tmS [(9, 2, c0t + 500)] (fun l => { l with fsyncOut := [(4, (c0t + 600) % 2 ^ 32)] })
def vA : Nat := (c0t + 300) % 2 ^ 32
def wA : Nat := (c0t + 301) % 2 ^ 32
def tC : State := ck (fun l => { l with ppsOut := [(4, wA), (9, vA)] })
def tD : State := ck (fun l => { l with fsyncOut := [(4, wA), (9, vA)] })
def gB : State := { lit with geo := { lit.geo with on := true, label := (1, 5), pend := [{ kind := 0, t := 5, e := 1000000 }] } }
def tE : State := tmS [(6, 4, c0t + 500), (9, 4, c0t + 500)] id
theorem witness_LoopsLieInOneStratum :
    (∃ (src : Src) (tlvs : List Tlv) (s : State) (s1 : State) (c : Cmd) (lo : Byte) (hi : Byte), accepted opSegmentConfig src tlvs s = some (s1, c) ∧ (0x0140, [lo, hi]) ∈ c.tlvs ∧ lo.toNat / 16 ≠ hi.toNat / 16) ∧
    (∃ (src : Src) (tlvs : List Tlv) (s : State) (s1 : State) (c : Cmd) (lo : Byte) (hi : Byte), accepted opSegmentConfig src tlvs s = some (s1, c) ∧ c.tlvs = [(0x0140, [lo, hi])] ∧ lo.toNat / 16 = hi.toNat / 16 ∧ lo.toNat < hi.toNat ∧ bit s.pw.carrier.strings lo.toNat = true ∧ bit s.pw.carrier.strings hi.toNat = true ∧ (s.grain hi.toNat).record = [] ∧ (s.grain lo.toNat).role = .single ∧ (s.grain hi.toNat).role = .single) :=
  ⟨⟨own, lpT [15, 16], lit, acS opSegmentConfig own (lpT [15, 16]) lit, acC opSegmentConfig own (lpT [15, 16]) lit, 15, 16, acc_some (by decide +kernel), by decide +kernel, by decide +kernel⟩,
   ⟨own, lpT [3, 9], lpS, acS opSegmentConfig own (lpT [3, 9]) lpS, acC opSegmentConfig own (lpT [3, 9]) lpS, 3, 9, acc_some (by decide +kernel), by decide +kernel, by decide +kernel, by decide +kernel, by decide +kernel, by decide +kernel, by decide +kernel, by decide +kernel, by decide +kernel⟩⟩
theorem witness_IncWritesAreClampedAndBounded :
    (∃ (i : BeatIn) (v : Nat) (s : State), s.lds.on = true ∧ s.pw.service = true ∧ s.lds.st ≠ .switch ∧ s.lds.incNext = some v) ∧
    (∃ (i : BeatIn) (s : State), s.lds.on = true ∧ s.pw.service = true ∧ s.lds.st ≠ .switch ∧ s.lds.incNext = none) ∧
    (∃ (i : BeatIn) (s : State), s.lds.on = true ∧ s.pw.service = true ∧ s.lds.st = .switch) :=
  ⟨⟨bi, 0x02000003, ck (fun l => { l with incNext := some 0x02000003 }), by decide +kernel, by decide +kernel, by decide +kernel, by decide +kernel⟩,
   ⟨bi, ck (fun l => { l with inc := 5 }), by decide +kernel, by decide +kernel, by decide +kernel, by decide +kernel⟩,
   ⟨bi, ck (fun l => { l with st := .switch, freq := 0x0200014E, slewLeft := 10 ^ 15, slewFull := true }), by decide +kernel, by decide +kernel, by decide +kernel⟩⟩
theorem witness_CoincidentChannelsDeliverOneTrigger :
    (∃ (n : Nat) (s : State), s.out = [] ∧ n ∈ s.firing ∧ 3 ≤ s.tmrDest n) ∧
    (∃ (n : Nat) (k : Nat) (v : Nat) (l : Tbl Nat) (s : State), s.lds.on = true ∧ s.rated ∧ ((∀ m < 16, m ≠ n → bit (s.reg (aLdsTmrCtl m)) 0 = false)) ∧ s.lds.ppsOut = l ∧ (∀ e ∈ l, k < s.ticksUntil e.2) ∧ s.lds.fsyncOut = [] ∧ s.lds.st ≠ .unset ∧ n < 16 ∧ bit (s.reg (aLdsTmrCtl n)) 0 = true ∧ bit (s.reg (aLdsTmrCtl n)) 1 = false ∧ s.tmrDest n = 1 ∧ s.tmrWid n = v ∧ 1 ≤ v ∧ v ≤ 100000 ∧ k = s.ticksUntil (s.reg (aLdsTmrCmp n)) ∧ k < s.ticksToBeat) ∧
    (∃ (n : Nat) (k : Nat) (v : Nat) (l : Tbl Nat) (s : State), s.lds.on = true ∧ s.rated ∧ ((∀ m < 16, m ≠ n → bit (s.reg (aLdsTmrCtl m)) 0 = false)) ∧ s.lds.fsyncOut = l ∧ (∀ e ∈ l, k < s.ticksUntil e.2) ∧ s.lds.ppsOut = [] ∧ s.lds.st ≠ .unset ∧ n < 16 ∧ bit (s.reg (aLdsTmrCtl n)) 0 = true ∧ bit (s.reg (aLdsTmrCtl n)) 1 = false ∧ s.tmrDest n = 2 ∧ s.tmrWid n = v ∧ 1 ≤ v ∧ v ≤ 100000 ∧ k = s.ticksUntil (s.reg (aLdsTmrCmp n)) ∧ k < s.ticksToBeat) ∧
    (∃ (n : Nat) (m : Nat) (k : Nat) (v : Nat) (w : Nat) (s : State), s.lds.on = true ∧ s.rated ∧ (∀ m < 16, bit (s.reg (aLdsTmrCtl m)) 0 = false) ∧ n ≠ m ∧ s.lds.ppsOut = tset [(m, w)] n v ∧ s.lds.fsyncOut = [] ∧ s.lds.st ≠ .unset ∧ k = s.ticksUntil v ∧ k < s.ticksUntil w ∧ k < s.ticksToBeat) ∧
    (∃ (n : Nat) (m : Nat) (k : Nat) (v : Nat) (w : Nat) (s : State), s.lds.on = true ∧ s.rated ∧ (∀ m < 16, bit (s.reg (aLdsTmrCtl m)) 0 = false) ∧ n ≠ m ∧ s.lds.fsyncOut = tset [(m, w)] n v ∧ s.lds.ppsOut = [] ∧ s.lds.st ≠ .unset ∧ k = s.ticksUntil v ∧ k < s.ticksUntil w ∧ k < s.ticksToBeat) :=
  ⟨⟨7, tmS [(3, 4, c0t), (7, 4, c0t), (9, 5, c0t)] id, by decide +kernel, by decide +kernel, by decide +kernel⟩,
   ⟨9, tA.ticksUntil (tA.reg (aLdsTmrCmp 9)), 10, tA.lds.ppsOut, tA, by decide +kernel, by decide +kernel, by decide +kernel, by decide +kernel, by decide +kernel, by decide +kernel, by decide +kernel, by decide +kernel, by decide +kernel, by decide +kernel, by decide +kernel, by decide +kernel, by decide +kernel, by decide +kernel, by decide +kernel, by decide +kernel⟩,
   ⟨9, tB.ticksUntil (tB.reg (aLdsTmrCmp 9)), 10, tB.lds.fsyncOut, tB, by decide +kernel, by decide +kernel, by decide +kernel, by decide +kernel, by decide +kernel, by decide +kernel, by decide +kernel, by decide +kernel, by decide +kernel, by decide +kernel, by decide +kernel, by decide +kernel, by decide +kernel, by decide +kernel, by decide +kernel, by decide +kernel⟩,
   ⟨9, 4, tC.ticksUntil vA, vA, wA, tC, by decide +kernel, by decide +kernel, by decide +kernel, by decide +kernel, by decide +kernel, by decide +kernel, by decide +kernel, by decide +kernel, by decide +kernel, by decide +kernel⟩,
   ⟨9, 4, tD.ticksUntil vA, vA, wA, tD, by decide +kernel, by decide +kernel, by decide +kernel, by decide +kernel, by decide +kernel, by decide +kernel, by decide +kernel, by decide +kernel, by decide +kernel, by decide +kernel⟩⟩
theorem witness_MissedSnapshotsAreLoggedOnly :
    (∃ (t0 : Nat) (src : Nat) (s : State), s.geo.on = true ∧ s.geo.narrow < 96 ∧ (s.geo.pend ≠ [] ∨ latchEdge t0 < s.geo.now)) ∧
    (∃ (a : Nat) (b : Nat) (k : Nat) (c : Nat) (s : State), s.lds.on = true ∧ s.rated ∧ s.Quiet [a, b] ∧ a < b ∧ b < 16 ∧ ((∀ n ∈ [a, b], bit (s.reg (aLdsTmrCtl n)) 0 = true ∧ bit (s.reg (aLdsTmrCtl n)) 1 = false ∧ s.tmrDest n = 4 ∧ s.reg (aLdsTmrCmp n) = c)) ∧ s.geo.mir.snaps = [] ∧ k = s.ticksUntil c ∧ k < s.ticksToBeat) :=
  ⟨⟨1000000, 1, gB, by decide +kernel, by decide +kernel, by decide +kernel⟩,
   ⟨6, 9, tE.ticksUntil ((c0t + 500) % 2 ^ 32), (c0t + 500) % 2 ^ 32, tE, by decide +kernel, by decide +kernel, by decide +kernel, by decide +kernel, by decide +kernel, by decide +kernel, by decide +kernel, by decide +kernel, by decide +kernel⟩⟩
/-- A state in the form, with a rate that waits for the next second and a command in front. -/
def inS : State := { lit with lds := { lit.lds with incNext := some 0x0200014F }, regs := [(aLdsCtl, 5)], pending := [.allFeedsLost] }
theorem inS_rate : inS.lds.rateOk := ⟨by decide, by decide, by decide, by decide, fun v h => by cases h; decide⟩
theorem inS_form : inS.InForm := ⟨by decide, by decide, by decide, inS_rate, by decide, by decide, by decide, by decide⟩
theorem witness_IncWritesAreClampedAndBounded_form : (∃ l : Lodestone, l.rateOk) ∧ (∃ s t : State, s.InForm ∧ step s = .next t) :=
  ⟨⟨inS.lds, inS_rate⟩, ⟨inS, afterStep inS, inS_form, rfl⟩⟩
theorem witness_EveryStepKeepsTheForm : ∃ s t : State, s.InForm ∧ step s = .next t := ⟨inS, afterStep inS, inS_form, rfl⟩

end Form

end Sys2Proof.Tests
end

section
/-!
SUPPORT. What every command does with the queue: nothing, since each meaning has the form `done` (log 1, log 2).
-/
namespace Sys2Proof.Machine

/-- A meaning of the form `done` has a next state, with the queue as it was. -/
theorem done_completes_keeps_pending (f : State → State) (s : State) : ∃ t, done s f = .next t ∧ t.pending = s.pending :=
  ⟨_, rfl, rfl⟩

/-- Every command's meaning is `done` of one effect, the same for every state; no arm of `exec` faults or is refused. -/
theorem exec_eq_done (c : Instr) : ∃ f : State → State, ∀ s, exec c s = done s f := by
  cases c <;> exact ⟨_, fun _ => by dsimp only [exec]; exact rfl⟩

theorem exec_completes_keeps_pending (c : Instr) (s : State) : ∃ t, exec c s = .next t ∧ t.pending = s.pending := by
  obtain ⟨f, hf⟩ := exec_eq_done c
  rw [hf s]
  exact done_completes_keeps_pending f s

theorem step_of_pending_nil {s : State} (h : s.pending = []) : step s = .next s := by
  simp only [step, h]

theorem step_of_pending_cons {c : Instr} {rest : List Instr} {s : State} (h : s.pending = c :: rest) :
    step s = exec c { s with pending := rest } := by
  simp only [step, h]

/-- A step takes the front command off the queue. -/
theorem step_completes_pops_front {c : Instr} {rest : List Instr} {s : State} (h : s.pending = c :: rest) :
    ∃ t, step s = .next t ∧ t.pending = rest := by
  rw [step_of_pending_cons h]
  exact exec_completes_keeps_pending c { s with pending := rest }

/-- The queue after a step is the queue's tail; an empty queue stays empty. -/
theorem step_pending_eq_tail {s t : State} (e : step s = .next t) : t.pending = s.pending.tail := by
  cases h : s.pending with
  | nil =>
    rw [step_of_pending_nil h] at e
    cases e
    exact h
  | cons c rest =>
    obtain ⟨u, hu, hp⟩ := step_completes_pops_front h
    rw [hu] at e
    cases e
    exact hp

theorem step_keeps_pending_wf {s t : State} (hw : s.pending.all Instr.wf = true) (e : step s = .next t) :
    t.pending.all Instr.wf = true := by
  rw [step_pending_eq_tail e]
  rw [List.all_eq_true] at hw ⊢
  exact fun c hc => hw c (List.mem_of_mem_tail hc)

/-- Settles O2: every meaning has the form `done`, and a step leaves the tail of the queue. -/
theorem everyCommandCompletesAndKeepsTheQueue : Obligations.EveryCommandCompletesAndKeepsTheQueue :=
  ⟨exec_completes_keeps_pending, fun _ _ _ => step_completes_pops_front, fun _ _ => step_keeps_pending_wf⟩

end Sys2Proof.Machine
end

section
/-!
SUPPORT. The grain of a port under a change of one grain, and the state after reset.
-/
namespace Sys2Proof.Machine

/-! ### One grain of the segment -/

/-- Changing a grain applies the function to it. -/
@[simp] theorem grain_modGrain_self (s : State) (g : Nat) (f : Grain → Grain) : (s.modGrain g f).grain g = f (s.grain g) :=
  tgetD_tset_self ..

/-- Changing a grain leaves the grain of every other port. -/
theorem grain_modGrain_ne (s : State) {g h : Nat} (f : Grain → Grain) (hn : h ≠ g) : (s.modGrain g f).grain h = s.grain h :=
  tgetD_tset_ne _ _ _ hn

/-- What the change of a grain keeps of a grain, it keeps of the grain of every port. -/
theorem grain_modGrain_keeps {α : Type} (v : Grain → α) (s : State) (g : Nat) (f : Grain → Grain) (hf : v (f (s.grain g)) = v (s.grain g))
    (h : Nat) : v ((s.modGrain g f).grain h) = v (s.grain h) := by
  by_cases hn : h = g
  · rw [hn, grain_modGrain_self, hf]
  · rw [grain_modGrain_ne s f hn]

/-- A trigger of R200 touches the trigger of its string alone, whatever the string's census does. -/
theorem triggerCensus_eq (g : Nat) (s : State) :
    triggerCensus g s = s ∨ triggerCensus g s = s.modGrain g (fun gr => { gr with trigger := some (gr.trigger.getD s.frm.now) }) := by
  unfold triggerCensus
  split
  · exact .inl rfl
  · exact .inr rfl

/-- A trigger of R200 leaves the role of every port. -/
theorem triggerCensus_role (g : Nat) (s : State) (h : Nat) : ((triggerCensus g s).grain h).role = (s.grain h).role := by
  rcases triggerCensus_eq g s with e | e
  · rw [e]
  · rw [e]; exact grain_modGrain_keeps Grain.role s g _ rfl h

/-! ### The state after reset -/

/-- Settles O60: no table of the reset state holds anything but the two vCtls that always exist, so each reading takes its default. -/
theorem resetLeavesTheStatedState : Obligations.ResetLeavesTheStatedState := by
  have hform : State.reset.InForm :=
    { mem := rfl, regs := rfl, words := by rintro e (h : e ∈ []); simp at h, rate := ⟨by decide, by decide, by decide, by decide, fun _ h => nomatch h⟩, assoc := rfl, ptp := rfl,
      tracks := rfl, blobs := rfl }
  exact ⟨hform, rfl, rfl, rfl, rfl, rfl, rfl, rfl, rfl, fun _ => rfl, fun _ => rfl, fun _ => rfl, rfl, rfl, rfl⟩

end Sys2Proof.Machine
end

section
/-!
SUPPORT. What the routes of the spine rest on (R475, R481), and with them the way of a reply.
-/
namespace Sys2Proof.Machine

/-- What positions and routes of the ring rest on is the same in two states: ring, table, the ports' own state and the notices (R480, R481). -/
structure SameRing (s t : State) : Prop where
  /-- the ring -/
  ring : t.spn.ring = s.spn.ring
  /-- the RING_TABLE -/
  table : t.spn.table = s.spn.table
  /-- the east port -/
  eastUp : t.spn.east.up = s.spn.east.up
  /-- the west port -/
  westUp : t.spn.west.up = s.spn.west.up
  /-- what LINK_NOTICEs said of other modules -/
  notices : t.spn.notices = s.spn.notices

theorem SameRing.of_spn {s t : State} (h : t.spn = s.spn) : SameRing s t := by constructor <;> rw [h]

theorem SameRing.trans {s u t : State} (h : SameRing s u) (k : SameRing u t) : SameRing s t :=
  ⟨k.ring.trans h.ring, k.table.trans h.table, k.eastUp.trans h.eastUp, k.westUp.trans h.westUp, k.notices.trans h.notices⟩

section
variable {s t : State} (h : SameRing s t)
include h

theorem SameRing.spinePos : t.spinePos = s.spinePos := by unfold State.spinePos; rw [h.ring, h.table]

theorem SameRing.spineAddr : t.spineAddr = s.spineAddr := by unfold State.spineAddr; rw [h.spinePos, h.ring]

theorem SameRing.spMine (m : SpHdr) : t.spMine m = s.spMine m := by unfold State.spMine; rw [h.spinePos, h.spineAddr]

theorem SameRing.ringSize : t.ringSize = s.ringSize := by unfold State.ringSize; rw [h.table]

theorem SameRing.ringLink (i : Nat) : t.ringLink i = s.ringLink i := by
  unfold State.ringLink State.portsUp
  rw [h.ringSize, h.spinePos, h.eastUp, h.westUp, h.notices]

theorem SameRing.reachFrom (east : Bool) (k p : Nat) : Machine.reachFrom t p east k = Machine.reachFrom s p east k := by
  induction k generalizing p with
  | zero => rfl
  | succ k ih => simp only [Machine.reachFrom, ih, h.ringSize, h.ringLink]

theorem SameRing.spineWay (q : Nat) : t.spineWay q = s.spineWay q := by
  have hf : t.folded = s.folded := by unfold State.folded; simp only [h.ringSize, h.ringLink]
  unfold State.spineWay
  simp only [h.spinePos, h.ringSize, hf, h.reachFrom]

theorem SameRing.wayTo (a : Nat) : t.wayTo a = s.wayTo a := by unfold State.wayTo; rw [h.ring, h.spineWay]

end

/-- Strings and slates play no part in whether a reply goes. -/
theorem replyGoes_strs_slt (s : State) (x : Strings) (y : Slates) (k : AssocKey) :
    replyGoes { s with strs := x, slt := y } k = replyGoes s k := by
  have hring : SameRing s { s with strs := x, slt := y } := .of_spn rfl
  unfold replyGoes
  simp only [hring.wayTo]
  rfl

end Sys2Proof.Machine
end

section
/-!
SUPPORT. The loop of SEGMENT_CONFIG: refused across strata, made within one (R22, R208, R572).
-/
namespace Sys2Proof.Machine

/-- A need that does not hold refuses with its error. -/
theorem need_false {p : Bool} (e : Err) (h : p = false) : need p e = .error e := by simp [need, h]

/-- A need that holds admits. -/
theorem need_true {p : Bool} (e : Err) (h : p = true) : need p e = .ok () := by simp [need, h]

theorem beNat_byte (b : Byte) : beNat [b] = b.toNat := by simp [beNat]

/-- The LOOP TLV of SEGMENT_CONFIG names its lower and its higher port. -/
theorem segOne_loop (lo hi : Byte) (occ : Nat) (s : State) : segOne 0x0140 [lo, hi] occ s = cfgLoop lo.toNat hi.toNat s := by
  simp [segOne, segStrings, beNat_byte]

/-- A loop across strata is refused (R22). -/
theorem cfgLoop_across_strata {lo hi : Nat} (h : lo / 16 ≠ hi / 16) (s : State) :
    ∃ e, cfgLoop lo hi s = .error e ∧ (lo < hi → e = eConfig 0x0140) := by
  have hs : (stratumOf lo == stratumOf hi) = false := beq_false_of_ne h
  by_cases hlt : lo < hi
  · exact ⟨_, by simp only [cfgLoop, need_true _ (decide_eq_true hlt), need_false _ hs]; rfl, fun _ => rfl⟩
  · exact ⟨_, by simp only [cfgLoop, need_false _ (decide_eq_false hlt)]; rfl, fun h => absurd h hlt⟩

/-- Each TLV is applied to the state that those before it leave, and the first refusal is that of the command (R572). -/
theorem segAll_cons (dst : List Bytes) (id : Nat) (b : Bytes) (r : List (Nat × Bytes)) (seen : List Nat) (s : State) :
    ∃ x : Except Err State, segAll dst ((id, b) :: r) seen s = x.bind (segAll dst r (id :: seen)) ∧
      (id ≠ 0x0182 → x = segOne id b (seen.filter (· == id)).length s) := by
  simp only [segAll]
  split
  · exact ⟨_, rfl, fun h => absurd ‹id = 0x0182› h⟩
  · exact ⟨_, rfl, fun _ => rfl⟩

/-- A command that carries a loop across strata is refused, whatever TLVs stand beside it (R572). -/
theorem segAll_loop_across_strata {lo hi : Byte} (h : lo.toNat / 16 ≠ hi.toNat / 16) (dst : List Bytes) (l : List (Nat × Bytes))
    (hm : (0x0140, [lo, hi]) ∈ l) (seen : List Nat) (s : State) : ∃ e, segAll dst l seen s = .error e := by
  induction l generalizing seen s with
  | nil => exact absurd hm List.not_mem_nil
  | cons y r ih =>
    obtain ⟨id, b⟩ := y
    obtain ⟨x, hx, hone⟩ := segAll_cons dst id b r seen s
    rw [hx]
    rcases List.mem_cons.1 hm with heq | hr
    · obtain ⟨rfl, rfl⟩ := Prod.mk.inj heq
      obtain ⟨e, he, -⟩ := cfgLoop_across_strata h s
      rw [hone (by decide), segOne_loop, he]
      exact ⟨e, rfl⟩
    · cases x with
      | error e => exact ⟨e, rfl⟩
      | ok t => exact ih hr (id :: seen) t

/-- The refusal of a command whose only TLV is a loop. -/
theorem segAll_loop (dst : List Bytes) (lo hi : Byte) (s : State) :
    segAll dst [(0x0140, [lo, hi])] [] s = cfgLoop lo.toNat hi.toNat s := by
  obtain ⟨x, hx, hone⟩ := segAll_cons dst 0x0140 [lo, hi] [] [] s
  rw [hx, hone (by decide), segOne_loop]
  cases cfgLoop lo.toNat hi.toNat s <;> rfl

/-- The state in which two open ports have become the lower and the higher port of a loop. -/
def loopMade (lo hi : Nat) (s : State) : State :=
  triggerCensus lo (((keepEntries (fun h => !onString hi h) s).modGrain lo (fun g => { g with role := .lower hi })).modGrain hi
    (fun g => { g with role := .higher lo, census := none, trigger := none }))

/-- Within a stratum any two fitted open ports with an empty record on the higher make a loop (R22, R208). -/
theorem cfgLoop_within_stratum {lo hi : Nat} {s : State} (hst : lo / 16 = hi / 16) (hlt : lo < hi) (hlo : bit s.pw.carrier.strings lo = true)
    (hhi : bit s.pw.carrier.strings hi = true) (hrec : (s.grain hi).record = []) (rlo : (s.grain lo).role = .single)
    (rhi : (s.grain hi).role = .single) : cfgLoop lo hi s = .ok (loopMade lo hi s) := by
  have hs : (stratumOf lo == stratumOf hi) = true := beq_iff_eq.2 hst
  simp only [cfgLoop, need_true _ (decide_eq_true hlt), need_true _ hs, hlo, hhi, hrec, rlo, rhi]
  rfl

theorem loopMade_roles {lo hi : Nat} (hlt : lo < hi) (s : State) :
    ((loopMade lo hi s).grain lo).role = .lower hi ∧ ((loopMade lo hi s).grain hi).role = .higher lo := by
  unfold loopMade
  rw [triggerCensus_role, triggerCensus_role, grain_modGrain_ne _ _ (Nat.ne_of_lt hlt), grain_modGrain_self, grain_modGrain_self]
  exact ⟨rfl, rfl⟩

/-- A new loop changes the strings and the slates alone. -/
theorem loopMade_frame (lo hi : Nat) (s : State) :
    loopMade lo hi s = { s with strs := (loopMade lo hi s).strs, slt := (loopMade lo hi s).slt } := by
  unfold loopMade
  rcases triggerCensus_eq lo _ with e | e <;> (rw [e]; rfl)

/-- What follows the commit of a SEGMENT_CONFIG that answers `r` and leaves `u`. -/
theorem execSegmentConfig_accepted {src : Src} {tlvs : List Tlv} {s s1 u : State} {c : Cmd} {r : Reply}
    (ha : accepted opSegmentConfig src tlvs s = some (s1, c)) (hc : segCommit c s1 = (u, r)) (hp : u.pending = s.pending) :
    ∃ t, exec (.segmentConfig src tlvs) s = .next t ∧ AfterReply u t ∧ (replyGoes u src.key = true → Replied src r t) := by
  obtain ⟨t, he, hr, hg⟩ := execOp_accepted ha
  have hcommit : opSegmentConfig.commit c s1 = (u, r) := hc
  rw [hcommit] at hr hg
  exact ⟨t, he, by rw [← hp] at hr; exact hr, hg⟩

/-- The reply of a command leaves the strings. -/
theorem AfterReply.strs {u t : State} (h : AfterReply u t) : t.strs = u.strs := by rw [h.frame]

/-- Settles O55: a loop across strata is refused whatever state its TLV meets, so the whole command is; within a stratum the roles are set. -/
theorem loopsLieInOneStratum : Obligations.LoopsLieInOneStratum := by
  constructor
  · intro src tlvs s s1 c lo hi ha hm hst
    obtain ⟨hd, -⟩ := acceptedIn_frame ha
    obtain ⟨e, he⟩ := segAll_loop_across_strata hst (c.all 0x0182) c.tlvs hm [] s1
    have hc : segCommit c s1 = (s1, c.err e) := by simp only [segCommit, he]
    unfold AfterDebit at hd
    obtain ⟨t, hx, hr, hg⟩ := execSegmentConfig_accepted ha hc (by rw [hd])
    refine ⟨t, hx, hr.strs.trans (by rw [hd]), hr, fun hone hlt hgo => ⟨_, hg hgo, ?_⟩⟩
    obtain ⟨e', he', heq⟩ := cfgLoop_across_strata hst s1
    rw [hone, segAll_loop, he'] at he
    cases he
    rw [heq hlt]
    rfl
  · intro src tlvs s s1 c lo hi ha hone hst hlt hlo hhi hrec rlo rhi
    obtain ⟨hd, -⟩ := acceptedIn_frame ha
    unfold AfterDebit at hd
    have hpw : s1.pw = s.pw := by rw [hd]
    have hgr : ∀ g, s1.grain g = s.grain g := fun g => by rw [hd]; rfl
    have hu : cfgLoop lo.toNat hi.toNat s1 = .ok (loopMade lo.toNat hi.toNat s1) :=
      cfgLoop_within_stratum hst hlt (hpw ▸ hlo) (hpw ▸ hhi) (hgr _ ▸ hrec) (hgr _ ▸ rlo) (hgr _ ▸ rhi)
    have hc : segCommit c s1 = (loopMade lo.toNat hi.toNat s1, c.ok) := by
      simp [segCommit, hone, segAll_loop, hu, Cmd.has, Cmd.tlv?]
    obtain ⟨t, hx, hr, hg⟩ := execSegmentConfig_accepted ha hc (by rw [loopMade_frame, hd])
    have hr' : ∀ g, t.grain g = (loopMade lo.toNat hi.toNat s1).grain g := fun g => by unfold State.grain; rw [hr.strs]
    obtain ⟨hlow, hhigh⟩ := loopMade_roles hlt s1
    refine ⟨t, hx, (hr' _).symm ▸ hlow, (hr' _).symm ▸ hhigh, fun hgo => hg ?_⟩
    rw [loopMade_frame, replyGoes_strs_slt]
    exact hgo

end Sys2Proof.Machine
end

section
/-!
SUPPORT. Messages on spine links: what sending and accepting one changes (R475 to R477), and the ring's census (R479, R480).
-/
namespace Sys2Proof.Machine

/-- An effect that answers `u` from the state without old outputs, and leaves the queue, is the meaning's next state. -/
theorem done_eq_next {s u : State} {f : State → State} (h : f { s with out := [] } = u) (hp : u.pending = s.pending) : done s f = .next u := by
  subst h
  exact congrArg Host.Outcome.next (congrArg (fun p => { f { s with out := [] } with pending := p }) hp.symm)

theorem guardS_true {p : Bool} (h : p = true) (f : State → State) (s : State) : guardS p f s = f s := if_pos h

/-! ### What only the links' own records carry -/

/-- The state with other port records and other outputs. -/
def State.onLinks (s : State) (e w : SpPort) (o : List Out) : State := { s with spn := { s.spn with east := e, west := w }, out := o }

/-- From `s` to `t` only the associations of the spine ports and the outputs have changed. -/
def LinksOnly (s t : State) : Prop :=
  ∃ e w o, t = s.onLinks e w o ∧ e.up = s.spn.east.up ∧ w.up = s.spn.west.up

theorem LinksOnly.refl (s : State) : LinksOnly s s := ⟨_, _, _, rfl, rfl, rfl⟩

theorem LinksOnly.trans {s u t : State} (h : LinksOnly s u) (k : LinksOnly u t) : LinksOnly s t := by
  obtain ⟨e, w, o, rfl, he, hw⟩ := h
  obtain ⟨e', w', o', rfl, he', hw'⟩ := k
  exact ⟨e', w', o', rfl, he'.trans he, hw'.trans hw⟩

theorem LinksOnly.sameRing {s t : State} (h : LinksOnly s t) : SameRing s t := by
  obtain ⟨e, w, o, rfl, he, hw⟩ := h
  exact ⟨rfl, rfl, he, hw, rfl⟩

theorem LinksOnly.emit {s t : State} (h : LinksOnly s t) (o : Out) : LinksOnly s (t.emit o) := by
  obtain ⟨e, w, l, rfl, he, hw⟩ := h
  exact ⟨e, w, l ++ [o], rfl, he, hw⟩

theorem linksOnly_modSp (s : State) (east : Bool) {f : SpPort → SpPort} (hf : ∀ p, (f p).up = p.up) : LinksOnly s (s.modSp east f) := by
  cases east
  · exact ⟨s.spn.east, f s.spn.west, s.out, rfl, rfl, hf _⟩
  · exact ⟨f s.spn.east, s.spn.west, s.out, rfl, hf _, rfl⟩

/-- A port is changed alone. -/
theorem spPort_modSp_other (s : State) (east : Bool) (f : SpPort → SpPort) : (s.modSp east f).spPort (!east) = s.spPort (!east) := by
  cases east <;> rfl

/-! ### Sending -/

/-- A port's association `a` has sent one message more. -/
def sentOn (a : SpAssoc) (p : SpPort) : SpPort := { p with assoc := some { a with tx := a.tx + 1 } }

/-- Under an association whose counter is not spent, a message leaves and CTR rises (R211, R476). -/
theorem spTx_open {east : Bool} {a : SpAssoc} {s : State} (ha : (s.spPort east).assoc = some a) (htx : a.tx + 1 < 2 ^ 64)
    (ty ttl dest src : Nat) (urgent : Bool) (args : List Nat) (body : Bytes) :
    spTx east ty ttl dest src urgent args body s = (s.modSp east (sentOn a)).emit (spLeaves east a ty ttl dest src urgent args body) := by
  unfold spTx
  rw [ha]
  exact guardS_true (decide_eq_true htx) _ _

/-- A message leaves a port that is up. -/
theorem spOut_open {east : Bool} {a : SpAssoc} {s : State} (hup : (s.spPort east).up = true) (ha : (s.spPort east).assoc = some a)
    (htx : a.tx + 1 < 2 ^ 64) (ty ttl dest src : Nat) (urgent : Bool) (args : List Nat) (body : Bytes) :
    spOut east ty ttl dest src urgent args body s = (s.modSp east (sentOn a)).emit (spLeaves east a ty ttl dest src urgent args body) := by
  unfold spOut
  rw [if_pos hup, spTx_open ha htx]

/-- A message to one module leaves the port that its route takes (R481). -/
theorem spTo_open {e : Bool} {a : SpAssoc} {s : State} {dest : Nat} (hway : s.wayTo dest = some e) (hup : (s.spPort e).up = true)
    (ha : (s.spPort e).assoc = some a) (htx : a.tx + 1 < 2 ^ 64) (ty ttl src : Nat) (urgent : Bool) (args : List Nat) (body : Bytes) :
    spTo dest ty ttl src urgent args body s = (s.modSp e (sentOn a)).emit (spLeaves e a ty ttl dest src urgent args body) := by
  simp only [spTo, hway, if_pos hup, spTx_open ha htx]

/-- A message passed on hop by hop leaves the port on the other side, with TTL one lower (R476, R477). -/
theorem spOnward_open {east : Bool} {a : SpAssoc} {s : State} {h : SpHdr} (hup : (s.spPort (!east)).up = true)
    (ha : (s.spPort (!east)).assoc = some a) (htx : a.tx + 1 < 2 ^ 64) (httl : h.ttl ≠ 0) (ty : Nat) (args : List Nat) (body : Bytes) :
    spOnward east h ty args body s =
      (s.modSp (!east) (sentOn a)).emit (spLeaves (!east) a ty (h.ttl - 1) 0 h.src false args body) := by
  unfold spOnward
  rw [if_neg httl, spOut_open hup ha htx]

theorem linksOnly_spTx (east : Bool) (ty ttl dest src : Nat) (urgent : Bool) (args : List Nat) (body : Bytes) (s : State) :
    LinksOnly s (spTx east ty ttl dest src urgent args body s) := by
  cases ha : (s.spPort east).assoc with
  | none => unfold spTx; rw [ha]; exact .refl s
  | some a =>
    by_cases htx : a.tx + 1 < 2 ^ 64
    · rw [spTx_open ha htx]; exact (linksOnly_modSp s east (f := sentOn a) fun _ => rfl).emit _
    · unfold spTx guardS; rw [ha]; simp only [htx, decide_false]; exact .refl s

theorem linksOnly_spOut (east : Bool) (ty ttl dest src : Nat) (urgent : Bool) (args : List Nat) (body : Bytes) (s : State) :
    LinksOnly s (spOut east ty ttl dest src urgent args body s) := by
  unfold spOut
  split
  · exact linksOnly_spTx ..
  · exact .refl s

theorem linksOnly_spAll (ty : Nat) (args : List Nat) (body : Bytes) (s : State) : LinksOnly s (spAll ty args body s) :=
  (linksOnly_spOut ..).trans (linksOnly_spOut ..)

theorem linksOnly_spForwardAll (east : Bool) (h : SpHdr) (ty : Nat) (args : List Nat) (body : Bytes) (s : State) :
    LinksOnly s (spForwardAll east h ty args body s) := by
  unfold spForwardAll
  split
  · exact .refl s
  · split
    · exact .refl s
    · exact linksOnly_spOut ..

/-! ### Accepting -/

/-- An accepted message changes the association that it came under, on its own port (R211, R212, R476). -/
theorem spAccept_true {east : Bool} {h : SpHdr} {s s1 : State} (hacc : spAccept east h s = (s1, true)) :
    ∃ f : SpPort → SpPort, (∀ p, (f p).up = p.up) ∧ s1 = s.modSp east f := by
  have refused : ∀ {u : State}, (u, false) ≠ (s1, true) := fun e => Bool.false_ne_true (congrArg Prod.snd e)
  unfold spAccept at hacc
  dsimp only at hacc
  split at hacc
  · exact absurd hacc refused
  split at hacc
  · split at hacc
    · split at hacc
      · exact ⟨fun p => { p with assoc := some _ }, fun _ => rfl, (congrArg Prod.fst hacc).symm⟩
      · exact absurd hacc refused
    · split at hacc
      · split at hacc
        · exact ⟨fun p => { p with old := some _ }, fun _ => rfl, (congrArg Prod.fst hacc).symm⟩
        · exact absurd hacc refused
      · exact absurd hacc refused
  · exact absurd hacc refused

/-- The state after an accepted message, and what it leaves. -/
theorem accepted_links {east : Bool} {h : SpHdr} {s s1 : State} (hacc : spAccept east h { s with out := [] } = (s1, true)) :
    (∃ e w, s1 = s.onLinks e w []) ∧ SameRing s s1 ∧ s1.spPort (!east) = s.spPort (!east) := by
  obtain ⟨f, hf, rfl⟩ := spAccept_true hacc
  have hl := linksOnly_modSp { s with out := [] } east hf
  refine ⟨by cases east <;> exact ⟨_, _, rfl⟩, ?_, spPort_modSp_other _ east f⟩
  have h0 : SameRing s { s with out := [] } := .of_spn rfl
  exact h0.trans hl.sameRing

end Sys2Proof.Machine
end

section
/-!
SUPPORT. The ring's census, its token and table, link notices, and relayed packets (R31, R201 to R204, R478 to R483).
-/
namespace Sys2Proof.Machine

/-! ### The master's census -/

/-- The token leaves the master by a port that is up (R201, R480). -/
theorem sendToken_open {east : Bool} {a : SpAssoc} {r : Nat} {s : State} (hup : (s.spPort east).up = true)
    (ha : (s.spPort east).assoc = some a) (htx : a.tx + 1 < 2 ^ 64) (hr : s.spn.ring = some r) :
    sendToken east s = (s.modSp east (sentOn a)).emit (spLeaves east a 0x10 63 0 s.spineAddr false [r, Config.moduleEui, s.spn.census, 0]
      (tokenBody ⟨r, Config.moduleEui, s.spn.census, 0⟩)) := by
  unfold sendToken
  rw [spOut_open hup ha htx, hr]
  rfl

/-- The next census of the ring has its number, its time and its first pass. -/
def ringBegun (s : State) : State :=
  s.sp (fun x => { x with census := (x.census + 1) % 65536, last := some s.frm.now, run := some ⟨false, s.frm.now, [], false⟩ })

/-- A master in service with its east port up begins a census by the token (R200, R479). -/
theorem startRing_east {s : State} (hm : s.spn.master = true) (hr : s.spn.ring.isNone = false) (hrun : s.spn.run = none)
    (hb : s.boot.inService = true) (hup : s.spn.east.up = true) : startRing s = sendToken true (ringBegun s) := by
  unfold startRing
  simp only [hm, hr, hrun, hb]
  exact if_pos hup

/-- The pass to the east has ended, and the pass to the west begins (R203, R479). -/
theorem ringPassEnd_west {reach : List (Nat × Nat)} {closed : Bool} {c : RingCensus} {s : State} (hrun : s.spn.run = some c)
    (hw : c.west = false) (hup : s.spn.west.up = true) :
    ringPassEnd reach closed s =
      sendToken false (s.sp (fun x => { x with run := some { c with west := true, since := s.frm.now, east := reach, closed := closed } })) := by
  simp only [ringPassEnd, hrun, hw, hup, if_true, Bool.false_eq_true, if_false]

/-- With the west port down the pass to the east is the whole census (R203, R479). -/
theorem ringPassEnd_last {reach : List (Nat × Nat)} {closed : Bool} {c : RingCensus} {s : State} (hrun : s.spn.run = some c)
    (hw : c.west = false) (hdown : s.spn.west.up = false) : ringPassEnd reach closed s = ringEnd reach [] closed s := by
  simp only [ringPassEnd, hrun, hw, hdown, Bool.false_eq_true, if_false]

/-- A census to the east alone, of at most 63 modules, finds them by hop. -/
theorem ringFound_east {reach : List (Nat × Nat)} (n : Option Nat) (hlen : reach.length ≤ 63) :
    ringFound n reach [] false = reach.zipIdx.map (fun e => (e.2 + 1, e.1)) := by
  simp [ringFound, List.take_of_length_le hlen]

theorem map_val_zipIdx {α β : Type} (l : List α) (f : α → β) : (l.zipIdx.map (fun e => (e.2 + 1, e.1))).map (fun e => f e.2) = l.map f := by
  conv_rhs => rw [← List.zipIdx_map_fst 0 l]
  simp only [List.map_map]
  rfl

theorem map_key_zipIdx {α : Type} (l : List α) :
    (l.zipIdx.map (fun e => (e.2 + 1, e.1))).map (·.1) = (List.range l.length).map (· + 1) := by
  rw [List.range_eq_range', ← List.zipIdx_map_snd 0 l]
  simp only [List.map_map]
  rfl

/-- The first census has made the record and the table, and the owner is told (R204, R479, R480). -/
def ringMade (reach : List (Nat × Nat)) (s : State) : State :=
  keepTable ⟨0, (Config.moduleEui, s.ownMgmt) :: (reach.map (·.1)).map (fun e => (e, s.mgmtOf (reach ++ []) e))⟩
    ((s.sp (fun x => { x with run := none, record := some (reach.map (·.1)), changed := none })).owner 0x0B02
      [tCode 0, tCount s.spn.census, tBitmap (bitmapBytes 8 (0 :: (List.range reach.length).map (· + 1)))])

/-- A first census to the east alone makes the record and the table; what follows is the RING_TABLE on the links. -/
theorem ringEnd_first {reach : List (Nat × Nat)} {s : State} (hrec : s.spn.record = none) (hlen : reach.length ≤ 63) :
    LinksOnly (ringMade reach s) (ringEnd reach [] false s) := by
  have hmany : (decide (reach.length > 63) || decide (([] : List (Nat × Nat)).length > 63) ||
      (!false && decide (reach.length + ([] : List (Nat × Nat)).length > 63))) = false := by simp; omega
  unfold ringEnd ringMade
  simp only [hrec, ringResult, ringRecord, ringFound_east _ hlen, map_val_zipIdx reach, map_key_zipIdx reach, hmany]
  exact linksOnly_spAll ..

/-- A running census of the ring has ended as aborted (R204, R206). -/
theorem abortRing_running {s : State} (h : s.spn.run.isSome = true) :
    abortRing s = (s.sp (fun x => { x with run := none })).owner 0x0B02 [tCode 6, tCount s.spn.census, tBitmap (bitmapBytes 8 [])] := by
  obtain ⟨c, hc⟩ := Option.isSome_iff_exists.1 h
  simp only [abortRing, hc]

theorem abortRing_idle {s : State} (h : s.spn.run = none) : abortRing s = s := by simp only [abortRing, h]

/-! ### Relayed packets -/

/-- A module with a position is of a ring. -/
theorem ring_of_spinePos {s : State} {p : Nat} (h : s.spinePos = some p) : ∃ r, s.spn.ring = some r := by
  unfold State.spinePos at h
  split at h
  · exact ⟨_, by assumption⟩
  · exact absurd h (by simp)

/-- The way to an address of the own ring is the way to its position (R13, R481). -/
theorem wayTo_ownRing {s : State} {r q : Nat} (hr : s.spn.ring = some r) (hq : q < 64) : s.wayTo (r * 64 + q) = s.spineWay q := by
  have hdiv : (r * 64 + q) / 64 = r := by omega
  have hmod : (r * 64 + q) % 64 = q := by omega
  unfold State.wayTo
  rw [hdiv, hmod, if_pos hr]

/-- A packet of the port for another module of the ring goes to that module, and its port is remembered (R482, log 32). -/
theorem relayEntry_other {port dst dscp p q : Nat} {packet : Bytes} {s : State} (hq : s.posOfAddr dst = some q) (hp : s.spinePos = some p)
    (hne : p ≠ q) :
    relayEntry port dst 49400 dscp true packet s = spTo (s.spn.ring.getD 0 * 64 + q) 0x20 63 s.spineAddr (dscp = 46) [] packet
      (s.sp (fun x => { x with relayed := tset x.relayed q port })) := by
  simp [relayEntry, hq, hp, hne]

/-! ### The token and the notices of other modules -/

/-- The first token that a module follows gives it its position (R480). -/
theorem takeToken_first {s : State} (h : s.spn.token = none) (east : Bool) (k : EnumTok) :
    takeToken east k s = s.sp (fun x => { x with token := some (k.master, s.frm.now, if east then 0 else k.pos + 1) }) := by
  simp [takeToken, h]

/-- A module of the token's ring that is not its master follows the token and passes it on with its own position (R201, R480). -/
theorem spineEnumerate_followed {s : State} {k : EnumTok} (hring : s.spn.ring = some k.ring) (hma : s.spn.master = false) (hpos : k.pos < 63)
    (east : Bool) (h : SpHdr) (reach : List (Nat × Nat)) :
    spineEnumerate east k h reach s = spOnward east h 0x10 [k.ring, k.master, k.number, k.pos + 1] (tokenBody { k with pos := k.pos + 1 })
      (takeToken east k s) := by
  simp [spineEnumerate, hring, hma, Nat.not_le.2 hpos]

/-- A module of another ring passes the token on as it came (R480). -/
theorem spineEnumerate_foreign {s : State} {k : EnumTok} (hring : s.spn.ring ≠ some k.ring) (east : Bool) (h : SpHdr)
    (reach : List (Nat × Nat)) :
    spineEnumerate east k h reach s = spOnward east h 0x10 [k.ring, k.master, k.number, k.pos] (tokenBody k) s := by
  simp [spineEnumerate, hring]

/-- A pass of the census that has made no progress for a frame ends (R201, R479). -/
theorem execRingCensusTimeout_due {reach : List (Nat × Nat)} {c : RingCensus} {s u : State} (hrun : s.spn.run = some c)
    (hdue : c.since < s.frm.now) (hu : ringPassEnd reach false { s with out := [] } = u) (hp : u.pending = s.pending) :
    exec (.ringCensusTimeout reach) s = .next u := by
  show execRingCensusTimeout reach s = _
  unfold execRingCensusTimeout
  refine done_eq_next ?_ hp
  simp only [hrun]
  exact (guardS_true (decide_eq_true hdue) _ _).trans hu

/-- A token that the link accepts is acted upon (R476, R480). -/
theorem execSpineEnumerate_accepted {east : Bool} {h : SpHdr} {k : EnumTok} {reach : List (Nat × Nat)} {s s1 u : State}
    (hmain : s.pw.main = true) (hacc : spAccept east h { s with out := [] } = (s1, true)) (hu : spineEnumerate east k h reach s1 = u)
    (hp : u.pending = s.pending) : exec (.spineEnumerate east h k reach) s = .next u := by
  refine done_eq_next ((guardS_true hmain _ _).trans ?_) hp
  simp only [hacc, if_true]
  exact hu

/-- What a LINK_NOTICE of the own ring leaves that says of a module taken to be up that a port of it is down (R478, R479). -/
theorem execLinkNotice_down {east eastUp westUp : Bool} {h : SpHdr} {s s1 : State} (hmain : s.pw.main = true)
    (hacc : spAccept east h { s with out := [] } = (s1, true)) (hring : s.spn.ring = some (h.src / 64))
    (hold : tgetD s.spn.notices (h.src % 64) (true, true) = (true, true)) (hdown : eastUp = false ∨ westUp = false) :
    ∃ e w o, exec (.linkNotice east h eastUp westUp) s =
      .next (abortRing ((s.onLinks e w o).sp (fun x => { x with notices := tset x.notices (h.src % 64) (eastUp, westUp) }))) := by
  obtain ⟨⟨e, w, rfl⟩, -, -⟩ := accepted_links hacc
  obtain ⟨e', w', o, hfwd, -⟩ := linksOnly_spForwardAll east h 0x05 [b2n eastUp, b2n westUp] (noticeBody h.src eastUp westUp)
    (s.onLinks e w [])
  refine ⟨e', w', o, done_eq_next ((guardS_true hmain _ _).trans ?_) ?_⟩
  · have hne : (true, true) ≠ (eastUp, westUp) := by
      rintro ⟨⟩
      simp at hdown
    have hfwd' : spForwardAll east h 0x05 [b2n eastUp, b2n westUp] (noticeBody h.src eastUp westUp) (s.onLinks e w []) = s.onLinks e' w' o := hfwd
    have hring' : (s.onLinks e' w' o).spn.ring = some (h.src / 64) := hring
    have hold' : tgetD (s.onLinks e' w' o).spn.notices (h.src % 64) (true, true) = (true, true) := hold
    simp only [hacc, hfwd', hring', hold', hne]
    simp
  · unfold abortRing
    split <;> rfl

/-- A RELAY message that the link accepts and that is for this module is taken up here (R476, R482). -/
theorem execRelay_here {east back : Bool} {h : SpHdr} {key : Option AssocKey} {packet : Bytes} {s s1 u : State} (hmain : s.pw.main = true)
    (hacc : spAccept east h { s with out := [] } = (s1, true)) (hmine : s.spMine h = true) (hu : relayHere h back key packet s1 = u)
    (hp : u.pending = s.pending) : exec (.relay (.msg east h back key packet)) s = .next u := by
  obtain ⟨-, hsame, -⟩ := accepted_links hacc
  refine done_eq_next ((guardS_true hmain _ _).trans ?_) hp
  simp only [hacc, hsame.spMine, hmine, if_true]
  exact hu

/-- Settles O52: each row is one of the operations above on the state that its message leaves, and what a link sends or accepts stays with its ports
and the outputs. -/
theorem ringsAreCountedAndPacketsRelayed : Obligations.RingsAreCountedAndPacketsRelayed := by
  refine ⟨?census, ?eastAlone, ?westPass, ?tokenTaken, ?tokenPassed, ?table, ?notice, ?entry, ?toward, ?back, ?fragment⟩
  case census =>
    intro r a s hmain hma hr hrun hb hlast hup ha htx
    have hstart := startRing_east (s := { s with out := [] }) hma (by rw [hr]; rfl) hrun hb hup
    have hdue : (s.spOn && !s.spn.last.any (fun f => s.frm.now < f + 6000)) = true := by
      simp only [State.spOn, hmain, Bool.true_and, Bool.not_eq_true', Option.any_eq_false]
      intro f hf
      have := hlast f hf
      simp; omega
    exact ⟨_, done_eq_next ((guardS_true hdue _ _).trans (hstart.trans (sendToken_open (a := a) hup ha htx hr))) rfl, rfl, rfl, rfl, rfl, rfl⟩
  case eastAlone =>
    intro c reach s hrun hw hdue hdown hrec hlen
    obtain ⟨e, w, o, hend, -⟩ := ringEnd_first (s := { s with out := [] }) hrec hlen
    have hlast := ringPassEnd_last (s := { s with out := [] }) (reach := reach) (closed := false) hrun hw hdown
    refine ⟨_, execRingCensusTimeout_due hrun hdue (hlast.trans hend) rfl, rfl, rfl, rfl, ?_, rfl, rfl⟩
    simp [State.onLinks, ringMade, keepTable, State.sp]
  case westPass =>
    intro c reach a r s hrun hw hdue hup ha htx hr
    have hpass := ringPassEnd_west (s := { s with out := [] }) (reach := reach) (closed := false) hrun hw hup
    exact ⟨_, execRingCensusTimeout_due hrun hdue (hpass.trans (sendToken_open (a := a) (r := r) hup ha htx hr)) rfl, rfl, rfl, rfl⟩
  case tokenTaken =>
    intro east h k reach s s1 a hmain hacc hring hma hpos htok hup ha htx httl
    obtain ⟨⟨e, w, rfl⟩, -, hport⟩ := accepted_links hacc
    have hfx := spineEnumerate_followed (s := s.onLinks e w []) hring hma hpos east h reach
    rw [takeToken_first (s := s.onLinks e w []) htok, spOnward_open (a := a) (hport ▸ hup) (hport ▸ ha) htx httl] at hfx
    refine ⟨_, execSpineEnumerate_accepted hmain hacc hfx ?_, ?_, ?_, ?_⟩
    all_goals cases east <;> rfl
  case tokenPassed =>
    intro east h k reach s s1 a hmain hacc hring hup ha htx httl
    obtain ⟨⟨e, w, rfl⟩, -, hport⟩ := accepted_links hacc
    have hfx := spineEnumerate_foreign (s := s.onLinks e w []) hring east h reach
    rw [spOnward_open (a := a) (hport ▸ hup) (hport ▸ ha) htx httl] at hfx
    refine ⟨_, execSpineEnumerate_accepted hmain hacc hfx ?_, ?_, ?_, ?_⟩
    all_goals cases east <;> rfl
  case table =>
    intro east h result mods k m s s1 hmain hacc hring hma htok hm hk
    obtain ⟨⟨e, w, rfl⟩, -, -⟩ := accepted_links hacc
    obtain ⟨e', w', o, hfwd, -⟩ := linksOnly_spForwardAll east h 0x11 (result :: mods.length :: mods.flatMap (fun m => [m.1, m.2]))
      (tableBody result mods) (s.onLinks e w [])
    refine ⟨keepTable ⟨result, mods⟩ (((s.onLinks e w []).onLinks e' w' o).sp (fun x => { x with record := some ((mods.drop 1).map (·.1)) })),
      done_eq_next ((guardS_true hmain _ _).trans ?_) rfl, rfl, rfl, rfl⟩
    have hmine : ((s.onLinks e w []).spn.ring == some (h.src / 64) && !(s.onLinks e w []).spn.master && k.1 == m.1) = true := by
      simp [State.onLinks, hring, hma, hk]
    have htok' : (s.onLinks e w []).spn.token = some k := htok
    simp only [hacc, hfwd, htok', hm, hmine]
    rfl
  case notice =>
    intro east eastUp westUp h s s1 hmain hacc hring hold hdown
    obtain ⟨e, w, o, hx⟩ := execLinkNotice_down hmain hacc hring hold hdown
    cases hrun : s.spn.run with
    | none =>
      rw [abortRing_idle ?idle] at hx
      case idle => exact hrun
      exact ⟨_, hx, tget_tset_self .., hrun, fun _ => rfl, nofun, rfl⟩
    | some c =>
      rw [abortRing_running ?running] at hx
      case running => exact Option.isSome_of_eq_some hrun
      exact ⟨_, hx, tget_tset_self .., rfl, nofun, fun _ => rfl, rfl⟩
  case entry =>
    intro port dst dscp q p e packet a s hmain hq hp hne hway hup ha htx hq64
    obtain ⟨r, hr⟩ := ring_of_spinePos hp
    have hsame : SameRing s (({ s with out := [] } : State).sp (fun x => { x with relayed := tset x.relayed q port })) :=
      ⟨rfl, rfl, rfl, rfl, rfl⟩
    have hto := hsame.wayTo (r * 64 + q)
    rw [wayTo_ownRing hr hq64, hway] at hto
    have hrel := relayEntry_other (s := { s with out := [] }) (packet := packet) (port := port) (dscp := dscp) hq hp hne
    rw [hr, Option.getD_some, spTo_open (a := a) hto (by cases e <;> exact hup) (by cases e <;> exact ha) htx] at hrel
    refine ⟨_, done_eq_next ((guardS_true hmain _ _).trans hrel) rfl, ?_, ?_, rfl⟩
    · cases e <;> exact tget_tset_self ..
    · rw [hr]
      rfl
  case toward =>
    intro east h k packet s s1 hmain hacc hmine hk
    obtain ⟨⟨e, w, rfl⟩, -, -⟩ := accepted_links hacc
    refine ⟨_, execRelay_here hmain hacc hmine (if_pos hk) rfl, ?_, rfl⟩
    exact tget_tset_self ..
  case back =>
    intro east h packet port key s s1 hmain hacc hmine hport
    obtain ⟨⟨e, w, rfl⟩, -, -⟩ := accepted_links hacc
    have hback : relayHere h true key packet (s.onLinks e w []) = (s.onLinks e w []).send .ipTx port [] packet := by
      simp [relayHere, State.onLinks, hport]
    exact ⟨_, execRelay_here hmain hacc hmine hback rfl, rfl, rfl⟩
  case fragment =>
    intro s hserv
    exact done_eq_next (guardS_true hserv _ _) rfl
end Sys2Proof.Machine
end

section
/-!
SUPPORT. What serving the pole nodes of a string leaves alone: power, frames, the Geode, and of every port its line and its census (R200 to R217, R224).
-/
namespace Sys2Proof.Machine

/-- What of a port the pole nodes of its string have no part in: rate, role, and the census with its number and result. -/
structure LineView where
  /-- rate of its link -/
  rate : Nat
  /-- role -/
  role : PortRole
  /-- the running census -/
  census : Option Census
  /-- its number -/
  number : Nat
  /-- the latest result -/
  result : Nat

def Grain.line (gr : Grain) : LineView := ⟨gr.rate, gr.role, gr.census, gr.number, gr.result⟩

/-- What of the module the serving of pole nodes leaves alone. -/
structure LinesView where
  /-- power -/
  pw : Power
  /-- frames -/
  frm : FrameSt
  /-- the Geode -/
  geo : Geode
  /-- the lines of the ports -/
  line : Nat → LineView

def State.lines (s : State) : LinesView := ⟨s.pw, s.frm, s.geo, fun h => (s.grain h).line⟩

/-- The same with the slates, and every register but two of a string's bridge. -/
structure ToldView where
  /-- what the serving of pole nodes leaves alone -/
  lines : LinesView
  /-- slates -/
  slt : Slates
  /-- registers -/
  reg : Nat → Nat

def State.linesTold (g : Nat) (s : State) : ToldView :=
  ⟨s.lines, s.slt, fun a => if a = aGrnBrDrop g ∨ a = aGrnBrStat g then 0 else s.reg a⟩

/-! ### One change of the state -/

/-- Two changes of a grain that agree on its line agree on all lines. -/
theorem lines_modGrain_congr (s : State) (g : Nat) {f f' : Grain → Grain} (hf : (f (s.grain g)).line = (f' (s.grain g)).line) :
    (s.modGrain g f).lines = (s.modGrain g f').lines := by
  have hl : ∀ h, ((s.modGrain g f).grain h).line = ((s.modGrain g f').grain h).line := by
    intro h
    by_cases hn : h = g
    · rw [hn, grain_modGrain_self, grain_modGrain_self, hf]
    · rw [grain_modGrain_ne s f hn, grain_modGrain_ne s f' hn]
  exact congrArg (LinesView.mk s.pw s.frm s.geo) (funext hl)

/-- A change of a grain that leaves its line leaves all lines. -/
theorem lines_modGrain (s : State) (g : Nat) {f : Grain → Grain} (hf : (f (s.grain g)).line = (s.grain g).line) :
    (s.modGrain g f).lines = s.lines :=
  congrArg (LinesView.mk s.pw s.frm s.geo) (funext (grain_modGrain_keeps Grain.line s g f hf))

@[simp] theorem lines_modPole (s : State) (g p : Nat) (f : Pole → Pole) : (s.modPole g p f).lines = s.lines := lines_modGrain s g rfl

@[simp] theorem linesTold_modPole (k : Nat) (s : State) (g p : Nat) (f : Pole → Pole) : (s.modPole g p f).linesTold k = s.linesTold k := by
  unfold State.linesTold
  rw [lines_modPole]
  rfl

theorem linesTold_lines {g : Nat} {s t : State} (h : t.linesTold g = s.linesTold g) : t.lines = s.lines := congrArg ToldView.lines h

/-- A register of the bridge of the string is none that the view holds. -/
theorem linesTold_setReg {g a : Nat} (s : State) (v : Nat) (ha : a = aGrnBrDrop g ∨ a = aGrnBrStat g) :
    (s.setReg a v).linesTold g = s.linesTold g := by
  have hr : (fun b => if b = aGrnBrDrop g ∨ b = aGrnBrStat g then 0 else (s.setReg a v).reg b) =
      (fun b => if b = aGrnBrDrop g ∨ b = aGrnBrStat g then 0 else s.reg b) := by
    funext b
    by_cases hb : b = aGrnBrDrop g ∨ b = aGrnBrStat g
    · rw [if_pos hb, if_pos hb]
    · rw [if_neg hb, if_neg hb, setReg_reg_ne s v (by rintro rfl; exact hb ha)]
  exact congrArg (ToldView.mk s.lines s.slt) hr

/-! ### What tenants are told, and the bridge -/

@[simp] theorem linesTold_endpointState (g : Nat) (s : State) (hs : List Nat) (code : Nat) :
    (s.endpointState hs code).linesTold g = s.linesTold g := by
  unfold State.endpointState
  refine foldl_keeps _ (State.linesTold g) _ (fun u e _ => ?_) s
  dsimp only
  split
  · rfl
  · split <;> rfl

@[simp] theorem linesTold_tellPole (k g p code : Nat) (s : State) : (tellPole g p code s).linesTold k = s.linesTold k := by
  unfold tellPole
  split
  · rw [linesTold_endpointState, linesTold_modPole]
  · rfl

@[simp] theorem linesTold_tagResult (g : Nat) (s : State) (t : Tag) (st : Nat) (l : List OTlv) :
    (tagResult s t st l).linesTold g = s.linesTold g := by
  unfold tagResult brResult
  split
  · split <;> rfl
  · rfl

@[simp] theorem linesTold_closeTag (k g : Nat) (s : State) (e : Nat × Tag) : (closeTag g s e).linesTold k = s.linesTold k := by
  unfold closeTag
  dsimp only
  split
  · rfl
  · rw [linesTold_tagResult]
    rfl

@[simp] theorem linesTold_dropPosted (g : Nat) (o : BrOp) (s : State) : (dropPosted g o s).linesTold g = s.linesTold g := by
  calc (dropPosted g o s).linesTold g
      = ((s.count (aGrnBrDrop g) 16 16).setFlag (aGrnBrStat g) 4).linesTold g := rfl
    _ = (s.count (aGrnBrDrop g) 16 16).linesTold g := linesTold_setReg _ _ (.inr rfl)
    _ = s.linesTold g := linesTold_setReg s _ (.inl rfl)

@[simp] theorem linesTold_bridgeUnreach (g p : Nat) (s : State) : (bridgeUnreach g p s).linesTold g = s.linesTold g := by
  unfold bridgeUnreach
  dsimp only
  rw [foldl_keeps _ (State.linesTold g) _ fun u e _ => linesTold_closeTag g g u e]
  exact foldl_keeps _ (State.linesTold g) _ (fun u o _ => linesTold_dropPosted g o u) s

@[simp] theorem linesTold_bridgeClose (g p : Nat) (s : State) : (bridgeClose g p s).linesTold g = s.linesTold g := by
  unfold bridgeClose
  dsimp only
  rw [foldl_keeps _ (State.linesTold g) _ fun u e _ => linesTold_closeTag g g u e, linesTold_bridgeUnreach]

@[simp] theorem lines_tellPole (g p code : Nat) (s : State) : (tellPole g p code s).lines = s.lines :=
  linesTold_lines (linesTold_tellPole g g p code s)

@[simp] theorem lines_bridgeClose (g p : Nat) (s : State) : (bridgeClose g p s).lines = s.lines := linesTold_lines (linesTold_bridgeClose g p s)

/-- A string that loses its link tells its tenants and drops what its bridge has not issued (R224, R237). -/
theorem linesTold_loseString (g : Nat) (s : State) : (loseString g s).linesTold g = s.linesTold g := by
  refine foldl_keeps _ (State.linesTold g) _ (fun u e _ => ?_) s
  rw [linesTold_bridgeUnreach]
  split
  · rw [linesTold_tellPole]
  · rfl

/-! ### Messages to pole nodes -/

@[simp] theorem lines_sendMsl (g port hop dst : Nat) (kind : Msg) (pre args : List Nat) (prot : MslProt) (body tail : Bytes) (s : State) :
    (sendMsl g port hop dst kind pre args prot body tail s).lines = s.lines := rfl

@[simp] theorem lines_wirePole (g p : Nat) (kind : Msg) (args : List Nat) (body tail : Bytes) (s : State) :
    (wirePole g p kind args body tail s).lines = s.lines := by
  unfold wirePole guardS
  split
  · dsimp only
    split
    · rw [lines_sendMsl, lines_modPole]
    · rfl
  · rfl

@[simp] theorem lines_wireInit (g p : Nat) (args : List Nat) (body : Bytes) (s : State) : (wireInit g p args body s).lines = s.lines := by
  unfold wireInit
  split <;> rfl

@[simp] theorem lines_wireItem (g p : Nat) (kind : Msg) (args : List Nat) (body : Bytes) (s : State) :
    (wireItem g p kind args body s).lines = s.lines := by
  unfold wireItem
  split
  · rfl
  · rfl
  · exact lines_wireInit ..
  · exact lines_wirePole ..

@[simp] theorem lines_noteStall (g p cls : Nat) (s : State) : (noteStall g p cls s).lines = s.lines := lines_modPole ..

@[simp] theorem lines_sendItem (g p : Nat) (kind : Msg) (args : List Nat) (body : Bytes) (s : State) :
    (sendItem g p kind args body s).lines = s.lines := by
  unfold sendItem
  split
  · rfl
  · dsimp only
    split <;> simp

@[simp] theorem lines_sendPole (g p : Nat) (kind : Msg) (args : List Nat) (body : Bytes) (s : State) :
    (sendPole g p kind args body s).lines = s.lines := by
  unfold sendPole guardS
  split
  · exact lines_sendItem ..
  · rfl

@[simp] theorem lines_releaseHeld (g p cls fuel : Nat) (s : State) : (releaseHeld g p cls fuel s).lines = s.lines := by
  induction fuel generalizing s with
  | zero => rfl
  | succ f ih =>
    unfold releaseHeld
    split
    · rfl
    · split
      · rfl
      · split
        · exact lines_noteStall ..
        · rw [ih, lines_wireItem, lines_modPole]

/-! ### Pairings, associations and the group key -/

@[simp] theorem lines_takeAid (s : State) : (takeAid s).2.lines = s.lines := rfl

@[simp] theorem lines_fullCredits (g p : Nat) (s : State) : (fullCredits g p s).lines = s.lines := lines_modPole ..

@[simp] theorem lines_sendInit (g p : Nat) (i : PoleInit) (s : State) : (sendInit g p i s).lines = s.lines := by
  unfold sendInit
  dsimp only
  rw [lines_sendItem]
  split
  · rw [lines_releaseHeld, lines_fullCredits, lines_modPole]
    rfl
  · rw [lines_modPole]
    rfl

@[simp] theorem lines_startAssoc (g p : Nat) (s : State) : (startAssoc g p s).lines = s.lines := by
  unfold startAssoc
  split
  · rfl
  · dsimp only
    rw [lines_sendInit, lines_takeAid, lines_takeAid]

@[simp] theorem lines_sendPairInit (g p tries : Nat) (s : State) : (sendPairInit g p tries s).lines = s.lines := by
  unfold sendPairInit
  split
  · exact lines_modPole ..
  · dsimp only
    rw [lines_sendItem, lines_fullCredits, lines_modPole]
    rfl

@[simp] theorem lines_servePole (g p : Nat) (s : State) : (servePole g p s).lines = s.lines := by
  unfold servePole
  split
  · rfl
  · split
    · rw [lines_startAssoc, lines_modPole]
    · exact lines_sendPairInit ..

@[simp] theorem lines_newGroupKey (g : Nat) (s : State) : (newGroupKey g s).lines = s.lines := by
  unfold newGroupKey
  dsimp only
  rw [lines_modGrain]
  · rfl
  · rfl

@[simp] theorem lines_sendGroupKey (g p : Nat) (s : State) : (sendGroupKey g p s).lines = s.lines := by
  unfold sendGroupKey
  dsimp only
  rw [lines_sendPole, lines_modPole]
  split
  · exact lines_newGroupKey g s
  · rfl

@[simp] theorem lines_replaceGroupKey (g : Nat) (s : State) : (replaceGroupKey g s).lines = s.lines := by
  unfold replaceGroupKey
  dsimp only
  rw [foldl_keeps _ State.lines, lines_newGroupKey, lines_modGrain]
  · rfl
  · intro u e _
    split
    · exact lines_sendGroupKey ..
    · rfl

/-! ### The positions of a census -/

@[simp] theorem lines_clearEntries (g p : Nat) (s : State) : (clearEntries g p s).lines = s.lines := rfl

@[simp] theorem lines_freshChecks (g p : Nat) (s : State) : (freshChecks g p s).lines = s.lines := rfl

@[simp] theorem lines_owner (s : State) (code : Nat) (l : List OTlv) : (s.owner code l).lines = s.lines := rfl

@[simp] theorem lines_setFlag (s : State) (a k : Nat) : (s.setFlag a k).lines = s.lines := rfl

@[simp] theorem lines_fwCheck (g p : Nat) (s : State) : (fwCheck g p s).lines = s.lines := by
  unfold fwCheck
  split
  · split <;> rfl
  · rfl

@[simp] theorem lines_presetPole (g p : Nat) (s : State) : (presetPole g p s).lines = s.lines := by
  unfold presetPole
  split
  · refine foldl_keeps _ State.lines _ (fun u h _ => ?_) s
    unfold State.defaultPreset
    split <;> rfl
  · rfl

@[simp] theorem lines_adopt (g p : Nat) (r : PoleReport) (s : State) : (adopt g p r s).lines = s.lines := by
  unfold adopt
  simp only [lines_servePole, lines_tellPole, lines_presetPole, lines_fwCheck, lines_freshChecks, lines_clearEntries]
  exact lines_modGrain s g rfl

@[simp] theorem lines_rejoin (g p : Nat) (r : PoleReport) (s : State) : (rejoin g p r s).lines = s.lines := by
  unfold rejoin
  extract_lets was had served s1 s2 s3
  have h2 : s2.lines = s.lines := by
    refine Eq.trans (iteInduction (motive := fun x : State => x.lines = s1.lines) (fun _ => rfl) (fun _ => lines_fwCheck ..)) ?_
    simp [s1]
  have h3 : s3.lines = s.lines := by
    refine Eq.trans (iteInduction (motive := fun x : State => x.lines = s2.lines) (fun _ => rfl) (fun _ => ?_)) h2
    rw [lines_tellPole, lines_freshChecks]
  split
  · exact h3
  · rw [lines_servePole, h3]

@[simp] theorem lines_unserve (g p : Nat) (f : Pole → Pole) (s : State) : (unserve g p f s).lines = s.lines := by
  unfold unserve
  split
  · rfl
  · dsimp only
    rw [lines_bridgeClose]
    split
    · rw [lines_tellPole, lines_modPole]
    · exact lines_modPole ..

@[simp] theorem lines_pend (g p : Nat) (r : Option PoleReport) (s : State) : (pend g p r s).lines = s.lines := by
  unfold pend
  rw [lines_owner, lines_unserve]

@[simp] theorem lines_pendBeyond (g p : Nat) (r : PoleReport) (s : State) : (pendBeyond g p r s).lines = s.lines := by
  unfold pendBeyond
  rw [lines_owner]
  exact lines_modGrain s g rfl

/-- What becomes of a position after a census leaves the lines (R204). -/
@[simp] theorem lines_reconcilePos (g res : Nat) (found : Tbl PoleReport) (s : State) (p : Nat) :
    (reconcilePos g res found s p).lines = s.lines := by
  unfold reconcilePos
  dsimp only
  split
  · rfl
  · split
    · exact lines_adopt ..
    · split
      · exact lines_pendBeyond ..
      · rfl
  · split
    · exact lines_pend ..
    · exact lines_unserve ..
  · split
    · exact lines_rejoin ..
    · split
      · rw [lines_owner, lines_adopt, lines_unserve]
      · exact lines_pend ..

/-- All positions under the result of a census. -/
theorem lines_reconcileAll (g res : Nat) (found : Tbl PoleReport) (l : List Nat) (s : State) :
    (l.foldl (fun s i => reconcilePos g res found s (i + 1)) s).lines = s.lines :=
  foldl_keeps _ State.lines _ (fun u i _ => lines_reconcilePos g res found u (i + 1)) s

@[simp] theorem lines_dropKeyHolders (g : Nat) (held : List Nat) (s : State) : (dropKeyHolders g held s).lines = s.lines := by
  unfold dropKeyHolders
  split
  · rfl
  · exact lines_replaceGroupKey ..

/-! ### The end of a census -/

/-- Of a string whose port is no lower one of a loop, the end of a census leaves the lines but for the result that it shows (R203, R204). -/
theorem lines_finishCensus {g : Nat} {s : State} (hrole : (s.grain g).role = .single) (c : Census) :
    (finishCensus g c s).lines = (s.modGrain g (fun gr => gr.showReach (censusResult false (s.grain g).record c) c)).lines := by
  unfold finishCensus
  extract_lets gr looped n found res a b far held route before s1 s2 after s3 s4
  have hres : res = censusResult false (s.grain g).record c := by simp only [res, looped, gr, hrole]
  have h1 : s1.lines = (s.modGrain g (fun gr => gr.showReach (censusResult false (s.grain g).record c) c)).lines :=
    lines_modGrain_congr s g (hres ▸ rfl)
  have h2 : s2.lines = s1.lines := lines_reconcileAll g res found (List.range 64) s1
  have h3 : s3.lines = s2.lines := by
    refine foldl_keeps _ State.lines _ (fun u i _ => ?_) s2
    split
    · rfl
    · exact lines_modPole ..
  have h4 : s4.lines = s3.lines := iteInduction (motive := fun x : State => x.lines = s3.lines)
    (fun _ => (lines_owner ..).trans (lines_setFlag ..)) (fun _ => rfl)
  rw [lines_dropKeyHolders]
  exact h4.trans (h3.trans (h2.trans h1))

end Sys2Proof.Machine
end

section
/-!
SUPPORT. String links and censuses: how each begins, what it keeps of its reports, how it ends, and what a link change does to it (R26, R188, R189,
R200 to R206).
-/
namespace Sys2Proof.Machine

/-- A meaning's next state has the effect, and the queue as it was. -/
theorem done_next {s u : State} {f : State → State} (h : f { s with out := [] } = u) : done s f = .next { u with pending := s.pending } := by
  subst h
  rfl

/-! ### Strings and their ports -/

theorem stringOf_of_single {s : State} {p : Nat} (h : (s.grain p).role = .single) : s.stringOf p = p := by
  unfold State.stringOf
  rw [h]

theorem leadPort_of_single {s : State} {g : Nat} (h : (s.grain g).role = .single) : s.leadPort g = g := by
  unfold State.leadPort
  rw [h]

/-- The rate of a string rests on the rates and the roles of ports alone (R188). -/
theorem stringRate_congr {s t : State} (hr : ∀ h, (t.grain h).rate = (s.grain h).rate) (ho : ∀ h, (t.grain h).role = (s.grain h).role)
    (g : Nat) : t.stringRate g = s.stringRate g := by
  have hl : t.leadPort g = s.leadPort g := by
    unfold State.leadPort
    simp only [ho, hr]
  unfold State.stringRate
  rw [hl, hr]

/-- A change of a grain that leaves its rate and its role leaves the rate of every string. -/
theorem stringRate_modGrain (s : State) (k : Nat) {f : Grain → Grain} (hr : (f (s.grain k)).rate = (s.grain k).rate)
    (ho : (f (s.grain k)).role = (s.grain k).role) (g : Nat) : (s.modGrain k f).stringRate g = s.stringRate g :=
  stringRate_congr (grain_modGrain_keeps Grain.rate s k f hr) (grain_modGrain_keeps Grain.role s k f ho) g

/-! ### The passes of a census -/

/-- ENUMERATE goes out at the string's rate, and nothing else changes. -/
theorem sendEnumerate_out (g port n : Nat) (s : State) :
    (sendEnumerate g port n s).out = s.out ++ [.msg .mslEnumerate port [0, n]
      (mslEther port (mslMessage (s.stringRate g) 0 .mslEnumerate [0, n] .clear (beBytes 2 n)))] := by
  unfold sendEnumerate sendMsl
  rw [State.send_out, List.append_nil, List.nil_append]

theorem sendEnumerate_grain (g port n : Nat) (s : State) (h : Nat) : (sendEnumerate g port n s).grain h = s.grain h := rfl

/-- A census begins with ENUMERATE from the lead port (R201, R203). -/
theorem startCensus_begins (g : Nat) (s : State) :
    CensusBegins g (((s.grain g).number + 1) % 65536) s (startCensus g { s with out := [] }) := by
  have hgr : (startCensus g { s with out := [] }).grain g = { s.grain g with
      number := ((s.grain g).number + 1) % 65536, trigger := none, waitUntil := none,
      census := some ⟨((s.grain g).number + 1) % 65536, s.leadPort g != g, s.frm.now, [], [], false, false⟩ } := by
    unfold startCensus
    exact (sendEnumerate_grain ..).trans (grain_modGrain_self ..)
  refine ⟨?_, congrArg Grain.number hgr, congrArg Grain.trigger hgr, congrArg Grain.waitUntil hgr, congrArg Grain.census hgr, rfl⟩
  unfold startCensus
  dsimp only
  rw [sendEnumerate_out, stringRate_modGrain _ g rfl rfl]
  rfl

/-- The pass from the higher port follows the one from the lower (R201, R203). -/
theorem endPass_second {g h : Nat} {c : Census} {s : State} (hc : (s.grain g).census = some c) (hrole : (s.grain g).role = .lower h)
    (hpass : c.higherPass = false) (hrate : (s.grain h).rate ≠ 0) :
    endPass g s = sendEnumerate g h c.number (s.modGrain g (fun gr => { gr with census := some { c with higherPass := true, last := s.frm.now } })) := by
  simp [endPass, hc, hrole, hpass, hrate]

/-- ENUMERATE of the second pass leaves in the state that has noted the pass. -/
theorem secondPassBegins_sent {g h : Nat} {c : Census} {closed : Bool} {s u : State} (hu : u = { s with strs := u.strs, out := [] })
    (hr : ∀ k, (u.grain k).rate = (s.grain k).rate) (ho : ∀ k, (u.grain k).role = (s.grain k).role) :
    SecondPassBegins g h c closed s (sendEnumerate g h c.number
      (u.modGrain g (fun gr => { gr with census := some { c with closed := closed, higherPass := true, last := u.frm.now } }))) := by
  have hnow : u.frm.now = s.frm.now := by rw [hu]
  have hout : u.out = [] := by rw [hu]
  refine ⟨?_, ?_, ?_⟩
  · rw [hnow]
    exact congrArg Grain.census ((sendEnumerate_grain ..).trans (grain_modGrain_self ..))
  · rw [sendEnumerate_out, stringRate_modGrain _ g rfl rfl, stringRate_congr hr ho, State.modGrain_out, hout]
    rfl
  · rw [hu]
    rfl

/-- Under a settled rate the end of the only pass of an open string ends its census (R201, R204). -/
theorem endPass_settled {g : Nat} {c : Census} {s : State} (hc : (s.grain g).census = some c) (hrole : (s.grain g).role = .single)
    (htry : (s.grain g).try_ = .settled) :
    ((endPass g s).grain g).census = none ∧ ((endPass g s).grain g).number = (s.grain g).number ∧
      ((endPass g s).grain g).result = censusResult false (s.grain g).record c ∧
      (endPass g s).pw = s.pw ∧ (endPass g s).frm = s.frm ∧ (endPass g s).geo = s.geo := by
  have he : endPass g s = finishCensus g c s := by
    simp only [endPass, hc, hrole, endCensus, leadPort_of_single hrole, htry]
  rw [he]
  have hl := lines_finishCensus hrole c
  have hline := congrFun (congrArg LinesView.line hl) g
  have hline' : ((finishCensus g c s).grain g).line = ((s.grain g).showReach (censusResult false (s.grain g).record c) c).line :=
    hline.trans (congrArg Grain.line (grain_modGrain_self ..))
  exact ⟨congrArg LineView.census hline', congrArg LineView.number hline', congrArg LineView.result hline',
    congrArg LinesView.pw hl, congrArg LinesView.frm hl, congrArg LinesView.geo hl⟩

/-! ### Reports -/

/-- A census with the report of a hop in its running pass. -/
def Census.reported (c : Census) (now hop : Nat) (rep : PoleReport) : Census :=
  { c with last := now, lower := if c.higherPass then c.lower else tset c.lower hop rep,
           higher := if c.higherPass then tset c.higher hop rep else c.higher }

/-- The state in which the census of a string has the report of a hop. -/
def reportKept (g hop : Nat) (rep : PoleReport) (c : Census) (s : State) : State :=
  ({ s with out := [] } : State).modGrain g (fun gr => { gr with census := some (c.reported s.frm.now hop rep) })

/-- A report of the running pass is kept by hop, and LAST ends the pass (R201, R202). -/
theorem execEnumReport_kept {p hop : Nat} {rep : PoleReport} {last : Bool} {c : Census} {s : State}
    (hc : (s.grain (s.stringOf p)).census = some c) (hpass : c.higherPass = (p != s.stringOf p)) (hhop : hop ≤ 64) :
    exec (.enumReport p c.number hop rep last) s = .next
      { (if last then endPass (s.stringOf p) (reportKept (s.stringOf p) hop rep c s) else reportKept (s.stringOf p) hop rep c s)
        with pending := s.pending } := by
  have hc' : (State.grain { s with out := [] } (s.stringOf p)).census = some c := hc
  have hg : State.stringOf { s with out := [] } p = s.stringOf p := rfl
  have hguard : (c.number != c.number || c.higherPass != (p != s.stringOf p)) = false := by simp [hpass]
  show execEnumReport p c.number hop rep last s = _
  unfold execEnumReport
  refine done_next ?_
  simp only [hg, hc', hguard, Bool.false_eq_true, if_false, gt_iff_lt, Nat.not_lt.2 hhop, decide_false, Bool.or_false]
  unfold reportKept Census.reported
  cases c.higherPass <;> rfl

end Sys2Proof.Machine
end

section
/-!
SUPPORT. What a gain or a loss of link does to a string and its census (R26, R189, R200, R203, R206), and the statement on censuses.
-/
namespace Sys2Proof.Machine

/-! ### Triggers, aborts and the fold of a loop -/

/-- With no census running a trigger waits for the next beat 0 (R200). -/
theorem triggerCensus_idle {g : Nat} {s : State} (h : (s.grain g).census = none) :
    triggerCensus g s = s.modGrain g (fun gr => { gr with trigger := some (gr.trigger.getD s.frm.now) }) := by
  unfold triggerCensus
  rw [h]
  rfl

/-- The grain of a string whose running census a link change has ended (R206). -/
def Grain.aborted (gr : Grain) (now : Nat) : Grain :=
  { gr with census := none, trigger := some now, aborts := min 8 (gr.aborts + 1), result := 6,
            unstable := gr.unstable || decide (min 8 (gr.aborts + 1) = 8),
            waitUntil := some (now + if min 8 (gr.aborts + 1) = 8 then 100 else 2) }

/-- From the eighth abort on the census waits 100 frames, before it 2 (R206). -/
theorem Grain.aborted_waitUntil (gr : Grain) (now : Nat) : (gr.aborted now).waitUntil = some (now + if 7 ≤ gr.aborts then 100 else 2) := by
  have heighth : min 8 (gr.aborts + 1) = 8 ↔ 7 ≤ gr.aborts := by omega
  simp only [Grain.aborted, heighth]

/-- An abort sets its flag, tells the owner and ends the census (R206). -/
theorem abortCensus_running {g : Nat} {c : Census} {s : State} (h : (s.grain g).census = some c) :
    ∃ x, abortCensus g s = ({ s.setFlag (aGrnStat g) 2 with ses := x } : State).modGrain g (·.aborted s.frm.now) := by
  simp only [abortCensus, h]
  split <;> exact ⟨_, rfl⟩

/-- The fold of a loop changes how its string is served, and nothing else (R26, R203). -/
theorem foldOver_eq (g : Nat) (s : State) : foldOver g s = s ∨
    ∃ a, foldOver g s = s.modGrain g (fun gr => { gr with folded := true, foldA := a, record := tmap gr.record (fun _ q => { q with full := true }) }) := by
  unfold foldOver
  split
  · dsimp only
    split
    · exact .inl rfl
    · exact .inr ⟨_, rfl⟩
  · exact .inl rfl

theorem foldOver_frame (g : Nat) (s : State) : foldOver g s = { s with strs := (foldOver g s).strs } := by
  obtain h | ⟨a, h⟩ := foldOver_eq g s
  · rw [h]
  · rw [h]
    rfl

/-- What rests on neither the record nor the fold of a grain stands when a loop folds. -/
theorem foldOver_keeps {α : Type} (v : Grain → α) (hv : ∀ gr f a r, v { gr with folded := f, foldA := a, record := r } = v gr)
    (g : Nat) (s : State) (h : Nat) : v ((foldOver g s).grain h) = v (s.grain h) := by
  obtain e | ⟨a, e⟩ := foldOver_eq g s
  · rw [e]
  · rw [e]
    exact grain_modGrain_keeps v s g _ (hv _ _ _ _) h

/-- Of a pole node the fold of a loop changes no more than that its next FRAME message is full. -/
theorem foldOver_told {g : Nat} {s : State} (h : ∀ e ∈ (s.grain g).record, e.2.told = 0) :
    ∀ e ∈ ((foldOver g s).grain g).record, e.2.told = 0 := by
  obtain e | ⟨a, e⟩ := foldOver_eq g s
  · rw [e]
    exact h
  · rw [e, grain_modGrain_self]
    intro x hx
    obtain ⟨y, hy, rfl⟩ := List.mem_map.1 hx
    exact h y hy

/-- Where no tenant was told that a pole node is gone, none is told that it is back (R224). -/
theorem regainString_untold {g : Nat} {s : State} (h : ∀ e ∈ (s.grain g).record, e.2.told = 0) : regainString g s = s := by
  refine foldl_keeps _ id _ (fun u e he => ?_) s
  simp [h e he]

/-! ### A port gains link -/

/-- The grain of a port that has gained link at a rate (R189). -/
def Grain.linked (gr : Grain) (rate beat : Nat) : Grain :=
  { gr with rate := rate, fecOn := rate = 1 && gr.fec, trySince := beat, try_ := if gr.rateCfg = 0 then .locked else .settled }

/-- A port has link, and its string waits for its census (R200). -/
def linkGained (p r : Nat) (s : State) : State :=
  (s.modGrain p (·.linked r s.absBeat)).modGrain (s.stringOf p) (fun gr => { gr with trigger := some (gr.trigger.getD s.frm.now) })

theorem linkGained_rate (p r : Nat) (s : State) : ((linkGained p r s).grain p).rate = r := by
  unfold linkGained
  rw [grain_modGrain_keeps Grain.rate, grain_modGrain_self]
  · rfl
  · rfl

theorem linkGained_trigger (p r : Nat) (s : State) :
    ((linkGained p r s).grain (s.stringOf p)).trigger = some ((s.grain (s.stringOf p)).trigger.getD s.frm.now) := by
  have h1 : ((s.modGrain p (·.linked r s.absBeat)).grain (s.stringOf p)).trigger = (s.grain (s.stringOf p)).trigger :=
    grain_modGrain_keeps Grain.trigger s p _ rfl _
  unfold linkGained
  rw [grain_modGrain_self, h1]

theorem linkGained_record (p r : Nat) (s : State) (h : Nat) : ((linkGained p r s).grain h).record = (s.grain h).record :=
  (grain_modGrain_keeps Grain.record _ _ _ rfl h).trans (grain_modGrain_keeps Grain.record s p _ rfl h)

/-- A port gains link: with no census running and no pole node reported gone, its string waits for a census, folds where its partner has no link, and
the owner is told (R26, R200, R203). -/
theorem linkEvent_up {p r : Nat} {s : State} (hc : (s.grain (s.stringOf p)).census = none)
    (htold : ∀ e ∈ (s.grain (s.stringOf p)).record, e.2.told = 0) :
    linkEvent p true r s = (foldOver (s.stringOf p) (linkGained p r s)).owner 0x0320 [tPort p, tCode 1, tCode r] := by
  have hc1 : ((s.modGrain p (·.linked r s.absBeat)).grain (s.stringOf p)).census = none :=
    (grain_modGrain_keeps Grain.census s p _ rfl _).trans hc
  have htrig : triggerCensus (s.stringOf p) (s.modGrain p (·.linked r s.absBeat)) = linkGained p r s := triggerCensus_idle hc1
  have hregain : regainString (s.stringOf p) (foldOver (s.stringOf p) (linkGained p r s)) = foldOver (s.stringOf p) (linkGained p r s) :=
    regainString_untold (foldOver_told (by rw [linkGained_record]; exact htold))
  have hrate : ((foldOver (s.stringOf p) (linkGained p r s)).grain p).rate = r :=
    (foldOver_keeps Grain.rate (fun _ _ _ _ => rfl) _ _ p).trans (linkGained_rate p r s)
  have hstep : linkEvent p true r s = (fun u : State => u.owner 0x0320 [tPort p, tCode 1, tCode (u.grain p).rate])
      (regainString (s.stringOf p) (foldOver (s.stringOf p) (triggerCensus (s.stringOf p)
        (if ((s.modGrain p (·.linked r s.absBeat)).grain (s.stringOf p)).census.isSome then
          abortCensus (s.stringOf p) (s.modGrain p (·.linked r s.absBeat)) else s.modGrain p (·.linked r s.absBeat))))) := rfl
  rw [hstep, hc1, Option.isSome_none, if_neg Bool.false_ne_true, htrig, hregain]
  simp only [hrate]

/-! ### A port loses link -/

/-- What neither the end of a census nor the loss of a string changes: power, frames, the Geode, the slates, and the rates of the ports. -/
structure LinkView where
  /-- power -/
  pw : Power
  /-- frames -/
  frm : FrameSt
  /-- the Geode -/
  geo : Geode
  /-- slates -/
  slt : Slates
  /-- rates -/
  rate : Nat → Nat

def State.links (s : State) : LinkView := ⟨s.pw, s.frm, s.geo, s.slt, fun h => (s.grain h).rate⟩

def ToldView.links (v : ToldView) : LinkView := ⟨v.lines.pw, v.lines.frm, v.lines.geo, v.slt, fun h => (v.lines.line h).rate⟩

theorem links_abortCensus (g : Nat) (s : State) : (abortCensus g s).links = s.links := by
  cases hc : (s.grain g).census with
  | none => simp only [abortCensus, hc]
  | some c =>
    obtain ⟨x, h⟩ := abortCensus_running hc
    rw [h]
    exact congrArg (LinkView.mk s.pw s.frm s.geo s.slt) (funext (grain_modGrain_keeps Grain.rate _ g _ rfl))

theorem links_foldOver (g : Nat) (s : State) : (foldOver g s).links = s.links := by
  have h := funext (foldOver_keeps Grain.rate (fun _ _ _ _ => rfl) g s)
  rw [foldOver_frame] at h ⊢
  exact congrArg (LinkView.mk s.pw s.frm s.geo s.slt) h

theorem links_loseString (g : Nat) (s : State) : (loseString g s).links = s.links := congrArg ToldView.links (linesTold_loseString g s)

/-- GRN_STAT is no register of the bridge. -/
theorem loseString_grnStat (g : Nat) (s : State) : (loseString g s).reg (aGrnStat g) = s.reg (aGrnStat g) := by
  have hne : ¬(aGrnStat g = aGrnBrDrop g ∨ aGrnStat g = aGrnBrStat g) := by
    unfold aGrnStat aGrnBrDrop aGrnBrStat
    omega
  have h := congrFun (congrArg ToldView.reg (linesTold_loseString g s)) (aGrnStat g)
  simpa only [State.linesTold, hne, if_false] using h

/-- The grain of a port that has lost link. -/
def Grain.unlinked (gr : Grain) (beat : Nat) : Grain := { gr with rate := 0, fecOn := false, trySince := beat, try_ := gr.firstTry }

/-- A string that no port serves any longer loses its pole nodes. -/
def linkServed (g : Nat) (s : State) : State := if s.stringLink g then s else loseString g s

theorem links_linkServed (g : Nat) (s : State) : (linkServed g s).links = s.links := by
  unfold linkServed
  split
  · rfl
  · exact links_loseString g s

theorem linkServed_grnStat (g : Nat) (s : State) : (linkServed g s).reg (aGrnStat g) = s.reg (aGrnStat g) := by
  unfold linkServed
  split
  · rfl
  · exact loseString_grnStat g s

/-- The running census of a string ends, and one that does not run stays so. -/
def censusStopped (g : Nat) (s : State) : State := if (s.grain g).census.isSome then abortCensus g s else s

theorem links_censusStopped (g : Nat) (s : State) : (censusStopped g s).links = s.links := by
  unfold censusStopped
  split
  · exact links_abortCensus g s
  · rfl

/-- A string after the loss of link at a port, before it is known whether a port still serves it: the census stops, the flag is set, the loop folds. -/
def linkDropped (g : Nat) (s : State) : State := foldOver g (State.setFlag (censusStopped g s) (aGrnStat g) 0)

theorem links_linkDropped (g : Nat) (s : State) : (linkDropped g s).links = s.links :=
  (links_foldOver ..).trans (links_censusStopped g s)

theorem linkDropped_flag (g : Nat) (s : State) : bit ((linkDropped g s).reg (aGrnStat g)) 0 = true := by
  unfold linkDropped
  rw [foldOver_frame]
  exact setFlag_bit _ _ 0 (by decide)

theorem linkEvent_down_eq (p r : Nat) (s : State) : ∃ ws, linkEvent p false r s =
    (linkServed (s.stringOf p) (linkDropped (s.stringOf p) (s.modGrain p (·.unlinked s.absBeat)))).owner 0x0320 ws := ⟨_, rfl⟩

theorem links_owner (s : State) (m : Nat) (ws : List OTlv) : (s.owner m ws).links = s.links := rfl

theorem owner_reg (s : State) (m : Nat) (ws : List OTlv) (a : Nat) : (s.owner m ws).reg a = s.reg a := rfl

/-- A port loses link: its flag is set, and what the loss leaves alone is as the port's own change left it (R26, R206, R224). -/
theorem linkEvent_down (p r : Nat) (s : State) :
    (linkEvent p false r s).links = (s.modGrain p (·.unlinked s.absBeat)).links ∧
      bit ((linkEvent p false r s).reg (aGrnStat (s.stringOf p))) 0 = true := by
  obtain ⟨ws, h⟩ := linkEvent_down_eq p r s
  rw [h]
  constructor
  · rw [links_owner, links_linkServed, links_linkDropped]
  · rw [owner_reg, linkServed_grnStat]
    exact linkDropped_flag ..

/-- A pass with no report for a frame ends (R201). -/
theorem execCensusPassTimeout_due {p : Nat} {c : Census} {s : State} (hc : (s.grain (s.stringOf p)).census = some c)
    (hdue : c.last + 1 ≤ s.frm.now) :
    exec (.censusPassTimeout p) s = .next { endPass (s.stringOf p) { s with out := [] } with pending := s.pending } := by
  have hguard : (s.grain (s.stringOf p)).census.any (fun c => c.last + 1 ≤ s.frm.now) = true := by
    rw [hc]
    exact decide_eq_true hdue
  exact done_next (guardS_true hguard _ _)

/-- The state in which the running census of a string has found its loop closed. -/
def loopClosed (g : Nat) (c : Census) (s : State) : State :=
  ({ s with out := [] } : State).modGrain g (fun gr => { gr with census := some { c with closed := true } })

theorem loopClosed_census (g : Nat) (c : Census) (s : State) : ((loopClosed g c s).grain g).census = some { c with closed := true } :=
  congrArg Grain.census (grain_modGrain_self ..)

theorem loopClosed_rate (g : Nat) (c : Census) (s : State) (h : Nat) : ((loopClosed g c s).grain h).rate = (s.grain h).rate :=
  grain_modGrain_keeps Grain.rate { s with out := [] } g _ rfl h

theorem loopClosed_role (g : Nat) (c : Census) (s : State) (h : Nat) : ((loopClosed g c s).grain h).role = (s.grain h).role :=
  grain_modGrain_keeps Grain.role { s with out := [] } g _ rfl h

/-- ENUMERATE of the lower pass that comes out of the partner port marks the loop closed and ends the pass (R201). -/
theorem execEnumerateLoopReturn_closed {p h : Nat} {c : Census} {s : State} (hc : (s.grain (s.stringOf p)).census = some c)
    (hrole : (s.grain (s.stringOf p)).role = .lower h) (hpass : c.higherPass = false) (hp : p ≠ s.stringOf p) :
    exec (.enumerateLoopReturn p c.number) s = .next { endPass (s.stringOf p) (loopClosed (s.stringOf p) c s) with pending := s.pending } := by
  have hg : State.stringOf { s with out := [] } p = s.stringOf p := rfl
  have hc' : (State.grain { s with out := [] } (s.stringOf p)).census = some c := hc
  have hrole' : (State.grain { s with out := [] } (s.stringOf p)).role = .lower h := hrole
  have hguard : (c.number != c.number || c.higherPass != (p == s.stringOf p)) = false := by simp [hpass, hp]
  show execEnumerateLoopReturn p c.number s = _
  unfold execEnumerateLoopReturn
  refine done_next ?_
  simp only [hg, hc', hrole', hguard, Bool.false_eq_true, if_false]
  rfl

/-- With no census running a link change triggers one (R200). -/
theorem execLinkChange_idle {p : Nat} {s : State} (hc : (s.grain (s.stringOf p)).census = none) :
    exec (.linkChange p) s = .next (({ s with out := [] } : State).modGrain (s.stringOf p)
      (fun gr => { gr with trigger := some (gr.trigger.getD s.frm.now) })) := by
  have hc' : (State.grain { s with out := [] } (State.stringOf { s with out := [] } p)).census = none := hc
  show execLinkChange p s = _
  refine done_eq_next ?_ rfl
  simp only [hc', Option.isSome_none, Bool.false_eq_true, if_false]
  exact triggerCensus_idle hc

/-- A link change ends the running census of its string (R206). -/
theorem execLinkChange_running {p : Nat} {c : Census} {s : State} (hc : (s.grain (s.stringOf p)).census = some c) :
    ∃ x, exec (.linkChange p) s = .next (({ State.setFlag { s with out := [] } (aGrnStat (s.stringOf p)) 2 with ses := x } : State).modGrain
      (s.stringOf p) (·.aborted s.frm.now)) := by
  have hc' : (State.grain { s with out := [] } (State.stringOf { s with out := [] } p)).census = some c := hc
  obtain ⟨x, habort⟩ := abortCensus_running (s := { s with out := [] }) hc
  refine ⟨x, ?_⟩
  show execLinkChange p s = _
  refine done_eq_next ?_ rfl
  simp only [hc', Option.isSome_some, if_true]
  exact habort

/-- Settles O30: each row is an operation above on the string of its port; what the end of a census does to the pole nodes leaves the lines. -/
theorem censusesRunOnTheirStrings : Obligations.CensusesRunOnTheirStrings := by
  refine ⟨?gain, ?loss, ?rateTry, ?start, ?retry, ?report, ?lastReport, ?timeout, ?loopReturn, ?passTimeout, ?trigger, ?abort⟩
  case gain =>
    intro p r s hmain hfit hrate hlock hidle hstr hc htold
    have hguard : (s.pw.main && s.portFitted p && ((s.grain p).rate != 0) != true &&
        (!true || !(s.thm.idled.contains p || s.stratumOut (stratumOf p)) && s.mayLock p r)) = true := by
      simp only [hmain, hfit, hrate, hlock, hidle, hstr]
      rfl
    have hup := linkEvent_up (p := p) (r := r) (s := { s with out := [] }) hc htold
    rw [foldOver_frame] at hup
    have hr : r = 1 ∨ r = 2 := by
      simp only [State.mayLock, Bool.and_eq_true, Bool.or_eq_true, beq_iff_eq] at hlock
      exact hlock.1.1
    refine ⟨_, done_eq_next ((guardS_true hguard _ _).trans hup) rfl, ?_, hr, ?_, rfl, rfl⟩
    · exact (foldOver_keeps Grain.rate (fun _ _ _ _ => rfl) ..).trans (linkGained_rate p r { s with out := [] })
    · exact (foldOver_keeps Grain.trigger (fun _ _ _ _ => rfl) ..).trans (linkGained_trigger p r { s with out := [] })
  case loss =>
    intro p r s hmain hfit hrate
    have hguard : (s.pw.main && s.portFitted p && ((s.grain p).rate != 0) != false &&
        (!false || !(s.thm.idled.contains p || s.stratumOut (stratumOf p)) && s.mayLock p r)) = true := by
      simp [hmain, hfit, hrate]
    obtain ⟨hl, hflag⟩ := linkEvent_down p r { s with out := [] }
    refine ⟨_, done_next (guardS_true hguard _ _), ?_, hflag, congrArg LinkView.slt hl, congrArg LinkView.geo hl, congrArg LinkView.pw hl,
      congrArg LinkView.frm hl⟩
    exact (congrFun (congrArg LinkView.rate hl) p).trans (congrArg Grain.rate (grain_modGrain_self ..))
  case rateTry =>
    intro p s hmain hfit hrate hcfg hidle hdue
    have hguard : (s.pw.main && (s.grain p).rate == 0 && (s.grain p).rateCfg == 0 && !s.thm.idled.contains p && s.portFitted p &&
        decide (max (s.grain p).trySince s.strs.since + 400 ≤ s.absBeat)) = true := by
      simp only [hmain, hfit, hrate, hcfg, hidle, hdue]
      rfl
    refine ⟨_, done_eq_next (guardS_true hguard _ _) rfl, ?_, ?_, rfl⟩
    · exact congrArg Grain.try_ (grain_modGrain_self ..)
    · exact congrArg Grain.trySince (grain_modGrain_self ..)
  case start =>
    intro p g n s hg hn hbeat hlink htrig hc hwait
    subst hg hn
    have hguard : (s.frm.beat == 0 && (s.grain (s.stringOf p)).trigger.any (fun f => f < s.frm.now) && (s.grain (s.stringOf p)).census.isNone &&
        (s.grain (s.stringOf p)).waitUntil.isNone && s.stringLink (s.stringOf p)) = true := by
      simp [hbeat, hlink, htrig, hc, hwait]
    exact ⟨_, done_eq_next (guardS_true hguard _ _) rfl, startCensus_begins _ s⟩
  case retry =>
    intro p g n s hg hn hbeat hlink hwait
    subst hg hn
    have hguard : (s.frm.beat == 0 && (s.grain (s.stringOf p)).waitUntil.any (fun f => f ≤ s.frm.now) && s.stringLink (s.stringOf p)) = true := by
      simp [hbeat, hlink, hwait]
    exact ⟨_, done_eq_next (guardS_true hguard _ _) rfl, startCensus_begins _ s⟩
  case report =>
    intro p hop rep c s hc hpass hhop
    have hgr : (reportKept (s.stringOf p) hop rep c s).grain (s.stringOf p) =
        { s.grain (s.stringOf p) with census := some (c.reported s.frm.now hop rep) } := grain_modGrain_self ..
    exact ⟨_, execEnumReport_kept (last := false) hc hpass hhop, congrArg Grain.census hgr, rfl⟩
  case lastReport =>
    intro p hop rep c s hc hrole htry hpass hhop
    have hg := stringOf_of_single hrole
    have hkept := execEnumReport_kept (p := p) (rep := rep) (last := true) (s := s) (by rw [hg]; exact hc) (by rw [hg, hpass]; simp) hhop
    rw [hg] at hkept
    have hgr : (reportKept p hop rep c s).grain p = { s.grain p with census := some (c.reported s.frm.now hop rep) } := grain_modGrain_self ..
    obtain ⟨h1, h2, h3, h4, h5, h6⟩ := endPass_settled (s := reportKept p hop rep c s) (congrArg Grain.census hgr)
      (by rw [hgr]; exact hrole) (by rw [hgr]; exact htry)
    rw [hgr] at h2 h3
    refine ⟨_, hkept, h1, h2, h3.trans ?_, h4, h5, h6⟩
    simp only [Census.reported, hpass, Bool.false_eq_true, if_false]
  case timeout =>
    intro p c s hc hrole htry hdue
    obtain ⟨h1, -, h3, h4, h5, h6⟩ := endPass_settled (s := { s with out := [] }) hc hrole htry
    exact ⟨_, execCensusPassTimeout_due hc hdue, h1, h3, h4, h5, h6⟩
  case loopReturn =>
    intro p h c s hc hrole hpass hrate hp
    have hx := execEnumerateLoopReturn_closed hc hrole hpass hp
    rw [endPass_second (loopClosed_census ..) ((loopClosed_role ..).trans hrole) hpass (by rw [loopClosed_rate]; exact hrate)] at hx
    exact ⟨_, hx, secondPassBegins_sent rfl (loopClosed_rate _ c s) (loopClosed_role _ c s)⟩
  case passTimeout =>
    intro p h c s hc hrole hpass hrate hdue
    have hx := execCensusPassTimeout_due hc hdue
    rw [endPass_second (s := { s with out := [] }) hc hrole hpass hrate] at hx
    exact ⟨_, hx, secondPassBegins_sent (closed := c.closed) rfl (fun _ => rfl) (fun _ => rfl)⟩
  case trigger =>
    intro p s hc
    exact ⟨_, execLinkChange_idle hc, grain_modGrain_self .., rfl⟩
  case abort =>
    intro p c s hc
    obtain ⟨x, hx⟩ := execLinkChange_running hc
    have hgr := grain_modGrain_self { State.setFlag { s with out := [] } (aGrnStat (s.stringOf p)) 2 with ses := x } (s.stringOf p)
      (·.aborted s.frm.now)
    refine ⟨_, hx, congrArg Grain.census hgr, congrArg Grain.aborts hgr, (congrArg Grain.waitUntil hgr).trans (Grain.aborted_waitUntil ..),
      setFlag_bit _ _ 2 (by decide), rfl⟩

end Sys2Proof.Machine
end

section
/-!
SUPPORT. What messages to pole nodes and to air lanterns leave alone (R121, R211, R219, R467, R565).
-/
namespace Sys2Proof.Machine

/-- From `s` to `t` only strings, lamp checks, the air unit and the outputs have changed. -/
def SentOnly (s t : State) : Prop :=
  ∃ g l a o, t = { s with strs := g, lmp := l, air := a, out := o }

theorem SentOnly.refl (s : State) : SentOnly s s := ⟨_, _, _, _, rfl⟩

theorem SentOnly.trans {s u t : State} (h : SentOnly s u) (k : SentOnly u t) : SentOnly s t := by
  obtain ⟨g, l, a, o, rfl⟩ := h
  obtain ⟨g', l', a', o', rfl⟩ := k
  exact ⟨g', l', a', o', rfl⟩

/-- What each step of a fold sends, the fold sends. -/
theorem SentOnly.foldl {α : Type} {f : State → α → State} (h : ∀ u x, SentOnly u (f u x)) (l : List α) (s : State) :
    SentOnly s (l.foldl f s) := by
  induction l generalizing s with
  | nil => exact .refl s
  | cons x l ih => exact (h s x).trans (ih _)

theorem sentOnly_modPole (s : State) (g p : Nat) (f : Pole → Pole) : SentOnly s (s.modPole g p f) := ⟨_, _, _, _, rfl⟩

theorem sentOnly_modChan (s : State) (h : Nat) (f : LampCh → LampCh) : SentOnly s (s.modChan h f) := ⟨_, _, _, _, rfl⟩

theorem sentOnly_wirePole (g p : Nat) (kind : Msg) (args : List Nat) (body tail : Bytes) (s : State) :
    SentOnly s (wirePole g p kind args body tail s) := by
  unfold wirePole guardS
  split
  · dsimp only
    split
    · exact ⟨_, _, _, _, rfl⟩
    · exact .refl s
  · exact .refl s

theorem sentOnly_openWindow (h w : Nat) (s : State) : SentOnly s (openWindow h w s) := by
  unfold openWindow
  split
  · exact .refl s
  · exact .foldl (fun u x => sentOnly_modChan u x _) _ s

theorem sentOnly_noteSent (f h code : Nat) (s : State) : SentOnly s (noteSent f h code s) := by
  unfold noteSent
  dsimp only
  split
  · exact (sentOnly_openWindow ..).trans (sentOnly_modPole ..)
  · exact sentOnly_modPole ..

theorem sentOnly_sendUrgent (act : Nat) (hs : List Nat) (s : State) : SentOnly s (sendUrgent act hs s) := by
  refine .foldl (fun u gp => ?_) _ s
  dsimp only
  split
  · exact .refl u
  · exact (SentOnly.foldl (fun v _ => sentOnly_noteSent _ _ _ v) _ u).trans (sentOnly_wirePole ..)

theorem sentOnly_airUrgent (hs : List Nat) (s : State) : SentOnly s (airUrgent hs s) := by
  refine .foldl (fun u h => ?_) _ s
  split
  · split
    · exact ⟨_, _, _, _, rfl⟩
    · exact .refl u
  · exact .refl u

/-- The farewell of a controlled stop is messages alone (R565). -/
theorem sentOnly_farewell (s : State) : SentOnly s (farewell s) := by
  unfold farewell
  split
  · refine .foldl (fun u g => ?_) _ s
    split
    · refine .foldl (fun v e => ?_) _ u
      split
      · exact sentOnly_wirePole ..
      · exact .refl v
    · exact .refl u
  · exact .refl s

end Sys2Proof.Machine
end

section
/-!
SUPPORT. The urgent path from the packet to the overlay, and the EMERG input (R49, R120 to R123, R283). The 17 commands in hand of R123,
one in the slot and 16 behind it, are the model's choice (log 62).
-/
namespace Sys2Proof.Machine

/-! ### The packet -/

theorem assoc?_modAssoc (s : State) (k : AssocKey) (f : Assoc → Assoc) : (s.modAssoc k f).assoc? k = (s.assoc? k).map f := tget_tmod_self ..

/-- An association that a record has reached on the urgent path in frame `now` (R120, R134, R145). -/
def Assoc.urgentRecord (a : Assoc) (now : Nat) (b : Bytes) : Assoc :=
  { a with lastRx := now, maxPkt := max a.maxPkt (min b.length 8192), urgent := a.urgent + 1 }

/-- A packet that may take the urgent path is counted, and its header is checked (R120, R136). -/
theorem openPacket_urgent {k : AssocKey} {b : Bytes} {a : Assoc} {s : State} (ha : s.assoc? k = some a) (hup : s.pathUp a.path = true)
    (hmay : s.mayUrgent k a = true) :
    openPacket true k b s = checkPacket true k b (a.urgentRecord s.frm.now b) (s.modAssoc k (fun _ => a.urgentRecord s.frm.now b)) := by
  simp only [openPacket, ha, hup, hmay]
  rfl

/-- A packet that passes the header checks with a new SEQ on an open association has its commands examined (R136, R137, R141). -/
theorem checkPacket_fresh {fast : Bool} {k : AssocKey} {b : Bytes} {a : Assoc} (hh : headerFault a k b (packetItems b).length = none)
    (hseq : a.seqCheck (u b 8 4) = .fresh) (hopen : a.phase = .opened) (s : State) :
    checkPacket fast k b a s = runPacket fast k b (s.modAssoc k (·.take (u b 8 4))) := by
  simp [checkPacket, hh, hseq, hopen]

/-- Opcode 0x0105 is LIGHT_EMERGENCY under every header major. -/
theorem opInfo?_lightEmergency (vmaj : Nat) (a : Assoc) (tlvs : List Tlv) : opInfo? vmaj a tlvs 0x0105 = some opLightEmergency := rfl

/-- The first command of an urgent packet, where it sets an EMERGENCY level and passes its examination, goes on the urgent path (R120, R141). -/
theorem runItem_lightEmergency {k : AssocKey} {b : Bytes} {cid : Nat} {ch nd : Bool} {tlvs : List Tlv} {a : Assoc} {c : Cmd} {s : State}
    (ha : s.assoc? k = some a) (hex : examine opLightEmergency k (u b 8 4) cid nd 0 s.frm.uid a tlvs s = .ok c) (hset : c.nat 0x000D = 0) :
    runItem true k b { s := s } (.cmd 0x0105 cid ch nd none tlvs) =
      Run.urgent { s := s } opLightEmergency k (u b 8 4) cid nd a tlvs c s := by
  simp [runItem, ha, opInfo?_lightEmergency, hex, hset, Except.toOption]

/-- While fewer than 17 urgent commands are in hand one more joins them (R123, log 62). -/
theorem urgent_joins (r : Run) (i : OpInfo) (k : AssocKey) (seq cid : Nat) (nd : Bool) (a : Assoc) (tlvs : List Tlv) (c : Cmd) {s : State}
    (hq : s.frm.urgQ.length < 17) :
    r.urgent i k seq cid nd a tlvs c s =
      { s := { s with frm := { s.frm with uid := s.frm.uid + 1, urgQ := s.frm.urgQ ++ [⟨c, 80 * s.frm.now + s.frm.beat⟩] } },
        entries := r.entries ++ [.wait c.uid], ok := true } := if_pos hq

/-! ### The overlay -/

/-- Writing the overlay of a list of handles gives each of them the entry of R281 and leaves the entry of every other (R124). -/
theorem foldl_writeOverlay (v lvl : Nat) (hs : List Nat) (s : State) :
    ∃ ov, hs.foldl (writeOverlay v lvl) s = s.sl (fun t => { t with overlay := ov }) ∧
      ∀ h, tget ov h = if h ∈ hs then some { code := min lvl (s.ceiling h), vctl := v, clear := s.frm.now + 2 } else tget s.slt.overlay h := by
  induction hs generalizing s with
  | nil => exact ⟨_, rfl, fun h => by simp⟩
  | cons x hs ih =>
    obtain ⟨ov, hov, hget⟩ := ih (writeOverlay v lvl s x)
    refine ⟨ov, hov, fun h => (hget h).trans ?_⟩
    have hx : tget (writeOverlay v lvl s x).slt.overlay h =
        if h = x then some { code := min lvl (s.ceiling x), vctl := v, clear := s.frm.now + 2 } else tget s.slt.overlay h := tget_tset ..
    by_cases hm : h ∈ hs
    · rw [if_pos hm, if_pos (List.mem_cons_of_mem x hm)]
      rfl
    · rw [if_neg hm, hx]
      by_cases hhx : h = x
      · subst hhx
        simp
      · simp [hm, hhx]

/-- An accepted urgent command leaves the slot, awaits its commit and is counted; its winning targets get their entries, and messages follow
(R121, R123 to R125, R128). -/
theorem acceptUrgent_inLight (x : UrgCmd) {s : State} (hl : s.inLight = true) :
    ∃ fr : FrameSt, fr.now = s.frm.now ∧ fr.urgQ = s.frm.urgQ.drop 1 ∧ fr.urgBeat = some s.absBeat ∧ fr.accepted = s.frm.accepted ++ [x.cmd] ∧
      fr.urgCount = (s.frm.urgCount + 1) % 2 ^ 16 ∧
      SentOnly (((s.urgentTargets x.cmd).filter (fun h => !s.outranked x.cmd.vctl h)).foldl (writeOverlay x.cmd.vctl ((x.cmd.level?).getD 0))
        { s with frm := fr }) (acceptUrgent x s) := by
  unfold acceptUrgent
  extract_lets c hs won f0 s1
  have hl1 : ¬(!s1.inLight) = true := by
    show ¬(!s.inLight) = true
    simp [hl]
  rw [if_neg hl1]
  exact ⟨s1.frm, rfl, rfl, rfl, rfl, rfl, (sentOnly_sendUrgent ..).trans (sentOnly_airUrgent ..)⟩

/-! ### The EMERG input -/

/-- A module that serves light has its main rails (R523). -/
theorem main_of_inLight {s : State} (h : s.inLight = true) : s.pw.main = true := by
  by_contra hm
  have hneeds : s.lightNeeds = false := by simp [State.lightNeeds, hm]
  have hlevel : s.level ≤ 1 := by
    unfold State.level
    rw [hneeds]
    split <;> simp
  simp only [State.inLight, decide_eq_true_eq] at h
  omega

/-- In LIGHT an assertion of the input sets its flag, is counted and shows the preset; messages follow (R49, R122, R128, R283). -/
theorem sentOnly_emergOn {s : State} (hl : s.inLight = true) :
    SentOnly (countUrgent (holdPreset (s.setFlag aSvcCarrier 2))) (emergOn s) := by
  unfold emergOn
  extract_lets s1 s2
  have hmain : ¬(!s1.pw.main) = true := by
    show ¬(!s.pw.main) = true
    simp [main_of_inLight hl]
  have hl2 : ¬(!s2.inLight) = true := by
    show ¬(!s.inLight) = true
    simp [hl]
  rw [if_neg hmain, if_neg hl2]
  exact (sentOnly_sendUrgent ..).trans (sentOnly_airUrgent ..)

/-- The contacts of the input after those that have been low for 2 µs are taken as asserted, where they are wired (R49). -/
def emergTaken (a b : Bool) (s : State) : State :=
  { s with pw := { s.pw with emergA := s.pw.emergA || a && s.pw.carrier.emergA, emergB := s.pw.emergB || b && s.pw.carrier.emergB } }

/-- An input that is not asserted becomes so with a wired contact that is low (R49). -/
theorem execEmergAssert_first {a b : Bool} {s : State} (hs : s.pw.service = true)
    (hlow : (a && s.pw.carrier.emergA || b && s.pw.carrier.emergB) = true) (hoff : s.emerg = false) :
    exec (.emergAssert a b) s = .next { emergOn (emergTaken a b { s with out := [] }) with pending := s.pending } := by
  have hguard : (s.pw.service && (a && s.pw.carrier.emergA || b && s.pw.carrier.emergB)) = true := by rw [hs, hlow]; rfl
  refine done_next ((guardS_true hguard _ _).trans ?_)
  have hoff' : ¬State.emerg { s with out := [] } = true := by
    show ¬s.emerg = true
    simp [hoff]
  exact if_neg hoff'

/-- The hold of the input when it is asserted no longer (R283). -/
def PinSt.release : PinSt → PinSt
  | .held _ => .released
  | p => p

/-- When no contact that was asserted stays so, the input is no longer asserted, and its sources go at the next commit (R49, R122, R283). -/
theorem execEmergDeassert_last {a b : Bool} {s : State} (hs : s.pw.service = true) (hon : s.emerg = true) (ha : (s.pw.emergA && !a) = false)
    (hb : (s.pw.emergB && !b) = false) :
    exec (.emergDeassert a b) s = .next
      { s with pw := { s.pw with emergA := false, emergB := false }, slt := { s.slt with pin := s.slt.pin.release }, out := [] } := by
  have hguard : (s.pw.service && s.emerg) = true := by rw [hs, hon]; rfl
  refine done_eq_next ((guardS_true hguard _ _).trans ?_) rfl
  dsimp only
  rw [ha, hb]
  rfl

/-- Settles O26: each row is one of the operations above; what it sends leaves the frame, the slates and the registers. -/
theorem urgentCommandsAndTheEmergInput : Obligations.UrgentCommandsAndTheEmergInput := by
  refine ⟨?packet, ?accept, ?assert, ?deassert⟩
  case packet =>
    intro k b a a' cid ch nd tlvs c s s1 ha hup hmay hq ha' hh hseq hopen hitems hs1 hex hset
    replace ha' : a' = a.urgentRecord s.frm.now b := ha'
    subst ha'
    have hassoc : s1.assoc? k = some ((a.urgentRecord s.frm.now b).take (u b 8 4)) := by
      have ha0 : State.assoc? { s with out := [] } k = some a := ha
      rw [hs1, assoc?_modAssoc, assoc?_modAssoc, ha0]
      rfl
    have hrun : openPacket true k b { s with out := [] } = runPacket true k b s1 := by
      rw [openPacket_urgent (s := { s with out := [] }) ha hup hmay, hs1]
      exact checkPacket_fresh hh hseq hopen _
    have hq1 : s1.frm.urgQ.length < 17 := by rw [hs1]; exact hq
    rw [runPacket, hitems, List.foldl_cons, List.foldl_nil, runItem_lightEmergency hassoc hex hset, urgent_joins _ _ _ _ _ _ _ _ _ hq1] at hrun
    subst hs1
    exact ⟨_, done_eq_next hrun rfl, rfl, rfl, rfl⟩
  case accept =>
    intro x r s hqueue hsince hbeat hl
    have hguard : (decide (x.since < s.absBeat) && s.frm.urgBeat.all (· < s.absBeat)) = true := by simp [hsince, hbeat]
    obtain ⟨fr, hnow, hq, hub, hacc, hcount, g, l, a, o, hsent⟩ := acceptUrgent_inLight x (s := { s with out := [] }) hl
    obtain ⟨ov, hov, hget⟩ := foldl_writeOverlay x.cmd.vctl ((x.cmd.level?).getD 0)
      ((s.urgentTargets x.cmd).filter (fun h => !s.outranked x.cmd.vctl h)) { s with out := [], frm := fr }
    have hx : acceptUrgent x { s with out := [] } = _ :=
      hsent.trans (congrArg (fun u : State => { u with strs := g, lmp := l, air := a, out := o }) hov)
    have hexec : exec .urgentAccept s = .next { acceptUrgent x { s with out := [] } with pending := s.pending } := by
      show execUrgentAccept s = _
      unfold execUrgentAccept
      refine done_next ?_
      simp only [hqueue]
      exact guardS_true hguard _ _
    rw [hx] at hexec
    have hr : fr.urgQ = r := by rw [hq]; simp [hqueue]
    refine ⟨_, hexec, hr, hub, hacc, hcount, fun h hm hwon => ?_, fun h hm => ?_, rfl, rfl, rfl, rfl⟩
    · refine (hget h).trans ?_
      rw [if_pos (by simp [hm, hwon])]
      show some _ = some _
      rw [hnow]
      rfl
    · exact (hget h).trans (if_neg (by simp [hm]))
  case assert =>
    intro a b s hs hlow hoff hl
    obtain ⟨g, l, ar, o, hsent⟩ := sentOnly_emergOn (s := emergTaken a b { s with out := [] }) hl
    have hx := execEmergAssert_first hs hlow hoff
    rw [hsent] at hx
    refine ⟨_, hx, ?_, rfl, ?_, rfl, fun hp => ?_, rfl, rfl, rfl, rfl⟩
    · show (s.pw.emergA || a && s.pw.carrier.emergA || (s.pw.emergB || b && s.pw.carrier.emergB)) = true
      rw [Bool.or_eq_true] at hlow
      rcases hlow with h | h <;> simp [h]
    · exact setFlag_bit _ _ 2 (by decide)
    · have hp' : (emergTaken a b { s with out := [] }).slt.pin = .idle := hp
      simp only [countUrgent, holdPreset, State.sl, State.setFlag_slt, hp']
  case deassert =>
    intro a b s hs hon hrel
    obtain ⟨ha, hb⟩ := Bool.or_eq_false_iff.1 hrel
    refine ⟨_, execEmergDeassert_last hs hon ha hb, rfl, fun k hp => ?_, rfl⟩
    simp only [hp, PinSt.release]

end Sys2Proof.Machine
end

section
/-!
SUPPORT. Feeds and the service port UX1: what measuring a voltage, supplying a partner and asking one change (R62, R69, R70, R549 to R553).
-/
namespace Sys2Proof.Machine

/-! ### One feed -/

/-- Power with another record of one feed. -/
def Power.withFeed (p : Power) (f : FeedId) (d : Feed) : Power :=
  { p with feedA := match f with | .a => d | .b => p.feedA, feedB := match f with | .a => p.feedB | .b => d }

/-- The state with another record of one feed. -/
def State.withFeed (s : State) (f : FeedId) (d : Feed) : State := { s with pw := s.pw.withFeed f d }

theorem setFeed_eq (s : State) (f : FeedId) (g : Feed → Feed) : s.setFeed f g = s.withFeed f (g (s.feed f)) := by
  cases f <;> rfl

@[simp] theorem feed_withFeed_self (s : State) (f : FeedId) (d : Feed) : (s.withFeed f d).feed f = d := by
  cases f <;> rfl

@[simp] theorem feed_withFeed_other (s : State) (f : FeedId) (d : Feed) : (s.withFeed f d).feed (otherFeed f) = s.feed (otherFeed f) := by
  cases f <;> rfl

/-- Feeds rest on power alone. -/
theorem feed_congr {s t : State} (h : t.pw = s.pw) (f : FeedId) : t.feed f = s.feed f := by
  unfold State.feed
  rw [h]

theorem anyFeed_eq (s : State) (f : FeedId) : s.anyFeed = ((s.feed f).usable || (s.feed (otherFeed f)).usable) := by
  cases f
  · rfl
  · exact Bool.or_comm ..

theorem anyFeed_of_usable {s : State} {f : FeedId} (h : (s.feed f).usable = true) : s.anyFeed = true := by
  rw [anyFeed_eq s f, h]
  rfl

/-- A feed in the operating range is usable (R62, R69). -/
theorem anyFeed_of_opFeed {s : State} (h : s.opFeed = true) : s.anyFeed = true := by
  simp only [State.opFeed, Bool.or_eq_true, Bool.and_eq_true] at h
  rcases h with ⟨⟨h, -⟩, -⟩ | ⟨⟨h, -⟩, -⟩
  · exact anyFeed_of_usable (f := .a) h
  · exact anyFeed_of_usable (f := .b) h

/-! ### UX1 -/

/-- The state with another record of UX1 and other outputs. -/
def State.onUx1 (s : State) (x : Ux1) (o : List Out) : State := { s with pw := { s.pw with ux1 := x }, out := o }

/-- Supplying a partner changes the contract of UX1 and the outputs alone (R62, R550). -/
theorem ux1Supply_eq (s : State) : ∃ mv ma o, ux1Supply s = s.onUx1 { s.pw.ux1 with mv := mv, ma := ma } o := by
  unfold ux1Supply
  dsimp only
  split
  · exact ⟨_, _, _, rfl⟩
  · split
    · exact ⟨_, _, _, rfl⟩
    · split <;> exact ⟨_, _, _, rfl⟩

/-- A source that supplies nothing yet offers 5 V at 1.5 A while a feed is within the operating range (R62, R550). -/
theorem ux1Supply_offer {s : State} (ha : s.pw.ux1.attached = true) (hs : s.pw.ux1.source = true) (hw : s.pw.ux1.swapping = false)
    (hf : s.opFeed = true) (hmv : s.pw.ux1.mv = 0) :
    ux1Supply s = s.onUx1 { s.pw.ux1 with mv := 5000, ma := 1500 }
      (s.out ++ [.msg .ux1Source 0 [1] [], .msg .ux1Caps 0 [5000, 1500] []]) := by
  simp [ux1Supply, ha, hs, hw, hf, hmv, State.setUx1, State.send, State.emit, State.onUx1]

/-- With no feed within the operating range a port that supplies nothing stays as it is (R62, R550). -/
theorem ux1Supply_idle {s : State} (hf : s.opFeed = false) (hmv : s.pw.ux1.mv = 0) : ux1Supply s = s := by
  simp [ux1Supply, hf, hmv]

/-- Asking the partner anew changes UX1 and the outputs alone (R62, R550). -/
theorem ux1Renew_eq (s : State) : ∃ x o, ux1Renew s = s.onUx1 x o := by
  unfold ux1Renew
  split
  · exact ⟨_, _, rfl⟩
  · split <;> exact ⟨_, _, rfl⟩

/-- A source that stops counts as detached, and no partner that it had would have carried the service domain (R62, R553). -/
theorem ux1StopSource_eq (s : State) : ∃ x r e o, ux1StopSource s = { s with pw := { s.pw with ux1 := x }, regs := r, ses := e, out := o } ∧
    ux1Carries x = ux1Carries s.pw.ux1 := by
  unfold ux1StopSource
  split
  case isTrue h =>
    refine ⟨_, _, _, _, rfl, ?_⟩
    simp only [Bool.and_eq_true] at h
    simp [ux1Carries, h.2]
  case isFalse => exact ⟨_, _, _, _, rfl, rfl⟩

/-! ### The voltage of a feed -/

/-- What the owner is told when the voltage of a feed is measured: each band once, on entering it (R69). -/
def bandTold (f : FeedId) (mv : Nat) (s : State) : State :=
  let was := s.feed f
  let now : Feed := { was with mv := mv }
  let s := if now.low && !was.low then s.owner 0x0F05 [tPort (feedPort f)] else s
  if now.high && !was.high then s.owner 0x0F06 [tPort (feedPort f)] else s

/-- In the operating range nothing is told; 44 V and 57 V belong to it by the model's choice (R69, log 81). -/
theorem bandTold_operating {f : FeedId} {mv : Nat} (hlo : 44000 ≤ mv) (hhi : mv ≤ 57000) (s : State) : bandTold f mv s = s := by
  have h1 : ¬mv < 44000 := by omega
  have h2 : ¬57000 < mv := by omega
  simp [bandTold, Feed.low, Feed.high, h1, h2]

theorem bandTold_low {f : FeedId} {mv : Nat} {s : State} (hu : (s.feed f).usable = true) (hlo : 40000 ≤ mv) (hhi : mv < 44000) :
    bandTold f mv s = if (s.feed f).low then s else s.owner 0x0F05 [tPort (feedPort f)] := by
  have hlow : Feed.low { s.feed f with mv := mv } = true := by simp [Feed.low, hu, hlo, hhi]
  have hhigh : Feed.high { s.feed f with mv := mv } = false := by simp [Feed.high]; omega
  unfold bandTold
  dsimp only
  rw [hlow, hhigh]
  cases (s.feed f).low <;> rfl

theorem bandTold_high {f : FeedId} {mv : Nat} {s : State} (hu : (s.feed f).usable = true) (hlo : 57000 < mv) (hhi : mv ≤ 59000) :
    bandTold f mv s = if (s.feed f).high then s else s.owner 0x0F06 [tPort (feedPort f)] := by
  have hlow : Feed.low { s.feed f with mv := mv } = false := by simp [Feed.low]; omega
  have hhigh : Feed.high { s.feed f with mv := mv } = true := by simp [Feed.high, hu, hlo, hhi]
  unfold bandTold
  dsimp only
  rw [hlow, hhigh]
  cases (s.feed f).high <;> rfl

/-- Telling the owner and setting a feed do not meet. -/
theorem owner_withFeed (s : State) (f : FeedId) (d : Feed) (p : Bool) (code : Nat) (l : List OTlv) :
    (if p then (s.withFeed f d).owner code l else s.withFeed f d) = (if p then s.owner code l else s).withFeed f d := by
  cases p <;> rfl

/-- Measuring a voltage sets it, tells the owner of a band, and UX1 follows (R62, R69). -/
theorem moveFeed_eq (f : FeedId) (mv : Nat) (s : State) :
    ∃ x o, moveFeed f mv s = ((bandTold f mv s).withFeed f { s.feed f with mv := mv }).onUx1 x o := by
  have h : moveFeed f mv s = ux1Supply ((bandTold f mv s).withFeed f { s.feed f with mv := mv }) := by
    simp only [moveFeed, bandTold, setFeed_eq, feed_withFeed_self, owner_withFeed]
  obtain ⟨m, a, o, hs⟩ := ux1Supply_eq ((bandTold f mv s).withFeed f { s.feed f with mv := mv })
  exact ⟨_, o, h.trans hs⟩

/-- What the owner is told stays with the sessions. -/
theorem bandTold_ses (f : FeedId) (mv : Nat) (s : State) : ∃ e, bandTold f mv s = { s with ses := e } := by
  unfold bandTold
  dsimp only
  split <;> split <;> exact ⟨_, rfl⟩

end Sys2Proof.Machine
end

section
/-!
SUPPORT. What starts and stops of the two domains leave alone, and the statement on feeds (R62, R69, R70, R72, R73, R107). The model's own choices that
the statement fixes: a main domain that starts reaches its last step at once (log 12), the reset cause after a brown-out (log 58), OVP_TRIP alone
where the other feed stays, and the bounds of the operating range (log 81).
-/
namespace Sys2Proof.Machine

/-! ### What an activation that ends leaves alone -/

/-- What neither the end of an activation nor an event changes: power, the Geode, the slates, step and cause of the start, the thermal stop. -/
structure StandView where
  /-- power -/
  pw : Power
  /-- the Geode -/
  geo : Geode
  /-- slates -/
  slt : Slates
  /-- step of the start -/
  step : Nat
  /-- reset cause -/
  cause : Nat
  /-- stopped by heat -/
  off : Bool

def State.stand (s : State) : StandView := ⟨s.pw, s.geo, s.slt, s.boot.step, s.boot.cause, s.thm.off⟩

/-- What both ways of a branch leave alone, the branch does. -/
theorem stand_ite {p : Prop} [Decidable p] {u v : State} {w : StandView} (hu : u.stand = w) (hv : v.stand = w) :
    (if p then u else v).stand = w := iteInduction (motive := fun x : State => x.stand = w) (fun _ => hu) (fun _ => hv)

theorem stand_hbmWrite (s : State) (a : Nat) (b : Byte) : (s.hbmWrite a b).stand = s.stand := by
  simp only [State.stand, State.hbmWrite_pw, State.hbmWrite_geo, State.hbmWrite_slt, State.hbmWrite_boot, State.hbmWrite_thm]

theorem stand_wsPut (v off : Nat) (b : Bytes) (s : State) : (wsPut v off b s).stand = s.stand := by
  unfold wsPut
  exact foldl_keeps _ State.stand _ (fun u e _ => stand_hbmWrite u _ _) s

theorem stand_abandonMigration (s : State) : (abandonMigration s).stand = s.stand := by
  unfold abandonMigration
  split <;> rfl

/-- An abandoned activation returns images, keys and blobs (R519, R542 to R546). -/
theorem stand_abandonActivation (cls : Nat) (s : State) : (abandonActivation cls s).stand = s.stand := by
  unfold abandonActivation
  split
  · rfl
  · rename_i a
    extract_lets m old keys blobs migrated imaged measured told
    have h1 : migrated.stand = s.stand := by
      refine stand_ite ((stand_abandonMigration _).trans (foldl_keeps _ State.stand _ (fun u e _ => ?_) _)) rfl
      split
      · exact stand_ite (stand_wsPut ..) rfl
      · rfl
    have h2 : imaged.stand = migrated.stand := by
      simp only [imaged]
      split <;> rfl
    have h3 : told.stand = imaged.stand := by
      clear_value imaged
      rfl
    clear_value told
    exact h3.trans (h2.trans h1)

theorem stand_dropActivation (s : State) : (dropActivation s).stand = s.stand := by
  unfold dropActivation
  split
  · rfl
  · dsimp only
    split <;> rfl

theorem stand_discardCommit (s : State) : (discardCommit s).stand = s.stand := by
  unfold discardCommit
  split <;> rfl

/-- What stands once the service domain is released (R73, R548; the cause after a brown-out is the model's choice, log 58). -/
theorem stand_bootRom (cause : Nat) (s : State) : (bootRom cause s).stand =
    ⟨{ s.pw with service := true, held := false, noFlash := false }, s.geo, s.slt, 1,
      if s.boot.brownout && cause = 0 then 4 else cause, s.thm.off⟩ := by
  unfold bootRom
  show (dropActivation (discardCommit _)).stand = _
  rw [stand_dropActivation, stand_discardCommit]
  exact stand_ite rfl rfl

/-- What stands once the service domain has started with the carrier description (R55, R73). -/
theorem stand_startService (i : StartIn) (cause : Nat) (s : State) : (s.startService i cause).stand =
    ⟨{ s.pw with service := true, held := false, noFlash := false, carrier := carrierOf i }, s.geo, s.slt, 1,
      if s.boot.brownout && cause = 0 then 4 else cause, s.thm.off⟩ := by
  have hboot : ({ (bootRom cause s).stand with pw := { (bootRom cause s).stand.pw with carrier := carrierOf i } } : StandView) = _ :=
    congrArg (fun v : StandView => { v with pw := { v.pw with carrier := carrierOf i } }) (stand_bootRom cause s)
  refine Eq.trans ?_ hboot
  unfold State.startService
  dsimp only
  rw [foldl_keeps (fun s p => State.owner s 0x0F02 [tPort p]) State.stand _ (fun _ _ _ => rfl)]
  split <;> rfl

/-! ### The main domain starts -/

/-- From `s` to `t` only stored registers have changed. -/
def RegsOnly (s t : State) : Prop := ∃ r, t = { s with regs := r }

theorem RegsOnly.refl (s : State) : RegsOnly s s := ⟨_, rfl⟩

theorem RegsOnly.trans {s u t : State} (h : RegsOnly s u) (k : RegsOnly u t) : RegsOnly s t := by
  obtain ⟨r, rfl⟩ := h
  obtain ⟨r', rfl⟩ := k
  exact ⟨r', rfl⟩

theorem regsOnly_setReg (s : State) (a v : Nat) : RegsOnly s (s.setReg a v) := ⟨_, rfl⟩

/-- Configuring a channel stores four of its registers. -/
theorem regsOnly_setTimer (n ctl cmp per wid : Nat) (s : State) : RegsOnly s (setTimer n ctl cmp per wid s) :=
  (((regsOnly_setReg ..).trans (regsOnly_setReg ..)).trans (regsOnly_setReg ..)).trans (regsOnly_setReg ..)

/-- The control word of a channel after its configuration. -/
theorem setTimer_ctl (n ctl cmp per wid : Nat) (s : State) :
    (setTimer n ctl cmp per wid s).reg (aLdsTmrCtl n) =
      (s.reg (aLdsTmrCtl n) - fieldOf (s.reg (aLdsTmrCtl n)) 0 8 + ctl) % 2 ^ 32 := by
  have hcmp : aLdsTmrCtl n ≠ aLdsTmrCmp n := by unfold aLdsTmrCtl aLdsTmrCmp; omega
  have hper : aLdsTmrCtl n ≠ aLdsTmrPer n := by unfold aLdsTmrCtl aLdsTmrPer; omega
  have hwid : aLdsTmrCtl n ≠ aLdsTmrWid n := by unfold aLdsTmrCtl aLdsTmrWid; omega
  simp only [setTimer, setReg_reg_ne _ _ hcmp, setReg_reg_ne _ _ hper, setReg_reg_ne _ _ hwid, setReg_reg]

/-- Configuring a channel leaves the control word of every other. -/
theorem setTimer_ctl_ne {n m : Nat} (h : m ≠ n) (ctl cmp per wid : Nat) (s : State) :
    (setTimer n ctl cmp per wid s).reg (aLdsTmrCtl m) = s.reg (aLdsTmrCtl m) := by
  have hctl : aLdsTmrCtl m ≠ aLdsTmrCtl n := by unfold aLdsTmrCtl; omega
  have hcmp : aLdsTmrCtl m ≠ aLdsTmrCmp n := by unfold aLdsTmrCtl aLdsTmrCmp; omega
  have hper : aLdsTmrCtl m ≠ aLdsTmrPer n := by unfold aLdsTmrCtl aLdsTmrPer; omega
  have hwid : aLdsTmrCtl m ≠ aLdsTmrWid n := by unfold aLdsTmrCtl aLdsTmrWid; omega
  simp only [setTimer, setReg_reg_ne _ _ hctl, setReg_reg_ne _ _ hcmp, setReg_reg_ne _ _ hper, setReg_reg_ne _ _ hwid]

/-- A channel whose new control word is odd is armed (R103). -/
theorem setTimer_armed {ctl : Nat} (h : ctl % 2 = 1) (n cmp per wid : Nat) (s : State) :
    bit ((setTimer n ctl cmp per wid s).reg (aLdsTmrCtl n)) 0 = true := by
  rw [setTimer_ctl]
  simp only [bit, fieldOf, beq_iff_eq]
  omega

/-- A channel is configured unless it is armed already. -/
def timerKept (n ctl wid : Nat) (s : State) : State := if bit (s.reg (aLdsTmrCtl n)) 0 then s else setTimer n ctl 0 0 wid s

theorem regsOnly_timerKept (n ctl wid : Nat) (s : State) : RegsOnly s (timerKept n ctl wid s) :=
  iteInduction (motive := RegsOnly s) (fun _ => .refl s) (fun _ => regsOnly_setTimer ..)

theorem timerKept_ctl_ne {n m : Nat} (h : m ≠ n) (ctl wid : Nat) (s : State) :
    (timerKept n ctl wid s).reg (aLdsTmrCtl m) = s.reg (aLdsTmrCtl m) :=
  iteInduction (motive := fun u : State => u.reg (aLdsTmrCtl m) = s.reg (aLdsTmrCtl m)) (fun _ => rfl) (fun _ => setTimer_ctl_ne h ..)

/-- Firmware configures channels 0 to 5 one after another (R107). -/
theorem programTimers_eq (t base : Nat) (s : State) : ∃ c0 c1 c2 c5, programTimers t base s =
    setTimer 5 27 c5 10000000 1 (timerKept 4 20 1 (timerKept 3 16 1 (setTimer 2 11 c2 10000000 125 (setTimer 1 7 c1 1000000000 100000
      (setTimer 0 15 c0 10000000 1 s))))) := ⟨_, _, _, _, rfl⟩

theorem regsOnly_programTimers (t base : Nat) (s : State) : RegsOnly s (programTimers t base s) := by
  obtain ⟨c0, c1, c2, c5, h⟩ := programTimers_eq t base s
  rw [h]
  have h2 := ((regsOnly_setTimer 0 15 c0 10000000 1 s).trans (regsOnly_setTimer 1 7 c1 1000000000 100000 _)).trans
    (regsOnly_setTimer 2 11 c2 10000000 125 _)
  exact ((h2.trans (regsOnly_timerKept ..)).trans (regsOnly_timerKept ..)).trans (regsOnly_setTimer ..)

/-- Firmware arms channels 0, 1, 2 and 5 (R107). -/
theorem programTimers_armed (t base : Nat) (s : State) :
    ∀ n ∈ [0, 1, 2, 5], bit ((programTimers t base s).reg (aLdsTmrCtl n)) 0 = true := by
  obtain ⟨c0, c1, c2, c5, h⟩ := programTimers_eq t base s
  have hlater : ∀ m, m < 3 → ∀ u,
      (setTimer 5 27 c5 10000000 1 (timerKept 4 20 1 (timerKept 3 16 1 u))).reg (aLdsTmrCtl m) = u.reg (aLdsTmrCtl m) := by
    intro m hm u
    rw [setTimer_ctl_ne (by omega), timerKept_ctl_ne (by omega), timerKept_ctl_ne (by omega)]
  intro n hn
  rw [h]
  simp only [List.mem_cons, List.not_mem_nil, or_false] at hn
  rcases hn with rfl | rfl | rfl | rfl
  · rw [hlater 0 (by decide), setTimer_ctl_ne (by decide), setTimer_ctl_ne (by decide)]
    exact setTimer_armed (by decide) ..
  · rw [hlater 1 (by decide), setTimer_ctl_ne (by decide)]
    exact setTimer_armed (by decide) ..
  · rw [hlater 2 (by decide)]
    exact setTimer_armed (by decide) ..
  · exact setTimer_armed (by decide) ..

theorem programTimers_eq_regs (t base : Nat) (s : State) :
    ∃ r, programTimers t base s = { s with regs := r } ∧ ∀ n ∈ [0, 1, 2, 5], bit (tgetD r (aLdsTmrCtl n) 0) 0 = true := by
  obtain ⟨r, hr⟩ := regsOnly_programTimers t base s
  have harmed := programTimers_armed t base s
  rw [hr] at harmed
  exact ⟨r, hr, harmed⟩

/-- With a feed, an approved image set and the service domain in MAINTENANCE the main domain starts; it reaches its last step at once by the model's
choice (R73, R107, log 12). -/
theorem startMain_runs {s : State} (hs : s.pw.service = true) (hb : s.boot.maint = true) (hn : s.boot.noSet = false) (hf : s.anyFeed = true)
    (hm : s.pw.main = false) :
    ∃ b r, b.step = 8 ∧ (∀ n ∈ [0, 1, 2, 5], bit (tgetD r (aLdsTmrCtl n) 0) 0 = true) ∧
      s.startMain = { s with pw := { s.pw with main := true }, lds := { s.lds with on := true }, strs := { s.strs with since := s.absBeat },
                             boot := b, regs := r } := by
  have hgo : (s.pw.service && s.boot.maint && !s.boot.noSet && s.anyFeed && !s.pw.main) = true := by simp [hs, hb, hn, hf, hm]
  obtain ⟨r, hr, harmed⟩ := programTimers_eq_regs (s.frm.beat * 125000) (s.frm.beat * 125000)
    { s with pw := { s.pw with main := true }, lds := { s.lds with on := true }, strs := { s.strs with since := s.absBeat },
             boot := { s.boot with step := 8, uplinkOut := s.noUplink,
                                   stepLog := s.boot.stepLog ++ [4, 5, 6, 7, 8].map (fun k => (k, s.frm.now, s.ns)) } }
  exact ⟨_, r, rfl, harmed, (if_pos hgo).trans hr⟩

/-! ### A feed comes -/

/-- The state with a feed that has become usable in this frame; flash program operations may start again (R69, R72). -/
def feedTaken (f : FeedId) (s : State) : State :=
  let s := s.withFeed f { usable := true, since := s.frm.now }
  { s with pw := { s.pw with noFlash := false } }

theorem feedTaken_feed (f : FeedId) (s : State) : (feedTaken f s).feed f = { usable := true, since := s.frm.now } := feed_withFeed_self ..

/-- The service domain runs from the feeds; a partner that carried it is asked anew (R62, R550). -/
def ux1Relieved (s : State) : State :=
  let s := if s.pw.fromUx1 then ux1Renew s else s
  { s with pw := { s.pw with fromUx1 := false } }

theorem ux1Relieved_eq (s : State) : ∃ x o, ux1Relieved s = { s with pw := { s.pw with fromUx1 := false, ux1 := x }, out := o } := by
  unfold ux1Relieved
  split
  · obtain ⟨x, o, h⟩ := ux1Renew_eq s
    exact ⟨x, o, by rw [h]; rfl⟩
  · exact ⟨_, _, rfl⟩

/-- A feed that is taken starts what its module's state lets it start (R69, R73). -/
theorem feedUsable_eq (f : FeedId) (mv : Nat) (i : StartIn) (s : State) :
    feedUsable f mv i s = moveFeed f mv (if s.pw.held || s.thm.off then feedTaken f s
      else if !s.pw.service then (feedTaken f s).startService i 0 else (ux1Relieved (feedTaken f s)).startMain) := by
  unfold feedUsable
  rw [setFeed_eq]
  rfl

/-- The first usable feed starts the service domain (R69, R73). -/
theorem feedUsable_starts {f : FeedMv} {i : StartIn} {s : State} (hh : s.pw.held = false) (ho : s.thm.off = false) (hs : s.pw.service = false) :
    FeedStarts f i s (feedUsable f.id f.mv i s) := by
  have hu : feedUsable f.id f.mv i s = moveFeed f.id f.mv ((feedTaken f.id s).startService i 0) := by
    rw [feedUsable_eq, hh, ho, hs]
    rfl
  have hst := stand_startService i 0 (feedTaken f.id s)
  have hpw := congrArg StandView.pw hst
  have hfeed : ((feedTaken f.id s).startService i 0).feed f.id = { usable := true, since := s.frm.now } :=
    (feed_congr (s := { feedTaken f.id s with pw := _ }) hpw f.id).trans (feedTaken_feed ..)
  obtain ⟨x, o, hx⟩ := moveFeed_eq f.id f.mv ((feedTaken f.id s).startService i 0)
  obtain ⟨e, he⟩ := bandTold_ses f.id f.mv ((feedTaken f.id s).startService i 0)
  rw [hu, hx, he, hfeed]
  generalize (feedTaken f.id s).startService i 0 = t at hst hpw
  have hmeasured := feed_withFeed_self { t with ses := e } f.id { usable := true, mv := f.mv, since := s.frm.now }
  refine ⟨congrArg Feed.usable hmeasured, congrArg Feed.ovp hmeasured, congrArg Feed.mv hmeasured, congrArg Power.service hpw,
    congrArg Power.noFlash hpw, congrArg Power.carrier hpw, congrArg StandView.step hst, ?_, congrArg StandView.geo hst, congrArg StandView.slt hst⟩
  refine (congrArg StandView.cause hst).trans ?_
  show (if (s.boot.brownout && true) = true then 4 else 0) = _
  rw [Bool.and_true]

/-- A feed that comes while the service domain runs takes it over from UX1 and starts the main domain (R62, R73). -/
theorem feedUsable_takesOver {f : FeedMv} {i : StartIn} {s : State} (hh : s.pw.held = false) (ho : s.thm.off = false) (hs : s.pw.service = true)
    (hb : s.boot.maint = true) (hn : s.boot.noSet = false) (hm : s.pw.main = false) :
    FeedTakesOver f s (feedUsable f.id f.mv i { s with out := [] }) := by
  have hu : feedUsable f.id f.mv i { s with out := [] } = moveFeed f.id f.mv (ux1Relieved (feedTaken f.id { s with out := [] })).startMain := by
    rw [feedUsable_eq, hh, ho, hs]
    rfl
  have htaken := feedTaken_feed f.id { s with out := [] }
  have hfeed : (feedTaken f.id { s with out := [] }).anyFeed = true := anyFeed_of_usable (congrArg Feed.usable htaken)
  obtain ⟨x, o, hr⟩ := ux1Relieved_eq (feedTaken f.id { s with out := [] })
  generalize ux1Relieved (feedTaken f.id { s with out := [] }) = t at hu hr
  subst hr
  obtain ⟨b, r, hb8, harmed, hstart⟩ := startMain_runs (s := { feedTaken f.id { s with out := [] } with
    pw := { (feedTaken f.id { s with out := [] }).pw with fromUx1 := false, ux1 := x }, out := o }) hs hb hn hfeed hm
  generalize State.startMain _ = t at hu hstart
  obtain ⟨y, p, hmove⟩ := moveFeed_eq f.id f.mv t
  obtain ⟨e, he⟩ := bandTold_ses f.id f.mv t
  have hquiet : 44000 ≤ f.mv → f.mv ≤ 57000 → e = t.ses := fun hlo hhi =>
    congrArg State.ses (he.symm.trans (bandTold_operating hlo hhi t))
  subst hstart
  rw [hu, hmove, he]
  exact ⟨(congrArg Feed.usable (feed_withFeed_self ..)).trans (congrArg Feed.usable htaken), rfl, rfl, rfl, hb8, harmed, hquiet, rfl⟩

/-! ### The last feed goes -/

/-- The main rails go before the service rails, and what the power controller held of heat goes with the feeds (R72, R564). -/
def railsLost (s : State) : State :=
  let s := (ux1StopSource { s with pw := { s.pw with noFlash := true, inputW := 0 } }).mainOff
  { s with thm := { s.thm with off := false, restarts := [], barred := false, lastTemp := 0, lastSensor := 0, lastHard := false } }

/-- What stands without the rails of the main domain; a partner on UX1 that carries the service domain stays (R62, R72). -/
theorem stand_railsLost (s : State) : ∃ x, ux1Carries x = ux1Carries s.pw.ux1 ∧ (railsLost s).stand =
    ⟨{ s.pw with noFlash := true, inputW := 0, ux1 := x, main := false }, { s.geo with mir := {} }, s.slt.off, min s.boot.step 3, s.boot.cause,
      false⟩ := by
  obtain ⟨x, r, e, o, hstop, hcarry⟩ := ux1StopSource_eq { s with pw := { s.pw with noFlash := true, inputW := 0 } }
  refine ⟨x, hcarry, ?_⟩
  unfold railsLost
  rw [hstop]
  rfl

/-- A hitless activation that waits for its next class is abandoned (R546). -/
def activationLost (s : State) : State := if s.turnOf.isSome then abandonActivation (s.turnOf.getD 0xFF) s else s

theorem stand_activationLost (s : State) : (activationLost s).stand = s.stand := stand_ite (stand_abandonActivation ..) rfl

theorem allFeedsLost_eq (s : State) : allFeedsLost s =
    if ux1Carries (railsLost s).pw.ux1 && (railsLost s).pw.service then
      ux1Renew { activationLost (railsLost s) with pw := { (activationLost (railsLost s)).pw with fromUx1 := true } }
    else (railsLost s).serviceOff := rfl

/-- Without a usable feed the main domain stops, and the service domain goes on only where UX1 carries it (R62, R72). -/
theorem allFeedsLost_gone {s : State} (h : s.anyFeed = false) : FeedsGone s (allFeedsLost s) := by
  obtain ⟨x, hcarry, hst⟩ := stand_railsLost s
  have hpw : (railsLost s).pw = { s.pw with noFlash := true, inputW := 0, ux1 := x, main := false } := congrArg StandView.pw hst
  have hux : (railsLost s).pw.ux1 = x := by rw [hpw]
  have hserv : (railsLost s).pw.service = s.pw.service := by rw [hpw]
  rw [allFeedsLost_eq, hux, hserv, hcarry]
  cases hc : ux1Carries s.pw.ux1 && s.pw.service
  case true =>
    have hact := (stand_activationLost (railsLost s)).trans hst
    generalize activationLost (railsLost s) = t at hact
    have htpw := congrArg StandView.pw hact
    obtain ⟨y, o, hrenew⟩ := ux1Renew_eq { t with pw := { t.pw with fromUx1 := true } }
    rw [if_pos rfl, hrenew]
    refine ⟨?_, congrArg Power.main htpw, congrArg Power.inputW htpw, congrArg Power.noFlash htpw, congrArg (·.slt.front) hact,
      congrArg (·.slt.preset) hact, congrArg StandView.off hact, congrArg StandView.geo hact,
      fun hf => Bool.noConfusion (hc.symm.trans hf), fun _ => ⟨?_, rfl⟩⟩
    · exact (congrArg (fun p : Power => p.feedA.usable || p.feedB.usable) htpw).trans h
    · simp only [Bool.and_eq_true] at hc
      exact (congrArg Power.service htpw).trans hc.2
  case false =>
    rw [if_neg Bool.false_ne_true]
    refine ⟨?_, congrArg Power.main hpw, congrArg Power.inputW hpw, congrArg Power.noFlash hpw, congrArg (·.slt.front) hst,
      congrArg (·.slt.preset) hst, congrArg StandView.off hst, congrArg StandView.geo hst, fun _ => ⟨rfl, rfl⟩,
      fun ht => Bool.noConfusion (hc.symm.trans ht)⟩
    exact (congrArg (fun p : Power => p.feedA.usable || p.feedB.usable) hpw).trans h

/-! ### The statement -/

/-- A command whose effect is that a feed becomes usable, while the service domain runs alone. -/
theorem done_takesOver {f : FeedMv} {i : StartIn} {s : State} {g : State → State}
    (hg : g { s with out := [] } = feedUsable f.id f.mv i { s with out := [] })
    (hh : s.pw.held = false) (ho : s.thm.off = false) (hs : s.pw.service = true) (hb : s.boot.maint = true) (hn : s.boot.noSet = false)
    (hm : s.pw.main = false) : ∃ t, done s g = .next t ∧ FeedTakesOver f s t := by
  have h : FeedTakesOver f s (feedUsable f.id f.mv i { s with out := [] }) := feedUsable_takesOver hh ho hs hb hn hm
  obtain ⟨-, -, -, -, -, -, -, hframe⟩ := id h
  have hpending := congrArg State.pending hframe
  exact ⟨_, done_eq_next hg hpending, h⟩

/-- The state in which a feed has gone, with the flag of SYS_PWR_STAT and the event of its going (R69, R70). -/
def feedGone (f : FeedId) (d : Feed) (k code : Nat) (s : State) : State :=
  ((s.withFeed f d).setFlag aSysPwrStat k).owner code [tPort (feedPort f)]

theorem feedGone_feed (f : FeedId) (d : Feed) (k code : Nat) (s : State) : (feedGone f d k code s).feed f = d := feed_withFeed_self ..

theorem feedGone_other (f : FeedId) (d : Feed) (k code : Nat) (s : State) : (feedGone f d k code s).feed (otherFeed f) = s.feed (otherFeed f) :=
  feed_withFeed_other ..

theorem feedGone_flag (f : FeedId) (d : Feed) {k : Nat} (hk : k < 32) (code : Nat) (s : State) :
    bit ((feedGone f d k code s).reg aSysPwrStat) k = true := setFlag_bit _ _ k hk

theorem feedGone_anyFeed (f : FeedId) {d : Feed} (hd : d.usable = false) (k code : Nat) (s : State) :
    (feedGone f d k code s).anyFeed = (s.feed (otherFeed f)).usable := by
  rw [anyFeed_eq _ f, feedGone_feed, feedGone_other, hd, Bool.false_or]

theorem feedGone_eq (f : FeedId) (d : Feed) (k code : Nat) (s : State) :
    ((s.setFeed f (fun _ => d)).setFlag aSysPwrStat k).owner code [tPort (feedPort f)] = feedGone f d k code s := by
  rw [setFeed_eq]
  rfl

/-- A feed that is lost while the other is usable goes, and UX1 follows the operating range (R62, R70). -/
theorem execFeedLost_both {f : FeedId} {s : State} (hu : (s.feed f).usable = true) (ho : (s.feed (otherFeed f)).usable = true) :
    exec (.feedLost f) s = .next { ux1Supply (feedGone f {} 9 0x0F08 { s with out := [] }) with pending := s.pending } := by
  have hguard : ((s.feed f).usable && (s.feed (otherFeed f)).usable) = true := by rw [hu, ho]; rfl
  refine done_next ((guardS_true hguard _ _).trans ?_)
  simp only [feedGone_eq]

/-- What a trip of the overvoltage protection does rests on the other feed (R69, R72). -/
theorem execOvpTrip_usable {f : FeedId} {s : State} (hu : (s.feed f).usable = true) :
    exec (.ovpTrip f) s = .next
      { (if (s.feed (otherFeed f)).usable then ux1Supply (feedGone f { ovp := true } 8 0x0F07 { s with out := [] })
          else allFeedsLost (feedGone f { ovp := true } 8 0x0F07 { s with out := [] })) with pending := s.pending } := by
  have hany : (feedGone f { ovp := true } 8 0x0F07 { s with out := [] }).anyFeed = (s.feed (otherFeed f)).usable := feedGone_anyFeed f rfl ..
  refine done_next ((guardS_true hu _ _).trans ?_)
  simp only [feedGone_eq, hany]

/-- A command whose effect is that a voltage is measured, which tells the owner of code `code` unless the feed held its band (R69). -/
theorem done_measured {f : FeedMv} {s : State} {g : State → State} {held : Bool} {code : Nat}
    (hg : g { s with out := [] } = moveFeed f.id f.mv { s with out := [] })
    (hband : bandTold f.id f.mv { s with out := [] } =
      if held then { s with out := [] } else State.owner { s with out := [] } code [tPort (feedPort f.id)]) :
    ∃ t, done s g = .next t ∧ t.feed f.id = { s.feed f.id with mv := f.mv } ∧ t.feed (otherFeed f.id) = s.feed (otherFeed f.id) ∧
      t.ses = (if held then s.ses else (s.owner code [tPort (feedPort f.id)]).ses) ∧ t = { s with pw := t.pw, ses := t.ses, out := t.out } := by
  obtain ⟨x, o, h⟩ := moveFeed_eq f.id f.mv { s with out := [] }
  obtain ⟨e, he⟩ := bandTold_ses f.id f.mv { s with out := [] }
  have hses : e = if held then s.ses else (s.owner code [tPort (feedPort f.id)]).ses := by
    refine (congrArg State.ses (he.symm.trans hband)).trans ?_
    cases held <;> rfl
  rw [he] at h
  exact ⟨_, done_eq_next (hg.trans h) rfl, feed_withFeed_self s f.id _, feed_withFeed_other s f.id _, hses, rfl⟩

/-- Settles O5: each row is the start, the takeover, the stop or the measurement above on the state that its feed leaves. -/
theorem feedsStartAndStopTheDomains : Obligations.FeedsStartAndStopTheDomains := by
  refine ⟨?starts, ?returns, ?takes, ?retakes, ?allLost, ?lastTrip, ?lost, ?low, ?high, ?trip⟩
  case starts =>
    intro f i s hr hh ho hs
    exact ⟨_, done_next (guardS_true hr _ _), feedUsable_starts (s := { s with out := [] }) hh ho hs⟩
  case returns =>
    intro f i s hr hh ho hs
    exact ⟨_, done_next (guardS_true hr _ _), feedUsable_starts (s := { s with out := [] }) hh ho hs⟩
  case takes =>
    intro f i s hr hh ho hs hb hn hm
    exact done_takesOver (guardS_true hr _ _) hh ho hs hb hn hm
  case retakes =>
    intro f i s hr hh ho hs hb hn hm
    exact done_takesOver (guardS_true hr _ _) hh ho hs hb hn hm
  case allLost =>
    intro s h
    exact ⟨_, done_next (guardS_true h _ _),
      allFeedsLost_gone (s := ((State.setFeed { s with out := [] } .a (fun _ => {})).setFeed .b (fun _ => {})).setFlag aSysPwrStat 9) rfl⟩
  case lastTrip =>
    intro f s hu ho
    have hany : (feedGone f { ovp := true } 8 0x0F07 { s with out := [] }).anyFeed = false := (feedGone_anyFeed f rfl ..).trans ho
    have hx := execOvpTrip_usable hu
    rw [ho, if_neg Bool.false_ne_true] at hx
    exact ⟨_, hx, allFeedsLost_gone hany⟩
  case lost =>
    intro f s hu ho
    obtain ⟨mv, ma, o, h⟩ := ux1Supply_eq (feedGone f {} 9 0x0F08 { s with out := [] })
    have hx := execFeedLost_both hu ho
    rw [h] at hx
    exact ⟨_, hx, congrArg Feed.usable (feedGone_feed f {} 9 0x0F08 s), feedGone_other f {} 9 0x0F08 s,
      feedGone_flag f {} (k := 9) (by decide) 0x0F08 s, rfl, rfl, rfl, rfl⟩
  case low =>
    intro f s hu hlo hhi
    have hguard : ((s.feed f.id).usable && decide (40000 ≤ f.mv) && decide (f.mv < 44000)) = true := by simp [hu, hlo, hhi]
    exact done_measured (guardS_true hguard _ _) (bandTold_low (s := { s with out := [] }) hu hlo hhi)
  case high =>
    intro f s hu hlo hhi
    have hguard : ((s.feed f.id).usable && decide (57000 < f.mv) && decide (f.mv ≤ 59000)) = true := by simp [hu, hlo, hhi]
    exact done_measured (guardS_true hguard _ _) (bandTold_high (s := { s with out := [] }) hu hlo hhi)
  case trip =>
    intro f s hu ho
    obtain ⟨mv, ma, o, h⟩ := ux1Supply_eq (feedGone f { ovp := true } 8 0x0F07 { s with out := [] })
    have hx := execOvpTrip_usable hu
    rw [ho, if_pos rfl, h] at hx
    exact ⟨_, hx, feedGone_feed f { ovp := true } 8 0x0F07 s, feedGone_other f { ovp := true } 8 0x0F07 s,
      feedGone_flag f { ovp := true } (k := 8) (by decide) 0x0F07 s, rfl, rfl⟩

end Sys2Proof.Machine
end

section
/-!
SUPPORT. CARRIER_RST and the seal loop (R50, R67, R79). The bounds of the loop's classes are the model's choice (log 81).
-/
namespace Sys2Proof.Machine

/-! ### CARRIER_RST -/

/-- A flash program operation in progress is completed before a controlled stop (R50, R547). -/
theorem deferFlash_eq (s : State) : ∃ b l, deferFlash s = { s with boot := b, lds := l } ∧
    (s.pw.service = true → s.boot.jopen = true → s.flashOk = true → b.jopen = false ∧ b.jseq = s.boot.jseq + 1) := by
  by_cases h : (s.pw.service && s.boot.jopen && s.flashOk) = true
  · exact ⟨_, _, if_pos h, fun _ _ _ => ⟨rfl, rfl⟩⟩
  · exact ⟨_, _, if_neg h, fun h1 h2 h3 => absurd (by rw [h1, h2, h3]; rfl) h⟩

/-- What goes before a controlled stop leaves the Geode alone and completes the operation in progress (R50, R547, R565). -/
theorem farewell_deferFlash (s : State) : (farewell (deferFlash s)).geo = s.geo ∧
    (s.pw.service = true → s.boot.jopen = true → s.flashOk = true →
      (farewell (deferFlash s)).boot.jopen = false ∧ (farewell (deferFlash s)).boot.jseq = s.boot.jseq + 1) := by
  obtain ⟨b, l, hd, hj⟩ := deferFlash_eq s
  obtain ⟨g, l', a, o, hf⟩ := sentOnly_farewell (deferFlash s)
  rw [hf, hd]
  exact ⟨rfl, hj⟩

/-! ### The seal loop -/

/-- Samples of KX1 have brought the resistance and a run of `n` of its class, and nothing else (R67, R79). -/
def loopRead (ohm n : Nat) (s : State) : State :=
  { s with pw := { s.pw with loopOhm := min (ohm / 10) 0xFFFF, loopRun := (loopClass ohm, n) } }

/-- A new class of the loop is reported and raised (R67, R79). -/
def loopTold (ohm : Nat) (s : State) : State :=
  { s with pw := { s.pw with loopOhm := min (ohm / 10) 0xFFFF, loopRun := (loopClass ohm, 80), loop := loopClass ohm },
           regs := if loopClass ohm = .closed then s.regs else (s.setFlag aSvcKx1Stat 4).regs,
           ses := (s.owner 0x0F04 [tCode (loopCode (loopClass ohm))]).ses }

/-- The run of equal classes after one sample more (R67). -/
def nextRun (ohm : Nat) (s : State) : Nat := if s.pw.loopRun.1 = loopClass ohm then min 80 (s.pw.loopRun.2 + 1) else 1

/-- The class that the loop has read is reported and raised (R67, R79). -/
def loopReport (ohm : Nat) (s : State) : State :=
  let s := { s with pw := { s.pw with loop := loopClass ohm } }
  (if loopClass ohm = .closed then s else s.setFlag aSvcKx1Stat 4).owner 0x0F04 [tCode (loopCode (loopClass ohm))]

theorem loopReport_loopRead (ohm : Nat) (s : State) : loopReport ohm (loopRead ohm 80 s) = loopTold ohm s := by
  unfold loopReport loopTold
  dsimp only
  by_cases h : loopClass ohm = .closed
  · rw [if_pos h, if_pos h]
    rfl
  · rw [if_neg h, if_neg h]
    rfl

/-- What one sample does rests on the run that it makes (R67, R79). -/
theorem sampleLoop_eq {ohm : Nat} {s : State} (hs : s.pw.service = true) : sampleLoop s ohm =
    if decide (nextRun ohm s < 80) || decide (loopClass ohm = s.pw.loop) then loopRead ohm (nextRun ohm s) s
    else loopReport ohm (loopRead ohm (nextRun ohm s) s) := by
  unfold sampleLoop
  rw [hs]
  rfl

/-- A sample that makes no run of 80, or finds the reported class, is read and no more (R67). -/
theorem sampleLoop_read {ohm : Nat} {s : State} (hs : s.pw.service = true) (h : nextRun ohm s < 80 ∨ loopClass ohm = s.pw.loop) :
    sampleLoop s ohm = loopRead ohm (nextRun ohm s) s := by
  rw [sampleLoop_eq hs, if_pos (by simpa using h)]

/-- A sample that makes a run of 80 of another class reports it (R67). -/
theorem sampleLoop_told {ohm : Nat} {s : State} (hs : s.pw.service = true) (hn : nextRun ohm s = 80) (hc : loopClass ohm ≠ s.pw.loop) :
    sampleLoop s ohm = loopTold ohm s := by
  rw [sampleLoop_eq hs, hn, if_neg (by simpa using hc), loopReport_loopRead]

/-- A reported class stays as it is reported while the samples agree (R67). -/
theorem sampleLoops_loopTold (k ohm : Nat) {s : State} (hs : s.pw.service = true) : sampleLoops k ohm (loopTold ohm s) = loopTold ohm s := by
  have hrun : nextRun ohm (loopTold ohm s) = 80 := by simp [nextRun, loopTold]
  have hstay : sampleLoop (loopTold ohm s) ohm = loopTold ohm s := by
    rw [sampleLoop_read (s := loopTold ohm s) hs (.inr rfl), hrun]
    rfl
  induction k with
  | zero => rfl
  | succ k ih => rw [sampleLoops, hstay, ih]

/-- A run of `n` grows with each sample more. -/
theorem nextRun_loopRead (ohm n : Nat) (s : State) : nextRun ohm (loopRead ohm n s) = min 80 (n + 1) := by
  simp [nextRun, loopRead]

/-- A short run grows with a sample of its class (R67). -/
theorem sampleLoop_loopRead {ohm n : Nat} {s : State} (hs : s.pw.service = true) (h : n + 1 < 80) :
    sampleLoop (loopRead ohm n s) ohm = loopRead ohm (n + 1) s := by
  have hrun : nextRun ohm (loopRead ohm n s) = n + 1 := by rw [nextRun_loopRead]; omega
  rw [sampleLoop_read (s := loopRead ohm n s) hs (.inl (by omega)), hrun]
  rfl

/-- Samples that make no run of 80 are read and no more (R67). -/
theorem sampleLoops_short {ohm : Nat} {s : State} (hs : s.pw.service = true) (k n : Nat) (h : n + k < 80) :
    sampleLoops k ohm (loopRead ohm n s) = loopRead ohm (n + k) s := by
  induction k generalizing n with
  | zero => rfl
  | succ k ih =>
    rw [sampleLoops, sampleLoop_loopRead hs (by omega), ih (n + 1) (by omega), Nat.add_assoc, Nat.add_comm 1 k]

/-- Samples that complete a run of 80 of another class report it once (R67). -/
theorem sampleLoops_long {ohm : Nat} {s : State} (hs : s.pw.service = true) (hc : loopClass ohm ≠ s.pw.loop) (k n : Nat) (hn : n < 80)
    (h : 80 ≤ n + k) : sampleLoops k ohm (loopRead ohm n s) = loopTold ohm s := by
  induction k generalizing n with
  | zero => omega
  | succ k ih =>
    by_cases hlast : n + 1 < 80
    · rw [sampleLoops, sampleLoop_loopRead hs hlast, ih (n + 1) hlast (by omega)]
    · have hrun : nextRun ohm (loopRead ohm n s) = 80 := by rw [nextRun_loopRead]; omega
      have hstep : sampleLoop (loopRead ohm n s) ohm = loopTold ohm s := sampleLoop_told (s := loopRead ohm n s) hs hrun hc
      rw [sampleLoops, hstep, sampleLoops_loopTold k ohm hs]

/-- 80 samples of another class report it, whatever run stood before (R67). -/
theorem sampleLoops_new_class {ohm k : Nat} {s : State} (hs : s.pw.service = true) (hc : loopClass ohm ≠ s.pw.loop) (hk : 80 ≤ k) :
    sampleLoops k ohm s = loopTold ohm s := by
  obtain ⟨k, rfl⟩ : ∃ j, k = j + 1 := ⟨k - 1, by omega⟩
  have hbound : 1 ≤ nextRun ohm s ∧ nextRun ohm s ≤ 80 := by
    unfold nextRun
    split <;> omega
  rw [sampleLoops]
  by_cases hlast : nextRun ohm s < 80
  · rw [sampleLoop_read hs (.inl hlast), sampleLoops_long hs hc k _ hlast (by omega)]
  · rw [sampleLoop_told hs (by omega) hc, sampleLoops_loopTold k ohm hs]

/-- Fewer than 80 samples of a class that did not stand are read and no more (R67). -/
theorem sampleLoops_new_run {ohm k : Nat} {s : State} (hs : s.pw.service = true) (hc : loopClass ohm ≠ s.pw.loopRun.1) (h0 : 0 < k)
    (hk : k < 80) : sampleLoops k ohm s = loopRead ohm k s := by
  obtain ⟨k, rfl⟩ : ∃ j, k = j + 1 := ⟨k - 1, by omega⟩
  have hrun : nextRun ohm s = 1 := if_neg (Ne.symm hc)
  rw [sampleLoops, sampleLoop_read hs (.inl (by omega)), hrun, sampleLoops_short hs k 1 (by omega), Nat.add_comm]

/-- The classes of the loop; the bounds of CLOSED belong to it and every other to FAULT by the model's choice (R67, log 81). -/
theorem loopClass_bounds (o : Nat) : (3700 ≤ o → o ≤ 5700 → loopClass o = .closed) ∧ (o < 1000 → loopClass o = .short) ∧
    (20000 < o → loopClass o = .open_) ∧ (1000 ≤ o → o < 3700 → loopClass o = .fault) ∧
    (5700 < o → o ≤ 20000 → loopClass o = .fault) := by
  unfold loopClass
  simp only [Bool.and_eq_true, decide_eq_true_eq]
  refine ⟨fun h1 h2 => ?_, fun h => if_pos h, fun h => ?_, fun h1 h2 => ?_, fun h1 h2 => ?_⟩
  · rw [if_neg (by omega), if_pos ⟨h1, h2⟩]
  · rw [if_neg (by omega), if_neg (by omega), if_pos h]
  · rw [if_neg (by omega), if_neg (by omega), if_neg (by omega)]
  · rw [if_neg (by omega), if_neg (by omega), if_neg (by omega)]

end Sys2Proof.Machine
end

section
/-!
SUPPORT. The roles, the swaps and the end of a connection on UX1, and the statement on contacts (R50, R67, R79, R549 to R553). A swap is in force
at once by the model's choice (log 46).
-/
namespace Sys2Proof.Machine

/-! ### Roles and swaps -/

theorem anyFeed_setUx1 (s : State) (f : Ux1 → Ux1) : (s.setUx1 f).anyFeed = s.anyFeed := rfl

theorem anyFeed_send (s : State) (k : Msg) (d : Nat) (l : List Nat) (b : Bytes) : (s.send k d l b).anyFeed = s.anyFeed := rfl

/-- At the start of a PR_Swap the power role changes, and a source that supplies stops (R551, R553). -/
theorem prSwap_eq (s : State) : prSwap s =
    s.onUx1 { s.pw.ux1 with source := !s.pw.ux1.source, swapping := true, contract := false, mv := 0, ma := 0 }
      (s.out ++ if s.pw.ux1.source = true ∧ s.pw.ux1.mv ≠ 0 then [.msg .ux1Source 0 [0] []] else []) := by
  unfold prSwap
  by_cases h : s.pw.ux1.source = true ∧ s.pw.ux1.mv ≠ 0
  · rw [if_pos h, if_pos (by simpa using h)]
    rfl
  · rw [if_neg h, if_neg (by simpa using h), List.append_nil]
    rfl

/-- A request of the module's own; a source sets SinkTxNG before it and SinkTxOk after it (R552). -/
theorem ux1Ask_eq (swap : Nat) (s : State) : ux1Ask swap s = { s with out := s.out ++
    if s.pw.ux1.source then [.msg .ux1Rp 0 [1500] [], .msg .ux1Swap 0 [swap] [], .msg .ux1Rp 0 [3000] []] else [.msg .ux1Swap 0 [swap] []] } := by
  unfold ux1Ask
  cases s.pw.ux1.source
  · rfl
  · simp [State.send, State.emit]

/-- A sink asks for 5 V at 10 mA while a feed is usable (R550). -/
theorem execUx1SourceCaps_feed (o : List Pdo) (u k : Bool) (i : StartIn) {s : State} (ha : s.pw.ux1.attached = true)
    (hs : s.pw.ux1.source = false) (hf : s.anyFeed = true) :
    exec (.ux1SourceCaps o u k i) s = .next (s.onUx1
      { s.pw.ux1 with offers := o, unconstrained := u, typeC3A := k, swapping := false, contract := true, mv := 5000, ma := 10 }
      [.msg .ux1Request 0 [5000, 10] []]) := by
  have hguard : (s.pw.ux1.attached && !s.pw.ux1.source) = true := by rw [ha, hs]; rfl
  have hf' : State.anyFeed { s with out := [] } = true := hf
  refine done_eq_next ((guardS_true hguard _ _).trans ?_) rfl
  simp only [anyFeed_setUx1, anyFeed_send, hf', ux1Choose, if_true, Bool.true_or]
  rfl

/-- A sink with a feed that has been usable for 1 s asks a partner without unconstrained power for the swap (R551). -/
theorem execUx1PrSwapInitiate_sink {s : State} (ha : s.pw.ux1.attached = true) (hs : s.pw.ux1.source = false) (hf : s.feedFor1s = true)
    (hu : s.pw.ux1.unconstrained = false) :
    exec .ux1PrSwapInitiate s = .next (s.onUx1 { s.pw.ux1 with source := true, swapping := true, contract := false, mv := 0, ma := 0 }
      [.msg .ux1Swap 0 [0] []]) := by
  have hguard : (s.pw.ux1.attached && !s.pw.ux1.source && s.feedFor1s && !s.pw.ux1.unconstrained) = true := by rw [ha, hs, hf, hu]; rfl
  refine done_eq_next ((guardS_true hguard _ _).trans ?_) rfl
  dsimp only
  rw [prSwap_eq, ux1Ask_eq]
  simp [hs, State.onUx1]

/-- The state with a partner attached in the role that the attach and the feeds give (R549). -/
def ux1Attached (r : Bool) (s : State) : State :=
  s.setUx1 (fun _ => { attached := true, source := r && s.anyFeed, dfp := r && s.anyFeed, dfpAt := s.frm.now })

/-- An attached partner is supplied in that role (R549, R550). -/
theorem ux1Supply_ux1Attached (r : Bool) (s : State) : ∃ mv ma o,
    ux1Supply (ux1Attached r s) = (ux1Attached r s).onUx1 { (ux1Attached r s).pw.ux1 with mv := mv, ma := ma } o ∧
    (r = true → s.opFeed = true → mv = 5000 ∧ ma = 1500) := by
  obtain ⟨mv, ma, o, h⟩ := ux1Supply_eq (ux1Attached r s)
  refine ⟨mv, ma, o, h, fun hr hf => ?_⟩
  have hsource : (r && s.anyFeed) = true := by rw [hr, anyFeed_of_opFeed hf]; rfl
  have hoffer := h.symm.trans (ux1Supply_offer (s := ux1Attached r s) rfl hsource rfl hf rfl)
  exact ⟨congrArg (·.pw.ux1.mv) hoffer, congrArg (·.pw.ux1.ma) hoffer⟩

/-! ### The end of a connection -/

/-- The state in which the connection of UX1 has ended and its sessions are closed (R553). -/
def ux1Gone (o : List Out) (s : State) : State :=
  { (((s.closePath .ux1).setUx1 (fun _ => {})).setFlag aSvcUx1Flags 0).owner 0x0F13
      [tCode 0, tCode (b2n s.pw.ux1.source), tCode (b2n s.pw.ux1.dfp), tValue s.pw.ux1.mv] with out := o }

/-- A detach ends the connection; a service domain that no feed carries browns out with it (R553). -/
theorem execUx1Detach_attached {b : Bool} {s : State} (ha : s.pw.ux1.attached = true)
    (hb : b = false ∨ (s.pw.ux1.source = false ∧ s.pw.ux1.swapping = false)) : ∃ o, exec (.ux1Detach b) s = .next
      { (if s.pw.fromUx1 && s.pw.service && !s.anyFeed then brownOut (ux1Gone o s) else ux1Gone o s) with pending := s.pending } := by
  have hguard : (s.pw.ux1.attached && !(b && (s.pw.ux1.source || s.pw.ux1.swapping))) = true := by
    rcases hb with rfl | ⟨h1, h2⟩
    · simp [ha]
    · simp [ha, h1, h2]
  refine ⟨if s.pw.ux1.source then [.msg .ux1Source 0 [0] []] else [], done_next ((guardS_true hguard _ _).trans ?_)⟩
  dsimp only
  split <;> rfl

/-- After Hard Reset the module returns to the roles of R549 and supplies where a feed is within the operating range (R62, R553). -/
def ux1Reset (s : State) : State :=
  (s.send .ux1HardReset).setUx1
    (fun u => { u with swapping := false, contract := false, source := s.anyFeed, dfp := s.anyFeed, dfpAt := s.frm.now, mv := 0, ma := 0 })

theorem ux1Supply_ux1Reset {s : State} (ha : s.pw.ux1.attached = true) : ux1Supply (ux1Reset s) =
    s.onUx1 { s.pw.ux1 with swapping := false, contract := false, source := s.anyFeed, dfp := s.anyFeed, dfpAt := s.frm.now,
                            mv := if s.opFeed then 5000 else 0, ma := if s.opFeed then 1500 else 0 }
      (s.out ++ .msg .ux1HardReset 0 [] [] :: if s.opFeed then [.msg .ux1Source 0 [1] [], .msg .ux1Caps 0 [5000, 1500] []] else []) := by
  cases hf : s.opFeed
  case true =>
    rw [ux1Supply_offer (s := ux1Reset s) ha (anyFeed_of_opFeed hf) rfl hf rfl]
    simp only [ux1Reset, State.send, State.emit, State.setUx1, State.onUx1, List.append_assoc, if_true]
    rfl
  case false => exact ux1Supply_idle (s := ux1Reset s) hf rfl

/-! ### The statement -/

/-- Settles O6: each row is a stop, a start, a run of samples or a change of UX1 above on the state that its guard admits. -/
theorem contactsAndUx1ActAsTheirRulesSay : Obligations.ContactsAndUx1ActAsTheirRulesSay := by
  refine ⟨?rst, ?release, ?newClass, ?newRun, loopClass_bounds, ?gpio, ?attach, ?caps, ?prSwap, ?prReject, ?drSwap, ?drWait, ?prInitiate,
    ?drInitiate, ?collision, ?detach, ?brownOut, ?timeout⟩
  case rst =>
    intro s hs
    have hguard : (s.pw.service || s.pw.main || s.thm.off) = true := by rw [hs]; rfl
    obtain ⟨hgeo, hboot⟩ := farewell_deferFlash { s with out := [] }
    exact ⟨_, done_next (guardS_true hguard _ _), rfl, rfl, rfl, rfl, rfl, rfl, congrArg (fun g : Geode => { g with mir := {} }) hgeo, hboot hs⟩
  case release =>
    intro i s hh hf
    have hany : (s.anyFeed || ux1Carries s.pw.ux1) = true := by rw [hf]; rfl
    have hst := stand_startService i 1 { s with out := [], pw := { s.pw with held := false, fromUx1 := !s.anyFeed } }
    have hpw := congrArg StandView.pw hst
    refine ⟨_, done_next ((guardS_true hh _ _).trans (if_pos hany)), congrArg Power.held hpw, congrArg Power.service hpw, ?_,
      congrArg Power.carrier hpw, congrArg StandView.step hst, congrArg StandView.geo hst⟩
    exact (congrArg Power.fromUx1 hpw).trans (congrArg not hf)
  case newClass =>
    intro n o s hs hc hn
    refine ⟨_, done_eq_next (sampleLoops_new_class (s := { s with out := [] }) hs hc hn) rfl, rfl, rfl, rfl, fun h => ?_, fun h => if_pos h, rfl⟩
    have hregs : (loopTold o { s with out := [] }).regs = (s.setFlag aSvcKx1Stat 4).regs := if_neg h
    exact (congrArg (fun r => bit (tgetD r aSvcKx1Stat 0) 4) hregs).trans (setFlag_bit s aSvcKx1Stat 4 (by decide))
  case newRun =>
    intro n o s hs hc h0 hn
    exact ⟨_, done_eq_next (sampleLoops_new_run (s := { s with out := [] }) hs hc h0 hn) rfl, rfl, rfl⟩
  case gpio =>
    intro d s hs
    have hdir : (State.setReg { s with out := [] } aSvcGpioDir (d % 2 ^ 16)).reg aSvcGpioDir = d % 2 ^ 16 := by
      rw [setReg_reg]
      omega
    have hout : (State.setReg { s with out := [] } aSvcGpioDir (d % 2 ^ 16)).reg aSvcGpioOut = s.reg aSvcGpioOut :=
      setReg_reg_ne _ _ (by decide)
    refine ⟨_, done_eq_next (guardS_true hs _ _) rfl, hdir, fun a ha => setReg_reg_ne { s with out := [] } _ ha, ?_, rfl⟩
    show [Out.msg .pinGpio 0 [State.reg _ aSvcGpioDir, State.reg _ aSvcGpioOut] []] = _
    rw [hdir, hout]
  case attach =>
    intro r s ha
    have hguard : (!s.pw.ux1.attached) = true := by rw [ha]; rfl
    obtain ⟨mv, ma, o, h, hoffer⟩ := ux1Supply_ux1Attached r { s with out := [] }
    exact ⟨_, done_eq_next ((guardS_true hguard _ _).trans (congrArg ux1Event h)) rfl, rfl, rfl, rfl, hoffer, rfl⟩
  case caps =>
    intro o u k i s ha hs hf
    exact ⟨_, execUx1SourceCaps_feed o u k i ha hs hf, rfl, rfl, rfl, rfl, rfl, rfl⟩
  case prSwap =>
    intro s ha hf
    have hf' : State.anyFeed { s with out := [] } = true := hf
    exact ⟨_, done_eq_next ((guardS_true ha _ _).trans ((if_pos hf').trans (prSwap_eq _))) rfl, rfl, rfl, rfl⟩
  case prReject =>
    intro s ha hf
    have hf' : ¬State.anyFeed { s with out := [] } = true := by
      show ¬s.anyFeed = true
      simp [hf]
    exact ⟨_, done_eq_next ((guardS_true ha _ _).trans (if_neg hf')) rfl, rfl, setFlag_bit _ _ 2 (by decide), rfl, rfl⟩
  case drSwap =>
    intro s ha hw
    exact ⟨_, done_eq_next ((guardS_true ha _ _).trans (if_neg (by simp [hw]))) rfl, rfl, rfl, rfl⟩
  case drWait =>
    intro s ha hw
    exact done_eq_next ((guardS_true ha _ _).trans (if_pos hw)) rfl
  case prInitiate =>
    intro s ha hs hf hu
    exact ⟨_, execUx1PrSwapInitiate_sink ha hs hf hu, rfl, rfl, rfl⟩
  case drInitiate =>
    intro s ha hd hw ht
    have hguard : (s.pw.ux1.attached && s.pw.ux1.dfp && !s.pw.ux1.swapping && decide (s.pw.ux1.dfpAt + 200 ≤ s.frm.now)) = true := by
      simp [ha, hd, hw, ht]
    exact ⟨_, done_eq_next ((guardS_true hguard _ _).trans (ux1Ask_eq 1 _)) rfl, rfl, rfl, rfl⟩
  case collision =>
    intro s ha
    cases hsrc : s.pw.ux1.source
    case true =>
      exact ⟨_, done_eq_next ((guardS_true ha _ _).trans (if_pos hsrc)) rfl, rfl, setFlag_bit _ _ 1 (by decide), fun _ => ⟨rfl, rfl⟩,
        nofun, rfl⟩
    case false =>
      have hsrc' : ¬s.pw.ux1.source = true := by rw [hsrc]; exact Bool.false_ne_true
      have hdelay := Nat.mod_lt (Config.freeNat s.free) (show 0 < 50001 by decide)
      exact ⟨_, done_eq_next ((guardS_true ha _ _).trans (if_neg hsrc')) rfl, rfl, setFlag_bit _ _ 1 (by decide), nofun,
        fun _ => ⟨50000 + Config.freeNat s.free % 50001, by omega, by omega, rfl⟩, rfl⟩
  case detach =>
    intro b s ha hb hcarried
    obtain ⟨o, hx⟩ := execUx1Detach_attached ha hb
    have hstay : (s.pw.fromUx1 && s.pw.service && !s.anyFeed) = false := by
      rcases hcarried with h | h <;> simp [h]
    rw [hstay, if_neg Bool.false_ne_true] at hx
    exact ⟨_, hx, rfl, rfl, setFlag_bit _ _ 0 (by decide), rfl, rfl⟩
  case brownOut =>
    intro b s ha hb hux hs hf
    obtain ⟨o, hx⟩ := execUx1Detach_attached ha hb
    have hgo : (s.pw.fromUx1 && s.pw.service && !s.anyFeed) = true := by rw [hux, hs, hf]; rfl
    rw [if_pos hgo] at hx
    exact ⟨_, hx, rfl, rfl, rfl, rfl, rfl, rfl⟩
  case timeout =>
    intro s ha hw hs
    have hguard : (s.pw.ux1.attached && s.pw.ux1.swapping && !s.pw.ux1.source) = true := by rw [ha, hw, hs]; rfl
    exact ⟨_, done_eq_next ((guardS_true hguard _ _).trans (ux1Supply_ux1Reset (s := { s with out := [] }) ha)) rfl, rfl, rfl, rfl⟩

end Sys2Proof.Machine
end

section
/-!
SUPPORT. Rules of the form of a state: which changes keep it whole, and how it passes through choices, folds, refusals and rows of the opcode
table. The lemma State.InForm.f of the sections below says that the function f of the model keeps the form.
-/
namespace Sys2Proof.Machine

variable {s t u : State}

theorem State.InForm.ite {p : Prop} [Decidable p] (hs : s.InForm) (ht : t.InForm) : (if p then s else t).InForm := by
  split
  · exact hs
  · exact ht

theorem State.InForm.fst {α : Type} {a : α} (h : s.InForm) : (s, a).1.InForm := h

theorem State.InForm.iteFst {α : Type} {x y : State × α} {p : Prop} [Decidable p] (hx : x.1.InForm) (hy : y.1.InForm) :
    (if p then x else y).1.InForm := by
  split
  · exact hx
  · exact hy

/-- What changes none of the nine places keeps the form. -/
theorem State.InForm.rest (h : s.InForm) (mem : t.qry.mem = s.qry.mem := by rfl) (regs : t.regs = s.regs := by rfl)
    (inc : t.lds.inc = s.lds.inc := by rfl) (freq : t.lds.freq = s.lds.freq := by rfl) (nxt : t.lds.incNext = s.lds.incNext := by rfl)
    (assoc : t.ses.assoc = s.ses.assoc := by rfl) (ptp : t.lds.ptp = s.lds.ptp := by rfl)
    (tracks : t.wak.tracks = s.wak.tracks := by rfl) (blobs : t.flt.reg = s.flt.reg := by rfl) : t.InForm :=
  h.congr mem regs inc freq nxt assoc ptp tracks blobs

/-- A change of the parts that hold none of the nine places keeps the form. -/
theorem State.InForm.put (h : s.InForm) {pending out free pw frm ten strs brg slt lmp geo att air spn boot thm} :
    (State.mk pending out free s.regs pw s.lds frm s.ses ten strs brg slt s.wak lmp geo att s.qry air spn s.flt boot thm).InForm :=
  h.rest

/-- As `put`, with a change of the sessions apart from the associations. -/
theorem State.InForm.putSes (h : s.InForm) {ses : Sessions} (assoc : ses.assoc = s.ses.assoc := by rfl)
    {pending out free pw frm ten strs brg slt lmp geo att air spn boot thm} :
    (State.mk pending out free s.regs pw s.lds frm ses ten strs brg slt s.wak lmp geo att s.qry air spn s.flt boot thm).InForm :=
  h.rest (assoc := assoc)

/-- As `put`, with a change of Flint apart from the registry. -/
theorem State.InForm.putFlt (h : s.InForm) {flt : Flint} (blobs : flt.reg = s.flt.reg := by rfl)
    {pending out free pw frm ten strs brg slt lmp geo att air spn boot thm} :
    (State.mk pending out free s.regs pw s.lds frm s.ses ten strs brg slt s.wak lmp geo att s.qry air spn flt boot thm).InForm :=
  h.rest (blobs := blobs)

/-- A change of Lodestone apart from the rate and the PTP ports keeps the form. -/
theorem State.InForm.ldsRest {f : Lodestone → Lodestone} (h : s.InForm) (inc : (f s.lds).inc = s.lds.inc := by rfl)
    (freq : (f s.lds).freq = s.lds.freq := by rfl) (nxt : (f s.lds).incNext = s.lds.incNext := by rfl)
    (ptp : (f s.lds).ptp = s.lds.ptp := by rfl) : (s.lds' f).InForm :=
  h.congr rfl rfl inc freq nxt rfl ptp rfl rfl

/-- A bounded rate that is written waits for the beat boundary; the rest of Lodestone may change with it (R81). -/
theorem State.InForm.nextInc {f : Lodestone → Lodestone} {v : Nat} (h : s.InForm) (hv : 0x01FFFEB1 ≤ v ∧ v ≤ 0x0200014F)
    (nxt : (f s.lds).incNext = some v := by rfl) (inc : (f s.lds).inc = s.lds.inc := by rfl) (freq : (f s.lds).freq = s.lds.freq := by rfl)
    (ptp : (f s.lds).ptp = s.lds.ptp := by rfl) : (s.lds' f).InForm := by
  obtain ⟨i1, i2, f1, f2, -⟩ := h.rate
  refine h.lds' f ⟨inc ▸ i1, inc ▸ i2, freq ▸ f1, freq ▸ f2, fun w hw => ?_⟩ (ptp ▸ h.ptp)
  cases nxt.symm.trans hw
  exact hv

/-- A change of the wake unit apart from the tracks keeps the form. -/
theorem State.InForm.wkRest {f : Wakes → Wakes} (h : s.InForm) (tracks : (f s.wak).tracks = s.wak.tracks := by rfl) : (s.wk f).InForm :=
  h.congr rfl rfl rfl rfl rfl rfl rfl tracks rfl

/-- A change of Flint apart from the registry keeps the form. -/
theorem State.InForm.flRest {f : Flint → Flint} (h : s.InForm) (blobs : (f s.flt).reg = s.flt.reg := by rfl) : (s.fl f).InForm :=
  h.congr rfl rfl rfl rfl rfl rfl rfl rfl blobs

/-- A change of Quarry apart from HBM keeps the form. -/
theorem State.InForm.qrRest {f : Quarry → Quarry} (h : s.InForm) (mem : (f s.qry).mem = s.qry.mem := by rfl) : (s.qr f).InForm :=
  h.qr f mem

theorem State.InForm.guard {p : Bool} {f : State → State} (h : s.InForm) (hf : s.InForm → (f s).InForm) : (Machine.guardS p f s).InForm :=
  h.guardS p hf

theorem State.InForm.fold {α : Type} {f : State → α → State} {l : List α} (h : s.InForm) (hf : ∀ s a, s.InForm → (f s a).InForm) :
    (l.foldl f s).InForm :=
  h.foldl hf l

theorem State.InForm.foldFst {α β : Type} {f : State × β → α → State × β} (hf : ∀ p a, p.1.InForm → (f p a).1.InForm) :
    ∀ (l : List α) {p : State × β}, p.1.InForm → (l.foldl f p).1.InForm
  | [], _, h => h
  | a :: l, _, h => foldFst hf l (hf _ a h)

/-- A result that, where there is one, has the form. -/
structure FormOk (x : Except Err State) : Prop where
  form : ∀ {t}, x = .ok t → t.InForm

theorem FormOk.ok (h : s.InForm) : FormOk (.ok s) where
  form e := by
    cases e
    exact h

theorem FormOk.error (e : Err) : FormOk (.error e) where
  form h := by cases h

theorem FormOk.bind {α : Type} {x : Except Err α} {f : α → Except Err State} (h : ∀ a, FormOk (f a)) : FormOk (x >>= f) := by
  cases x with
  | error e => exact .error e
  | ok a => exact h a

theorem FormOk.then {x : Except Err State} {f : State → Except Err State} (hx : FormOk x) (h : ∀ t, t.InForm → FormOk (f t)) :
    FormOk (x >>= f) := by
  cases x with
  | error e => exact .error e
  | ok t => exact h t (hx.form rfl)

theorem FormOk.ite {p : Prop} [Decidable p] {x y : Except Err State} (hx : FormOk x) (hy : FormOk y) : FormOk (if p then x else y) := by
  split
  · exact hx
  · exact hy

/-- A state that may be missing and that, where it is there, has the form. -/
structure FormSome (x : Option State) : Prop where
  form : ∀ {t}, x = some t → t.InForm

theorem FormSome.some (h : s.InForm) : FormSome (some s) where
  form e := by
    cases e
    exact h

theorem FormSome.none : FormSome none where
  form h := by cases h

theorem FormSome.ite {p : Prop} [Decidable p] {x y : Option State} (hx : FormSome x) (hy : FormSome y) : FormSome (if p then x else y) := by
  split
  · exact hx
  · exact hy

theorem State.InForm.next (h : s.InForm) {f : State → State} (e : Machine.done s f = .next t) (hf : ∀ u : State, u.InForm → (f u).InForm) : t.InForm
    :=
  h.done hf e

/-- What an opcode does at its commit keeps the form. -/
def OpInfo.Keeps (i : OpInfo) : Prop := ∀ c s, s.InForm → (i.commit c s).1.InForm

end Sys2Proof.Machine
end

section
/-!
SUPPORT. The service domain: registers, presets, the spine's ways, the examination of commands, restarts and Lodestone keep the form of the
state.
-/
namespace Sys2Proof.Machine

set_option Elab.async false
variable {s : State}

/-! ### Machine/Ops.lean: registers, events and messages -/

theorem State.InForm.toGeode (h : s.InForm) (ty content) : (s.toGeode ty content).InForm := h.send ..

theorem State.InForm.raiseEp (h : s.InForm) (h' k code mk) : (s.raiseEp h' k code mk).InForm := by
  unfold State.raiseEp
  refine h.fold ?_
  intro _ _ h
  refine .ite ?_ h
  split
  · exact h.raise ..
  · exact h

/-! ### Machine/Hbm.lean: HBM -/

theorem State.InForm.setWorkspace (h : s.InForm) (v n) : (Machine.setWorkspace v n s).InForm := (h.fold (fun _ _ h => h.unwriteMib ..)).rest

/-! ### Machine/Level.lean: the service level -/

theorem State.InForm.endpointState (h : s.InForm) (hs code) : (s.endpointState hs code).InForm := h.fold (fun _ _ h => .ite h (.ite h (h.raise ..)))

/-! ### Machine/Presets.lean: the EMERG preset -/

theorem State.InForm.keepEntries (h : s.InForm) (keep) : (Machine.keepEntries keep s).InForm := h.sl ..
theorem State.InForm.defaultPreset (h : s.InForm) (h') : (s.defaultPreset h').InForm := .ite (h.sl ..) h

theorem State.InForm.presetPole (h : s.InForm) (g p) : (Machine.presetPole g p s).InForm := by
  unfold Machine.presetPole
  split
  · exact h.fold (fun _ _ h => h.defaultPreset ..)
  · exact h

/-! ### Machine/Ring.lean: ways of spine messages and packets -/

theorem State.InForm.modSp (h : s.InForm) (east f) : (s.modSp east f).InForm := h.sp ..
theorem State.InForm.spOther (h : s.InForm) : (Machine.spOther s).InForm := h.count ..

theorem State.InForm.spTx (h : s.InForm) (east ty ttl dest src urgent args body) : (Machine.spTx east ty ttl dest src urgent args body s).InForm := by
  unfold Machine.spTx
  split
  · exact h
  · exact h.guard (fun h => (h.modSp ..).send ..)

theorem State.InForm.spOut (h : s.InForm) (east ty ttl dest src urgent args body) : (Machine.spOut east ty ttl dest src urgent args body s).InForm :=
  .ite (h.spTx ..) h

theorem State.InForm.spTo (h : s.InForm) (a ty ttl src urgent args body) : (Machine.spTo a ty ttl src urgent args body s).InForm := by
  unfold Machine.spTo
  split
  · exact .ite (h.spTx ..) h.spOther
  · exact h.spOther

theorem State.InForm.spAll (h : s.InForm) (ty args body) : (Machine.spAll ty args body s).InForm := (h.spOut ..).spOut ..

theorem State.InForm.spAccept (h : s.InForm) (east h') : (Machine.spAccept east h' s).1.InForm := by
  have bad := h.count aSpnDrop 0 16 1
  have kept (f) : (s.modSp east f, true).1.InForm := h.modSp ..
  unfold Machine.spAccept
  refine .iteFst bad ?_
  split
  · refine .iteFst (.iteFst (kept _) bad) ?_
    split
    · exact .iteFst (kept _) bad
    · exact bad
  · exact bad

theorem State.InForm.spForwardAll (h : s.InForm) (east h' ty args body) : (Machine.spForwardAll east h' ty args body s).InForm := .ite h (.ite h
    (h.spOut ..))

theorem State.InForm.spOnward (h : s.InForm) (east h' ty args body) : (Machine.spOnward east h' ty args body s).InForm := .ite (h.count ..) (h.spOut
    ..)

theorem State.InForm.spForward (h : s.InForm) (h' ty args body) : (Machine.spForward h' ty args body s).InForm := .ite (h.count ..) (h.spTo ..)
theorem State.InForm.dropFragment (h : s.InForm) : (Machine.dropFragment s).InForm := h.count ..
theorem State.InForm.queueCtl (h : s.InForm) (u v o) : (Machine.queueCtl u v o s).InForm := h.rest

theorem State.InForm.sendVia (h : s.InForm) (p key o) : (Machine.sendVia p key o s).InForm := by
  unfold Machine.sendVia
  split
  · exact h.emit ..
  · exact h.emit ..
  · exact .ite ((h.queueCtl ..).emit ..) h
  · refine .ite h ?_
    split
    · exact .ite ((h.spTo ..).emit ..) h.spOther
    · exact h.spOther

theorem State.InForm.emitOn (h : s.InForm) (k o) : (s.emitOn k o).InForm := by
  unfold State.emitOn
  split
  · refine .sendVia ?_ ..
    exact { h with assoc := twf_tset _ _ _ h.assoc }
  · exact h.emit ..

/-! ### Machine/Exam.lean: the examination of a command -/

theorem State.InForm.debit (h : s.InForm) (c k) : (s.debit c k).InForm := by
  have hc : State.InForm { s with ses := { s.ses with assoc := tmod s.ses.assoc (assocIx c.key) (fun a => { a with accepted := a.accepted + 1 }) } }
      :=
    { h with assoc := by dsimp only; exact twf_tmod _ _ _ h.assoc }
  exact .ite hc (hc.modVctl ..)

theorem State.InForm.countRefusal (h : s.InForm) (c st) : (s.countRefusal c st).InForm := .ite (h.modVctl ..) h
theorem State.InForm.commitWith {i : OpInfo} (h : s.InForm) (hi : i.Keeps) (c) : (Machine.commitWith i c s).1.InForm := .iteFst (hi _ _ h) h

theorem State.InForm.submit (h : s.InForm) (i key seq cmdid noData flags a tlvs) :
    (Machine.submit i key seq cmdid noData flags a tlvs s).1.InForm := by
  unfold Machine.submit
  split
  · exact h
  · split
    · exact h.countRefusal ..
    · exact (h.debit ..).rest

theorem State.InForm.dropAssoc (h : s.InForm) (n) : (Machine.dropAssoc n s).InForm := { h with assoc := twf_terase _ _ h.assoc }

theorem State.InForm.closeSession (h : s.InForm) (n) : (Machine.closeSession n s).InForm := by
  unfold Machine.closeSession
  split
  · exact (h.sendVia ..).dropAssoc ..
  · exact h

theorem State.InForm.sendKeyUpdate (h : s.InForm) (n) : (Machine.sendKeyUpdate n s).InForm := by
  unfold Machine.sendKeyUpdate
  split
  · refine .sendVia ?_ ..
    exact { h with assoc := twf_tset _ _ _ h.assoc }
  · exact h

theorem State.InForm.settle (h : s.InForm) : (Machine.settle s).InForm := h.fold (fun _ _ h => .ite (h.closeSession ..) (.ite (h.sendKeyUpdate ..) h))
theorem State.InForm.noteClose (h : s.InForm) (k rs) : (Machine.noteClose k rs s).InForm := .ite (h.modAssoc ..) h

theorem State.InForm.perform {i : OpInfo} (h : s.InForm) (hi : i.Keeps) (c) : (Machine.perform i c s).1.InForm :=
  .iteFst (hi _ _ h) (h.commitWith hi ..)

theorem State.InForm.sendReply (h : s.InForm) (key ver seq parts) : (Machine.sendReply key ver seq parts s).InForm := h.fold (fun _ _ h => h.emitOn
    ..)

theorem State.InForm.answer (h : s.InForm) (vmaj src e) : (Machine.answer vmaj src e s).InForm := by
  unfold Machine.answer
  split
  · exact ((h.sendReply ..).noteClose ..).settle
  · exact h
  · exact h.put

theorem State.InForm.await (h : s.InForm) (c) : (Machine.await c s).InForm := h.put

theorem State.InForm.runAs {i : OpInfo} (h : s.InForm) (hi : i.Keeps) (ph vmaj src tlvs) : (Machine.runAs i ph vmaj src tlvs s).InForm := by
  unfold Machine.runAs
  split
  · exact h
  · next a _ =>
    refine .ite h ?_
    have hs := (h.modAssoc src.key (fun a => { a with lastRx := s.frm.now })).submit i src.key src.seq src.cmdid src.noData 0 a tlvs
    split
    · next e => rw [e] at hs; exact hs.answer ..
    · next e => rw [e] at hs; exact .ite ((hs.perform hi ..).answer ..) ((hs.await ..).answer ..)

theorem State.InForm.runOp {i : OpInfo} (h : s.InForm) (hi : i.Keeps) (src tlvs) : (Machine.runOp i src tlvs s).InForm := h.runAs hi ..

theorem State.InForm.execOp (h : s.InForm) {i : OpInfo} (hi : i.Keeps) {src tlvs t} (e : Machine.execOp i src tlvs s = .next t) : t.InForm :=
  h.done (fun _ h => h.runOp hi ..) e

/-! ### Machine/BridgeTags.lean: tags of a grain -/

theorem State.InForm.brResult (h : s.InForm) (op status tlvs) : (Machine.brResult s op status tlvs).InForm := .ite (h.result ..) h
theorem State.InForm.tagResult (h : s.InForm) (t status tlvs) : (Machine.tagResult s t status tlvs).InForm := .ite (h.brResult ..) h

theorem State.InForm.dropPosted (h : s.InForm) (g op) : (Machine.dropPosted g op s).InForm := by
  unfold Machine.dropPosted
  exact ((h.count ..).setFlag ..).modGbr ..

theorem State.InForm.closeTag (h : s.InForm) (g e) : (Machine.closeTag g s e).InForm := by
  unfold Machine.closeTag
  dsimp only
  split
  · exact h.modGbr ..
  · exact (h.modGbr ..).tagResult ..

theorem State.InForm.bridgeUnreach (h : s.InForm) (g p) : (Machine.bridgeUnreach g p s).InForm :=
  ((h.fold (fun _ _ h => h.dropPosted ..)).modGbr ..).fold (fun _ _ h => h.closeTag ..)

theorem State.InForm.bridgeClose (h : s.InForm) (g p) : (Machine.bridgeClose g p s).InForm := (h.bridgeUnreach ..).fold (fun _ _ h => h.closeTag ..)
theorem State.InForm.bridgeRemove (h : s.InForm) (v) : (Machine.bridgeRemove v s).InForm := h.put
theorem State.InForm.bridgeForce (h : s.InForm) (v) : (Machine.bridgeForce v s).InForm := h.put

/-! ### Machine/Restart.lean: stops and starts of the domains -/

theorem State.InForm.setFeed (h : s.InForm) (f g) : (s.setFeed f g).InForm := by
  unfold State.setFeed
  split <;> exact h.put

theorem State.InForm.closePath (h : s.InForm) (p) : (s.closePath p).InForm := { h with assoc := twf_filter _ _ h.assoc }
theorem State.InForm.completeCommit (h : s.InForm) : (Machine.completeCommit s).InForm := h.rest
theorem State.InForm.deferFlash (h : s.InForm) : (Machine.deferFlash s).InForm := .ite h.completeCommit h
theorem Lodestone.off_rateOk (l : Lodestone) : l.off.rateOk := by simp [Lodestone.rateOk, Lodestone.off]

theorem State.InForm.mainOff (h : s.InForm) : s.mainOff.InForm :=
  { h.filterRegs (fun e => svcReg e.1) with
    mem := rfl
    rate := s.lds.off_rateOk
    ptp := by dsimp only [State.mainOff, Lodestone.off]; exact twf_tmap _ _ h.ptp
    tracks := rfl }

theorem State.InForm.serviceOff (h : s.InForm) : s.serviceOff.InForm := { h with regs := rfl, words := nofun, assoc := rfl }
theorem State.InForm.setCause (h : s.InForm) (cause) : (s.setCause cause).InForm := h.put

theorem State.InForm.dropActivation (h : s.InForm) : (Machine.dropActivation s).InForm := by
  unfold Machine.dropActivation
  split
  · exact h
  · exact .result (.setBoot (.setFlag (.owner (.ite ((h.setFlag ..).owner ..) h) ..) ..) ..) ..

theorem State.InForm.discardCommit (h : s.InForm) : (Machine.discardCommit s).InForm := .ite ((h.setFlag ..).setBoot ..) h

theorem State.InForm.bootRom (h : s.InForm) (cause) : (Machine.bootRom cause s).InForm :=
  .putFlt (.dropActivation (.discardCommit (.ite (((h.setCause ..).put.setFlag ..).setBoot ..) (h.setCause ..).put)))

theorem State.InForm.startService (h : s.InForm) (i cause) : (s.startService i cause).InForm := by
  unfold State.startService
  refine .fold ?_ (fun _ _ h => h.owner ..)
  split
  · exact (h.bootRom ..).put.owner ..
  · exact (h.bootRom ..).put

theorem State.InForm.setTimer (h : s.InForm) (n ctl cmp per wid) : (Machine.setTimer n ctl cmp per wid s).InForm :=
  (((h.setReg ..).setReg ..).setReg ..).setReg ..

theorem State.InForm.programTimers (h : s.InForm) (t base) : (Machine.programTimers t base s).InForm :=
  .setTimer (.ite (.ite (((h.setTimer ..).setTimer ..).setTimer ..) ((((h.setTimer ..).setTimer ..).setTimer ..).setTimer ..)) (.setTimer (.ite
      (((h.setTimer ..).setTimer ..).setTimer ..) ((((h.setTimer ..).setTimer ..).setTimer ..).setTimer ..)) ..)) ..

theorem State.InForm.startMain (h : s.InForm) : s.startMain.InForm := .ite (h.rest.programTimers ..) h

/-! ### Machine/Time.lean: Lodestone and the time family -/

theorem State.InForm.passTicks (h : s.InForm) (n) : (Machine.passTicks n s).InForm := h.ldsRest

theorem State.InForm.writeInc (h : s.InForm) (v) : (Machine.writeInc v s).InForm := by
  have hi : (s.lds' (fun l => { l with incNext := some (clampInc v) })).InForm := h.nextInc (clampInc_bound v)
  exact .ite hi (hi.setFlag ..)

theorem State.InForm.execLdsIncWrite (h : s.InForm) {v t} (e : Machine.execLdsIncWrite v s = .next t) : t.InForm := h.next e fun _ h => h.writeInc ..

theorem State.InForm.shiftFrames (h : s.InForm) (old new) : (Machine.shiftFrames old new s).InForm :=
  { h with assoc := by dsimp only [Machine.shiftFrames]; exact twf_tmap _ _ h.assoc }

theorem State.InForm.shiftObs (h : s.InForm) (d) {f : Lodestone → Lodestone} (inc : (f s.lds).inc = s.lds.inc := by rfl)
    (freq : (f s.lds).freq = s.lds.freq := by rfl) (nxt : (f s.lds).incNext = s.lds.incNext := by rfl)
    (ptp : (f s.lds).ptp = (Machine.shiftObs d s.lds).ptp := by rfl) : (s.lds' f).InForm := by
  refine h.lds' f (by unfold Lodestone.rateOk; rw [inc, freq, nxt]; exact h.rate) ?_
  rw [ptp]
  dsimp only [Machine.shiftObs]
  exact twf_tmap _ _ h.ptp

theorem State.InForm.offsetLoad (h : s.InForm) (full) : (Machine.offsetLoad full s).InForm := by
  have h1 : (s.lds' (fun l => { l with load := full % 2 ^ 32 })).InForm := h.ldsRest
  have h2 := h1.shiftFrames s.frm.now (full / 10000000)
  unfold Machine.offsetLoad
  exact .ite (h1.setFlag ..) (.programTimers (.put (h2.shiftObs _)) ..)

theorem State.InForm.execLdsOffsetLoad (h : s.InForm) {full t} (e : Machine.execLdsOffsetLoad full s = .next t) : t.InForm :=
  h.next e fun _ h => h.offsetLoad ..

theorem State.InForm.frameLoRead (h : s.InForm) : (Machine.frameLoRead s).InForm := h.ldsRest

theorem State.InForm.execLdsFrameLoRead (h : s.InForm) {t} (e : Machine.execLdsFrameLoRead s = .next t) : t.InForm := h.next e fun _ h =>
    h.frameLoRead

theorem State.InForm.refChange (h : s.InForm) (old) : (Machine.refChange old s).InForm := .ite h (h.owner ..)
theorem State.InForm.holdFreq (h : s.InForm) : (Machine.holdFreq s).InForm := .ite h.ldsRest (h.nextInc (clampInc_bound _))

theorem State.InForm.slewTo (h : s.InForm) (r) : (Machine.slewTo r s).InForm := by
  unfold Machine.slewTo
  exact h.ldsRest

theorem State.InForm.enterHoldover (h : s.InForm) (raise) : (Machine.enterHoldover raise s).InForm := .ite (h.holdFreq.ldsRest.owner ..)
    h.holdFreq.ldsRest

theorem State.InForm.refIgnored (h : s.InForm) : (Machine.refIgnored s).InForm := h.ldsRest
theorem State.InForm.tellLarge (h : s.InForm) (r) : (Machine.tellLarge r s).InForm := h.owner ..

theorem State.InForm.onQualP (h : s.InForm) (r) : (Machine.onQualP r s).InForm := by
  unfold Machine.onQualP
  dsimp only
  split
  · exact .ite (.slewTo (.ite (h.tellLarge ..) h) ..) (.ldsRest (.offsetLoad (.ite (h.tellLarge ..) h) ..))
  · exact .slewTo (.ite (h.tellLarge ..) h) ..
  · exact .slewTo (.ite (h.tellLarge ..) h) ..
  · split
    · exact .ite (.slewTo (.ite (h.tellLarge ..) h) ..) (.refIgnored (.ite (h.tellLarge ..) h))
    · exact .refIgnored (.ite (h.tellLarge ..) h)
  · split
    · exact .ite (.slewTo (.ite (h.tellLarge ..) h) ..) (.refIgnored (.ite (h.tellLarge ..) h))
    · exact .refIgnored (.ite (h.tellLarge ..) h)

theorem State.InForm.onQual10 (h : s.InForm) : (Machine.onQual10 s).InForm := by
  unfold Machine.onQual10
  split
  · exact h.ldsRest
  · exact h.ldsRest
  · exact h.ldsRest
  · exact h.refIgnored
  · exact h.refIgnored

theorem State.InForm.qualify (h : s.InForm) (r) : (Machine.qualify r s).InForm := .ite h (.refChange (.ite h.ldsRest.onQual10 (h.ldsRest.onQualP
    ..)) ..)

theorem State.InForm.lose (h : s.InForm) (r) : (Machine.lose r s).InForm := by
  unfold Machine.lose
  refine .ite h (.refChange (.ite (.ite (h.ldsRest.nextInc (clampInc_bound _)) h.ldsRest.refIgnored) (.ite ?_ h.ldsRest.refIgnored)) ..)
  split
  · exact h.ldsRest.slewTo ..
  · exact h.ldsRest.enterHoldover ..

theorem State.InForm.nsRead (h : s.InForm) : (Machine.nsRead s).InForm := by
  unfold Machine.nsRead
  refine .ite (.ite (h.ldsRest.owner ..) h.ldsRest) ?_
  dsimp only
  split
  · exact .refChange (.slewTo (.tellLarge (.owner (.ite (h.ldsRest.owner ..) h.ldsRest) ..) ..) ..) ..
  · exact .owner (.ite (h.ldsRest.owner ..) h.ldsRest) ..

theorem State.InForm.noteOffset (h : s.InForm) (r off) : (Machine.noteOffset r off s).InForm := .ite h.ldsRest h
theorem State.InForm.ppsEdge (h : s.InForm) : (Machine.ppsEdge s).InForm := .ite (h.ldsRest.lose ..) h.ldsRest

theorem State.InForm.execPpsInMissing (h : s.InForm) {t} (e : Machine.execPpsInMissing s = .next t) : t.InForm :=
  h.next e fun _ h => h.guard (fun h => h.ldsRest.lose ..)

theorem State.InForm.labelEdge (h : s.InForm) (o sec) : (Machine.labelEdge o sec s).InForm :=
  .ite (.ite ((h.ldsRest.noteOffset ..).ldsRest.lose ..) (h.ldsRest.noteOffset ..)) (.ite ((h.ldsRest.noteOffset ..).qualify ..)
      (h.ldsRest.noteOffset ..))

theorem State.InForm.todSentence (h : s.InForm) (t sumOk) : (Machine.todSentence t sumOk s).InForm := by
  unfold Machine.todSentence
  split
  · exact h
  · exact .ite (h.labelEdge ..) (h.ldsRest.lose ..)

theorem State.InForm.fsyncEdge (h : s.InForm) : (Machine.fsyncEdge s).InForm :=
  .ite (.ite h ((h.ldsRest.lose ..).owner ..)) (.ite h.ldsRest.ldsRest (.ite ((h.ldsRest.ldsRest.noteOffset ..).qualify ..)
      (h.ldsRest.ldsRest.noteOffset ..)))

theorem State.InForm.execFsyncLost (h : s.InForm) {t} (e : Machine.execFsyncLost s = .next t) : t.InForm :=
  h.next e fun _ h => h.guard (fun h => (h.ldsRest.lose ..).owner ..)

theorem State.InForm.execRef10Qualify (h : s.InForm) {t} (e : Machine.execRef10Qualify s = .next t) : t.InForm :=
  h.next e fun _ h => h.guard (fun h => h.qualify ..)

theorem State.InForm.execRef10Lost (h : s.InForm) {t} (e : Machine.execRef10Lost s = .next t) : t.InForm := h.next e fun _ h => h.guard (fun h =>
    h.lose ..)

theorem State.InForm.acqUnset (h : s.InForm) : (Machine.acqUnset s).InForm := .refChange (.owner (.ldsRest (.ite h (h.offsetLoad ..))) ..) ..

theorem State.InForm.execAcqTimeout (h : s.InForm) {t} (e : Machine.execAcqTimeout s = .next t) : t.InForm :=
  h.next e fun _ h => h.guard (fun h => .ite h.ldsRest.acqUnset h.ldsRest.refIgnored)

theorem State.InForm.execSlewComplete (h : s.InForm) {t} (e : Machine.execSlewComplete s = .next t) : t.InForm :=
  h.next e fun _ h => h.guard (fun h => h.ldsRest.refChange ..)

theorem State.InForm.execHoldoverExpired (h : s.InForm) {t} (e : Machine.execHoldoverExpired s = .next t) : t.InForm :=
  h.next e fun _ h => h.guard (fun h => h.ldsRest.owner ..)

theorem State.InForm.ptpCheckLost (h : s.InForm) : (Machine.ptpCheckLost s).InForm := .ite h (h.lose ..)

theorem State.InForm.execTodTxSentence (h : s.InForm) {t} (e : Machine.execTodTxSentence s = .next t) : t.InForm :=
  h.next e fun _ h => h.guard (fun h => h.send ..)

theorem State.InForm.armTimer (h : s.InForm) (n periodic dest) : (Machine.armTimer n periodic dest s).InForm :=
  .ite ((h.setReg ..).setFlag ..) (.ite ((h.setReg ..).setFlag ..) (h.setReg ..))

theorem State.InForm.setCompare (h : s.InForm) (n cmp per wid) : (Machine.setCompare n cmp per wid s).InForm := ((h.setReg ..).setReg ..).setReg ..

theorem State.InForm.configTimer (h : s.InForm) (n periodic c) : (Machine.configTimer n periodic c s).InForm :=
  .ite (h.setFlag ..) ((h.setCompare ..).armTimer ..)

theorem State.InForm.execTimerArm (h : s.InForm) {n periodic cfg t} (e : Machine.execTimerArm n periodic cfg s = .next t) : t.InForm :=
  h.next e fun _ h => h.guard (fun h => h.configTimer ..)

theorem opTimeRead_keeps : opTimeRead.Keeps := fun _ _ h => h
theorem opTimeSet_keeps : opTimeSet.Keeps := fun _ _ h => .fst h.ldsRest
theorem opUtcTable_keeps : opUtcTable.Keeps := fun _ _ h => .fst h.ldsRest

theorem opPtpPort_keeps : opPtpPort.Keeps := by
  intro c s h
  have h1 : (match c.nat? 0x000F with | some n => s.lds' (fun l => { l with domain := n }) | none => s).InForm := by
    split
    · exact h.ldsRest
    · exact h
  exact .iteFst (.fst (.ptpCheckLost (h1.lds' _ h1.rate (twf_terase _ _ h1.ptp)))) (.fst (.ptpCheckLost (h1.lds' _ h1.rate (twf_tset _ _ _ h1.ptp))))

theorem State.InForm.noteIn (h : s.InForm) (port) : (Machine.noteIn port s).InForm := h.ldsRest
theorem State.InForm.noteEg (h : s.InForm) (port) : (Machine.noteEg port s).InForm := h.ldsRest
theorem opTimeRawRead_keeps : opTimeRawRead.Keeps := fun _ _ h => .fst h.ldsRest

theorem opTimedPulse_keeps : opTimedPulse.Keeps := by
  intro c s h
  dsimp only [opTimedPulse]
  split
  · exact h
  · exact (((h.setReg ..).setReg ..).setReg ..).armTimer ..

theorem opStampMark_keeps : opStampMark.Keeps := fun _ _ h => .fst h.ldsRest

theorem State.InForm.execTimeRead (h : s.InForm) {src tlvs t} (e : Machine.execTimeRead src tlvs s = .next t) : t.InForm := h.execOp
    opTimeRead_keeps e

theorem State.InForm.execTimeSet (h : s.InForm) {src tlvs t} (e : Machine.execTimeSet src tlvs s = .next t) : t.InForm := h.execOp opTimeSet_keeps e

theorem State.InForm.execUtcTable (h : s.InForm) {src tlvs t} (e : Machine.execUtcTable src tlvs s = .next t) : t.InForm := h.execOp
    opUtcTable_keeps e

theorem State.InForm.execPtpPort (h : s.InForm) {src tlvs t} (e : Machine.execPtpPort src tlvs s = .next t) : t.InForm := h.execOp opPtpPort_keeps e

theorem State.InForm.execTimeRawRead (h : s.InForm) {src tlvs t} (e : Machine.execTimeRawRead src tlvs s = .next t) : t.InForm :=
  h.execOp opTimeRawRead_keeps e

theorem State.InForm.execTimedPulse (h : s.InForm) {src tlvs t} (e : Machine.execTimedPulse src tlvs s = .next t) : t.InForm := h.execOp
    opTimedPulse_keeps e

theorem State.InForm.execStampMark (h : s.InForm) {src tlvs t} (e : Machine.execStampMark src tlvs s = .next t) : t.InForm := h.execOp
    opStampMark_keeps e

end Sys2Proof.Machine
end

section
/-!
SUPPORT. Strings, the bridge, light, the fabric, DMA and lamps keep the form of the state.
-/
namespace Sys2Proof.Machine

set_option Elab.async false
variable {s : State}

/-! ### Machine/Strings.lean: strings and pole nodes -/

theorem State.InForm.sendMsl (h : s.InForm) (g port hop dst kind pre args prot body tail) : (Machine.sendMsl g port hop dst kind pre args prot body
    tail s).InForm :=
  h.send ..

theorem State.InForm.wirePole (h : s.InForm) (g p kind args body tail) : (Machine.wirePole g p kind args body tail s).InForm := by
  unfold Machine.wirePole
  split
  · exact h.guard (fun h => (h.modPole ..).sendMsl ..)
  · exact h

theorem State.InForm.wireInit (h : s.InForm) (g p args body) : (Machine.wireInit g p args body s).InForm := by
  unfold Machine.wireInit
  split
  · exact h.sendMsl ..
  · exact h

theorem State.InForm.wireClear (h : s.InForm) (g p kind args body) : (Machine.wireClear g p kind args body s).InForm := h.sendMsl ..

theorem State.InForm.wireItem (h : s.InForm) (g p kind args body) : (Machine.wireItem g p kind args body s).InForm := by
  unfold Machine.wireItem
  split
  · exact h.wireClear ..
  · exact h.wireClear ..
  · exact h.wireInit ..
  · exact h.wirePole ..

theorem State.InForm.noteStall (h : s.InForm) (g p cls) : (Machine.noteStall g p cls s).InForm := h.modPole ..

theorem State.InForm.sendItem (h : s.InForm) (g p kind args body) : (Machine.sendItem g p kind args body s).InForm := by
  unfold Machine.sendItem
  split
  · exact h
  · exact .ite ((h.modPole ..).noteStall ..) ((h.modPole ..).wireItem ..)

theorem State.InForm.sendPole (h : s.InForm) (g p kind args body) : (Machine.sendPole g p kind args body s).InForm := h.guard (fun h => h.sendItem ..)

theorem State.InForm.releaseHeld (h : s.InForm) (g p cls n) : (Machine.releaseHeld g p cls n s).InForm := by
  induction n generalizing s with
  | zero => exact h
  | succ n ih =>
    unfold Machine.releaseHeld
    split
    · exact h
    · split
      · exact h
      · exact .ite (h.noteStall ..) (ih ((h.modPole ..).wireItem ..))

theorem State.InForm.fullCredits (h : s.InForm) (g p) : (Machine.fullCredits g p s).InForm := h.modPole ..

theorem State.InForm.mslAccept (h : s.InForm) (g p h') : (Machine.mslAccept g p h' s).1.InForm := by
  unfold Machine.mslAccept
  split
  · exact h.count ..
  · refine .iteFst (h.count ..) (.iteFst (h.count ..) ?_)
    split
    · refine .iteFst (.iteFst (h.count ..) (.fst (h.modPole ..))) ?_
      split
      · exact .iteFst (.iteFst (h.count ..) (.fst (h.modPole ..))) (h.count ..)
      · exact h.count ..
    · exact h.count ..

theorem State.InForm.onMsl (h : s.InForm) (g p h') {f} (hf : ∀ s : State, s.InForm → (f s).InForm) : (Machine.onMsl g p h' f s).InForm := by
  unfold Machine.onMsl
  exact .ite (hf _ (h.mslAccept ..)) (h.mslAccept ..)

theorem State.InForm.tellPole (h : s.InForm) (g p code) : (Machine.tellPole g p code s).InForm := by
  unfold Machine.tellPole
  split
  · exact (h.modPole ..).endpointState ..
  · exact h

theorem State.InForm.sendInit (h : s.InForm) (g p i) : (Machine.sendInit g p i s).InForm :=
  .sendItem (.ite (((h.put.modPole ..).fullCredits ..).releaseHeld ..) (h.put.modPole ..)) ..

theorem State.InForm.startAssoc (h : s.InForm) (g p) : (Machine.startAssoc g p s).InForm := .ite h (h.put.sendInit ..)
theorem State.InForm.kickAssocs (h : s.InForm) (g) : (Machine.kickAssocs g s).InForm := h.fold (fun _ _ h => .ite (h.startAssoc ..) h)

theorem State.InForm.sendPairInit (h : s.InForm) (g p tries) : (Machine.sendPairInit g p tries s).InForm :=
  .ite (h.modPole ..) (((h.put.modPole ..).fullCredits ..).sendItem ..)

theorem State.InForm.servePole (h : s.InForm) (g p) : (Machine.servePole g p s).InForm := by
  unfold Machine.servePole
  split
  · exact h
  · exact .ite ((h.modPole ..).startAssoc ..) (h.sendPairInit ..)

theorem State.InForm.resumeStrings (h : s.InForm) : (Machine.resumeStrings s).InForm :=
  h.fold (fun _ _ h => (h.fold (fun _ _ h => .ite (h.servePole ..) h)).kickAssocs ..)

theorem State.InForm.pairFail (h : s.InForm) (g p) : (Machine.pairFail g p s).InForm := ((h.modPole ..).setFlag ..).owner ..

theorem State.InForm.finishPair (h : s.InForm) (g p r eui own) : (Machine.finishPair g p r eui own s).InForm := ((h.put.modPole ..).sendItem
    ..).startAssoc ..

theorem State.InForm.execPairResp (h : s.InForm) {str pos resp eui sigOk t} (e : Machine.execPairResp str pos resp eui sigOk s = .next t) : t.InForm
    := by
  refine h.next e ?_
  intro _ h
  split
  · split
    · exact .ite (h.finishPair ..) (h.pairFail ..)
    · exact h
  · exact h

theorem State.InForm.execPairTimeout (h : s.InForm) {str pos t} (e : Machine.execPairTimeout str pos s = .next t) : t.InForm := by
  refine h.next e ?_
  intro _ h
  split
  · exact .ite h (.ite (h.sendPairInit ..) (h.pairFail ..))
  · exact h

theorem State.InForm.execPairRetry (h : s.InForm) {str pos t} (e : Machine.execPairRetry str pos s = .next t) : t.InForm := by
  refine h.next e ?_
  intro _ h
  split
  · exact .ite h (h.sendPairInit ..)
  · exact h

theorem State.InForm.newGroupKey (h : s.InForm) (g) : (Machine.newGroupKey g s).InForm := by
  unfold Machine.newGroupKey
  exact h.put.modGrain ..

theorem State.InForm.sendGroupKey (h : s.InForm) (g p) : (Machine.sendGroupKey g p s).InForm := .sendPole (.modPole (.ite (h.newGroupKey ..) h) ..) ..

theorem State.InForm.openPole (h : s.InForm) (g p q i) : (Machine.openPole g p q i s).InForm :=
  .kickAssocs (.ite (((h.modPole ..).sendGroupKey ..).tellPole ..) ((h.modPole ..).sendGroupKey ..)) ..

theorem State.InForm.execAssocConfirm (h : s.InForm) {str pos hdr t} (e : Machine.execAssocConfirm str pos hdr s = .next t) : t.InForm := by
  refine h.next e ?_
  intro _ h
  split
  · split
    · exact .ite (h.openPole ..) (h.count ..)
    · exact h.count ..
  · exact h.count ..

theorem State.InForm.execAssocInitTimeout (h : s.InForm) {str pos t} (e : Machine.execAssocInitTimeout str pos s = .next t) : t.InForm := by
  refine h.next e ?_
  intro _ h
  split
  · exact h
  · exact .ite (.ite h (h.guard (fun h => h.sendInit ..))) (.ite h (.ite (h.guard (fun h => h.sendInit ..)) (((h.modPole ..).owner ..).kickAssocs
      ..)))

theorem State.InForm.closeAssoc (h : s.InForm) (g p reason) : (Machine.closeAssoc g p reason s).InForm :=
  ((((h.modPole ..).owner ..).tellPole ..).bridgeClose ..).startAssoc ..

theorem State.InForm.execAssocClose (h : s.InForm) {str pos hdr t} (e : Machine.execAssocClose str pos hdr s = .next t) : t.InForm :=
  h.next e fun _ h => h.onMsl _ _ _ (fun _ h => h.closeAssoc ..)

theorem State.InForm.execAssocRekey (h : s.InForm) {str pos t} (e : Machine.execAssocRekey str pos s = .next t) : t.InForm :=
  h.next e fun _ h => h.guard (fun h => h.startAssoc ..)

theorem State.InForm.execAssocOldKeyErase (h : s.InForm) {str pos t} (e : Machine.execAssocOldKeyErase str pos s = .next t) : t.InForm :=
  h.next e fun _ h => h.guard (fun h => h.modPole ..)

theorem State.InForm.execAssocExhausted (h : s.InForm) {str pos t} (e : Machine.execAssocExhausted str pos s = .next t) : t.InForm :=
  h.next e fun _ h => h.guard (fun h => (h.setFlag ..).closeAssoc ..)

theorem State.InForm.replaceGroupKey (h : s.InForm) (g) : (Machine.replaceGroupKey g s).InForm :=
  ((h.modGrain ..).newGroupKey ..).fold (fun _ _ h => .ite (h.sendGroupKey ..) h)

theorem State.InForm.execGroupKeyReplace (h : s.InForm) {str t} (e : Machine.execGroupKeyReplace str s = .next t) : t.InForm :=
  h.next e fun _ h => h.guard (fun h => h.replaceGroupKey ..)

theorem State.InForm.syncPort (h : s.InForm) (g port) : (Machine.syncPort g s port).InForm :=
  .ite ((((h.fold (fun _ _ h => h.modPole ..)).modGrain ..).noteEg ..).sendMsl ..) ((h.modGrain ..).fold (fun _ _ h => h.noteStall ..))

theorem State.InForm.execTimeSyncSend (h : s.InForm) {str t} (e : Machine.execTimeSyncSend str s = .next t) : t.InForm :=
  h.next e fun _ h => h.guard (fun h => .fold (.modGrain (.ite (h.replaceGroupKey ..) h) ..) (fun _ _ h => h.syncPort ..))

theorem State.InForm.execDelayReq (h : s.InForm) {str pos hdr t} (e : Machine.execDelayReq str pos hdr s = .next t) : t.InForm :=
  h.next e fun _ h => h.onMsl _ _ _ (fun _ h => (h.noteIn ..).sendPole ..)

theorem State.InForm.execResyncReq (h : s.InForm) {str pos hdr t} (e : Machine.execResyncReq str pos hdr s = .next t) : t.InForm :=
  h.next e fun _ h => h.onMsl _ _ _ (fun _ h => h.modPole ..)

theorem State.InForm.takeCounts (h : s.InForm) (g p counts) : (Machine.takeCounts g p counts s).InForm := by
  unfold Machine.takeCounts
  split
  · exact h
  · exact .ite ((h.modPole ..).setFlag ..) (h.modPole ..)

theorem State.InForm.useCredits (h : s.InForm) (g p) : (Machine.useCredits g p s).InForm :=
  (h.fold (fun _ _ h => h.releaseHeld ..)).fold (fun _ _ h => h.syncPort ..)

theorem State.InForm.execCreditQuery (h : s.InForm) {str pos cls t} (e : Machine.execCreditQuery str pos cls s = .next t) : t.InForm :=
  h.next e fun _ h => h.guard (fun h => (h.modPole ..).sendPole ..)

theorem State.InForm.execMslReservedType (h : s.InForm) {port type t} (e : Machine.execMslReservedType port type s = .next t) : t.InForm :=
  h.next e fun _ h => h.guard (fun h => h.count ..)

theorem State.InForm.sendEnumerate (h : s.InForm) (g port n) : (Machine.sendEnumerate g port n s).InForm := h.sendMsl ..
theorem State.InForm.startCensus (h : s.InForm) (g) : (Machine.startCensus g s).InForm := (h.modGrain ..).sendEnumerate ..
theorem State.InForm.triggerCensus (h : s.InForm) (g) : (Machine.triggerCensus g s).InForm := .ite h (h.modGrain ..)

theorem State.InForm.abortCensus (h : s.InForm) (g) : (Machine.abortCensus g s).InForm := by
  unfold Machine.abortCensus
  dsimp only
  split
  · exact h
  · exact .modGrain (.ite (((h.setFlag ..).owner ..).owner ..) ((h.setFlag ..).owner ..)) ..

theorem State.InForm.fwCheck (h : s.InForm) (g p) : (Machine.fwCheck g p s).InForm := by
  unfold Machine.fwCheck
  split
  · exact .ite (h.owner ..) h
  · exact h

theorem State.InForm.clearEntries (h : s.InForm) (g p) : (Machine.clearEntries g p s).InForm := h.keepEntries ..
theorem State.InForm.freshChecks (h : s.InForm) (g p) : (Machine.freshChecks g p s).InForm := h.put

theorem State.InForm.adopt (h : s.InForm) (g p r) : (Machine.adopt g p r s).InForm :=
  ((((((h.modGrain ..).clearEntries ..).freshChecks ..).fwCheck ..).presetPole ..).tellPole ..).servePole ..

theorem State.InForm.rejoin (h : s.InForm) (g p r) : (Machine.rejoin g p r s).InForm :=
  .ite (.ite (.ite ((h.modPole ..).clearEntries ..) (((h.modPole ..).clearEntries ..).fwCheck ..)) (.tellPole (.freshChecks (.ite ((h.modPole
      ..).clearEntries ..) (((h.modPole ..).clearEntries ..).fwCheck ..)) ..) ..)) (.servePole (.ite (.ite ((h.modPole ..).clearEntries ..)
      (((h.modPole ..).clearEntries ..).fwCheck ..)) (.tellPole (.freshChecks (.ite ((h.modPole ..).clearEntries ..) (((h.modPole ..).clearEntries
      ..).fwCheck ..)) ..) ..)) ..)

theorem State.InForm.unserve (h : s.InForm) (g p f) : (Machine.unserve g p f s).InForm := by
  unfold Machine.unserve
  split
  · exact h
  · exact .bridgeClose (.ite ((h.modPole ..).tellPole ..) (h.modPole ..)) ..

theorem State.InForm.pend (h : s.InForm) (g p r) : (Machine.pend g p r s).InForm := (h.unserve ..).owner ..
theorem State.InForm.pendBeyond (h : s.InForm) (g p r) : (Machine.pendBeyond g p r s).InForm := (h.modGrain ..).owner ..

theorem State.InForm.reconcilePos (h : s.InForm) (g res found p) : (Machine.reconcilePos g res found s p).InForm := by
  unfold Machine.reconcilePos
  dsimp only
  split
  · exact h
  · exact .ite (h.adopt ..) (.ite (h.pendBeyond ..) h)
  · exact .ite (h.pend ..) (h.unserve ..)
  · exact .ite (h.rejoin ..) (.ite (((h.unserve ..).adopt ..).owner ..) (h.pend ..))

theorem State.InForm.dropKeyHolders (h : s.InForm) (g held) : (Machine.dropKeyHolders g held s).InForm := .ite h (h.replaceGroupKey ..)
theorem State.InForm.censusEvent (h : s.InForm) (g res c n) : (Machine.censusEvent g res c n s).InForm := h.owner ..

theorem State.InForm.finishCensus (h : s.InForm) (g c) : (Machine.finishCensus g c s).InForm :=
  .dropKeyHolders (.censusEvent (.ite (((((h.modGrain ..).fold (fun _ _ h => h.reconcilePos ..)).fold (fun _ _ h => .ite h (h.modPole ..))).setFlag
      ..).owner ..) (((h.modGrain ..).fold (fun _ _ h => h.reconcilePos ..)).fold (fun _ _ h => .ite h (h.modPole ..)))) ..) ..

theorem State.InForm.loseCensus (h : s.InForm) (g c) : (Machine.loseCensus g c s).InForm := (h.modGrain ..).censusEvent ..

theorem State.InForm.setStringRate (h : s.InForm) (g r) : (Machine.setStringRate g r s).InForm := by
  unfold Machine.setStringRate
  dsimp only
  split
  · exact (h.modGrain ..).modGrain ..
  · exact h.modGrain ..

theorem State.InForm.endCensus (h : s.InForm) (g c) : (Machine.endCensus g c s).InForm := by
  unfold Machine.endCensus
  dsimp only
  split
  · exact .ite ((((h.finishCensus ..).modGrain ..).setStringRate ..).triggerCensus ..) ((h.finishCensus ..).modGrain ..)
  · exact .ite ((h.modGrain ..).finishCensus ..) (((h.modGrain ..).setStringRate ..).loseCensus ..)
  · exact h.finishCensus ..

theorem State.InForm.endPass (h : s.InForm) (g) : (Machine.endPass g s).InForm := by
  unfold Machine.endPass
  dsimp only
  split
  · exact h
  · split
    · exact .ite ((h.modGrain ..).sendEnumerate ..) (h.endCensus ..)
    · exact h.endCensus ..

theorem State.InForm.execCensusStart (h : s.InForm) {port t} (e : Machine.execCensusStart port s = .next t) : t.InForm :=
  h.next e fun _ h => h.guard (fun h => h.startCensus ..)

theorem State.InForm.execEnumReport (h : s.InForm) {port number hop rep last t} (e : Machine.execEnumReport port number hop rep last s = .next t) :
    t.InForm := by
  refine h.next e ?_
  intro _ h
  dsimp only
  split
  · exact h
  · exact .ite h (.ite ((h.modGrain ..).endPass ..) (h.modGrain ..))

theorem State.InForm.execEnumerateLoopReturn (h : s.InForm) {port number t} (e : Machine.execEnumerateLoopReturn port number s = .next t) : t.InForm
    := by
  refine h.next e ?_
  intro _ h
  dsimp only
  split
  · exact .ite h ((h.modGrain ..).endPass ..)
  · exact h

theorem State.InForm.execCensusPassTimeout (h : s.InForm) {port t} (e : Machine.execCensusPassTimeout port s = .next t) : t.InForm :=
  h.next e fun _ h => h.guard (fun h => h.endPass ..)

theorem State.InForm.execLinkChange (h : s.InForm) {port t} (e : Machine.execLinkChange port s = .next t) : t.InForm :=
  h.next e fun _ h => .ite (h.abortCensus ..) (h.triggerCensus ..)

theorem State.InForm.execCensusRetry (h : s.InForm) {port t} (e : Machine.execCensusRetry port s = .next t) : t.InForm :=
  h.next e fun _ h => h.guard (fun h => h.startCensus ..)

theorem State.InForm.foldOver (h : s.InForm) (g) : (Machine.foldOver g s).InForm := by
  unfold Machine.foldOver
  split
  · exact .ite h (h.modGrain ..)
  · exact h

theorem State.InForm.loseString (h : s.InForm) (g) : (Machine.loseString g s).InForm := h.fold (fun _ _ h => .bridgeUnreach (.ite (h.tellPole ..) h)
    ..)

theorem State.InForm.regainString (h : s.InForm) (g) : (Machine.regainString g s).InForm := h.fold (fun _ _ h => .ite (h.tellPole ..) h)

theorem State.InForm.linkEvent (h : s.InForm) (port up rate) : (Machine.linkEvent port up rate s).InForm :=
  .owner (.ite (.regainString (.foldOver (.ite (.triggerCensus (.ite ((h.modGrain ..).abortCensus ..) (h.modGrain ..)) ..) (.setFlag (.ite
      ((h.modGrain ..).abortCensus ..) (h.modGrain ..)) ..)) ..) ..) (.ite (.foldOver (.ite (.triggerCensus (.ite ((h.modGrain ..).abortCensus ..)
      (h.modGrain ..)) ..) (.setFlag (.ite ((h.modGrain ..).abortCensus ..) (h.modGrain ..)) ..)) ..) (.loseString (.foldOver (.ite (.triggerCensus
      (.ite ((h.modGrain ..).abortCensus ..) (h.modGrain ..)) ..) (.setFlag (.ite ((h.modGrain ..).abortCensus ..) (h.modGrain ..)) ..)) ..) ..))) ..

theorem State.InForm.execStringLink (h : s.InForm) {port up rate t} (e : Machine.execStringLink port up rate s = .next t) : t.InForm :=
  h.next e fun _ h => h.guard (fun h => h.linkEvent ..)

theorem State.InForm.setRateCfg (h : s.InForm) (g y) : (Machine.setRateCfg g y s).InForm :=
  .ite ((h.modGrain ..).modGrain ..) (.ite ((h.modGrain ..).linkEvent ..) (h.modGrain ..))

theorem State.InForm.execRateTryTimeout (h : s.InForm) {port t} (e : Machine.execRateTryTimeout port s = .next t) : t.InForm :=
  h.next e fun _ h => h.guard (fun h => h.modGrain ..)

theorem State.InForm.cfgLoop (h : s.InForm) (lo hi) : FormOk (Machine.cfgLoop lo hi s) :=
  .bind fun _ => .bind fun _ => .bind fun _ => .bind fun _ => .bind fun _ => .ok (.triggerCensus (((h.keepEntries _).modGrain ..).modGrain ..) _)

theorem State.InForm.cfgUnloop (h : s.InForm) (lo) : FormOk (Machine.cfgUnloop lo s) := by
  unfold Machine.cfgUnloop
  split
  · exact .ite (.error _) (.ok ((h.modGrain ..).modGrain ..))
  · exact .error _

theorem State.InForm.acceptCensus (h : s.InForm) (g cand) : (Machine.acceptCensus g cand s).InForm := by
  unfold Machine.acceptCensus
  refine ((((h.fold (fun _ _ h => h.unserve ..)).keepEntries ..).modGrain ..).fold ?_).dropKeyHolders ..
  intro _ _ h
  split
  · exact .ite (h.rejoin ..) (h.adopt ..)
  · exact h.adopt ..

theorem State.InForm.segStrings (h : s.InForm) (id b) : FormOk (Machine.segStrings id b s) := by
  unfold Machine.segStrings
  dsimp only
  split
  · exact h.cfgLoop ..
  · exact h.cfgUnloop ..
  · exact .bind fun _ => .bind fun _ => .ok ((h.modGrain ..).setRateCfg ..)
  · exact .bind fun _ => .bind fun _ => .ok (h.modGrain ..)
  · exact .bind fun _ => .ok (h.triggerCensus ..)
  · split
    · exact .ok (h.acceptCensus ..)
    · exact .error _
  · exact .bind fun _ => .ok (h.modGrain ..)
  · exact .ite (.ok h) (.bind fun _ => .ok h.put)
  · exact .error _

/-! ### Machine/Bridge.lean: the endpoint bridge -/

theorem State.InForm.brokenCheck (h : s.InForm) {v x reg n t} (e : Machine.brokenCheck v x reg n s = some t) : t.InForm := by
  unfold Machine.brokenCheck at e
  dsimp only at e
  split at e
  · cases e
    exact h.modGbr ..
  · cases e

theorem State.InForm.enqueue (h : s.InForm) {op t} (e : Machine.enqueue op s = some t) : t.InForm := by
  unfold Machine.enqueue at e
  dsimp only at e
  split at e
  · split at e <;> cases e
    · exact h.dropPosted ..
    · exact h.modGbr ..
  · split at e
    · cases e
    · split at e <;> cases e
      · exact (h.modGbr ..).brResult ..
      · exact h.modGbr ..

theorem State.InForm.commitRead (h : s.InForm) (c reg n) : (Machine.commitRead c reg n s).1.InForm := by
  unfold Machine.commitRead
  split
  next e => exact h.brokenCheck e
  · split
    next e => exact h.enqueue e
    · exact h

theorem State.InForm.writeBlocked (h : s.InForm) {c reg n p} (e : Machine.writeBlocked c reg n s = some p) : p.1.InForm := by
  unfold Machine.writeBlocked at e
  split at e
  next e' =>
    cases e
    exact h.brokenCheck e'
  · split at e <;> cases e
    exact h

theorem opBridgeRead_keeps : opBridgeRead.Keeps := fun _ _ h => h.commitRead ..

theorem opBridgeWrite_keeps : opBridgeWrite.Keeps := by
  intro c s h
  dsimp only [opBridgeWrite]
  split
  next e => exact h.writeBlocked e
  · split
    next e => exact h.enqueue e
    · exact h

theorem State.InForm.attrReads (h : s.InForm) (c l) : (Machine.attrReads c l s).1.InForm := by
  induction l generalizing s with
  | nil => exact h
  | cons n r ih =>
    unfold Machine.attrReads
    split
    · exact h
    · split
      next e => exact ih (h.enqueue e)
      · exact h

theorem opAttrRead_keeps : opAttrRead.Keeps := by
  intro c s h
  dsimp only [opAttrRead]
  refine .iteFst h ?_
  split
  next e =>
    obtain ⟨x, -, e⟩ := List.exists_of_findSome?_eq_some e
    exact h.brokenCheck e
  · exact .iteFst h (.fst (h.attrReads ..))

theorem opAttrWrite_keeps : opAttrWrite.Keeps := by
  intro c s h
  dsimp only [opAttrWrite]
  split
  · exact h
  · split
    next e => exact h.writeBlocked e
    · split
      next e =>
        split at e
        · exact h.enqueue e
        · split at e
          · cases e
          · obtain ⟨t, e1, e2⟩ := Option.bind_eq_some_iff.1 e
            exact (h.enqueue e1).enqueue e2
      · exact h

theorem State.InForm.serveEntries (h : s.InForm) (g n) : (Machine.serveEntries g n s).InForm := by
  induction n generalizing s with
  | zero => exact h
  | succ n ih =>
    unfold Machine.serveEntries
    dsimp only
    split
    · exact h
    · have hq (f) : (s.modGbr g f).InForm := h.modGbr ..
      refine .ite h (ih ?_)
      split
      · exact .ite ((State.InForm.modGbr (hq _) ..).result ..) (.ite ((hq _).result ..) (State.InForm.modGbr (hq _) ..))
      · exact .ite ((hq _).result ..) ((State.InForm.modGbr (hq _) ..).result ..)

theorem State.InForm.passSem (h : s.InForm) (g h' block) : (Machine.passSem g h' block s).InForm := by
  unfold Machine.passSem
  split
  · exact h
  · dsimp only
    split
    · exact ((h.fold (fun _ _ h => h.result ..)).modGbr ..).result ..
    · exact ((h.fold (fun _ _ h => h.result ..)).modGbr ..).serveEntries ..

theorem State.InForm.breakSem (h : s.InForm) (g h' block) : (Machine.breakSem g h' block s).InForm := by
  unfold Machine.breakSem
  split
  · exact h
  · exact ((h.modGbr ..).setFlag ..).passSem ..

theorem State.InForm.semLeases (h : s.InForm) (g) : (Machine.semLeases g s).InForm := h.fold (fun _ _ h => h.breakSem ..)
theorem State.InForm.semWaits (h : s.InForm) (g) : (Machine.semWaits g s).InForm := (h.modGbr ..).fold (fun _ _ h => h.result ..)
theorem State.InForm.semForget (h : s.InForm) (g) : (Machine.semForget g s).InForm := h.modGbr ..

theorem State.InForm.semRemove (h : s.InForm) (v) : (Machine.semRemove v s).InForm :=
  h.fold (fun _ _ h => ((h.modGbr ..).fold (fun _ _ h => h.breakSem ..)).modGbr ..)

theorem State.InForm.acquire (h : s.InForm) (c) : (Machine.acquire c s).1.InForm := by
  have hq (f) (r : Reply) : (s.modGbr (hString c.ep) f, r).1.InForm := h.modGbr ..
  unfold Machine.acquire
  dsimp only
  split
  · exact .iteFst (hq _ _) (.iteFst h (.iteFst h (hq _ _)))
  · exact .iteFst h (.iteFst (hq _ _) (.iteFst h (.iteFst h (hq _ _))))

theorem opSemAcquire_keeps : opSemAcquire.Keeps := fun _ _ h => h.acquire ..

theorem opSemRelease_keeps : opSemRelease.Keeps := by
  intro c s h
  dsimp only [opSemRelease]
  split
  next e => exact h.brokenCheck e
  · split
    · exact h
    · exact .iteFst (h.breakSem ..) (.iteFst (h.passSem ..) h)

theorem State.InForm.execAttrRead (h : s.InForm) {src tlvs t} (e : Machine.execAttrRead src tlvs s = .next t) : t.InForm := h.execOp
    opAttrRead_keeps e

theorem State.InForm.execAttrWrite (h : s.InForm) {src tlvs t} (e : Machine.execAttrWrite src tlvs s = .next t) : t.InForm := h.execOp
    opAttrWrite_keeps e

theorem State.InForm.execBridgeRead (h : s.InForm) {src tlvs t} (e : Machine.execBridgeRead src tlvs s = .next t) : t.InForm := h.execOp
    opBridgeRead_keeps e

theorem State.InForm.execBridgeWrite (h : s.InForm) {src tlvs t} (e : Machine.execBridgeWrite src tlvs s = .next t) : t.InForm :=
  h.execOp opBridgeWrite_keeps e

theorem State.InForm.execSemAcquire (h : s.InForm) {src tlvs t} (e : Machine.execSemAcquire src tlvs s = .next t) : t.InForm := h.execOp
    opSemAcquire_keeps e

theorem State.InForm.execSemRelease (h : s.InForm) {src tlvs t} (e : Machine.execSemRelease src tlvs s = .next t) : t.InForm := h.execOp
    opSemRelease_keeps e

theorem State.InForm.execSemWaitTimeout (h : s.InForm) {str t} (e : Machine.execSemWaitTimeout str s = .next t) : t.InForm :=
  h.next e fun _ h => h.semWaits ..

theorem State.InForm.execSemBrokenExpire (h : s.InForm) {str t} (e : Machine.execSemBrokenExpire str s = .next t) : t.InForm :=
  h.next e fun _ h => h.semForget ..

theorem State.InForm.issueOp (h : s.InForm) (g t o) : (Machine.issueOp g t o s).InForm := (h.modGbr ..).wirePole ..

theorem State.InForm.tryCredit (h : s.InForm) (g p t n) : (Machine.tryCredit g p t n s).InForm := by
  induction n generalizing s with
  | zero => exact h
  | succ n ih =>
    unfold Machine.tryCredit
    split
    · exact .ite (h.noteStall ..) (ih (((h.modGbr ..).modPole ..).issueOp ..))
    · exact h

theorem State.InForm.execBridgeIssue (h : s.InForm) {str v t} (e : Machine.execBridgeIssue str v s = .next t) : t.InForm := by
  refine h.next e ?_
  intro _ h
  split
  · exact (h.modGbr ..).tryCredit ..
  · exact h

theorem State.InForm.execCredit (h : s.InForm) {str pos hdr counts t} (e : Machine.execCredit str pos hdr counts s = .next t) : t.InForm :=
  h.next e fun _ h => h.onMsl _ _ _ (fun _ h => ((h.takeCounts ..).useCredits ..).tryCredit ..)

theorem State.InForm.brMismatch (h : s.InForm) (g) : (Machine.brMismatch g s).InForm := (h.count ..).setFlag ..

theorem State.InForm.brAnswer (h : s.InForm) (g p slot tag reg count estat kind data) : (Machine.brAnswer g p slot tag reg count estat kind data
    s).InForm := by
  unfold Machine.brAnswer
  split
  · exact h.brMismatch ..
  · exact .ite (((h.count ..).setFlag ..).modGbr ..) (.ite (.ite ((h.modGbr ..).tagResult ..) ((h.modGbr ..).tagResult ..)) (h.brMismatch ..))

theorem State.InForm.execBrReadResp (h : s.InForm) {str pos hdr slot tag reg count estat data t} (e : Machine.execBrReadResp str pos hdr slot tag
    reg count estat data s = .next t) : t.InForm :=
  h.next e fun _ h => h.onMsl _ _ _ (fun _ h => h.brAnswer ..)

theorem State.InForm.execBrWriteAck (h : s.InForm) {str pos hdr slot tag reg count estat t} (e : Machine.execBrWriteAck str pos hdr slot tag reg
    count estat s = .next t) : t.InForm :=
  h.next e fun _ h => h.onMsl _ _ _ (fun _ h => h.brAnswer ..)

theorem State.InForm.execTagTimeout (h : s.InForm) {str tag t} (e : Machine.execTagTimeout str tag s = .next t) : t.InForm := by
  refine h.next e ?_
  intro _ h
  split
  · split
    · exact h.guard (fun h => (((h.count ..).setFlag ..).modGbr ..).tagResult ..)
    · exact h
  · exact h

theorem State.InForm.execTagSecondTimeout (h : s.InForm) {str tag t} (e : Machine.execTagSecondTimeout str tag s = .next t) : t.InForm := by
  refine h.next e ?_
  intro _ h
  split
  · exact h.guard (fun h => h.modGbr ..)
  · exact h

/-! ### Machine/Slates.lean: slates and light -/

theorem State.InForm.setBack (h : s.InForm) (h' v) : (s.setBack h' v).InForm := h.sl ..
theorem State.InForm.setSources (h : s.InForm) (h' l) : (s.setSources h' l).InForm := h.sl ..

theorem State.InForm.dropStart (h : s.InForm) (st) : (Machine.dropStart st s).InForm := by
  unfold Machine.dropStart
  split
  · exact h.sl ..
  · exact h

theorem State.InForm.endSrcs (h : s.InForm) (h' p) : (Machine.endSrcs h' p s).InForm := (h.setSources ..).fold (fun _ _ h => h.dropStart ..)
theorem State.InForm.setSrc (h : s.InForm) (h' x) : (Machine.setSrc h' x s).InForm := (h.endSrcs ..).setSources ..

theorem State.InForm.endLease (h : s.InForm) (h' code) : (Machine.endLease h' code s).InForm := by
  unfold Machine.endLease
  split
  · exact h
  · dsimp only
    split
    · exact (h.put.endSrcs ..).raise ..
    · exact h.put.endSrcs ..

theorem State.InForm.expireLeases (h : s.InForm) : (Machine.expireLeases s).InForm := h.fold (fun _ _ h => h.endLease ..)

theorem State.InForm.acquireLease (h : s.InForm) (v h' frames) : (Machine.acquireLease v h' frames s).1.InForm := by
  unfold Machine.acquireLease
  split
  · split
    · exact h.put
    · exact .iteFst h.put (.iteFst (h.endLease ..).put h)
  · split
    · exact h.put
    · exact .iteFst h.put (.iteFst (h.endLease ..).put h)

theorem State.InForm.onTargets (h : s.InForm) (c rank tlvs) {f} (hf : ∀ s a, s.InForm → (f a s).InForm) :
    (Machine.onTargets c s rank tlvs f).1.InForm := h.fold hf

theorem State.InForm.levelCommit (h : s.InForm) (c) : (Machine.levelCommit c s).1.InForm := h.onTargets _ _ _ (fun _ _ h => .ite (h.endSrcs ..)
    (h.setSrc ..))

theorem opLightLevel_keeps : opLightLevel.Keeps := fun _ _ h => h.levelCommit ..
theorem opLightLevelX_keeps : opLightLevelX.Keeps := fun _ _ h => h.levelCommit ..
theorem opLightFade_keeps : opLightFade.Keeps := fun _ _ h => h.onTargets _ _ _ (fun _ _ h => h.setSrc ..)

theorem opLightLease_keeps : opLightLease.Keeps := by
  intro c s h
  dsimp only [opLightLease]
  refine .iteFst (.fst (h.fold fun _ _ h => .ite (h.endLease ..) h)) ?_
  exact State.InForm.foldFst (fun _ _ h => .fst (h.acquireLease ..)) _ h

theorem opLightRead_keeps : opLightRead.Keeps := fun _ _ h => h

theorem State.InForm.emergencyCommit (h : s.InForm) (c) : (Machine.emergencyCommit c s).1.InForm := by
  unfold Machine.emergencyCommit
  dsimp only
  split
  · exact h.fold (fun _ _ h => h.setSrc ..)
  · exact h.fold (fun _ _ h => h.endSrcs ..)
  all_goals
    dsimp only
    exact h.sl _

theorem opLightEmergency_keeps : opLightEmergency.Keeps := fun _ _ h => h.emergencyCommit ..

theorem opStepTable_keeps : opStepTable.Keeps := by
  intro c s h
  dsimp only [opStepTable]
  split
  · exact h
  · exact .iteFst (.fst (h.sl ..)) (.fst (((h.sl ..).fold (fun _ _ h => h.setSrc ..)).sl ..))

theorem State.InForm.modDerate (h : s.InForm) (h' f) : (s.modDerate h' f).InForm := h.sl ..

theorem opFactorSet_keeps : opFactorSet.Keeps := by
  intro c s h
  dsimp only [opFactorSet]
  split
  · exact (h.sl ..).fold (fun _ _ h => h.modDerate ..)
  · exact .fst (h.sl ..)

theorem opSlateWindow_keeps : opSlateWindow.Keeps := fun _ _ h => h
theorem State.InForm.setSched (h : s.InForm) (v no h' p) : (Machine.setSched v no h' p s).InForm := .ite h (h.setSrc ..)
theorem State.InForm.endSched (h : s.InForm) (v no) : (Machine.endSched v no s).InForm := h.fold (fun _ _ h => h.endSrcs ..)

theorem State.InForm.takeLatest (h : s.InForm) (v no k) : (Machine.takeLatest v no k s).InForm := by
  unfold Machine.takeLatest
  dsimp only
  split
  · exact h
  · exact h.fold (fun _ _ h => h.setSched ..)

theorem State.InForm.scheduleFire (h : s.InForm) (v no ix) : (Machine.scheduleFire v no ix s).InForm := by
  unfold Machine.scheduleFire
  dsimp only
  split
  · exact h
  · split
    · exact h
    · exact .ite h ((h.put.sl ..).fold (fun _ _ h => h.setSched ..))

theorem State.InForm.execScheduleFire (h : s.InForm) {v no ix t} (e : Machine.execScheduleFire v no ix s = .next t) : t.InForm :=
  h.next e fun _ h => h.scheduleFire ..

theorem State.InForm.skipEvents (h : s.InForm) : (Machine.skipEvents s).InForm := by
  unfold Machine.skipEvents
  refine .ite (h.sl ..) ((h.sl ..).fold ?_)
  intro _ _ h
  refine .ite h (h.fold ?_)
  intro _ _ h
  split
  · exact .ite (h.raise ..) h
  · exact h

theorem schedOp_keeps (op more) : (schedOp op more).Keeps := by
  intro c s h
  dsimp only [schedOp]
  split
  · exact h
  · refine .fst (.ite (.takeLatest (.sl (.endSched h.put ..) _) ..) (.sl (.endSched h.put ..) _))

theorem opScheduleWrite_keeps : opScheduleWrite.Keeps := schedOp_keeps _ _
theorem opScheduleWriteX_keeps : opScheduleWriteX.Keeps := schedOp_keeps _ _

theorem opScheduleRead_keeps : opScheduleRead.Keeps := by
  intro c s h
  dsimp only [opScheduleRead]
  split <;> exact h

theorem opSolarRead_keeps : opSolarRead.Keeps := by
  intro c s h
  dsimp only [opSolarRead]
  split <;> exact h

theorem State.InForm.stepEnd (h : s.InForm) (h' st) : (Machine.stepEnd h' st s).InForm := by
  unfold Machine.stepEnd
  split
  · exact h
  · exact .ite ((h.sl ..).raise ..) (h.sl ..)

theorem State.InForm.advance (h : s.InForm) (h') : (Machine.advance h' s).1.InForm := by
  refine State.InForm.foldFst (fun p x h => ?_) _ h
  split
  · exact h.stepEnd ..
  · exact .ite (h.stepEnd ..) h

theorem State.InForm.composeOne (h : s.InForm) (h' w) : (Machine.composeOne h' w s).1.InForm := by
  have h1 (l) : ((Machine.advance h' s).1.setSources h' l).InForm := (h.advance h').setSources ..
  unfold Machine.composeOne
  dsimp only
  split
  · exact h1 _
  · exact h1 _

theorem State.InForm.composeInto (h : s.InForm) (lift h') : (Machine.composeInto lift s h').InForm := by
  have h1 := h.composeOne h' (lift h')
  unfold Machine.composeInto
  dsimp only
  split
  · exact h1.sl _
  · have h2 := h1.sl
    exact .setBack (.ite ((h2 _).sl _) (.ite (h2 _) (.ite ((h2 _).sl _) (h2 _)))) ..

theorem State.InForm.composeAll (h : s.InForm) (lift unfinished) : (Machine.composeAll lift unfinished s).InForm :=
  (h.sl ..).fold (fun _ _ h => h.composeInto ..)

theorem State.InForm.inrushAdmit (h : s.InForm) : (Machine.inrushAdmit s).1.InForm := ((h.sl ..).fold (fun _ _ h => h.sl ..)).fold (fun _ _ h =>
    h.setBack ..)

theorem State.InForm.backlog (h : s.InForm) : (Machine.backlog s).InForm := (h.sl ..).fold (fun _ _ h => .ite ((h.sl ..).owner ..) h)

theorem State.InForm.derateStep (h : s.InForm) : (Machine.derateStep s).InForm := by
  unfold Machine.derateStep
  refine h.fold ?_
  intro _ _ h
  dsimp only
  split
  · exact h
  · exact .ite (((h.modDerate ..).raiseEp ..).modDerate ..) (h.modDerate ..)

theorem State.InForm.segLight (h : s.InForm) (id b) : FormOk (Machine.segLight id b s) := by
  unfold Machine.segLight
  dsimp only
  split
  · exact .bind fun _ => .ok (h.sl _)
  · exact .bind fun _ => .ok (h.sl _)
  · refine .bind fun _ => ?_
    split
    · exact .error _
    · exact .ok (h.sl _)
  · exact .bind fun _ => .ok (h.sl _)
  · exact .bind fun _ => .ok (h.sl _)
  · refine .bind fun _ => ?_
    split
    · exact .error _
    · exact .ok (h.sl _)
  · exact .error _

theorem State.InForm.segDst (h : s.InForm) (bs) : FormOk (Machine.segDst bs s) := .bind fun _ => .ok (h.sl _)

theorem State.InForm.execLightLevel (h : s.InForm) {src tlvs t} (e : Machine.execLightLevel src tlvs s = .next t) : t.InForm := h.execOp
    opLightLevel_keeps e

theorem State.InForm.execLightFade (h : s.InForm) {src tlvs t} (e : Machine.execLightFade src tlvs s = .next t) : t.InForm := h.execOp
    opLightFade_keeps e

theorem State.InForm.execLightLease (h : s.InForm) {src tlvs t} (e : Machine.execLightLease src tlvs s = .next t) : t.InForm := h.execOp
    opLightLease_keeps e

theorem State.InForm.execLightRead (h : s.InForm) {src tlvs t} (e : Machine.execLightRead src tlvs s = .next t) : t.InForm := h.execOp
    opLightRead_keeps e

theorem State.InForm.execLightEmergency (h : s.InForm) {src tlvs t} (e : Machine.execLightEmergency src tlvs s = .next t) : t.InForm :=
  h.execOp opLightEmergency_keeps e

theorem State.InForm.execLightLevelX (h : s.InForm) {src tlvs t} (e : Machine.execLightLevelX src tlvs s = .next t) : t.InForm :=
  h.execOp opLightLevelX_keeps e

theorem State.InForm.execStepTable (h : s.InForm) {src tlvs t} (e : Machine.execStepTable src tlvs s = .next t) : t.InForm := h.execOp
    opStepTable_keeps e

theorem State.InForm.execFactorSet (h : s.InForm) {src tlvs t} (e : Machine.execFactorSet src tlvs s = .next t) : t.InForm := h.execOp
    opFactorSet_keeps e

theorem State.InForm.execSlateWindow (h : s.InForm) {src tlvs t} (e : Machine.execSlateWindow src tlvs s = .next t) : t.InForm :=
  h.execOp opSlateWindow_keeps e

theorem State.InForm.execScheduleWrite (h : s.InForm) {src tlvs t} (e : Machine.execScheduleWrite src tlvs s = .next t) : t.InForm :=
  h.execOp opScheduleWrite_keeps e

theorem State.InForm.execScheduleWriteX (h : s.InForm) {src tlvs t} (e : Machine.execScheduleWriteX src tlvs s = .next t) : t.InForm :=
  h.execOp opScheduleWriteX_keeps e

theorem State.InForm.execScheduleRead (h : s.InForm) {src tlvs t} (e : Machine.execScheduleRead src tlvs s = .next t) : t.InForm :=
  h.execOp opScheduleRead_keeps e

theorem State.InForm.execSolarRead (h : s.InForm) {src tlvs t} (e : Machine.execSolarRead src tlvs s = .next t) : t.InForm := h.execOp
    opSolarRead_keeps e

/-! ### Machine/Quarry.lean: the fabric -/

theorem State.InForm.modDom (h : s.InForm) (k f) : (s.modDom k f).InForm := h.qrRest

theorem State.InForm.tenantDrop (h : s.InForm) (k) : (Machine.tenantDrop k s).InForm := by
  unfold Machine.tenantDrop
  dsimp only
  split
  · exact ((h.count ..).setFlag ..).modDom ..
  · exact .ite (((((h.count ..).setFlag ..).modDom ..).modDom ..).raise ..) (((h.count ..).setFlag ..).modDom ..)

theorem State.InForm.dropEvents (h : s.InForm) : (Machine.dropEvents s).InForm :=
  (h.fold (fun _ _ h => .ite ((h.modDom ..).raise ..) h)).fold (fun _ _ h => .ite (h.qrRest.owner ..) h)

theorem State.InForm.moduleDrop (h : s.InForm) (p) : (Machine.moduleDrop p s).InForm :=
  .ite (((h.count ..).setFlag ..).qrRest.owner ..) ((h.count ..).setFlag ..).qrRest

theorem State.InForm.unknownTag (h : s.InForm) : (Machine.unknownTag s).InForm := (h.count ..).setFlag ..

theorem State.InForm.retag (h : s.InForm) (p t) : (Machine.retag p t s).InForm := by
  unfold Machine.retag
  exact h.qrRest

theorem State.InForm.storeFrame (h : s.InForm) (v k inPort t f ports) : (Machine.storeFrame v k inPort t f ports s).InForm := by
  unfold Machine.storeFrame
  dsimp only
  refine .ite ?_ (.qrRest ?_)
  all_goals
    refine State.InForm.foldFst (fun p x h => ?_) _ h
    refine .iteFst ((h.count ..).setFlag ..) ?_
    split
    · exact h.tenantDrop _
    · exact h.qrRest.retag ..

theorem State.InForm.rawStamp (h : s.InForm) (v p egress t) : (Machine.rawStamp v p egress t s).InForm := .ite h h.ldsRest
theorem State.InForm.egressStamp (h : s.InForm) (v p t k) : (Machine.egressStamp v p t k s).InForm := .ite h (h.ldsRest.rawStamp ..)
theorem State.InForm.ingressStamp (h : s.InForm) (v p t k) : (Machine.ingressStamp v p t k s).InForm := .ite (h.rawStamp ..) h

theorem State.InForm.learn (h : s.InForm) (k mac port) : (Machine.learn k mac port s).InForm := by
  unfold Machine.learn
  split
  · exact h
  · exact .ite h (.ite (h.modDom ..) (.ite (((h.setFlag ..).modDom ..).raise ..) (h.setFlag ..)))

theorem State.InForm.tenantFrame (h : s.InForm) (port f t round full) : (Machine.tenantFrame port f t round full s).InForm := by
  unfold Machine.tenantFrame
  refine .ite (h.ldsRest.count ..) ?_
  dsimp only
  split
  · exact .ite h.ldsRest h.ldsRest.unknownTag
  · exact .ite (h.ldsRest.moduleDrop ..) h.ldsRest
  · exact .ite (h.ldsRest.moduleDrop ..) h.ldsRest.dropFragment
  · split
    · exact h.ldsRest
    · refine .ite (.ite h.ldsRest (h.ldsRest.fold (fun _ _ h => h.count ..))) ?_
      split
      · exact h.ldsRest.learn ..
      · exact ((h.ldsRest.learn ..).ingressStamp ..).storeFrame ..

theorem State.InForm.execTenantFrame (h : s.InForm) {port f x2 round full t} (e : Machine.execTenantFrame port f x2 round full s = .next t) :
    t.InForm :=
  h.next e fun _ h => h.guard (fun h => h.tenantFrame ..)

theorem State.InForm.serve (h : s.InForm) (p t v k) : (Machine.serve p t v k s).InForm := by
  unfold Machine.serve
  split
  · exact h
  · split
    · exact h
    · exact ((h.qrRest.fold (fun _ _ h => h.modPole ..)).fold (fun _ _ h => (h.egressStamp ..).send ..)).retag ..

theorem State.InForm.stallFrames (h : s.InForm) (p) : (Machine.stallFrames p s).InForm := by
  unfold Machine.stallFrames
  refine h.fold ?_
  intro _ _ h
  split
  · exact h.fold (fun _ _ h => h.noteStall ..)
  · exact h

theorem State.InForm.bankReads (h : s.InForm) (reader banks) : (Machine.bankReads reader banks s).InForm := h.qrRest
theorem State.InForm.serveCtl (h : s.InForm) (p t f tag) : (Machine.serveCtl p t f tag s).InForm := h.qrRest.send ..

theorem State.InForm.egress (h : s.InForm) (p t banks) : (Machine.egress p t banks s).InForm := by
  unfold Machine.egress
  split
  · exact (h.serveCtl ..).bankReads ..
  · split
    · exact (h.serve ..).bankReads ..
    · exact .ite (h.stallFrames ..) h

theorem State.InForm.execEgressServe (h : s.InForm) {port x1 banks t} (e : Machine.execEgressServe port x1 banks s = .next t) : t.InForm :=
  h.next e fun _ h => h.guard (fun h => h.egress ..)

theorem State.InForm.execMacAgeOut (h : s.InForm) {v vid mac t} (e : Machine.execMacAgeOut v vid mac s = .next t) : t.InForm := by
  refine h.next e ?_
  intro _ h
  split
  · exact h.guard (fun h => h.modDom ..)
  · exact h

theorem State.InForm.execUplinkLink (h : s.InForm) {u up t} (e : Machine.execUplinkLink u up s = .next t) : t.InForm :=
  h.next e fun _ h => h.guard (fun h => h.qrRest)

theorem State.InForm.programSlots (h : s.InForm) (hs) : (Machine.programSlots hs s).InForm := h.fold (fun _ _ h => h.send ..)

theorem State.InForm.dropMembers (h : s.InForm) (k eps uplinks) : (Machine.dropMembers k eps uplinks s).InForm := by
  unfold Machine.dropMembers
  split
  · exact h
  · exact h.qrRest.programSlots ..

theorem State.InForm.detachEps (h : s.InForm) (v hs) : (Machine.detachEps v hs s).InForm := h.fold (fun _ _ h => h.dropMembers ..)
theorem State.InForm.detachAll (h : s.InForm) (v) : (Machine.detachAll v s).InForm := h.fold (fun _ _ h => h.dropMembers ..)
theorem State.InForm.detachHandle (h : s.InForm) (h') : (Machine.detachHandle h' s).InForm := h.fold (fun _ _ h => h.dropMembers ..)

theorem opVlanAttach_keeps : opVlanAttach.Keeps := by
  intro c s h
  dsimp only [opVlanAttach]
  split
  · exact h
  · exact h.qrRest.programSlots ..

theorem opVlanDetach_keeps : opVlanDetach.Keeps := fun _ _ h => .ite (h.dropMembers ..) (h.dropMembers ..)
theorem State.InForm.modTcfg (h : s.InForm) (v f) : (s.modTcfg v f).InForm := h.qrRest
theorem opQueueSet_keeps : opQueueSet.Keeps := fun _ _ h => h.modTcfg ..
theorem opShaperSet_keeps : opShaperSet.Keeps := fun _ _ h => h.modTcfg ..

theorem State.InForm.segTraffic (h : s.InForm) (id b) : FormOk (Machine.segTraffic id b s) := by
  unfold Machine.segTraffic
  dsimp only
  split
  · exact .bind fun _ => .bind fun _ => .bind fun _ => .bind fun _ => .bind fun _ => .ok (h.qrRest.fold fun _ _ h => h.dropMembers ..)
  · exact .bind fun _ => .bind fun _ => .bind fun _ => .ok (h.setField ..)
  · exact .bind fun _ => .bind fun _ => .ok h.qrRest

theorem State.InForm.execVlanAttach (h : s.InForm) {src tlvs t} (e : Machine.execVlanAttach src tlvs s = .next t) : t.InForm := h.execOp
    opVlanAttach_keeps e

theorem State.InForm.execVlanDetach (h : s.InForm) {src tlvs t} (e : Machine.execVlanDetach src tlvs s = .next t) : t.InForm := h.execOp
    opVlanDetach_keeps e

theorem State.InForm.execShaperSet (h : s.InForm) {src tlvs t} (e : Machine.execShaperSet src tlvs s = .next t) : t.InForm := h.execOp
    opShaperSet_keeps e

theorem State.InForm.execQueueSet (h : s.InForm) {src tlvs t} (e : Machine.execQueueSet src tlvs s = .next t) : t.InForm := h.execOp
    opQueueSet_keeps e

/-! ### Machine/Dma.lean: the DMA engine -/

theorem State.InForm.modDch (h : s.InForm) (n f) : (s.modDch n f).InForm := h.qrRest

theorem State.InForm.dmaEvent (h : s.InForm) (n code tlvs) : (Machine.dmaEvent n code tlvs s).InForm := by
  unfold Machine.dmaEvent
  split
  · exact .ite (h.raise ..) h
  · exact h

theorem State.InForm.dmaResult (h : s.InForm) (o st tlvs) : (Machine.dmaResult o st tlvs s).InForm := .ite (h.result ..) h
theorem State.InForm.eccUncorrected (h : s.InForm) (a) : (Machine.eccUncorrected a s).InForm := ((h.count ..).setFlag ..).owner ..
theorem State.InForm.setHead (h : s.InForm) (n d) : (s.setHead n d).InForm := h.modDch ..

theorem State.InForm.moveByte (h : s.InForm) (n v i) : (Machine.moveByte n v i s).InForm := by
  unfold Machine.moveByte
  split
  · exact h
  · exact .ite h (.ite (.hbmWrite (.setHead (.ite (h.modDch ..) h) ..) ..) (.ite ((h.setHead ..).eccUncorrected ..) ((h.setHead ..).hbmWrite ..)))

theorem State.InForm.moveBytes (h : s.InForm) (n k) : (Machine.moveBytes n k s).InForm := by
  unfold Machine.moveBytes
  split
  · exact h.fold (fun _ _ h => h.moveByte ..)
  · exact h

theorem State.InForm.burst (h : s.InForm) (n) : (Machine.burst n s).InForm := by
  unfold Machine.burst
  split
  · exact (h.moveBytes ..).modDch ..
  · exact h

theorem State.InForm.kickCh (h : s.InForm) (k n) : (Machine.kickCh k n s).InForm := by
  induction k generalizing s with
  | zero => exact h
  | succ k ih => exact .ite (ih ((h.modDch ..).burst _)) h

theorem State.InForm.dmaKick (h : s.InForm) : (Machine.dmaKick s).InForm := h.fold (fun _ _ h => h.kickCh ..)

theorem State.InForm.pendReq (h : s.InForm) (n) : (Machine.pendReq n s).InForm :=
  .ite (h.modDch ..) (.ite (((h.modDch ..).qrRest.modDch ..).dmaEvent ..) (h.modDch ..).qrRest)

theorem State.InForm.dmaReq (h : s.InForm) (n line tch) : (Machine.dmaReq n line tch s).InForm := by
  unfold Machine.dmaReq
  dsimp only
  split
  · exact .ite (.ite (.ite (h.burst ..) (h.pendReq ..)) h) (.ite (h.pendReq ..) h)
  · exact .ite (h.pendReq ..) h

theorem State.InForm.execDmaRequest (h : s.InForm) {n line tch t} (e : Machine.execDmaRequest n line tch s = .next t) : t.InForm :=
  h.next e fun _ h => h.guard (fun h => h.dmaReq ..)

theorem State.InForm.crossing (h : s.InForm) (n) : (Machine.crossing n s).InForm := ((h.modDch ..).dmaEvent ..).dmaReq ..

theorem State.InForm.writeBlock (h : s.InForm) (n ws) : (Machine.writeBlock n ws s).InForm :=
  .ite (.ite (((h.modDch ..).modDch ..).dmaEvent ..) (h.modDch ..)) (.ite ((h.modDch ..).crossing ..) (h.modDch ..))

theorem State.InForm.execRawBlockWrite (h : s.InForm) {t} (e : Machine.execRawBlockWrite s = .next t) : t.InForm := by
  refine h.next e ?_
  intro _ h
  split
  · exact h
  · dsimp only
    split
    · exact h.qrRest.writeBlock ..
    · exact h.qrRest

theorem State.InForm.setLevel (h : s.InForm) (n v) : (Machine.setLevel n v s).InForm := h.modDch ..
theorem State.InForm.exportEvents (h : s.InForm) (v o off len) : (Machine.exportEvents v o off len s).InForm := h.fold (fun _ _ h => h.raise ..)
theorem State.InForm.popOp (h : s.InForm) (n) : (Machine.popOp n s).InForm := h.modDch ..

theorem State.InForm.completeOp (h : s.InForm) (n) : (Machine.completeOp n s).InForm := by
  unfold Machine.completeOp
  split
  · split
    · exact h
    · exact .ite h (.dmaKick (.dmaResult (.modDch (.popOp (.ite h (h.moveBytes ..)) ..) ..) ..))
    · dsimp only
      split
      · exact (((h.eccUncorrected ..).popOp ..).dmaResult ..).dmaKick
      · exact .dmaKick (.dmaResult (.popOp (.ite (h.exportEvents ..) h) ..) ..)
  · exact h

theorem State.InForm.execDmaDescriptorComplete (h : s.InForm) {n t} (e : Machine.execDmaDescriptorComplete n s = .next t) : t.InForm :=
  h.next e fun _ h => h.completeOp ..

theorem State.InForm.completeFence (h : s.InForm) (n) : (Machine.completeFence n s).InForm := by
  unfold Machine.completeFence
  split
  · split
    · exact (((h.popOp ..).modDch ..).dmaResult ..).dmaKick
    · exact h
  · exact h

theorem State.InForm.execDmaFenceComplete (h : s.InForm) {n t} (e : Machine.execDmaFenceComplete n s = .next t) : t.InForm :=
  h.next e fun _ h => h.completeFence ..

theorem State.InForm.pushOp (h : s.InForm) (n c k) : (Machine.pushOp n c k s).InForm := (h.modDch ..).dmaKick

theorem opDmaDescriptor_keeps : opDmaDescriptor.Keeps := by
  intro c s h
  dsimp only [opDmaDescriptor]
  cases descCheck c s with
  | error e => exact h
  | ok u =>
    cases roomCheck c.vctl c.descCh s with
    | error e => exact h
    | ok u =>
      cases s.dmaNo c.vctl c.descCh with
      | none => exact h
      | some n => exact .fst (h.pushOp ..)

theorem opDmaFence_keeps : opDmaFence.Keeps := by
  intro c s h
  dsimp only [opDmaFence]
  cases roomCheck c.vctl (c.nat 0x000D) s with
  | error e => exact h
  | ok u =>
    cases s.dmaNo c.vctl (c.nat 0x000D) with
    | none => exact h
    | some n => exact .fst ((h.modDch ..).pushOp ..)

theorem opExportBlock_keeps : opExportBlock.Keeps := by
  intro c s h
  dsimp only [opExportBlock]
  cases exportRange c s with
  | error e => exact h
  | ok u =>
    cases exportCheck c s with
    | error e => exact h
    | ok u =>
      cases s.dmaNo c.vctl 0 with
      | none => exact h
      | some n => exact .fst (h.pushOp ..)

theorem opWorkspaceInfo_keeps : opWorkspaceInfo.Keeps := fun _ _ h => h

theorem State.InForm.execExportBlock (h : s.InForm) {src tlvs t} (e : Machine.execExportBlock src tlvs s = .next t) : t.InForm :=
  h.execOp opExportBlock_keeps e

theorem State.InForm.execWorkspaceInfo (h : s.InForm) {src tlvs t} (e : Machine.execWorkspaceInfo src tlvs s = .next t) : t.InForm :=
  h.execOp opWorkspaceInfo_keeps e

theorem State.InForm.execDmaDescriptor (h : s.InForm) {src tlvs t} (e : Machine.execDmaDescriptor src tlvs s = .next t) : t.InForm :=
  h.execOp opDmaDescriptor_keeps e

theorem State.InForm.execDmaFence (h : s.InForm) {src tlvs t} (e : Machine.execDmaFence src tlvs s = .next t) : t.InForm := h.execOp
    opDmaFence_keeps e

/-! ### Machine/Lamps.lean: groups and lamp checks -/

theorem State.InForm.modChan (h : s.InForm) (h' f) : (s.modChan h' f).InForm := h.lm ..
theorem State.InForm.raiseAon (h : s.InForm) (v code mk) : (Machine.raiseAon v code mk s).InForm := .owner (.ite h (h.raise ..)) ..

theorem State.InForm.latch (h : s.InForm) (v g h') : (Machine.latch v g h' s).InForm := by
  unfold Machine.latch
  split
  · exact h
  · exact .ite h (((h.lm ..).setFlag ..).raiseAon ..)

theorem State.InForm.syncFail (h : s.InForm) (v h') : (Machine.syncFail v s h').InForm := by
  unfold Machine.syncFail
  split
  · exact .ite h (h.setSrc ..)
  · exact h.endSrcs ..

theorem State.InForm.installFails (h : s.InForm) : (Machine.installFails s).InForm := h.fold (fun _ _ h => (h.lm ..).fold (fun _ _ h => h.syncFail
    ..))

theorem State.InForm.latchIfDue (h : s.InForm) (v g) : (Machine.latchIfDue v g s).InForm := by
  unfold Machine.latchIfDue
  split
  · exact h
  · split
    · exact h.latch ..
    · exact h

theorem State.InForm.unlatch (h : s.InForm) (v g code) : (Machine.unlatch v g code s).InForm := by
  unfold Machine.unlatch
  split
  · exact h
  · exact .ite h ((((h.lm ..).fold (fun _ _ h => h.syncFail ..)).setFlag ..).raiseAon ..)

theorem State.InForm.unflag (h : s.InForm) (v g code) : (Machine.unflag v g code s).InForm := by
  unfold Machine.unflag
  exact (h.unlatch ..).lm ..

theorem State.InForm.aonLeft (h : s.InForm) (v g h') : (Machine.aonLeft v g h' s).InForm :=
  .ite h (.ite (((h.syncFail ..).raise ..).unflag ..) ((h.syncFail ..).raise ..))

theorem opAonDefine_keeps : opAonDefine.Keeps := by
  intro c s h
  dsimp only [opAonDefine]
  split
  · exact h
  · exact .iteFst (h.unflag ..) (((h.lm ..).fold (fun _ _ h => h.syncFail ..)).latchIfDue ..)

theorem opAonClear_keeps : opAonClear.Keeps := fun _ _ h => .iteFst ((h.unlatch ..).fold (fun _ _ h => h.modChan ..)) h

theorem opGroupDefine_keeps : opGroupDefine.Keeps := by
  intro c s h
  dsimp only [opGroupDefine]
  split
  · exact h
  · exact .fst (h.sl ..)

theorem State.InForm.modGroup (h : s.InForm) (v g f) : (s.modGroup v g f).InForm := h.sl ..
theorem State.InForm.leaveGroup (h : s.InForm) (v h' g) : (Machine.leaveGroup v h' s g).InForm := .ite ((h.modGroup ..).aonLeft ..) h

theorem State.InForm.joinGroup (h : s.InForm) (v g h' primary) : (Machine.joinGroup v g h' primary s).1.InForm :=
  .iteFst h (.ite (.syncFail (.ite (((h.fold (fun _ _ h => h.leaveGroup ..)).modGroup ..).latch ..) ((h.fold (fun _ _ h => h.leaveGroup
      ..)).modGroup ..)) ..) (.ite (((h.fold (fun _ _ h => h.leaveGroup ..)).modGroup ..).latch ..) ((h.fold (fun _ _ h => h.leaveGroup
      ..)).modGroup ..)))

theorem opGroupMembers_keeps : opGroupMembers.Keeps := by
  intro c s h
  dsimp only [opGroupMembers]
  refine .iteFst h ?_
  exact State.InForm.foldFst (fun _ _ h => .iteFst (.fst (h.leaveGroup ..)) (.fst (h.joinGroup ..))) _ h

theorem State.InForm.keepSample (h : s.InForm) (g p frame8 r) : (Machine.keepSample g p frame8 r s).InForm :=
  .ite (h.modChan ..) ((h.modChan ..).modDerate ..)

theorem State.InForm.keepSamples (h : s.InForm) (g p frame8 l seen) : (Machine.keepSamples g p frame8 l seen s).InForm := by
  induction l generalizing s seen with
  | nil => exact h
  | cons r rs ih => exact .ite (ih (h.setFlag ..) _) (ih (h.keepSample ..) _)

theorem State.InForm.execLampSamples (h : s.InForm) {str pos hdr frame8 recs t} (e : Machine.execLampSamples str pos hdr frame8 recs s = .next t) :
    t.InForm :=
  h.next e fun _ h => h.onMsl _ _ _ (fun _ h => .ite h (.ite ((h.count ..).setFlag ..) (h.keepSamples ..)))

theorem State.InForm.classChanged (h : s.InForm) (h' cls k) : (Machine.classChanged h' cls k s).InForm :=
  .ite (.raiseEp (.ite (((h.modChan ..).count ..).setFlag ..) (.ite (((h.modChan ..).count ..).setFlag ..) ((h.modChan ..).count ..))) ..) (.fold
      (.raiseEp (.ite (((h.modChan ..).count ..).setFlag ..) (.ite (((h.modChan ..).count ..).setFlag ..) ((h.modChan ..).count ..))) ..) (fun _ _ h
      => .ite (h.latch ..) h))

theorem State.InForm.classifyOne (h : s.InForm) (h') : (Machine.classifyOne s h').InForm := by
  unfold Machine.classifyOne
  dsimp only
  split
  · exact .modChan (.ite (h.modChan ..) h) ..
  · exact .ite (.modChan (.count (.modChan (.ite (h.modChan ..) h) ..) ..) ..) (.ite (.modChan (.modChan (.ite (h.modChan ..) h) ..) ..)
      (.classChanged (.modChan (.modChan (.ite (h.modChan ..) h) ..) ..) ..))

theorem State.InForm.lampRegs (h : s.InForm) (g) : (Machine.lampRegs s g).InForm := (h.setReg ..).setField ..
theorem State.InForm.aonRegs (h : s.InForm) : (Machine.aonRegs s).InForm := h.fold (fun _ _ h => (h.setReg ..).setReg ..)

theorem State.InForm.openWindow (h : s.InForm) (h' w) : (Machine.openWindow h' w s).InForm := by
  unfold Machine.openWindow
  split
  · exact h
  · exact h.fold (fun _ _ h => h.modChan ..)

theorem State.InForm.takeTele (h : s.InForm) (hs) : (Machine.takeTele hs s).InForm := h.fold (fun _ _ h => h.modChan ..)

theorem State.InForm.execLampClassify (h : s.InForm) {t} (e : Machine.execLampClassify s = .next t) : t.InForm :=
  h.next e fun _ h => h.guard (fun h => ((h.fold (fun _ _ h => (h.fold (fun _ _ h => h.classifyOne ..)).lampRegs ..)).aonRegs.takeTele ..).lm ..)

theorem opTelemetryRead_keeps : opTelemetryRead.Keeps := fun _ _ h => h

theorem opTelemetryStream_keeps : opTelemetryStream.Keeps := by
  intro c s h
  dsimp only [opTelemetryStream]
  split
  · exact h
  · exact .fst (h.lm ..)

theorem State.InForm.streamEvents (h : s.InForm) : (Machine.streamEvents s).InForm := h.fold (fun _ _ h => .ite h (h.fold (fun _ _ h => h.raise ..)))

theorem State.InForm.segLamp (h : s.InForm) (id b occ) : FormOk (Machine.segLamp id b occ s) := by
  unfold Machine.segLamp
  dsimp only
  split
  · split
    · exact .error _
    · exact .ok (h.lm _)
  · refine .bind fun _ => ?_
    split
    · exact .error _
    · exact .ok (h.lm _)

theorem State.InForm.execGroupDefine (h : s.InForm) {src tlvs t} (e : Machine.execGroupDefine src tlvs s = .next t) : t.InForm :=
  h.execOp opGroupDefine_keeps e

theorem State.InForm.execGroupMembers (h : s.InForm) {src tlvs t} (e : Machine.execGroupMembers src tlvs s = .next t) : t.InForm :=
  h.execOp opGroupMembers_keeps e

theorem State.InForm.execAonDefine (h : s.InForm) {src tlvs t} (e : Machine.execAonDefine src tlvs s = .next t) : t.InForm := h.execOp
    opAonDefine_keeps e

theorem State.InForm.execAonClear (h : s.InForm) {src tlvs t} (e : Machine.execAonClear src tlvs s = .next t) : t.InForm := h.execOp
    opAonClear_keeps e

theorem State.InForm.execTelemetryRead (h : s.InForm) {src tlvs t} (e : Machine.execTelemetryRead src tlvs s = .next t) : t.InForm :=
  h.execOp opTelemetryRead_keeps e

theorem State.InForm.execTelemetryStream (h : s.InForm) {src tlvs t} (e : Machine.execTelemetryStream src tlvs s = .next t) : t.InForm :=
  h.execOp opTelemetryStream_keeps e

end Sys2Proof.Machine
end

section
/-!
SUPPORT. The air unit, attribution, the Geode and its link, and Flint keep the form of the state.
-/
namespace Sys2Proof.Machine

set_option Elab.async false
variable {s : State}

/-! ### Machine/View.lean: what a vCtl sees -/

theorem State.InForm.changeView (h : s.InForm) (v gone new) : (Machine.changeView v gone new s).InForm := by
  unfold Machine.changeView
  split
  · exact h
  · exact .ite h ((h.modVctl ..).raise ..)

theorem State.InForm.loseRights (h : s.InForm) (v h' old new) : (Machine.loseRights v h' old new s).InForm :=
  .ite (.detachEps (.ite (.lm (.ite (.fold (.modVctl (.ite (h.endLease ..) h) ..) (fun _ _ h => h.aonLeft ..)) (.modVctl (.ite (h.endLease ..) h)
      ..)) ..) (.ite (.fold (.modVctl (.ite (h.endLease ..) h) ..) (fun _ _ h => h.aonLeft ..)) (.modVctl (.ite (h.endLease ..) h) ..))) ..) (.ite
      (.lm (.ite (.fold (.modVctl (.ite (h.endLease ..) h) ..) (fun _ _ h => h.aonLeft ..)) (.modVctl (.ite (h.endLease ..) h) ..)) ..) (.ite (.fold
      (.modVctl (.ite (h.endLease ..) h) ..) (fun _ _ h => h.aonLeft ..)) (.modVctl (.ite (h.endLease ..) h) ..)))

theorem State.InForm.setEpRights (h : s.InForm) (v hs mk) : (Machine.setEpRights v hs mk s).InForm := (h.fold (fun _ _ h => h.loseRights
    ..)).changeView ..

theorem State.InForm.forgetHandle (h : s.InForm) (h') : (Machine.forgetHandle h' s).InForm := by
  unfold Machine.forgetHandle
  exact ((((h.endLease ..).fold (fun _ _ h => .ite h (h.setEpRights ..))).detachHandle ..).endSrcs ..).lm ..

/-! ### Machine/Air.lean: the air unit -/

theorem State.InForm.modAir (h : s.InForm) (n f) : (s.modAir n f).InForm := h.ar ..
theorem State.InForm.modAport (h : s.InForm) (p f) : (s.modAport p f).InForm := h.ar ..
theorem State.InForm.recordTx (h : s.InForm) (x) : (Machine.recordTx x s).InForm := h.ar ..
theorem State.InForm.airQueue (h : s.InForm) (e) : (Machine.airQueue e s).InForm := h.ar ..
theorem State.InForm.modTx (h : s.InForm) (id f) : (s.modTx id f).InForm := h.ar ..
theorem State.InForm.dropTx (h : s.InForm) (id) : (s.dropTx id).InForm := h.ar ..

theorem State.InForm.airResult (h : s.InForm) (e st tlvs) : (Machine.airResult e st tlvs s).InForm := by
  unfold Machine.airResult
  split
  · exact .ite (h.result ..) h
  · exact h

theorem State.InForm.queueLight (h : s.InForm) (h' code act payer) : (Machine.queueLight h' code act payer s).InForm := by
  unfold Machine.queueLight
  split
  · exact h.modTx ..
  · exact h.airQueue ..

theorem State.InForm.airLightQueue (h : s.InForm) : (Machine.airLightQueue s).InForm := h.fold (fun _ _ h => .ite h (h.queueLight ..))

theorem State.InForm.airUrgent (h : s.InForm) (hs) : (Machine.airUrgent hs s).InForm := by
  unfold Machine.airUrgent
  refine h.fold ?_
  intro _ _ h
  split
  · exact .ite (h.airQueue ..) h
  · exact h

theorem State.InForm.execAirLightRefresh (h : s.InForm) {n t} (e : Machine.execAirLightRefresh n s = .next t) : t.InForm := by
  refine h.next e ?_
  intro _ h
  split
  · exact h.guard (fun h => h.queueLight ..)
  · exact h

theorem State.InForm.airSend (h : s.InForm) (p ch psdu) : (s.airSend p ch psdu).InForm := h.send ..

theorem State.InForm.dwellWait (h : s.InForm) (e ch) : (Machine.dwellWait e ch s).InForm := by
  unfold Machine.dwellWait
  dsimp only
  split
  · exact .ite (.raise (.ar (.ite (h.setFlag ..) h) ..) ..) (.ite (h.setFlag ..) h)
  · exact .ite (h.setFlag ..) h

theorem State.InForm.startTx (h : s.InForm) (e p ch d t) : (Machine.startTx e p ch d t s).InForm := by
  unfold Machine.startTx
  dsimp only
  split
  · exact (((h.ar ..).recordTx ..).modTx ..).airSend ..
  · split
    · exact ((h.ar ..).recordTx ..).modTx ..
    · exact ((((h.ar ..).recordTx ..).modTx ..).modAir ..).airSend ..
  · exact ((h.ar ..).recordTx ..).modTx ..

theorem State.InForm.tryStart (h : s.InForm) (t l) : (Machine.tryStart t l s).InForm := by
  induction l generalizing s with
  | nil => exact h
  | cons e r ih =>
    unfold Machine.tryStart
    split
    · exact ih h
    · exact .ite (h.startTx ..) (ih (h.dwellWait ..))

theorem State.InForm.execAirTxStart (h : s.InForm) {x0 t} (e : Machine.execAirTxStart x0 s = .next t) : t.InForm :=
  h.next e fun _ h => h.guard (fun h => h.tryStart ..)

theorem State.InForm.sentTx (h : s.InForm) (e) : (Machine.sentTx e s).InForm := by
  unfold Machine.sentTx
  dsimp only
  split
  · exact (h.dropTx ..).airResult ..
  · exact h.dropTx ..
  · exact .ite (h.modTx ..) (h.dropTx ..)
  · exact h.modTx ..
  · exact .ite (h.modTx ..) ((h.dropTx ..).airResult ..)

theorem State.InForm.execAirTxEnd (h : s.InForm) {port x1 vswr t} (e : Machine.execAirTxEnd port x1 vswr s = .next t) : t.InForm := by
  refine h.next e ?_
  intro _ h
  split
  · exact h
  · refine .ite (.owner (.modAport ?_ ..) ..) ?_
    · split
      · exact ((h.ar ..).modAport ..).sentTx ..
      · exact (h.ar ..).modAport ..
    · split
      · exact ((h.ar ..).modAport ..).sentTx ..
      · exact (h.ar ..).modAport ..

theorem State.InForm.retryTx (h : s.InForm) (e) : (Machine.retryTx e s).InForm := by
  unfold Machine.retryTx
  refine .ite h (.ite (h.modTx ..) ?_)
  split
  · exact h.modTx ..
  · exact h.dropTx ..
  · exact (h.dropTx ..).airResult ..

theorem State.InForm.execAirRetry (h : s.InForm) {id t} (e : Machine.execAirRetry id s = .next t) : t.InForm := by
  refine h.next e ?_
  intro _ h
  split
  · exact h.guard (fun h => h.retryTx ..)
  · exact h

theorem State.InForm.execAirRegRespTimeout (h : s.InForm) {id t} (e : Machine.execAirRegRespTimeout id s = .next t) : t.InForm := by
  refine h.next e ?_
  intro _ h
  split
  · exact h.guard (fun h => (h.dropTx ..).airResult ..)
  · exact h

theorem State.InForm.execAirHoldExpiry (h : s.InForm) {id t} (e : Machine.execAirHoldExpiry id s = .next t) : t.InForm := by
  refine h.next e ?_
  intro _ h
  split
  · exact h.guard (fun h => (h.dropTx ..).airResult ..)
  · exact h

theorem State.InForm.execAirRawTxExpiry (h : s.InForm) {id t} (e : Machine.execAirRawTxExpiry id s = .next t) : t.InForm := by
  refine h.next e ?_
  intro _ h
  split
  · exact h.guard (fun h => (h.dropTx ..).airResult ..)
  · exact h

theorem State.InForm.badPhy (h : s.InForm) : (Machine.badPhy s).InForm := h.count ..
theorem State.InForm.badAddr (h : s.InForm) : (Machine.badAddr s).InForm := h.count ..
theorem State.InForm.badApp (h : s.InForm) : (Machine.badApp s).InForm := h.count ..
theorem State.InForm.badAuth (h : s.InForm) : (Machine.badAuth s).InForm := h.count ..
theorem State.InForm.badDup (h : s.InForm) : (Machine.badDup s).InForm := h.count ..

theorem State.InForm.liveCopies (h : s.InForm) (r) : (Machine.liveCopies r s).1.InForm := by
  refine State.InForm.foldFst (fun p c h => ?_) _ h
  exact .iteFst (.fst (h.modAport ..)) (.iteFst (.fst ((h.modAport ..).setFlag ..)) (.iteFst h h))

theorem State.InForm.allocAck (h : s.InForm) (r cs) : (Machine.allocAck r cs s).InForm := by
  unfold Machine.allocAck
  split
  · exact (h.count ..).setFlag ..
  · exact .ite (h.ar ..) ((h.count ..).setFlag ..)

theorem State.InForm.execAirAckTx (h : s.InForm) {x0 t} (e : Machine.execAirAckTx x0 s = .next t) : t.InForm := by
  refine h.next e ?_
  intro _ h
  split
  · exact h
  · exact ((h.ar ..).recordTx ..).airSend ..

theorem State.InForm.airEvent (h : s.InForm) (h' code tlvs) : (Machine.airEvent h' code tlvs s).InForm := h.raiseEp ..

theorem State.InForm.takeAck (h : s.InForm) (origin msgid) : (Machine.takeAck origin msgid s).InForm := by
  unfold Machine.takeAck
  refine .ite h ?_
  split
  · exact h
  · split
    · exact h.modTx ..
    · exact h.dropTx ..
    · exact (h.dropTx ..).airResult ..

theorem State.InForm.takeApp (h : s.InForm) (h' x) : (Machine.takeApp h' x s).InForm := by
  unfold Machine.takeApp
  split
  · exact h.airEvent ..
  · exact h.airEvent ..
  · split
    · exact h
    · exact .ite ((h.dropTx ..).airResult ..) ((h.dropTx ..).airResult ..)
  · exact h.badApp

theorem State.InForm.joinedEvent (h : s.InForm) (h' e) : (Machine.joinedEvent h' e s).InForm := .ite h ((h.modAir ..).raiseEp ..)

theorem State.InForm.takeData (h : s.InForm) (r cs) : (Machine.takeData r cs s).1.InForm := by
  unfold Machine.takeData
  dsimp only
  split
  · exact h.badAuth
  next e _ =>
    have h1 (f) : (Machine.joinedEvent r.origin e (s.modAir (hAir r.origin) f)).InForm := (h.modAir ..).joinedEvent ..
    exact .iteFst h.badAuth (.iteFst (.badDup (.ite (h.modAir ..) h)) (.takeApp (.ite ((h1 _).ar _) (h1 _)) ..))

theorem State.InForm.takeJoin (h : s.InForm) (r cs) : (Machine.takeJoin r cs s).1.InForm := by
  unfold Machine.takeJoin
  split
  · exact h.badAuth
  · exact .iteFst h.badAuth (.iteFst h (.fst ((h.fresh.modAir ..).ar _)))

theorem State.InForm.capture (h : s.InForm) (r cs auth) : (Machine.capture r cs auth s).InForm := h.fold (fun _ _ h => .ite h.qrRest h)

theorem State.InForm.receive (h : s.InForm) (r cs) : (Machine.receive r cs s).1.InForm :=
  .iteFst h.badPhy (.iteFst (h.fold (fun _ _ h => h.modAport ..)).badPhy (.iteFst (h.fold (fun _ _ h => h.modAport ..)) (.iteFst (.takeAck (.ite
      ((h.fold (fun _ _ h => h.modAport ..)).ar ..) (h.fold (fun _ _ h => h.modAport ..))) ..) (.iteFst (.badAddr (.ite ((h.fold (fun _ _ h =>
      h.modAport ..)).ar ..) (h.fold (fun _ _ h => h.modAport ..)))) (.iteFst (.iteFst (.ite ((h.fold (fun _ _ h => h.modAport ..)).ar ..) (h.fold
      (fun _ _ h => h.modAport ..))) (.takeData (.ite (.allocAck (.ite ((h.fold (fun _ _ h => h.modAport ..)).ar ..) (h.fold (fun _ _ h =>
      h.modAport ..))) ..) (.ite ((h.fold (fun _ _ h => h.modAport ..)).ar ..) (h.fold (fun _ _ h => h.modAport ..)))) ..)) (.iteFst (.iteFst
      (.takeJoin (.ite ((h.fold (fun _ _ h => h.modAport ..)).ar ..) (h.fold (fun _ _ h => h.modAport ..))) ..) (.badAuth (.ite ((h.fold (fun _ _ h
      => h.modAport ..)).ar ..) (h.fold (fun _ _ h => h.modAport ..))))) (.ite ((h.fold (fun _ _ h => h.modAport ..)).ar ..) (h.fold (fun _ _ h =>
      h.modAport ..)))))))))

theorem State.InForm.execAirFrameRx (h : s.InForm) {r t} (e : Machine.execAirFrameRx r s = .next t) : t.InForm :=
  h.next e fun _ h => h.guard (fun h => .ite (h.liveCopies ..) ((((h.liveCopies ..).ar ..).receive ..).capture ..))

theorem State.InForm.execJoinAcceptTx (h : s.InForm) {x0 t} (e : Machine.execJoinAcceptTx x0 s = .next t) : t.InForm := by
  refine h.next e ?_
  intro _ h
  dsimp only
  split
  · exact h.ar ..
  · split
    · exact (h.ar ..).ar ..
    · split
      · exact h.ar ..
      · exact .ite (h.ar ..) ((((h.ar ..).ar ..).recordTx ..).airSend ..)

theorem State.InForm.execAirSilent (h : s.InForm) {n t} (e : Machine.execAirSilent n s = .next t) : t.InForm := by
  refine h.next e ?_
  intro _ h
  split
  · exact h.guard (fun h => (h.modAir ..).airEvent ..)
  · exact h

theorem State.InForm.execAirRejoinDue (h : s.InForm) {n down t} (e : Machine.execAirRejoinDue n down s = .next t) : t.InForm := by
  refine h.next e ?_
  intro _ h
  split
  · exact h
  · exact h.guard (fun h => .owner (.ite ((h.modAir ..).airQueue ..) (h.modAir ..)) ..)

theorem opAirEnrol_keeps : opAirEnrol.Keeps := by
  intro c s h
  dsimp only [opAirEnrol]
  split
  · exact h
  · exact .iteFst ((h.ar ..).defaultPreset ..) ((((h.ar ..).defaultPreset ..).setEpRights ..).acquireLease ..)

theorem State.InForm.airRemove (h : s.InForm) (n) : (Machine.airRemove n s).InForm := by
  unfold Machine.airRemove
  exact ((h.forgetHandle ..).keepEntries ..).ar ..

theorem opAirRemove_keeps : opAirRemove.Keeps := by
  intro c s h
  dsimp only [opAirRemove]
  split
  · exact .iteFst (h.airRemove ..) h
  · exact h

theorem opAirSend_keeps : opAirSend.Keeps := by
  intro c s h
  dsimp only [opAirSend]
  split
  · exact h
  · exact h.airQueue ..

theorem opAirRawTx_keeps : opAirRawTx.Keeps := by
  intro c s h
  dsimp only [opAirRawTx]
  split
  · exact h
  · exact .iteFst h (h.airQueue ..)

theorem State.InForm.enablePort (h : s.InForm) (p) : (Machine.enablePort p s).InForm := h.modAport ..

theorem State.InForm.applyPort (h : s.InForm) (b) : (Machine.applyPort b s).InForm := .ite ((h.modAport ..).enablePort ..) ((h.modAport ..).modAport
    ..)

theorem opChannelPlan_keeps : opChannelPlan.Keeps := by
  intro c s h
  dsimp only [opChannelPlan]
  split
  · exact h
  · exact (h.ar ..).fold (fun _ _ h => h.applyPort ..)

theorem opAirRawCapture_keeps : opAirRawCapture.Keeps := fun _ _ h => .iteFst (.fst (h.ar ..)) (.iteFst h (.fst (h.ar ..)))
theorem opVemerSet_keeps : opVemerSet.Keeps := fun _ _ h => .fst (h.ar ..)
theorem State.InForm.writeTxEn (h : s.InForm) (p v) : (Machine.writeTxEn p v s).InForm := .ite (h.enablePort ..) (h.modAport ..)

theorem State.InForm.execAirPortTxEnWrite (h : s.InForm) {port v t} (e : Machine.execAirPortTxEnWrite port v s = .next t) : t.InForm :=
  h.next e fun _ h => h.guard (fun h => h.writeTxEn ..)

theorem State.InForm.execAirEnrol (h : s.InForm) {src tlvs t} (e : Machine.execAirEnrol src tlvs s = .next t) : t.InForm := h.execOp
    opAirEnrol_keeps e

theorem State.InForm.execAirSend (h : s.InForm) {src tlvs t} (e : Machine.execAirSend src tlvs s = .next t) : t.InForm := h.execOp opAirSend_keeps e

theorem State.InForm.execAirRemove (h : s.InForm) {src tlvs t} (e : Machine.execAirRemove src tlvs s = .next t) : t.InForm := h.execOp
    opAirRemove_keeps e

theorem State.InForm.execAirRawTx (h : s.InForm) {src tlvs t} (e : Machine.execAirRawTx src tlvs s = .next t) : t.InForm := h.execOp
    opAirRawTx_keeps e

theorem State.InForm.execChannelPlan (h : s.InForm) {src tlvs t} (e : Machine.execChannelPlan src tlvs s = .next t) : t.InForm :=
  h.execOp opChannelPlan_keeps e

theorem State.InForm.execAirRawCapture (h : s.InForm) {src tlvs t} (e : Machine.execAirRawCapture src tlvs s = .next t) : t.InForm :=
  h.execOp opAirRawCapture_keeps e

theorem State.InForm.execVemerSet (h : s.InForm) {src tlvs t} (e : Machine.execVemerSet src tlvs s = .next t) : t.InForm := h.execOp
    opVemerSet_keeps e

/-! ### Machine/Attrib.lean: attribution -/

theorem State.InForm.segSeed (h : s.InForm) (b) : FormOk (Machine.segSeed b s) := .bind fun _ => .bind fun _ => .bind fun _ => .ok (h.at' _)
theorem State.InForm.segPeriod (h : s.InForm) (b) : FormOk (Machine.segPeriod b s) := .bind fun _ => .bind fun _ => .ok (h.at' _)

theorem State.InForm.periodAt (h : s.InForm) (f) : (Machine.periodAt f s).InForm := by
  unfold Machine.periodAt
  split
  · exact h.at' ..
  · exact .ite h (h.at' ..)

theorem State.InForm.missingRecord (h : s.InForm) (f) : (Machine.missingRecord f s).InForm := .ite (h.at' ..) h

theorem State.InForm.periodClose (h : s.InForm) (p) : (Machine.periodClose p s).InForm := by
  unfold Machine.periodClose
  exact .at' (.owner (.fold (.ite ((h.at' ..).setFlag ..) (h.at' ..)) (fun _ _ h => .ite (h.raise ..) h)) ..) ..

theorem State.InForm.execPeriodClose (h : s.InForm) {t} (e : Machine.execPeriodClose s = .next t) : t.InForm := by
  refine h.next e ?_
  intro _ h
  split
  · exact h.guard (fun h => h.periodClose ..)
  · exact h

theorem State.InForm.bookOne (h : s.InForm) (f h' k code) : (Machine.bookOne f h' k code s).InForm := by
  unfold Machine.bookOne
  exact h.at' ..

theorem State.InForm.attribBook (h : s.InForm) (f code late) : (Machine.attribBook f code late s).InForm := by
  unfold Machine.attribBook
  refine .ite h ((h.periodAt ..).fold ?_)
  intro _ _ h
  split
  · exact h
  · exact h.fold (fun _ _ h => h.bookOne ..)

theorem State.InForm.attribFit (h : s.InForm) (m room) : (Machine.attribFit m room s).InForm := .ite h (.ite (h.put.setFlag ..) h.put)

theorem State.InForm.ditherReturn (h : s.InForm) (f) : (Machine.ditherReturn f s).InForm :=
  h.fold (fun _ _ h => .ite (h.at' ..) (.ite (.ite ((h.at' ..).setBack ..) ((h.at' ..).setFlag ..)) ((h.at' ..).setFlag ..)))

theorem State.InForm.trackCodes (h : s.InForm) (f) : (Machine.trackCodes f s).InForm := h.fold (fun _ _ h => h.at' ..)

theorem State.InForm.ditherStep (h : s.InForm) (f) : (Machine.ditherStep f s).InForm := by
  unfold Machine.ditherStep
  refine .ite ((h.ditherReturn ..).trackCodes ..) (((h.ditherReturn ..).trackCodes ..).fold ?_)
  intro _ _ h
  split
  · exact h
  · exact (h.setBack ..).at' ..

theorem State.InForm.attribRegs (h : s.InForm) : (Machine.attribRegs s).InForm := .ite h ((((h.setReg ..).setReg ..).setReg ..).setReg ..)

theorem opAttribRead_keeps : opAttribRead.Keeps := by
  intro c s h
  dsimp only [opAttribRead]
  split
  · exact .iteFst h h
  · exact .iteFst h h
  · exact h

theorem opAttribModel_keeps : opAttribModel.Keeps := fun _ _ h => h
theorem opProbeDither_keeps : opProbeDither.Keeps := fun _ _ h => .fst (h.at' ..)

theorem State.InForm.execAttribRead (h : s.InForm) {src tlvs t} (e : Machine.execAttribRead src tlvs s = .next t) : t.InForm := h.execOp
    opAttribRead_keeps e

theorem State.InForm.execAttribModel (h : s.InForm) {src tlvs t} (e : Machine.execAttribModel src tlvs s = .next t) : t.InForm :=
  h.execOp opAttribModel_keeps e

theorem State.InForm.execProbeDither (h : s.InForm) {src tlvs t} (e : Machine.execProbeDither src tlvs s = .next t) : t.InForm :=
  h.execOp opProbeDither_keeps e

/-! ### Machine/Farewell.lean: the farewell -/

theorem State.InForm.farewellString (h : s.InForm) (g) : (Machine.farewellString g s).InForm := h.fold (fun _ _ h => .ite (h.wirePole ..) h)
theorem State.InForm.farewell (h : s.InForm) : (Machine.farewell s).InForm := .ite (h.fold (fun _ _ h => .ite (h.farewellString ..) h)) h

/-! ### Machine/Geode.lean: the Geode side -/

theorem State.InForm.execGeodeEdgesMissing (h : s.InForm) {t} (e : Machine.execGeodeEdgesMissing s = .next t) : t.InForm :=
  h.next e fun _ h => h.guard (fun h => h.geo' ..)

theorem State.InForm.execGeodeTime (h : s.InForm) {frame ok t} (e : Machine.execGeodeTime frame ok s = .next t) : t.InForm :=
  h.next e fun _ h => h.guard (fun h => h.geo' ..)

theorem State.InForm.execCycleEnd (h : s.InForm) {phase cross t} (e : Machine.execCycleEnd phase cross s = .next t) : t.InForm := by
  refine h.next e ?_
  intro _ h
  refine h.guard ?_
  intro h
  split
  · exact h.guard (fun h => h.geo' ..)
  · exact h.geo' ..

theorem State.InForm.execGeodeNoCrossing (h : s.InForm) {phase t} (e : Machine.execGeodeNoCrossing phase s = .next t) : t.InForm :=
  h.next e fun _ h => h.guard (fun h => h.geo' ..)

theorem State.InForm.execInrushHint (h : s.InForm) {c a ok t} (e : Machine.execInrushHint c a ok s = .next t) : t.InForm :=
  h.next e fun _ h => h.guard (fun h => h.geo' ..)

theorem State.InForm.execInrushMaskClose (h : s.InForm) {c t} (e : Machine.execInrushMaskClose c s = .next t) : t.InForm := by
  refine h.next e ?_
  intro _ h
  split
  · exact h.guard (fun h => h.geo' ..)
  · exact h

theorem State.InForm.execPulseInputChange (h : s.InForm) {q high x2 t} (e : Machine.execPulseInputChange q high x2 s = .next t) : t.InForm :=
  h.next e fun _ h => h.guard (fun h => h.geo' ..)

theorem State.InForm.execPulseStuck (h : s.InForm) {q t} (e : Machine.execPulseStuck q s = .next t) : t.InForm := by
  refine h.next e ?_
  intro _ h
  split
  · exact h.guard (fun h => h.geo' ..)
  · exact h

theorem State.InForm.execGeodeSnapshotMsg (h : s.InForm) {x0 src ok t} (e : Machine.execGeodeSnapshotMsg x0 src ok s = .next t) : t.InForm :=
  h.next e fun _ h => h.guard (fun h => h.geo' ..)

theorem State.InForm.execSnapshotLatch (h : s.InForm) {t} (e : Machine.execSnapshotLatch s = .next t) : t.InForm :=
  h.next e fun _ h => h.guard (fun h => h.geo' ..)

theorem State.InForm.execProfileClose (h : s.InForm) {x0 t} (e : Machine.execProfileClose x0 s = .next t) : t.InForm :=
  h.next e fun _ h => h.guard (fun h => h.geo' ..)

theorem State.InForm.execReadingSigned (h : s.InForm) {t} (e : Machine.execReadingSigned s = .next t) : t.InForm :=
  h.next e fun _ h => h.guard (fun h => h.geo' ..)

theorem State.InForm.execReadReq (h : s.InForm) {id obj ix ok t} (e : Machine.execReadReq id obj ix ok s = .next t) : t.InForm :=
  h.next e fun _ h => h.guard (fun h => h.geo' ..)

theorem State.InForm.execGeodeBeatEdge (h : s.InForm) {edge spacing err smp t} (e : Machine.execGeodeBeatEdge edge spacing err smp s = .next t) :
    t.InForm :=
  h.next e fun _ h => h.guard (fun h => h.geo' ..)

theorem State.InForm.execGeodeLinkPacket (h : s.InForm) {t} (e : Machine.execGeodeLinkPacket s = .next t) : t.InForm :=
  h.next e fun _ h => h.guard (fun h => h.geo' ..)

theorem State.InForm.execMeteringResume (h : s.InForm) {e1 t} (e : Machine.execMeteringResume e1 s = .next t) : t.InForm := by
  refine h.next e ?_
  intro _ h
  split
  · split
    · exact h.guard (fun h => h.geo' ..)
    · exact h
  · exact h

theorem State.InForm.execFirmwareRevert (h : s.InForm) {t} (e : Machine.execFirmwareRevert s = .next t) : t.InForm := by
  refine h.next e ?_
  intro _ h
  split
  · split
    · exact h.guard (fun h => h.geo' ..)
    · exact h
  · exact h

theorem State.InForm.execOpticalFlood (h : s.InForm) {t} (e : Machine.execOpticalFlood s = .next t) : t.InForm :=
  h.next e fun _ h => h.guard (fun h => h.geo' ..)

theorem State.InForm.execOpticalFloodEnd (h : s.InForm) {t} (e : Machine.execOpticalFloodEnd s = .next t) : t.InForm :=
  h.next e fun _ h => h.guard (fun h => h.geo' ..)

theorem State.InForm.execOpticalSignOn (h : s.InForm) {t} (e : Machine.execOpticalSignOn s = .next t) : t.InForm :=
  h.next e fun _ h => h.guard (fun h => (h.geo' ..).send ..)

theorem State.InForm.execHdlcInactivity (h : s.InForm) {t} (e : Machine.execHdlcInactivity s = .next t) : t.InForm :=
  h.next e fun _ h => h.guard (fun h => h.geo' ..)

theorem State.InForm.ox1Reply (h : s.InForm) (sap res data) : (Machine.ox1Reply s sap res data).InForm := h.send ..

theorem State.InForm.hdlcAssociate (h : s.InForm) (sap ok) : (Machine.hdlcAssociate sap ok s).InForm :=
  .ite ((h.geo' ..).ox1Reply ..) (.ite (h.ox1Reply ..) (.ite (h.ox1Reply ..) (.ite ((h.geo' ..).ox1Reply ..) ((h.geo' ..).ox1Reply ..))))

theorem State.InForm.hdlcGet (h : s.InForm) (sap o) : (Machine.hdlcGet sap o s).InForm := by
  unfold Machine.hdlcGet
  refine .ite (h.ox1Reply ..) (.ite (h.ox1Reply ..) (.ite (h.ox1Reply ..) ?_))
  split <;> exact h.ox1Reply ..

theorem State.InForm.hdlcSet (h : s.InForm) (sap o val) : (Machine.hdlcSet sap o val s).InForm := by
  unfold Machine.hdlcSet
  refine .ite (h.ox1Reply ..) (.ite (h.ox1Reply ..) (.ite (h.ox1Reply ..) ?_))
  split
  · exact (h.geo' ..).ox1Reply ..
  · exact h.ox1Reply ..

theorem State.InForm.hdlcImage (h : s.InForm) (sap version svn good) : (Machine.hdlcImage sap version svn good s).InForm :=
  .ite (h.ox1Reply ..) (.ite (h.ox1Reply ..) (.ite ((h.geo' ..).ox1Reply ..) (h.ox1Reply ..)))

theorem State.InForm.hdlcActivate (h : s.InForm) (sap m) : (Machine.hdlcActivate sap m s).InForm := by
  unfold Machine.hdlcActivate
  refine .ite (h.ox1Reply ..) (.ite (h.ox1Reply ..) (.ite (h.ox1Reply ..) ?_))
  split
  · exact .ite (h.ox1Reply ..) ((h.geo' ..).ox1Reply ..)
  · exact (h.geo' ..).ox1Reply ..
  · split
    · exact h.ox1Reply ..
    · exact (h.geo' ..).ox1Reply ..
  · exact h.ox1Reply ..

theorem State.InForm.hdlcFrame (h : s.InForm) (m) : (Machine.hdlcFrame m s).InForm := by
  unfold Machine.hdlcFrame
  split
  · exact (h.geo' ..).ox1Reply ..
  · exact (h.geo' ..).ox1Reply ..
  · exact h.hdlcAssociate ..
  · exact (h.geo' ..).ox1Reply ..
  · exact h.hdlcGet ..
  · exact h.hdlcSet ..
  · exact h.hdlcImage ..
  · exact h.hdlcActivate ..
  · exact h.ox1Reply ..

theorem State.InForm.execHdlcFrame (h : s.InForm) {m t} (e : Machine.execHdlcFrame m s = .next t) : t.InForm :=
  h.next e fun _ h => h.guard (fun h => (h.geo' ..).hdlcFrame ..)

theorem State.InForm.execSapLockEnd (h : s.InForm) {sap t} (e : Machine.execSapLockEnd sap s = .next t) : t.InForm := by
  refine h.next e ?_
  intro _ h
  split
  · exact h.guard (fun h => h.geo' ..)
  · exact h

theorem State.InForm.execCoverOpened (h : s.InForm) {t} (e : Machine.execCoverOpened s = .next t) : t.InForm :=
  h.next e fun _ h => h.guard (fun h => h.geo' ..)

theorem State.InForm.execGeodeSave (h : s.InForm) {t} (e : Machine.execGeodeSave s = .next t) : t.InForm := h.next e fun _ h => h.guard (fun h =>
    h.geo' ..)

theorem State.InForm.execGeodePowerFail (h : s.InForm) {ok t} (e : Machine.execGeodePowerFail ok s = .next t) : t.InForm :=
  h.next e fun _ h => h.guard (fun h => h.geo' ..)

theorem State.InForm.execGeodeLineReturn (h : s.InForm) {ms t} (e : Machine.execGeodeLineReturn ms s = .next t) : t.InForm :=
  h.next e fun _ h => h.guard (fun h => h.geo' ..)

theorem State.InForm.execGeodeHoldupEnd (h : s.InForm) {t} (e : Machine.execGeodeHoldupEnd s = .next t) : t.InForm :=
  h.next e fun _ h => h.guard (fun h => h.geo' ..)

theorem State.InForm.execGeodeStart (h : s.InForm) {t} (e : Machine.execGeodeStart s = .next t) : t.InForm := h.next e fun _ h => h.guard (fun h =>
    h.geo' ..)

theorem State.InForm.execGeodeTempRead (h : s.InForm) {x0 t} (e : Machine.execGeodeTempRead x0 s = .next t) : t.InForm :=
  h.next e fun _ h => h.guard (fun h => h.geo' ..)

theorem State.InForm.execGeodeTempResume (h : s.InForm) {t} (e : Machine.execGeodeTempResume s = .next t) : t.InForm := by
  refine h.next e ?_
  intro _ h
  split
  · exact h.guard (fun h => h.geo' ..)
  · exact h

/-! ### Machine/Metering.lean: the main side of the Geode link -/

theorem State.InForm.mir (h : s.InForm) (f) : (s.mir f).InForm := h.geo' ..

theorem State.InForm.meterEvent (h : s.InForm) (code cir tlvs) : (Machine.meterEvent code cir tlvs s).InForm := h.fold (fun _ _ h => .ite (h.raise
    ..) h)

theorem State.InForm.phaseMismatch (h : s.InForm) : (Machine.phaseMismatch s).InForm := by
  unfold Machine.phaseMismatch
  split
  · exact h
  · exact h.fold (fun _ _ h => .ite (h.owner ..) h)

theorem State.InForm.geoResult (h : s.InForm) (cmd status tlvs) : (Machine.geoResult cmd status tlvs s).InForm := h.result ..

theorem State.InForm.takeAnswer (h : s.InForm) (pset a) : (Machine.takeAnswer pset a s).InForm := by
  unfold Machine.takeAnswer
  split
  · exact h
  · refine .ite ((h.mir ..).geoResult ..) ?_
    split
    · exact ((h.mir ..).mir ..).geoResult ..
    · exact (h.mir ..).geoResult ..
    · exact ((h.mir ..).mir ..).geoResult ..

theorem State.InForm.snapDone (h : s.InForm) (r) : (Machine.snapDone r s).InForm := .ite h ((h.mir ..).fold (fun _ _ h => h.geoResult ..))

theorem State.InForm.snapMissed (h : s.InForm) (e) : (Machine.snapMissed e s).InForm := by
  unfold Machine.snapMissed
  refine .ite h ?_
  split
  · exact .ite h ((h.mir ..).fold (fun _ _ h => h.geoResult ..))
  · exact h

theorem State.InForm.floodEvent (h : s.InForm) (n) : (Machine.floodEvent n s).InForm := .ite (h.mir ..) (.ite ((h.mir ..).meterEvent ..) h)

theorem State.InForm.waveBlocks (h : s.InForm) (p) : (Machine.waveBlocks p s).InForm := by
  unfold Machine.waveBlocks
  refine h.fold ?_
  intro _ _ h
  split
  · exact .ite h.rest h
  · exact h

theorem State.InForm.takePacket (h : s.InForm) (p) : (Machine.takePacket p s).InForm :=
  .at' (.waveBlocks (.floodEvent (.ite (.fold (.fold (.fold (.ite (.fold (.ite ((h.mir ..).meterEvent ..) (h.mir ..)) (fun _ _ h => .ite (h.raise
      ..) h)) (.ite ((h.mir ..).meterEvent ..) (h.mir ..))) (fun _ _ h => (h.meterEvent ..).snapMissed ..)) (fun _ _ h => ((h.mir ..).meterEvent
      ..).snapDone ..)) (fun _ _ h => h.takeAnswer ..)) (.phaseMismatch (.fold (.fold (.fold (.ite (.fold (.ite ((h.mir ..).meterEvent ..) (h.mir
      ..)) (fun _ _ h => .ite (h.raise ..) h)) (.ite ((h.mir ..).meterEvent ..) (h.mir ..))) (fun _ _ h => (h.meterEvent ..).snapMissed ..)) (fun _
      _ h => ((h.mir ..).meterEvent ..).snapDone ..)) (fun _ _ h => h.takeAnswer ..)))) ..) ..) ..

theorem State.InForm.execLinkPacketReceived (h : s.InForm) {t} (e : Machine.execLinkPacketReceived s = .next t) : t.InForm := by
  refine h.next e ?_
  intro _ h
  split
  · exact h.guard (fun h => (h.geo' ..).takePacket ..)
  · exact h

theorem State.InForm.execGeodeLinkSilent (h : s.InForm) {t} (e : Machine.execGeodeLinkSilent s = .next t) : t.InForm :=
  h.next e fun _ h => h.guard (fun h => (h.mir ..).meterEvent ..)

theorem State.InForm.execReadReqFailed (h : s.InForm) {id t} (e : Machine.execReadReqFailed id s = .next t) : t.InForm := by
  refine h.next e ?_
  intro _ h
  split
  · exact h.guard (fun h => (h.mir ..).geoResult ..)
  · exact h

theorem State.InForm.geoRequest (h : s.InForm) (c obj ix arg) : (Machine.geoRequest c obj ix arg s).InForm := (h.mir ..).toGeode ..

theorem opMeterRead_keeps : opMeterRead.Keeps := by
  intro c s h
  dsimp only [opMeterRead]
  split
  · split
    · exact h
    · exact h
  · split
    · exact h
    · exact h.geoRequest ..
  · split
    · exact h
    · exact h
  · split
    · exact h.geoRequest ..
    · exact h

theorem opMeterPeriod_keeps : opMeterPeriod.Keeps := by
  intro c s h
  dsimp only [opMeterPeriod]
  split <;> exact h

theorem opWaveformStream_keeps : opWaveformStream.Keeps := by
  intro c s h
  exact .iteFst (.fst (h.mir _)) (.iteFst h (.fst (h.mir _)))

theorem opCorrectionRead_keeps : opCorrectionRead.Keeps := fun _ _ h => h.geoRequest ..

theorem opSnapshot_keeps : opSnapshot.Keeps := by
  intro c s h
  dsimp only [opSnapshot]
  split
  · exact h
  · exact (((h.setReg ..).setReg ..).mir ..).armTimer ..

theorem State.InForm.execMeterRead (h : s.InForm) {src tlvs t} (e : Machine.execMeterRead src tlvs s = .next t) : t.InForm := h.execOp
    opMeterRead_keeps e

theorem State.InForm.execMeterPeriod (h : s.InForm) {src tlvs t} (e : Machine.execMeterPeriod src tlvs s = .next t) : t.InForm :=
  h.execOp opMeterPeriod_keeps e

theorem State.InForm.execWaveformStream (h : s.InForm) {src tlvs t} (e : Machine.execWaveformStream src tlvs s = .next t) : t.InForm :=
  h.execOp opWaveformStream_keeps e

theorem State.InForm.execCorrectionRead (h : s.InForm) {src tlvs t} (e : Machine.execCorrectionRead src tlvs s = .next t) : t.InForm :=
  h.execOp opCorrectionRead_keeps e

theorem State.InForm.execSnapshot (h : s.InForm) {src tlvs t} (e : Machine.execSnapshot src tlvs s = .next t) : t.InForm := h.execOp
    opSnapshot_keeps e

/-! ### Machine/Flint.lean: keys -/

theorem State.InForm.drawBytes (h : s.InForm) (n) : (Machine.drawBytes n s).2.InForm := h.put
theorem State.InForm.flintHalt (h : s.InForm) (cause) : (Machine.flintHalt cause s).InForm := { h.mainOff with assoc := rfl }

theorem State.InForm.execFlintHalt (h : s.InForm) {cause t} (e : Machine.execFlintHalt cause s = .next t) : t.InForm :=
  h.next e fun _ h => h.guard (fun h => h.flintHalt ..)

theorem State.InForm.execRngHealthFail (h : s.InForm) {t} (e : Machine.execRngHealthFail s = .next t) : t.InForm :=
  h.next e fun _ h => h.guard (fun h => .ite (h.flintHalt ..) ((h.flRest.setFlag ..).owner ..))

theorem State.InForm.execRngResume (h : s.InForm) {t} (e : Machine.execRngResume s = .next t) : t.InForm :=
  h.next e fun _ h => h.guard (fun h => (h.flRest.owner ..).resumeStrings)

theorem State.InForm.execRngReseed (h : s.InForm) {t} (e : Machine.execRngReseed s = .next t) : t.InForm := h.next e fun _ h => h.guard (fun h =>
    h.flRest)

theorem State.InForm.wsPut (h : s.InForm) (v off b) : (Machine.wsPut v off b s).InForm := h.fold (fun _ _ h => h.hbmWrite ..)

theorem State.InForm.markStale (h : s.InForm) (v no) : (Machine.markStale v no s).InForm := by
  unfold Machine.markStale
  split
  · exact h
  · have h1 (k) : (s.fl fun f => { f with reg := tmod f.reg k fun b => { b with stale := true } }).InForm := by
      refine h.fl _ ?_
      dsimp only
      exact twf_tmod _ _ _ h.blobs
    exact .ite h (((h1 _).setFlag ..).raise ..)

theorem State.InForm.flintRemove (h : s.InForm) (v) : (Machine.flintRemove v s).InForm := h.fl _ (twf_filter _ _ h.blobs)

theorem State.InForm.loadSlot (h : s.InForm) (v no regNo b) : (Machine.loadSlot v no regNo b s).InForm := by
  unfold Machine.loadSlot
  exact h.put.flRest

theorem State.InForm.loadRef (h : s.InForm) (c) : (Machine.loadRef c s).1.InForm := by
  unfold Machine.loadRef
  dsimp only
  split
  · exact h
  · exact .iteFst h (.iteFst (h.loadSlot ..) (.ite (h.flRest.markStale ..) h.flRest))

theorem State.InForm.loadNew (h : s.InForm) (c) : (Machine.loadNew c s).1.InForm := by
  unfold Machine.loadNew
  dsimp only
  refine .iteFst h (.iteFst h ?_)
  generalize hp : (if c.has 594 = true then Machine.drawBytes _ s else (List.drop 4 c.newKey, s)) = p
  have h1 : p.2.InForm := by
    subst hp
    split
    · exact h.drawBytes _
    · exact h
  have h2 (k b) : (p.2.fl fun f => { f with reg := tset f.reg k b }).InForm := h1.fl _ (twf_tset _ _ _ h1.blobs)
  refine .loadSlot ?_ ..
  split
  · exact (h2 _ _).wsPut ..
  · exact h2 _ _

theorem opSlotLoad_keeps : opSlotLoad.Keeps := by
  intro c s h
  dsimp only [opSlotLoad]
  split
  · exact h
  · exact .iteFst (h.loadRef ..) (h.loadNew ..)

theorem opSlotUnload_keeps : opSlotUnload.Keeps := by
  intro c s h
  have h1 : (if c.has 0x0250 then s.fl (fun f => { f with slots := terase f.slots (slotKey c.vctl (c.nat 0x0250)) }) else s).InForm :=
    .ite h.flRest h
  exact .iteFst h (.fst (.ite (h1.fl _ (twf_terase _ _ h1.blobs)) h1))

theorem State.InForm.slotBad (h : s.InForm) (v n) : (Machine.slotBad v n s).InForm := (h.flRest.setFlag ..).raise ..

theorem State.InForm.slotRun (h : s.InForm) (c v n x) : (Machine.slotRun c v n x s).1.InForm := by
  unfold Machine.slotRun
  dsimp only
  split
  · exact .iteFst h (.iteFst h (.fst h.flRest))
  · refine .iteFst h ?_
    split
    · exact h
    · exact h
  · exact h
  · exact .iteFst h h
  · exact .iteFst h h
  · exact h

theorem State.InForm.slotUse (h : s.InForm) (c) : (Machine.slotUse c s).1.InForm := by
  unfold Machine.slotUse
  dsimp only
  split
  · exact h
  · exact .iteFst h (.iteFst (h.slotBad ..) (.iteFst h (h.slotRun ..)))

theorem opSlotUse_keeps : opSlotUse.Keeps := by
  intro c s h
  dsimp only [opSlotUse]
  split
  · exact h
  · exact h.slotUse ..

theorem State.InForm.execSlotIntegrityCheck (h : s.InForm) {v n ok t} (e : Machine.execSlotIntegrityCheck v n ok s = .next t) : t.InForm := by
  refine h.next e ?_
  intro _ h
  split
  · exact h.guard (fun h => h.slotBad ..)
  · exact h

theorem opKeySession_keeps : opKeySession.Keeps := fun _ _ h => .fst (h.modAssoc ..)
theorem State.InForm.startMigration (h : s.InForm) (target) : (Machine.startMigration target s).InForm := h.flRest.owner ..

theorem State.InForm.rewrapOne {p : State × Nat} (h : p.1.InForm) (target k) : (Machine.rewrapOne target p k).1.InForm := by
  unfold Machine.rewrapOne
  dsimp only
  split
  · exact h
  · refine .iteFst (.fst (h.fl _ ?_)) (.fst (.ite (h.markStale ..) h))
    dsimp only
    exact twf_tmod _ _ _ h.blobs

theorem State.InForm.completeMigration (h : s.InForm) : (Machine.completeMigration s).InForm := by
  have h1 (m l n) : (List.foldl (Machine.rewrapOne m) (s, n) l).1.InForm := State.InForm.foldFst (fun _ _ h => h.rewrapOne ..) _ h
  unfold Machine.completeMigration
  split
  · refine .ite h ?_
    exact (h1 ..).flRest.owner ..
  · exact h

theorem State.InForm.execKeyMigrationComplete (h : s.InForm) {t} (e : Machine.execKeyMigrationComplete s = .next t) : t.InForm :=
  h.next e fun _ h => h.guard (fun h => h.completeMigration)

theorem State.InForm.keepGen (h : s.InForm) (m) : (Machine.keepGen m s).InForm := by
  refine h.fl _ ?_
  dsimp only
  exact twf_tmap _ _ h.blobs

theorem State.InForm.abandonMigration (h : s.InForm) : (Machine.abandonMigration s).InForm := by
  unfold Machine.abandonMigration
  split
  · exact h
  · exact ((h.flRest.keepGen ..).setFlag ..).owner ..

theorem State.InForm.handoverKeys (h : s.InForm) : (Machine.handoverKeys s).InForm := by
  unfold Machine.handoverKeys
  split
  · exact h
  · refine h.flRest.fold ?_
    intro _ _ h
    split
    · exact .ite (h.wsPut ..) h
    · exact h

theorem State.InForm.finishMigration (h : s.InForm) : (Machine.finishMigration s).InForm := by
  unfold Machine.finishMigration
  split
  · exact h
  · exact h.flRest.keepGen ..

theorem State.InForm.execFuseAdvance (h : s.InForm) {bank bad t} (e : Machine.execFuseAdvance bank bad s = .next t) : t.InForm := by
  refine h.next e ?_
  intro _ h
  split
  · exact h
  · exact (h.fold (fun _ _ h => .ite ((h.setFlag ..).owner ..) h)).flRest.owner ..

theorem State.InForm.geodeFwCheck (h : s.InForm) : (Machine.geodeFwCheck s).InForm := by
  unfold Machine.geodeFwCheck
  split
  · exact h
  · refine .ite h ?_
    dsimp only
    split
    · exact h.flRest.fold (fun _ _ h => h.raise ..)
    · exact .ite (h.flRest.fold (fun _ _ h => h.raise ..)) h.flRest

theorem State.InForm.execGeodeFwCheck (h : s.InForm) {t} (e : Machine.execGeodeFwCheck s = .next t) : t.InForm :=
  h.next e fun _ h => h.guard (fun h => h.geodeFwCheck)

theorem State.InForm.execKeySession (h : s.InForm) {src tlvs t} (e : Machine.execKeySession src tlvs s = .next t) : t.InForm := h.execOp
    opKeySession_keeps e

theorem State.InForm.execSlotLoad (h : s.InForm) {src tlvs t} (e : Machine.execSlotLoad src tlvs s = .next t) : t.InForm := h.execOp
    opSlotLoad_keeps e

theorem State.InForm.execSlotUnload (h : s.InForm) {src tlvs t} (e : Machine.execSlotUnload src tlvs s = .next t) : t.InForm := h.execOp
    opSlotUnload_keeps e

theorem State.InForm.execSlotUse (h : s.InForm) {src tlvs t} (e : Machine.execSlotUse src tlvs s = .next t) : t.InForm := h.execOp opSlotUse_keeps e

end Sys2Proof.Machine
end

section
/-!
SUPPORT. The spine, the start, power, vCtls, sessions and heat keep the form of the state.
-/
namespace Sys2Proof.Machine

set_option Elab.async false
variable {s : State}

/-! ### Machine/Spine.lean: the spine -/

theorem State.InForm.linkNotice (h : s.InForm) : (Machine.linkNotice s).InForm := h.spAll ..

theorem State.InForm.abortRing (h : s.InForm) : (Machine.abortRing s).InForm := by
  unfold Machine.abortRing
  split
  · exact h
  · exact (h.sp ..).owner ..

theorem State.InForm.setSpUp (h : s.InForm) (east up) : (Machine.setSpUp east up s).InForm :=
  .ite h (.linkNotice (.abortRing (.ite ((h.modSp ..).owner ..) (((h.modSp ..).owner ..).setFlag ..))))

theorem State.InForm.sendLinkInit (h : s.InForm) (east) : (Machine.sendLinkInit east s).InForm := .ite h ((h.put.modSp ..).send ..)

theorem State.InForm.execSpinePortLink (h : s.InForm) {east ev t} (e : Machine.execSpinePortLink east ev s = .next t) : t.InForm := by
  refine h.next e ?_
  intro _ h
  refine h.guard ?_
  intro h
  split
  · exact .ite h ((h.modSp ..).sendLinkInit ..)
  · exact (h.modSp ..).setSpUp ..
  · exact .ite (((h.spAccept ..).modSp ..).setSpUp ..) (h.spAccept ..)

theorem State.InForm.execHelloTimeout (h : s.InForm) {east t} (e : Machine.execHelloTimeout east s = .next t) : t.InForm :=
  h.next e fun _ h => h.guard (fun h => h.setSpUp ..)

theorem State.InForm.execHelloSend (h : s.InForm) {t} (e : Machine.execHelloSend s = .next t) : t.InForm :=
  h.next e fun _ h => h.guard (fun h => ((h.sp ..).spTx ..).spTx ..)

theorem State.InForm.refusePeer (h : s.InForm) (east) : (Machine.refusePeer east s).InForm := (((h.modSp ..).setSpUp ..).setFlag ..).owner ..
theorem State.InForm.openLink (h : s.InForm) (east laid key) : (Machine.openLink east laid key s).InForm := h.modSp ..
theorem State.InForm.answerInit (h : s.InForm) (east p) : (Machine.answerInit east p s).InForm := ((h.put.sp ..).modSp ..).send ..
theorem State.InForm.answerResp (h : s.InForm) (east p laid own) : (Machine.answerResp east p laid own s).InForm := (h.openLink ..).spTx ..

theorem State.InForm.execSpineLinkSetup (h : s.InForm) {east m t} (e : Machine.execSpineLinkSetup east m s = .next t) : t.InForm := by
  refine h.next e ?_
  intro _ h
  refine h.guard ?_
  intro h
  split
  · exact .ite (h.refusePeer ..) (.ite h (h.answerInit ..))
  · split
    · exact h
    · exact .ite (h.refusePeer ..) (h.answerResp ..)
  · split
    · exact .ite (h.openLink ..) (h.count ..)
    · exact h.count ..

theorem State.InForm.execSpineLinkInitRetry (h : s.InForm) {east t} (e : Machine.execSpineLinkInitRetry east s = .next t) : t.InForm :=
  h.next e fun _ h => h.guard (fun h => h.sendLinkInit ..)

theorem State.InForm.execSpineLinkRekey (h : s.InForm) {east t} (e : Machine.execSpineLinkRekey east s = .next t) : t.InForm := by
  refine h.next e ?_
  intro _ h
  refine .ite (h.modSp ..) ?_
  split
  · exact h
  · exact .ite (((h.modSp ..).setSpUp ..).sendLinkInit ..) (.ite (h.sendLinkInit ..) h)

theorem State.InForm.execSpineFrameDiscarded (h : s.InForm) {why t} (e : Machine.execSpineFrameDiscarded why s = .next t) : t.InForm := by
  refine h.next e ?_
  intro _ h
  refine h.guard ?_
  intro h
  split
  · exact h.count ..
  · exact h.spOther
  · exact h.spOther

theorem State.InForm.keepTable (h : s.InForm) (t) : (Machine.keepTable t s).InForm := h.sp ..

theorem State.InForm.ringEnd (h : s.InForm) (a b closed) : (Machine.ringEnd a b closed s).InForm :=
  .spAll (.keepTable (.owner (.ite ((h.sp ..).setFlag ..) (h.sp ..)) ..) ..) ..

theorem State.InForm.sendToken (h : s.InForm) (east) : (Machine.sendToken east s).InForm := h.spOut ..

theorem State.InForm.ringPassEnd (h : s.InForm) (reach closed) : (Machine.ringPassEnd reach closed s).InForm := by
  unfold Machine.ringPassEnd
  split
  · exact h
  · exact .ite (h.ringEnd ..) (.ite ((h.sp ..).sendToken ..) (h.ringEnd ..))

theorem State.InForm.startRing (h : s.InForm) : (Machine.startRing s).InForm := .ite h (.ite ((h.sp ..).sendToken ..) ((h.sp ..).ringPassEnd ..))

theorem State.InForm.execRingCensusStart (h : s.InForm) {t} (e : Machine.execRingCensusStart s = .next t) : t.InForm :=
  h.next e fun _ h => h.guard (fun h => h.startRing)

theorem State.InForm.execRingCensusTimeout (h : s.InForm) {reach t} (e : Machine.execRingCensusTimeout reach s = .next t) : t.InForm := by
  refine h.next e ?_
  intro _ h
  split
  · exact h.guard (fun h => h.ringPassEnd ..)
  · exact h

theorem State.InForm.masterConflict (h : s.InForm) (eui) : (Machine.masterConflict eui s).InForm := (h.setFlag ..).owner ..

theorem State.InForm.takeToken (h : s.InForm) (east t) : (Machine.takeToken east t s).InForm := by
  unfold Machine.takeToken
  dsimp only
  split
  · exact .ite (.masterConflict (.ite (h.sp ..) h) ..) (h.sp ..)
  · exact h.sp ..

theorem State.InForm.spineEnumerate (h : s.InForm) (east t h' reach) : (Machine.spineEnumerate east t h' reach s).InForm := by
  unfold Machine.spineEnumerate
  refine .ite (h.spOnward ..) (.ite (.ite (h.masterConflict ..) ?_) (.ite h ((h.takeToken ..).spOnward ..)))
  split
  · exact .ite (h.ringPassEnd ..) h
  · exact h

theorem State.InForm.execSpineEnumerate (h : s.InForm) {east h' x2 reach t} (e : Machine.execSpineEnumerate east h' x2 reach s = .next t) : t.InForm
    :=
  h.next e fun _ h => h.guard (fun h => .ite ((h.spAccept ..).spineEnumerate ..) (h.spAccept ..))

theorem State.InForm.execRingTable (h : s.InForm) {east h' result mods t} (e : Machine.execRingTable east h' result mods s = .next t) : t.InForm :=
  h.next e fun _ h => h.guard (fun h => .ite (h.spAccept ..) (.ite ((((h.spAccept ..).spForwardAll ..).sp ..).keepTable ..) ((h.spAccept
      ..).spForwardAll ..)))

theorem State.InForm.execLinkNotice (h : s.InForm) {east h' eastUp westUp t} (e : Machine.execLinkNotice east h' eastUp westUp s = .next t) :
    t.InForm :=
  h.next e fun _ h => h.guard (fun h => .ite (h.spAccept ..) (.ite ((h.spAccept ..).spForwardAll ..) (.ite (.startRing (.ite (((h.spAccept
      ..).spForwardAll ..).sp ..) (((h.spAccept ..).spForwardAll ..).sp ..).abortRing)) (.ite (((h.spAccept ..).spForwardAll ..).sp ..)
      (((h.spAccept ..).spForwardAll ..).sp ..).abortRing))))

theorem State.InForm.relayEntry (h : s.InForm) (port dst udp dscp mgmt packet) : (Machine.relayEntry port dst udp dscp mgmt packet s).InForm := by
  unfold Machine.relayEntry
  split
  · exact h
  · exact .ite h ((h.sp ..).spTo ..)

theorem State.InForm.relayHere (h : s.InForm) (h' back key packet) : (Machine.relayHere h' back key packet s).InForm := by
  unfold Machine.relayHere
  refine .ite ?_ ?_
  · split
    · exact h.send ..
    · exact h.spOther
  · split
    · exact .ite (h.sp ..) h
    · exact h

theorem State.InForm.execRelay (h : s.InForm) {i t} (e : Machine.execRelay i s = .next t) : t.InForm := by
  refine h.next e ?_
  intro _ h
  refine .ite (h.guard (fun h => h.dropFragment)) (h.guard ?_)
  intro h
  split
  · exact h
  · exact h.relayEntry ..
  · exact .ite (h.spAccept ..) (.ite ((h.spAccept ..).relayHere ..) ((h.spAccept ..).spForward ..))

theorem State.InForm.modSweep (h : s.InForm) (f) : (s.modSweep f).InForm := h.sp ..
theorem State.InForm.modRes (h : s.InForm) (id f) : (s.modRes id f).InForm := h.sp ..
theorem State.InForm.armSweep (h : s.InForm) (t) : (Machine.armSweep t s).InForm := ((h.setReg ..).setReg ..).armTimer ..
theorem State.InForm.orderSweep (h : s.InForm) (id t cmd) : (Machine.orderSweep id t cmd s).InForm := ((h.armSweep ..).sp ..).spAll ..
theorem State.InForm.endCollect (h : s.InForm) : (Machine.endCollect s).InForm := h.modSweep ..

theorem State.InForm.sendCollect (h : s.InForm) : (Machine.sendCollect s).InForm := by
  unfold Machine.sendCollect
  split
  · exact h
  · exact .ite (h.spOut ..) (.ite ((h.modSweep ..).spOut ..) (h.modSweep ..).endCollect)

theorem State.InForm.startCollect (h : s.InForm) : (Machine.startCollect s).InForm := (h.modSweep ..).sendCollect
theorem State.InForm.recollect (h : s.InForm) (r cmd) : (Machine.recollect r cmd s).InForm := (h.sp ..).startCollect

theorem opSweepOrder_keeps : opSweepOrder.Keeps := by
  intro c s h
  dsimp only [opSweepOrder]
  split
  · exact h
  · refine .iteFst (h.orderSweep ..) ?_
    split
    · exact h
    · exact .iteFst (h.recollect ..) (.iteFst h h)

theorem State.InForm.sweepOrderMsg (h : s.InForm) (east h' id t) : (Machine.sweepOrderMsg east h' id t s).InForm :=
  .ite h (.spTo (.ite ((((h.sp ..).spForwardAll ..).armSweep ..).sp ..) ((h.sp ..).spForwardAll ..)) ..)

theorem State.InForm.execSweepOrderMsg (h : s.InForm) {east h' id x3 t} (e : Machine.execSweepOrderMsg east h' id x3 s = .next t) : t.InForm :=
  h.next e fun _ h => h.guard (fun h => .ite ((h.spAccept ..).sweepOrderMsg ..) (h.spAccept ..))

theorem State.InForm.execOrderReply (h : s.InForm) {east h' id code t} (e : Machine.execOrderReply east h' id code s = .next t) : t.InForm :=
  h.next e fun _ h => h.guard (fun h => .ite (h.spAccept ..) (.ite ((h.spAccept ..).modRes ..) ((h.spAccept ..).spForward ..)))

theorem State.InForm.sweepLatch (h : s.InForm) : (Machine.sweepLatch s).InForm := by
  unfold Machine.sweepLatch
  split
  · exact h.setFlag ..
  · exact .ite (h.setFlag ..) (.ite h ((h.modSweep ..).toGeode ..))

theorem State.InForm.execSweepLatch (h : s.InForm) {t} (e : Machine.execSweepLatch s = .next t) : t.InForm :=
  h.next e fun _ h => h.guard (fun h => h.sweepLatch)

theorem State.InForm.formRecord (h : s.InForm) (w) : (Machine.formRecord w s).InForm := .modSweep (.ite ((h.sp ..).modRes ..) (h.sp ..)) ..

theorem State.InForm.execSweepRecordForm (h : s.InForm) {t} (e : Machine.execSweepRecordForm s = .next t) : t.InForm := by
  refine h.next e ?_
  intro _ h
  split
  · exact h.guard (fun h => h.formRecord ..)
  · exact h

theorem State.InForm.execSweepParticipantClose (h : s.InForm) {t} (e : Machine.execSweepParticipantClose s = .next t) : t.InForm := by
  refine h.next e ?_
  intro _ h
  split
  · exact h.guard (fun h => .sp (.ite (h.formRecord ..) h) ..)
  · exact h

theorem State.InForm.execCollectionStart (h : s.InForm) {t} (e : Machine.execCollectionStart s = .next t) : t.InForm := by
  refine h.next e ?_
  intro _ h
  split
  · exact h.guard (fun h => .startCollect (.ite (h.formRecord ..) h))
  · exact h

theorem State.InForm.collectWest (h : s.InForm) (w) : (Machine.collectWest w s).InForm := (h.modSweep ..).spOut ..

theorem State.InForm.collectBack (h : s.InForm) : (Machine.collectBack s).InForm := by
  unfold Machine.collectBack
  split
  · exact .endCollect (.ite h (h.collectWest ..))
  · exact h

theorem State.InForm.collectOn (h : s.InForm) (east h' id map) : (Machine.collectOn east h' id map s).InForm :=
  .ite (.spOnward (.ite h (h.spTo ..)) ..) (.spTo (.ite h (h.spTo ..)) ..)

theorem State.InForm.execCollect (h : s.InForm) {east h' id map t} (e : Machine.execCollect east h' id map s = .next t) : t.InForm :=
  h.next e fun _ h => h.guard (fun h => .ite (h.spAccept ..) (.ite ((h.spAccept ..).guard (fun h => h.collectBack)) ((h.spAccept ..).collectOn ..)))

theorem State.InForm.execSweepRecord (h : s.InForm) {east h' id pos body t} (e : Machine.execSweepRecord east h' id pos body s = .next t) : t.InForm
    :=
  h.next e fun _ h => h.guard (fun h => .ite (h.spAccept ..) (.ite ((h.spAccept ..).spForward ..) ((h.spAccept ..).guard (fun h => h.modRes ..))))

theorem State.InForm.execCollectTurn (h : s.InForm) {east h' id t} (e : Machine.execCollectTurn east h' id s = .next t) : t.InForm := by
  refine h.next e ?_
  intro _ h
  refine h.guard ?_
  intro h
  refine .ite (h.spAccept ..) (.ite ((h.spAccept ..).spForward ..) ?_)
  split
  · exact .ite (h.spAccept ..) (.ite (h.spAccept ..).endCollect (.ite ((h.spAccept ..).collectWest ..) (h.spAccept ..).endCollect))
  · exact h.spAccept ..

theorem State.InForm.execCollectionTimeout (h : s.InForm) {t} (e : Machine.execCollectionTimeout s = .next t) : t.InForm :=
  h.next e fun _ h => h.guard (fun h => h.endCollect)

theorem State.InForm.execSweepResultFinal (h : s.InForm) {t} (e : Machine.execSweepResultFinal s = .next t) : t.InForm := by
  refine h.next e ?_
  intro _ h
  split
  · refine h.guard ?_
    intro h
    dsimp only
    split
    · exact (h.sp ..).result ..
    · exact h.sp ..
  · exact h

theorem opSpineConfig_keeps : opSpineConfig.Keeps := by
  intro c s h
  dsimp only [opSpineConfig]
  split
  · exact h
  · refine .ite (.startRing (.ite (.sp ?_ ..) ?_)) (.ite (.sp ?_ ..) ?_)
    · split
      · refine .sp ?_ ..
        split
        · exact h.sp ..
        · exact h
      · split
        · exact h.sp ..
        · exact h
    · split
      · refine .sp ?_ ..
        split
        · exact h.sp ..
        · exact h
      · split
        · exact h.sp ..
        · exact h
    · split
      · refine .sp ?_ ..
        split
        · exact h.sp ..
        · exact h
      · split
        · exact h.sp ..
        · exact h
    · split
      · refine .sp ?_ ..
        split
        · exact h.sp ..
        · exact h
      · split
        · exact h.sp ..
        · exact h

theorem State.InForm.execSpineConfig (h : s.InForm) {src tlvs t} (e : Machine.execSpineConfig src tlvs s = .next t) : t.InForm :=
  h.execOp opSpineConfig_keeps e

theorem State.InForm.execSweepOrder (h : s.InForm) {src tlvs t} (e : Machine.execSweepOrder src tlvs s = .next t) : t.InForm := h.execOp
    opSweepOrder_keeps e

/-! ### Machine/Boot.lean: images and the start -/

theorem State.InForm.modSlots (h : s.InForm) (c f) : (s.modSlots c f).InForm := h.setBoot ..
theorem State.InForm.darken (h : s.InForm) : (Machine.darken s).InForm := h.sl ..

theorem State.InForm.announce (h : s.InForm) : (Machine.announce s).InForm :=
  .ite h (.setBoot (.ite ((h.owner ..).send ..).darken ((h.owner ..).send ..)) ..)

theorem State.InForm.updEvent (h : s.InForm) (code cls) : (Machine.updEvent code cls s).InForm := h.owner ..
theorem State.InForm.reachStep (h : s.InForm) (k) : (Machine.reachStep k s).InForm := h.setBoot ..

theorem State.InForm.keepAtStart (h : s.InForm) (m) : (Machine.keepAtStart m s).InForm := by
  unfold Machine.keepAtStart
  exact .flRest (.keepGen (.ite h h.put) ..)

theorem State.InForm.runImages (h : s.InForm) (l prev) : (Machine.runImages l prev s).InForm := by
  unfold Machine.runImages
  exact (h.flRest.keepAtStart ..).setBoot ..

theorem State.InForm.noSet (h : s.InForm) : (Machine.noSet s).InForm := (h.flRest.setBoot ..).updEvent ..

theorem State.InForm.flintMeasure (h : s.InForm) : (Machine.flintMeasure s).InForm := by
  unfold Machine.flintMeasure
  refine .ite (.startMain (.reachStep (.reachStep (.setBoot ?_ ..) ..) ..)) (.ite h h.flRest)
  split
  · exact .ite ((h.put.flRest.runImages ..).updEvent ..) (h.put.flRest.runImages ..)
  · exact h.put.flRest.noSet

theorem State.InForm.execFlintMeasure (h : s.InForm) {t} (e : Machine.execFlintMeasure s = .next t) : t.InForm :=
  h.next e fun _ h => h.guard (fun h => h.flintMeasure)

theorem State.InForm.execStartStepTimeout (h : s.InForm) {step blk t} (e : Machine.execStartStepTimeout step blk s = .next t) : t.InForm :=
  h.next e fun _ h => h.guard (fun h => h.setBoot ..)

theorem State.InForm.enterService (h : s.InForm) : (Machine.enterService s).InForm := by
  have h1 := ((h.setBoot fun b => { b with inService := true, served := 0 }).reachStep 9).reachStep 10
  exact (h1.fold fun _ _ h => .ite (h.takeLatest ..) h).startRing.aonRegs.put

theorem State.InForm.execFrameServiceEntry (h : s.InForm) {t} (e : Machine.execFrameServiceEntry s = .next t) : t.InForm :=
  h.next e fun _ h => h.guard (fun h => h.enterService)

theorem State.InForm.bankReset (h : s.InForm) (b) : (Machine.bankReset b s).InForm := h.setBoot ..
theorem State.InForm.bankRejoin (h : s.InForm) (b) : (Machine.bankRejoin b s).InForm := .ite h (h.setBoot ..)

theorem State.InForm.execBankWatchdog (h : s.InForm) {b rejoin t} (e : Machine.execBankWatchdog b rejoin s = .next t) : t.InForm := by
  refine h.next e fun _ h => h.guard fun h => ?_
  split
  · exact h.bankRejoin _
  · exact h.bankReset _

theorem State.InForm.failStart (h : s.InForm) : (Machine.failStart s).InForm := .ite (h.setBoot ..) h

theorem State.InForm.execWatchdogReset (h : s.InForm) {start t} (e : Machine.execWatchdogReset start s = .next t) : t.InForm :=
  h.next e fun _ h => h.guard (fun h => h.failStart.deferFlash.farewell.mainOff.serviceOff.startService ..)

theorem State.InForm.dropStaging (h : s.InForm) (k) : (Machine.dropStaging k s).InForm := by
  unfold Machine.dropStaging
  split
  · exact h.result ..
  · exact h

theorem opImageStage_keeps : opImageStage.Keeps := by
  intro c s h
  dsimp only [opImageStage]
  split
  · exact h
  · exact .modSlots (.ite (h.dropStaging ..) h) ..

theorem State.InForm.imageVerified (h : s.InForm) (cls) : (Machine.imageVerified cls s).InForm := by
  unfold Machine.imageVerified
  split
  · exact h
  · split
    · exact h
    · split <;> exact (h.modSlots ..).result ..

theorem State.InForm.execImageVerified (h : s.InForm) {cls t} (e : Machine.execImageVerified cls s = .next t) : t.InForm :=
  h.next e fun _ h => h.guard (fun h => h.imageVerified ..)

theorem State.InForm.startActivation (h : s.InForm) (c b mode l) : (Machine.startActivation c b mode l s).InForm :=
  .ite ((h.setBoot ..).updEvent ..) (((h.setBoot ..).updEvent ..).startMigration ..)

theorem opImageActivate_keeps : opImageActivate.Keeps := by
  intro c s h
  dsimp only [opImageActivate]
  split
  · exact h
  · exact .fst (h.startActivation ..)

theorem State.InForm.modAct (h : s.InForm) (f) : (s.modAct f).InForm := h.setBoot ..

theorem State.InForm.takeImage (h : s.InForm) (c) : (Machine.takeImage c s).InForm := by
  unfold Machine.takeImage
  dsimp only
  split
  · exact h
  · exact (h.setBoot ..).flRest

theorem State.InForm.handKeys (h : s.InForm) (frame) : (Machine.handKeys frame s).InForm := .modAct (.ite h.handoverKeys h) ..

theorem State.InForm.payOwed (h : s.InForm) : (Machine.payOwed s).InForm := by
  unfold Machine.payOwed
  split
  · exact h
  · exact .ite ((h.setBoot ..).result ..) h

theorem State.InForm.finishActivation (h : s.InForm) : (Machine.finishActivation s).InForm := by
  unfold Machine.finishActivation
  split
  · exact h
  · exact .ite h ((((h.fold (fun _ _ h => h.modSlots ..)).updEvent ..).setFlag ..).setBoot ..).payOwed

theorem State.InForm.classDone (h : s.InForm) : (Machine.classDone s).InForm := (h.modAct ..).finishActivation

theorem State.InForm.abandonActivation (h : s.InForm) (cls) : (Machine.abandonActivation cls s).InForm := by
  unfold Machine.abandonActivation
  split
  · exact h
  · refine .result (.setBoot (.setFlag (.updEvent (.flRest ?_) ..) ..) ..) ..
    split
    · refine .setBoot (.ite ((h.setBoot ..).flRest.fold ?_).abandonMigration h) ..
      intro _ _ h
      split
      · exact .ite (h.wsPut ..) h
      · exact h
    · refine .ite ((h.setBoot ..).flRest.fold ?_).abandonMigration h
      intro _ _ h
      split
      · exact .ite (h.wsPut ..) h
      · exact h

theorem State.InForm.bankLeaves (h : s.InForm) : (Machine.bankLeaves s).InForm := .ite ((h.modAct ..).setBoot ..) h

theorem State.InForm.execBankBReady (h : s.InForm) {t} (e : Machine.execBankBReady s = .next t) : t.InForm :=
  h.next e fun _ h => h.guard (fun h => h.modAct ..)

theorem State.InForm.mainHandover (h : s.InForm) : (Machine.mainHandover s).InForm := ((((h.takeImage ..).handKeys ..).modAct ..).setBoot
    ..).updEvent ..

theorem State.InForm.execMainHandover (h : s.InForm) {t} (e : Machine.execMainHandover s = .next t) : t.InForm :=
  h.next e fun _ h => h.guard (fun h => h.mainHandover)

theorem State.InForm.execBankAJoin (h : s.InForm) {t} (e : Machine.execBankAJoin s = .next t) : t.InForm :=
  h.next e fun _ h => h.guard (fun h => (h.setBoot ..).classDone)

theorem State.InForm.mainTimeout (h : s.InForm) (replayFail) : (Machine.mainTimeout replayFail s).InForm := by
  unfold Machine.mainTimeout
  split
  · exact h
  · exact .ite (.ite (h.updEvent ..).classDone h) (.ite ((h.setBoot ..).abandonActivation ..) h)

theorem State.InForm.execMainUpdateTimeout (h : s.InForm) {replayFail t} (e : Machine.execMainUpdateTimeout replayFail s = .next t) : t.InForm :=
  h.next e fun _ h => h.guard (fun h => h.mainTimeout ..)

theorem State.InForm.stratumSwap (h : s.InForm) (ok) : (Machine.stratumSwap ok s).InForm := by
  unfold Machine.stratumSwap
  split
  · exact h
  · exact .ite h (.ite (.ite ((h.modAct ..).abandonActivation ..) (h.modAct ..)) (.ite (h.modAct ..) h))

theorem State.InForm.execGrainStratumSwap (h : s.InForm) {ok t} (e : Machine.execGrainStratumSwap ok s = .next t) : t.InForm :=
  h.next e fun _ h => h.guard (fun h => h.stratumSwap ..)

theorem State.InForm.execAirImageTakeover (h : s.InForm) {t} (e : Machine.execAirImageTakeover s = .next t) : t.InForm :=
  h.next e fun _ h => h.guard (fun h => ((h.takeImage ..).modAct ..).updEvent ..)

theorem State.InForm.execAirImageHandback (h : s.InForm) {t} (e : Machine.execAirImageHandback s = .next t) : t.InForm :=
  h.next e fun _ h => h.guard (fun h => h.abandonActivation ..)

theorem State.InForm.execFlintImageTakeover (h : s.InForm) {ok t} (e : Machine.execFlintImageTakeover ok s = .next t) : t.InForm :=
  h.next e fun _ h => h.guard (fun h => .ite (((h.takeImage ..).handKeys ..).updEvent ..).classDone (h.abandonActivation ..))

theorem State.InForm.keysDone (h : s.InForm) : (Machine.keysDone s).InForm := by
  unfold Machine.keysDone
  split
  · exact .ite h.finishMigration h
  · exact .ite h.finishMigration h
  · exact h

theorem State.InForm.restartNow (h : s.InForm) (i a) : (Machine.restartNow i a s).InForm :=
  ((((h.fold (fun _ _ h => h.modSlots ..)).deferFlash.farewell.mainOff.serviceOff.setBoot ..).startService ..).updEvent ..).setFlag ..

theorem State.InForm.updateTick (h : s.InForm) (i) : (Machine.updateTick i s).InForm := by
  unfold Machine.updateTick
  dsimp only
  split
  · exact h.keysDone.payOwed
  · refine .ite (.ite (h.keysDone.payOwed.restartNow ..) h.keysDone.payOwed) ?_
    split
    · exact h.keysDone.payOwed.finishActivation
    · exact .ite ((h.keysDone.payOwed.takeImage ..).updEvent ..).classDone h.keysDone.payOwed
    · exact .ite h.keysDone.payOwed.classDone h.keysDone.payOwed
    · exact h.keysDone.payOwed

theorem State.InForm.execJournalCommit (h : s.InForm) {complete t} (e : Machine.execJournalCommit complete s = .next t) : t.InForm :=
  h.next e fun _ h => .ite (h.guard (fun h => h.completeCommit)) (h.guard (fun h => h.setBoot ..))

theorem State.InForm.execFlashDeviceFail (h : s.InForm) {dev t} (e : Machine.execFlashDeviceFail dev s = .next t) : t.InForm :=
  h.next e fun _ h => h.guard (fun h => ((h.setBoot ..).setFlag ..).owner ..)

theorem opDiagRead_keeps : opDiagRead.Keeps := fun _ _ h => h
theorem State.InForm.exportPart (h : s.InForm) (c total i) : (Machine.exportPart c total s i).InForm := h.put.raise ..
theorem opJournalExport_keeps : opJournalExport.Keeps := fun _ _ h => (h.put.fold (fun _ _ h => h.exportPart ..)).result ..

theorem State.InForm.execImageStage (h : s.InForm) {src tlvs t} (e : Machine.execImageStage src tlvs s = .next t) : t.InForm := h.execOp
    opImageStage_keeps e

theorem State.InForm.execImageActivate (h : s.InForm) {src tlvs t} (e : Machine.execImageActivate src tlvs s = .next t) : t.InForm :=
  h.execOp opImageActivate_keeps e

theorem State.InForm.execDiagRead (h : s.InForm) {src tlvs t} (e : Machine.execDiagRead src tlvs s = .next t) : t.InForm := h.execOp
    opDiagRead_keeps e

theorem State.InForm.execJournalExport (h : s.InForm) {src tlvs t} (e : Machine.execJournalExport src tlvs s = .next t) : t.InForm :=
  h.execOp opJournalExport_keeps e

/-! ### Machine/Power.lean: feeds, GPIO and UX1 -/

theorem State.InForm.setUx1 (h : s.InForm) (f) : (s.setUx1 f).InForm := h.put

theorem State.InForm.ux1Renew (h : s.InForm) : (Machine.ux1Renew s).InForm := by
  unfold Machine.ux1Renew
  refine .ite h ?_
  split
  · exact (h.setUx1 ..).send ..
  · exact h.setUx1 ..

theorem State.InForm.ux1Ask (h : s.InForm) (swap) : (Machine.ux1Ask swap s).InForm := .ite (((h.send ..).send ..).send ..) (h.send ..)

theorem State.InForm.ux1Supply (h : s.InForm) : (Machine.ux1Supply s).InForm :=
  .ite h (.ite (((h.setUx1 ..).send ..).send ..) (.ite ((h.setUx1 ..).send ..) h))

theorem State.InForm.moveFeed (h : s.InForm) (f mv) : (Machine.moveFeed f mv s).InForm :=
  .ux1Supply (.ite (.owner (.ite ((h.setFeed ..).owner ..) (h.setFeed ..)) ..) (.ite ((h.setFeed ..).owner ..) (h.setFeed ..)))

theorem State.InForm.senseFeed (h : s.InForm) (f mv) : (Machine.senseFeed f mv s).InForm := .ite (h.moveFeed ..) h

theorem State.InForm.feedUsable (h : s.InForm) (f mv i) : (Machine.feedUsable f mv i s).InForm := by
  have h1 (g) : ({ s.setFeed f g with pw := { (s.setFeed f g).pw with noFlash := false } } : State).InForm := (h.setFeed ..).put
  unfold Machine.feedUsable
  refine .moveFeed (.ite (h1 _) (.ite ((h1 _).startService ..) (.startMain (.put ?_)))) ..
  exact .ite (h1 _).ux1Renew (h1 _)

theorem State.InForm.execFeedUsable (h : s.InForm) {feed start t} (e : Machine.execFeedUsable feed start s = .next t) : t.InForm :=
  h.next e fun _ h => h.guard (fun h => h.feedUsable ..)

theorem State.InForm.ux1StopSource (h : s.InForm) : (Machine.ux1StopSource s).InForm := .ite ((((h.closePath ..).owner ..).send ..).put.setFlag ..) h

theorem State.InForm.allFeedsLost (h : s.InForm) : (Machine.allFeedsLost s).InForm := by
  have h1 : ({ s with pw := { s.pw with noFlash := true, inputW := 0 } } : State).InForm := h.put
  unfold Machine.allFeedsLost
  dsimp only
  refine .ite (.ux1Renew (.put (.ite ?_ ?_))) (.serviceOff ?_)
  · exact h1.ux1StopSource.mainOff.put.abandonActivation ..
  · exact h1.ux1StopSource.mainOff.put
  · exact h1.ux1StopSource.mainOff.put

theorem State.InForm.execFeedLost (h : s.InForm) {feed t} (e : Machine.execFeedLost feed s = .next t) : t.InForm :=
  h.next e fun _ h => h.guard (fun h => (((h.setFeed ..).setFlag ..).owner ..).ux1Supply)

theorem State.InForm.execAllFeedsLost (h : s.InForm) {t} (e : Machine.execAllFeedsLost s = .next t) : t.InForm :=
  h.next e fun _ h => h.guard (fun h => (((h.setFeed ..).setFeed ..).setFlag ..).allFeedsLost)

theorem State.InForm.execInputLow (h : s.InForm) {feed t} (e : Machine.execInputLow feed s = .next t) : t.InForm :=
  h.next e fun _ h => h.guard (fun h => h.moveFeed ..)

theorem State.InForm.execInputHigh (h : s.InForm) {feed t} (e : Machine.execInputHigh feed s = .next t) : t.InForm :=
  h.next e fun _ h => h.guard (fun h => h.moveFeed ..)

theorem State.InForm.execOvpTrip (h : s.InForm) {feed t} (e : Machine.execOvpTrip feed s = .next t) : t.InForm :=
  h.next e fun _ h => h.guard (fun h => .ite (((h.setFeed ..).setFlag ..).owner ..).ux1Supply (((h.setFeed ..).setFlag ..).owner ..).allFeedsLost)

theorem State.InForm.execOvpReconnect (h : s.InForm) {feed start t} (e : Machine.execOvpReconnect feed start s = .next t) : t.InForm :=
  h.next e fun _ h => h.guard (fun h => h.feedUsable ..)

theorem State.InForm.execCarrierRst (h : s.InForm) {t} (e : Machine.execCarrierRst s = .next t) : t.InForm :=
  h.next e fun _ h => h.guard (fun h => h.deferFlash.farewell.mainOff.serviceOff.put)

theorem State.InForm.execCarrierRstRelease (h : s.InForm) {start t} (e : Machine.execCarrierRstRelease start s = .next t) : t.InForm :=
  h.next e fun _ h => h.guard (fun h => .ite (h.put.startService ..) h.put)

theorem State.InForm.sampleLoop (h : s.InForm) (ohm) : (Machine.sampleLoop s ohm).InForm := .ite h (.ite h.put (.owner (.ite h.put (h.put.setFlag
    ..)) ..))

theorem State.InForm.sampleLoops (h : s.InForm) (n ohm) : (Machine.sampleLoops n ohm s).InForm := by
  induction n generalizing s with
  | zero => exact h
  | succ n ih => exact ih (h.sampleLoop _)

theorem State.InForm.execTamperLoop (h : s.InForm) {n ohm t} (e : Machine.execTamperLoop n ohm s = .next t) : t.InForm := h.next e fun _ h =>
    h.sampleLoops ..

theorem State.InForm.driveGpio (h : s.InForm) : (Machine.driveGpio s).InForm := h.send ..

theorem State.InForm.execGpioDirWrite (h : s.InForm) {dir t} (e : Machine.execGpioDirWrite dir s = .next t) : t.InForm :=
  h.next e fun _ h => h.guard (fun h => (h.setReg ..).driveGpio)

theorem State.InForm.ux1Event (h : s.InForm) : (Machine.ux1Event s).InForm := h.owner ..

theorem State.InForm.execUx1Attach (h : s.InForm) {source t} (e : Machine.execUx1Attach source s = .next t) : t.InForm :=
  h.next e fun _ h => h.guard (fun h => (h.setUx1 ..).ux1Supply.ux1Event)

theorem State.InForm.brownOut (h : s.InForm) : (Machine.brownOut s).InForm := h.serviceOff.put

theorem State.InForm.execUx1SourceCaps (h : s.InForm) {offers unconstrained typeC3A start t} (e : Machine.execUx1SourceCaps offers unconstrained
    typeC3A start s = .next t) : t.InForm := by
  refine h.next e ?_
  intro _ h
  refine h.guard ?_
  intro h
  refine .ite ?_ (.ite (.ite ?_ (.startService (.put ?_) ..)) (.ite (.brownOut ?_) ?_))
  · split
    · exact ((h.setUx1 ..).setUx1 ..).send ..
    · exact (h.setUx1 ..).setUx1 ..
  · split
    · exact ((h.setUx1 ..).setUx1 ..).send ..
    · exact (h.setUx1 ..).setUx1 ..
  · split
    · exact ((h.setUx1 ..).setUx1 ..).send ..
    · exact (h.setUx1 ..).setUx1 ..
  · split
    · exact ((h.setUx1 ..).setUx1 ..).send ..
    · exact (h.setUx1 ..).setUx1 ..
  · split
    · exact ((h.setUx1 ..).setUx1 ..).send ..
    · exact (h.setUx1 ..).setUx1 ..

theorem State.InForm.prSwap (h : s.InForm) : (Machine.prSwap s).InForm := by
  unfold Machine.prSwap
  exact .setUx1 (.ite (h.send ..) h) ..

theorem State.InForm.execUx1PrSwapRequest (h : s.InForm) {t} (e : Machine.execUx1PrSwapRequest s = .next t) : t.InForm :=
  h.next e fun _ h => h.guard (fun h => .ite (h.send ..).prSwap ((h.setFlag ..).send ..))

theorem State.InForm.execUx1DrSwapRequest (h : s.InForm) {t} (e : Machine.execUx1DrSwapRequest s = .next t) : t.InForm :=
  h.next e fun _ h => h.guard (fun h => .ite (h.send ..) ((h.setUx1 ..).send ..))

theorem State.InForm.execUx1PrSwapInitiate (h : s.InForm) {t} (e : Machine.execUx1PrSwapInitiate s = .next t) : t.InForm :=
  h.next e fun _ h => h.guard (fun h => (h.ux1Ask ..).prSwap)

theorem State.InForm.ux1SwapEnd (h : s.InForm) : (Machine.ux1SwapEnd s).InForm := (h.setUx1 ..).ux1Supply

theorem State.InForm.execUx1DrSwapInitiate (h : s.InForm) {t} (e : Machine.execUx1DrSwapInitiate s = .next t) : t.InForm :=
  h.next e fun _ h => h.guard (fun h => (h.setUx1 ..).ux1Ask ..)

theorem State.InForm.execUx1Collision (h : s.InForm) {t} (e : Machine.execUx1Collision s = .next t) : t.InForm :=
  h.next e fun _ h => h.guard (fun h => .ite (h.setFlag ..) ((h.setFlag ..).put.send ..))

theorem State.InForm.execUx1Detach (h : s.InForm) {vbus t} (e : Machine.execUx1Detach vbus s = .next t) : t.InForm :=
  h.next e fun _ h => h.guard (fun h => .ite (.brownOut (.owner (.setFlag (.setUx1 (.closePath (.ite (h.send ..) h) ..) ..) ..) ..)) (.owner
      (.setFlag (.setUx1 (.closePath (.ite (h.send ..) h) ..) ..) ..) ..))

theorem State.InForm.execUx1PsRdyTimeout (h : s.InForm) {t} (e : Machine.execUx1PsRdyTimeout s = .next t) : t.InForm :=
  h.next e fun _ h => h.guard (fun h => ((h.send ..).setUx1 ..).ux1Supply)

/-! ### Machine/Tenancy.lean: vCtls -/

theorem State.InForm.vctlState (h : s.InForm) (v code) : (Machine.vctlState v code s).InForm := h.owner ..
theorem State.InForm.setTimers (h : s.InForm) (v n) : (Machine.setTimers v n s).InForm := h.rest

theorem State.InForm.setDmaChans (h : s.InForm) (v n) : (Machine.setDmaChans v n s).InForm := (h.fold (fun _ _ h => h.qrRest)).fold (fun _ _ h =>
    h.qrRest)

theorem State.InForm.giveQuotas (h : s.InForm) (v q refillSet) : (Machine.giveQuotas v q refillSet s).InForm :=
  (((h.modVctl ..).setWorkspace ..).setTimers ..).setDmaChans ..

theorem State.InForm.quotaChanged (h : s.InForm) (v) : (Machine.quotaChanged v s).InForm := by
  unfold Machine.quotaChanged
  split
  · exact h.raise ..
  · exact h

theorem opQuotaSet_keeps : opQuotaSet.Keeps := by
  intro c s h
  dsimp only [opQuotaSet]
  split
  · exact h
  · exact (h.giveQuotas ..).quotaChanged ..

theorem State.InForm.createVctl (h : s.InForm) (v q) : (Machine.createVctl v q s).InForm := ((h.tn ..).putSes.giveQuotas ..).vctlState ..

theorem opVctlCreate_keeps : opVctlCreate.Keeps := by
  intro c s h
  dsimp only [opVctlCreate]
  split
  · exact h
  · exact h.createVctl ..

theorem State.InForm.removeSession (h : s.InForm) (v) : (Machine.removeSession v s).InForm := by
  have h1 : (if (tget s.ses.assoc v).isSome then s.send .dtlsCloseNotify v else s).InForm := .ite (h.send ..) h
  exact { h1 with assoc := twf_terase _ _ h1.assoc }

theorem State.InForm.removeLight (h : s.InForm) (v) : (Machine.removeLight v s).InForm := by
  unfold Machine.removeLight
  exact (((h.fold (fun _ _ h => h.unflag ..)).fold (fun _ _ h => h.endLease ..)).fold (fun _ _ h => h.endSrcs ..)).sl ..

theorem State.InForm.removeVctl (h : s.InForm) (v) : (Machine.removeVctl v s).InForm := by
  unfold Machine.removeVctl
  extract_lets s1 s2 s3 s4 s5 s6 s7 s8 s9 s10 s11
  have h3 : s3.InForm := (((h.removeSession v).removeLight v).semRemove v |>.bridgeRemove v).fold fun _ _ h => h.modDch ..
  have h5 : s5.InForm := ((h3.flintRemove v).detachAll v).fold fun _ _ h => h.setField ..
  have h7 : s7.InForm := (h5.ar _).fold fun _ _ h => h.unwriteMib _
  clear_value s7
  have h10 : s10.InForm := ((h7.lm _).geo' _).qrRest
  clear_value s10
  exact (h10.rest.modVctl ..).vctlState ..

theorem opVctlRemove_keeps : opVctlRemove.Keeps := by
  intro c s h
  dsimp only [opVctlRemove]
  split
  · exact h
  · exact h.removeVctl ..

theorem State.InForm.endRemoval (h : s.InForm) (v) : (Machine.endRemoval v s).InForm := by
  have h1 := ((((h.bridgeForce v).setWorkspace v 0).setTimers v 0).setDmaChans v 0).tn
  exact (h1 _).putSes.vctlState ..

theorem State.InForm.execVctlRemovalEnd (h : s.InForm) {v t} (e : Machine.execVctlRemovalEnd v s = .next t) : t.InForm :=
  h.next e fun _ h => h.guard (fun h => h.endRemoval ..)

theorem State.InForm.applyRights (h : s.InForm) (c) : (Machine.applyRights c s).InForm := by
  unfold Machine.applyRights
  exact .setEpRights (.raise (.ite ((h.modVctl ..).detachAll ..) (h.modVctl ..)) ..) ..

theorem opRightsSet_keeps : opRightsSet.Keeps := by
  intro c s h
  dsimp only [opRightsSet]
  split
  · exact h
  · exact h.applyRights ..

theorem State.InForm.credTlv (h : s.InForm) (v t) : (Machine.credTlv v s t).InForm :=
  .ite (.ite (h.modVctl ..) ((h.modVctl ..).modAssoc ..)) (.ite (h.modVctl ..) (.ite h.put (.ite (.ite (h.putSes.modAssoc ..) h.put) h)))

theorem opCredSet_keeps : opCredSet.Keeps := by
  intro c s h
  dsimp only [opCredSet]
  split
  · exact h
  · exact h.fold (fun _ _ h => h.credTlv ..)

theorem opRegwinGrant_keeps : opRegwinGrant.Keeps := by
  intro c s h
  dsimp only [opRegwinGrant]
  split
  · exact h
  · exact .fst (h.modVctl ..)

theorem State.InForm.compactView (h : s.InForm) (v) : (Machine.compactView v s).1.InForm := by
  unfold Machine.compactView
  split
  · exact h
  · exact .fst (h.modVctl ..)

theorem State.InForm.execVctlCreate (h : s.InForm) {src tlvs t} (e : Machine.execVctlCreate src tlvs s = .next t) : t.InForm := h.execOp
    opVctlCreate_keeps e

theorem State.InForm.execVctlRemove (h : s.InForm) {src tlvs t} (e : Machine.execVctlRemove src tlvs s = .next t) : t.InForm := h.execOp
    opVctlRemove_keeps e

theorem State.InForm.execRightsSet (h : s.InForm) {src tlvs t} (e : Machine.execRightsSet src tlvs s = .next t) : t.InForm := h.execOp
    opRightsSet_keeps e

theorem State.InForm.execQuotaSet (h : s.InForm) {src tlvs t} (e : Machine.execQuotaSet src tlvs s = .next t) : t.InForm := h.execOp
    opQuotaSet_keeps e

theorem State.InForm.execCredSet (h : s.InForm) {src tlvs t} (e : Machine.execCredSet src tlvs s = .next t) : t.InForm := h.execOp opCredSet_keeps e

theorem State.InForm.execRegwinGrant (h : s.InForm) {src tlvs t} (e : Machine.execRegwinGrant src tlvs s = .next t) : t.InForm :=
  h.execOp opRegwinGrant_keeps e

/-! ### Machine/Session.lean: handshakes and associations -/

theorem State.InForm.modHs (h : s.InForm) (id f) : (s.modHs id f).InForm := h.putSes

theorem State.InForm.issueCid (h : s.InForm) (h') : (Machine.issueCid h' s).2.InForm := by
  unfold Machine.issueCid
  split
  · exact h.put
  · exact h

theorem State.InForm.startHs (h : s.InForm) (id hello path) : (Machine.startHs id hello path s).InForm := by
  unfold Machine.startHs
  refine .ite h ?_
  split
  · exact h.send ..
  · exact (h.issueCid ..).putSes

theorem State.InForm.clientHello (h : s.InForm) (id hello path cookie) : (Machine.clientHello id hello path cookie s).InForm :=
  .ite h (.ite (h.send ..) (h.startHs ..))

theorem State.InForm.execClientHello (h : s.InForm) {id hello path cookie t} (e : Machine.execClientHello id hello path cookie s = .next t) :
    t.InForm :=
  h.next e fun _ h => h.clientHello ..

theorem State.InForm.serverFlight (h : s.InForm) (id h') : (Machine.serverFlight id h' s).InForm := (h.modHs ..).sendVia ..

theorem State.InForm.execServerFlight (h : s.InForm) {id t} (e : Machine.execServerFlight id s = .next t) : t.InForm := by
  refine h.next e ?_
  intro _ h
  split
  · exact h.guard (fun h => h.serverFlight ..)
  · exact h

theorem State.InForm.execClientFinished (h : s.InForm) {id key t} (e : Machine.execClientFinished id key s = .next t) : t.InForm := by
  refine h.next e ?_
  intro _ h
  split
  · exact h.guard (fun h => h.modHs ..)
  · exact h

theorem State.InForm.openAssoc (h : s.InForm) (n p sel) : (Machine.openAssoc n p sel s).InForm := by
  have h1 := h.closeSession n
  refine .sendVia ?_ ..
  exact { h1 with assoc := twf_tset _ _ _ h1.assoc }

theorem State.InForm.concludeHs (h : s.InForm) (e) : (Machine.concludeHs s e).InForm := by
  unfold Machine.concludeHs
  split
  · exact h
  · exact .ite (h.putSes.openAssoc ..) (h.putSes.sendVia ..)

theorem State.InForm.concludeAll (h : s.InForm) : (Machine.concludeAll s).InForm := h.fold (fun _ _ h => h.concludeHs ..)
theorem State.InForm.execDtlsAlert (h : s.InForm) {id t} (e : Machine.execDtlsAlert id s = .next t) : t.InForm := h.next e fun _ h => h.putSes

theorem State.InForm.execDtlsRetransmit (h : s.InForm) {id t} (e : Machine.execDtlsRetransmit id s = .next t) : t.InForm := by
  refine h.next e ?_
  intro _ h
  split
  · exact h.guard (fun h => h.sendVia ..)
  · exact h

theorem State.InForm.execHandshakeTimeout (h : s.InForm) {id t} (e : Machine.execHandshakeTimeout id s = .next t) : t.InForm := by
  refine h.next e ?_
  intro _ h
  split
  · exact h.guard (fun h => h.putSes)
  · exact h

theorem State.InForm.execAssocIdleTimeout (h : s.InForm) {key t} (e : Machine.execAssocIdleTimeout key s = .next t) : t.InForm := by
  refine h.next e ?_
  intro _ h
  split
  · exact h.guard (fun h => h.dropAssoc ..)
  · exact h

theorem State.InForm.execDtlsKeyUpdate (h : s.InForm) {key acked t} (e : Machine.execDtlsKeyUpdate key acked s = .next t) : t.InForm := by
  refine h.next e ?_
  intro _ h
  split
  · exact .ite (h.guard (fun h => h.modAssoc ..)) (h.guard (fun h => h.sendKeyUpdate ..))
  · exact h

theorem State.InForm.execDtlsRecordLimit (h : s.InForm) {key t} (e : Machine.execDtlsRecordLimit key s = .next t) : t.InForm := by
  refine h.next e ?_
  intro _ h
  split
  · exact h.guard (fun h => h.closeSession ..)
  · exact h

theorem State.InForm.sessionOpened (h : s.InForm) (m c) : (Machine.sessionOpened m c s).1.InForm := by
  have h1 := h.modAssoc c.key
  unfold Machine.sessionOpened
  dsimp only
  split
  · exact h1 _
  · exact .iteFst (h1 _) (.fst ((h1 _).compactView _))

theorem opSessionOpen_keeps (vmaj a tlvs) : (opSessionOpen vmaj a tlvs).Keeps := by
  intro c s h
  dsimp only [opSessionOpen]
  split
  · exact h.sessionOpened ..
  · exact h

theorem State.InForm.sessionOpen (h : s.InForm) (vmaj src tlvs) : (Machine.sessionOpen vmaj src tlvs s).InForm := by
  unfold Machine.sessionOpen
  split
  · exact h
  · exact h.runAs (opSessionOpen_keeps _ _ _) ..

theorem State.InForm.execSessionOpen (h : s.InForm) {vmaj src tlvs t} (e : Machine.execSessionOpen vmaj src tlvs s = .next t) : t.InForm :=
  h.next e fun _ h => h.sessionOpen ..

theorem opSessionClose_keeps : opSessionClose.Keeps := fun _ _ h => h

theorem State.InForm.execSessionClose (h : s.InForm) {src tlvs t} (e : Machine.execSessionClose src tlvs s = .next t) : t.InForm :=
  h.execOp opSessionClose_keeps e

theorem opKeepalive_keeps : opKeepalive.Keeps := fun _ _ h => h

theorem State.InForm.execKeepalive (h : s.InForm) {src tlvs t} (e : Machine.execKeepalive src tlvs s = .next t) : t.InForm := h.execOp
    opKeepalive_keeps e

theorem opDeviceInfo_keeps : opDeviceInfo.Keeps := fun _ _ h => h

theorem State.InForm.execDeviceInfo (h : s.InForm) {src tlvs t} (e : Machine.execDeviceInfo src tlvs s = .next t) : t.InForm := h.execOp
    opDeviceInfo_keeps e

theorem State.InForm.modQueue (h : s.InForm) (k f) : (s.modQueue k f).InForm := h.putSes
theorem opEvtSubscribe_keeps : opEvtSubscribe.Keeps := fun _ _ h => h.modQueue ..

theorem State.InForm.execEvtSubscribe (h : s.InForm) {src tlvs t} (e : Machine.execEvtSubscribe src tlvs s = .next t) : t.InForm :=
  h.execOp opEvtSubscribe_keeps e

theorem opEvtAck_keeps : opEvtAck.Keeps := fun _ _ h => h.modQueue ..
theorem State.InForm.execEvtAck (h : s.InForm) {src tlvs t} (e : Machine.execEvtAck src tlvs s = .next t) : t.InForm := h.execOp opEvtAck_keeps e

/-! ### Machine/Thermal.lean: heat and HBM errors -/

theorem State.InForm.thermalStep (h : s.InForm) (die last) : (Machine.thermalStep die last s).InForm := by
  unfold Machine.thermalStep
  exact h.th ..

theorem State.InForm.execThermalStep (h : s.InForm) {die last t} (e : Machine.execThermalStep die last s = .next t) : t.InForm :=
  h.next e fun _ h => h.guard (fun h => h.thermalStep ..)

theorem State.InForm.idlePorts (h : s.InForm) : (Machine.idlePorts s).InForm := .ite h ((h.fold (fun _ _ h => .ite (h.modGrain ..) h)).th ..)
theorem State.InForm.powerUp (h : s.InForm) (p) : (Machine.powerUp s p).InForm := .ite (h.modGrain ..) h

theorem State.InForm.thermTick (h : s.InForm) : (Machine.thermTick s).InForm := by
  unfold Machine.thermTick
  split
  · exact h.idlePorts
  · exact .idlePorts (.owner (.ite (.count (.setFlag (.th (.ite ((h.fold (fun _ _ h => h.powerUp ..)).th ..) h) ..) ..) ..) (.th (.ite ((h.fold (fun
      _ _ h => h.powerUp ..)).th ..) h) ..)) ..)

theorem State.InForm.probe (h : s.InForm) (port signal) : (Machine.probe port signal s).InForm := .ite (((h.th ..).powerUp ..).th ..) (h.th ..)

theorem State.InForm.execIdlePortProbe (h : s.InForm) {port signal t} (e : Machine.execIdlePortProbe port signal s = .next t) : t.InForm :=
  h.next e fun _ h => h.guard (fun h => h.probe ..)

theorem State.InForm.warning (h : s.InForm) (code sensor t) : (Machine.warning code sensor t s).InForm := ((h.setFlag ..).count ..).owner ..

theorem State.InForm.execThermalWarning (h : s.InForm) {hbm sensor x2 t} (e : Machine.execThermalWarning hbm sensor x2 s = .next t) : t.InForm :=
  h.next e fun _ h => .ite (h.guard (fun h => (h.th ..).warning ..)) (h.guard (fun h => (h.th ..).warning ..))

theorem State.InForm.execHbmHot (h : s.InForm) {stack x1 t} (e : Machine.execHbmHot stack x1 s = .next t) : t.InForm :=
  h.next e fun _ h => h.guard (fun h => h.th ..)

theorem State.InForm.thermalOff (h : s.InForm) (sensor t hard) : (Machine.thermalOff sensor t hard s).InForm := h.mainOff.serviceOff.th ..

theorem State.InForm.execThermalShutdown (h : s.InForm) {sensor temps t} (e : Machine.execThermalShutdown sensor temps s = .next t) : t.InForm :=
  h.next e fun _ h => h.guard (fun h => h.deferFlash.farewell.thermalOff ..)

theorem State.InForm.execThermalTrip (h : s.InForm) {sensor x1 t} (e : Machine.execThermalTrip sensor x1 s = .next t) : t.InForm :=
  h.next e fun _ h => h.guard (fun h => h.thermalOff ..)

theorem State.InForm.execThermalRestart (h : s.InForm) {start t} (e : Machine.execThermalRestart start s = .next t) : t.InForm :=
  h.next e fun _ h => h.guard (fun h => (((h.th ..).th ..).put.startService ..).owner ..)

theorem State.InForm.eccCorrected (h : s.InForm) (addr) : (Machine.eccCorrected addr s).InForm :=
  .ite ((((h.count ..).setFlag ..).owner ..).th ..) ((h.count ..).setFlag ..)

theorem State.InForm.execHbmEccError (h : s.InForm) {addr correctable t} (e : Machine.execHbmEccError addr correctable s = .next t) : t.InForm :=
  h.next e fun _ h => h.guard (fun h => .ite (h.eccCorrected ..) ((h.th ..).eccUncorrected ..))

end Sys2Proof.Machine
end

section
/-!
SUPPORT. Register commands, wakes, packets, the freeze, timers, PTP and the frame tick keep the form of the state, and so every step (O59).
-/
namespace Sys2Proof.Machine

set_option Elab.async false
variable {s : State}

/-! ### Machine/RegFile.lean: registers over REG_READ and REG_WRITE -/

theorem State.InForm.readEffect (h : s.InForm) (b) : (Machine.readEffect b s).InForm := .ite h.nsRead (.ite h.frameLoRead h)

theorem State.InForm.readReg (h : s.InForm) (a) : (Machine.readReg a s).1.InForm := by
  unfold Machine.readReg
  split
  · exact h
  · exact h.readEffect ..

theorem State.InForm.writeTmrCtl (h : s.InForm) (n v) : (Machine.writeTmrCtl n v s).InForm :=
  .ite (h.setReg ..) (.ite (.setFlag (.ite ((h.setReg ..).armTimer ..) ((h.setReg ..).setReg ..)) ..) (.ite ((h.setReg ..).armTimer ..) ((h.setReg
      ..).setReg ..)))

theorem State.InForm.writeTmrValue (h : s.InForm) (a n v) : (Machine.writeTmrValue a n v s).InForm := .ite (h.setFlag ..) (h.setReg ..)

theorem State.InForm.writeLdsCtl (h : s.InForm) (v) : (Machine.writeLdsCtl v s).InForm :=
  .ite (.offsetLoad (.ite h.ldsRest (h.ldsRest.ldsRest.send ..)) ..) (.ite h.ldsRest (h.ldsRest.ldsRest.send ..))

theorem State.InForm.writeRefCfg (h : s.InForm) (v) : (Machine.writeRefCfg v s).InForm :=
  .ite (.ite (.ite (.ite h.ldsRest (h.ldsRest.lose ..)) (.lose (.ite h.ldsRest (h.ldsRest.lose ..)) ..)) (.lose (.ite (.ite h.ldsRest
      (h.ldsRest.lose ..)) (.lose (.ite h.ldsRest (h.ldsRest.lose ..)) ..)) ..)) (.lose (.ite (.ite (.ite h.ldsRest (h.ldsRest.lose ..)) (.lose
      (.ite h.ldsRest (h.ldsRest.lose ..)) ..)) (.lose (.ite (.ite h.ldsRest (h.ldsRest.lose ..)) (.lose (.ite h.ldsRest (h.ldsRest.lose ..)) ..))
      ..)) ..)

theorem State.InForm.writeHook (h : s.InForm) (b n v) : FormSome (Machine.writeHook b n v s) := by
  unfold Machine.writeHook
  refine .ite (.some h.put) (.ite (.some h.put) (.ite (.some (h.writeInc _)) (.ite (.some h.ldsRest) (.ite (.some (h.writeLdsCtl _)) ?_))))
  refine .ite (.some (h.writeRefCfg _)) (.ite (.some h.ldsRest) (.ite (.some h.ldsRest) (.ite (.some (h.writeTmrCtl ..)) ?_)))
  refine .ite (.some (h.writeTmrValue ..)) (.ite (.some (h.writeTmrValue ..)) (.ite (.some (h.writeTmrValue ..)) (.ite (.some h) ?_)))
  refine .ite (.some (.ite (h.modGrain ..) ((h.modGrain ..).setRateCfg ..))) (.ite (.some (h.setReg ..)) (.ite (.some (h.sl _)) ?_))
  refine .ite (.some h.qrRest) (.ite (.some (h.modDch ..)) (.ite (.some (h.setLevel ..)) (.ite (.some (h.modDch ..)) (.ite (.some (h.ar _)) ?_))))
  exact .ite (.some (h.writeTxEn ..)) (.ite (.some (h.setReg ..).driveGpio) (.ite (.some (h.setReg ..).driveGpio) .none))

theorem State.InForm.writeReg (h : s.InForm) (a v) : (Machine.writeReg a v s).1.InForm := by
  unfold Machine.writeReg
  dsimp only
  split
  · exact h
  · refine .iteFst h ?_
    split
    next e => exact (h.writeHook ..).form e
    · exact h.setReg ..

theorem State.InForm.readRegs (h : s.InForm) (l) : (Machine.readRegs l s).1.InForm := by
  induction l generalizing s with
  | nil => exact h
  | cons a l ih => exact ih (h.readReg _)

theorem State.InForm.writeRegs (h : s.InForm) (l) : (Machine.writeRegs l s).1.InForm := by
  induction l generalizing s with
  | nil => exact h
  | cons e l ih => exact ih (h.writeReg ..)

theorem opRegRead_keeps : opRegRead.Keeps := fun _ _ h => h.readRegs ..
theorem opRegWrite_keeps : opRegWrite.Keeps := fun _ _ h => h.writeRegs ..
theorem State.InForm.execRegRead (h : s.InForm) {src tlvs t} (e : Machine.execRegRead src tlvs s = .next t) : t.InForm := h.execOp opRegRead_keeps e

theorem State.InForm.execRegWrite (h : s.InForm) {src tlvs t} (e : Machine.execRegWrite src tlvs s = .next t) : t.InForm := h.execOp
    opRegWrite_keeps e

/-! ### Machine/Wakes.lean: traffic wakes -/

theorem State.InForm.raiseEvs (h : s.InForm) (code t) : (Machine.raiseEvs code t s).1.InForm :=
  State.InForm.foldFst (fun _ _ h => .iteFst (.fst (h.owner ..)) h) _ h

theorem State.InForm.fullEvent (h : s.InForm) : (Machine.fullEvent s).InForm := by
  unfold Machine.fullEvent
  split
  · exact .ite (h.owner ..).wkRest h
  · exact h

theorem State.InForm.wakeEvents (h : s.InForm) : (Machine.wakeEvents s).InForm := by
  unfold Machine.wakeEvents
  exact .wkRest ((h.raiseEvs ..).fullEvent.raiseEvs ..)

theorem State.InForm.dropRec (h : s.InForm) (st) : (Machine.dropRec st s).InForm := h.wkRest.setFlag ..
theorem State.InForm.trackFull (h : s.InForm) (st) : (Machine.trackFull st s).InForm := h.wkRest.setFlag ..
theorem State.InForm.lostTrack (h : s.InForm) (b) : (Machine.lostTrack b s).InForm := h.wkRest

theorem State.InForm.applyRec (h : s.InForm) (e) : (Machine.applyRec s e).InForm := by
  unfold Machine.applyRec
  dsimp only
  split
  · refine h.wk _ ?_
    dsimp only
    exact twf_tmod _ _ _ h.tracks
  · exact .ite (h.trackFull _) (h.wk _ (twf_tset _ _ _ h.tracks))

theorem State.InForm.takeRecs (h : s.InForm) : (Machine.takeRecs s).InForm :=
  (h.wkRest.fold (fun _ _ h => h.dropRec ..)).wkRest.fold (fun _ _ h => (h.fold (fun _ _ h => h.dropRec ..)).fold (fun _ _ h => h.applyRec ..))

theorem State.InForm.bookWalk (h : s.InForm) (own cls v st lim w) : (Machine.bookWalk own cls v st lim w s).InForm := by
  unfold Machine.bookWalk
  exact .wkRest (.ite (h.setFlag ..) h)

theorem State.InForm.projectTrack (h : s.InForm) (n t) : (Machine.projectTrack n t s).InForm := by
  unfold Machine.projectTrack
  dsimp only
  split <;> exact h.bookWalk ..

theorem State.InForm.continueSpill (h : s.InForm) (p) : (Machine.continueSpill s p).InForm := h.bookWalk ..

theorem State.InForm.useRec (h : s.InForm) (r) : (Machine.useRec s r).InForm := by
  unfold Machine.useRec
  dsimp only
  split
  · exact h.spOther
  · exact .ite (.ite (h.continueSpill _) h.spOther) (.ite (h.setFlag ..).wkRest.wkRest (.ite (h.trackFull _).wkRest.wkRest
      (State.InForm.wkRest (h.wk _ (twf_tset _ _ _ h.tracks)))))

theorem State.InForm.dropTracks (h : s.InForm) : (Machine.dropTracks s).InForm := h.wk _ (twf_filter _ _ h.tracks)

theorem State.InForm.wakePhase1 (h : s.InForm) : (Machine.wakePhase1 s).InForm := by
  unfold Machine.wakePhase1
  extract_lets s1 s2 inbox later s3 s4 s5
  have h2 : s2.InForm := by
    refine h.takeRecs.wk _ ?_
    dsimp only
    exact twf_tmap _ _ h.takeRecs.tracks
  clear_value s2
  have h3 : s3.InForm := h2.wkRest.dropTracks
  have h4 : s4.InForm := (h3.fold fun _ _ h => h.useRec _).dropTracks
  have h5 : s5.InForm := h4.fold fun _ _ h => h.continueSpill _
  exact (h5.fold fun _ _ h => h.projectTrack ..).wakeEvents

theorem State.InForm.wakeMsgs (h : s.InForm) (addr n l) : (Machine.wakeMsgs addr n l s).InForm := by
  induction n generalizing s l with
  | zero => exact h
  | succ n ih =>
    cases l with
    | nil => exact h
    | cons r l => exact ih (.ite (h.spTo ..) h) _

theorem State.InForm.handover (h : s.InForm) (n t) : (Machine.handover s n t).InForm := by
  have h1 : (s.wk fun w => { w with tracks := terase w.tracks n }).InForm := h.wk _ (twf_terase _ _ h.tracks)
  exact .ite (h1.setFlag ..) (.ite (h1.trackFull _) (h.wk _ (twf_tset _ _ _ h.tracks)))

theorem State.InForm.wakeEpoch (h : s.InForm) (late) : (Machine.wakeEpoch late s).InForm := by
  unfold Machine.wakeEpoch
  extract_lets s1 ready marked toStrata toBorders s2 goes spills s3 now outs s4 s5 s6 s7 held s8 s9 s10
  have h2 : s2.InForm := (h.fold fun _ _ h => h.setFlag ..).fold fun _ _ h => h.handover ..
  have h4 : s4.InForm := State.InForm.wkRest (h2.wk _ (twf_filter _ _ h2.tracks))
  have h5 : s5.InForm := h4.fold fun _ _ h => h.wakeMsgs ..
  have h6 : s6.InForm := h5.fold fun _ _ h => h.lostTrack _
  clear_value s6
  have h8 : s8.InForm := h6.wkRest.wkRest
  have h9 : s9.InForm := by
    refine h8.fold fun _ _ h => ?_
    split
    · exact h.projectTrack ..
    · exact h
  have h10 : s10.InForm := h9.fold fun _ _ h => h.continueSpill _
  clear_value s10
  exact h10.wkRest.wakeEvents

theorem State.InForm.poolEpoch (h : s.InForm) : (Machine.poolEpoch s).InForm :=
  .ite (h.wkRest.fold (fun _ _ h => h.continueSpill ..)).wkRest (h.fold (fun _ _ h => h.setFlag ..))

theorem State.InForm.execWakeHandoffEpoch (h : s.InForm) {pool late t} (e : Machine.execWakeHandoffEpoch pool late s = .next t) : t.InForm :=
  h.next e fun _ h => h.guard (fun h => .ite h.poolEpoch (h.wakeEpoch ..))

theorem State.InForm.startTail (h : s.InForm) (cls k) : (Machine.startTail cls s k).InForm := .ite h.wkRest h

theorem State.InForm.wakeFinal (h : s.InForm) (carried) : (Machine.wakeFinal carried s).InForm := by
  unfold Machine.wakeFinal
  exact (h.wkRest.wkRest.fold (fun _ _ h => h.fold (fun _ _ h => h.startTail ..))).wkRest

theorem State.InForm.wakeRegs (h : s.InForm) : (Machine.wakeRegs s).InForm :=
  ((((h.fold (fun _ _ h => (((h.setReg ..).setField ..).setReg ..).setReg ..)).setField ..).setReg ..).setReg ..).setReg ..

theorem State.InForm.execDetection (h : s.InForm) {str pos hdr recs t} (e : Machine.execDetection str pos hdr recs s = .next t) : t.InForm :=
  h.next e fun _ h => h.onMsl _ _ _ (fun _ h => h.guard (fun h => h.wkRest))

theorem State.InForm.takeWake (h : s.InForm) (r) : (Machine.takeWake s r).InForm :=
  .ite h.spOther (.ite h.wkRest (.ite (.ite (h.wkRest.lostTrack ..).wakeEvents h.wkRest) h))

theorem State.InForm.execWakeMessage (h : s.InForm) {east h' recs t} (e : Machine.execWakeMessage east h' recs s = .next t) : t.InForm :=
  h.next e fun _ h => h.guard (fun h => .ite (h.spAccept ..) (.ite (.ite ((h.spAccept ..).fold (fun _ _ h => h.takeWake ..)) (h.spAccept ..))
      ((h.spAccept ..).spForward ..)))

theorem State.InForm.recheckBinds (h : s.InForm) (st) : (Machine.recheckBinds st s).1.InForm := by
  unfold Machine.recheckBinds
  exact .fst h.wkRest

theorem State.InForm.commitGraph (h : s.InForm) (st n) : FormOk (Machine.commitGraph st n s) := by
  unfold Machine.commitGraph
  dsimp only
  split
  · exact .error _
  · exact .ok (State.InForm.owner (State.InForm.recheckBinds (h.wk _ (twf_filter _ _ h.tracks)) _) ..)

theorem State.InForm.segWake (h : s.InForm) (id b) : FormOk (Machine.segWake id b s) := by
  unfold Machine.segWake
  dsimp only
  split
  · exact .bind fun _ => .ok h.wkRest
  · exact .bind fun _ => h.commitGraph ..
  · exact .bind fun _ => .ok h.wkRest
  · exact .bind fun _ => .ok h.wkRest
  · exact .bind fun _ => .ok h.wkRest
  · exact .bind fun _ => .ok h.wkRest
  · exact .bind fun _ => .ok h.wkRest
  · exact .bind fun _ => .bind fun _ => .ok h.wkRest
  · exact .bind fun _ => .bind fun _ => .ok h.wkRest
  · exact .bind fun _ => .bind fun _ => .bind fun _ => .ok h.wkRest

/-! ### Machine/SegmentConfig.lean: SEGMENT_CONFIG -/

theorem State.InForm.forgetString (h : s.InForm) (g) : (Machine.forgetString g s).InForm := by
  unfold Machine.forgetString
  exact (((((h.keepEntries ..).fold (fun _ _ h => h.bridgeClose ..)).fold (fun _ _ h => (h.fold (fun _ _ h => h.fold (fun _ _ h => h.leaveGroup
      ..))).forgetHandle ..)).sl ..).lm ..).modGrain ..

theorem State.InForm.segOne (h : s.InForm) (id b occ) : FormOk (Machine.segOne id b occ s) :=
  .ite (.bind fun _ => .ok (h.forgetString _)) (.ite (h.segStrings ..) (.ite (h.segLight ..) (.ite (h.segWake ..) (.ite (h.segLamp ..)
    (.ite (h.segPeriod _) (.ite (h.segSeed _) (h.segTraffic ..)))))))

theorem State.InForm.segAll (h : s.InForm) (dst l seen) : FormOk (Machine.segAll dst l seen s) := by
  induction l generalizing s seen with
  | nil => exact .ok h
  | cons e l ih =>
    unfold Machine.segAll
    exact .ite (.then (.ite (h.segDst _) (.ok h)) fun _ h => ih h _) (.then (h.segOne ..) fun _ h => ih h _)

theorem State.InForm.segCommit (h : s.InForm) (c) : (Machine.segCommit c s).1.InForm := by
  unfold Machine.segCommit
  split
  · exact h
  next t e =>
    have ht : t.InForm := (h.segAll ..).form e
    exact .ite ht.phaseMismatch ht

theorem opSegmentConfig_keeps : opSegmentConfig.Keeps := fun _ _ h => h.segCommit ..

theorem State.InForm.execSegmentConfig (h : s.InForm) {src tlvs t} (e : Machine.execSegmentConfig src tlvs s = .next t) : t.InForm :=
  h.execOp opSegmentConfig_keeps e

/-! ### Machine/Packet.lean: command packets, replies and events -/

theorem State.InForm.owe (h : s.InForm) (key b keep es) : (Machine.owe key b keep es s).InForm := h.put
theorem State.InForm.refusePacket (h : s.InForm) (key b keep st) : (Machine.refusePacket key b keep st s).InForm := h.owe ..

theorem opsLight_keep : ∀ i ∈ opsLight, i.Keeps := by
  simp only [opsLight, List.forall_mem_cons, List.not_mem_nil, false_implies, implies_true, and_true]
  exact ⟨opSessionClose_keeps, opKeepalive_keeps, opDeviceInfo_keeps, opRegRead_keeps, opRegWrite_keeps, opLightLevel_keeps, opLightFade_keeps,
    opLightLease_keeps, opLightRead_keeps, opLightEmergency_keeps, opLightLevelX_keeps, opStepTable_keeps, opFactorSet_keeps,
    opSlateWindow_keeps⟩

theorem opsGroups_keep : ∀ i ∈ opsGroups, i.Keeps := by
  simp only [opsGroups, List.forall_mem_cons, List.not_mem_nil, false_implies, implies_true, and_true]
  exact ⟨opGroupDefine_keeps, opGroupMembers_keeps, opScheduleWrite_keeps, opScheduleRead_keeps, opAonDefine_keeps, opAonClear_keeps,
    opScheduleWriteX_keeps, opAttrRead_keeps, opAttrWrite_keeps, opBridgeRead_keeps, opBridgeWrite_keeps, opSemAcquire_keeps,
    opSemRelease_keeps⟩

theorem opsMeter_keep : ∀ i ∈ opsMeter, i.Keeps := by
  simp only [opsMeter, List.forall_mem_cons, List.not_mem_nil, false_implies, implies_true, and_true]
  exact ⟨opEvtSubscribe_keeps, opEvtAck_keeps, opTelemetryRead_keeps, opTelemetryStream_keeps, opMeterRead_keeps, opMeterPeriod_keeps,
    opAttribRead_keeps, opWaveformStream_keeps, opCorrectionRead_keeps, opAttribModel_keeps, opProbeDither_keeps, opSnapshot_keeps⟩

theorem opsTime_keep : ∀ i ∈ opsTime, i.Keeps := by
  simp only [opsTime, List.forall_mem_cons, List.not_mem_nil, false_implies, implies_true, and_true]
  exact ⟨opTimeRead_keeps, opSolarRead_keeps, opTimeSet_keeps, opUtcTable_keeps, opPtpPort_keeps, opTimeRawRead_keeps, opTimedPulse_keeps,
    opStampMark_keeps, opAirEnrol_keeps, opAirSend_keeps, opAirRemove_keeps, opAirRawTx_keeps, opChannelPlan_keeps, opAirRawCapture_keeps,
    opVemerSet_keeps⟩

theorem opsTraffic_keep : ∀ i ∈ opsTraffic, i.Keeps := by
  simp only [opsTraffic, List.forall_mem_cons, List.not_mem_nil, false_implies, implies_true, and_true]
  exact ⟨opKeySession_keeps, opSlotLoad_keeps, opSlotUnload_keeps, opSlotUse_keeps, opVlanAttach_keeps, opVlanDetach_keeps, opShaperSet_keeps,
    opQueueSet_keeps, opExportBlock_keeps, opWorkspaceInfo_keeps, opDmaDescriptor_keeps, opDmaFence_keeps⟩

theorem opsOwner_keep : ∀ i ∈ opsOwner, i.Keeps := by
  simp only [opsOwner, List.forall_mem_cons, List.not_mem_nil, false_implies, implies_true, and_true]
  exact ⟨opVctlCreate_keeps, opVctlRemove_keeps, opRightsSet_keeps, opQuotaSet_keeps, opCredSet_keeps, opSegmentConfig_keeps,
    opSpineConfig_keeps, opSweepOrder_keeps, opRegwinGrant_keeps, opImageStage_keeps, opImageActivate_keeps, opDiagRead_keeps,
    opJournalExport_keeps⟩

theorem opTable_keep : ∀ i ∈ opTable, i.Keeps := by
  intro i hi
  simp only [opTable, List.mem_append] at hi
  obtain ((((hi | hi) | hi) | hi) | hi) | hi := hi
  · exact opsLight_keep i hi
  · exact opsGroups_keep i hi
  · exact opsMeter_keep i hi
  · exact opsTime_keep i hi
  · exact opsTraffic_keep i hi
  · exact opsOwner_keep i hi

theorem opInfo?_keeps {vmaj a tlvs op i} (e : opInfo? vmaj a tlvs op = some i) : i.Keeps := by
  unfold opInfo? at e
  split at e
  · cases e
    exact opSessionOpen_keeps _ _ _
  · exact opTable_keep i (List.mem_of_find?_eq_some e)

theorem State.InForm.runNormal (h : s.InForm) {i : OpInfo} (hi : i.Keeps) (r : Run) (key seq cmdid noData flags a tlvs) :
    (r.normal i key seq cmdid noData flags a tlvs s).s.InForm := by
  have hs := h.submit i key seq cmdid noData flags a tlvs
  unfold Run.normal
  split
  next e =>
    rw [e] at hs
    exact hs
  next e =>
    rw [e] at hs
    split
    · exact hs.perform hi ..
    · exact hs.put

theorem State.InForm.runUrgent (h : s.InForm) {i : OpInfo} (hi : i.Keeps) (r : Run) (key seq cmdid noData a tlvs c) :
    (r.urgent i key seq cmdid noData a tlvs c s).s.InForm := by
  unfold Run.urgent
  split
  · exact h.put
  · exact (h.setFlag ..).runNormal hi ..

theorem State.InForm.runItem {r : Run} (h : r.s.InForm) (fast key b it) : (Machine.runItem fast key b r it).s.InForm := by
  unfold Machine.runItem
  dsimp only
  split
  · exact h
  · exact h
  · split
    · exact h
    · split
      · exact h
      · split
        · split
          · exact h
          · exact h
        next hi =>
          have hi := opInfo?_keeps hi
          split
          · split
            · exact h.runUrgent hi ..
            · exact h.runNormal hi ..
          · exact h.runNormal hi ..

theorem State.InForm.runItems {r : Run} (h : r.s.InForm) (fast key b l) : (List.foldl (Machine.runItem fast key b) r l).s.InForm := by
  induction l generalizing r with
  | nil => exact h
  | cons it l ih => exact ih (h.runItem ..)

theorem State.InForm.runPacket (h : s.InForm) (fast key b) : (Machine.runPacket fast key b s).InForm :=
  State.InForm.owe (State.InForm.runItems h ..) ..

theorem State.InForm.checkPacket (h : s.InForm) (fast key b a) : (Machine.checkPacket fast key b a s).InForm := by
  unfold Machine.checkPacket
  split
  · exact h.refusePacket ..
  · split
    · exact h.refusePacket ..
    · exact h
    · exact h.put
    · exact .ite ((h.modAssoc ..).runPacket ..) ((h.modAssoc ..).refusePacket ..)

theorem State.InForm.openPacket (h : s.InForm) (dscp46 key b) : (Machine.openPacket dscp46 key b s).InForm := by
  unfold Machine.openPacket
  split
  · exact h
  · exact .ite h ((h.modAssoc ..).checkPacket ..)

theorem State.InForm.execCommandPacket (h : s.InForm) {key bytes t} (e : Machine.execCommandPacket key bytes s = .next t) : t.InForm :=
  h.next e fun _ h => h.openPacket ..

theorem State.InForm.execUrgentPacket (h : s.InForm) {key bytes t} (e : Machine.execUrgentPacket key bytes s = .next t) : t.InForm :=
  h.next e fun _ h => h.openPacket ..

theorem State.InForm.releasePkt (h : s.InForm) (p) : (Machine.releasePkt s p).InForm := by
  unfold Machine.releasePkt
  split
  · exact ((h.modAssoc ..).sendReply ..).noteClose ..
  · exact h

theorem State.InForm.resendKept (h : s.InForm) (d) : (Machine.resendKept s d).InForm := by
  unfold Machine.resendKept
  split
  · split
    · exact h.sendReply ..
    · exact h
  · exact h

theorem State.InForm.releaseReplies (h : s.InForm) : (Machine.releaseReplies s).InForm :=
  ((h.put.fold (fun _ _ h => h.releasePkt ..)).fold (fun _ _ h => h.resendKept ..)).settle

theorem State.InForm.sendEvents (h : s.InForm) (choose key) : (Machine.sendEvents choose key s).InForm := by
  unfold Machine.sendEvents
  split
  · exact .ite h ((h.modAssoc ..).putSes.fold (fun _ _ h => h.emitOn ..))
  · exact h

theorem State.InForm.releaseEvents (h : s.InForm) : (Machine.releaseEvents s).InForm := h.fold (fun _ _ h => h.sendEvents ..)

theorem State.InForm.execEventResend (h : s.InForm) {key t} (e : Machine.execEventResend key s = .next t) : t.InForm :=
  h.next e fun _ h => h.guard (fun h => h.sendEvents ..)

/-! ### Machine/Urgent.lean: the urgent path -/

theorem State.InForm.noteSent (h : s.InForm) (f h' code) : (Machine.noteSent f h' code s).InForm := .modPole (.ite (h.openWindow ..) h) ..

theorem State.InForm.sendUrgent (h : s.InForm) (act hs) : (Machine.sendUrgent act hs s).InForm :=
  h.fold (fun _ _ h => .ite h ((h.fold (fun _ _ h => h.noteSent ..)).wirePole ..))

theorem State.InForm.countUrgent (h : s.InForm) : (Machine.countUrgent s).InForm := h.put
theorem State.InForm.writeOverlay (h : s.InForm) (v lvl h') : (Machine.writeOverlay v lvl s h').InForm := h.sl ..

theorem State.InForm.acceptUrgent (h : s.InForm) (x) : (Machine.acceptUrgent x s).InForm :=
  .ite h.put.countUrgent (((h.put.countUrgent.fold (fun _ _ h => h.writeOverlay ..)).sendUrgent ..).airUrgent ..)

theorem State.InForm.execUrgentAccept (h : s.InForm) {t} (e : Machine.execUrgentAccept s = .next t) : t.InForm := by
  refine h.next e ?_
  intro _ h
  split
  · exact h
  · exact h.guard (fun h => h.acceptUrgent ..)

theorem State.InForm.holdPreset (h : s.InForm) : (Machine.holdPreset s).InForm := h.sl ..

theorem State.InForm.emergOn (h : s.InForm) : (Machine.emergOn s).InForm :=
  .ite (h.setFlag ..) (.ite (h.setFlag ..).holdPreset.countUrgent (((h.setFlag ..).holdPreset.countUrgent.sendUrgent ..).airUrgent ..))

theorem State.InForm.execEmergAssert (h : s.InForm) {a b t} (e : Machine.execEmergAssert a b s = .next t) : t.InForm :=
  h.next e fun _ h => h.guard (fun h => .ite h.put h.put.emergOn)

theorem State.InForm.execEmergDeassert (h : s.InForm) {a b t} (e : Machine.execEmergDeassert a b s = .next t) : t.InForm :=
  h.next e fun _ h => h.guard (fun h => .ite h.put (h.put.sl ..))

/-! ### Machine/Freeze.lean: the freeze -/

theorem State.InForm.noteCarry (h : s.InForm) (hs fires n) : (Machine.noteCarry hs fires n s).InForm :=
  .ite (h.put.setReg ..) (((h.put.setReg ..).count ..).owner ..)

theorem State.InForm.composeFrame (h : s.InForm) (unfinished) : (Machine.composeFrame unfinished s).1.InForm := by
  have h1 := (h.skipEvents.composeAll s.wakeLift unfinished).inrushAdmit
  exact .fst ((h1.ditherStep _).backlog.derateStep.sl _)

theorem State.InForm.noteCodes (h : s.InForm) (hs) : (Machine.noteCodes hs s).InForm := h.fold (fun _ _ h => h.modChan ..)

theorem State.InForm.sendFrame (h : s.InForm) (g p q) : (Machine.sendFrame g p q s).InForm := ((h.fold (fun _ _ h => h.noteSent ..)).modPole
    ..).sendPole ..

theorem State.InForm.leaveFrame (h : s.InForm) (g p q) : (Machine.leaveFrame g p q s).InForm := h.put.modPole ..

theorem State.InForm.dispatchPole (h : s.InForm) (unsent gp) : (Machine.dispatchPole unsent s gp).InForm := by
  unfold Machine.dispatchPole
  split
  · exact h
  · exact .noteCodes (.ite (h.leaveFrame ..) (h.sendFrame ..)) ..

theorem State.InForm.dispatchAll (h : s.InForm) (unsent) : (Machine.dispatchAll unsent s).InForm := h.fold (fun _ _ h => h.dispatchPole ..)
theorem State.InForm.sendHints (h : s.InForm) (granted) : (Machine.sendHints granted s).InForm := h.fold (fun _ _ h => h.toGeode ..)

theorem State.InForm.slateRegs (h : s.InForm) : (Machine.slateRegs s).InForm :=
  (((h.setReg ..).setReg ..).setReg ..).fold (fun _ _ h => (h.setReg ..).setReg ..)

theorem State.InForm.freeze (h : s.InForm) (unfinished unsent nodes) : (Machine.freeze unfinished unsent nodes s).InForm := by
  have h1 := h.composeFrame unfinished
  unfold Machine.freeze
  generalize Machine.composeFrame unfinished s = p at h1
  exact ((((h1.noteCarry ..).attribBook ..).dispatchAll ..).sendHints ..).airLightQueue.wakeFinal .. |>.wakeRegs.attribRegs.slateRegs.bankLeaves

theorem State.InForm.execBackSlateFreeze (h : s.InForm) {unfinished unsent nodes t} (e : Machine.execBackSlateFreeze unfinished unsent nodes s =
    .next t) : t.InForm :=
  h.next e fun _ h => h.guard (fun h => h.freeze ..)

/-! ### Machine/Timers.lean: timer channels and beats -/

theorem State.InForm.driveOut (h : s.InForm) (k pulses at_) : (Machine.driveOut k pulses at_ s).InForm := h.send ..
theorem State.InForm.endPps (h : s.InForm) (n at_) : (Machine.endPps n at_ s).InForm := h.ldsRest.driveOut ..
theorem State.InForm.endFsync (h : s.InForm) (n at_) : (Machine.endFsync n at_ s).InForm := h.ldsRest.driveOut ..
theorem State.InForm.snapTrigger (h : s.InForm) (cmp) : (Machine.snapTrigger cmp s).InForm := h.toGeode ..

theorem State.InForm.deliver (h : s.InForm) (dest n cmp) : (Machine.deliver dest n cmp s).InForm := by
  have h1 : (s.send .trigger dest [n]).InForm := h.send ..
  unfold Machine.deliver
  dsimp only
  split
  · exact h1.put
  · exact h1.snapTrigger _
  · exact h1.guard fun h => h.sweepLatch
  · refine h1.guard fun h => ?_
    split
    · exact h.wakeEpoch _
    · exact h.poolEpoch
  · exact h1

theorem State.InForm.fireTimer (h : s.InForm) (n first) : (Machine.fireTimer n first s).InForm := by
  unfold Machine.fireTimer
  refine .ite h ?_
  dsimp only
  split
  · exact .ite ((h.setFlag ..).setReg ..) ((h.setFlag ..).setReg ..)
  · exact .driveOut (.ldsRest (.ite ((h.setFlag ..).setReg ..) ((h.setFlag ..).setReg ..))) ..
  · exact .driveOut (.ldsRest (.ite ((h.setFlag ..).setReg ..) ((h.setFlag ..).setReg ..))) ..
  · exact .ite (.deliver (.ite ((h.setFlag ..).setReg ..) ((h.setFlag ..).setReg ..)) ..) (.setFlag (.ite ((h.setFlag ..).setReg ..) ((h.setFlag
      ..).setReg ..)) ..)

theorem State.InForm.atTick (h : s.InForm) : (Machine.atTick s).InForm :=
  ((h.fold (fun _ _ h => h.endPps ..)).fold (fun _ _ h => h.endFsync ..)).fold (fun _ _ h => h.fireTimer ..)

theorem State.InForm.runTicks (h : s.InForm) (k n) : (Machine.runTicks k n s).InForm := by
  induction k generalizing s n with
  | zero => exact h.passTicks _
  | succ k ih =>
    unfold Machine.runTicks
    split
    · exact .ite (ih (h.passTicks _).atTick _) (h.passTicks _)
    · exact h.passTicks _

theorem State.InForm.within (h : s.InForm) (n) : (s.within n).InForm := .ite (h.runTicks ..) h

theorem State.InForm.execTimerFire (h : s.InForm) {n t} (e : Machine.execTimerFire n s = .next t) : t.InForm :=
  h.next e fun _ h => h.guard (fun h => h.runTicks ..)

theorem State.InForm.execTimerPulseEnd (h : s.InForm) {n t} (e : Machine.execTimerPulseEnd n s = .next t) : t.InForm := by
  refine h.next e ?_
  intro _ h
  split
  · exact h.guard (fun h => h.runTicks ..)
  · exact h

theorem Lodestone.takeInc_rateOk {l : Lodestone} (h : l.rateOk) (k : Nat) : (Machine.takeInc k l).rateOk := by
  obtain ⟨-, -, f1, f2, hn⟩ := h
  have hf : 0x01FFFEB1 ≤ l.incNext.getD l.freq ∧ l.incNext.getD l.freq ≤ 0x0200014F := by
    cases e : l.incNext with
    | none => exact ⟨f1, f2⟩
    | some v => exact hn v e
  have hi : 0x01FFFEB1 ≤ (Machine.takeInc k l).inc ∧ (Machine.takeInc k l).inc ≤ 0x0200014F := by
    unfold Machine.takeInc Lodestone.beatInc
    dsimp only
    split
    · exact clampInc_bound _
    · exact hf
  exact ⟨hi.1, hi.2, hf.1, hf.2, nofun⟩

theorem State.InForm.beatBoundary (h : s.InForm) : (Machine.beatBoundary s).InForm := by
  unfold Machine.beatBoundary
  extract_lets b s1 fr s2
  have h2 : s2.InForm := State.InForm.put (.ite (h.runTicks ..) h)
  clear_value s2
  exact .ite (State.InForm.send (h2.lds' _ (Lodestone.takeInc_rateOk h2.rate _) h2.ptp) ..) h2

theorem State.InForm.toBoundary (h : s.InForm) (n) : (Machine.toBoundary n s).InForm := by
  induction n generalizing s with
  | zero => exact h
  | succ n ih => exact .ite h (ih h.beatBoundary)

theorem State.InForm.sampleGpio (h : s.InForm) (gpio) : (Machine.sampleGpio gpio s).InForm := .ite h.put h

theorem State.InForm.execBeatBoundary (h : s.InForm) {io t} (e : Machine.execBeatBoundary io s = .next t) : t.InForm :=
  h.next e fun _ h => h.guard (fun h => ((h.sampleGpio ..).sampleLoop ..).beatBoundary)

theorem State.InForm.execCounterWrap (h : s.InForm) {t} (e : Machine.execCounterWrap s = .next t) : t.InForm :=
  h.next e fun _ h => h.guard (fun h => h.runTicks ..)

theorem State.InForm.later (h : s.InForm) (beats ticks) : (s.later beats ticks).InForm := (h.toBoundary ..).within ..

theorem State.InForm.execLdsNsRead (h : s.InForm) {beats ticks t} (e : Machine.execLdsNsRead beats ticks s = .next t) : t.InForm :=
  h.next e fun _ h => (h.later ..).nsRead

theorem State.InForm.execPpsInEdge (h : s.InForm) {ticks t} (e : Machine.execPpsInEdge ticks s = .next t) : t.InForm :=
  h.next e fun _ h => h.guard (fun h => (h.within ..).ppsEdge)

theorem State.InForm.execTodRxSentence (h : s.InForm) {ticks x1 sumOk t} (e : Machine.execTodRxSentence ticks x1 sumOk s = .next t) : t.InForm :=
  h.next e fun _ h => h.guard (fun h => (h.within ..).todSentence ..)

theorem State.InForm.execFsyncInEdge (h : s.InForm) {beats ticks t} (e : Machine.execFsyncInEdge beats ticks s = .next t) : t.InForm :=
  h.next e fun _ h => h.guard (fun h => (h.later ..).fsyncEdge)

/-! ### Machine/Ptp.lean: the PTP clock -/

theorem State.InForm.modPtp (h : s.InForm) (port f) : (s.modPtp port f).InForm := h.lds' _ h.rate (twf_tmod _ _ _ h.ptp)

theorem State.InForm.selectPtp (h : s.InForm) : (Machine.selectPtp s).InForm := by
  refine .ptpCheckLost (h.lds' _ h.rate ?_)
  dsimp only
  exact twf_tmap _ _ h.ptp

theorem State.InForm.takeAnnounce (h : s.InForm) (port d) : (Machine.takeAnnounce port d s).InForm := .ite h (h.modPtp ..).selectPtp

theorem State.InForm.takeOffset (h : s.InForm) (port rx origin corr) : (Machine.takeOffset port rx origin corr s).InForm := by
  unfold Machine.takeOffset
  split
  · exact h
  · exact .ite ((h.modPtp ..).noteOffset ..).ptpCheckLost (.ite (((h.modPtp ..).noteOffset ..).qualify ..) ((h.modPtp ..).noteOffset ..))

theorem State.InForm.takeDelay (h : s.InForm) (port seq rx corr p) : (Machine.takeDelay port seq rx corr p s).InForm := by
  unfold Machine.takeDelay
  split
  · exact .ite (h.modPtp ..) h
  · exact h

theorem State.InForm.takePdelay (h : s.InForm) (port seq rx turn corr p) : (Machine.takePdelay port seq rx turn corr p s).InForm := by
  unfold Machine.takePdelay
  split
  · exact .ite (h.modPtp ..) h
  · exact h

theorem State.InForm.sendPtp (h : s.InForm) (port ty seq args) : (Machine.sendPtp port ty seq args s).InForm := .send (.ite (h.noteEg ..) h) ..

theorem State.InForm.ptpMessage (h : s.InForm) (port p m) : (Machine.ptpMessage port p m s).InForm := by
  unfold Machine.ptpMessage
  dsimp only
  split
  · exact h
  · exact .ite h (h.takeAnnounce ..)
  · exact .ite h (.ite (h.modPtp ..) (h.takeOffset ..))
  · split
    · exact .ite (h.takeOffset ..) h
    · exact h
  · exact .ite (h.sendPtp ..) h
  · exact .ite (h.takeDelay ..) h
  · exact .ite h (.ite (h.sendPtp ..) ((h.sendPtp ..).sendPtp ..))
  · exact .ite h (.ite (h.modPtp ..) (h.takePdelay ..))
  · split
    · exact .ite (h.takePdelay ..) h
    · exact h

theorem State.InForm.execPtpMessage (h : s.InForm) {port hdr m t} (e : Machine.execPtpMessage port hdr m s = .next t) : t.InForm := by
  refine h.next e ?_
  intro _ h
  refine h.guard ?_
  intro h
  refine .ite (((h.within ..).noteIn ..).modPtp ..) ?_
  split
  · exact ((h.within ..).noteIn ..).ptpMessage ..
  · exact (h.within ..).noteIn ..

theorem State.InForm.execAnnounceReceiptTimeout (h : s.InForm) {port t} (e : Machine.execAnnounceReceiptTimeout port s = .next t) : t.InForm :=
  h.next e fun _ h => h.guard (fun h => (h.modPtp ..).selectPtp)

theorem State.InForm.times (h : s.InForm) (n) {f : State → State} (hf : ∀ s, s.InForm → (f s).InForm) : (Machine.times n f s).InForm := by
  induction n generalizing s with
  | zero => exact h
  | succ n ih => exact ih (hf _ h)

theorem State.InForm.sendNext (h : s.InForm) (port ty args) : (Machine.sendNext port ty args s).InForm := by
  unfold Machine.sendNext
  split
  · exact (h.sendPtp ..).modPtp ..
  · exact h

theorem State.InForm.sendAnnounce (h : s.InForm) (port) : (Machine.sendAnnounce port s).InForm := h.sendNext ..

theorem State.InForm.sendSync (h : s.InForm) (port) : (Machine.sendSync port s).InForm := by
  unfold Machine.sendSync
  split
  · exact h
  · exact .ite (h.sendNext ..) ((h.sendNext ..).sendPtp ..)

theorem State.InForm.sendDelayReq (h : s.InForm) (port ty) : (Machine.sendDelayReq port ty s).InForm := by
  unfold Machine.sendDelayReq
  split
  · exact h
  · exact (h.sendNext ..).modPtp ..

theorem State.InForm.ptpPortTick (h : s.InForm) (port p) : (Machine.ptpPortTick port p s).InForm :=
  .ite (.times (.ite ((h.times _ (fun _ h => h.sendAnnounce ..)).times _ (fun _ h => h.sendSync ..)) h) _ (fun _ h => h.sendDelayReq ..)) (.ite
      (.times (.ite ((h.times _ (fun _ h => h.sendAnnounce ..)).times _ (fun _ h => h.sendSync ..)) h) _ (fun _ h => h.sendDelayReq ..)) (.ite
      ((h.times _ (fun _ h => h.sendAnnounce ..)).times _ (fun _ h => h.sendSync ..)) h))

theorem State.InForm.ptpTick (h : s.InForm) : (Machine.ptpTick s).InForm := .ite (h.fold (fun _ _ h => h.ptpPortTick ..)) h

/-! ### Machine/Frame.lean: the frame tick -/

theorem State.InForm.bridgeNews (h : s.InForm) : (Machine.bridgeNews s).InForm := by
  unfold Machine.bridgeNews
  refine h.fold ?_
  intro _ _ h
  refine .modGbr (.fold (.ite h (h.owner ..)) ?_) ..
  intro _ _ h
  split
  · exact h.raise ..
  · exact h

theorem State.InForm.nextFrame (h : s.InForm) : (Machine.nextFrame s).InForm := h.put
theorem State.InForm.lodestoneFrame (h : s.InForm) : (Machine.lodestoneFrame s).InForm := .ite h (.setBoot (.ldsRest (.ite (h.setFlag ..) h)) ..)
theorem State.InForm.measure (h : s.InForm) (i) : (Machine.measure i s).InForm := (h.put.senseFeed ..).senseFeed ..
theorem State.InForm.countFrame (h : s.InForm) : (Machine.countFrame s).InForm := .ux1SwapEnd (.ite (h.th ..) ((h.th ..).setBoot ..))
theorem State.InForm.swapSlates (h : s.InForm) : (Machine.swapSlates s).InForm := .ite h (h.sl ..)
theorem State.InForm.dispatchOverrun (h : s.InForm) : (Machine.dispatchOverrun s).InForm := .ite h ((h.count ..).owner ..).put

theorem State.InForm.openFrame (h : s.InForm) : (Machine.openFrame s).InForm  := by
  unfold Machine.openFrame
  refine { h with assoc := ?_ }
  exact twf_map _ _ (fun _ => rfl) h.assoc

theorem State.InForm.fillEntry (h : s.InForm) (uid r) : (Machine.fillEntry uid r s).InForm := h.put
theorem opAt_keeps {op i} (e : opAt op = some i) : i.Keeps := opTable_keep i (List.mem_of_find?_eq_some e)

theorem State.InForm.commitOne (h : s.InForm) (c) : (Machine.commitOne s c).InForm := by
  unfold Machine.commitOne
  refine .ite h ?_
  split
  · exact h
  next hi => exact .fillEntry (.iteFst h (h.commitWith (opAt_keeps hi) _)) ..

theorem State.InForm.commitPin (h : s.InForm) : (Machine.commitPin s).InForm := by
  unfold Machine.commitPin
  split
  · refine (h.fold ?_).sl ..
    intro _ _ h
    split
    · exact h.setSrc ..
    · exact h
  · exact (h.fold (fun _ _ h => h.endSrcs ..)).sl ..
  · exact h

theorem State.InForm.commitSems (h : s.InForm) {f : Nat → State → State} (hf : ∀ s g, s.InForm → (f g s).InForm) :
    (Machine.commitSems f s).InForm := h.fold hf

theorem State.InForm.commitAll (h : s.InForm) : (Machine.commitAll s).InForm := by
  unfold Machine.commitAll
  extract_lets l fr s1 s2 s3 s4 s5 s6 s7
  have h1 : s1.InForm := h.put
  have h2 : s2.InForm := h1.fold fun _ _ h => h.commitOne _
  have h3 : s3.InForm := (h2.fold fun _ _ h => h.commitOne _).expireLeases
  have h4 : s4.InForm := h3.fold fun _ _ h => h.commitOne _
  have h5 : s5.InForm := h4.commitSems fun _ _ h => h.semLeases _
  have h6 : s6.InForm := h5.fold fun _ _ h => h.commitOne _
  have h7 : s7.InForm := h6.commitSems fun _ _ h => h.semWaits _
  exact h7.put

theorem State.InForm.senseEmerg (h : s.InForm) : (Machine.senseEmerg s).InForm := by
  unfold Machine.senseEmerg
  split
  · exact h
  · exact .ite h.holdPreset h

theorem State.InForm.turnFrames (h : s.InForm) (i) : (Machine.turnFrames i s).InForm :=
  (((h.bridgeNews.missingRecord ..).toBoundary ..).nextFrame.lodestoneFrame.countFrame.measure
      ..).thermTick.swapSlates.senseEmerg.dispatchOverrun.openFrame

theorem State.InForm.commitFrame (h : s.InForm) : (Machine.commitFrame s).InForm := by
  have h1 : (Machine.commitAll (Machine.commitPin (Machine.installFails (Machine.concludeAll s)))).InForm :=
      h.concludeAll.installFails.commitPin.commitAll
  unfold Machine.commitFrame
  generalize Machine.commitAll _ = t at h1
  exact .ite (h1.releaseReplies.releaseEvents.toGeode ..) h1.releaseReplies.releaseEvents

theorem State.InForm.boundaryFlags (h : s.InForm) (before x1) : (Machine.boundaryFlags before x1 s).InForm :=
  .ite (.setFlag (.ite (.setFlag (.ite (h.setFlag ..) h) ..) (.ite (h.setFlag ..) h)) ..) (.ite (.setFlag (.ite (h.setFlag ..) h) ..) (.ite
      (h.setFlag ..) h))

theorem State.InForm.frameWork (h : s.InForm) (room) : (Machine.frameWork room s).InForm := .ite (h.streamEvents.attribFit ..).wakePhase1 h

theorem State.InForm.frameTick (h : s.InForm) (room i) : (Machine.frameTick room i s).InForm :=
  (((h.turnFrames ..).commitFrame.boundaryFlags ..).frameWork ..).dropEvents.announce.ptpTick.updateTick ..

theorem State.InForm.execFrameTick (h : s.InForm) {room inp t} (e : Machine.execFrameTick room inp s = .next t) : t.InForm :=
  h.next e fun _ h => h.guard (fun h => h.frameTick ..)

/-! ### Machine/Dispatch.lean: every command -/

/-- Every command keeps the form. -/
theorem State.InForm.exec {t : State} (h : s.InForm) (c : Instr) (e : Machine.exec c s = .next t) : t.InForm := by
  cases c with
  | feedUsable => exact h.execFeedUsable e
  | feedLost => exact h.execFeedLost e
  | allFeedsLost => exact h.execAllFeedsLost e
  | inputLow => exact h.execInputLow e
  | inputHigh => exact h.execInputHigh e
  | ovpTrip => exact h.execOvpTrip e
  | ovpReconnect => exact h.execOvpReconnect e
  | carrierRst => exact h.execCarrierRst e
  | carrierRstRelease => exact h.execCarrierRstRelease e
  | emergAssert => exact h.execEmergAssert e
  | emergDeassert => exact h.execEmergDeassert e
  | tamperLoop => exact h.execTamperLoop e
  | gpioDirWrite => exact h.execGpioDirWrite e
  | ux1Attach => exact h.execUx1Attach e
  | ux1SourceCaps => exact h.execUx1SourceCaps e
  | ux1PrSwapRequest => exact h.execUx1PrSwapRequest e
  | ux1DrSwapRequest => exact h.execUx1DrSwapRequest e
  | ux1PrSwapInitiate => exact h.execUx1PrSwapInitiate e
  | ux1DrSwapInitiate => exact h.execUx1DrSwapInitiate e
  | ux1Collision => exact h.execUx1Collision e
  | ux1Detach => exact h.execUx1Detach e
  | ux1PsRdyTimeout => exact h.execUx1PsRdyTimeout e
  | ldsIncWrite => exact h.execLdsIncWrite e
  | ldsOffsetLoad => exact h.execLdsOffsetLoad e
  | ldsNsRead => exact h.execLdsNsRead e
  | ldsFrameLoRead => exact h.execLdsFrameLoRead e
  | counterWrap => exact h.execCounterWrap e
  | timerArm => exact h.execTimerArm e
  | timerFire => exact h.execTimerFire e
  | timerPulseEnd => exact h.execTimerPulseEnd e
  | beatBoundary => exact h.execBeatBoundary e
  | ptpMessage => exact h.execPtpMessage e
  | ppsInEdge => exact h.execPpsInEdge e
  | ppsInMissing => exact h.execPpsInMissing e
  | todRxSentence => exact h.execTodRxSentence e
  | fsyncInEdge => exact h.execFsyncInEdge e
  | fsyncLost => exact h.execFsyncLost e
  | ref10Qualify => exact h.execRef10Qualify e
  | ref10Lost => exact h.execRef10Lost e
  | acqTimeout => exact h.execAcqTimeout e
  | slewComplete => exact h.execSlewComplete e
  | holdoverExpired => exact h.execHoldoverExpired e
  | todTxSentence => exact h.execTodTxSentence e
  | frameTick => exact h.execFrameTick e
  | eventResend => exact h.execEventResend e
  | scheduleFire => exact h.execScheduleFire e
  | backSlateFreeze => exact h.execBackSlateFreeze e
  | urgentPacket => exact h.execUrgentPacket e
  | urgentAccept => exact h.execUrgentAccept e
  | clientHello => exact h.execClientHello e
  | serverFlight => exact h.execServerFlight e
  | clientFinished => exact h.execClientFinished e
  | dtlsAlert => exact h.execDtlsAlert e
  | dtlsRetransmit => exact h.execDtlsRetransmit e
  | handshakeTimeout => exact h.execHandshakeTimeout e
  | assocIdleTimeout => exact h.execAssocIdleTimeout e
  | dtlsKeyUpdate => exact h.execDtlsKeyUpdate e
  | dtlsRecordLimit => exact h.execDtlsRecordLimit e
  | commandPacket => exact h.execCommandPacket e
  | sessionOpen => exact h.execSessionOpen e
  | sessionClose => exact h.execSessionClose e
  | keepalive => exact h.execKeepalive e
  | deviceInfo => exact h.execDeviceInfo e
  | regRead => exact h.execRegRead e
  | regWrite => exact h.execRegWrite e
  | lightLevel => exact h.execLightLevel e
  | lightFade => exact h.execLightFade e
  | lightLease => exact h.execLightLease e
  | lightRead => exact h.execLightRead e
  | lightEmergency => exact h.execLightEmergency e
  | lightLevelX => exact h.execLightLevelX e
  | stepTable => exact h.execStepTable e
  | factorSet => exact h.execFactorSet e
  | slateWindow => exact h.execSlateWindow e
  | groupDefine => exact h.execGroupDefine e
  | groupMembers => exact h.execGroupMembers e
  | scheduleWrite => exact h.execScheduleWrite e
  | scheduleWriteX => exact h.execScheduleWriteX e
  | scheduleRead => exact h.execScheduleRead e
  | aonDefine => exact h.execAonDefine e
  | aonClear => exact h.execAonClear e
  | attrRead => exact h.execAttrRead e
  | attrWrite => exact h.execAttrWrite e
  | bridgeRead => exact h.execBridgeRead e
  | bridgeWrite => exact h.execBridgeWrite e
  | semAcquire => exact h.execSemAcquire e
  | semRelease => exact h.execSemRelease e
  | evtSubscribe => exact h.execEvtSubscribe e
  | evtAck => exact h.execEvtAck e
  | telemetryRead => exact h.execTelemetryRead e
  | telemetryStream => exact h.execTelemetryStream e
  | meterRead => exact h.execMeterRead e
  | meterPeriod => exact h.execMeterPeriod e
  | attribRead => exact h.execAttribRead e
  | waveformStream => exact h.execWaveformStream e
  | correctionRead => exact h.execCorrectionRead e
  | attribModel => exact h.execAttribModel e
  | probeDither => exact h.execProbeDither e
  | snapshot => exact h.execSnapshot e
  | timeRead => exact h.execTimeRead e
  | solarRead => exact h.execSolarRead e
  | timeSet => exact h.execTimeSet e
  | utcTable => exact h.execUtcTable e
  | ptpPort => exact h.execPtpPort e
  | timeRawRead => exact h.execTimeRawRead e
  | timedPulse => exact h.execTimedPulse e
  | stampMark => exact h.execStampMark e
  | airEnrol => exact h.execAirEnrol e
  | airSend => exact h.execAirSend e
  | airRemove => exact h.execAirRemove e
  | airRawTx => exact h.execAirRawTx e
  | channelPlan => exact h.execChannelPlan e
  | airRawCapture => exact h.execAirRawCapture e
  | vemerSet => exact h.execVemerSet e
  | keySession => exact h.execKeySession e
  | slotLoad => exact h.execSlotLoad e
  | slotUnload => exact h.execSlotUnload e
  | slotUse => exact h.execSlotUse e
  | vlanAttach => exact h.execVlanAttach e
  | vlanDetach => exact h.execVlanDetach e
  | shaperSet => exact h.execShaperSet e
  | queueSet => exact h.execQueueSet e
  | exportBlock => exact h.execExportBlock e
  | workspaceInfo => exact h.execWorkspaceInfo e
  | dmaDescriptor => exact h.execDmaDescriptor e
  | dmaFence => exact h.execDmaFence e
  | vctlCreate => exact h.execVctlCreate e
  | vctlRemove => exact h.execVctlRemove e
  | rightsSet => exact h.execRightsSet e
  | quotaSet => exact h.execQuotaSet e
  | credSet => exact h.execCredSet e
  | segmentConfig => exact h.execSegmentConfig e
  | spineConfig => exact h.execSpineConfig e
  | sweepOrder => exact h.execSweepOrder e
  | regwinGrant => exact h.execRegwinGrant e
  | imageStage => exact h.execImageStage e
  | imageVerified => exact h.execImageVerified e
  | imageActivate => exact h.execImageActivate e
  | diagRead => exact h.execDiagRead e
  | journalExport => exact h.execJournalExport e
  | vctlRemovalEnd => exact h.execVctlRemovalEnd e
  | stringLink => exact h.execStringLink e
  | rateTryTimeout => exact h.execRateTryTimeout e
  | censusStart => exact h.execCensusStart e
  | enumReport => exact h.execEnumReport e
  | enumerateLoopReturn => exact h.execEnumerateLoopReturn e
  | censusPassTimeout => exact h.execCensusPassTimeout e
  | linkChange => exact h.execLinkChange e
  | censusRetry => exact h.execCensusRetry e
  | pairResp => exact h.execPairResp e
  | pairTimeout => exact h.execPairTimeout e
  | pairRetry => exact h.execPairRetry e
  | assocConfirm => exact h.execAssocConfirm e
  | assocInitTimeout => exact h.execAssocInitTimeout e
  | assocClose => exact h.execAssocClose e
  | assocRekey => exact h.execAssocRekey e
  | assocOldKeyErase => exact h.execAssocOldKeyErase e
  | assocExhausted => exact h.execAssocExhausted e
  | groupKeyReplace => exact h.execGroupKeyReplace e
  | timeSyncSend => exact h.execTimeSyncSend e
  | delayReq => exact h.execDelayReq e
  | resyncReq => exact h.execResyncReq e
  | credit => exact h.execCredit e
  | creditQuery => exact h.execCreditQuery e
  | bridgeIssue => exact h.execBridgeIssue e
  | brReadResp => exact h.execBrReadResp e
  | brWriteAck => exact h.execBrWriteAck e
  | tagTimeout => exact h.execTagTimeout e
  | tagSecondTimeout => exact h.execTagSecondTimeout e
  | semWaitTimeout => exact h.execSemWaitTimeout e
  | semBrokenExpire => exact h.execSemBrokenExpire e
  | detection => exact h.execDetection e
  | wakeHandoffEpoch => exact h.execWakeHandoffEpoch e
  | wakeMessage => exact h.execWakeMessage e
  | lampSamples => exact h.execLampSamples e
  | lampClassify => exact h.execLampClassify e
  | geodeBeatEdge => exact h.execGeodeBeatEdge e
  | geodeEdgesMissing => exact h.execGeodeEdgesMissing e
  | geodeTime => exact h.execGeodeTime e
  | cycleEnd => exact h.execCycleEnd e
  | geodeNoCrossing => exact h.execGeodeNoCrossing e
  | geodeLinkPacket => exact h.execGeodeLinkPacket e
  | linkPacketReceived => exact h.execLinkPacketReceived e
  | geodeLinkSilent => exact h.execGeodeLinkSilent e
  | geodeSnapshotMsg => exact h.execGeodeSnapshotMsg e
  | snapshotLatch => exact h.execSnapshotLatch e
  | readingSigned => exact h.execReadingSigned e
  | profileClose => exact h.execProfileClose e
  | inrushHint => exact h.execInrushHint e
  | inrushMaskClose => exact h.execInrushMaskClose e
  | readReq => exact h.execReadReq e
  | readReqFailed => exact h.execReadReqFailed e
  | pulseInputChange => exact h.execPulseInputChange e
  | pulseStuck => exact h.execPulseStuck e
  | geodeSave => exact h.execGeodeSave e
  | geodePowerFail => exact h.execGeodePowerFail e
  | geodeLineReturn => exact h.execGeodeLineReturn e
  | geodeHoldupEnd => exact h.execGeodeHoldupEnd e
  | geodeStart => exact h.execGeodeStart e
  | geodeTempRead => exact h.execGeodeTempRead e
  | geodeTempResume => exact h.execGeodeTempResume e
  | coverOpened => exact h.execCoverOpened e
  | opticalFlood => exact h.execOpticalFlood e
  | opticalFloodEnd => exact h.execOpticalFloodEnd e
  | hdlcFrame => exact h.execHdlcFrame e
  | hdlcInactivity => exact h.execHdlcInactivity e
  | sapLockEnd => exact h.execSapLockEnd e
  | meteringResume => exact h.execMeteringResume e
  | firmwareRevert => exact h.execFirmwareRevert e
  | periodClose => exact h.execPeriodClose e
  | tenantFrame => exact h.execTenantFrame e
  | egressServe => exact h.execEgressServe e
  | macAgeOut => exact h.execMacAgeOut e
  | rawBlockWrite => exact h.execRawBlockWrite e
  | dmaRequest => exact h.execDmaRequest e
  | dmaDescriptorComplete => exact h.execDmaDescriptorComplete e
  | dmaFenceComplete => exact h.execDmaFenceComplete e
  | airFrameRx => exact h.execAirFrameRx e
  | airAckTx => exact h.execAirAckTx e
  | joinAcceptTx => exact h.execJoinAcceptTx e
  | airTxStart => exact h.execAirTxStart e
  | airTxEnd => exact h.execAirTxEnd e
  | airRetry => exact h.execAirRetry e
  | airRegRespTimeout => exact h.execAirRegRespTimeout e
  | airHoldExpiry => exact h.execAirHoldExpiry e
  | airRawTxExpiry => exact h.execAirRawTxExpiry e
  | airLightRefresh => exact h.execAirLightRefresh e
  | airSilent => exact h.execAirSilent e
  | airRejoinDue => exact h.execAirRejoinDue e
  | spinePortLink => exact h.execSpinePortLink e
  | helloTimeout => exact h.execHelloTimeout e
  | helloSend => exact h.execHelloSend e
  | spineLinkSetup => exact h.execSpineLinkSetup e
  | spineLinkInitRetry => exact h.execSpineLinkInitRetry e
  | linkNotice => exact h.execLinkNotice e
  | ringCensusStart => exact h.execRingCensusStart e
  | spineEnumerate => exact h.execSpineEnumerate e
  | ringTable => exact h.execRingTable e
  | relay => exact h.execRelay e
  | sweepOrderMsg => exact h.execSweepOrderMsg e
  | orderReply => exact h.execOrderReply e
  | sweepLatch => exact h.execSweepLatch e
  | sweepRecordForm => exact h.execSweepRecordForm e
  | sweepParticipantClose => exact h.execSweepParticipantClose e
  | collectionStart => exact h.execCollectionStart e
  | collect => exact h.execCollect e
  | sweepRecord => exact h.execSweepRecord e
  | collectTurn => exact h.execCollectTurn e
  | collectionTimeout => exact h.execCollectionTimeout e
  | sweepResultFinal => exact h.execSweepResultFinal e
  | rngHealthFail => exact h.execRngHealthFail e
  | rngResume => exact h.execRngResume e
  | rngReseed => exact h.execRngReseed e
  | slotIntegrityCheck => exact h.execSlotIntegrityCheck e
  | flintHalt => exact h.execFlintHalt e
  | keyMigrationComplete => exact h.execKeyMigrationComplete e
  | fuseAdvance => exact h.execFuseAdvance e
  | geodeFwCheck => exact h.execGeodeFwCheck e
  | flintMeasure => exact h.execFlintMeasure e
  | startStepTimeout => exact h.execStartStepTimeout e
  | frameServiceEntry => exact h.execFrameServiceEntry e
  | bankWatchdog => exact h.execBankWatchdog e
  | watchdogReset => exact h.execWatchdogReset e
  | bankBReady => exact h.execBankBReady e
  | mainHandover => exact h.execMainHandover e
  | bankAJoin => exact h.execBankAJoin e
  | mainUpdateTimeout => exact h.execMainUpdateTimeout e
  | grainStratumSwap => exact h.execGrainStratumSwap e
  | airImageTakeover => exact h.execAirImageTakeover e
  | airImageHandback => exact h.execAirImageHandback e
  | flintImageTakeover => exact h.execFlintImageTakeover e
  | journalCommit => exact h.execJournalCommit e
  | flashDeviceFail => exact h.execFlashDeviceFail e
  | thermalStep => exact h.execThermalStep e
  | thermalWarning => exact h.execThermalWarning e
  | hbmHot => exact h.execHbmHot e
  | idlePortProbe => exact h.execIdlePortProbe e
  | thermalShutdown => exact h.execThermalShutdown e
  | thermalTrip => exact h.execThermalTrip e
  | thermalRestart => exact h.execThermalRestart e
  | hbmEccError => exact h.execHbmEccError e
  | airPortTxEnWrite => exact h.execAirPortTxEnWrite e
  | announceReceiptTimeout => exact h.execAnnounceReceiptTimeout e
  | uplinkLink => exact h.execUplinkLink e
  | opticalSignOn => exact h.execOpticalSignOn e
  | mslReservedType => exact h.execMslReservedType e
  | spineFrameDiscarded => exact h.execSpineFrameDiscarded e
  | spineLinkRekey => exact h.execSpineLinkRekey e
  | ringCensusTimeout => exact h.execRingCensusTimeout e

/-- Settles O59: the form is kept by every command (`State.InForm.exec`), and a step runs the front command of the queue or leaves the state. -/
theorem everyStepKeepsTheForm : Obligations.EveryStepKeepsTheForm := by
  unfold Obligations.EveryStepKeepsTheForm
  intro s t h e
  cases hp : s.pending with
  | nil =>
    rw [step_of_pending_nil hp] at e
    cases e
    exact h
  | cons c rest =>
    rw [step_of_pending_cons hp] at e
    exact h.put.exec c e

end Sys2Proof.Machine
end

section
/-!
SUPPORT. Two statements about time that fail on states no run of the machine reaches: the end of a pulse beyond 32 bits, and a channel of the pool far
beyond the sixteen of Lodestone.
-/
namespace Sys2Proof.Machine

/-! ### A pulse whose end lies beyond 32 bits (R106) -/

/-- Channel 1 fires toward PPS_OUT at LDS_NS = 2, 12 ns on, while a pulse of channel 2 ends at 2^32 + 5. The counter stands at 2^32 - 10. -/
def stalePulse : State := { State.reset with
  lds := { State.reset.lds with on := true, st := .locked, time := (2 ^ 32 - 10) * 2 ^ 24, ppsOut := [(2, 2 ^ 32 + 5)] }
  regs := [(aLdsTmrCtl 1, 5), (aLdsTmrCmp 1, 2)] }

/-- The pulse has two ticks left when channel 1 fires. -/
theorem stalePulse_left : stalePulse.ticksUntil (stalePulse.reg (aLdsTmrCmp 1)) = 6 ∧ stalePulse.ticksUntil (2 ^ 32 + 5) = 8 := by decide +kernel

/-- Past the wrap the counter lies more than 2^32 below the end of the pulse, which the difference of R103 takes as reached: the pulse ends early, and
its edge comes before that of channel 1. -/
theorem stalePulse_fires : exec (.timerFire 1) stalePulse = .next (runTicks tickFuel 6 stalePulse) ∧
    (runTicks tickFuel 6 stalePulse).out = [.msg .ppsOut 0 [0, 5] [], .msg .ppsOut 0 [1, 2] []] :=
  ⟨rfl, by decide +kernel⟩

/-- Refutes O57: a pulse that another channel runs on PPS_OUT may hold an end of 2^32 or more, which the difference of R103 takes as reached once the
counter has wrapped, though ticks are left of it: then the output shows two edges, where the second clause has one. -/
theorem not_coincidentChannelsDeliverOneTrigger : ¬ Obligations.CoincidentChannelsDeliverOneTrigger := by
  unfold Obligations.CoincidentChannelsDeliverOneTrigger
  rintro ⟨-, hpps, -⟩
  obtain ⟨hk, hleft⟩ := stalePulse_left
  obtain ⟨t, ht, -, hout⟩ := hpps 1 6 1 [(2, 2 ^ 32 + 5)] stalePulse rfl (by decide +kernel) (by decide +kernel) rfl
    (fun e he => by rw [List.mem_singleton.1 he, hleft]; decide) rfl (by decide) (by decide) (by decide +kernel) (by decide +kernel) (by decide +kernel) (by decide +kernel)
    (by decide) (by decide) hk.symm (by decide +kernel)
  obtain ⟨hfire, hedges⟩ := stalePulse_fires
  obtain rfl : t = runTicks tickFuel 6 stalePulse := Host.Outcome.next.inj (ht.symm.trans hfire)
  rw [hedges] at hout
  exact absurd (congrArg List.length hout) (by decide)

/-! ### A pool channel whose registers are those of the spine (R104, R493) -/

/-- In LIGHT, at a beat 0: the owner's only pool channel is number 0x3AFF1, whose compare register has the address of SPN_DROP, and an association on the
spine path with no way back to it is closing. -/
def farChannel : State := { State.reset with
  pw := { State.reset.pw with feedA := { usable := true }, service := true, main := true }
  frm := { now := 5000, cap := 4000 }
  lds := { State.reset.lds with on := true, st := .locked, pool := [(0, 0x3AFF1)] }
  boot := { maint := true, dev0 := true, dev1 := true, step := 10, inService := true }
  ses := { assoc := [(0, { path := .service, phase := .opened, major := 3, caps := 255, lastRx := 4000 }),
                     (5, { path := .spine, phase := .opened, lastRx := 4000, closing := true })] }
  ten := { State.reset.ten with vctls := [(0, { q := ownerQuotas, modRights := 0x7F, tokens := 400, allow := 400, clientKey := some [] })] } }

/-- The owner's command. -/
def farSrc : Src := { key := .vctl 0, seq := 7, cmdid := 1, noData := false }

/-- A pulse of DEST 0 at 77 ns. -/
def farPulse : List Tlv := [{ id := 0x000C, must := true, val := beBytes 8 77 }, { id := 0x000D, must := true, val := [0] }]

/-- The command is accepted for that channel and that time. -/
theorem farChannel_accepted : ∃ s1 c, accepted opTimedPulse farSrc farPulse farChannel = some (s1, c) ∧
    s1.freeChannel c.vctl = some 0x3AFF1 ∧ c.nat 0x000C = 77 := by
  have hsome : (accepted opTimedPulse farSrc farPulse farChannel).any
      (fun x => x.1.freeChannel x.2.vctl == some 0x3AFF1 && x.2.nat 0x000C == 77) = true := by decide +kernel
  cases hacc : accepted opTimedPulse farSrc farPulse farChannel with
  | none => rw [hacc] at hsome; exact absurd hsome (by decide)
  | some x => rw [hacc] at hsome; exact ⟨x.1, x.2, rfl, by simpa using hsome⟩

/-- With the reply the association on the spine path closes, and the message that cannot leave is counted in SPN_DROP.OTHER. -/
theorem farChannel_counts : ∃ t, exec (.timedPulse farSrc farPulse) farChannel = .next t ∧ t.reg (aLdsTmrCmp 0x3AFF1) = 0x01000000 + 77 := by
  have hreg : (match exec (.timedPulse farSrc farPulse) farChannel with | .next t => t.reg (aLdsTmrCmp 0x3AFF1) | _ => 0) = 0x01000000 + 77 := by
    decide +kernel
  generalize exec (.timedPulse farSrc farPulse) farChannel = o at hreg
  cases o with
  | next t => exact ⟨t, rfl, hreg⟩
  | fault r => exact absurd hreg (by simp)
  | refused r => exact absurd hreg (by simp)

/-- Refutes O17: the pool of a vCtl may name a channel far beyond the sixteen of Lodestone. That of number 0x3AFF1 has its compare register at the
address of SPN_DROP, so the compare value does not outlast a spine message that is discarded with the reply. -/
theorem not_timeOpcodes : ¬ Obligations.TimeOpcodes := by
  unfold Obligations.TimeOpcodes
  rintro ⟨-, -, -, -, -, hpulse, -⟩
  obtain ⟨s1, c, hacc, hfree, htime⟩ := farChannel_accepted
  obtain ⟨t, ht, -, hcmp, -⟩ := hpulse farSrc farPulse farChannel s1 c hacc
  obtain ⟨u, hu, hcount⟩ := farChannel_counts
  obtain rfl : t = u := Host.Outcome.next.inj (ht.symm.trans hu)
  rw [hfree, htime, Option.getD_some, hcount] at hcmp
  exact absurd hcmp (by decide)

end Sys2Proof.Machine
end

section
/-!
SUPPORT. The counter of Lodestone: what a tick leaves of its steering, which moments of firing lie ahead, and where the counter stands when a value of
LDS_NS has been reached (R80, R81, R86, R103 to R106).
-/
namespace Sys2Proof.Machine

variable {s : State}

/-! ### A step leaves the queue and drops the outputs (log 1, 2) -/

theorem guardS_false {p : Bool} (h : p = false) (f : State → State) (s : State) : guardS p f s = s := if_neg (by simp [h])

/-- What holds with the effect and without it holds under its guard. -/
theorem guardS_keeps {α : Type} (p : State → α) {f : State → State} (h : ∀ s, p (f s) = p s) (b : Bool) (s : State) : p (guardS b f s) = p s := by
  cases b
  · rfl
  · exact h s

/-- What both branches leave of Lodestone. -/
theorem lds_ite {p : Prop} [Decidable p] {l : Lodestone} {t u : State} (ht : t.lds = l) (hu : u.lds = l) : (if p then t else u).lds = l := by
  split <;> assumption

/-! ### What the triggers of the channels leave of Lodestone (R104) -/

theorem spTx_lds (east : Bool) (ty ttl dest src : Nat) (urgent : Bool) (args : List Nat) (body : Bytes) (s : State) :
    (spTx east ty ttl dest src urgent args body s).lds = s.lds := by
  rw [(afterReply_spTx east ty ttl dest src urgent args body s).frame]

theorem spTo_lds (a ty ttl src : Nat) (urgent : Bool) (args : List Nat) (body : Bytes) (s : State) :
    (spTo a ty ttl src urgent args body s).lds = s.lds := by
  rw [(afterReply_spTo a ty ttl src urgent args body s).frame]

theorem raiseEvs_lds (code : Nat) (t : Tbl (Nat × Option Nat)) (s : State) : (raiseEvs code t s).1.lds = s.lds := by
  unfold raiseEvs
  refine foldl_keeps _ (fun a : State × Tbl (Nat × Option Nat) => a.1.lds) t (fun a e _ => ?_) (s, t)
  split <;> rfl

theorem fullEvent_lds (s : State) : (fullEvent s).lds = s.lds := by
  unfold fullEvent
  split
  · split <;> rfl
  · rfl

theorem wakeEvents_lds (s : State) : (wakeEvents s).lds = s.lds := by
  unfold wakeEvents
  exact (raiseEvs_lds _ _ _).trans ((fullEvent_lds _).trans (raiseEvs_lds _ _ _))

theorem bookWalk_lds (own cls v st lim : Nat) (w : Walk) (s : State) : (bookWalk own cls v st lim w s).lds = s.lds := by
  unfold bookWalk
  dsimp only
  split <;> rfl

theorem projectTrack_lds (n : Nat) (t : Track) (s : State) : (projectTrack n t s).lds = s.lds := by
  unfold projectTrack
  dsimp only
  split <;> exact bookWalk_lds ..

theorem continueSpill_lds (s : State) (p : Spill) : (continueSpill s p).lds = s.lds := bookWalk_lds ..

theorem handover_lds (s : State) (n : Nat) (t : Track) : (handover s n t).lds = s.lds := by
  unfold handover
  exact lds_ite rfl (lds_ite rfl rfl)

theorem wakeMsgs_lds (addr n : Nat) (l : List WakeRec) (s : State) : (wakeMsgs addr n l s).lds = s.lds := by
  induction n generalizing s l with
  | zero => rfl
  | succ n ih =>
    cases l with
    | nil => rfl
    | cons r l =>
      exact (ih _ _).trans (lds_ite (spTo_lds ..) rfl)

/-- A wake handoff epoch leaves Lodestone. -/
theorem wakeEpoch_lds (late : LateWake) (s : State) : (wakeEpoch late s).lds = s.lds := by
  unfold wakeEpoch
  extract_lets s1 ready marked toStrata toBorders s2 goes spills s3 now outs s4 s5 s6 s7 held s8 s9 s10
  have h1 : s1.lds = s.lds := foldl_keeps _ State.lds _ (fun s st _ => State.setFlag_lds s (aStrWakeFlags st) 2) _
  have h2 : s2.lds = s1.lds := foldl_keeps _ State.lds _ (fun s e _ => handover_lds s e.1 e.2) _
  have h4 : s4.lds = s2.lds := (State.wk_lds ..).trans (State.wk_lds ..)
  have h5 : s5.lds = s4.lds := foldl_keeps _ State.lds _ (fun _ _ _ => wakeMsgs_lds ..) _
  have h6 : s6.lds = s5.lds := foldl_keeps _ State.lds _ (fun _ _ _ => State.wk_lds ..) _
  have h8 : s8.lds = s6.lds := (State.wk_lds ..).trans (State.wk_lds ..)
  have h9 : s9.lds = s8.lds := by
    refine foldl_keeps _ State.lds _ (fun s e _ => ?_) _
    split
    · exact projectTrack_lds ..
    · rfl
  have h10 : s10.lds = s9.lds := foldl_keeps _ State.lds _ (fun s p _ => continueSpill_lds s p) _
  rw [wakeEvents_lds, State.wk_lds, h10, h9, h8, h6, h5, h4, h2, h1]

/-- An epoch of a pool channel leaves Lodestone. -/
theorem poolEpoch_lds (s : State) : (poolEpoch s).lds = s.lds := by
  unfold poolEpoch
  refine lds_ite ?_ (foldl_keeps _ State.lds _ (fun s st _ => State.setFlag_lds s (aStrWakeFlags st) 2) _)
  rw [State.wk_lds, foldl_keeps _ State.lds _ (fun s p _ => continueSpill_lds s p), State.wk_lds]

/-- A latch of the sweep unit leaves Lodestone. -/
theorem sweepLatch_lds (s : State) : (sweepLatch s).lds = s.lds := by
  unfold sweepLatch
  split
  · rfl
  · exact lds_ite rfl (lds_ite rfl rfl)

/-- A trigger leaves Lodestone. -/
theorem deliver_lds (dest n cmp : Nat) (s : State) : (deliver dest n cmp s).lds = s.lds := by
  unfold deliver
  dsimp only
  split
  · rfl
  · rfl
  · exact guardS_keeps State.lds sweepLatch_lds _ _
  · refine guardS_keeps State.lds (fun s => ?_) _ _
    split
    · exact wakeEpoch_lds ..
    · exact poolEpoch_lds s
  · rfl

/-! ### The steering of the counter (R81, R101) -/

/-- What steers the counter: whether it runs, its rate, the frequency, a rate that waits, and the state. -/
def Lodestone.steering (l : Lodestone) : Bool × Nat × Nat × Option Nat × LdsState := (l.on, l.inc, l.freq, l.incNext, l.st)

theorem driveOut_lds (k : Msg) (pulses : Tbl Nat) (v : Nat) (s : State) : (driveOut k pulses v s).lds = s.lds := rfl

/-! ### One channel fires (R103, R104, R106) -/

/-- A channel as its firing leaves it: FIRED is set, a periodic one has moved on by its period, a one-shot one is disarmed. -/
def State.fired (s : State) (n : Nat) : State :=
  let t := s.setFlag (aLdsTmrCtl n) 8
  if bit (s.reg (aLdsTmrCtl n)) 1 then t.setReg (aLdsTmrCmp n) ((s.reg (aLdsTmrCmp n) + t.reg (aLdsTmrPer n)) % 2 ^ 32)
  else t.setReg (aLdsTmrCtl n) (clrBit (t.reg (aLdsTmrCtl n)) 0)

/-- LDS_NS at the end of a pulse of a channel that begins now. -/
def State.pulseFin (s : State) (n : Nat) : Nat := (s.lds.nsReg + s.tmrWid n * 1000) % 2 ^ 32

theorem regsOnly_fired (n : Nat) (s : State) : RegsOnly s (s.fired n) :=
  iteInduction (motive := RegsOnly s) (fun _ => ⟨_, rfl⟩) (fun _ => ⟨_, rfl⟩)

theorem fired_lds (n : Nat) (s : State) : (s.fired n).lds = s.lds := by
  obtain ⟨r, hr⟩ := regsOnly_fired n s
  rw [hr]

/-- What the firing of an armed channel does, by its destination. -/
theorem fireTimer_armed {n : Nat} (first : Bool) (h : bit (s.reg (aLdsTmrCtl n)) 0 = true) :
    (s.tmrDest n = 0 → fireTimer n first s = s.fired n) ∧
    (s.tmrDest n = 1 → fireTimer n first s = driveOut .ppsOut (tset s.lds.ppsOut n ((s.fired n).pulseFin n)) (s.reg (aLdsTmrCmp n))
      ((s.fired n).lds' (fun l => { l with ppsOut := tset l.ppsOut n ((s.fired n).pulseFin n) }))) ∧
    (s.tmrDest n = 2 → fireTimer n first s = driveOut .fsyncOut (tset s.lds.fsyncOut n ((s.fired n).pulseFin n)) (s.reg (aLdsTmrCmp n))
      ((s.fired n).lds' (fun l => { l with fsyncOut := tset l.fsyncOut n ((s.fired n).pulseFin n) }))) ∧
    (3 ≤ s.tmrDest n → fireTimer n first s =
      if first then deliver (s.tmrDest n) n (s.reg (aLdsTmrCmp n)) (s.fired n) else (s.fired n).setFlag (aLdsTmrCtl n) 10) := by
  have hgo : (!bit (s.reg (aLdsTmrCtl n)) 0) = false := by simp [h]
  have hlds := fired_lds n s
  refine ⟨fun hd => ?_, fun hd => ?_, fun hd => ?_, fun hd => ?_⟩
  all_goals
    unfold fireTimer
    rw [if_neg (by rw [hgo]; decide)]
  · unfold State.tmrDest at hd
    simp only [hd]
    rfl
  · unfold State.tmrDest at hd
    simp only [hd]
    rw [← hlds]
    rfl
  · unfold State.tmrDest at hd
    simp only [hd]
    rw [← hlds]
    rfl
  · obtain ⟨d, hd⟩ := Nat.exists_eq_add_of_le' hd
    unfold State.tmrDest at hd ⊢
    simp only [hd]
    rfl

/-- A channel that is not armed does not fire. -/
theorem fireTimer_idle {n : Nat} (first : Bool) (h : bit (s.reg (aLdsTmrCtl n)) 0 = false) : fireTimer n first s = s := if_pos (by simp [h])

/-- A channel that fires leaves the steering. -/
theorem fireTimer_steering (n : Nat) (first : Bool) (s : State) : (fireTimer n first s).lds.steering = s.lds.steering := by
  cases h : bit (s.reg (aLdsTmrCtl n)) 0 with
  | false => rw [fireTimer_idle first h]
  | true =>
    obtain ⟨hnone, hpps, hfsync, htrigger⟩ := fireTimer_armed first h
    have hlds := fired_lds n s
    rcases (by omega : s.tmrDest n = 0 ∨ s.tmrDest n = 1 ∨ s.tmrDest n = 2 ∨ 3 ≤ s.tmrDest n) with hd | hd | hd | hd
    · rw [hnone hd, hlds]
    · rw [hpps hd]
      show (s.fired n).lds.steering = _
      rw [hlds]
    · rw [hfsync hd]
      show (s.fired n).lds.steering = _
      rw [hlds]
    · rw [htrigger hd]
      split
      · rw [deliver_lds, hlds]
      · show (s.fired n).lds.steering = _
        rw [hlds]

theorem endPps_steering (n v : Nat) (s : State) : (endPps n v s).lds.steering = s.lds.steering := rfl

theorem endFsync_steering (n v : Nat) (s : State) : (endFsync n v s).lds.steering = s.lds.steering := rfl

/-- What falls on a tick leaves the steering. -/
theorem atTick_steering (s : State) : (atTick s).lds.steering = s.lds.steering := by
  unfold atTick
  extract_lets s1 s2 chs
  have h1 : s1.lds.steering = s.lds.steering := foldl_keeps _ (fun s : State => s.lds.steering) _ (fun _ _ _ => endPps_steering ..) _
  have h2 : s2.lds.steering = s1.lds.steering := foldl_keeps _ (fun s : State => s.lds.steering) _ (fun _ _ _ => endFsync_steering ..) _
  rw [foldl_keeps _ (fun s : State => s.lds.steering) _ (fun _ _ _ => fireTimer_steering ..), h2, h1]

/-- Ticks with what falls on them leave the steering. -/
theorem runTicks_steering (f n : Nat) (s : State) : (runTicks f n s).lds.steering = s.lds.steering := by
  induction f generalizing n s with
  | zero => rfl
  | succ f ih =>
    unfold runTicks
    split
    · split
      · exact (ih _ _).trans (atTick_steering _)
      · rfl
    · rfl

/-! ### The rate at a beat boundary (R81) -/

/-- At a beat boundary of the running counter the rate that waits takes effect, after the ticks of the beat. -/
theorem beatBoundary_takes (hon : s.lds.on = true) :
    ∃ k, (beatBoundary s).lds = takeInc k (runTicks tickFuel s.ticksToBeat s).lds := by
  have hrun : (runTicks tickFuel s.ticksToBeat s).lds.on = true :=
    (congrArg Prod.fst (runTicks_steering tickFuel s.ticksToBeat s)).trans hon
  unfold beatBoundary
  simp only [hon, if_true, hrun]
  exact ⟨_, rfl⟩

/-- The rate of a beat that begins: the frequency, written just now or before; in SWITCH a rate in the range of R81. -/
theorem takeInc_rate (k : Nat) {l m : Lodestone} (h : l.steering = m.steering) :
    (takeInc k l).incNext = none ∧ (takeInc k l).freq = m.incNext.getD m.freq ∧ (m.st ≠ .switch → (takeInc k l).inc = m.incNext.getD m.freq) ∧
      (m.st = .switch → 0x01FFFEB1 ≤ (takeInc k l).inc ∧ (takeInc k l).inc ≤ 0x0200014F) := by
  obtain ⟨-, -, hfreq, hnext, hst⟩ : l.on = m.on ∧ l.inc = m.inc ∧ l.freq = m.freq ∧ l.incNext = m.incNext ∧ l.st = m.st := by
    simpa [Lodestone.steering] using h
  rw [← hfreq, ← hnext, ← hst]
  refine ⟨rfl, rfl, fun hne => ?_, fun he => ?_⟩
  · unfold takeInc Lodestone.beatInc
    cases hl : l.st with
    | switch => exact absurd hl hne
    | _ => rfl
  · unfold takeInc Lodestone.beatInc
    simp only [he]
    exact clampInc_bound _

/-! ### Commands of the rate -/

/-- LDS_INC_WRITE (R81): the written rate is held to its range and waits; one outside the range sets INC_CLAMPED. -/
theorem execLdsIncWrite_eq (v : Nat) (s : State) : ∃ r, exec (.ldsIncWrite v) s =
      .next { s with lds := { s.lds with incNext := some (clampInc v) }, regs := r, out := [] } ∧
    (clampInc v = v → r = s.regs) ∧ (clampInc v ≠ v → bit (tgetD r aLdsStat 0) 17 = true) := by
  by_cases h : clampInc v = v
  · exact ⟨s.regs, done_eq_next (if_pos h) rfl, fun _ => rfl, fun hne => absurd h hne⟩
  · exact ⟨_, done_eq_next (if_neg h) rfl, fun he => absurd he h, fun _ => setFlag_bit _ aLdsStat 17 (by decide)⟩

/-- A rate in the range of R81 is taken as it is, one outside it as the nearer end. -/
theorem clampInc_cases (v : Nat) : (0x01FFFEB1 ≤ v ∧ v ≤ 0x0200014F → clampInc v = v) ∧
    (v < 0x01FFFEB1 → clampInc v = 0x01FFFEB1 ∧ clampInc v ≠ v) ∧ (0x0200014F < v → clampInc v = 0x0200014F ∧ clampInc v ≠ v) := by
  unfold clampInc
  omega

/-- Sampling the contacts leaves Lodestone. -/
theorem sampleInputs_lds (i : BeatIn) (s : State) : (sampleLoop (sampleGpio i.gpio s) i.ohm).lds = s.lds := by
  have hgpio : (sampleGpio i.gpio s).lds = s.lds := by
    unfold sampleGpio
    split <;> rfl
  refine Eq.trans ?_ hgpio
  generalize sampleGpio i.gpio s = u
  unfold sampleLoop
  split
  · rfl
  · exact lds_ite rfl (lds_ite rfl rfl)

/-- BEAT_BOUNDARY while Lodestone runs takes the rate that waits (R81). -/
theorem execBeatBoundary_rate (i : BeatIn) (hon : s.lds.on = true) (hsvc : s.pw.service = true) : ∃ t, exec (.beatBoundary i) s = .next t ∧
    t.lds.incNext = none ∧ t.lds.freq = s.lds.incNext.getD s.lds.freq ∧ (s.lds.st ≠ .switch → t.lds.inc = s.lds.incNext.getD s.lds.freq) ∧
    (s.lds.st = .switch → 0x01FFFEB1 ≤ t.lds.inc ∧ t.lds.inc ≤ 0x0200014F) := by
  have hexec := done_next (s := s) (f := fun s => guardS s.pw.service (fun s => beatBoundary (sampleLoop (sampleGpio i.gpio s) i.ohm)) s)
    (guardS_true hsvc _ _)
  refine ⟨_, hexec, ?_⟩
  have hlds := sampleInputs_lds i { s with out := [] }
  obtain ⟨k, hk⟩ := beatBoundary_takes ((congrArg Lodestone.on hlds).trans hon)
  have hrate := takeInc_rate k (runTicks_steering tickFuel
    (sampleLoop (sampleGpio i.gpio { s with out := [] }) i.ohm).ticksToBeat (sampleLoop (sampleGpio i.gpio { s with out := [] }) i.ohm))
  rw [← hk, hlds] at hrate
  exact hrate

/-- The bound of R81 is 1 part in 100,000 of the oscillator. -/
theorem rateOk_near {l : Lodestone} (h : l.rateOk) : 2 ^ 25 * 100000 ≤ l.inc * 100000 + 2 ^ 25 ∧ l.inc * 100000 ≤ 2 ^ 25 * 100000 + 2 ^ 25 := by
  obtain ⟨hlo, hhi, -⟩ := h
  omega

/-- Settles O56: a written rate waits, clamped, for the beat boundary, which no tick and no trigger hastens, and the form of the state holds the bound. -/
theorem incWritesAreClampedAndBounded : Obligations.IncWritesAreClampedAndBounded := by
  unfold Obligations.IncWritesAreClampedAndBounded
  refine ⟨fun v s => ?_, fun i v s hon hsvc hst hv => ?_, fun i s hon hsvc hst hv => ?_, fun i s hon hsvc hst => ?_, fun l => rateOk_near,
    fun s t hform hstep => (everyStepKeepsTheForm s t hform hstep).rate⟩
  · obtain ⟨r, hexec, hsame, hflag⟩ := execLdsIncWrite_eq v s
    obtain ⟨hin, hlow, hhigh⟩ := clampInc_cases v
    refine ⟨_, hexec, rfl, fun h => ⟨congrArg some (hin h), hsame (hin h)⟩, fun h => ?_, fun h => ?_⟩
    · obtain ⟨he, hne⟩ := hlow h
      exact ⟨congrArg some he, hflag hne⟩
    · obtain ⟨he, hne⟩ := hhigh h
      exact ⟨congrArg some he, hflag hne⟩
  · obtain ⟨t, hexec, hnext, hfreq, hinc, -⟩ := execBeatBoundary_rate i hon hsvc
    rw [hv] at hfreq hinc
    exact ⟨t, hexec, hinc hst, hfreq, hnext⟩
  · obtain ⟨t, hexec, -, -, hinc, -⟩ := execBeatBoundary_rate i hon hsvc
    rw [hv] at hinc
    exact ⟨t, hexec, hinc hst⟩
  · obtain ⟨t, hexec, -, -, -, hrange⟩ := execBeatBoundary_rate i hon hsvc
    exact ⟨t, hexec, hrange hst⟩

end Sys2Proof.Machine
end

section
/-!
SUPPORT. Where the counter stands: after the ticks that a value of LDS_NS is away, after a load, and at a beat boundary of a quiet module (R80, R82 to R87, R116).
-/
namespace Sys2Proof.Machine

variable {s : State}

/-! ### Ticks (R80) -/

/-- A ceiling of a quotient, times the divisor, reaches the dividend and goes less than the divisor beyond it. -/
theorem cdiv_mul (a : Nat) {b : Nat} (hb : 0 < b) : a ≤ cdiv a b * b ∧ cdiv a b * b < a + b := by
  have hle := Nat.div_mul_le_self (a + b - 1) b
  have hlt := Nat.lt_div_mul_add (a := a + b - 1) hb
  unfold cdiv
  omega

/-- LDS_NS after a number of ticks. -/
theorem ldsTicks_nsReg (k : Nat) (l : Lodestone) : (ldsTicks k l).nsReg = (l.time + k * l.inc) / 2 ^ 24 % 2 ^ 32 := by
  show (l.time + k * l.inc) % 2 ^ 56 / 2 ^ 24 % 2 ^ 32 = _
  omega

/-- After the ticks to gain `d` ns the counter has gained them, and at most 2 ns more: a tick is less than 3 ns. -/
theorem ldsTicks_ticksFor (d : Nat) {l : Lodestone} (hpos : 0 < l.inc) (hinc : l.inc ≤ 0x0200014F) :
    ∃ j, j ≤ 2 ∧ (l.time + l.ticksFor d * l.inc) / 2 ^ 24 = l.time / 2 ^ 24 + d + j := by
  obtain ⟨hle, hlt⟩ := cdiv_mul (d * ldsUnit - l.time % ldsUnit) hpos
  change _ ≤ l.ticksFor d * l.inc at hle
  change l.ticksFor d * l.inc < _ at hlt
  cases d with
  | zero =>
    have hnone : l.ticksFor 0 = 0 := by
      unfold Lodestone.ticksFor cdiv
      rw [Nat.zero_mul, Nat.zero_sub, Nat.zero_add]
      exact Nat.div_eq_of_lt (by omega)
    exact ⟨0, by omega, by rw [hnone]; simp⟩
  | succ d =>
    generalize l.ticksFor (d + 1) * l.inc = g at hle hlt ⊢
    unfold ldsUnit at hle hlt
    exact ⟨(l.time + g) / 2 ^ 24 - (l.time / 2 ^ 24 + (d + 1)), by omega, by omega⟩

/-- After the ticks to a value of LDS_NS it stands there, or at most 2 ns beyond. -/
theorem ldsTicks_ticksTo (v : Nat) {l : Lodestone} (hpos : 0 < l.inc) (hinc : l.inc ≤ 0x0200014F) :
    ∃ j, j ≤ 2 ∧ (ldsTicks (l.ticksTo v) l).nsReg = (v + j) % 2 ^ 32 := by
  obtain ⟨j, hj, h⟩ := ldsTicks_ticksFor ((v + 2 ^ 32 - l.nsReg) % 2 ^ 32) hpos hinc
  refine ⟨j, hj, ?_⟩
  rw [ldsTicks_nsReg, Lodestone.ticksTo, h]
  unfold Lodestone.nsReg ldsUnit
  omega

/-- A value of LDS_NS is reached where the counter stands at it or at most 2 ns beyond. -/
theorem reached_near {v j : Nat} (hj : j ≤ 2) (h : s.lds.nsReg = (v + j) % 2 ^ 32) : s.reached v = true := by
  unfold State.reached
  rw [h]
  simp only [decide_eq_true_eq]
  omega

/-- Passing ticks that the counter needs to a value reaches it. -/
theorem passTicks_reaches (hr : s.rated) (v : Nat) : (passTicks (s.lds.ticksTo v) s).reached v = true := by
  obtain ⟨j, hj, h⟩ := ldsTicks_ticksTo v hr.1 hr.2
  exact reached_near hj h

/-- No tick passes, and the counter stands where it stood. -/
theorem passTicks_zero_reached (v : Nat) : (passTicks 0 s).reached v = s.reached v := by
  have hns : (passTicks 0 s).lds.nsReg = s.lds.nsReg := (ldsTicks_nsReg 0 s.lds).trans (by rw [Nat.zero_mul, Nat.add_zero]; rfl)
  simp only [State.reached, hns]

/-- A value that lies ahead takes a tick or more. -/
theorem ticksTo_pos {v : Nat} (hpos : 0 < s.lds.inc) (h : s.reached v = false) : 0 < s.lds.ticksTo v := by
  obtain ⟨hle, -⟩ := cdiv_mul ((v + 2 ^ 32 - s.lds.nsReg) % 2 ^ 32 * ldsUnit - s.lds.time % ldsUnit) hpos
  change _ ≤ s.lds.ticksTo v * s.lds.inc at hle
  unfold State.reached at h
  simp only [decide_eq_false_iff_not] at h
  refine Nat.pos_of_ne_zero fun hz => ?_
  rw [hz] at hle
  unfold Lodestone.nsReg ldsUnit at *
  omega

/-! ### A quiet module (R103, R106) -/

/-- With no channel armed and no pulse running, no moment of firing lies ahead. -/
theorem nextEvent_quiet (h : s.Quiet []) : s.nextEvent = none := by
  obtain ⟨hch, hpps, hfsync⟩ := h
  have hnone : (List.range 16).filter (fun n => bit (s.reg (aLdsTmrCtl n)) 0) = [] := by
    rw [List.filter_eq_nil_iff]
    intro m hm
    rw [hch m (List.mem_range.1 hm) (List.not_mem_nil)]
    decide
  unfold State.nextEvent
  simp only [hnone, hpps, hfsync]
  rfl

theorem runTicks_none {f n : Nat} (h : s.nextEvent = none) : runTicks f n s = passTicks n s := by
  cases f with
  | zero => rfl
  | succ f => simp only [runTicks, h]

/-- Ticks pass over a quiet module as they are. -/
theorem runTicks_quiet (h : s.Quiet []) (f n : Nat) : runTicks f n s = passTicks n s := runTicks_none (nextEvent_quiet h)

/-! ### The offset load (R82, R578) -/

theorem setTimer_cmp (n ctl cmp per wid : Nat) (s : State) : (setTimer n ctl cmp per wid s).reg (aLdsTmrCmp n) = cmp % 2 ^ 32 := by
  have hper : aLdsTmrCmp n ≠ aLdsTmrPer n := by unfold aLdsTmrCmp aLdsTmrPer; omega
  have hwid : aLdsTmrCmp n ≠ aLdsTmrWid n := by unfold aLdsTmrCmp aLdsTmrWid; omega
  simp only [setTimer, setReg_reg_ne _ _ hper, setReg_reg_ne _ _ hwid, setReg_reg, Nat.mod_mod]

theorem setTimer_cmp_ne {n m : Nat} (h : m ≠ n) (ctl cmp per wid : Nat) (s : State) :
    (setTimer n ctl cmp per wid s).reg (aLdsTmrCmp m) = s.reg (aLdsTmrCmp m) := by
  have hctl : aLdsTmrCmp m ≠ aLdsTmrCtl n := by unfold aLdsTmrCmp aLdsTmrCtl; omega
  have hcmp : aLdsTmrCmp m ≠ aLdsTmrCmp n := by unfold aLdsTmrCmp; omega
  have hper : aLdsTmrCmp m ≠ aLdsTmrPer n := by unfold aLdsTmrCmp aLdsTmrPer; omega
  have hwid : aLdsTmrCmp m ≠ aLdsTmrWid n := by unfold aLdsTmrCmp aLdsTmrWid; omega
  simp only [setTimer, setReg_reg_ne _ _ hctl, setReg_reg_ne _ _ hcmp, setReg_reg_ne _ _ hper, setReg_reg_ne _ _ hwid]

theorem timerKept_cmp_ne {n m : Nat} (h : m ≠ n) (ctl wid : Nat) (s : State) :
    (timerKept n ctl wid s).reg (aLdsTmrCmp m) = s.reg (aLdsTmrCmp m) :=
  iteInduction (motive := fun u : State => u.reg (aLdsTmrCmp m) = s.reg (aLdsTmrCmp m)) (fun _ => rfl) (fun _ => setTimer_cmp_ne h ..)

/-- Firmware sets the frame tick to the next frame of the loaded time (R86, R107). -/
theorem programTimers_frame (full : Nat) (s : State) :
    (programTimers full 0 s).reg (aLdsTmrCmp 0) = (full / 10000000 + 1) * 10000000 % 2 ^ 32 := by
  have hprog : ∃ c1 c2 c5, programTimers full 0 s = setTimer 5 27 c5 10000000 1 (timerKept 4 20 1 (timerKept 3 16 1
      (setTimer 2 11 c2 10000000 125 (setTimer 1 7 c1 1000000000 100000
        (setTimer 0 15 ((full / 10000000 + 1) * 10000000 + 2 ^ 32 - 0 % 2 ^ 32) 10000000 1 s))))) := ⟨_, _, _, rfl⟩
  obtain ⟨c1, c2, c5, h⟩ := hprog
  rw [h, setTimer_cmp_ne (by decide), timerKept_cmp_ne (by decide), timerKept_cmp_ne (by decide), setTimer_cmp_ne (by decide),
    setTimer_cmp_ne (by decide), setTimer_cmp]
  omega

/-- What the one offset load leaves: the counter and its read state at the loaded time, the measurements moved with it, and of the other parts those
that keep no frame number. -/
structure OffsetLoaded (full : Nat) (s t : State) : Prop where
  /-- Lodestone -/
  lds : ∃ d, t.lds = { shiftObs d s.lds with load := full % 2 ^ 32, loadUsed := true, time := full % 2 ^ 32 * ldsUnit, wrap := 0, wrapLatch := 0,
                                             ext := full, readTick := s.lds.ticks }
  /-- the frame -/
  frame : t.frm.now = full / 10000000 ∧ t.frm.beat = full % 10000000 / 125000
  /-- the frame tick -/
  tick : t.reg (aLdsTmrCmp 0) = (full / 10000000 + 1) * 10000000 % 2 ^ 32
  /-- the slates -/
  slt : t.slt = s.slt
  /-- the Geode -/
  geo : t.geo = s.geo
  /-- the bridge -/
  brg : t.brg = s.brg

/-- The first load, before frame service, is taken (R82). -/
theorem offsetLoad_taken (full : Nat) (hused : s.lds.loadUsed = false) (hserv : s.boot.inService = false) :
    OffsetLoaded full s (offsetLoad full s) := by
  have hgo : ¬ (s.lds.loadUsed || s.boot.inService) = true := by simp [hused, hserv]
  obtain ⟨u, heq, ⟨d, hlds⟩, hnow, hbeat, hslt, hgeo, hbrg⟩ : ∃ u, offsetLoad full s = programTimers full 0 u ∧
      (∃ d, u.lds = { shiftObs d s.lds with load := full % 2 ^ 32, loadUsed := true, time := full % 2 ^ 32 * ldsUnit, wrap := 0, wrapLatch := 0,
                                             ext := full, readTick := s.lds.ticks }) ∧
      u.frm.now = full / 10000000 ∧ u.frm.beat = full % 10000000 / 125000 ∧ u.slt = s.slt ∧ u.geo = s.geo ∧ u.brg = s.brg :=
    ⟨_, if_neg hgo, ⟨_, rfl⟩, rfl, rfl, rfl, rfl, rfl⟩
  have htick := programTimers_frame full u
  obtain ⟨r, hr⟩ := regsOnly_programTimers full 0 u
  rw [hr] at heq htick
  rw [heq]
  exact ⟨⟨d, hlds⟩, ⟨hnow, hbeat⟩, htick, hslt, hgeo, hbrg⟩

/-- A later load, or one in frame service, is refused (R82). -/
theorem offsetLoad_refused (full : Nat) (h : s.lds.loadUsed = true ∨ s.boot.inService = true) :
    offsetLoad full s = ({ s with lds := { s.lds with load := full % 2 ^ 32 } } : State).setFlag aLdsStat 16 := by
  have hgo : (s.lds.loadUsed || s.boot.inService) = true := by simpa using h
  exact if_pos hgo

/-! ### A read of LDS_NS (R84, R85) -/

/-- What a read of LDS_NS latches and extends, and what it tells of more than one wrap; `long` tells that a gap beyond 2^16 wraps may have passed. -/
def nsRead1 (long : Bool) (s : State) : State :=
  let gap := (s.lds.wrap + 2 ^ 16 - s.lds.wrapLatch) % 2 ^ 16
  let e := if gap > 1 then (s.lds.ext / 2 ^ 32 + gap) * 2 ^ 32 + s.lds.nsReg else s.ns
  let t := s.lds' (fun l => { l with wrapLatch := l.wrap, ext := e, readTick := l.ticks, untraceable := l.untraceable || long })
  if gap > 1 then t.owner 0x0601 [tCount gap] else t

theorem nsRead_short (h : 2 * (s.lds.ticks - s.lds.readTick) < 2 ^ 48) : nsRead s = nsRead1 false s := by
  have hlong : decide (2 * (s.lds.ticks - s.lds.readTick) ≥ 2 ^ 48) = false := by simpa using h
  unfold nsRead
  simp only [hlong]
  rfl

/-- Wraps since the latched wrap count (R85). -/
def Lodestone.wrapGap (l : Lodestone) : Nat := (l.wrap + 65536 - l.wrapLatch) % 65536

/-- Lodestone after a read of LDS_NS that extends to `e`. -/
def Lodestone.readAt (l : Lodestone) (e : Nat) (long : Bool) : Lodestone :=
  { l with wrapLatch := l.wrap, ext := e, readTick := l.ticks, untraceable := l.untraceable || long }

/-- Within one wrap the nearest epoch extends the value (R84). -/
theorem nsRead1_near (long : Bool) (h : s.lds.wrapGap ≤ 1) :
    nsRead1 long s = { s with lds := s.lds.readAt s.ns long } := by
  have hgap : ¬ (s.lds.wrap + 2 ^ 16 - s.lds.wrapLatch) % 2 ^ 16 > 1 := Nat.not_lt.2 h
  unfold nsRead1
  dsimp only
  rw [if_neg hgap, if_neg hgap]
  rfl

/-- After more than one wrap the wrap count extends it, and the owner is told (R85). -/
theorem nsRead1_far (long : Bool) (h : 1 < s.lds.wrapGap) :
    nsRead1 long s = ({ s with lds := s.lds.readAt ((s.lds.ext / 2 ^ 32 + s.lds.wrapGap) * 2 ^ 32 + s.lds.nsReg) long } : State).owner
      0x0601 [tCount s.lds.wrapGap] := by
  have hgap : (s.lds.wrap + 2 ^ 16 - s.lds.wrapLatch) % 2 ^ 16 > 1 := h
  unfold nsRead1
  dsimp only
  rw [if_pos hgap, if_pos hgap]
  rfl

theorem nsRead1_frame (long : Bool) (s : State) : ∃ e m, nsRead1 long s = { s with lds := s.lds.readAt e long, ses := m } := by
  rcases Nat.lt_or_ge 1 s.lds.wrapGap with h | h
  · exact ⟨_, _, nsRead1_far long h⟩
  · exact ⟨_, _, nsRead1_near long h⟩

theorem nsRead_long (h : 2 ^ 48 ≤ 2 * (s.lds.ticks - s.lds.readTick)) (hb : s.lds.bestP = none) :
    nsRead s = (nsRead1 true s).owner 0x0603 [tCode 2] := by
  have hlong : decide (2 * (s.lds.ticks - s.lds.readTick) ≥ 2 ^ 48) = true := by simpa using h
  have hbest : ((nsRead1 true s).owner 0x0603 [tCode 2]).lds.bestP = none := by
    obtain ⟨e, m, hread⟩ := nsRead1_frame true s
    rw [hread]
    exact hb
  unfold nsRead
  simp only [hlong]
  unfold nsRead1 at hbest ⊢
  dsimp only at hbest ⊢
  simp only [hbest]
  rfl

/-- LDS_NS_READ at its instant (R84, R85). -/
theorem execLdsNsRead_eq (b k : Nat) {s u : State} (hu : u = ({ s with out := [] } : State).later b k) :
    exec (.ldsNsRead b k) s = .next { nsRead u with pending := s.pending } := by
  subst hu
  rfl

/-! ### A beat begins (R86, R87, R116) -/

/-- The state with the levels and the resistance that a beat finds, where the class of the resistance is the one reported (R67, R79). -/
def sampledPw (i : BeatIn) (p : Power) : Power :=
  { p with gpioIn := i.gpio % 2 ^ 16, loopOhm := min (i.ohm / 10) 0xFFFF,
           loopRun := (loopClass i.ohm, if p.loopRun.1 = loopClass i.ohm then min 80 (p.loopRun.2 + 1) else 1) }

theorem sampleInputs_eq (i : BeatIn) (hsvc : s.pw.service = true) (hc : loopClass i.ohm = s.pw.loop) :
    sampleLoop (sampleGpio i.gpio s) i.ohm = { s with pw := sampledPw i s.pw } := by
  unfold sampleGpio
  rw [if_pos hsvc]
  unfold sampleLoop
  rw [if_neg (by simp [hsvc])]
  extract_lets cls n u1 u2 u3
  exact if_pos (Bool.or_eq_true_iff.2 (.inr (decide_eq_true hc)))

/-- What the beginning of beat `b` does once the counter has come to it. -/
def beatBegun (b : Nat) (s : State) : State :=
  let t := { s with frm := { s.frm with beat := b, tickDue := s.frm.tickDue || b == 0 } }
  if s.lds.on then (t.lds' (takeInc (80 * (s.frm.now + b2n (b == 0)) + b))).send .beatEdge 0 [b] else t

theorem beatBoundary_eq (s : State) :
    beatBoundary s = beatBegun ((s.frm.beat + 1) % 80) (if s.lds.on then runTicks tickFuel s.ticksToBeat s else s) := rfl

/-- Without Lodestone the service logic counts the beats (R116). -/
theorem beatBoundary_off (hoff : s.lds.on = false) : beatBoundary s =
    { s with frm := { s.frm with beat := (s.frm.beat + 1) % 80, tickDue := s.frm.tickDue || (s.frm.beat + 1) % 80 == 0 } } := by
  rw [beatBoundary_eq, hoff, if_neg Bool.false_ne_true]
  exact if_neg (by rw [hoff]; exact Bool.false_ne_true)

theorem beatBegun_on (b : Nat) (hon : s.lds.on = true) : ∃ k, beatBegun b s =
    { s with lds := takeInc k s.lds, frm := { s.frm with beat := b, tickDue := s.frm.tickDue || b == 0 }, out := s.out ++ [.msg .beatEdge 0 [b] []] } :=
  ⟨_, if_pos hon⟩

theorem beatBegun_passTicks (b n : Nat) (hon : s.lds.on = true) : ∃ k, beatBegun b (passTicks n s) =
    { s with lds := takeInc k (ldsTicks n s.lds), frm := { s.frm with beat := b, tickDue := s.frm.tickDue || b == 0 },
             out := s.out ++ [.msg .beatEdge 0 [b] []] } := beatBegun_on (s := passTicks n s) b hon

/-- In a quiet module the counter runs to the beat, the rate that waits takes effect, and the Geode gets its edge (R81, R86, R87). -/
theorem beatBoundary_quiet (hon : s.lds.on = true) (hq : s.Quiet []) : ∃ k, beatBoundary s =
    { s with lds := takeInc k (ldsTicks s.ticksToBeat s.lds),
             frm := { s.frm with beat := (s.frm.beat + 1) % 80, tickDue := s.frm.tickDue || (s.frm.beat + 1) % 80 == 0 },
             out := s.out ++ [.msg .beatEdge 0 [(s.frm.beat + 1) % 80] []] } := by
  rw [beatBoundary_eq, hon, if_pos rfl, runTicks_quiet hq]
  exact beatBegun_passTicks _ _ hon

theorem ldsTicks_steering (n : Nat) (l : Lodestone) : (ldsTicks n l).steering = l.steering := rfl

theorem takeInc_nsReg (k : Nat) (l : Lodestone) : (takeInc k l).nsReg = l.nsReg := rfl

/-- At a beat boundary the counter has reached the beat (R86). -/
theorem ticksToBeat_reaches (hr : s.rated) (k : Nat) {t : State} (ht : t.lds = takeInc k (ldsTicks s.ticksToBeat s.lds)) :
    t.reached (s.beatStart (s.frm.beat + 1)) = true := by
  obtain ⟨j, hj, h⟩ := ldsTicks_ticksTo (s.beatStart (s.frm.beat + 1)) hr.1 hr.2
  refine reached_near hj (Eq.trans ?_ h)
  rw [ht, takeInc_nsReg, State.ticksToBeat]

/-- The counter wraps once in the ticks to its end (R80, R85). -/
theorem ldsTicks_wraps {l : Lodestone} (hpos : 0 < l.inc) (hinc : l.inc ≤ 0x0200014F) (htime : l.time < 2 ^ 56) :
    (ldsTicks (l.ticksFor (2 ^ 32 - l.nsReg)) l).wrap = (l.wrap + 1) % 65536 ∧ (ldsTicks (l.ticksFor (2 ^ 32 - l.nsReg)) l).time < l.inc := by
  obtain ⟨hle, hlt⟩ := cdiv_mul ((2 ^ 32 - l.nsReg) * ldsUnit - l.time % ldsUnit) hpos
  change _ ≤ l.ticksFor (2 ^ 32 - l.nsReg) * l.inc at hle
  change l.ticksFor (2 ^ 32 - l.nsReg) * l.inc < _ at hlt
  unfold ldsTicks
  dsimp only
  generalize l.ticksFor (2 ^ 32 - l.nsReg) * l.inc = g at hle hlt ⊢
  unfold Lodestone.nsReg ldsUnit at hle hlt
  have hgone : (2 ^ 32 - l.time / 2 ^ 24 % 2 ^ 32) * 2 ^ 24 - l.time % 2 ^ 24 = 2 ^ 56 - l.time := by omega
  rw [hgone] at hle hlt
  omega

theorem execCounterWrap_done (s : State) : execCounterWrap s = done s (fun s =>
    guardS (s.lds.on && s.lds.ticksFor (2 ^ 32 - s.lds.nsReg) < s.ticksToBeat) (runTicks tickFuel (s.lds.ticksFor (2 ^ 32 - s.lds.nsReg))) s) := rfl

/-- COUNTER_WRAP within the beat (R85). -/
theorem execCounterWrap_eq (hon : s.lds.on = true) (hk : s.lds.ticksFor (2 ^ 32 - s.lds.nsReg) < s.ticksToBeat) : exec .counterWrap s =
    .next { runTicks tickFuel (s.lds.ticksFor (2 ^ 32 - s.lds.nsReg)) { s with out := [] } with pending := s.pending } :=
  (execCounterWrap_done s).trans (done_next (guardS_true (Bool.and_eq_true_iff.2 ⟨hon, decide_eq_true hk⟩) _ _))

theorem execBeatBoundary_done (i : BeatIn) (s : State) : execBeatBoundary i s =
    done s (fun s => guardS s.pw.service (fun s => beatBoundary (sampleLoop (sampleGpio i.gpio s) i.ohm)) s) := rfl

/-- BEAT_BOUNDARY with a resistance of the class reported (R67, R79). -/
theorem execBeatBoundary_eq (i : BeatIn) (hsvc : s.pw.service = true) (hc : loopClass i.ohm = s.pw.loop) : exec (.beatBoundary i) s =
    .next { beatBoundary { s with pw := sampledPw i s.pw, out := [] } with pending := s.pending } :=
  (execBeatBoundary_done i s).trans (done_next ((guardS_true hsvc _ _).trans
    (congrArg beatBoundary (sampleInputs_eq (s := { s with out := [] }) i hsvc hc))))

/-- In a quiet module the ticks to the wrap pass as they are. -/
theorem execCounterWrap_quiet (hon : s.lds.on = true) (hq : s.Quiet []) (hk : s.lds.ticksFor (2 ^ 32 - s.lds.nsReg) < s.ticksToBeat) :
    exec .counterWrap s = .next { s with lds := ldsTicks (s.lds.ticksFor (2 ^ 32 - s.lds.nsReg)) s.lds, out := [] } := by
  rw [execCounterWrap_eq hon hk, runTicks_quiet (s := { s with out := [] }) hq]
  rfl

/-- BEAT_BOUNDARY of a quiet module. -/
theorem execBeatBoundary_quiet (i : BeatIn) (hon : s.lds.on = true) (hsvc : s.pw.service = true) (hq : s.Quiet [])
    (hc : loopClass i.ohm = s.pw.loop) : ∃ k, exec (.beatBoundary i) s =
      .next { s with lds := takeInc k (ldsTicks s.ticksToBeat s.lds), pw := sampledPw i s.pw, out := [.msg .beatEdge 0 [(s.frm.beat + 1) % 80] []],
                     frm := { s.frm with beat := (s.frm.beat + 1) % 80, tickDue := s.frm.tickDue || (s.frm.beat + 1) % 80 == 0 } } := by
  obtain ⟨k, hk⟩ := beatBoundary_quiet (s := { s with pw := sampledPw i s.pw, out := [] }) hon hq
  have hticks : ({ s with pw := sampledPw i s.pw, out := [] } : State).ticksToBeat = s.ticksToBeat := rfl
  rw [hticks] at hk
  rw [execBeatBoundary_eq i hsvc hc, hk]
  exact ⟨k, rfl⟩

/-- Settles O12: each clause from the rule of its operation above. -/
theorem counterAndLoads : Obligations.CounterAndLoads := by
  unfold Obligations.CounterAndLoads
  refine ⟨fun v s => ?_, fun full s hused hserv => ?_, fun full s h => ?_, fun b k g s u hu hg hshort => ?_, fun b k s u hu hlong hbest => ?_,
    fun s => rfl, fun s hon hr htime hk hq => ?_, fun s hon hk => execCounterWrap_eq hon hk, fun i s hon hsvc hr hq hc => ?_,
    fun i s hoff hsvc hc => ?_⟩
  · obtain ⟨r, hexec, hsame, hflag⟩ := execLdsIncWrite_eq v s
    obtain ⟨hin, hlow, hhigh⟩ := clampInc_cases v
    refine ⟨_, hexec, fun h => ⟨congrArg some (hin h), hsame (hin h)⟩, fun h => ?_, fun h => ?_, rfl⟩
    · obtain ⟨he, hne⟩ := hlow h
      exact ⟨congrArg some he, hflag hne⟩
    · obtain ⟨he, hne⟩ := hhigh h
      exact ⟨congrArg some he, hflag hne⟩
  · obtain ⟨⟨d, hlds⟩, ⟨hnow, hbeat⟩, htick, hslt, hgeo, hbrg⟩ := offsetLoad_taken (s := { s with out := [] }) full hused hserv
    refine ⟨_, rfl, ?_⟩
    dsimp only
    rw [hlds]
    exact ⟨rfl, rfl, rfl, rfl, rfl, rfl, rfl, rfl, hnow, hbeat, htick, hslt, hgeo, hbrg⟩
  · refine ⟨_, done_next (offsetLoad_refused full h), ?_, rfl⟩
    exact setFlag_bit _ aLdsStat 16 (by decide)
  · have hexec := execLdsNsRead_eq b k hu
    rw [nsRead_short hshort] at hexec
    subst hg
    refine ⟨_, hexec, ?_⟩
    rcases Nat.lt_or_ge 1 u.lds.wrapGap with h | h
    · rw [nsRead1_far false h]
      unfold Lodestone.readAt
      rw [Bool.or_false]
      exact ⟨fun hle => absurd h (Nat.not_lt.2 hle), fun _ => ⟨rfl, rfl⟩, rfl⟩
    · rw [nsRead1_near false h]
      unfold Lodestone.readAt
      rw [Bool.or_false]
      exact ⟨fun _ => ⟨rfl, rfl⟩, fun hlt => absurd hlt (Nat.not_lt.2 h), rfl⟩
  · have hexec := execLdsNsRead_eq b k hu
    obtain ⟨e, m, hread⟩ := nsRead1_frame true u
    rw [nsRead_long hlong hbest, hread] at hexec
    exact ⟨_, hexec, Bool.or_true _, rfl, rfl⟩
  · obtain ⟨hwrap, hlow⟩ := ldsTicks_wraps hr.1 hr.2 htime
    exact ⟨_, execCounterWrap_quiet hon hq hk, hwrap, hlow, rfl, rfl⟩
  · obtain ⟨k, hexec⟩ := execBeatBoundary_quiet i hon hsvc hq hc
    obtain ⟨hnext, -, hinc, -⟩ := takeInc_rate k (ldsTicks_steering s.ticksToBeat s.lds)
    exact ⟨_, hexec, rfl, rfl, hnext, hinc, ticksToBeat_reaches hr k rfl, rfl, rfl, rfl, rfl⟩
  · have hexec := execBeatBoundary_eq i hsvc hc
    rw [beatBoundary_off (s := { s with pw := sampledPw i s.pw, out := [] }) hoff] at hexec
    exact ⟨_, hexec, rfl, rfl, rfl, rfl, rfl⟩

end Sys2Proof.Machine
end

section
/-!
SUPPORT. The rows of R101: what a reference that qualifies or is lost changes of Lodestone, what an offset measurement notes, and the times of the
acquisition, of a slew and of HOLDOVER (R94 to R98, R101, R534).
-/
namespace Sys2Proof.Machine

variable {s t : State}

/-! ### What a row of R101 may change -/

/-- Lodestone with what the rows of R101 change taken from `m`: the state with its target and slew, the frequency and its steering, the qualified
references, and the count of ignored events. -/
def Lodestone.resteered (l m : Lodestone) : Lodestone :=
  { l with st := m.st, target := m.target, steer10 := m.steer10, within := m.within, holdFrames := m.holdFrames, holdExpired := m.holdExpired,
           offset := m.offset, slewLeft := m.slewLeft, slewFull := m.slewFull, incNext := m.incNext, ignored := m.ignored, qual := m.qual }

/-- From `s` to `t` only what the rows of R101 change has changed, and the sessions. -/
def Resteers (s t : State) : Prop := ∃ m l, t = { s with ses := m, lds := s.lds.resteered l }

theorem Resteers.refl (s : State) : Resteers s s := ⟨s.ses, s.lds, rfl⟩

theorem Resteers.trans {u : State} (h : Resteers s t) (k : Resteers t u) : Resteers s u := by
  obtain ⟨m, l, rfl⟩ := h
  obtain ⟨m', l', rfl⟩ := k
  exact ⟨m', l', rfl⟩

theorem Resteers.owner (h : Resteers s t) (code : Nat) (l : List OTlv) : Resteers s (t.owner code l) := h.trans ⟨_, t.lds, rfl⟩

theorem Resteers.ite {p : Prop} [Decidable p] {u : State} (h : Resteers s t) (k : Resteers s u) : Resteers s (if p then t else u) := by
  split <;> assumption

/-- REF_CHANGE is raised where the state or the source has changed; nothing else changes. -/
theorem refChange_eq (old s : State) : ∃ m, refChange old s = { s with ses := m } := by
  unfold refChange
  split
  · exact ⟨_, rfl⟩
  · exact ⟨_, rfl⟩

theorem refChange_lds (old s : State) : (refChange old s).lds = s.lds := by
  obtain ⟨m, h⟩ := refChange_eq old s
  rw [h]

theorem Resteers.refChange (h : Resteers s t) (old : State) : Resteers s (refChange old t) := by
  obtain ⟨m, hm⟩ := refChange_eq old t
  rw [hm]
  exact h.trans ⟨m, t.lds, rfl⟩

theorem resteers_slewTo (r : Ref) (s : State) : Resteers s (slewTo r s) := ⟨s.ses, (slewTo r s).lds, rfl⟩

theorem resteers_refIgnored (s : State) : Resteers s (refIgnored s) := ⟨s.ses, (refIgnored s).lds, rfl⟩

theorem resteers_holdFreq (s : State) : Resteers s (holdFreq s) :=
  Resteers.ite ⟨s.ses, { s.lds with steer10 := true }, rfl⟩ ⟨s.ses, { s.lds with steer10 := false, incNext := some (clampInc s.lds.meanInc) }, rfl⟩

theorem holdFreq_qual (s : State) : (holdFreq s).lds.qual = s.lds.qual := by
  unfold holdFreq
  split <;> rfl

/-- Lodestone has entered HOLDOVER (R101). -/
def heldOver (s : State) : State :=
  (holdFreq s).lds' (fun l => { l with st := .holdover, target := none, holdFrames := 0, holdExpired := false, slewLeft := 0 })

theorem enterHoldover_eq (raise : Bool) (s : State) :
    enterHoldover raise s = if raise then (heldOver s).owner 0x0605 [tCode (b2n (heldOver s).lds.steer10)] else heldOver s := rfl

theorem resteers_heldOver (s : State) : Resteers s (heldOver s) := (resteers_holdFreq s).trans ⟨_, (heldOver s).lds, rfl⟩

theorem enterHoldover_lds (raise : Bool) (s : State) : (enterHoldover raise s).lds = (heldOver s).lds := by
  rw [enterHoldover_eq]
  exact lds_ite rfl rfl

theorem resteers_enterHoldover (raise : Bool) (s : State) : Resteers s (enterHoldover raise s) := by
  rw [enterHoldover_eq]
  exact .ite ((resteers_heldOver s).owner ..) (resteers_heldOver s)

/-! ### A reference is lost (L of R101) -/

/-- Lodestone without a reference among the qualified ones. -/
def unqualified (r : Ref) (s : State) : State := s.lds' (fun l => { l with qual := l.qual.filter (· != r) })

/-- What the loss of a reference leads to: the frequency held, another reference, HOLDOVER, or nothing. -/
def afterLoss (r : Ref) (s : State) : State :=
  if r = .ref10 then (if s.lds.steer10 then s.lds' (fun l => { l with steer10 := false, incNext := some (clampInc l.heldInc) }) else refIgnored s)
  else if s.lds.target = some r then
    (match s.lds.bestP with
      | some b => slewTo b s
      | none => enterHoldover (s.lds.st = .locked) s)
  else refIgnored s

theorem lose_unqualified {r : Ref} (h : s.lds.qual.contains r = false) : lose r s = s := if_pos (by rw [h]; rfl)

theorem lose_qualified {r : Ref} (h : s.lds.qual.contains r = true) : lose r s = refChange s (afterLoss r (unqualified r s)) :=
  if_neg (by rw [h]; decide)

theorem resteers_afterLoss (r : Ref) (s : State) : Resteers s (afterLoss r s) := by
  unfold afterLoss
  refine .ite (.ite ⟨s.ses, { s.lds with steer10 := false, incNext := some (clampInc s.lds.heldInc) }, rfl⟩ (resteers_refIgnored s))
    (.ite ?_ (resteers_refIgnored s))
  split
  · exact resteers_slewTo ..
  · exact resteers_enterHoldover ..

theorem afterLoss_qual (r : Ref) (s : State) : (afterLoss r s).lds.qual = s.lds.qual := by
  unfold afterLoss
  split
  · split <;> rfl
  · split
    · split
      · rfl
      · rw [enterHoldover_lds]
        exact holdFreq_qual s
    · rfl

theorem resteers_lose (r : Ref) (s : State) : Resteers s (lose r s) := by
  cases h : s.lds.qual.contains r with
  | false => rw [lose_unqualified h]; exact .refl s
  | true =>
    rw [lose_qualified h]
    exact (Resteers.trans ⟨s.ses, (unqualified r s).lds, rfl⟩ (resteers_afterLoss r (unqualified r s))).refChange s

/-- A reference that is lost is no longer among the qualified ones. -/
theorem lose_qual (r : Ref) (s : State) : (lose r s).lds.qual = s.lds.qual.filter (· != r) := by
  cases h : s.lds.qual.contains r with
  | false =>
    rw [lose_unqualified h, eq_comm, List.filter_eq_self]
    intro x hx
    simp only [bne_iff_ne]
    rintro rfl
    simp [hx] at h
  | true =>
    rw [lose_qualified h, refChange_lds, afterLoss_qual]
    rfl

/-! ### A reference qualifies (Q of R101) -/

/-- What the qualification of a reference leaves: all but Lodestone, the sessions and, where the time is loaded by it, what keeps frame numbers. -/
structure Requalifies (s t : State) : Prop where
  /-- qualified references -/
  qual : t.lds.qual = s.lds.qual
  /-- the slates -/
  slt : t.slt = s.slt
  /-- the Geode -/
  geo : t.geo = s.geo
  /-- an edge that waits for its sentence -/
  wait : s.lds.ppsWait = none → t.lds.ppsWait = none
  /-- a usable edge on FSYNC_IN has come -/
  seen : t.lds.fsSeen = s.lds.fsSeen
  /-- a label conflict of FSYNC_IN -/
  conflict : t.lds.fsConflict = s.lds.fsConflict
  /-- outside UNSET no time is loaded -/
  steered : s.lds.st ≠ .unset → Resteers s t

theorem Resteers.requalifies (h : Resteers s t) (hq : t.lds.qual = s.lds.qual) : Requalifies s t := by
  obtain ⟨m, l, rfl⟩ := h
  exact ⟨hq, rfl, rfl, id, rfl, rfl, fun _ => ⟨m, l, rfl⟩⟩

theorem Requalifies.trans {u : State} (h : Requalifies s t) (k : Requalifies t u) (hst : t.lds.st = s.lds.st) : Requalifies s u :=
  ⟨k.qual.trans h.qual, k.slt.trans h.slt, k.geo.trans h.geo, fun hw => k.wait (h.wait hw), k.seen.trans h.seen, k.conflict.trans h.conflict,
    fun hne => (h.steered hne).trans (k.steered (hst ▸ hne))⟩

/-- A load leaves the references as they are, in time as moved. -/
theorem offsetLoad_requalifies (full : Nat) (hst : s.lds.st = .unset) : Requalifies s (offsetLoad full s) := by
  cases hused : s.lds.loadUsed with
  | true =>
    rw [offsetLoad_refused full (.inl hused)]
    exact ⟨rfl, rfl, rfl, id, rfl, rfl, fun hne => absurd hst hne⟩
  | false =>
    cases hserv : s.boot.inService with
    | true =>
      rw [offsetLoad_refused full (.inr hserv)]
      exact ⟨rfl, rfl, rfl, id, rfl, rfl, fun hne => absurd hst hne⟩
    | false =>
      obtain ⟨⟨d, hlds⟩, -, -, hslt, hgeo, -⟩ := offsetLoad_taken full hused hserv
      refine ⟨by rw [hlds]; rfl, hslt, hgeo, fun hw => ?_, by rw [hlds]; rfl, by rw [hlds]; rfl, fun hne => absurd hst hne⟩
      rw [hlds]
      unfold shiftObs
      simp only [hw, Option.map_none]

/-- Q(P): Lodestone slews to the reference, or locks to it with a load, or stays (R101). -/
theorem onQualP_requalifies (r : Ref) (s : State) : Requalifies s (onQualP r s) := by
  unfold onQualP
  extract_lets u
  obtain ⟨m, hu⟩ : ∃ m, u = { s with ses := m } := by
    unfold u
    split
    · exact ⟨_, rfl⟩
    · exact ⟨s.ses, rfl⟩
  have hsu : Requalifies s u := by
    rw [hu]
    exact (Resteers.requalifies ⟨m, s.lds, rfl⟩ rfl)
  refine hsu.trans ?_ (by rw [hu])
  clear_value u
  split
  next hst =>
    split
    · exact (resteers_slewTo r u).requalifies rfl
    · refine ⟨(offsetLoad_requalifies _ hst).qual, (offsetLoad_requalifies _ hst).slt, (offsetLoad_requalifies _ hst).geo,
        (offsetLoad_requalifies _ hst).wait, (offsetLoad_requalifies _ hst).seen, (offsetLoad_requalifies _ hst).conflict,
        fun hne => absurd hst hne⟩
  · exact (resteers_slewTo r u).requalifies rfl
  · exact (resteers_slewTo r u).requalifies rfl
  all_goals
    split
    · split
      · exact (resteers_slewTo r u).requalifies rfl
      · exact (resteers_refIgnored u).requalifies rfl
    · exact (resteers_refIgnored u).requalifies rfl

/-- Lodestone with one more qualified reference. -/
def qualifiedBy (r : Ref) (s : State) : State := s.lds' (fun l => { l with qual := r :: l.qual })

theorem qualify_new {r : Ref} (hq : s.lds.qual.contains r = false) (he : s.lds.enabled r = true) :
    qualify r s = refChange s (if r = .ref10 then onQual10 (qualifiedBy r s) else onQualP r (qualifiedBy r s)) :=
  if_neg (by rw [hq, he]; decide)

theorem qualify_disabled {r : Ref} (he : s.lds.enabled r = false) : qualify r s = s := if_pos (by simp [he])

/-- What Q(P) leaves of the measurements and of the rest, and that the reference is qualified after it where it is enabled. -/
structure PhaseQualified (r : Ref) (s t : State) : Prop where
  /-- the reference -/
  qual : t.lds.qual.contains r = s.lds.enabled r
  /-- the slates -/
  slt : t.slt = s.slt
  /-- the Geode -/
  geo : t.geo = s.geo
  /-- an edge that waits for its sentence -/
  wait : s.lds.ppsWait = none → t.lds.ppsWait = none
  /-- a usable edge on FSYNC_IN has come -/
  seen : t.lds.fsSeen = s.lds.fsSeen
  /-- a label conflict of FSYNC_IN -/
  conflict : t.lds.fsConflict = s.lds.fsConflict
  /-- outside UNSET no time is loaded -/
  steered : s.lds.st ≠ .unset → Resteers s t

theorem qualify_phase {r : Ref} (hr : r ≠ .ref10) (hq : s.lds.qual.contains r = false) : PhaseQualified r s (qualify r s) := by
  cases he : s.lds.enabled r with
  | false =>
    rw [qualify_disabled he]
    exact ⟨hq.trans he.symm, rfl, rfl, id, rfl, rfl, fun _ => .refl s⟩
  | true =>
    rw [qualify_new hq he, if_neg hr]
    have hnew := onQualP_requalifies r (qualifiedBy r s)
    obtain ⟨m, hm⟩ := refChange_eq s (onQualP r (qualifiedBy r s))
    rw [hm]
    refine ⟨?_, hnew.slt, hnew.geo, hnew.wait, hnew.seen, hnew.conflict, fun hne =>
      (Resteers.trans ⟨s.ses, (qualifiedBy r s).lds, rfl⟩ (hnew.steered hne)).trans ⟨m, _, rfl⟩⟩
    show (onQualP r (qualifiedBy r s)).lds.qual.contains r = _
    rw [hnew.qual, he]
    show (r :: s.lds.qual).contains r = true
    simp

/-! ### Times of the states (R95, R98, R101, R534) -/

/-- The time that the acquisition timeout loads: the owner's as it has run on, else the journaled one, else the epoch (R101, R534). -/
def acqTime (s : State) : Nat :=
  match s.lds.timeSet with
  | some (v, f) => v + (s.frm.now - f) * 10000000 + s.sinceBeat0
  | none => s.lds.journaled.getD 0

/-- Lodestone in FREERUN with a time that nothing vouches for. -/
def untraced (s : State) : State := s.lds' (fun l => { l with untraceable := true, st := .freerun })

/-- The timeout in UNSET after a load leaves the counter (R101). -/
theorem acqUnset_used (h : s.lds.loadUsed = true) : ∃ m, acqUnset s = { untraced s with ses := m } := by
  unfold acqUnset
  simp only [h, if_true]
  exact refChange_eq s ((untraced s).owner 0x0603 [tCode 4])

/-- The timeout in UNSET before a load takes it (R101, R534). -/
theorem acqUnset_fresh (h : s.lds.loadUsed = false) : ∃ m, acqUnset s = { untraced (offsetLoad (acqTime s) s) with ses := m } := by
  unfold acqUnset
  simp only [h, Bool.false_eq_true, if_false]
  exact refChange_eq s ((untraced (offsetLoad (acqTime s) s)).owner 0x0603 [tCode _])

theorem execAcqTimeout_eq (hd : s.acqDue = true) : exec .acqTimeout s = .next { (if s.lds.st = .unset
    then acqUnset { s with lds := { s.lds with acqOver := true }, out := [] }
    else refIgnored { s with lds := { s.lds with acqOver := true }, out := [] }) with pending := s.pending } :=
  done_next (f := fun s => guardS s.acqDue (fun s =>
    let s := s.lds' (fun l => { l with acqOver := true })
    if s.lds.st = .unset then acqUnset s else refIgnored s) s) (guardS_true hd _ _)

theorem execSlewComplete_done (s : State) : execSlewComplete s = done s (fun s => guardS (s.lds.st = .switch && s.lds.within ≥ 16)
    (fun s => refChange s (s.lds' (fun l => { l with st := .locked, slewLeft := 0 }))) s) := rfl

theorem execHoldoverExpired_done (s : State) : execHoldoverExpired s = done s (fun s =>
    guardS (s.lds.st = .holdover && !s.lds.holdExpired && s.lds.holdFrames ≥ 8640000)
      (fun s => (s.lds' (fun l => { l with holdExpired := true })).owner 0x0606) s) := rfl

/-- What TOD_TX sends of a sentence (R97, R98). -/
def sendTod (s : State) : State :=
  s.send .todTx 0 [] (pztod (s.ns / 1000000000) (s.lds.tai (s.ns / 1000000000)) (match s.lds.st with | .holdover => 1 | .freerun => 2 | _ => 0))

theorem execTodTxSentence_done (s : State) : execTodTxSentence s = done s (fun s => guardS (s.lds.on && s.lds.st != .unset) sendTod s) := rfl

/-- Settles O15: each time by the row of R101 that it leads to. -/
theorem lodestoneStatesFollowTheirTimes : Obligations.LodestoneStatesFollowTheirTimes := by
  unfold Obligations.LodestoneStatesFollowTheirTimes
  refine ⟨fun s hd hst hused hserv => ?_, fun s hd hst => ?_, fun s hd hst hused => ?_, fun s hst hw => ?_, fun s hst he hf => ?_, fun s hst he => ?_,
    fun s hon hst => ?_⟩
  · have hexec := execAcqTimeout_eq hd
    obtain ⟨m, hm⟩ := acqUnset_fresh (s := { s with lds := { s.lds with acqOver := true }, out := [] }) hused
    have hload := offsetLoad_taken (s := { s with lds := { s.lds with acqOver := true }, out := [] })
      (acqTime { s with lds := { s.lds with acqOver := true }, out := [] }) hused hserv
    rw [if_pos hst, hm] at hexec
    generalize offsetLoad _ _ = w at hexec hload
    obtain ⟨⟨d, hlds⟩, -, -, hslt, hgeo, hbrg⟩ := hload
    refine ⟨_, hexec, rfl, rfl, ?_, ?_, fun v f hset => ?_, fun hset j hj => ?_, fun hset hj => ?_, hslt, hgeo, hbrg⟩
    · exact congrArg Lodestone.loadUsed hlds
    · exact congrArg Lodestone.acqOver hlds
    · refine (congrArg Lodestone.ext hlds).trans ?_
      show acqTime s = _
      simp only [acqTime, hset]
    · refine (congrArg Lodestone.ext hlds).trans ?_
      show acqTime s = _
      simp only [acqTime, hset, hj, Option.getD_some]
    · refine (congrArg Lodestone.ext hlds).trans ?_
      show acqTime s = _
      simp only [acqTime, hset, hj, Option.getD_none]
  · have hexec := execAcqTimeout_eq hd
    rw [if_neg hst] at hexec
    exact hexec
  · have hexec := execAcqTimeout_eq hd
    obtain ⟨m, hm⟩ := acqUnset_used (s := { s with lds := { s.lds with acqOver := true }, out := [] }) hused
    rw [if_pos hst, hm] at hexec
    exact ⟨_, hexec, rfl, rfl⟩
  · have hguard : (decide (s.lds.st = .switch) && decide (s.lds.within ≥ 16)) = true := by simpa [hst] using hw
    have hchange : ¬ (decide (s.lds.st = .locked) && decide (s.lds.refField = ({ s.lds with st := .locked, slewLeft := 0 } : Lodestone).refField)) = true := by
      simp [hst]
    exact ⟨_, (execSlewComplete_done s).trans (done_next ((guardS_true hguard _ _).trans (if_neg hchange))), rfl, rfl, rfl⟩
  · have hguard : (decide (s.lds.st = .holdover) && !s.lds.holdExpired && decide (s.lds.holdFrames ≥ 8640000)) = true := by simpa [hst, he] using hf
    exact ⟨_, (execHoldoverExpired_done s).trans (done_next (guardS_true hguard _ _)), rfl, hst, rfl, rfl⟩
  · have hguard : (decide (s.lds.st = .holdover) && !s.lds.holdExpired && decide (s.lds.holdFrames ≥ 8640000)) = false := by simp [he]
    exact (execHoldoverExpired_done s).trans (done_next (guardS_false hguard _ _))
  · have hguard : (s.lds.on && s.lds.st != .unset) = true := by simp [hon, hst]
    exact (execTodTxSentence_done s).trans (done_next (guardS_true hguard _ _))

end Sys2Proof.Machine
end

section
/-!
SUPPORT. The inputs of the edges: PPS_IN with its sentences, and FSYNC_IN (R94, R97, R99, R100).
-/
namespace Sys2Proof.Machine

variable {s u : State}

/-! ### The instants of the commands (log 38) -/

/-- An instant of the present beat comes on a quiet module as the ticks to it. -/
theorem at_quiet {k : Nat} (hon : s.lds.on = true) (hq : s.Quiet []) (hk : k < s.ticksToBeat) :
    s.at_ k = { s with lds := ldsTicks k s.lds, out := [] } := by
  have hticks : ({ s with out := [] } : State).ticksToBeat = s.ticksToBeat := rfl
  have hmin : min k (s.ticksToBeat - 1) = k := by omega
  have hwithin : s.at_ k = if s.lds.on then runTicks tickFuel (min k (({ s with out := [] } : State).ticksToBeat - 1)) { s with out := [] }
    else { s with out := [] } := rfl
  rw [hwithin, if_pos hon, hticks, hmin, runTicks_quiet (s := { s with out := [] }) hq]
  rfl

theorem execPpsInEdge_done (k : Nat) (s : State) :
    execPpsInEdge k s = done s (fun s => guardS s.lds.on (fun s => ppsEdge (s.within k)) s) := rfl

/-- PPS_IN_EDGE at its instant. -/
theorem execPpsInEdge_eq {k : Nat} (hon : s.lds.on = true) (hu : u = s.at_ k) : exec (.ppsInEdge k) s = .next { ppsEdge u with pending := s.pending } := by
  subst hu
  exact (execPpsInEdge_done k s).trans (done_next (guardS_true hon _ _))

theorem execTodRxSentence_done (k : Nat) (x : TodSentence) (b : Bool) (s : State) :
    execTodRxSentence k x b s = done s (fun s => guardS s.lds.on (fun s => todSentence x b (s.within k)) s) := rfl

/-- TOD_RX_SENTENCE at its instant. -/
theorem execTodRxSentence_eq {k : Nat} (x : TodSentence) (b : Bool) (hon : s.lds.on = true) (hu : u = s.at_ k) :
    exec (.todRxSentence k x b) s = .next { todSentence x b u with pending := s.pending } := by
  subst hu
  exact (execTodRxSentence_done k x b s).trans (done_next (guardS_true hon _ _))

theorem execFsyncInEdge_done (b k : Nat) (s : State) : execFsyncInEdge b k s =
    done s (fun s => guardS (s.lds.on && s.lds.fsyncSlave && s.lds.enFsync) (fun s => fsyncEdge (s.later b k)) s) := rfl

/-- FSYNC_IN_EDGE at its instant. -/
theorem execFsyncInEdge_eq {b k : Nat} (hon : s.lds.on = true) (hslave : s.lds.fsyncSlave = true) (hen : s.lds.enFsync = true)
    (hu : u = ({ s with out := [] } : State).later b k) : exec (.fsyncInEdge b k) s = .next { fsyncEdge u with pending := s.pending } := by
  have hguard : (s.lds.on && s.lds.fsyncSlave && s.lds.enFsync) = true := by rw [hon, hslave, hen]; rfl
  subst hu
  exact (execFsyncInEdge_done b k s).trans (done_next (guardS_true hguard _ _))

/-! ### Measurements (R95, R108) -/

/-- A measurement changes what LDS_OFFSET shows and what is left of a slew, and nothing else. -/
theorem noteOffset_eq (r : Ref) (off : Int) (s : State) : ∃ p w k, noteOffset r off s =
    { s with lds := { s.lds with offset := p, within := w, slewLeft := k } } ∧ (s.lds.target = some r → p = off) := by
  unfold noteOffset
  split
  · exact ⟨_, _, _, rfl, fun _ => rfl⟩
  next h => exact ⟨_, _, _, rfl, fun ht => absurd (by simp [ht]) h⟩

/-! ### PPS_IN (R94, R97, R99) -/

/-- Lodestone after an edge on PPS_IN. -/
def edgeWaits (s : State) : State :=
  s.lds' (fun l => { l with ppsWait := some (s.obs ((s.ns : Int) - s.inDelay)), ppsLast := some ((s.ns : Int) - s.inDelay).toNat })

theorem ppsEdge_first (h : s.lds.ppsWait = none) : ppsEdge s = edgeWaits s := by
  unfold ppsEdge
  simp only [h]
  rfl

theorem ppsEdge_again {w : Obs} (h : s.lds.ppsWait = some w) : ppsEdge s = lose .pps ((edgeWaits s).lds' (fun l => { l with ppsRun := [] })) := by
  unfold ppsEdge
  simp only [h]
  rfl

/-- The edge that waits, as its sentence labels it. -/
def Obs.labelled (o : Obs) (sec : Nat) : Obs := { o with off := (sec * 1000000000 : Nat) - o.off }

/-- What the label of an edge notes, and whether the 1PPS input then qualifies or is lost. -/
theorem labelEdge_eq (o : Obs) (sec : Nat) {r : List Obs} (hr : r = (o.labelled sec :: s.lds.ppsRun).take 60) : ∃ v p w k,
    v = { s with lds := { s.lds with ppsWait := none, ppsRun := r, offset := p, within := w, slewLeft := k } } ∧
    (s.lds.target = some .pps → p = (o.labelled sec).off) ∧ labelEdge o sec s = if s.lds.qual.contains .pps then
      (if offTarget 10000 r then lose .pps (v.lds' (fun l => { l with ppsRun := [] })) else v)
      else if (decide (r.length = 60) && nearMean 1000 r) = true then qualify .pps v else v := by
  subst hr
  obtain ⟨p, w, k, hnote, hoff⟩ := noteOffset_eq .pps (o.labelled sec).off
    (s.lds' (fun l => { l with ppsWait := none, ppsRun := (o.labelled sec :: l.ppsRun).take 60 }))
  refine ⟨_, p, w, k, rfl, hoff, ?_⟩
  unfold labelEdge
  dsimp only
  change noteOffset .pps ((sec * 1000000000 : Nat) - o.off) _ = _ at hnote
  unfold Obs.labelled at hnote ⊢
  rw [hnote]
  rfl

theorem todSentence_valid {x : TodSentence} {b : Bool} {o : Obs} (hw : s.lds.ppsWait = some o)
    (hv : todValid s.lds x b (decide ((s.ns : Int) - s.inDelay ≤ o.off + 800000000)) = true) :
    todSentence x b s = labelEdge o (s.lds.todSecond x) s := by
  unfold todSentence
  simp only [hw]
  exact if_pos hv

theorem todSentence_invalid {x : TodSentence} {b : Bool} {o : Obs} (hw : s.lds.ppsWait = some o)
    (hv : todValid s.lds x b (decide ((s.ns : Int) - s.inDelay ≤ o.off + 800000000)) = false) :
    todSentence x b s = lose .pps (s.lds' (fun l => { l with ppsWait := none, ppsRun := [] })) := by
  unfold todSentence
  simp only [hw]
  exact if_neg (by rw [hv]; decide)

/-! ### FSYNC_IN (R94, R99, R100) -/

theorem fsyncEdge_conflict (h : 5000000 ≤ (s.fsDisagree s.fsOffset).natAbs) (hc : s.lds.fsConflict = false) : fsyncEdge s =
    (lose .fsync (s.lds' (fun l => { l with fsConflict := true, fsRun := [] }))).owner 0x0608 [tValue (s.fsDisagree s.fsOffset)] :=
  (if_pos h).trans (if_neg (by rw [hc]; decide))

theorem fsyncEdge_far (h : (s.fsDisagree s.fsOffset).natAbs < 5000000) (hf : 50000 < s.fsOffset.natAbs) : fsyncEdge s =
    { s with lds := { s.lds with fsConflict := false, fsFar := s.lds.fsFar + 1, fsRun := [] } } :=
  (if_neg (Nat.not_le.2 h)).trans (if_pos hf)

/-- Lodestone after a usable edge on FSYNC_IN. -/
def usableEdge (s : State) : State :=
  s.lds' (fun l => { l with fsConflict := false, fsSeen := true, fsRun := (s.obs s.fsOffset :: l.fsRun).take 6000 })

theorem fsyncEdge_usable (h : (s.fsDisagree s.fsOffset).natAbs < 5000000) (hf : s.fsOffset.natAbs ≤ 50000) : fsyncEdge s =
    if (decide ((noteOffset .fsync s.fsOffset (usableEdge s)).lds.fsRun.length = 6000) &&
      nearMean 1000 (noteOffset .fsync s.fsOffset (usableEdge s)).lds.fsRun) = true then qualify .fsync (noteOffset .fsync s.fsOffset (usableEdge s))
    else noteOffset .fsync s.fsOffset (usableEdge s) :=
  (if_neg (Nat.not_le.2 h)).trans (if_neg (Nat.not_lt.2 hf))

/-- A usable edge joins the run, and six thousand near their mean qualify the input (R94). -/
theorem fsyncEdge_near {r : List Obs} (h : (s.fsDisagree s.fsOffset).natAbs < 5000000) (hf : s.fsOffset.natAbs ≤ 50000)
    (hr : r = (s.obs s.fsOffset :: s.lds.fsRun).take 6000) : ∃ v p w k,
    v = { s with lds := { s.lds with fsConflict := false, fsSeen := true, fsRun := r, offset := p, within := w, slewLeft := k } } ∧
    fsyncEdge s = if (decide (r.length = 6000) && nearMean 1000 r) = true then qualify .fsync v else v := by
  subst hr
  obtain ⟨p, w, k, hnote, -⟩ := noteOffset_eq .fsync s.fsOffset (usableEdge s)
  refine ⟨_, p, w, k, rfl, ?_⟩
  rw [fsyncEdge_usable h hf, hnote]
  rfl

theorem execFsyncLost_done (s : State) : execFsyncLost s = done s (fun s =>
    guardS (s.lds.fsyncSlave && s.lds.qual.contains .fsync && s.lds.fsMiss ≥ 8)
      (fun s => (lose .fsync (s.lds' (fun l => { l with fsRun := [] }))).owner 0x0607) s) := rfl

theorem execPpsInMissing_done (s : State) : execPpsInMissing s = done s (fun s =>
    guardS (s.lds.on && s.ppsGone) (fun s => lose .pps (s.lds' (fun l => { l with ppsRun := [], ppsWait := none }))) s) := rfl

/-- The target is lost with the last qualified reference: Lodestone enters HOLDOVER (R101). -/
theorem lose_last {r : Ref} (hr : r ≠ .ref10) (hq : s.lds.qual = [r]) (ht : s.lds.target = some r) :
    (lose r s).lds = (heldOver (unqualified r s)).lds := by
  have hbest : (unqualified r s).lds.bestP = none := by
    show [Ref.fsync, .pps, .ptp].find? (fun x => (s.lds.qual.filter (· != r)).contains x) = none
    rw [hq]
    cases r <;> rfl
  rw [lose_qualified (by rw [hq]; cases r <;> rfl), refChange_lds]
  unfold afterLoss
  rw [if_neg hr, if_pos (show (unqualified r s).lds.target = some r from ht)]
  simp only [hbest]
  exact enterHoldover_lds ..

/-- Settles O13: each edge, sentence and loss by its rule above. -/
theorem edgeReferencesQualifyAndAreLost : Obligations.EdgeReferencesQualifyAndAreLost := by
  unfold Obligations.EdgeReferencesQualifyAndAreLost
  refine ⟨fun k s u hon hu hw => ?_, fun k w s u hon hu hw => ?_, fun s hon hgone => ?_, fun k x b o s u hon hu hw hv => ?_,
    fun k x o r s u hon hu hw hv hin hq hr => ?_, fun k x o r s u hon hu hw hv hin hq hr => ?_, fun b k s u hon hslave hen hu hd hf => ?_,
    fun b k r s u hon hslave hen hu hslave' hen' hd hf hq hr => ?_, fun b k s u hon hslave hen hu hd hc hq => ?_, fun b k s hon hslave hen => ?_,
    fun s hslave hq hmiss => ?_, fun k s hon hq hk => at_quiet hon hq hk⟩
  · have hexec := execPpsInEdge_eq hon hu
    rw [ppsEdge_first hw] at hexec
    exact hexec
  · have hexec := execPpsInEdge_eq hon hu
    have hqual := lose_qual .pps ((edgeWaits u).lds' (fun l => { l with ppsRun := [] }))
    obtain ⟨m, l, hl⟩ := resteers_lose .pps ((edgeWaits u).lds' (fun l => { l with ppsRun := [] }))
    rw [hl] at hqual
    rw [ppsEdge_again hw, hl] at hexec
    exact ⟨_, hexec, rfl, rfl, rfl, hqual, rfl⟩
  · have hguard : (s.lds.on && s.ppsGone) = true := by
      rw [hon, Bool.true_and, State.ppsGone, Option.all_eq_true]
      exact fun e he => decide_eq_true (hgone e he)
    have hexec := (execPpsInMissing_done s).trans (done_next (guardS_true hguard _ _))
    have hqual := lose_qual .pps (({ s with out := [] } : State).lds' (fun l => { l with ppsRun := [], ppsWait := none }))
    obtain ⟨m, l, hl⟩ := resteers_lose .pps (({ s with out := [] } : State).lds' (fun l => { l with ppsRun := [], ppsWait := none }))
    rw [hl] at hqual hexec
    exact ⟨_, hexec, rfl, rfl, hqual, rfl⟩
  · have hexec := execTodRxSentence_eq x b hon hu
    have hqual := lose_qual .pps (u.lds' (fun l => { l with ppsWait := none, ppsRun := [] }))
    obtain ⟨m, l, hl⟩ := resteers_lose .pps (u.lds' (fun l => { l with ppsWait := none, ppsRun := [] }))
    rw [hl] at hqual
    rw [todSentence_invalid hw hv, hl] at hexec
    exact ⟨_, hexec, rfl, rfl, hqual, rfl⟩
  · have hexec := execTodRxSentence_eq x true hon hu
    obtain ⟨v, p, w, k', hv', -, hlabel⟩ := labelEdge_eq (s := u) o (u.lds.todSecond x) hr
    rw [todSentence_valid hw (by rw [decide_eq_true hin]; exact hv), hlabel, if_neg (by rw [hq]; decide)] at hexec
    refine ⟨_, hexec, ?_⟩
    cases hc : decide (r.length = 60) && nearMean 1000 r with
    | false =>
      rw [if_neg Bool.false_ne_true, hv']
      exact ⟨rfl, fun _ => rfl, hq, rfl, rfl⟩
    | true =>
      have hnew : PhaseQualified .pps v (qualify .pps v) := qualify_phase (by decide) (by rw [hv']; exact hq)
      rw [if_pos rfl]
      generalize qualify .pps v = t at hnew
      subst hv'
      refine ⟨hnew.wait rfl, fun hst => ?_, hnew.qual, hnew.slt, hnew.geo⟩
      obtain ⟨m, l, rfl⟩ := hnew.steered hst
      rfl
  · have hexec := execTodRxSentence_eq x true hon hu
    obtain ⟨v, p, w, k', hv', hoff, hlabel⟩ := labelEdge_eq (s := u) o (u.lds.todSecond x) hr
    rw [todSentence_valid hw (by rw [decide_eq_true hin]; exact hv), hlabel, if_pos hq] at hexec
    refine ⟨_, hexec, ?_⟩
    cases hc : offTarget 10000 r with
    | false =>
      rw [if_neg Bool.false_ne_true, hv']
      exact ⟨rfl, rfl, fun _ => ⟨rfl, hoff⟩, rfl⟩
    | true =>
      have hqual := lose_qual .pps (v.lds' (fun l => { l with ppsRun := [] }))
      obtain ⟨m, l, hl⟩ := resteers_lose .pps (v.lds' (fun l => { l with ppsRun := [] }))
      rw [if_pos rfl]
      rw [hl] at hqual ⊢
      subst hv'
      exact ⟨rfl, hqual, fun he => absurd he (by decide), rfl⟩
  · have hexec := execFsyncInEdge_eq hon hslave hen hu
    rw [fsyncEdge_far hd hf] at hexec
    exact hexec
  · have hexec := execFsyncInEdge_eq hon hslave hen hu
    obtain ⟨v, p, w, k', hv, hedge⟩ := fsyncEdge_near hd hf hr
    rw [hedge] at hexec
    refine ⟨_, hexec, ?_⟩
    cases hc : decide (r.length = 6000) && nearMean 1000 r with
    | false =>
      rw [if_neg Bool.false_ne_true, hv]
      exact ⟨rfl, rfl, fun _ => rfl, hq, rfl, rfl⟩
    | true =>
      have hnew : PhaseQualified .fsync v (qualify .fsync v) := qualify_phase (by decide) (by rw [hv]; exact hq)
      rw [if_pos rfl]
      generalize qualify .fsync v = t at hnew
      subst hv
      refine ⟨hnew.seen, hnew.conflict, fun hst => ?_, hnew.qual.trans ?_, hnew.slt, hnew.geo⟩
      · obtain ⟨m, l, rfl⟩ := hnew.steered hst
        rfl
      · show (u.lds.enFsync && u.lds.fsyncSlave && !false) = true
        rw [hslave', hen']
        rfl
  · have hexec := execFsyncInEdge_eq hon hslave hen hu
    rw [fsyncEdge_conflict hd hc, lose_unqualified (s := u.lds' (fun l => { l with fsConflict := true, fsRun := [] })) hq] at hexec
    exact ⟨_, hexec, rfl, rfl, rfl⟩
  · have hguard : (s.lds.on && s.lds.fsyncSlave && s.lds.enFsync) = false := by rw [hen, Bool.and_false]
    exact (execFsyncInEdge_done b k s).trans (done_next (guardS_false hguard _ _))
  · have hguard : (s.lds.fsyncSlave && s.lds.qual.contains .fsync && decide (s.lds.fsMiss ≥ 8)) = true := by
      rw [hslave, hq]; exact decide_eq_true hmiss
    have hexec := (execFsyncLost_done s).trans (done_next (guardS_true hguard _ _))
    have hqual := lose_qual .fsync (({ s with out := [] } : State).lds' (fun l => { l with fsRun := [] }))
    have hlast := lose_last (s := ({ s with out := [] } : State).lds' (fun l => { l with fsRun := [] })) (r := .fsync) (by decide)
    obtain ⟨m, l, hl⟩ := resteers_lose .fsync (({ s with out := [] } : State).lds' (fun l => { l with fsRun := [] }))
    rw [hl] at hqual hexec hlast
    exact ⟨_, hexec, hqual, rfl, fun he _ ht => ⟨congrArg Lodestone.st (hlast he ht), congrArg Lodestone.target (hlast he ht),
      congrArg Lodestone.holdFrames (hlast he ht)⟩, rfl⟩

end Sys2Proof.Machine
end

section
/-!
SUPPORT. The PTP clock and REF10_IN: what an Announce and a Sync do to a port, which state a port without a master takes, and the frequency
reference (R88 to R91, R94, R101).
-/
namespace Sys2Proof.Machine

variable {s u : State}

/-! ### A message arrives (R88, R91) -/

/-- What a message does at its instant: the MAC stamps it, and it is discarded and counted, or taken. -/
def ptpArrives (port : Nat) (hdr : PtpHdr) (m : PtpMsg) (s : State) : State :=
  let s := noteIn port s
  if hdr.domain ≠ s.lds.domain || m = .unsupported then s.modPtp port (fun p => { p with drops := p.drops + 1 })
  else match tget s.lds.ptp port with
    | some p => ptpMessage port p m s
    | none => s

theorem execPtpMessage_done (port : Nat) (hdr : PtpHdr) (m : PtpMsg) (s : State) : execPtpMessage port hdr m s = done s (fun s =>
    guardS (s.lds.on && (tget s.lds.ptp port).isSome) (fun s => ptpArrives port hdr m (s.within hdr.ticks)) s) := rfl

/-- PTP_MESSAGE on an enabled port, at its instant. -/
theorem execPtpMessage_eq {p : Nat} {q : PtpPort} (hdr : PtpHdr) (m : PtpMsg) (hon : s.lds.on = true) (hq : tget s.lds.ptp p = some q)
    (hu : u = s.at_ hdr.ticks) : exec (.ptpMessage p hdr m) s = .next { ptpArrives p hdr m u with pending := s.pending } := by
  have hguard : (s.lds.on && (tget s.lds.ptp p).isSome) = true := by rw [hon, hq]; rfl
  subst hu
  exact (execPtpMessage_done p hdr m s).trans (done_next (guardS_true hguard _ _))

theorem ptpArrives_dropped {p : Nat} {hdr : PtpHdr} {m : PtpMsg} (h : hdr.domain ≠ s.lds.domain ∨ m = .unsupported) :
    ptpArrives p hdr m s = (noteIn p s).modPtp p (fun p => { p with drops := p.drops + 1 }) := by
  have hdrop : (decide (hdr.domain ≠ (noteIn p s).lds.domain) || decide (m = .unsupported)) = true := by
    rw [Bool.or_eq_true, decide_eq_true_eq, decide_eq_true_eq]
    exact h
  exact if_pos hdrop

theorem ptpArrives_taken {p : Nat} {hdr : PtpHdr} {m : PtpMsg} {r : PtpPort} (hd : hdr.domain = s.lds.domain) (hm : m ≠ .unsupported)
    (hr : tget s.lds.ptp p = some r) : ptpArrives p hdr m s = ptpMessage p r m (noteIn p s) := by
  have hkeep : ¬ (decide (hdr.domain ≠ (noteIn p s).lds.domain) || decide (m = .unsupported)) = true := by
    rw [Bool.or_eq_true, decide_eq_true_eq, decide_eq_true_eq]
    rintro (hne | he)
    · exact hne hd
    · exact hm he
  have hport : tget (noteIn p s).lds.ptp p = some r := hr
  refine (if_neg hkeep).trans ?_
  simp only [hport]

/-! ### The states of the ports (R91, R94) -/

/-- What a port keeps in a new state. -/
theorem enter_keeps (p : PtpPort) (st : PtpState) : (p.enter st).st = st ∧ (p.enter st).annAt = p.annAt ∧ (p.enter st).foreign = p.foreign ∧
    (p.enter st).role = p.role ∧ (p.enter st).offs = if st = .slave then p.offs else [] := by
  unfold PtpPort.enter
  split <;> exact ⟨rfl, rfl, rfl, rfl, rfl⟩

/-- A port without foreign masters hears no best one. -/
theorem best_none {p : PtpPort} (h : p.foreign = []) (now : Nat) : p.best now = none := by
  unfold PtpPort.best
  rw [h]
  rfl

/-- The better of the best Announce so far, with its port, and that of one more port. -/
def annStep (now : Nat) (b : Option (Nat × AnnData)) (e : Nat × PtpPort) : Option (Nat × AnnData) :=
  match e.2.best now, b with
  | none, b => b
  | some d, none => some (e.1, d)
  | some d, some x => if annBetter d x.2 then some (e.1, d) else some x

theorem annOf_eq (s : State) : s.annOf = s.lds.ptp.foldl (annStep s.frm.now) none := rfl

theorem annStep_heard {now k : Nat} {d : AnnData} {b : Option (Nat × AnnData)} {e : Nat × PtpPort} (h : annStep now b e = some (k, d)) :
    b = some (k, d) ∨ e.1 = k ∧ e.2.best now ≠ none := by
  unfold annStep at h
  cases hb : e.2.best now with
  | none =>
    simp only [hb] at h
    exact .inl h
  | some x =>
    have hnew : some (e.1, x) = some (k, d) → b = some (k, d) ∨ e.1 = k ∧ some x ≠ none := fun he =>
      .inr ⟨congrArg Prod.fst (Option.some.inj he), Option.some_ne_none x⟩
    cases b with
    | none =>
      simp only [hb] at h
      exact hnew h
    | some y =>
      simp only [hb] at h
      split at h
      · exact hnew h
      · exact .inl h

/-- The best Announce of all ports is that of a port that hears one. -/
theorem annOf_heard {k : Nat} {d : AnnData} (h : s.annOf = some (k, d)) : ∃ e ∈ s.lds.ptp, e.1 = k ∧ e.2.best s.frm.now ≠ none := by
  have hfold : ∀ (l : Tbl PtpPort) (b : Option (Nat × AnnData)), l.foldl (annStep s.frm.now) b = some (k, d) →
      b = some (k, d) ∨ ∃ e ∈ l, e.1 = k ∧ e.2.best s.frm.now ≠ none := by
    intro l
    induction l with
    | nil => exact fun b hb => .inl hb
    | cons e l ih =>
      intro b hb
      rcases ih _ hb with hstep | ⟨x, hx, hheard⟩
      · rcases annStep_heard hstep with hold | hnew
        · exact .inl hold
        · exact .inr ⟨e, List.mem_cons_self .., hnew⟩
      · exact .inr ⟨x, List.mem_cons_of_mem e hx, hheard⟩
  rw [annOf_eq] at h
  rcases hfold _ _ h with hnone | hheard
  · exact absurd hnone (by simp)
  · exact hheard

/-- A port that hears no master takes the state that the owner gives it, or stays MASTER (R91). -/
theorem ptpState_unheard {k : Nat} {p : PtpPort} (hf : p.foreign = []) (hst : p.st = if p.role = 2 then .slave else .master)
    (hall : ∀ e ∈ s.lds.ptp, e.1 = k → e.2.foreign = []) : s.ptpState k p = if p.role = 2 then .slave else .master := by
  unfold State.ptpState
  simp only [best_none hf]
  split
  next h1 => rw [h1]; rfl
  split
  next h2 => rfl
  next h2 =>
    rw [if_neg h2] at hst
    split
    · exact hst
    · split
      · exact hst
      next q d hann =>
        obtain ⟨e, he, hk, hheard⟩ := annOf_heard hann
        have hne : q ≠ k := fun hqk => hheard (best_none (hall e he (hk.trans hqk)) _)
        split
        · rfl
        · rfl

theorem resteers_ptpCheckLost (s : State) : Resteers s (ptpCheckLost s) := Resteers.ite (.refl s) (resteers_lose .ptp s)

/-- PTP is lost where no port in SLAVE has a full run of offsets. -/
theorem ptpCheckLost_qual (h : ∀ e ∈ s.lds.ptp, e.2.offs.length ≠ 64) : (ptpCheckLost s).lds.qual = s.lds.qual.filter (· != .ptp) := by
  have hnone : ¬ (s.lds.ptp.any (fun e => e.2.st == .slave && e.2.offs.length == 64 && !sdAbove (4 * s.lds.sdNs) e.2.offs)) = true := by
    rw [Bool.not_eq_true, List.any_eq_false]
    intro e he
    simp [h e he]
  rw [ptpCheckLost, if_neg hnone]
  exact lose_qual .ptp s

/-- The ports in their selected states. -/
def portsSelected (s : State) : State := s.lds' (fun l => { l with ptp := tmap l.ptp (fun k p => p.enter (s.ptpState k p)) })

theorem selectPtp_eq (s : State) : selectPtp s = ptpCheckLost (portsSelected s) := rfl

theorem portsSelected_port {k : Nat} {p : PtpPort} (h : tget s.lds.ptp k = some p) :
    tget (portsSelected s).lds.ptp k = some (p.enter (s.ptpState k p)) :=
  (tget_tmap s.lds.ptp (fun k p => p.enter (s.ptpState k p)) k).trans (by rw [h]; rfl)

theorem mem_portsSelected {e : Nat × PtpPort} (h : e ∈ (portsSelected s).lds.ptp) :
    ∃ x ∈ s.lds.ptp, (x.1, x.2.enter (s.ptpState x.1 x.2)) = e := List.mem_map.1 h

theorem ptpState_slave {k : Nat} {p : PtpPort} (h : p.role = 2) : s.ptpState k p = .slave := by
  unfold State.ptpState
  rw [if_neg (by rw [h]; decide), if_pos h]

theorem modPtp_port {k : Nat} {p : PtpPort} (h : tget s.lds.ptp k = some p) (f : PtpPort → PtpPort) :
    tget (s.modPtp k f).lds.ptp k = some (f p) :=
  (tget_tmod_self s.lds.ptp k f).trans (congrArg (Option.map f) h)

/-! ### Announce (R91) -/

theorem ptpMessage_announce {port : Nat} {p : PtpPort} {d : AnnData} (h : p.role ≠ 1) :
    ptpMessage port p (.announce d) s = takeAnnounce port d s := if_neg h


/-- A port that has heard an Announce in frame `now`. -/
def PtpPort.hears (p : PtpPort) (d : AnnData) (now : Nat) : PtpPort :=
  let old := p.foreign.find? (fun f => f.data.src == d.src && f.data.srcPort == d.srcPort)
  { p with annAt := now, foreign := (({ data := d, last := now, prev := old.map (·.last) } : Foreign) ::
    p.foreign.filter (fun f => !(f.data.src == d.src && f.data.srcPort == d.srcPort))).take 5 }

theorem takeAnnounce_eq {d : AnnData} (port : Nat) (hsrc : d.src ≠ Config.moduleEui) (hsteps : d.steps < 255) :
    takeAnnounce port d s = selectPtp (s.modPtp port (fun p => p.hears d s.frm.now)) := by
  have htake : ¬ (decide (d.src = Config.moduleEui) || decide (d.steps ≥ 255)) = true := by
    rw [Bool.or_eq_true, decide_eq_true_eq, decide_eq_true_eq]
    omega
  exact if_neg htake

/-- A port that hears an Announce keeps it as its latest one; a port that the owner holds in SLAVE stays there. -/
theorem takeAnnounce_port {port : Nat} {d : AnnData} {r : PtpPort} (hsrc : d.src ≠ Config.moduleEui) (hsteps : d.steps < 255)
    (hr : tget s.lds.ptp port = some r) : (∃ r', tget (takeAnnounce port d s).lds.ptp port = some r' ∧ r'.annAt = s.frm.now ∧
      r'.foreign.head?.map (·.data) = some d ∧ (r.role = 2 → r'.st = .slave)) ∧
    ∃ m l, takeAnnounce port d s = { s with ses := m, lds := l } := by
  have hport := portsSelected_port (modPtp_port hr (fun p => p.hears d s.frm.now))
  obtain ⟨hst, hann, hforeign, -, -⟩ := enter_keeps (r.hears d s.frm.now)
    ((s.modPtp port (fun p => p.hears d s.frm.now)).ptpState port (r.hears d s.frm.now))
  obtain ⟨m, l, hl⟩ := resteers_ptpCheckLost (portsSelected (s.modPtp port (fun p => p.hears d s.frm.now)))
  rw [takeAnnounce_eq port hsrc hsteps, selectPtp_eq, hl]
  exact ⟨⟨_, hport, hann, by rw [hforeign]; rfl, fun h2 => hst.trans (ptpState_slave h2)⟩, m, _, rfl⟩

/-! ### Sync (R90, R94) -/

theorem ptpMessage_sync {port seq origin : Nat} {p : PtpPort} {corr : Int} (h : p.st = .slave) :
    ptpMessage port p (.sync false seq origin corr) s = takeOffset port (s.ptpIn port p) origin corr s := by
  unfold ptpMessage
  dsimp only
  rw [if_neg (by rw [h]; simp), if_neg Bool.false_ne_true]

/-- A port after a complete Sync with the measurement `o`. -/
def PtpPort.synced (p : PtpPort) (m : Int) (o : Obs) : PtpPort := { p with m2s := some m, sync := none, offs := (o :: p.offs).take 64 }

theorem takeOffset_some {port : Nat} {r : PtpPort} {rx corr m off : Int} {origin : Nat} {v : State} (hr : tget s.lds.ptp port = some r)
    (hm : m = rx - 10 * origin - corr - 10 * r.asym) (hoff : off = tdiv (r.mpd - m) 10)
    (hv : v = noteOffset .ptp off (s.modPtp port (fun p => p.synced m (s.obs off)))) : takeOffset port rx origin corr s =
      if v.lds.qual.contains .ptp then ptpCheckLost v
      else if (decide ((((tget v.lds.ptp port).map (·.offs)).getD []).length = 64) &&
        sdBelow v.lds.sdNs (((tget v.lds.ptp port).map (·.offs)).getD [])) = true then qualify .ptp v
      else v := by
  subst hm hoff hv
  unfold takeOffset
  simp only [hr]
  rfl

/-- A complete Sync notes an offset, and the deviation of the last 64 decides whether PTP qualifies (R94). -/
theorem takeOffset_eq {port : Nat} {r : PtpPort} {rx corr m off : Int} {origin : Nat} {l : List Obs} (hr : tget s.lds.ptp port = some r)
    (hm : m = rx - 10 * origin - corr - 10 * r.asym) (hoff : off = tdiv (r.mpd - m) 10) (hl : l = (s.obs off :: r.offs).take 64) : ∃ v a w k,
    v = { s with lds := { s.lds with offset := a, within := w, slewLeft := k, ptp := tmod s.lds.ptp port (fun p => p.synced m (s.obs off)) } } ∧
    tget v.lds.ptp port = some { r with m2s := some m, sync := none, offs := l } ∧
    takeOffset port rx origin corr s = if s.lds.qual.contains .ptp then ptpCheckLost v
      else if (decide (l.length = 64) && sdBelow s.lds.sdNs l) = true then qualify .ptp v else v := by
  obtain ⟨a, w, k, hnote, -⟩ := noteOffset_eq .ptp off (s.modPtp port (fun p => p.synced m (s.obs off)))
  obtain ⟨v, hv⟩ : ∃ v, v = noteOffset .ptp off (s.modPtp port (fun p => p.synced m (s.obs off))) := ⟨_, rfl⟩
  rw [takeOffset_some hr hm hoff hv]
  rw [hnote] at hv
  have hqual : v.lds.qual = s.lds.qual := by rw [hv]; rfl
  have hsd : v.lds.sdNs = s.lds.sdNs := by rw [hv]; rfl
  have hport : tget v.lds.ptp port = some { r with m2s := some m, sync := none, offs := l } := by
    rw [hv, hl]
    exact modPtp_port hr (fun p => p.synced m (s.obs off))
  refine ⟨v, a, w, k, hv, hport, ?_⟩
  rw [hqual, hsd, hport]
  rfl

/-! ### REF10_IN (R94, R101) -/

theorem execRef10Qualify_done (s : State) : execRef10Qualify s = done s (fun s => guardS s.lds.on (qualify .ref10) s) := rfl

theorem qualify_ref10 (hq : s.lds.qual.contains .ref10 = false) (he : s.lds.enRef10 = true) :
    ∃ m, qualify .ref10 s = { onQual10 (qualifiedBy .ref10 s) with ses := m } := by
  rw [qualify_new hq he, if_pos rfl]
  exact refChange_eq ..

theorem onQual10_ignored (h : s.lds.st = .locked ∨ s.lds.st = .switch) : onQual10 s = refIgnored s := by
  unfold onQual10
  rcases h with h | h <;> rw [h]

theorem onQual10_steers (h : ¬ (s.lds.st = .locked ∨ s.lds.st = .switch)) : onQual10 s = s.lds' (fun l => { l with steer10 := true }) := by
  unfold onQual10
  cases hst : s.lds.st with
  | locked => exact absurd (.inl hst) h
  | switch => exact absurd (.inr hst) h
  | _ => rfl

theorem lose_ref10 (hq : s.lds.qual.contains .ref10 = true) :
    ∃ m, lose .ref10 s = { afterLoss .ref10 (unqualified .ref10 s) with ses := m } := by
  rw [lose_qualified hq]
  exact refChange_eq ..

theorem execRef10Lost_done (s : State) : execRef10Lost s = done s (fun s => guardS s.lds.on (lose .ref10) s) := rfl

/-! ### A port without its master (R91, R94) -/

/-- A port whose announceReceiptTimeout has passed. -/
def PtpPort.deaf (p : PtpPort) : PtpPort := ({ p with foreign := [] } : PtpPort).enter (if p.role = 2 then .slave else .master)

theorem execAnnounceReceiptTimeout_done (port : Nat) (s : State) : execAnnounceReceiptTimeout port s = done s (fun s =>
    guardS ((tget s.lds.ptp port).any (fun p => p.st != .master && s.annLost p)) (fun s => selectPtp (s.modPtp port PtpPort.deaf)) s) := rfl

theorem deaf_keeps (p : PtpPort) : p.deaf.st = (if p.role = 2 then .slave else .master) ∧ p.deaf.foreign = [] ∧ p.deaf.role = p.role ∧
    (p.role ≠ 2 → p.deaf.offs = []) := by
  obtain ⟨hst, -, hforeign, hrole, hoffs⟩ := enter_keeps { p with foreign := [] } (if p.role = 2 then .slave else .master)
  refine ⟨hst, hforeign, hrole, fun h2 => ?_⟩
  rw [PtpPort.deaf, hoffs, if_neg h2]
  rfl

/-- The state of a port that has lost its master (R91). -/
theorem deaf_state {port : Nat} {q : PtpPort} :
    (s.modPtp port PtpPort.deaf).ptpState port q.deaf = if q.role = 2 then .slave else .master := by
  obtain ⟨hst, hforeign, hrole, -⟩ := deaf_keeps q
  rw [← hrole] at hst ⊢
  refine ptpState_unheard hforeign hst fun e he hk => ?_
  obtain ⟨x, hx, rfl⟩ := List.mem_map.1 (show e ∈ tmod s.lds.ptp port PtpPort.deaf from he)
  by_cases hxp : x.1 = port
  · rw [if_pos hxp]
    exact (deaf_keeps x.2).2.1
  · rw [if_neg hxp] at hk
    exact absurd hk hxp

/-- A table with rising keys reads each of its entries. -/
theorem tget_of_mem {α : Type} {t : Tbl α} (hwf : twf t = true) {e : Nat × α} (he : e ∈ t) : tget t e.1 = some e.2 := by
  rw [twf_iff] at hwf
  induction t with
  | nil => exact absurd he List.not_mem_nil
  | cons x r ih =>
    obtain ⟨hlt, hr⟩ := List.pairwise_cons.1 hwf
    rcases List.mem_cons.1 he with rfl | hmem
    · exact if_pos rfl
    · exact (if_neg (Nat.ne_of_lt (hlt e hmem))).trans (ih hr hmem)

/-- A port without its master keeps no offset unless the owner holds it in SLAVE. -/
theorem deafPort {port : Nat} {q : PtpPort} (hq : tget s.lds.ptp port = some q) :
    (∃ r, tget (selectPtp (s.modPtp port PtpPort.deaf)).lds.ptp port = some r ∧ r.st = (if q.role = 2 then .slave else .master) ∧ r.foreign = [] ∧
      (q.role ≠ 2 → r.offs = [])) ∧
    ∃ m l, selectPtp (s.modPtp port PtpPort.deaf) = { s with ses := m, lds := l } := by
  have hport := portsSelected_port (modPtp_port hq PtpPort.deaf)
  rw [deaf_state] at hport
  obtain ⟨-, hforeign, hrole, hoffs⟩ := deaf_keeps q
  obtain ⟨hst', -, hforeign', -, hoffs'⟩ := enter_keeps q.deaf (if q.role = 2 then .slave else .master)
  obtain ⟨m, l, hl⟩ := resteers_ptpCheckLost (portsSelected (s.modPtp port PtpPort.deaf))
  rw [selectPtp_eq, hl]
  refine ⟨⟨_, hport, hst', hforeign'.trans hforeign, fun h2 => ?_⟩, m, _, rfl⟩
  rw [hoffs', if_neg h2]
  rfl

/-- Where no other port has a full run of offsets, PTP is lost with the master of a port (R94). -/
theorem deafPort_lost {port : Nat} {q : PtpPort} (hwf : twf s.lds.ptp = true) (hq : tget s.lds.ptp port = some q) (h2 : q.role ≠ 2)
    (hothers : ∀ e ∈ s.lds.ptp, e.1 ≠ port → e.2.offs.length ≠ 64) :
    (selectPtp (s.modPtp port PtpPort.deaf)).lds.qual = s.lds.qual.filter (· != .ptp) := by
  rw [selectPtp_eq]
  refine ptpCheckLost_qual fun e he => ?_
  have hshort : ∀ (k : Nat) (p : PtpPort), p.offs.length ≠ 64 → (p.enter ((s.modPtp port PtpPort.deaf).ptpState k p)).offs.length ≠ 64 := by
    intro k p hp
    obtain ⟨-, -, -, -, hoffs⟩ := enter_keeps p ((s.modPtp port PtpPort.deaf).ptpState k p)
    rw [hoffs]
    split
    · exact hp
    · exact (by decide : (0 : Nat) ≠ 64)
  obtain ⟨y, hy, rfl⟩ := mem_portsSelected he
  obtain ⟨x, hx, rfl⟩ := List.mem_map.1 (show y ∈ tmod s.lds.ptp port PtpPort.deaf from hy)
  refine hshort _ _ ?_
  by_cases hxp : x.1 = port
  · rw [if_pos hxp]
    have hxq : x.2 = q := by
      rw [← hxp, tget_of_mem hwf hx] at hq
      exact Option.some.inj hq
    show x.2.deaf.offs.length ≠ 64
    rw [hxq, (deaf_keeps q).2.2.2 h2]
    decide
  · rw [if_neg hxp]
    exact hothers x hx hxp

/-- Settles O14: each message, timeout and frequency reference by its rule above. -/
theorem ptpAndFrequencyReferences : Obligations.PtpAndFrequencyReferences := by
  unfold Obligations.PtpAndFrequencyReferences
  refine ⟨fun p h m q s u hon hq hu hdrop => ?_, fun p h d q r s u hon hq hu hr hrole hd hsrc hsteps => ?_,
    fun p seq origin h corr m off l q r s u hon hq hu hr hst hd hqual hm hoff hl => ?_, fun p q s hq hst hlost => ?_, fun s hon hen hq => ?_,
    fun s hon hq => ?_⟩
  · have hexec := execPtpMessage_eq h m hon hq hu
    rw [ptpArrives_dropped hdrop] at hexec
    exact hexec
  · have hexec := execPtpMessage_eq h (.announce d) hon hq hu
    rw [ptpArrives_taken hd (by simp) hr, ptpMessage_announce hrole] at hexec
    obtain ⟨hport, m, l, hl⟩ := takeAnnounce_port (s := noteIn p u) hsrc hsteps hr
    rw [hl] at hport hexec
    exact ⟨_, hexec, hport, rfl⟩
  · have hexec := execPtpMessage_eq h (.sync false seq origin corr) hon hq hu
    rw [ptpArrives_taken hd (by simp) hr, ptpMessage_sync hst] at hexec
    obtain ⟨v, a, w, k, hv, hport, htake⟩ := takeOffset_eq (s := noteIn p u) (rx := (noteIn p u).ptpIn p r) hr hm hoff hl
    have hqual' : (noteIn p u).lds.qual.contains .ptp = false := hqual
    rw [htake, if_neg (by rw [hqual']; decide)] at hexec
    refine ⟨_, hexec, ?_⟩
    change _ ∧ _ = (decide (l.length = 64) && sdBelow (noteIn p u).lds.sdNs l && _) ∧ _
    cases hc : decide (l.length = 64) && sdBelow (noteIn p u).lds.sdNs l with
    | false =>
      rw [if_neg Bool.false_ne_true]
      subst hv
      exact ⟨fun _ => hport, hqual, rfl, rfl⟩
    | true =>
      have hnew : PhaseQualified .ptp v (qualify .ptp v) := qualify_phase (by decide) (by rw [hv]; exact hqual)
      rw [if_pos rfl]
      generalize qualify .ptp v = t at hnew
      subst hv
      refine ⟨fun hst => ?_, hnew.qual, hnew.slt, hnew.geo⟩
      obtain ⟨m, l, rfl⟩ := hnew.steered hst
      exact hport
  · have hguard : (tget s.lds.ptp p).any (fun p => p.st != .master && s.annLost p) = true := by
      rw [hq]
      simpa [hst, State.annLost] using hlost
    have hexec := (execAnnounceReceiptTimeout_done p s).trans (done_next (guardS_true hguard _ _))
    obtain ⟨hport, m, l, hl⟩ := deafPort (s := { s with out := [] }) hq
    have hqual := deafPort_lost (s := { s with out := [] }) (port := p) (q := q)
    rw [hl] at hport hqual
    rw [hl] at hexec
    exact ⟨_, hexec, hport, fun hwf h2 hothers => hqual hwf hq h2 hothers, rfl⟩
  · have hexec := (execRef10Qualify_done s).trans (done_next (guardS_true hon _ _))
    obtain ⟨m, hm⟩ := qualify_ref10 (s := { s with out := [] }) hq hen
    rw [hm] at hexec
    refine ⟨_, hexec, ?_⟩
    by_cases hst : s.lds.st = .locked ∨ s.lds.st = .switch
    · rw [onQual10_ignored (s := qualifiedBy .ref10 { s with out := [] }) hst]
      refine ⟨rfl, rfl, fun h3 => ?_, fun _ => ⟨rfl, rfl⟩, rfl⟩
      rcases hst with hst | hst <;> rw [hst] at h3 <;> simp at h3
    · rw [onQual10_steers (s := qualifiedBy .ref10 { s with out := [] }) hst]
      exact ⟨rfl, rfl, fun _ => rfl, fun h2 => absurd h2 hst, rfl⟩
  · have hexec := (execRef10Lost_done s).trans (done_next (guardS_true hon _ _))
    obtain ⟨m, hm⟩ := lose_ref10 (s := { s with out := [] }) hq
    rw [hm] at hexec
    refine ⟨_, hexec, ?_⟩
    have hloss : afterLoss .ref10 (unqualified .ref10 { s with out := [] }) = if s.lds.steer10 then _ else _ := if_pos rfl
    rw [hloss]
    cases h10 : s.lds.steer10 with
    | true =>
      rw [if_pos rfl]
      exact ⟨rfl, rfl, rfl, fun _ => rfl, fun h => absurd h (by decide), rfl⟩
    | false =>
      rw [if_neg Bool.false_ne_true]
      exact ⟨rfl, rfl, h10, fun h => absurd h (by decide), fun _ => ⟨rfl, rfl⟩, rfl⟩

end Sys2Proof.Machine
end

section
/-!
SUPPORT. Timer channels: the words of a channel's registers, its configuration, and the ticks to one moment of firing (R103 to R107).
-/
namespace Sys2Proof.Machine

variable {s t u : State}

/-! ### Control words (R103) -/

/-- A flag of a control word lies above its configuration. -/
theorem setBit_low (v : Nat) {k : Nat} (hk : 8 ≤ k) : setBit v k % 2 ^ 32 % 256 = v % 256 := by
  obtain ⟨i, rfl⟩ := Nat.exists_eq_add_of_le hk
  unfold setBit
  split
  · omega
  · rw [Nat.pow_add]
    generalize 2 ^ i = g
    omega

/-- The configuration of a channel is in the low eight bits of its control word. -/
theorem config_of_low {v w : Nat} (h : v % 256 = w % 256) : bit v 0 = bit w 0 ∧ bit v 1 = bit w 1 ∧ fieldOf v 2 3 = fieldOf w 2 3 := by
  have h0 : v % 2 = w % 2 := by omega
  have h1 : v / 2 % 2 = w / 2 % 2 := by omega
  have h2 : v / 4 % 8 = w / 4 % 8 := by omega
  unfold bit fieldOf
  norm_num
  rw [h0, h1, h2]
  exact ⟨Iff.rfl, Iff.rfl, rfl⟩

/-- The control word of a channel that is armed (R105). -/
def armedWord (w : Nat) (periodic : Bool) (dest : Nat) : Nat := withField (withField w 1 1 (b2n periodic)) 2 3 dest

theorem armedWord_config (w : Nat) (periodic : Bool) {dest : Nat} (hd : dest < 8) : bit (setBit (armedWord w periodic dest) 0 % 2 ^ 32) 0 = true ∧
    bit (setBit (armedWord w periodic dest) 0 % 2 ^ 32) 1 = periodic ∧ fieldOf (setBit (armedWord w periodic dest) 0 % 2 ^ 32) 2 3 = dest := by
  refine ⟨bit_setBit _ 0 (by decide), ?_, ?_⟩
  · cases periodic <;> unfold armedWord setBit withField bit fieldOf b2n <;> norm_num <;> split <;> omega
  · cases periodic <;> unfold armedWord setBit withField bit fieldOf b2n <;> norm_num <;> split <;> omega

theorem clrBit_config (w : Nat) : bit (clrBit w 0 % 2 ^ 32) 0 = false := by
  unfold clrBit bit
  norm_num
  split <;> omega

/-- The control word of a one-shot channel that has fired. -/
theorem clrBit_setBit (w : Nat) : bit (clrBit (setBit w 8 % 2 ^ 32) 0 % 2 ^ 32) 8 = true := by
  have h8 := bit_setBit w 8 (by decide)
  generalize setBit w 8 % 2 ^ 32 = x at h8 ⊢
  unfold clrBit bit at *
  norm_num at *
  split <;> omega

/-! ### Registers of a channel -/

/-- From `s` to `t` only the registers of a list have changed. -/
structure SetsOnly (l : List Nat) (s t : State) : Prop where
  /-- registers and nothing else -/
  regs : RegsOnly s t
  /-- every other register -/
  others : ∀ a d, a ∉ l → t.regD a d = s.regD a d

theorem SetsOnly.refl (l : List Nat) (s : State) : SetsOnly l s s := ⟨.refl s, fun _ _ _ => rfl⟩

theorem SetsOnly.setReg {l : List Nat} (h : SetsOnly l s t) {a : Nat} (ha : a ∈ l) (v : Nat) : SetsOnly l s (t.setReg a v) :=
  ⟨h.regs.trans (regsOnly_setReg ..), fun b d hb => (setReg_regD_ne t v d (fun he => hb (by rw [he]; exact ha))).trans (h.others b d hb)⟩

theorem SetsOnly.reg {l : List Nat} (h : SetsOnly l s t) {a : Nat} (ha : a ∉ l) : t.reg a = s.reg a := h.others a 0 ha

theorem setReg_regD (s : State) (a v d : Nat) : (s.setReg a v).regD a d = v % 2 ^ 32 := by
  simp only [State.setReg, State.regD, tgetD_tset_self]

/-- The registers of one channel are four. -/
theorem channel_ne (n : Nat) : aLdsTmrCtl n ≠ aLdsTmrCmp n ∧ aLdsTmrCtl n ≠ aLdsTmrPer n ∧ aLdsTmrCtl n ≠ aLdsTmrWid n ∧
    aLdsTmrCmp n ≠ aLdsTmrPer n ∧ aLdsTmrCmp n ≠ aLdsTmrWid n ∧ aLdsTmrPer n ≠ aLdsTmrWid n := by
  unfold aLdsTmrCtl aLdsTmrCmp aLdsTmrPer aLdsTmrWid
  omega

/-- The registers of a channel. -/
def channelRegs (n : Nat) : List Nat := [aLdsTmrCtl n, aLdsTmrCmp n, aLdsTmrPer n, aLdsTmrWid n]

/-- The fields of a channel that its configuration stores. -/
theorem setCompare_fields (n cmp per wid : Nat) (s : State) : (setCompare n cmp per wid s).reg (aLdsTmrCtl n) = s.reg (aLdsTmrCtl n) ∧
    (setCompare n cmp per wid s).reg (aLdsTmrCmp n) = cmp % 2 ^ 32 ∧ (setCompare n cmp per wid s).reg (aLdsTmrPer n) = per % 2 ^ 32 ∧
    (setCompare n cmp per wid s).tmrWid n = wid % 2 ^ 17 ∧ SetsOnly (channelRegs n) s (setCompare n cmp per wid s) := by
  obtain ⟨hcmp, hper, hwid, hcp, hcw, hpw⟩ := channel_ne n
  unfold setCompare
  refine ⟨?_, ?_, ?_, ?_, (((SetsOnly.refl _ s).setReg ?_ _).setReg ?_ _).setReg ?_ _⟩
  · rw [setReg_reg_ne _ _ hwid, setReg_reg_ne _ _ hper, setReg_reg_ne _ _ hcmp]
  · rw [setReg_reg_ne _ _ hcw, setReg_reg_ne _ _ hcp, setReg_reg, Nat.mod_mod]
  · rw [setReg_reg_ne _ _ hpw, setReg_reg, Nat.mod_mod]
  · rw [State.tmrWid, setReg_regD]
    omega
  all_goals simp [channelRegs]

/-! ### Arming (R103, R105) -/

/-- A configuration that R105 refuses disarms the channel and sets CFG_ERR. -/
theorem armTimer_refused {n dest : Nat} {periodic : Bool} (h : tmrBad s n periodic dest = true) :
    bit ((armTimer n periodic dest s).reg (aLdsTmrCtl n)) 0 = false ∧ bit ((armTimer n periodic dest s).reg (aLdsTmrCtl n)) 11 = true ∧
    SetsOnly [aLdsTmrCtl n] s (armTimer n periodic dest s) := by
  have heq : armTimer n periodic dest s =
      (s.setReg (aLdsTmrCtl n) (clrBit (armedWord (s.reg (aLdsTmrCtl n)) periodic dest) 0)).setFlag (aLdsTmrCtl n) 11 := if_pos h
  rw [heq]
  refine ⟨?_, setFlag_bit _ _ 11 (by decide), ((SetsOnly.refl _ s).setReg (List.mem_singleton.2 rfl) _).setReg (List.mem_singleton.2 rfl) _⟩
  rw [State.setFlag, setReg_reg, (config_of_low (setBit_low _ (by decide))).1, setReg_reg]
  exact clrBit_config _

/-- A legal configuration arms the channel, and LATE is set where the compare has been passed. -/
theorem armTimer_taken {n dest : Nat} {periodic : Bool} (h : tmrBad s n periodic dest = false) (hd : dest < 8) :
    bit ((armTimer n periodic dest s).reg (aLdsTmrCtl n)) 0 = true ∧ bit ((armTimer n periodic dest s).reg (aLdsTmrCtl n)) 1 = periodic ∧
    (armTimer n periodic dest s).tmrDest n = dest ∧ (tmrPassed s n = true → bit ((armTimer n periodic dest s).reg (aLdsTmrCtl n)) 9 = true) ∧
    SetsOnly [aLdsTmrCtl n] s (armTimer n periodic dest s) := by
  obtain ⟨v, hv⟩ : ∃ v, v = s.setReg (aLdsTmrCtl n) (setBit (armedWord (s.reg (aLdsTmrCtl n)) periodic dest) 0) := ⟨_, rfl⟩
  have heq : armTimer n periodic dest s = if tmrPassed v n then v.setFlag (aLdsTmrCtl n) 9 else v := by
    subst hv
    exact if_neg (by rw [h]; decide)
  have hset : SetsOnly [aLdsTmrCtl n] s v := hv ▸ (SetsOnly.refl _ s).setReg (List.mem_singleton.2 rfl) _
  have hctl : v.reg (aLdsTmrCtl n) = setBit (armedWord (s.reg (aLdsTmrCtl n)) periodic dest) 0 % 2 ^ 32 := by rw [hv, setReg_reg]
  have hpassed : tmrPassed v n = tmrPassed s n := by
    have hcmp := hset.reg (a := aLdsTmrCmp n) (by rw [List.mem_singleton]; exact (channel_ne n).1.symm)
    obtain ⟨r, hr⟩ := hset.regs
    unfold tmrPassed
    rw [hcmp, hr]
  obtain ⟨h0, h1, h2⟩ := armedWord_config (s.reg (aLdsTmrCtl n)) periodic hd
  rw [← hctl] at h0 h1 h2
  rw [heq, hpassed]
  cases tmrPassed s n with
  | false => exact ⟨h0, h1, h2, fun hf => absurd hf (by decide), hset⟩
  | true =>
    rw [if_pos rfl]
    obtain ⟨k0, k1, k2⟩ := config_of_low (setBit_low (v.reg (aLdsTmrCtl n)) (k := 9) (by decide))
    refine ⟨?_, ?_, ?_, fun _ => setFlag_bit _ _ 9 (by decide), hset.setReg (List.mem_singleton.2 rfl) _⟩
    · rw [State.setFlag, setReg_reg, k0, h0]
    · rw [State.setFlag, setReg_reg, k1, h1]
    · rw [State.tmrDest, State.setFlag, setReg_reg, k2, h2]

/-- A channel that is armed keeps its fields and sets CFG_ERR (R105). -/
theorem configTimer_kept {n : Nat} {periodic : Bool} {c : TmrCfg} (h : bit (s.reg (aLdsTmrCtl n)) 0 = true) :
    configTimer n periodic c s = s.setFlag (aLdsTmrCtl n) 11 := if_pos h

theorem configTimer_arms {n : Nat} {periodic : Bool} {c : TmrCfg} (h : bit (s.reg (aLdsTmrCtl n)) 0 = false) :
    configTimer n periodic c s = armTimer n periodic c.dest (setCompare n c.cmp c.per c.wid s) := if_neg (by rw [h]; decide)

theorem destLegal_lt {n dest : Nat} (h : destLegal n dest = true) : dest < 8 := by
  unfold destLegal at h
  split at h <;> simp_all

theorem execTimerArm_done (n : Nat) (periodic : Bool) (c : TmrCfg) (s : State) : execTimerArm n periodic c s = done s (fun s =>
    guardS (n < 16 && !(n < 6 && s.boot.inService)) (configTimer n periodic c) s) := rfl

/-- TIMER_ARM of a channel whose fields are not locked (R107). -/
theorem execTimerArm_eq {n : Nat} (periodic : Bool) (c : TmrCfg) (hn : n < 16) (hlock : n < 6 → s.boot.inService = false) :
    exec (.timerArm n periodic c) s = .next { configTimer n periodic c { s with out := [] } with pending := s.pending } := by
  have hguard : (decide (n < 16) && !(decide (n < 6) && s.boot.inService)) = true := by
    rw [decide_eq_true hn, Bool.true_and, Bool.not_eq_true', Bool.and_eq_false_iff]
    by_cases h6 : n < 6
    · exact .inr (hlock h6)
    · exact .inl (decide_eq_false h6)
  exact (execTimerArm_done n periodic c s).trans (done_next (guardS_true hguard _ _))

/-- TIMER_ARM of a locked channel (R107). -/
theorem execTimerArm_locked {n : Nat} (periodic : Bool) (c : TmrCfg) (hn : n < 6) (hserv : s.boot.inService = true) :
    exec (.timerArm n periodic c) s = .next { s with out := [] } := by
  have hguard : (decide (n < 16) && !(decide (n < 6) && s.boot.inService)) = false := by
    rw [hserv, decide_eq_true hn]
    simp
  exact (execTimerArm_done n periodic c s).trans (done_next (guardS_false hguard _ _))

end Sys2Proof.Machine
end

section
/-!
SUPPORT. One moment of firing: the channel or the pulse that comes next, and the ticks to it (R103, R104, R106).
-/
namespace Sys2Proof.Machine

variable {s t u : State}

/-! ### The next moment (R103, R106) -/

theorem nextEvent_eq (s : State) : s.nextEvent = minOf (((List.range 16).filter (fun n => bit (s.reg (aLdsTmrCtl n)) 0)).map
    (fun n => s.ticksUntil (s.reg (aLdsTmrCmp n))) ++ (s.lds.ppsOut ++ s.lds.fsyncOut).map (fun e => s.ticksUntil e.2)) := rfl

theorem minOf_first {α : Type} (f : Nat → Nat) (g : α → Nat) (n : Nat) : minOf ([n].map f ++ (([] : List α) ++ []).map g) = some (f n) := rfl

theorem minOf_second {α : Type} (f : Nat → Nat) (g : α → Nat) (e : α) : minOf (([] : List Nat).map f ++ ([e] ++ []).map g) = some (g e) := rfl

/-- A test that one number of a range meets picks it out. -/
theorem filter_range_one {p : Nat → Bool} {n k : Nat} (hn : n < k) (hp : p n = true) (hother : ∀ m < k, m ≠ n → p m = false) :
    (List.range k).filter p = [n] := by
  refine List.perm_singleton.1 ((List.perm_ext_iff_of_nodup (List.nodup_range.filter _) (List.nodup_singleton n)).2 fun m => ?_)
  rw [List.mem_filter, List.mem_range, List.mem_singleton]
  constructor
  · rintro ⟨hm, hpm⟩
    by_contra hne
    rw [hother m hm hne] at hpm
    exact absurd hpm (by decide)
  · rintro rfl
    exact ⟨hn, hp⟩

theorem filter_range_none {p : Nat → Bool} {k : Nat} (h : ∀ m < k, p m = false) : (List.range k).filter p = [] := by
  rw [List.filter_eq_nil_iff]
  intro m hm
  rw [h m (List.mem_range.1 hm)]
  decide

/-- The one armed channel of an else quiet module fires next. -/
theorem nextEvent_channel {n : Nat} (hq : s.Quiet [n]) (hn : n < 16) (harm : bit (s.reg (aLdsTmrCtl n)) 0 = true) :
    s.nextEvent = some (s.ticksUntil (s.reg (aLdsTmrCmp n))) := by
  obtain ⟨hch, hpps, hfsync⟩ := hq
  rw [nextEvent_eq, hpps, hfsync, filter_range_one hn harm fun m hm hne => hch m hm (by rwa [List.mem_singleton])]
  exact minOf_first (α := Nat × Nat) _ _ n

/-- The one pulse of a module without armed channels ends next. -/
theorem nextEvent_pulse {n v : Nat} (hch : ∀ m < 16, bit (s.reg (aLdsTmrCtl m)) 0 = false) (hpps : s.lds.ppsOut = [(n, v)])
    (hfsync : s.lds.fsyncOut = []) : s.nextEvent = some (s.ticksUntil v) := by
  rw [nextEvent_eq, hpps, hfsync, filter_range_none hch]
  exact minOf_second _ _ (n, v)

/-- A value that lies ahead takes a tick or more. -/
theorem ticksUntil_pos {v : Nat} (hpos : 0 < s.lds.inc) (h : s.reached v = false) : 0 < s.ticksUntil v := by
  rw [State.ticksUntil, if_neg (by rw [h]; decide)]
  exact ticksTo_pos hpos h

/-- The ticks until a value reach it. -/
theorem ticksUntil_reaches (hr : s.rated) {v k : Nat} (hk : k = s.ticksUntil v) : (passTicks k s).reached v = true := by
  unfold State.ticksUntil at hk
  cases h : s.reached v with
  | false =>
    rw [if_neg (by rw [h]; decide)] at hk
    rw [hk]
    exact passTicks_reaches hr v
  | true =>
    rw [if_pos h] at hk
    rw [hk, passTicks_zero_reached, h]

/-! ### To one moment and no further -/

theorem runTicks_next {f n k : Nat} (h : s.nextEvent = some k) (hk : k ≤ n) :
    runTicks (f + 1) n s = runTicks f (n - k) (atTick (passTicks k s)) := by
  simp only [runTicks, h, if_pos hk]

theorem runTicks_before {f n k : Nat} (h : s.nextEvent = some k) (hk : n < k) : runTicks f n s = passTicks n s := by
  cases f with
  | zero => rfl
  | succ f => simp only [runTicks, h, if_neg (Nat.not_le.2 hk)]

/-- No tick changes nothing of a counter that keeps its width. -/
theorem ldsTicks_zero {l : Lodestone} (ht : l.time < 2 ^ 56) (hw : l.wrap < 2 ^ 16) : ldsTicks 0 l = l := by
  unfold ldsTicks
  simp only [Nat.zero_mul, Nat.add_zero, Nat.mod_eq_of_lt ht, Nat.div_eq_of_lt ht, Nat.mod_eq_of_lt hw]
  simp

theorem ldsTicks_width (k : Nat) (l : Lodestone) : (ldsTicks k l).time < 2 ^ 56 ∧ (ldsTicks k l).wrap < 2 ^ 16 :=
  ⟨Nat.mod_lt _ (by decide), Nat.mod_lt _ (by decide)⟩

/-- The counter runs to a moment of firing, and what falls on it leaves no other moment there. -/
theorem runTicks_moment {k : Nat} (hk : s.nextEvent = some k) (ht : t = atTick (passTicks k s))
    (hnext : t.nextEvent = none ∨ ∃ j, t.nextEvent = some j ∧ 0 < j)
    (htime : t.lds.time < 2 ^ 56) (hwrap : t.lds.wrap < 2 ^ 16) : runTicks tickFuel k s = t := by
  have hfuel : tickFuel = 1023 + 1 := rfl
  have hzero : passTicks 0 t = t := by
    show ({ t with lds := ldsTicks 0 t.lds } : State) = t
    rw [ldsTicks_zero htime hwrap]
  rw [hfuel, runTicks_next hk (le_refl k), ← ht, Nat.sub_self]
  rcases hnext with hnone | ⟨j, hj, hpos⟩
  · rw [runTicks_none hnone, hzero]
  · rw [runTicks_before hj hpos, hzero]

/-- On the tick that an else quiet module's one armed channel reaches, it fires. -/
theorem atTick_channel {n : Nat} (hq : s.Quiet [n]) (hn : n < 16) (harm : bit (s.reg (aLdsTmrCtl n)) 0 = true)
    (hreach : s.reached (s.reg (aLdsTmrCmp n)) = true) : atTick s = fireTimer n true s := by
  obtain ⟨hch, hpps, hfsync⟩ := hq
  have hfiring : s.firing = [n] := by
    refine filter_range_one hn ?_ fun m hm hne => ?_
    · rw [harm, Bool.true_and]
      exact hreach
    · rw [hch m hm (by rwa [List.mem_singleton]), Bool.false_and]
  unfold atTick
  simp only [hpps, hfsync, List.filter_nil, List.foldl_nil, hfiring, List.foldl_cons]
  simp

/-- On the tick that the one pulse of a module without armed channels reaches, it ends. -/
theorem atTick_pulse {n v : Nat} (hch : ∀ m < 16, bit (s.reg (aLdsTmrCtl m)) 0 = false) (hpps : s.lds.ppsOut = [(n, v)])
    (hfsync : s.lds.fsyncOut = []) (hreach : s.reached v = true) : atTick s = endPps n v s := by
  have hnone : (endPps n v s).firing = [] := by
    refine filter_range_none fun m hm => ?_
    rw [show bit ((endPps n v s).reg (aLdsTmrCtl m)) 0 = false from hch m hm, Bool.false_and]
  have hend : (s.lds.ppsOut.filter (fun e => s.reached e.2)).foldl (fun s e => endPps e.1 e.2 s) s = endPps n v s := by
    rw [hpps, List.filter_cons_of_pos (p := fun e => s.reached e.2) (a := (n, v)) hreach, List.filter_nil, List.foldl_cons, List.foldl_nil]
  unfold atTick
  simp only [hend]
  rw [show (endPps n v s).lds.fsyncOut = [] from hfsync]
  simp only [List.filter_nil, List.foldl_nil, hnone]

/-! ### What a channel that has fired is like -/

/-- A one-shot channel that has fired is disarmed. -/
theorem fired_oneShot {n : Nat} (h : bit (s.reg (aLdsTmrCtl n)) 1 = false) : bit ((s.fired n).reg (aLdsTmrCtl n)) 0 = false ∧
    bit ((s.fired n).reg (aLdsTmrCtl n)) 8 = true ∧ SetsOnly [aLdsTmrCtl n] s (s.fired n) := by
  have heq : s.fired n = (s.setFlag (aLdsTmrCtl n) 8).setReg (aLdsTmrCtl n) (clrBit ((s.setFlag (aLdsTmrCtl n) 8).reg (aLdsTmrCtl n)) 0) :=
    if_neg (by rw [h]; decide)
  rw [heq, setReg_reg]
  refine ⟨clrBit_config _, ?_, ((SetsOnly.refl _ s).setReg (List.mem_singleton.2 rfl) _).setReg (List.mem_singleton.2 rfl) _⟩
  rw [State.setFlag, setReg_reg]
  exact clrBit_setBit _

/-- A periodic channel that has fired stays armed, and its compare value has moved on by its period. -/
theorem fired_periodic {n : Nat} (h : bit (s.reg (aLdsTmrCtl n)) 1 = true) :
    bit ((s.fired n).reg (aLdsTmrCtl n)) 0 = bit (s.reg (aLdsTmrCtl n)) 0 ∧ bit ((s.fired n).reg (aLdsTmrCtl n)) 8 = true ∧
    (s.fired n).reg (aLdsTmrCmp n) = (s.reg (aLdsTmrCmp n) + s.reg (aLdsTmrPer n)) % 2 ^ 32 ∧
    SetsOnly [aLdsTmrCtl n, aLdsTmrCmp n] s (s.fired n) := by
  obtain ⟨hcmp, hper, -, -, -, -⟩ := channel_ne n
  have heq : s.fired n = (s.setFlag (aLdsTmrCtl n) 8).setReg (aLdsTmrCmp n)
      ((s.reg (aLdsTmrCmp n) + (s.setFlag (aLdsTmrCtl n) 8).reg (aLdsTmrPer n)) % 2 ^ 32) := if_pos h
  rw [heq, setReg_reg_ne _ _ hcmp, setReg_reg, setFlag_reg_ne _ _ hper.symm, Nat.mod_mod]
  refine ⟨?_, setFlag_bit _ _ 8 (by decide), rfl, ((SetsOnly.refl _ s).setReg (by simp) _).setReg (by simp) _⟩
  rw [State.setFlag, setReg_reg]
  exact (config_of_low (setBit_low _ (by decide))).1

end Sys2Proof.Machine
end

section
/-!
SUPPORT. The timer channels as R103 to R107 state them.
-/
namespace Sys2Proof.Machine

variable {s t u : State}

/-! ### Configurations (R105) -/

theorem SetsOnly.trans {l m : List Nat} (h : SetsOnly l s t) (k : SetsOnly m t u) (hm : ∀ a ∈ m, a ∈ l) : SetsOnly l s u :=
  ⟨h.regs.trans k.regs, fun a d ha => (k.others a d (fun hmem => ha (hm a hmem))).trans (h.others a d ha)⟩

/-- A legal configuration is not refused. -/
theorem tmrBad_legal {n : Nat} {periodic : Bool} {c : TmrCfg} (hper : s.reg (aLdsTmrPer n) = c.per) (hwid : s.tmrWid n = c.wid)
    (hd : destLegal n c.dest = true) (hlt : c.per < 2 ^ 31) (hw : 1 ≤ c.wid ∧ c.wid ≤ 100000)
    (hp : periodic = true → 2000 ≤ c.per ∧ c.wid * 1000 < c.per) : tmrBad s n periodic c.dest = false := by
  have hw1 : decide (c.wid < 1) = false := decide_eq_false (by omega)
  have hw2 : decide (c.wid > 100000) = false := decide_eq_false (by omega)
  unfold tmrBad
  dsimp only
  rw [hper, hwid, hd, hw1, hw2]
  cases periodic with
  | false => simp
  | true =>
    obtain ⟨hmin, hlong⟩ := hp rfl
    have hp1 : decide (c.per < 2000) = false := decide_eq_false (by omega)
    have hp2 : decide (c.per ≥ 2 ^ 31) = false := decide_eq_false (by omega)
    have hp3 : decide (c.wid * 1000 ≥ c.per) = false := decide_eq_false (by omega)
    rw [hp1, hp2, hp3]
    simp

/-- A configuration that R105 rules out is refused. -/
theorem tmrBad_illegal {n : Nat} {periodic : Bool} {c : TmrCfg} (hper : s.reg (aLdsTmrPer n) = c.per) (hwid : s.tmrWid n = c.wid)
    (h : destLegal n c.dest = false ∨ (periodic = true ∧ (c.per < 2000 ∨ 2 ^ 31 ≤ c.per)) ∨
      ((c.dest = 1 ∨ c.dest = 2) ∧ (c.wid < 1 ∨ 100000 < c.wid ∨ (periodic = true ∧ c.per ≤ c.wid * 1000)))) :
    tmrBad s n periodic c.dest = true := by
  unfold tmrBad
  dsimp only
  rw [hper, hwid]
  rcases h with h | ⟨h1, h2⟩ | ⟨h1, h2⟩
  · rw [h]
    rfl
  · rw [h1]
    have hper : (decide (c.per < 2000) || decide (c.per ≥ 2 ^ 31)) = true := by simpa using h2
    rw [hper]
    simp
  · have hdest : (c.dest == 1 || c.dest == 2) = true := by simpa using h1
    rw [hdest]
    rcases h2 with h2 | h2 | ⟨h2, h3⟩
    · rw [decide_eq_true h2]
      simp
    · rw [decide_eq_true (show c.wid > 100000 from h2)]
      simp
    · rw [h2, decide_eq_true (show c.wid * 1000 ≥ c.per from h3)]
      simp

/-! ### One channel fires (R103, R104, R106) -/

theorem ctl_ne {m n : Nat} (h : m ≠ n) : aLdsTmrCtl m ≠ aLdsTmrCtl n := by
  unfold aLdsTmrCtl
  omega

theorem ctl_ne_cmp (m n : Nat) : aLdsTmrCtl m ≠ aLdsTmrCmp n := by
  unfold aLdsTmrCtl aLdsTmrCmp
  omega

theorem execTimerFire_done (n : Nat) (s : State) : execTimerFire n s = done s (fun s =>
    guardS (s.lds.on && n < 16 && bit (s.reg (aLdsTmrCtl n)) 0 && s.ticksUntil (s.reg (aLdsTmrCmp n)) < s.ticksToBeat)
      (runTicks tickFuel (s.ticksUntil (s.reg (aLdsTmrCmp n)))) s) := rfl

/-- TIMER_FIRE within the beat (R103). -/
theorem execTimerFire_eq {n : Nat} (hon : s.lds.on = true) (hn : n < 16) (harm : bit (s.reg (aLdsTmrCtl n)) 0 = true)
    (hk : s.ticksUntil (s.reg (aLdsTmrCmp n)) < s.ticksToBeat) : exec (.timerFire n) s =
      .next { runTicks tickFuel (s.ticksUntil (s.reg (aLdsTmrCmp n))) { s with out := [] } with pending := s.pending } := by
  have hguard : (s.lds.on && decide (n < 16) && bit (s.reg (aLdsTmrCtl n)) 0 &&
      decide (s.ticksUntil (s.reg (aLdsTmrCmp n)) < s.ticksToBeat)) = true := by
    rw [hon, decide_eq_true hn, harm, decide_eq_true hk]
    rfl
  exact (execTimerFire_done n s).trans (done_next (guardS_true hguard _ _))

theorem execTimerPulseEnd_done (n : Nat) (s : State) : execTimerPulseEnd n s = done s (fun s =>
    ((tget s.lds.ppsOut n).or (tget s.lds.fsyncOut n)).elim s
      (fun v => guardS (s.lds.on && s.ticksUntil v < s.ticksToBeat) (runTicks tickFuel (s.ticksUntil v)) s)) := by
  unfold execTimerPulseEnd
  congr 1
  funext s
  cases (tget s.lds.ppsOut n).or (tget s.lds.fsyncOut n) <;> rfl

/-- TIMER_PULSE_END within the beat (R104). -/
theorem execTimerPulseEnd_eq {n v : Nat} (hon : s.lds.on = true) (hv : (tget s.lds.ppsOut n).or (tget s.lds.fsyncOut n) = some v)
    (hk : s.ticksUntil v < s.ticksToBeat) : exec (.timerPulseEnd n) s =
      .next { runTicks tickFuel (s.ticksUntil v) { s with out := [] } with pending := s.pending } := by
  have hguard : (s.lds.on && decide (s.ticksUntil v < s.ticksToBeat)) = true := by
    rw [hon, decide_eq_true hk]
    rfl
  refine (execTimerPulseEnd_done n s).trans (done_next ?_)
  dsimp only
  rw [hv]
  exact guardS_true hguard _ _

/-- The counter runs to the compare value of the one armed channel of an else quiet module, which fires there. -/
theorem runTicks_channel {n k : Nat} (hr : s.rated) (hq : s.Quiet [n]) (hn : n < 16) (harm : bit (s.reg (aLdsTmrCtl n)) 0 = true)
    (hk : k = s.ticksUntil (s.reg (aLdsTmrCmp n))) (ht : t = fireTimer n true (passTicks k s))
    (hnext : t.nextEvent = none ∨ ∃ j, t.nextEvent = some j ∧ 0 < j) (htime : t.lds.time = (ldsTicks k s.lds).time)
    (hwrap : t.lds.wrap = (ldsTicks k s.lds).wrap) : runTicks tickFuel k s = t := by
  obtain ⟨hw1, hw2⟩ := ldsTicks_width k s.lds
  have hreach := ticksUntil_reaches hr hk
  refine runTicks_moment (by rw [nextEvent_channel hq hn harm, hk]) ?_ hnext (htime ▸ hw1) (hwrap ▸ hw2)
  rw [ht]
  exact (atTick_channel (s := passTicks k s) hq hn harm hreach).symm

/-- A one-shot channel toward nothing fires and is disarmed. -/
theorem runTicks_oneShot {n k : Nat} (hr : s.rated) (hq : s.Quiet [n]) (hn : n < 16) (harm : bit (s.reg (aLdsTmrCtl n)) 0 = true)
    (hone : bit (s.reg (aLdsTmrCtl n)) 1 = false) (hd : s.tmrDest n = 0) (hk : k = s.ticksUntil (s.reg (aLdsTmrCmp n))) :
    runTicks tickFuel k s = (passTicks k s).fired n := by
  obtain ⟨h0, -, hset⟩ := fired_oneShot (s := passTicks k s) hone
  obtain ⟨hch, hpps, hfsync⟩ := hq
  have hlds := fired_lds n (passTicks k s)
  refine runTicks_channel hr ⟨hch, hpps, hfsync⟩ hn harm hk ((fireTimer_armed (s := passTicks k s) true harm).1 hd).symm (.inl ?_)
    (by rw [hlds]; rfl) (by rw [hlds]; rfl)
  refine nextEvent_quiet ⟨fun m hm _ => ?_, by rw [hlds]; exact hpps, by rw [hlds]; exact hfsync⟩
  by_cases hmn : m = n
  · rw [hmn]
    exact h0
  · rw [hset.reg (by rw [List.mem_singleton]; exact ctl_ne hmn)]
    exact hch m hm (by rwa [List.mem_singleton])

/-- The frame tick falls due (R86, R104). -/
theorem deliver_tick (n cmp : Nat) (s : State) :
    deliver 3 n cmp s = { s with frm := { s.frm with tickDue := true }, out := s.out ++ [.msg .trigger 3 [n] []] } := rfl

/-- A periodic channel toward the frame tick fires, and its next compare value lies ahead. -/
theorem runTicks_periodic {n k : Nat} (hr : s.rated) (hq : s.Quiet [n]) (hn : n < 16) (harm : bit (s.reg (aLdsTmrCtl n)) 0 = true)
    (hper : bit (s.reg (aLdsTmrCtl n)) 1 = true) (hd : s.tmrDest n = 3) (hmin : 2000 ≤ s.reg (aLdsTmrPer n)) (hmax : s.reg (aLdsTmrPer n) < 2 ^ 31)
    (hahead : s.reached (s.reg (aLdsTmrCmp n)) = false) (hk : k = s.ticksUntil (s.reg (aLdsTmrCmp n))) :
    runTicks tickFuel k s = deliver 3 n (s.reg (aLdsTmrCmp n)) ((passTicks k s).fired n) := by
  obtain ⟨h0, -, hcmp, hset⟩ := fired_periodic (s := passTicks k s) hper
  obtain ⟨hch, hpps, hfsync⟩ := hq
  have hlds := fired_lds n (passTicks k s)
  have hfire := (fireTimer_armed (s := passTicks k s) true harm).2.2.2 (show 3 ≤ s.tmrDest n by omega)
  rw [show (passTicks k s).tmrDest n = 3 from hd, if_pos rfl] at hfire
  have harm' : bit ((deliver 3 n (s.reg (aLdsTmrCmp n)) ((passTicks k s).fired n)).reg (aLdsTmrCtl n)) 0 = true := h0.trans harm
  have hquiet : (deliver 3 n (s.reg (aLdsTmrCmp n)) ((passTicks k s).fired n)).Quiet [n] := by
    refine ⟨fun m hm hmn => ?_, (congrArg Lodestone.ppsOut hlds).trans hpps, (congrArg Lodestone.fsyncOut hlds).trans hfsync⟩
    rw [List.mem_singleton] at hmn
    refine (congrArg (bit · 0) (hset.reg (a := aLdsTmrCtl m) ?_)).trans (hch m hm (by rwa [List.mem_singleton]))
    simp [ctl_ne hmn, ctl_ne_cmp]
  refine runTicks_channel hr ⟨hch, hpps, hfsync⟩ hn harm hk hfire.symm (.inr ⟨_, nextEvent_channel hquiet hn harm', ticksUntil_pos ?_ ?_⟩)
    (congrArg Lodestone.time hlds) (congrArg Lodestone.wrap hlds)
  · show 0 < ((passTicks k s).fired n).lds.inc
    rw [hlds]
    exact hr.1
  · obtain ⟨j, hj, hns⟩ := ldsTicks_ticksTo (s.reg (aLdsTmrCmp n)) hr.1 hr.2
    rw [State.ticksUntil, if_neg (by rw [hahead]; decide)] at hk
    rw [← hk] at hns
    have hns' : (deliver 3 n (s.reg (aLdsTmrCmp n)) ((passTicks k s).fired n)).lds.nsReg = (s.reg (aLdsTmrCmp n) + j) % 2 ^ 32 :=
      (congrArg Lodestone.nsReg hlds).trans hns
    rw [State.reached, hns', show (deliver 3 n (s.reg (aLdsTmrCmp n)) ((passTicks k s).fired n)).reg (aLdsTmrCmp n) = _ from hcmp]
    rw [show (passTicks k s).reg (aLdsTmrCmp n) = s.reg (aLdsTmrCmp n) from rfl,
      show (passTicks k s).reg (aLdsTmrPer n) = s.reg (aLdsTmrPer n) from rfl]
    generalize s.reg (aLdsTmrCmp n) = c
    generalize s.reg (aLdsTmrPer n) = p at hmin hmax
    refine decide_eq_false ?_
    omega

/-! ### Pulses (R104, R106) -/

/-- An edge of an output: its level is that of the pulses that run, and it comes earlier by the cable advance (R99, R106). -/
theorem driveOut_eq (k : Msg) (pulses : Tbl Nat) (v : Nat) (s : State) : driveOut k pulses v s =
    { s with out := s.out ++ [.msg k 0 [b2n (s.lds.st != .unset && !pulses.isEmpty), (v + 2 ^ 32 - s.outAdvance) % 2 ^ 32] []] } := rfl

theorem advance_ne (n : Nat) : aLdsSx1Dly ≠ aLdsTmrCtl n := by
  unfold aLdsSx1Dly aLdsTmrCtl
  omega

theorem ctl_ne_wid (n : Nat) : aLdsTmrWid n ≠ aLdsTmrCtl n := (channel_ne n).2.2.1.symm

/-- A state in which the pulse of one channel on PPS_OUT has begun. -/
def pulseBegun (n fin cmp : Nat) (s : State) : State := driveOut .ppsOut [(n, fin)] cmp (s.lds' (fun l => { l with ppsOut := [(n, fin)] }))

theorem pulseBegun_eq {n fin cmp : Nat} (hst : s.lds.st ≠ .unset) : pulseBegun n fin cmp s =
    { s with lds := { s.lds with ppsOut := [(n, fin)] }, out := s.out ++ [.msg .ppsOut 0 [1, (cmp + 2 ^ 32 - s.outAdvance) % 2 ^ 32] []] } := by
  have hlevel : b2n (s.lds.st != .unset && !([(n, fin)] : Tbl Nat).isEmpty) = 1 := by
    rw [bne_iff_ne.2 hst]
    rfl
  rw [pulseBegun, driveOut_eq, State.lds']
  dsimp only
  rw [hlevel]
  rfl

/-- A one-shot channel toward an idle PPS_OUT fires: its pulse begins, and ends after its width. -/
theorem fireTimer_pps {n : Nat} (harm : bit (s.reg (aLdsTmrCtl n)) 0 = true) (hone : bit (s.reg (aLdsTmrCtl n)) 1 = false)
    (hd : s.tmrDest n = 1) (hpps : s.lds.ppsOut = []) : fireTimer n true s =
    pulseBegun n ((s.lds.nsReg + s.tmrWid n * 1000) % 2 ^ 32) (s.reg (aLdsTmrCmp n)) (s.fired n) := by
  obtain ⟨-, -, hset⟩ := fired_oneShot (s := s) hone
  have hlds := fired_lds n s
  have hpulse : (s.fired n).pulseFin n = (s.lds.nsReg + s.tmrWid n * 1000) % 2 ^ 32 := by
    rw [State.pulseFin, hlds, State.tmrWid, hset.others _ _ (by rw [List.mem_singleton]; exact ctl_ne_wid n), State.tmrWid]
  rw [(fireTimer_armed (s := s) true harm).2.1 hd, hpulse, hpps, pulseBegun, State.lds', State.lds', hlds, hpps]
  rfl

/-- The end of a pulse lies ahead of its start. -/
theorem pulse_ahead {wid : Nat} (hmin : 1 ≤ wid) (hmax : wid ≤ 100000) : s.reached ((s.lds.nsReg + wid * 1000) % 2 ^ 32) = false := by
  have hlt : s.lds.nsReg < 2 ^ 32 := Nat.mod_lt _ (by decide)
  unfold State.reached
  obtain ⟨c, hc⟩ : ∃ c, c = s.lds.nsReg := ⟨_, rfl⟩
  rw [← hc] at hlt ⊢
  have hleft : (c + 2 ^ 32 - (c + wid * 1000) % 2 ^ 32) % 2 ^ 32 = 2 ^ 32 - wid * 1000 := by
    rcases Nat.lt_or_ge (c + wid * 1000) (2 ^ 32) with h | h
    · have hend : (c + wid * 1000) % 2 ^ 32 = c + wid * 1000 := Nat.mod_eq_of_lt h
      omega
    · have hend : (c + wid * 1000) % 2 ^ 32 = c + wid * 1000 - 2 ^ 32 := by omega
      omega
  rw [hleft]
  refine decide_eq_false ?_
  omega

theorem reached_of_nsReg (h : t.lds.nsReg = s.lds.nsReg) {v : Nat} : t.reached v = s.reached v := by
  rw [State.reached, h, State.reached]

theorem pulseBegun_nsReg {n fin cmp : Nat} (h : s.lds = t.lds) : (pulseBegun n fin cmp s).lds.nsReg = t.lds.nsReg := by
  rw [← h]
  rfl

/-- The counter runs to a one-shot channel toward an idle PPS_OUT, and its pulse begins. -/
theorem runTicks_pps {n k : Nat} (hr : s.rated) (hq : s.Quiet [n]) (hn : n < 16) (harm : bit (s.reg (aLdsTmrCtl n)) 0 = true)
    (hone : bit (s.reg (aLdsTmrCtl n)) 1 = false) (hd : s.tmrDest n = 1) (hmin : 1 ≤ s.tmrWid n) (hmax : s.tmrWid n ≤ 100000)
    (hk : k = s.ticksUntil (s.reg (aLdsTmrCmp n))) : runTicks tickFuel k s =
    pulseBegun n (((ldsTicks k s.lds).nsReg + s.tmrWid n * 1000) % 2 ^ 32) (s.reg (aLdsTmrCmp n)) ((passTicks k s).fired n) := by
  obtain ⟨h0, -, hset⟩ := fired_oneShot (s := passTicks k s) hone
  obtain ⟨hch, hpps, hfsync⟩ := hq
  have hlds := fired_lds n (passTicks k s)
  have hahead := pulse_ahead (s := passTicks k s) hmin hmax
  refine runTicks_channel hr ⟨hch, hpps, hfsync⟩ hn harm hk (fireTimer_pps (s := passTicks k s) harm hone hd hpps).symm
    (.inr ⟨_, nextEvent_pulse (n := n) ?_ rfl ((congrArg Lodestone.fsyncOut hlds).trans hfsync), ticksUntil_pos ?_ ?_⟩) ?_ ?_
  · intro m hm
    by_cases hmn : m = n
    · rw [hmn]
      exact h0
    · exact (congrArg (bit · 0) (hset.reg (by rw [List.mem_singleton]; exact ctl_ne hmn))).trans (hch m hm (by rwa [List.mem_singleton]))
  · show 0 < ((passTicks k s).fired n).lds.inc
    rw [hlds]
    exact hr.1
  · exact (reached_of_nsReg (pulseBegun_nsReg hlds)).trans hahead
  · exact (congrArg Lodestone.time hlds :)
  · exact (congrArg Lodestone.wrap hlds :)

/-- The last pulse of PPS_OUT ends: nothing is left to drive. -/
theorem endPps_last {n w : Nat} (v : Nat) (hpps : s.lds.ppsOut = [(n, w)]) : (endPps n v s).lds = { s.lds with ppsOut := [] } ∧
    (endPps n v s).out = s.out ++ [.msg .ppsOut 0 [0, (v + 2 ^ 32 - s.outAdvance) % 2 ^ 32] []] := by
  have hnone : terase s.lds.ppsOut n = [] := by
    rw [hpps]
    simp [terase]
  rw [endPps, driveOut_eq, State.lds']
  dsimp only
  rw [hnone, List.isEmpty_nil, Bool.not_true, Bool.and_false]
  exact ⟨rfl, rfl⟩

/-- The counter runs to the end of the one pulse of a module without armed channels. -/
theorem runTicks_pulseEnd {n v k : Nat} (hr : s.rated) (hch : ∀ m < 16, bit (s.reg (aLdsTmrCtl m)) 0 = false) (hpps : s.lds.ppsOut = [(n, v)])
    (hfsync : s.lds.fsyncOut = []) (hk : k = s.ticksUntil v) : runTicks tickFuel k s = endPps n v (passTicks k s) := by
  obtain ⟨hw1, hw2⟩ := ldsTicks_width k s.lds
  have hreach := ticksUntil_reaches hr hk
  obtain ⟨hend, -⟩ := endPps_last (s := passTicks k s) v hpps
  have hempty : (endPps n v (passTicks k s)).lds.ppsOut = [] := by rw [hend]
  exact runTicks_moment (by rw [nextEvent_pulse hch hpps hfsync, hk]) (atTick_pulse (s := passTicks k s) hch hpps hfsync hreach).symm
    (.inl (nextEvent_quiet ⟨fun m hm _ => hch m hm, hempty, hfsync⟩)) hw1 hw2

/-! ### The obligation -/

theorem outAdvance_setsOnly {n : Nat} (h : SetsOnly [aLdsTmrCtl n] s t) : t.outAdvance = s.outAdvance :=
  congrArg (fieldOf · 16 16) (h.reg (by rw [List.mem_singleton]; exact advance_ne n))

/-- Settles O16: one command runs the counter to one moment, and what fires there leaves every other moment ahead of it. -/
theorem timerChannelsFire : Obligations.TimerChannelsFire := by
  unfold Obligations.TimerChannelsFire
  refine ⟨?_, ?_, ?_, ?_, ?_, ?_, ?_, ?_, ?_, ?_⟩
  · intro n per c s hn hlock hoff hdest hper hwmin hwmax hperiodic
    obtain ⟨hctl, hcmp, hper', hwid, hset⟩ := setCompare_fields n c.cmp c.per c.wid { s with out := [] }
    rw [Nat.mod_eq_of_lt (by omega)] at hper' hwid
    have hok := tmrBad_legal hper' hwid hdest hper ⟨hwmin, hwmax⟩ hperiodic
    obtain ⟨h0, h1, h2, hlate, hset'⟩ := armTimer_taken hok (destLegal_lt hdest)
    obtain ⟨hcc, hcp, hcw, -, -, -⟩ := channel_ne n
    have hall := hset.trans hset' (by simp [channelRegs])
    have hns := hset.regs
    obtain ⟨r, hr⟩ := hall.regs
    rw [execTimerArm_eq per c hn hlock, configTimer_arms (s := { s with out := [] }) hoff]
    refine ⟨_, rfl, h0, h1, h2, ?_, ?_, ?_, ?_, hall.others, by rw [hr]⟩
    · exact (hset'.reg (by rw [List.mem_singleton]; exact hcc.symm)).trans hcmp
    · exact (hset'.reg (by rw [List.mem_singleton]; exact hcp.symm)).trans hper'
    · exact (hset'.others _ 1 (by rw [List.mem_singleton]; exact hcw.symm)).trans hwid
    · intro hpassed
      refine hlate (decide_eq_true ?_)
      obtain ⟨r', hr'⟩ := hns
      rw [hcmp, hr']
      exact hpassed
  · intro n per c s hn hlock hoff hper hwid hbad
    obtain ⟨-, -, hper', hwid', hset⟩ := setCompare_fields n c.cmp c.per c.wid { s with out := [] }
    rw [Nat.mod_eq_of_lt (by assumption)] at hper' hwid'
    obtain ⟨h0, h11, hset'⟩ := armTimer_refused (tmrBad_illegal hper' hwid' hbad)
    have hall := hset.trans hset' (by simp [channelRegs])
    obtain ⟨r, hr⟩ := hall.regs
    rw [execTimerArm_eq per c hn hlock, configTimer_arms (s := { s with out := [] }) hoff]
    exact ⟨_, rfl, h0, h11, hall.others, by rw [hr]⟩
  · intro n per c s hn hlock hon
    have hset : SetsOnly [aLdsTmrCtl n] { s with out := [] } (({ s with out := [] } : State).setFlag (aLdsTmrCtl n) 11) :=
      (SetsOnly.refl _ _).setReg (List.mem_singleton.2 rfl) _
    rw [execTimerArm_eq per c hn hlock, configTimer_kept (s := { s with out := [] }) hon]
    refine ⟨_, rfl, setFlag_bit _ _ 11 (by decide), ?_, fun a d ha => hset.others a d (by rwa [List.mem_singleton]), rfl⟩
    obtain ⟨-, -, hdest⟩ := config_of_low (setBit_low (s.reg (aLdsTmrCtl n)) (k := 11) (by decide))
    refine Eq.trans ?_ hdest
    exact congrArg (fieldOf · 2 3) (setReg_reg { s with out := [] } _ _)
  · intro n per c s hn hserv
    exact execTimerArm_locked per c hn hserv
  · intro n s hon hn harm hk
    exact execTimerFire_eq hon hn harm hk
  · intro n k s hon hr hq hn harm hone hd hk hlt
    obtain ⟨h0, h8, hset⟩ := fired_oneShot (s := passTicks k { s with out := [] }) hone
    obtain ⟨r, hreg⟩ := hset.regs
    rw [execTimerFire_eq hon hn harm (hk ▸ hlt), ← hk, runTicks_oneShot (s := { s with out := [] }) hr hq hn harm hone hd hk]
    refine ⟨_, rfl, h0, h8, fun a d ha => hset.others a d (by rwa [List.mem_singleton]), fired_lds _ _, ?_⟩
    rw [hreg]
    rfl
  · intro n k s hon hr hq hn harm hper hd hmin hmax hahead hk hlt
    obtain ⟨h0, h8, hcmp, hset⟩ := fired_periodic (s := passTicks k { s with out := [] }) hper
    obtain ⟨r, hreg⟩ := hset.regs
    rw [execTimerFire_eq hon hn harm (hk ▸ hlt), ← hk,
      runTicks_periodic (s := { s with out := [] }) hr hq hn harm hper hd hmin hmax hahead hk, deliver_tick]
    refine ⟨_, rfl, h0.trans harm, h8, hcmp, ?_, fired_lds n _, ?_⟩
    · rw [hreg]
      rfl
    · rw [hreg]
      rfl
  · intro n k s hon hr hq hn harm hone hd hmin hmax hst hk hlt
    obtain ⟨h0, -, hset⟩ := fired_oneShot (s := passTicks k { s with out := [] }) hone
    obtain ⟨r, hreg⟩ := hset.regs
    rw [execTimerFire_eq hon hn harm (hk ▸ hlt), ← hk, runTicks_pps (s := { s with out := [] }) hr hq hn harm hone hd hmin hmax hk,
      pulseBegun_eq (by rw [fired_lds]; exact hst)]
    refine ⟨_, rfl, h0, ?_, ?_, ?_⟩
    · rw [fired_lds]
      rfl
    · rw [outAdvance_setsOnly hset, hreg]
      rfl
    · rw [hreg]
      rfl
  · intro n v k s hon hr hch hpps hfsync hk hlt
    have htget : (tget s.lds.ppsOut n).or (tget s.lds.fsyncOut n) = some v := by
      rw [hpps]
      simp [tget]
    rw [execTimerPulseEnd_eq hon htget (hk ▸ hlt), ← hk, runTicks_pulseEnd (s := { s with out := [] }) hr hch hpps hfsync hk]
    refine ⟨_, rfl, ?_, ?_, ?_⟩
    · exact (endPps_last (s := passTicks k { s with out := [] }) v hpps).1
    · exact (endPps_last (s := passTicks k { s with out := [] }) v hpps).2
    · rfl
  · intro n v s hon htget hlt
    exact execTimerPulseEnd_eq hon htget hlt

end Sys2Proof.Machine
end

section
/-!
SUPPORT. No commit of an opcode touches the queue of commands: what each function that a commit calls does with it (log 1). The lemma pending_f says
that the function f of the model keeps it.
-/
namespace Sys2Proof.Machine

/-! ### Choices, folds, and results that may be missing -/

@[simp] theorem pending_ite {p : Prop} [Decidable p] (x y : State) :
    (if p then x else y).pending = if p then x.pending else y.pending := apply_ite ..

@[simp] theorem pending_iteFst {α : Type} {p : Prop} [Decidable p] (x y : State × α) :
    (if p then x else y).1.pending = if p then x.1.pending else y.1.pending := apply_ite (fun z : State × α => z.1.pending) ..

@[simp] theorem pending_foldl {α : Type} {f : State → α → State} (h : ∀ u x, (f u x).pending = u.pending) (l : List α) (s : State) :
    (l.foldl f s).pending = s.pending := foldl_keeps f State.pending l (fun u x _ => h u x) s

@[simp] theorem pending_foldlFst {α β : Type} {f : State × β → α → State × β} (h : ∀ u x, (f u x).1.pending = u.1.pending) (l : List α)
    (p : State × β) : (l.foldl f p).1.pending = p.1.pending := foldl_keeps f (fun p => p.1.pending) l (fun u x _ => h u x) p

@[simp] theorem pending_guardS (p : Bool) {f : State → State} {s : State} (h : (f s).pending = s.pending) : (guardS p f s).pending = s.pending := by
  unfold guardS
  split
  · exact h
  · rfl

/-- Where there is a state, it holds the queue of `s`. -/
def SomeQueue (s : State) (x : Option State) : Prop := ∀ t, x = some t → t.pending = s.pending

theorem SomeQueue.some {s t : State} (h : t.pending = s.pending) : SomeQueue s (some t) := by
  rintro _ ⟨⟩
  exact h

theorem SomeQueue.none (s : State) : SomeQueue s none := fun _ h => by cases h

theorem SomeQueue.ite {s : State} {p : Prop} [Decidable p] {x y : Option State} (hx : SomeQueue s x) (hy : SomeQueue s y) :
    SomeQueue s (if p then x else y) := by
  split
  · exact hx
  · exact hy

/-- A state that is answered holds the queue of `s`. -/
def OkQueue (s : State) (x : Except Err State) : Prop := ∀ t, x = .ok t → t.pending = s.pending

theorem OkQueue.ok {s t : State} (h : t.pending = s.pending) : OkQueue s (.ok t) := by
  rintro _ ⟨⟩
  exact h

theorem OkQueue.error (s : State) (e : Err) : OkQueue s (.error e) := fun _ h => by cases h

theorem OkQueue.bind {s : State} {α : Type} {x : Except Err α} {f : α → Except Err State} (h : ∀ a, OkQueue s (f a)) : OkQueue s (x >>= f) := by
  cases x with
  | error e => exact .error s e
  | ok a => exact h a

theorem OkQueue.ite {s : State} {p : Prop} [Decidable p] {x y : Except Err State} (hx : OkQueue s x) (hy : OkQueue s y) :
    OkQueue s (if p then x else y) := by
  split
  · exact hx
  · exact hy

theorem OkQueue.next {s : State} {x : Except Err State} {f : State → Except Err State} (hx : OkQueue s x) (h : ∀ t, OkQueue t (f t)) :
    OkQueue s (x >>= f) := by
  cases x with
  | error e => exact .error s e
  | ok t => exact fun u hu => (h t u hu).trans (hx t rfl)

/-! ### Machine/Hbm.lean -/

@[simp] theorem pending_setWorkspace (v n) (s : State) : (setWorkspace v n s).pending = s.pending := by
  unfold setWorkspace
  simp -implicitDefEqProofs

/-! ### Machine/Level.lean -/

@[simp] theorem pending_endpointState (s : State) (hs code) : (s.endpointState hs code).pending = s.pending := by
  unfold State.endpointState
  simp

/-! ### Machine/Presets.lean -/

@[simp] theorem pending_keepEntries (keep) (s : State) : (keepEntries keep s).pending = s.pending := by rfl

@[simp] theorem pending_defaultPreset (s : State) (h) : (s.defaultPreset h).pending = s.pending := by
  unfold State.defaultPreset
  simp

@[simp] theorem pending_presetPole (g p) (s : State) : (presetPole g p s).pending = s.pending := by
  unfold presetPole
  split <;> simp

/-! ### Machine/Ring.lean -/

@[simp] theorem pending_modSp (s : State) (east f) : (s.modSp east f).pending = s.pending := by rfl

@[simp] theorem pending_spTx (east ty ttl dest src urgent args body) (s : State) :
    (spTx east ty ttl dest src urgent args body s).pending = s.pending := by
  unfold spTx
  split <;> simp -implicitDefEqProofs

@[simp] theorem pending_spOut (east ty ttl dest src urgent args body) (s : State) :
    (spOut east ty ttl dest src urgent args body s).pending = s.pending := by
  unfold spOut
  simp

@[simp] theorem pending_spAll (ty args body) (s : State) : (spAll ty args body s).pending = s.pending := by
  unfold spAll
  simp

/-! ### Machine/BridgeTags.lean -/

@[simp] theorem pending_brResult (s : State) (op status tlvs) : (brResult s op status tlvs).pending = s.pending := by
  unfold brResult
  simp

@[simp] theorem pending_tagResult (s : State) (t status tlvs) : (tagResult s t status tlvs).pending = s.pending := by
  unfold tagResult
  simp

@[simp] theorem pending_dropPosted (g op) (s : State) : (dropPosted g op s).pending = s.pending := by rfl

@[simp] theorem pending_closeTag (g) (s : State) (e) : (closeTag g s e).pending = s.pending := by
  unfold closeTag
  split <;> simp

@[simp] theorem pending_bridgeUnreach (g p) (s : State) : (bridgeUnreach g p s).pending = s.pending := by
  unfold bridgeUnreach
  simp

@[simp] theorem pending_bridgeClose (g p) (s : State) : (bridgeClose g p s).pending = s.pending := by
  unfold bridgeClose
  simp

@[simp] theorem pending_bridgeRemove (v) (s : State) : (bridgeRemove v s).pending = s.pending := by rfl

/-! ### Machine/Restart.lean -/

@[simp] theorem pending_setTimer (n ctl cmp per wid) (s : State) : (setTimer n ctl cmp per wid s).pending = s.pending := by rfl

@[simp] theorem pending_programTimers (t base) (s : State) : (programTimers t base s).pending = s.pending := by
  unfold programTimers
  simp

/-! ### Machine/Time.lean -/

@[simp] theorem pending_writeInc (v) (s : State) : (writeInc v s).pending = s.pending := by
  unfold writeInc
  simp

@[simp] theorem pending_shiftFrames (old new) (s : State) : (shiftFrames old new s).pending = s.pending := by rfl

@[simp] theorem pending_offsetLoad (full) (s : State) : (offsetLoad full s).pending = s.pending := by
  unfold offsetLoad
  simp

@[simp] theorem pending_frameLoRead (s : State) : (frameLoRead s).pending = s.pending := by rfl

@[simp] theorem pending_refChange (old s) : (refChange old s).pending = s.pending := by
  unfold refChange
  split <;> rfl

@[simp] theorem pending_holdFreq (s : State) : (holdFreq s).pending = s.pending := by
  unfold holdFreq
  simp

@[simp] theorem pending_slewTo (r) (s : State) : (slewTo r s).pending = s.pending := by rfl

@[simp] theorem pending_enterHoldover (raise) (s : State) : (enterHoldover raise s).pending = s.pending := by
  unfold enterHoldover
  simp

@[simp] theorem pending_tellLarge (r) (s : State) : (tellLarge r s).pending = s.pending := by rfl

@[simp] theorem pending_lose (r) (s : State) : (lose r s).pending = s.pending := by
  unfold lose
  split
  · rfl
  · rw [pending_refChange]
    split
    · split <;> rfl
    · split
      · split <;> simp
      · rfl

@[simp] theorem pending_nsRead (s : State) : (nsRead s).pending = s.pending := by
  unfold nsRead
  dsimp only
  split
  · simp
  · split <;> simp

@[simp] theorem pending_ptpCheckLost (s : State) : (ptpCheckLost s).pending = s.pending := by
  unfold ptpCheckLost
  simp

@[simp] theorem pending_armTimer (n periodic dest) (s : State) : (armTimer n periodic dest s).pending = s.pending := by
  unfold armTimer
  simp

@[simp] theorem pending_opTimeRead (c) (s : State) : (opTimeRead.commit c s).1.pending = s.pending := by rfl

@[simp] theorem pending_opTimeSet (c) (s : State) : (opTimeSet.commit c s).1.pending = s.pending := by rfl

@[simp] theorem pending_opUtcTable (c) (s : State) : (opUtcTable.commit c s).1.pending = s.pending := by rfl

@[simp] theorem pending_opPtpPort (c) (s : State) : (opPtpPort.commit c s).1.pending = s.pending := by
  dsimp only [opPtpPort]
  (repeat' split) <;> simp

@[simp] theorem pending_opTimeRawRead (c) (s : State) : (opTimeRawRead.commit c s).1.pending = s.pending := by rfl

@[simp] theorem pending_opTimedPulse (c) (s : State) : (opTimedPulse.commit c s).1.pending = s.pending := by
  dsimp only [opTimedPulse]
  split <;> simp

@[simp] theorem pending_opStampMark (c) (s : State) : (opStampMark.commit c s).1.pending = s.pending := by rfl

/-! ### Machine/Strings.lean -/

@[simp] theorem pending_sendMsl (g port hop dst kind pre args prot body tail) (s : State) : (sendMsl g port hop dst kind pre args prot body tail s).pending = s.pending :=
    by rfl

@[simp] theorem pending_wirePole (g p kind args body tail) (s : State) : (wirePole g p kind args body tail s).pending = s.pending := by
  unfold wirePole
  split <;> simp -implicitDefEqProofs

@[simp] theorem pending_wireInit (g p args body) (s : State) : (wireInit g p args body s).pending = s.pending := by
  unfold wireInit
  split <;> simp

@[simp] theorem pending_wireClear (g p kind args body) (s : State) : (wireClear g p kind args body s).pending = s.pending := by rfl

@[simp] theorem pending_wireItem (g p kind args body) (s : State) : (wireItem g p kind args body s).pending = s.pending := by
  unfold wireItem
  split <;> simp

@[simp] theorem pending_noteStall (g p cls) (s : State) : (noteStall g p cls s).pending = s.pending := by rfl

@[simp] theorem pending_sendItem (g p kind args body) (s : State) : (sendItem g p kind args body s).pending = s.pending := by
  unfold sendItem
  split <;> simp

@[simp] theorem pending_sendPole (g p kind args body) (s : State) : (sendPole g p kind args body s).pending = s.pending := by
  unfold sendPole
  simp

@[simp] theorem pending_releaseHeld (g p cls fuel s) : (releaseHeld g p cls fuel s).pending = s.pending := by
  induction fuel generalizing s with
  | zero => rfl
  | succ f ih =>
    unfold releaseHeld
    split
    · rfl
    · split
      · rfl
      · split
        · simp
        · rw [ih]
          simp

@[simp] theorem pending_fullCredits (g p) (s : State) : (fullCredits g p s).pending = s.pending := by rfl

@[simp] theorem pending_tellPole (g p code) (s : State) : (tellPole g p code s).pending = s.pending := by
  unfold tellPole
  split <;> simp

@[simp] theorem pending_takeAid (s : State) : (takeAid s).2.pending = s.pending := by rfl

@[simp] theorem pending_sendInit (g p i) (s : State) : (sendInit g p i s).pending = s.pending := by
  unfold sendInit
  simp -implicitDefEqProofs

@[simp] theorem pending_startAssoc (g p) (s : State) : (startAssoc g p s).pending = s.pending := by
  unfold startAssoc
  simp

@[simp] theorem pending_sendPairInit (g p tries) (s : State) : (sendPairInit g p tries s).pending = s.pending := by
  unfold sendPairInit
  simp

@[simp] theorem pending_servePole (g p) (s : State) : (servePole g p s).pending = s.pending := by
  unfold servePole
  split <;> simp

@[simp] theorem pending_newGroupKey (g) (s : State) : (newGroupKey g s).pending = s.pending := by rfl

@[simp] theorem pending_sendGroupKey (g p) (s : State) : (sendGroupKey g p s).pending = s.pending := by
  unfold sendGroupKey
  simp

@[simp] theorem pending_replaceGroupKey (g) (s : State) : (replaceGroupKey g s).pending = s.pending := by
  unfold replaceGroupKey
  simp

@[simp] theorem pending_triggerCensus (g) (s : State) : (triggerCensus g s).pending = s.pending := by
  unfold triggerCensus
  simp

@[simp] theorem pending_abortCensus (g) (s : State) : (abortCensus g s).pending = s.pending := by
  unfold abortCensus
  dsimp only
  split
  · rfl
  · simp

@[simp] theorem pending_fwCheck (g p) (s : State) : (fwCheck g p s).pending = s.pending := by
  unfold fwCheck
  split <;> simp

@[simp] theorem pending_clearEntries (g p) (s : State) : (clearEntries g p s).pending = s.pending := by rfl

@[simp] theorem pending_freshChecks (g p) (s : State) : (freshChecks g p s).pending = s.pending := by rfl

@[simp] theorem pending_adopt (g p r) (s : State) : (adopt g p r s).pending = s.pending := by
  unfold adopt
  simp

@[simp] theorem pending_rejoin (g p r) (s : State) : (rejoin g p r s).pending = s.pending := by
  unfold rejoin
  simp

@[simp] theorem pending_unserve (g p f) (s : State) : (unserve g p f s).pending = s.pending := by
  unfold unserve
  split <;> simp

@[simp] theorem pending_dropKeyHolders (g held) (s : State) : (dropKeyHolders g held s).pending = s.pending := by
  unfold dropKeyHolders
  simp

@[simp] theorem pending_foldOver (g) (s : State) : (foldOver g s).pending = s.pending := by
  unfold foldOver
  split <;> simp

@[simp] theorem pending_loseString (g) (s : State) : (loseString g s).pending = s.pending := by
  unfold loseString
  simp

@[simp] theorem pending_regainString (g) (s : State) : (regainString g s).pending = s.pending := by
  unfold regainString
  simp

@[simp] theorem pending_linkEvent (port up rate) (s : State) : (linkEvent port up rate s).pending = s.pending := by
  unfold linkEvent
  simp

@[simp] theorem pending_setRateCfg (g y) (s : State) : (setRateCfg g y s).pending = s.pending := by
  unfold setRateCfg
  simp

theorem pending_cfgLoop (lo hi) (s : State) : OkQueue s (cfgLoop lo hi s) :=
    .bind fun _ => .bind fun _ => .bind fun _ => .bind fun _ => .bind fun _ => .ok (by simp)

theorem pending_cfgUnloop (lo) (s : State) : OkQueue s (cfgUnloop lo s) := by
  unfold cfgUnloop
  split
  · exact .ite (.error s _) (.ok rfl)
  · exact .error s _

@[simp] theorem pending_acceptCensus (g cand) (s : State) : (acceptCensus g cand s).pending = s.pending := by
  unfold acceptCensus
  rw [pending_dropKeyHolders]
  refine (pending_foldl (fun u e => ?_) _ _).trans ?_
  · split
    · split <;> simp
    · simp
  · simp

theorem pending_segStrings (id b) (s : State) : OkQueue s (segStrings id b s) := by
  unfold segStrings
  dsimp only
  split
  · exact pending_cfgLoop _ _ s
  · exact pending_cfgUnloop _ s
  · exact .bind fun _ => .bind fun _ => .ok (by simp)
  · exact .bind fun _ => .bind fun _ => .ok rfl
  · exact .bind fun _ => .ok (by simp)
  · split
    · exact .ok (by simp)
    · exact .error s _
  · exact .bind fun _ => .ok rfl
  · exact .ite (.ok rfl) (.bind fun _ => .ok rfl)
  · exact .error s _

/-! ### Machine/Bridge.lean -/

theorem pending_brokenCheck (v h reg count) (s : State) : SomeQueue s (brokenCheck v h reg count s) := .ite (.some rfl) (.none s)

@[simp] theorem pending_enqueue (op s) : SomeQueue s (enqueue op s) := by
  unfold enqueue
  refine .ite (.ite (.some rfl) (.some rfl)) ?_
  split
  · exact .none s
  · exact .ite (.some (by simp)) (.some rfl)

@[simp] theorem pending_commitRead (c reg count) (s : State) : (commitRead c reg count s).1.pending = s.pending := by
  unfold commitRead
  split
  · exact pending_brokenCheck _ _ _ _ _ _ ‹_›
  · split
    · exact pending_enqueue _ _ _ ‹_›
    · rfl

theorem pending_writeBlocked (c reg count s p) (h : writeBlocked c reg count s = some p) : p.1.pending = s.pending := by
  unfold writeBlocked at h
  split at h
  · cases h
    exact pending_brokenCheck _ _ _ _ _ _ ‹_›
  · split at h
    · cases h
      rfl
    · cases h

@[simp] theorem pending_opBridgeRead (c) (s : State) : (opBridgeRead.commit c s).1.pending = s.pending := by simp [opBridgeRead]

@[simp] theorem pending_opBridgeWrite (c) (s : State) : (opBridgeWrite.commit c s).1.pending = s.pending := by
  dsimp only [opBridgeWrite]
  split
  · exact pending_writeBlocked _ _ _ s _ ‹_›
  · split
    · exact pending_enqueue _ s _ ‹_›
    · rfl

@[simp] theorem pending_attrReads (c) (l : List Nat) (s) : (attrReads c l s).1.pending = s.pending := by
  induction l generalizing s with
  | nil => rfl
  | cons n l ih =>
    unfold attrReads
    split
    · rfl
    · split
      · exact (ih _).trans (pending_enqueue _ _ _ ‹_›)
      · rfl

@[simp] theorem pending_opAttrRead (c) (s : State) : (opAttrRead.commit c s).1.pending = s.pending := by
  dsimp only [opAttrRead]
  split
  · rfl
  · split
    · obtain ⟨x, -, hx⟩ := List.exists_of_findSome?_eq_some ‹_›
      exact pending_brokenCheck _ _ _ _ s _ hx
    · simp

@[simp] theorem pending_opAttrWrite (c) (s : State) : (opAttrWrite.commit c s).1.pending = s.pending := by
  dsimp only [opAttrWrite]
  split
  · rfl
  · split
    · exact pending_writeBlocked _ _ _ s _ ‹_›
    · split
      · next hw =>
        split at hw
        · exact pending_enqueue _ s _ hw
        · split at hw
          · cases hw
          · obtain ⟨u, hu, hs⟩ := Option.bind_eq_some_iff.1 hw
            exact (pending_enqueue _ u _ hs).trans (pending_enqueue _ s _ hu)
      · rfl

@[simp] theorem pending_serveEntries (g fuel s) : (serveEntries g fuel s).pending = s.pending := by
  induction fuel generalizing s with
  | zero => rfl
  | succ f ih =>
    unfold serveEntries
    dsimp only
    split
    · rfl
    · split
      · rfl
      · rw [ih]
        split <;> simp

@[simp] theorem pending_passSem (g h block) (s : State) : (passSem g h block s).pending = s.pending := by
  unfold passSem
  split
  · rfl
  · dsimp only
    split <;> simp -implicitDefEqProofs

@[simp] theorem pending_breakSem (g h block) (s : State) : (breakSem g h block s).pending = s.pending := by
  unfold breakSem
  split <;> simp

@[simp] theorem pending_semRemove (v) (s : State) : (semRemove v s).pending = s.pending := by
  unfold semRemove
  simp

@[simp] theorem pending_acquire (c) (s : State) : (acquire c s).1.pending = s.pending := by
  unfold acquire
  dsimp only
  split <;> simp

@[simp] theorem pending_opSemAcquire (c) (s : State) : (opSemAcquire.commit c s).1.pending = s.pending := by simp [opSemAcquire]

@[simp] theorem pending_opSemRelease (c) (s : State) : (opSemRelease.commit c s).1.pending = s.pending := by
  dsimp only [opSemRelease]
  split
  · exact pending_brokenCheck _ _ _ _ s _ ‹_›
  · split <;> simp

/-! ### Machine/Slates.lean -/

@[simp] theorem pending_setSources (s : State) (h l) : (s.setSources h l).pending = s.pending := by rfl

@[simp] theorem pending_dropStart (st) (s : State) : (dropStart st s).pending = s.pending := by
  unfold dropStart
  split <;> simp

@[simp] theorem pending_endSrcs (h p) (s : State) : (endSrcs h p s).pending = s.pending := by
  unfold endSrcs
  simp

@[simp] theorem pending_setSrc (h x) (s : State) : (setSrc h x s).pending = s.pending := by
  unfold setSrc
  simp

@[simp] theorem pending_endLease (h code) (s : State) : (endLease h code s).pending = s.pending := by
  unfold endLease
  split
  · rfl
  · dsimp only
    split <;> simp

@[simp] theorem pending_acquireLease (v h frames) (s : State) : (acquireLease v h frames s).1.pending = s.pending := by
  unfold acquireLease
  (repeat' split) <;> simp

@[simp] theorem pending_onTargets (c s rank tlvs) {f : Nat → State → State} (hf : ∀ h u, (f h u).pending = u.pending) :
    (onTargets c s rank tlvs f).1.pending = s.pending := pending_foldl (fun u h => hf h u) _ s

@[simp] theorem pending_levelCommit (c) (s : State) : (levelCommit c s).1.pending = s.pending := by
  unfold levelCommit
  refine foldl_keeps _ State.pending _ (fun u x _ => ?_) _
  dsimp only
  (repeat' split) <;> simp

@[simp] theorem pending_opLightLevel (c) (s : State) : (opLightLevel.commit c s).1.pending = s.pending := by simp [opLightLevel]

@[simp] theorem pending_opLightLevelX (c) (s : State) : (opLightLevelX.commit c s).1.pending = s.pending := by simp [opLightLevelX]

@[simp] theorem pending_opLightFade (c) (s : State) : (opLightFade.commit c s).1.pending = s.pending := by simp [opLightFade]

@[simp] theorem pending_opLightLease (c) (s : State) : (opLightLease.commit c s).1.pending = s.pending := by simp [opLightLease]

@[simp] theorem pending_opLightRead (c) (s : State) : (opLightRead.commit c s).1.pending = s.pending := by rfl

@[simp] theorem pending_emergencyCommit (c) (s : State) : (emergencyCommit c s).1.pending = s.pending := by
  unfold emergencyCommit
  split <;> simp

@[simp] theorem pending_opLightEmergency (c) (s : State) : (opLightEmergency.commit c s).1.pending = s.pending := by simp [opLightEmergency]

@[simp] theorem pending_opStepTable (c) (s : State) : (opStepTable.commit c s).1.pending = s.pending := by
  dsimp only [opStepTable]
  split <;> simp

@[simp] theorem pending_modDerate (s : State) (h f) : (s.modDerate h f).pending = s.pending := by rfl

@[simp] theorem pending_opFactorSet (c) (s : State) : (opFactorSet.commit c s).1.pending = s.pending := by
  dsimp only [opFactorSet]
  split <;> simp

@[simp] theorem pending_opSlateWindow (c) (s : State) : (opSlateWindow.commit c s).1.pending = s.pending := by rfl

@[simp] theorem pending_setSched (v no h p) (s : State) : (setSched v no h p s).pending = s.pending := by
  unfold setSched
  simp

@[simp] theorem pending_endSched (v no) (s : State) : (endSched v no s).pending = s.pending := by
  unfold endSched
  simp

@[simp] theorem pending_takeLatest (v no k) (s : State) : (takeLatest v no k s).pending = s.pending := by
  unfold takeLatest
  dsimp only
  split <;> simp

@[simp] theorem pending_schedOp (op xs c) (s : State) : ((schedOp op xs).commit c s).1.pending = s.pending := by
  dsimp only [schedOp]
  split <;> simp

@[simp] theorem pending_opScheduleRead (c) (s : State) : (opScheduleRead.commit c s).1.pending = s.pending := by
  dsimp only [opScheduleRead]
  split <;> simp

@[simp] theorem pending_opSolarRead (c) (s : State) : (opSolarRead.commit c s).1.pending = s.pending := by
  dsimp only [opSolarRead]
  split <;> simp

theorem pending_segLight (id b) (s : State) : OkQueue s (segLight id b s) := by
  unfold segLight
  dsimp only
  split
  · exact .bind fun _ => .ok rfl
  · exact .bind fun _ => .ok rfl
  · refine .bind fun _ => ?_
    split
    · exact .error s _
    · exact .ok rfl
  · exact .bind fun _ => .ok rfl
  · exact .bind fun _ => .ok rfl
  · refine .bind fun _ => ?_
    split
    · exact .error s _
    · exact .ok rfl
  · exact .error s _

theorem pending_segDst (bs) (s : State) : OkQueue s (segDst bs s) := .bind fun _ => .ok rfl

/-! ### Machine/Quarry.lean -/

@[simp] theorem pending_programSlots (hs) (s : State) : (programSlots hs s).pending = s.pending := by
  unfold programSlots
  simp -implicitDefEqProofs

@[simp] theorem pending_dropMembers (k eps uplinks) (s : State) : (dropMembers k eps uplinks s).pending = s.pending := by
  unfold dropMembers
  split <;> simp

@[simp] theorem pending_detachEps (v hs) (s : State) : (detachEps v hs s).pending = s.pending := by
  unfold detachEps
  simp

@[simp] theorem pending_detachAll (v) (s : State) : (detachAll v s).pending = s.pending := by
  unfold detachAll
  simp

@[simp] theorem pending_detachHandle (h) (s : State) : (detachHandle h s).pending = s.pending := by
  unfold detachHandle
  simp

@[simp] theorem pending_opVlanAttach (c) (s : State) : (opVlanAttach.commit c s).1.pending = s.pending := by
  dsimp only [opVlanAttach]
  split <;> simp

@[simp] theorem pending_opVlanDetach (c) (s : State) : (opVlanDetach.commit c s).1.pending = s.pending := by simp [opVlanDetach]

@[simp] theorem pending_opQueueSet (c) (s : State) : (opQueueSet.commit c s).1.pending = s.pending := by rfl

@[simp] theorem pending_opShaperSet (c) (s : State) : (opShaperSet.commit c s).1.pending = s.pending := by rfl

theorem pending_segTraffic (id b) (s : State) : OkQueue s (segTraffic id b s) := by
  unfold segTraffic
  split
  · exact .bind fun _ => .bind fun _ => .bind fun _ => .bind fun _ => .bind fun _ => .ok (by simp)
  · exact .bind fun _ => .bind fun _ => .bind fun _ => .ok rfl
  · exact .bind fun _ => .bind fun _ => .ok rfl

/-! ### Machine/Dma.lean -/

@[simp] theorem pending_modDch (s : State) (n f) : (s.modDch n f).pending = s.pending := by rfl

@[simp] theorem pending_eccUncorrected (a) (s : State) : (eccUncorrected a s).pending = s.pending := by rfl

@[simp] theorem pending_setHead (s : State) (n d) : (s.setHead n d).pending = s.pending := by rfl

@[simp] theorem pending_moveByte (n v i) (s : State) : (moveByte n v i s).pending = s.pending := by
  unfold moveByte
  split <;> simp

@[simp] theorem pending_moveBytes (n k) (s : State) : (moveBytes n k s).pending = s.pending := by
  unfold moveBytes
  split <;> simp

@[simp] theorem pending_burst (n) (s : State) : (burst n s).pending = s.pending := by
  unfold burst
  split <;> simp

@[simp] theorem pending_kickCh (k n s) : (kickCh k n s).pending = s.pending := by
  induction k generalizing s with
  | zero => rfl
  | succ k ih =>
    unfold kickCh
    split
    · rw [ih]
      simp
    · rfl

@[simp] theorem pending_dmaKick (s : State) : (dmaKick s).pending = s.pending := by
  unfold dmaKick
  simp -implicitDefEqProofs

@[simp] theorem pending_setLevel (n v) (s : State) : (setLevel n v s).pending = s.pending := by rfl

@[simp] theorem pending_pushOp (n c k) (s : State) : (pushOp n c k s).pending = s.pending := by
  unfold pushOp
  simp -implicitDefEqProofs

@[simp] theorem pending_opDmaDescriptor (c) (s : State) : (opDmaDescriptor.commit c s).1.pending = s.pending := by
  dsimp only [opDmaDescriptor]
  split <;> simp

@[simp] theorem pending_opDmaFence (c) (s : State) : (opDmaFence.commit c s).1.pending = s.pending := by
  dsimp only [opDmaFence]
  split <;> simp

@[simp] theorem pending_opExportBlock (c) (s : State) : (opExportBlock.commit c s).1.pending = s.pending := by
  dsimp only [opExportBlock]
  split <;> simp

@[simp] theorem pending_opWorkspaceInfo (c) (s : State) : (opWorkspaceInfo.commit c s).1.pending = s.pending := by rfl

/-! ### Machine/Lamps.lean -/

@[simp] theorem pending_modChan (s : State) (h f) : (s.modChan h f).pending = s.pending := by rfl

@[simp] theorem pending_raiseAon (v code mk) (s : State) : (raiseAon v code mk s).pending = s.pending := by
  unfold raiseAon
  simp

@[simp] theorem pending_latch (v g h) (s : State) : (latch v g h s).pending = s.pending := by
  unfold latch
  split <;> simp

@[simp] theorem pending_syncFail (v) (s : State) (h) : (syncFail v s h).pending = s.pending := by
  unfold syncFail
  split <;> simp

@[simp] theorem pending_latchIfDue (v g) (s : State) : (latchIfDue v g s).pending = s.pending := by
  unfold latchIfDue
  (repeat' split) <;> simp

@[simp] theorem pending_unlatch (v g code) (s : State) : (unlatch v g code s).pending = s.pending := by
  unfold unlatch
  split <;> simp

@[simp] theorem pending_unflag (v g code) (s : State) : (unflag v g code s).pending = s.pending := by
  unfold unflag
  simp

@[simp] theorem pending_aonLeft (v g h) (s : State) : (aonLeft v g h s).pending = s.pending := by
  unfold aonLeft
  simp

@[simp] theorem pending_opAonDefine (c) (s : State) : (opAonDefine.commit c s).1.pending = s.pending := by
  dsimp only [opAonDefine]
  split <;> simp

@[simp] theorem pending_opAonClear (c) (s : State) : (opAonClear.commit c s).1.pending = s.pending := by simp [opAonClear]

@[simp] theorem pending_opGroupDefine (c) (s : State) : (opGroupDefine.commit c s).1.pending = s.pending := by
  dsimp only [opGroupDefine]
  split <;> simp

@[simp] theorem pending_modGroup (s : State) (v g f) : (s.modGroup v g f).pending = s.pending := by rfl

@[simp] theorem pending_leaveGroup (v h) (s : State) (g) : (leaveGroup v h s g).pending = s.pending := by
  unfold leaveGroup
  simp

@[simp] theorem pending_joinGroup (v g h primary) (s : State) : (joinGroup v g h primary s).1.pending = s.pending := by
  unfold joinGroup
  simp

@[simp] theorem pending_opGroupMembers (c) (s : State) : (opGroupMembers.commit c s).1.pending = s.pending := by simp [opGroupMembers]

@[simp] theorem pending_opTelemetryRead (c) (s : State) : (opTelemetryRead.commit c s).1.pending = s.pending := by rfl

@[simp] theorem pending_opTelemetryStream (c) (s : State) : (opTelemetryStream.commit c s).1.pending = s.pending := by
  dsimp only [opTelemetryStream]
  split <;> simp

theorem pending_segLamp (id b occ) (s : State) : OkQueue s (segLamp id b occ s) := by
  unfold segLamp
  dsimp only
  split
  · split
    · exact .error s _
    · exact .ok rfl
  · refine .bind fun _ => ?_
    split
    · exact .error s _
    · exact .ok rfl

/-! ### Machine/View.lean -/

@[simp] theorem pending_changeView (v gone new) (s : State) : (changeView v gone new s).pending = s.pending := by
  unfold changeView
  split <;> simp

@[simp] theorem pending_loseRights (v h old new) (s : State) : (loseRights v h old new s).pending = s.pending := by
  unfold loseRights
  simp

@[simp] theorem pending_setEpRights (v hs mk) (s : State) : (setEpRights v hs mk s).pending = s.pending := by
  unfold setEpRights
  simp

@[simp] theorem pending_forgetHandle (h) (s : State) : (forgetHandle h s).pending = s.pending := by
  unfold forgetHandle
  simp

/-! ### Machine/Air.lean -/

@[simp] theorem pending_modAport (s : State) (p f) : (s.modAport p f).pending = s.pending := by rfl

@[simp] theorem pending_airQueue (e) (s : State) : (airQueue e s).pending = s.pending := by rfl

@[simp] theorem pending_opAirEnrol (c) (s : State) : (opAirEnrol.commit c s).1.pending = s.pending := by
  dsimp only [opAirEnrol]
  split <;> simp

@[simp] theorem pending_airRemove (n) (s : State) : (airRemove n s).pending = s.pending := by
  unfold airRemove
  simp

@[simp] theorem pending_opAirRemove (c) (s : State) : (opAirRemove.commit c s).1.pending = s.pending := by
  dsimp only [opAirRemove]
  split <;> simp

@[simp] theorem pending_opAirSend (c) (s : State) : (opAirSend.commit c s).1.pending = s.pending := by
  dsimp only [opAirSend]
  split <;> simp

@[simp] theorem pending_opAirRawTx (c) (s : State) : (opAirRawTx.commit c s).1.pending = s.pending := by
  dsimp only [opAirRawTx]
  split <;> simp

@[simp] theorem pending_enablePort (p) (s : State) : (enablePort p s).pending = s.pending := by rfl

@[simp] theorem pending_applyPort (b) (s : State) : (applyPort b s).pending = s.pending := by
  unfold applyPort
  simp

@[simp] theorem pending_opChannelPlan (c) (s : State) : (opChannelPlan.commit c s).1.pending = s.pending := by
  dsimp only [opChannelPlan]
  split <;> simp

@[simp] theorem pending_opAirRawCapture (c) (s : State) : (opAirRawCapture.commit c s).1.pending = s.pending := by simp [opAirRawCapture]

@[simp] theorem pending_opVemerSet (c) (s : State) : (opVemerSet.commit c s).1.pending = s.pending := by rfl

@[simp] theorem pending_writeTxEn (p v) (s : State) : (writeTxEn p v s).pending = s.pending := by
  unfold writeTxEn
  simp

/-! ### Machine/Attrib.lean -/

theorem pending_segSeed (b) (s : State) : OkQueue s (segSeed b s) := .bind fun _ => .bind fun _ => .bind fun _ => .ok rfl

theorem pending_segPeriod (b) (s : State) : OkQueue s (segPeriod b s) := .bind fun _ => .bind fun _ => .ok rfl

@[simp] theorem pending_opAttribRead (c) (s : State) : (opAttribRead.commit c s).1.pending = s.pending := by
  dsimp only [opAttribRead]
  split <;> simp

@[simp] theorem pending_opAttribModel (c) (s : State) : (opAttribModel.commit c s).1.pending = s.pending := by rfl

@[simp] theorem pending_opProbeDither (c) (s : State) : (opProbeDither.commit c s).1.pending = s.pending := by rfl

/-! ### Machine/Metering.lean -/

@[simp] theorem pending_mir (s : State) (f) : (s.mir f).pending = s.pending := by rfl

@[simp] theorem pending_phaseMismatch (s : State) : (phaseMismatch s).pending = s.pending := by
  unfold phaseMismatch
  split <;> simp

@[simp] theorem pending_geoRequest (c obj ix arg) (s : State) : (geoRequest c obj ix arg s).pending = s.pending := by rfl

@[simp] theorem pending_opMeterRead (c) (s : State) : (opMeterRead.commit c s).1.pending = s.pending := by
  dsimp only [opMeterRead]
  (repeat' split) <;> simp

@[simp] theorem pending_opMeterPeriod (c) (s : State) : (opMeterPeriod.commit c s).1.pending = s.pending := by
  dsimp only [opMeterPeriod]
  split <;> simp

@[simp] theorem pending_opWaveformStream (c) (s : State) : (opWaveformStream.commit c s).1.pending = s.pending := by simp [opWaveformStream]

@[simp] theorem pending_opCorrectionRead (c) (s : State) : (opCorrectionRead.commit c s).1.pending = s.pending := by rfl

@[simp] theorem pending_opSnapshot (c) (s : State) : (opSnapshot.commit c s).1.pending = s.pending := by
  dsimp only [opSnapshot]
  split <;> simp

/-! ### Machine/Flint.lean -/

@[simp] theorem pending_drawBytes (n) (s : State) : (drawBytes n s).2.pending = s.pending := by rfl

@[simp] theorem pending_wsPut (v off b) (s : State) : (wsPut v off b s).pending = s.pending := by
  unfold wsPut
  simp -implicitDefEqProofs

@[simp] theorem pending_markStale (v no) (s : State) : (markStale v no s).pending = s.pending := by
  unfold markStale
  split <;> simp

@[simp] theorem pending_flintRemove (v) (s : State) : (flintRemove v s).pending = s.pending := by rfl

@[simp] theorem pending_loadSlot (v no regNo b) (s : State) : (loadSlot v no regNo b s).pending = s.pending := by rfl

@[simp] theorem pending_loadRef (c) (s : State) : (loadRef c s).1.pending = s.pending := by
  unfold loadRef
  dsimp only
  split <;> simp

@[simp] theorem pending_loadNew (c) (s : State) : (loadNew c s).1.pending = s.pending := by
  unfold loadNew
  dsimp only
  split
  · rfl
  · split
    · rfl
    · split <;> split <;> simp

@[simp] theorem pending_opSlotLoad (c) (s : State) : (opSlotLoad.commit c s).1.pending = s.pending := by
  dsimp only [opSlotLoad]
  split <;> simp

@[simp] theorem pending_opSlotUnload (c) (s : State) : (opSlotUnload.commit c s).1.pending = s.pending := by simp [opSlotUnload]

@[simp] theorem pending_slotBad (v n) (s : State) : (slotBad v n s).pending = s.pending := by rfl

@[simp] theorem pending_slotRun (c v n x) (s : State) : (slotRun c v n x s).1.pending = s.pending := by
  unfold slotRun
  dsimp only
  split
  case h_2 =>
    split
    · rfl
    · split <;> rfl
  all_goals simp

@[simp] theorem pending_slotUse (c) (s : State) : (slotUse c s).1.pending = s.pending := by
  unfold slotUse
  dsimp only
  split <;> simp

@[simp] theorem pending_opSlotUse (c) (s : State) : (opSlotUse.commit c s).1.pending = s.pending := by
  dsimp only [opSlotUse]
  split <;> simp

@[simp] theorem pending_opKeySession (c) (s : State) : (opKeySession.commit c s).1.pending = s.pending := by rfl

@[simp] theorem pending_startMigration (target) (s : State) : (startMigration target s).pending = s.pending := by rfl

/-! ### Machine/Spine.lean -/

@[simp] theorem pending_keepTable (t) (s : State) : (keepTable t s).pending = s.pending := by rfl

@[simp] theorem pending_ringEnd (a b closed) (s : State) : (ringEnd a b closed s).pending = s.pending := by
  unfold ringEnd
  simp

@[simp] theorem pending_sendToken (east) (s : State) : (sendToken east s).pending = s.pending := by
  unfold sendToken
  simp

@[simp] theorem pending_ringPassEnd (reach closed) (s : State) : (ringPassEnd reach closed s).pending = s.pending := by
  unfold ringPassEnd
  split <;> simp

@[simp] theorem pending_startRing (s : State) : (startRing s).pending = s.pending := by
  unfold startRing
  simp -implicitDefEqProofs

@[simp] theorem pending_modSweep (s : State) (f) : (s.modSweep f).pending = s.pending := by rfl

@[simp] theorem pending_armSweep (t) (s : State) : (armSweep t s).pending = s.pending := by
  unfold armSweep
  simp

@[simp] theorem pending_orderSweep (id t cmd) (s : State) : (orderSweep id t cmd s).pending = s.pending := by
  unfold orderSweep
  exact (pending_spAll ..).trans ((State.sp_pending ..).trans (pending_armSweep t s))

@[simp] theorem pending_endCollect (s : State) : (endCollect s).pending = s.pending := by rfl

@[simp] theorem pending_sendCollect (s : State) : (sendCollect s).pending = s.pending := by
  unfold sendCollect
  split <;> simp

@[simp] theorem pending_startCollect (s : State) : (startCollect s).pending = s.pending := by
  unfold startCollect
  simp

@[simp] theorem pending_recollect (r cmd) (s : State) : (recollect r cmd s).pending = s.pending := by
  unfold recollect
  simp

@[simp] theorem pending_opSweepOrder (c) (s : State) : (opSweepOrder.commit c s).1.pending = s.pending := by
  dsimp only [opSweepOrder]
  (repeat' split) <;> simp

@[simp] theorem pending_opSpineConfig (c) (s : State) : (opSpineConfig.commit c s).1.pending = s.pending := by
  dsimp only [opSpineConfig]
  (repeat' split) <;> simp

/-! ### Machine/Boot.lean -/

@[simp] theorem pending_modSlots (s : State) (c f) : (s.modSlots c f).pending = s.pending := by rfl

@[simp] theorem pending_updEvent (code cls) (s : State) : (updEvent code cls s).pending = s.pending := by rfl

@[simp] theorem pending_dropStaging (k) (s : State) : (dropStaging k s).pending = s.pending := by
  unfold dropStaging
  split <;> simp

@[simp] theorem pending_opImageStage (c) (s : State) : (opImageStage.commit c s).1.pending = s.pending := by
  dsimp only [opImageStage]
  split <;> simp

@[simp] theorem pending_startActivation (c b mode l) (s : State) : (startActivation c b mode l s).pending = s.pending := by
  unfold startActivation
  simp

@[simp] theorem pending_opImageActivate (c) (s : State) : (opImageActivate.commit c s).1.pending = s.pending := by
  dsimp only [opImageActivate]
  split <;> simp

@[simp] theorem pending_opDiagRead (c) (s : State) : (opDiagRead.commit c s).1.pending = s.pending := by rfl

@[simp] theorem pending_exportPart (c total) (s : State) (i) : (exportPart c total s i).pending = s.pending := by rfl

@[simp] theorem pending_opJournalExport (c) (s : State) : (opJournalExport.commit c s).1.pending = s.pending := by simp [opJournalExport]

/-! ### Machine/Tenancy.lean -/

@[simp] theorem pending_vctlState (v code) (s : State) : (vctlState v code s).pending = s.pending := by rfl

@[simp] theorem pending_setTimers (v n) (s : State) : (setTimers v n s).pending = s.pending := by rfl

@[simp] theorem pending_setDmaChans (v n) (s : State) : (setDmaChans v n s).pending = s.pending := by
  unfold setDmaChans
  simp -implicitDefEqProofs

@[simp] theorem pending_giveQuotas (v q refillSet) (s : State) : (giveQuotas v q refillSet s).pending = s.pending := by
  unfold giveQuotas
  simp

@[simp] theorem pending_quotaChanged (v) (s : State) : (quotaChanged v s).pending = s.pending := by
  unfold quotaChanged
  split <;> simp

@[simp] theorem pending_opQuotaSet (c) (s : State) : (opQuotaSet.commit c s).1.pending = s.pending := by
  dsimp only [opQuotaSet]
  split <;> simp

@[simp] theorem pending_createVctl (v q) (s : State) : (createVctl v q s).pending = s.pending := by
  unfold createVctl
  simp

@[simp] theorem pending_opVctlCreate (c) (s : State) : (opVctlCreate.commit c s).1.pending = s.pending := by
  dsimp only [opVctlCreate]
  split <;> simp

@[simp] theorem pending_removeSession (v) (s : State) : (removeSession v s).pending = s.pending := by
  unfold removeSession
  simp

@[simp] theorem pending_removeLight (v) (s : State) : (removeLight v s).pending = s.pending := by
  unfold removeLight
  simp

@[simp] theorem pending_removeVctl (v) (s : State) : (removeVctl v s).pending = s.pending := by
  unfold removeVctl
  simp -implicitDefEqProofs

@[simp] theorem pending_opVctlRemove (c) (s : State) : (opVctlRemove.commit c s).1.pending = s.pending := by
  dsimp only [opVctlRemove]
  split <;> simp

@[simp] theorem pending_applyRights (c) (s : State) : (applyRights c s).pending = s.pending := by
  unfold applyRights
  simp

@[simp] theorem pending_opRightsSet (c) (s : State) : (opRightsSet.commit c s).1.pending = s.pending := by
  dsimp only [opRightsSet]
  split <;> simp

@[simp] theorem pending_credTlv (v) (s : State) (t) : (credTlv v s t).pending = s.pending := by
  unfold credTlv
  simp

@[simp] theorem pending_opCredSet (c) (s : State) : (opCredSet.commit c s).1.pending = s.pending := by
  dsimp only [opCredSet]
  split <;> simp

@[simp] theorem pending_opRegwinGrant (c) (s : State) : (opRegwinGrant.commit c s).1.pending = s.pending := by
  dsimp only [opRegwinGrant]
  split <;> simp

/-! ### Machine/Session.lean -/

@[simp] theorem pending_opSessionClose (c) (s : State) : (opSessionClose.commit c s).1.pending = s.pending := by rfl

@[simp] theorem pending_opKeepalive (c) (s : State) : (opKeepalive.commit c s).1.pending = s.pending := by rfl

@[simp] theorem pending_opDeviceInfo (c) (s : State) : (opDeviceInfo.commit c s).1.pending = s.pending := by rfl

@[simp] theorem pending_opEvtSubscribe (c) (s : State) : (opEvtSubscribe.commit c s).1.pending = s.pending := by rfl

@[simp] theorem pending_opEvtAck (c) (s : State) : (opEvtAck.commit c s).1.pending = s.pending := by rfl

/-! ### Machine/RegFile.lean -/

@[simp] theorem pending_readEffect (b) (s : State) : (readEffect b s).pending = s.pending := by
  unfold readEffect
  simp

@[simp] theorem pending_readReg (a) (s : State) : (readReg a s).1.pending = s.pending := by
  unfold readReg
  split <;> simp

@[simp] theorem pending_writeTmrCtl (n v) (s : State) : (writeTmrCtl n v s).pending = s.pending := by
  unfold writeTmrCtl
  simp

@[simp] theorem pending_writeTmrValue (a n v) (s : State) : (writeTmrValue a n v s).pending = s.pending := by
  unfold writeTmrValue
  simp

@[simp] theorem pending_writeLdsCtl (v) (s : State) : (writeLdsCtl v s).pending = s.pending := by
  unfold writeLdsCtl
  simp

@[simp] theorem pending_writeRefCfg (v) (s : State) : (writeRefCfg v s).pending = s.pending := by
  unfold writeRefCfg
  simp

theorem pending_writeHook (b n v) (s : State) : SomeQueue s (writeHook b n v s) := by
  unfold writeHook
  refine .ite (.some rfl) (.ite (.some rfl) (.ite (.some (pending_writeInc v s)) (.ite (.some rfl) (.ite (.some (pending_writeLdsCtl v s)) ?_))))
  refine .ite (.some (pending_writeRefCfg v s)) (.ite (.some rfl) (.ite (.some rfl) (.ite (.some (pending_writeTmrCtl n v s)) ?_)))
  refine .ite (.some (pending_writeTmrValue ..)) (.ite (.some (pending_writeTmrValue ..)) (.ite (.some (pending_writeTmrValue ..)) ?_))
  refine .ite (.some rfl) (.ite (.some ?link) (.ite (.some rfl) (.ite (.some rfl) (.ite (.some rfl) (.ite (.some rfl) ?_)))))
  case link => simp
  refine .ite (.some (pending_setLevel ..)) (.ite (.some rfl) (.ite (.some rfl) (.ite (.some (pending_writeTxEn n v s)) ?_)))
  exact .ite (.some rfl) (.ite (.some rfl) (.none s))

@[simp] theorem pending_writeReg (a v) (s : State) : (writeReg a v s).1.pending = s.pending := by
  unfold writeReg
  split
  · rfl
  · split
    · rfl
    · dsimp only
      split
      · exact pending_writeHook _ _ _ _ _ ‹_›
      · rfl

@[simp] theorem pending_readRegs (l : List Nat) (s) : (readRegs l s).1.pending = s.pending := by
  induction l generalizing s with
  | nil => rfl
  | cons a l ih => exact (ih _).trans (pending_readReg a s)

@[simp] theorem pending_writeRegs (l : List (Nat × Nat)) (s) : (writeRegs l s).1.pending = s.pending := by
  induction l generalizing s with
  | nil => rfl
  | cons e l ih => exact (ih _).trans (pending_writeReg e.1 e.2 s)

@[simp] theorem pending_opRegRead (c) (s : State) : (opRegRead.commit c s).1.pending = s.pending := by simp [opRegRead]

@[simp] theorem pending_opRegWrite (c) (s : State) : (opRegWrite.commit c s).1.pending = s.pending := by simp [opRegWrite]

/-! ### Machine/Wakes.lean -/

theorem pending_commitGraph (st n) (s : State) : OkQueue s (commitGraph st n s) := by
  unfold commitGraph
  dsimp only
  split
  · exact .error s _
  · exact .ok rfl

theorem pending_segWake (id b) (s : State) : OkQueue s (segWake id b s) := by
  unfold segWake
  dsimp only
  split
  · exact .bind fun _ => .ok rfl
  · exact .bind fun _ => pending_commitGraph _ _ s
  · exact .bind fun _ => .ok rfl
  · exact .bind fun _ => .ok rfl
  · exact .bind fun _ => .ok rfl
  · exact .bind fun _ => .ok rfl
  · exact .bind fun _ => .ok rfl
  · exact .bind fun _ => .bind fun _ => .ok rfl
  · exact .bind fun _ => .bind fun _ => .ok rfl
  · exact .bind fun _ => .bind fun _ => .bind fun _ => .ok rfl

/-! ### Machine/SegmentConfig.lean -/

/-- A handle that leaves every group. -/
@[simp] theorem pending_leaveGroups (h) (l : List Nat) (s : State) :
    (l.foldl (fun s v => (s.groupsOf v h).foldl (leaveGroup v h) s) s).pending = s.pending :=
  pending_foldl (fun u v => foldl_keeps _ State.pending _ (fun w g _ => pending_leaveGroup v h w g) u) l s

@[simp] theorem pending_forgetString (g) (s : State) : (forgetString g s).pending = s.pending := by
  unfold forgetString
  simp -implicitDefEqProofs

theorem pending_segOne (id b occ) (s : State) : OkQueue s (segOne id b occ s) := by
  unfold segOne
  refine .ite (.bind fun _ => .ok (pending_forgetString ..)) (.ite (pending_segStrings _ _ s) (.ite (pending_segLight _ _ s) (.ite (pending_segWake _ _ s) ?_)))
  exact .ite (pending_segLamp _ _ _ s) (.ite (pending_segPeriod _ s) (.ite (pending_segSeed _ s) (pending_segTraffic _ _ s)))

theorem pending_segAll (dst) (l : List (Nat × Bytes)) (seen) (s : State) : OkQueue s (segAll dst l seen s) := by
  induction l generalizing seen s with
  | nil => exact .ok rfl
  | cons e l ih =>
    unfold segAll
    exact .ite (.next (.ite (pending_segDst _ s) (.ok rfl)) fun t => ih _ t) (.next (pending_segOne _ _ _ s) fun t => ih _ t)

@[simp] theorem pending_segCommit (c) (s : State) : (segCommit c s).1.pending = s.pending := by
  unfold segCommit
  split
  · rfl
  · have h := pending_segAll _ _ _ _ _ ‹_›
    simp [h]

@[simp] theorem pending_opSegmentConfig (c) (s : State) : (opSegmentConfig.commit c s).1.pending = s.pending := by simp [opSegmentConfig]

/-! ### The rows of the opcodes -/

/-- Whatever the opcode, its commit leaves the queue. -/
theorem opRow_keepsQueue {x : Instr} {i : OpInfo} {src : Src} {tlvs : List Tlv} (h : opRow x = some (i, src, tlvs)) (c : Cmd) (s : State) :
    (i.commit c s).1.pending = s.pending := by
  unfold opRow at h
  split at h <;> cases h
  case h_17 => exact pending_schedOp ..
  case h_18 => exact pending_schedOp ..
  all_goals simp

end Sys2Proof.Machine
end

section
/-!
SUPPORT. An accepted command of any row of an opcode: payment, commit and reply (R110, R111, R141, R142, R170).
-/
namespace Sys2Proof.Machine

/-- The row of an opcode means what its entry of the opcode table says. -/
theorem exec_opRow {x : Instr} {i : OpInfo} {src : Src} {tlvs : List Tlv} (h : opRow x = some (i, src, tlvs)) (s : State) :
    exec x s = execOp i src tlvs s := by
  unfold opRow at h
  split at h <;> cases h <;> rfl

theorem AfterDebit.pending {s t : State} (h : AfterDebit s t) : t.pending = s.pending := by
  unfold AfterDebit at h
  rw [h]

/-- A command that passes with its tokens paid leaves the count of its association, the tokens and the next number, and nothing else. -/
theorem submit_ok_frame {i : OpInfo} {key : AssocKey} {seq cmdid : Nat} {nd : Bool} {fl : Nat} {a : Assoc} {tlvs : List Tlv} {s s1 : State} {c : Cmd}
    (h : submit i key seq cmdid nd fl a tlvs s = (s1, .ok c)) :
    ∃ l v, s1 = { s with ses := { s.ses with assoc := l }, ten := { s.ten with vctls := v }, frm := { s.frm with uid := s.frm.uid + 1 } } := by
  unfold submit at h
  split at h
  · cases h
  · split at h
    · cases h
    · cases h
      obtain ⟨l, v, e⟩ := debit_eq s ‹Cmd› (i.cost ‹Cmd›)
      exact ⟨l, v, by rw [e]⟩

/-- Within a frame a row whose command is accepted keeps the command for the next commit and owes its reply (R111, log 11). -/
theorem runOp_waits {i : OpInfo} {src : Src} {tlvs : List Tlv} {s s1 : State} {a : Assoc} {c : Cmd} (ha : s.assoc? src.key = some a)
    (hopen : a.phase = .opened) (hup : s.pathUp a.path = true) (hearly : i.early = false) (hbeat : s.frm.beat ≠ 0)
    (h : submit i src.key src.seq src.cmdid src.noData 0 a tlvs (s.modAssoc src.key (fun a => { a with lastRx := s.frm.now })) = (s1, .ok c)) :
    runOp i src tlvs s = answer 3 src (.wait c.uid) (await c s1) := by
  simp [runOp, runAs, ha, hopen, hup, hearly, hbeat, h]

/-- Settles O3: at a beat 0 the reply follows the commit, which leaves the queue; within a frame the command and its reply wait. -/
theorem acceptedCommandsCommitAndReply : Obligations.AcceptedCommandsCommitAndReply := by
  constructor
  · intro x i src tlvs s s1 c hrow hacc
    obtain ⟨hdebit, hop, hkey, -, hcmdid, -⟩ := acceptedIn_frame hacc
    obtain ⟨t, hexec, hafter, hreply⟩ := execOp_accepted hacc
    have hqueue : (i.commit c s1).1.pending = s.pending := (opRow_keepsQueue hrow c s1).trans hdebit.pending
    rw [← hqueue] at hafter
    exact ⟨hdebit, hop, hkey, hcmdid, t, (exec_opRow hrow s).trans hexec, hafter, hreply⟩
  · intro x i src tlvs s s1 a c hrow ha hopen hup hearly hbeat hsub
    obtain ⟨l, v, rfl⟩ := submit_ok_frame hsub
    rw [exec_opRow hrow]
    exact done_eq_next (runOp_waits (s := { s with out := [] }) ha hopen hup hearly hbeat hsub) rfl

end Sys2Proof.Machine
end

section
/-!
SUPPORT. The frame tick that finds no command and no update: what the commit of a beat 0 and the frame's work leave alone (R109, R111, R178). The
lemma tick_f says that the function f of the model leaves what the tick is judged by.
-/
namespace Sys2Proof.Machine

/-! ### What the tick is judged by -/

/-- What the commit and the releases of a beat 0 leave alone, and the frame work after them: the frame and its beat, the capacity, the slates, the
input power, the tenants' quotas, the Geode, the service level and the step of the throttle ladder. -/
structure TickView where
  /-- Lodestone runs -/
  on : Bool
  /-- the frame -/
  now : Nat
  /-- the beat -/
  beat : Nat
  /-- the tick is due -/
  due : Bool
  /-- accepted commands -/
  accepted : List Cmd
  /-- the activation under way -/
  act : Option Activation
  /-- capacity of the frame -/
  cap : Nat
  /-- front slate -/
  front : Tbl Nat
  /-- back slate -/
  back : Tbl Nat
  /-- number of the front slate -/
  frontNo : Nat
  /-- the back slate is frozen -/
  frozen : Bool
  /-- input power -/
  inputW : Nat
  /-- vCtls with their quotas and tokens -/
  vctls : Tbl VCtl
  /-- the Geode -/
  geo : Geode
  /-- service level -/
  level : Nat
  /-- capacity as the banks and the core clock stand -/
  capacity : Nat
  /-- the step that is due -/
  next : Option Nat

/-- What the tick is judged by, of a state. -/
def State.tick (s : State) : TickView :=
  { on := s.lds.on, now := s.frm.now, beat := s.frm.beat, due := s.frm.tickDue, accepted := s.frm.accepted, act := s.boot.act, cap := s.frm.cap,
    front := s.slt.front, back := s.slt.back, frontNo := s.slt.frontNo, frozen := s.slt.frozen, inputW := s.pw.inputW, vctls := s.ten.vctls,
    geo := s.geo, level := s.level, capacity := s.capacity, next := s.thm.next }

@[simp] theorem tick_ite {p : Prop} [Decidable p] (x y : State) : (if p then x else y).tick = if p then x.tick else y.tick := apply_ite ..

@[simp] theorem tick_foldl {α : Type} {f : State → α → State} (h : ∀ u x, (f u x).tick = u.tick) (l : List α) (s : State) :
    (l.foldl f s).tick = s.tick := foldl_keeps f State.tick l (fun u x _ => h u x) s

/-- Sending a reply leaves what the tick is judged by. -/
theorem AfterReply.tick {s t : State} (h : AfterReply s t) : t.tick = s.tick := by
  rw [h.frame]
  rfl

@[simp] theorem tick_foldlFst {α β : Type} {f : State × β → α → State × β} (h : ∀ u x, (f u x).1.tick = u.1.tick) (l : List α)
    (p : State × β) : (l.foldl f p).1.tick = p.1.tick := foldl_keeps f (fun p => p.1.tick) l (fun u x _ => h u x) p

theorem tick_sl (s : State) {f : Slates → Slates} (front : (f s.slt).front = s.slt.front := by rfl) (back : (f s.slt).back = s.slt.back := by rfl)
    (no : (f s.slt).frontNo = s.slt.frontNo := by rfl) (frozen : (f s.slt).frozen = s.slt.frozen := by rfl) : (s.sl f).tick = s.tick := by
  simp only [State.tick, State.sl, front, back, no, frozen]
  rfl

theorem tick_th (s : State) {f : Thermal → Thermal} (next : (f s.thm).next = s.thm.next := by rfl) (step : (f s.thm).step = s.thm.step := by rfl) :
    (s.th f).tick = s.tick := by
  have hcap : (s.th f).capacity = s.capacity := by
    unfold State.capacity
    rw [show (s.th f).thm.step = s.thm.step from step]
    rfl
  simp only [State.tick, hcap]
  simp only [State.th, next]
  rfl

/-! ### Machine/Ops.lean -/

@[simp] theorem tick_setFlag (s : State) (a k) : (s.setFlag a k).tick = s.tick := by rfl

@[simp] theorem tick_count (s : State) (a lo w n) : (s.count a lo w n).tick = s.tick := by rfl

@[simp] theorem tick_send (s : State) (k dst args data) : (s.send k dst args data).tick = s.tick := by rfl

@[simp] theorem tick_raise (s : State) (key code tlvs) : (s.raise key code tlvs).tick = s.tick := by rfl

@[simp] theorem tick_owner (s : State) (code tlvs) : (s.owner code tlvs).tick = s.tick := by rfl

@[simp] theorem tick_result (s : State) (key seq cmdid status tlvs) : (s.result key seq cmdid status tlvs).tick = s.tick := by rfl

/-! ### Machine/Level.lean -/

@[simp] theorem tick_modGrain (s : State) (g f) : (s.modGrain g f).tick = s.tick := by rfl

/-! ### Machine/Ring.lean -/

@[simp] theorem tick_sendVia (p key o) (s : State) : (sendVia p key o s).tick = s.tick := (afterReply_sendVia ..).tick

@[simp] theorem tick_emitOn (s : State) (k o) : (s.emitOn k o).tick = s.tick := (afterReply_emitOn ..).tick

/-! ### Machine/Exam.lean -/

@[simp] theorem tick_modAssoc (s : State) (k f) : (s.modAssoc k f).tick = s.tick := by rfl

@[simp] theorem tick_closeSession (n) (s : State) : (closeSession n s).tick = s.tick := (afterReply_closeSession ..).tick

@[simp] theorem tick_settle (s : State) : (settle s).tick = s.tick := (afterReply_settle ..).tick

@[simp] theorem tick_noteClose (k rs) (s : State) : (noteClose k rs s).tick = s.tick := (afterReply_noteClose ..).tick

@[simp] theorem tick_sendReply (key ver seq parts) (s : State) : (sendReply key ver seq parts s).tick = s.tick := by
  unfold sendReply
  simp -implicitDefEqProofs

/-! ### Machine/BridgeTags.lean -/

@[simp] theorem tick_modGbr (s : State) (g f) : (s.modGbr g f).tick = s.tick := by rfl

/-! ### Machine/Restart.lean -/

@[simp] theorem tick_setFeed (s : State) (f g) : (s.setFeed f g).tick = s.tick := by
  cases f <;> rfl

/-! ### Machine/Time.lean -/

@[simp] theorem tick_noteEg (port) (s : State) : (noteEg port s).tick = s.tick := by rfl

/-! ### Machine/Bridge.lean -/

@[simp] theorem tick_serveEntries (g fuel) (s : State) : (serveEntries g fuel s).tick = s.tick := by
  induction fuel generalizing s with
  | zero => rfl
  | succ f ih =>
    unfold serveEntries
    dsimp only
    split
    · rfl
    · split
      · rfl
      · rw [ih]
        split
        · split
          · rfl
          · split <;> rfl
        · split <;> rfl

@[simp] theorem tick_passSem (g h block) (s : State) : (passSem g h block s).tick = s.tick := by
  have hresult : ∀ (l : List Waiter) (u : State), (l.foldl (fun s w => s.result w.key w.seq w.cmdid stQuotaExceeded) u).tick = u.tick := by
    intro l u
    simp -implicitDefEqProofs
  unfold passSem
  split
  · rfl
  · dsimp only
    split
    · exact hresult ..
    · exact (tick_serveEntries ..).trans (hresult ..)

@[simp] theorem tick_breakSem (g h block) (s : State) : (breakSem g h block s).tick = s.tick := by
  unfold breakSem
  split <;> simp -implicitDefEqProofs

@[simp] theorem tick_semLeases (g) (s : State) : (semLeases g s).tick = s.tick := by
  unfold semLeases
  simp -implicitDefEqProofs

@[simp] theorem tick_semWaits (g) (s : State) : (semWaits g s).tick = s.tick := by
  unfold semWaits
  simp -implicitDefEqProofs

/-! ### Machine/Slates.lean -/

@[simp] theorem tick_setSources (s : State) (h l) : (s.setSources h l).tick = s.tick := by rfl

@[simp] theorem tick_dropStart (st) (s : State) : (dropStart st s).tick = s.tick := by
  unfold dropStart
  split <;> rfl

@[simp] theorem tick_endSrcs (h p) (s : State) : (endSrcs h p s).tick = s.tick := by
  unfold endSrcs
  simp -implicitDefEqProofs

@[simp] theorem tick_setSrc (h x) (s : State) : (setSrc h x s).tick = s.tick := by
  unfold setSrc
  simp -implicitDefEqProofs

@[simp] theorem tick_endLease (h code) (s : State) : (endLease h code s).tick = s.tick := by
  unfold endLease
  split
  · rfl
  · dsimp only
    split
    · exact (tick_endSrcs ..).trans rfl
    · exact (tick_endSrcs ..).trans rfl

@[simp] theorem tick_expireLeases (s : State) : (expireLeases s).tick = s.tick := by
  unfold expireLeases
  simp -implicitDefEqProofs

/-! ### Machine/Quarry.lean -/

@[simp] theorem tick_qr (s : State) (f) : (s.qr f).tick = s.tick := by rfl

@[simp] theorem tick_modDom (s : State) (k f) : (s.modDom k f).tick = s.tick := by rfl

@[simp] theorem tick_dropEvents (s : State) : (dropEvents s).tick = s.tick := by
  unfold dropEvents
  simp -implicitDefEqProofs

/-! ### Machine/Lamps.lean -/

@[simp] theorem tick_lm (s : State) (f) : (s.lm f).tick = s.tick := by rfl

@[simp] theorem tick_syncFail (v) (s : State) (h) : (syncFail v s h).tick = s.tick := by
  unfold syncFail
  split <;> simp -implicitDefEqProofs

@[simp] theorem tick_installFails (s : State) : (installFails s).tick = s.tick := by
  unfold installFails
  simp -implicitDefEqProofs

@[simp] theorem tick_streamEvents (s : State) : (streamEvents s).tick = s.tick := by
  unfold streamEvents
  simp -implicitDefEqProofs

/-! ### Machine/Attrib.lean -/

@[simp] theorem tick_at' (s : State) (f) : (s.at' f).tick = s.tick := by rfl

@[simp] theorem tick_missingRecord (f) (s : State) : (missingRecord f s).tick = s.tick := by
  unfold missingRecord
  simp -implicitDefEqProofs

@[simp] theorem tick_attribFit (m room) (s : State) : (attribFit m room s).tick = s.tick := by
  unfold attribFit
  split
  · rfl
  · dsimp only
    split <;> rfl

/-! ### Machine/Flint.lean -/

@[simp] theorem tick_fl (s : State) (f) : (s.fl f).tick = s.tick := by rfl

@[simp] theorem tick_keepGen (m) (s : State) : (keepGen m s).tick = s.tick := by rfl

@[simp] theorem tick_finishMigration (s : State) : (finishMigration s).tick = s.tick := by
  unfold finishMigration
  split <;> simp -implicitDefEqProofs

/-! ### Machine/Boot.lean -/

@[simp] theorem tick_payOwed (s : State) : (payOwed s).tick = s.tick := by
  unfold payOwed
  split
  · rfl
  · split <;> rfl

@[simp] theorem tick_keysDone (s : State) : (keysDone s).tick = s.tick := by
  unfold keysDone
  split <;> simp -implicitDefEqProofs

/-! ### Machine/Power.lean -/

@[simp] theorem tick_setUx1 (s : State) (f) : (s.setUx1 f).tick = s.tick := by rfl

@[simp] theorem tick_ux1Supply (s : State) : (ux1Supply s).tick = s.tick := by
  unfold ux1Supply
  simp -implicitDefEqProofs

@[simp] theorem tick_moveFeed (f mv) (s : State) : (moveFeed f mv s).tick = s.tick := by
  unfold moveFeed
  simp -implicitDefEqProofs

@[simp] theorem tick_senseFeed (f mv) (s : State) : (senseFeed f mv s).tick = s.tick := by
  unfold senseFeed
  simp -implicitDefEqProofs

@[simp] theorem tick_ux1SwapEnd (s : State) : (ux1SwapEnd s).tick = s.tick := by
  unfold ux1SwapEnd
  simp -implicitDefEqProofs

/-! ### Machine/Session.lean -/

@[simp] theorem tick_openAssoc (n p sel) (s : State) : (openAssoc n p sel s).tick = s.tick := by
  unfold openAssoc
  rw [tick_sendVia]
  exact tick_closeSession n s

@[simp] theorem tick_concludeHs (s : State) (e) : (concludeHs s e).tick = s.tick := by
  unfold concludeHs
  split
  · rfl
  · dsimp only
    split
    · exact (tick_openAssoc ..).trans rfl
    · exact (tick_sendVia ..).trans rfl

@[simp] theorem tick_concludeAll (s : State) : (concludeAll s).tick = s.tick := by
  unfold concludeAll
  simp -implicitDefEqProofs

/-! ### Machine/Thermal.lean -/

@[simp] theorem tick_idlePorts (s : State) : (idlePorts s).tick = s.tick := by
  unfold idlePorts
  split
  · rfl
  · refine (tick_th _).trans (tick_foldl (fun u p => ?_) _ s)
    split <;> rfl

@[simp] theorem tick_powerUp (s : State) (p) : (powerUp s p).tick = s.tick := by
  unfold powerUp
  simp -implicitDefEqProofs

/-! ### Machine/Wakes.lean -/

@[simp] theorem tick_wk (s : State) (f) : (s.wk f).tick = s.tick := by rfl

@[simp] theorem tick_raiseEvs (code t) (s : State) : (raiseEvs code t s).1.tick = s.tick := by
  unfold raiseEvs
  exact tick_foldlFst (fun u e => by split <;> rfl) t (s, t)

@[simp] theorem tick_fullEvent (s : State) : (fullEvent s).tick = s.tick := by
  unfold fullEvent
  split <;> simp -implicitDefEqProofs

@[simp] theorem tick_wakeEvents (s : State) : (wakeEvents s).tick = s.tick := by
  unfold wakeEvents
  simp -implicitDefEqProofs

@[simp] theorem tick_dropRec (st) (s : State) : (dropRec st s).tick = s.tick := by rfl

@[simp] theorem tick_applyRec (s : State) (e) : (applyRec s e).tick = s.tick := by
  obtain ⟨h, r⟩ := e
  unfold applyRec
  dsimp only
  split
  · rfl
  · split
    · rfl
    · rfl

@[simp] theorem tick_takeRecs (s : State) : (takeRecs s).tick = s.tick := by
  unfold takeRecs
  simp -implicitDefEqProofs

@[simp] theorem tick_bookWalk (own cls v st lim w) (s : State) : (bookWalk own cls v st lim w s).tick = s.tick := by
  unfold bookWalk
  simp -implicitDefEqProofs

@[simp] theorem tick_projectTrack (n t) (s : State) : (projectTrack n t s).tick = s.tick := by
  unfold projectTrack
  split <;> simp -implicitDefEqProofs

@[simp] theorem tick_continueSpill (s : State) (p) : (continueSpill s p).tick = s.tick := by
  unfold continueSpill
  simp -implicitDefEqProofs

@[simp] theorem tick_useRec (s : State) (r) : (useRec s r).tick = s.tick := by
  unfold useRec
  split
  · rfl
  · dsimp only
    split
    · split
      · exact tick_continueSpill ..
      · rfl
    · split
      · rfl
      · split <;> rfl

@[simp] theorem tick_dropTracks (s : State) : (dropTracks s).tick = s.tick := by rfl

@[simp] theorem tick_wakePhase1 (s : State) : (wakePhase1 s).tick = s.tick := by
  unfold wakePhase1
  simp -implicitDefEqProofs

/-! ### Machine/Packet.lean -/

@[simp] theorem tick_releasePkt (s : State) (p) : (releasePkt s p).tick = s.tick := by
  unfold releasePkt
  split <;> simp -implicitDefEqProofs

@[simp] theorem tick_resendKept (s : State) (d) : (resendKept s d).tick = s.tick := by
  unfold resendKept
  (repeat' split) <;> simp -implicitDefEqProofs

@[simp] theorem tick_releaseReplies (s : State) : (releaseReplies s).tick = s.tick := by
  unfold releaseReplies
  dsimp only
  rw [tick_settle, foldl_keeps _ State.tick _ fun u d _ => tick_resendKept u d, foldl_keeps _ State.tick _ fun u p _ => tick_releasePkt u p]
  rfl

@[simp] theorem tick_sendEvents (choose key) (s : State) : (sendEvents choose key s).tick = s.tick := by
  unfold sendEvents
  split
  · dsimp only
    split
    · rfl
    · exact (foldl_keeps _ State.tick _ (fun u p _ => tick_emitOn ..) _).trans rfl
  · rfl

@[simp] theorem tick_releaseEvents (s : State) : (releaseEvents s).tick = s.tick := by
  unfold releaseEvents
  simp -implicitDefEqProofs

/-! ### Machine/Urgent.lean -/

@[simp] theorem tick_holdPreset (s : State) : (holdPreset s).tick = s.tick := by rfl

/-! ### Machine/Ptp.lean -/

@[simp] theorem tick_modPtp (s : State) (port f) : (s.modPtp port f).tick = s.tick := by rfl

@[simp] theorem tick_sendPtp (port ty seq args) (s : State) : (sendPtp port ty seq args s).tick = s.tick := by
  unfold sendPtp
  simp -implicitDefEqProofs

@[simp] theorem tick_times (n) {f : State → State} (h : ∀ u, (f u).tick = u.tick) (s : State) : (times n f s).tick = s.tick := by
  induction n generalizing s with
  | zero => rfl
  | succ n ih => exact (ih _).trans (h s)

@[simp] theorem tick_sendNext (port ty args) (s : State) : (sendNext port ty args s).tick = s.tick := by
  unfold sendNext
  split
  · exact (tick_modPtp ..).trans (tick_sendPtp ..)
  · rfl

@[simp] theorem tick_sendAnnounce (port) (s : State) : (sendAnnounce port s).tick = s.tick := by
  unfold sendAnnounce
  simp -implicitDefEqProofs

@[simp] theorem tick_sendSync (port) (s : State) : (sendSync port s).tick = s.tick := by
  unfold sendSync
  split <;> simp -implicitDefEqProofs

@[simp] theorem tick_sendDelayReq (port ty) (s : State) : (sendDelayReq port ty s).tick = s.tick := by
  unfold sendDelayReq
  split
  · rfl
  · exact (tick_modPtp ..).trans (tick_sendNext ..)

@[simp] theorem tick_ptpPortTick (port p) (s : State) : (ptpPortTick port p s).tick = s.tick := by
  have hsent : ∀ u : State, (if p.st = .master then times (logDue p.logSync s.frm.now) (sendSync port)
      (times (logDue p.logAnn s.frm.now) (sendAnnounce port) u) else u).tick = u.tick := by
    intro u
    split
    · rw [tick_times _ (tick_sendSync port), tick_times _ (tick_sendAnnounce port)]
    · rfl
  unfold ptpPortTick
  dsimp only
  split
  · exact (tick_times _ (tick_sendDelayReq port 2) _).trans (hsent s)
  · split
    · exact (tick_times _ (tick_sendDelayReq port 1) _).trans (hsent s)
    · exact hsent s

@[simp] theorem tick_ptpTick (s : State) : (ptpTick s).tick = s.tick := by
  unfold ptpTick
  simp -implicitDefEqProofs

/-! ### Machine/Frame.lean -/

@[simp] theorem tick_bridgeNews (s : State) : (bridgeNews s).tick = s.tick := by
  unfold bridgeNews
  refine tick_foldl (fun u e => ?_) _ s
  rw [tick_modGbr, tick_foldl]
  · split <;> rfl
  · intro w d
    split <;> rfl

@[simp] theorem tick_lodestoneFrame (s : State) : (lodestoneFrame s).tick = s.tick := by
  unfold lodestoneFrame
  split
  · rfl
  · dsimp only
    split <;> rfl

@[simp] theorem tick_countFrame (s : State) : (countFrame s).tick = s.tick := by
  unfold countFrame
  rw [tick_ux1SwapEnd]
  split <;> rfl

@[simp] theorem tick_dispatchOverrun (s : State) : (dispatchOverrun s).tick = s.tick := by
  unfold dispatchOverrun
  split <;> rfl

@[simp] theorem tick_commitPin (s : State) : (commitPin s).tick = s.tick := by
  unfold commitPin
  split
  · refine (tick_sl _).trans (tick_foldl (fun u h => ?_) _ s)
    split
    · exact tick_setSrc ..
    · rfl
  · exact (tick_sl _).trans (tick_foldl (fun u h => tick_endSrcs ..) _ s)
  · rfl

@[simp] theorem tick_senseEmerg (s : State) : (senseEmerg s).tick = s.tick := by
  unfold senseEmerg
  split <;> simp -implicitDefEqProofs

@[simp] theorem tick_boundaryFlags (before s t : State) : (boundaryFlags before s t).tick = t.tick := by
  unfold boundaryFlags
  simp -implicitDefEqProofs

@[simp] theorem tick_frameWork (room) (s : State) : (frameWork room s).tick = s.tick := by
  unfold frameWork
  simp -implicitDefEqProofs

end Sys2Proof.Machine
end

section
/-!
SUPPORT. The frame tick: the start of the frame, and the tick as a whole, with Lodestone and without it (R109, R111, R115, R116, R252).
-/
namespace Sys2Proof.Machine

/-! ### The start of the frame (R109, R115, R252) -/

theorem toBoundary_due {s : State} (n : Nat) (h : s.frm.tickDue = true) : toBoundary n s = s := by
  cases n with
  | zero => rfl
  | succ n => exact if_pos h

/-- Without Lodestone the beats that are left of the frame are counted, whatever the beat, and the tick is due (R116). -/
theorem toBoundary_off_of_le {s : State} {n k : Nat} (hoff : s.lds.on = false) (hdue : s.frm.tickDue = false) (hk : (s.frm.beat + k) % 80 = 0)
    (hpos : 0 < k) (hle : k ≤ n) : toBoundary n s = { s with frm := { s.frm with beat := 0, tickDue := true } } := by
  induction n generalizing s k with
  | zero => omega
  | succ n ih =>
    rw [toBoundary, if_neg (by simp [hdue]), beatBoundary_off hoff, hdue, Bool.false_or]
    by_cases hb : (s.frm.beat + 1) % 80 = 0
    · rw [hb]
      exact toBoundary_due n rfl
    · have hk1 : k ≠ 1 := by
        rintro rfl
        exact hb hk
      exact ih (s := { s with frm := { s.frm with beat := (s.frm.beat + 1) % 80, tickDue := (s.frm.beat + 1) % 80 == 0 } }) (k := k - 1) hoff
        (beq_false_of_ne hb) (by dsimp only; omega) (by omega) (by omega)

theorem toBoundary_off {s : State} (hoff : s.lds.on = false) (hdue : s.frm.tickDue = false) :
    toBoundary 80 s = { s with frm := { s.frm with beat := 0, tickDue := true } } :=
  toBoundary_off_of_le (k := 80 - s.frm.beat % 80) hoff hdue (by omega) (by omega) (by omega)

theorem tick_nextFrame (s : State) : (nextFrame s).tick = { s.tick with now := s.tick.now + 1, due := false } := rfl

/-- The input power that the carrier measures (R79). -/
theorem tick_measure (i : TickIn) (s : State) : (measure i s).tick = { s.tick with inputW := i.watts % 2 ^ 16 } := by
  unfold measure
  rw [tick_senseFeed, tick_senseFeed]
  rfl

/-- Where no step is due the tick leaves the ladder (R558). -/
theorem tick_thermTick {s : State} (h : s.thm.next = none) : (thermTick s).tick = s.tick := by
  unfold thermTick
  rw [h]
  exact tick_idlePorts s

/-- In LIGHT the slates swap (R252). -/
theorem tick_swapSlates {s : State} (h : s.inLight = true) :
    (swapSlates s).tick = { s.tick with front := s.tick.back, frontNo := 1 - s.tick.frontNo, frozen := false } := by
  unfold swapSlates
  rw [if_neg (by simp [h])]
  rfl

/-- A new frame opens with its capacity, and every vCtl with its tokens and its allowance (R113, R115). -/
theorem tick_openFrame (s : State) : (openFrame s).tick =
    { s.tick with cap := s.tick.capacity, vctls := tmap s.tick.vctls (fun _ c => refill s.tick.now s.tick.capacity (settleRates c)) } := rfl

/-- The tick that finds itself due in LIGHT, with no step of the ladder due: what the new frame starts with. -/
def TickView.turned (i : TickIn) (v : TickView) : TickView :=
  { v with now := v.now + 1, due := false, inputW := i.watts % 2 ^ 16, front := v.back, frontNo := 1 - v.frontNo, frozen := false, cap := v.capacity,
           vctls := tmap v.vctls (fun _ c => refill (v.now + 1) v.capacity (settleRates c)) }

/-- The order of the tick: the frame's number, what is measured, the swap, and the frame's capacity and tokens (R109, R115). -/
theorem tick_turnFrames (i : TickIn) {s : State} (hdue : s.frm.tickDue = true) (hl : s.inLight = true) (hstep : s.thm.next = none) :
    (turnFrames i s).tick = s.tick.turned i := by
  unfold turnFrames
  extract_lets s1 s2
  have h1 : s1.tick = s.tick := by simp [s1]
  have hdue1 : s1.frm.tickDue = true := (congrArg TickView.due h1).trans hdue
  have h2 : s2.tick = { s.tick with now := s.frm.now + 1, due := false, inputW := i.watts % 2 ^ 16 } := by
    rw [tick_measure, tick_countFrame, tick_lodestoneFrame, toBoundary_due 80 hdue1, tick_nextFrame, h1]
    rfl
  have hstep2 : s2.thm.next = none := (congrArg TickView.next h2).trans hstep
  have h3 := (tick_thermTick hstep2).trans h2
  have hl3 : (thermTick s2).inLight = true := by
    unfold State.inLight at hl ⊢
    rw [show (thermTick s2).level = s.level from congrArg TickView.level h3]
    exact hl
  have h4 : (dispatchOverrun (senseEmerg (swapSlates (thermTick s2)))).tick = { s.tick with
      now := s.frm.now + 1, due := false, inputW := i.watts % 2 ^ 16, front := s.slt.back, frontNo := 1 - s.slt.frontNo, frozen := false } := by
    rw [tick_dispatchOverrun, tick_senseEmerg, tick_swapSlates hl3, h3]
    rfl
  rw [tick_openFrame, h4]
  rfl

/-! ### The commit, and the frame's work (R111, R178) -/

/-- Where no command waits the commit is the end of leases, and of leases and waits for semaphores (R175, R244, R246). -/
theorem commitAll_idle {s : State} (h : s.frm.accepted = []) :
    commitAll s = (fun t : State => { t with frm := { t.frm with urgLost := [] } })
      (commitSems semWaits (commitSems semLeases (expireLeases s))) := by
  have hs : { s with frm := { s.frm with accepted := [] } } = s := by rw [← h]
  unfold commitAll
  rw [h, hs]
  rfl

theorem tick_commitSems {f : Nat → State → State} (h : ∀ g u, (f g u).tick = u.tick) (s : State) : (commitSems f s).tick = s.tick :=
  tick_foldl (f := fun s g => f g s) (fun u g => h g u) _ s

theorem tick_commitAll {s : State} (h : s.frm.accepted = []) : (commitAll s).tick = s.tick := by
  rw [commitAll_idle h]
  exact (tick_commitSems tick_semWaits _).trans ((tick_commitSems tick_semLeases _).trans (tick_expireLeases s))

@[simp] theorem tick_toGeode (s : State) (m : Nat) (p : Bytes) : (s.toGeode m p).tick = s.tick := by rfl

/-- What beat 0 commits and releases where no command waits. -/
theorem tick_commitFrame {s : State} (h : s.frm.accepted = []) : (commitFrame s).tick = s.tick := by
  have hbefore : (commitPin (installFails (concludeAll s))).tick = s.tick := by simp
  have haccepted : (commitPin (installFails (concludeAll s))).frm.accepted = [] := (congrArg TickView.accepted hbefore).trans h
  have hafter : (releaseEvents (releaseReplies (commitAll (commitPin (installFails (concludeAll s)))))).tick = s.tick := by
    rw [tick_releaseEvents, tick_releaseReplies, tick_commitAll haccepted, hbefore]
  unfold commitFrame
  dsimp only
  rw [tick_ite, tick_toGeode, ite_self, hafter]

/-- While the module serves light the slates stay, whatever level is told (R51, R525). -/
theorem tick_announce {s : State} (h : s.inLight = true) : (announce s).tick = s.tick := by
  have hlevel : ¬s.level ≤ 1 := by
    simp only [State.inLight, decide_eq_true_eq] at h
    omega
  unfold announce
  dsimp only
  split
  · rfl
  · rw [if_neg (by simp [hlevel])]
    rfl

/-- Without an activation an update tick ends a migration and pays what is owed (R518). -/
theorem tick_updateTick (i : StartIn) {s : State} (h : s.boot.act = none) : (updateTick i s).tick = s.tick := by
  have hpaid : (payOwed (keysDone s)).tick = s.tick := by rw [tick_payOwed, tick_keysDone]
  have hact : (payOwed (keysDone s)).boot.act = none := (congrArg TickView.act hpaid).trans h
  unfold updateTick
  dsimp only
  rw [hact]
  exact hpaid

/-! ### The tick (R109 to R118, R252) -/

theorem inLight_of_level {s t : State} (h : t.level = s.level) : t.inLight = s.inLight := by
  unfold State.inLight
  rw [h]

/-- The order of the tick after it has turned to the new frame: commit and release, the frame's work, the news of the level, and an update. A part `p`
of what the tick leaves alone stands where the news of the level leaves it. -/
theorem tick_frameTick {α : Type} {p : TickView → α} {v : α} (room : Nat) (i : TickIn) {s : State} (hv : p (turnFrames i s).tick = v)
    (hacc : (turnFrames i s).frm.accepted = []) (hl : ∀ t : State, p t.tick = v → p (announce t).tick = v)
    (hact : ∀ t : State, p t.tick = v → t.boot.act = none) : p (frameTick room i s).tick = v := by
  have hwork : p (dropEvents (frameWork room (boundaryFlags s (turnFrames i s) (commitFrame (turnFrames i s))))).tick = v := by
    rw [tick_dropEvents, tick_frameWork, tick_boundaryFlags, tick_commitFrame hacc, hv]
  have hlast : p (ptpTick (announce (dropEvents (frameWork room (boundaryFlags s (turnFrames i s) (commitFrame (turnFrames i s))))))).tick = v := by
    rw [tick_ptpTick]
    exact hl _ hwork
  unfold frameTick
  dsimp only
  rw [tick_updateTick i.start (hact _ hlast), hlast]

/-- A tick that finds no command and no update in LIGHT: the new frame is what it turned to (R109, R115, R252). -/
theorem tick_frameTick_light (room : Nat) (i : TickIn) {s : State} (hl : s.inLight = true) (hdue : s.frm.tickDue = true) (hacc : s.frm.accepted = [])
    (hact : s.boot.act = none) (hstep : s.thm.next = none) : (frameTick room i s).tick = s.tick.turned i := by
  have hturn := tick_turnFrames i hdue hl hstep
  refine tick_frameTick (p := id) room i hturn ((congrArg TickView.accepted hturn).trans hacc) (fun t ht => ?_)
    fun t ht => (congrArg TickView.act ht).trans hact
  have hlevel : t.level = s.level := congrArg TickView.level (show t.tick = s.tick.turned i from ht)
  exact (tick_announce ((inLight_of_level hlevel).trans hl)).trans ht

/-! ### The tick without Lodestone (R116) -/

/-- What every tick leaves alone that finds no command and no update: the frame, the beat, whether the tick is due, and the two. -/
def TickView.clock (v : TickView) : Nat × Nat × Bool × List Cmd × Option Activation := (v.now, v.beat, v.due, v.accepted, v.act)

@[simp] theorem clock_th (s : State) (f) : (s.th f).tick.clock = s.tick.clock := by rfl

/-- Whatever the step of the ladder does, the clock stands. -/
@[simp] theorem clock_thermTick (s : State) : (thermTick s).tick.clock = s.tick.clock := by
  unfold thermTick
  split
  · rw [tick_idlePorts]
  · simp [apply_ite TickView.clock]

@[simp] theorem clock_swapSlates (s : State) : (swapSlates s).tick.clock = s.tick.clock := by
  unfold swapSlates
  split
  · rfl
  · rfl

@[simp] theorem clock_announce (s : State) : (announce s).tick.clock = s.tick.clock := by
  unfold announce
  dsimp only
  split
  · rfl
  · split
    · rfl
    · rfl

/-- Without Lodestone the tick turns to the next frame at beat 0 (R116). -/
theorem clock_turnFrames_off (i : TickIn) {s : State} (hoff : s.lds.on = false) (hdue : s.frm.tickDue = false) :
    (turnFrames i s).tick.clock = (s.frm.now + 1, 0, false, s.frm.accepted, s.boot.act) := by
  unfold turnFrames
  extract_lets s1 s2
  have h1 : s1.tick = s.tick := by simp [s1]
  have h2 : s2.tick.clock = (s.frm.now + 1, 0, false, s.frm.accepted, s.boot.act) := by
    calc s2.tick.clock
        = { (toBoundary 80 s1).tick with now := (toBoundary 80 s1).frm.now + 1, due := false }.clock := by
          unfold s2
          rw [tick_measure, tick_countFrame, tick_lodestoneFrame, tick_nextFrame]
          rfl
      _ = (s1.tick.now + 1, 0, false, s1.tick.accepted, s1.tick.act) := by
          rw [toBoundary_off ((congrArg TickView.on h1).trans hoff) ((congrArg TickView.due h1).trans hdue)]
          rfl
      _ = (s.frm.now + 1, 0, false, s.frm.accepted, s.boot.act) := by
          rw [h1]
          rfl
  calc (openFrame (dispatchOverrun (senseEmerg (swapSlates (thermTick s2))))).tick.clock
      = (dispatchOverrun (senseEmerg (swapSlates (thermTick s2)))).tick.clock := rfl
    _ = s2.tick.clock := by simp
    _ = _ := h2

/-- The tick of a module without Lodestone that finds no command and no update. -/
theorem clock_frameTick_off (room : Nat) (i : TickIn) {s : State} (hoff : s.lds.on = false) (hdue : s.frm.tickDue = false)
    (hacc : s.frm.accepted = []) (hact : s.boot.act = none) : (frameTick room i s).tick.clock = (s.frm.now + 1, 0, false, [], none) := by
  have hturn := clock_turnFrames_off i hoff hdue
  rw [hacc, hact] at hturn
  exact tick_frameTick room i hturn (congrArg (fun c => c.2.2.2.1) hturn) (fun t ht => (clock_announce t).trans ht)
    fun t ht => congrArg (fun c => c.2.2.2.2) ht

/-- A new frame gives a vCtl its rate, and its allowance in its own turn frames only (R115, R173, R174). -/
theorem refill_settleRates (f cap : Nat) (c : VCtl) :
    (refill f cap (settleRates c)).spent = 0 ∧ (refill f cap (settleRates c)).rateNow = c.q.rate ∧
    (refill f cap (settleRates c)).allow = if turnFrame c f then turnAllow c cap else 0 := by
  have hturn : turnFrame (settleRates c) f = turnFrame c f := rfl
  unfold refill
  rw [hturn]
  split
  · exact ⟨rfl, rfl, rfl⟩
  · exact ⟨rfl, rfl, rfl⟩

theorem tget_turned_vctls (i : TickIn) {w : TickView} {v : Nat} {c : VCtl} (h : tget w.vctls v = some c) :
    tget (w.turned i).vctls v = some (refill (w.now + 1) w.capacity (settleRates c)) := by
  simp only [TickView.turned, tget_tmap, h, Option.map_some]

end Sys2Proof.Machine
end

section
/-!
SUPPORT. The packet on the normal path, from its record to the commands it has accepted (R110, R136, R137, R141).
-/
namespace Sys2Proof.Machine

/-! ### Packets on the normal path (R110, R136, R137, R141) -/

/-- A record of no association is discarded without reply (R136). -/
theorem openPacket_none {f : Bool} {k : AssocKey} {b : Bytes} {s : State} (h : s.assoc? k = none) : openPacket f k b s = s := by
  simp only [openPacket, h]

/-- An association that a record has reached on the normal path in frame `now` (R134, R145). -/
def Assoc.record (a : Assoc) (now : Nat) (b : Bytes) : Assoc := { a with lastRx := now, maxPkt := max a.maxPkt (min b.length 8192) }

/-- The record of an association whose path is up is kept, and the header of its packet is checked (R136). -/
theorem openPacket_normal {k : AssocKey} {b : Bytes} {a : Assoc} {s : State} (ha : s.assoc? k = some a) (hup : s.pathUp a.path = true) :
    openPacket false k b s = checkPacket false k b (a.record s.frm.now b) (s.modAssoc k (fun _ => a.record s.frm.now b)) := by
  simp only [openPacket, ha, hup]
  rfl

theorem checkPacket_fault {fast : Bool} {k : AssocKey} {b : Bytes} {a : Assoc} {st : Nat} (h : headerFault a k b (packetItems b).length = some st)
    (s : State) : checkPacket fast k b a s = refusePacket k b false st s := by
  simp only [checkPacket, h]

theorem checkPacket_again {fast : Bool} {k : AssocKey} {b : Bytes} {a : Assoc} (hh : headerFault a k b (packetItems b).length = none)
    (hseq : a.seqCheck (u b 8 4) = .again) (s : State) :
    checkPacket fast k b a s = { s with frm := { s.frm with dups := s.frm.dups ++ [(k, u b 8 4)] } } := by
  simp only [checkPacket, hh, hseq]

/-- A command of the normal path that passes its examination, and whose effect is at the commit, waits for it (R110, R141). -/
theorem runItem_accepted {k : AssocKey} {b : Bytes} {op cid : Nat} {ch nd : Bool} {tlvs : List Tlv} {a : Assoc} {i : OpInfo} {c : Cmd} {s s2 : State}
    (ha : s.assoc? k = some a) (hop : opInfo? (u b 2 1) a tlvs op = some i) (hearly : i.early = false)
    (hsub : submit i k (u b 8 4) cid nd 0 a tlvs s = (s2, .ok c)) :
    runItem false k b { s := s } (.cmd op cid ch nd none tlvs) =
      { s := { s2 with frm := { s2.frm with accepted := s2.frm.accepted ++ [c] } }, entries := [.wait c.uid], ok := true } := by
  simp [runItem, ha, hop, Run.normal, hsub, hearly]

end Sys2Proof.Machine
end

section
/-!
SUPPORT. The freeze of the back slate: what composition changes, and what the work after it leaves alone (R109, R117, R252). The lemma frz_f says
that the function f of the model leaves what the freeze is judged by.
-/
namespace Sys2Proof.Machine

/-! ### What the freeze is judged by -/

/-- What a freeze is judged by: the slates with the inrush queue, the dither under way, the Geode, the start, the power, and the commands and
compositions that wait. -/
structure FreezeView where
  /-- front slate -/
  front : Tbl Nat
  /-- back slate -/
  back : Tbl Nat
  /-- the back slate is frozen -/
  frozen : Bool
  /-- inrush queue -/
  queue : List Switch
  /-- channels that attribution dithers -/
  dithered : Tbl (Nat × Nat)
  /-- dither is on -/
  dithers : Bool
  /-- the Geode -/
  geo : Geode
  /-- start and update -/
  boot : Boot
  /-- power -/
  pw : Power
  /-- accepted commands -/
  accepted : List Cmd
  /-- carried compositions -/
  carried : List Nat

/-- What a freeze is judged by, of a state. -/
def State.frz (s : State) : FreezeView :=
  { front := s.slt.front, back := s.slt.back, frozen := s.slt.frozen, queue := s.slt.queue, dithered := s.att.active, dithers := s.att.dither.1,
    geo := s.geo, boot := s.boot, pw := s.pw, accepted := s.frm.accepted, carried := s.frm.carried }

@[simp] theorem frz_ite {p : Prop} [Decidable p] (x y : State) : (if p then x else y).frz = if p then x.frz else y.frz := apply_ite ..

@[simp] theorem frz_foldl {α : Type} {f : State → α → State} (h : ∀ u x, (f u x).frz = u.frz) (l : List α) (s : State) :
    (l.foldl f s).frz = s.frz := foldl_keeps f State.frz l (fun u x _ => h u x) s

@[simp] theorem frz_guardS (p : Bool) {f : State → State} {s : State} (h : (f s).frz = s.frz) : (guardS p f s).frz = s.frz := by
  unfold guardS
  split
  · exact h
  · rfl

/-- Messages to the strings and to the air leave what a freeze is judged by. -/
theorem SentOnly.frz {s t : State} (h : SentOnly s t) : t.frz = s.frz := by
  obtain ⟨g, l, a, o, rfl⟩ := h
  rfl

/-! ### Machine/Ops.lean -/

@[simp] theorem frz_setReg (s : State) (a v) : (s.setReg a v).frz = s.frz := by rfl

@[simp] theorem frz_setField (s : State) (a lo w x) : (s.setField a lo w x).frz = s.frz := by rfl

@[simp] theorem frz_toGeode (s : State) (ty content) : (s.toGeode ty content).frz = s.frz := by rfl

@[simp] theorem frz_raiseEp (s : State) (h k code mk) : (s.raiseEp h k code mk).frz = s.frz := by
  unfold State.raiseEp
  refine frz_foldl (fun u e => ?_) _ s
  split
  · split
    · rfl
    · rfl
  · rfl

/-! ### Machine/Level.lean -/

@[simp] theorem frz_modPole (s : State) (g p f) : (s.modPole g p f).frz = s.frz := (sentOnly_modPole ..).frz

/-! ### Machine/Strings.lean -/

@[simp] theorem frz_sendMsl (g port hop dst kind pre args prot body tail) (s : State) :
    (sendMsl g port hop dst kind pre args prot body tail s).frz = s.frz := by rfl

@[simp] theorem frz_wirePole (g p kind args body tail) (s : State) : (wirePole g p kind args body tail s).frz = s.frz := (sentOnly_wirePole ..).frz

@[simp] theorem frz_wireInit (g p args body) (s : State) : (wireInit g p args body s).frz = s.frz := by
  unfold wireInit
  split <;> simp -implicitDefEqProofs

@[simp] theorem frz_wireClear (g p kind args body) (s : State) : (wireClear g p kind args body s).frz = s.frz := by rfl

@[simp] theorem frz_wireItem (g p kind args body) (s : State) : (wireItem g p kind args body s).frz = s.frz := by
  unfold wireItem
  split <;> simp -implicitDefEqProofs

@[simp] theorem frz_noteStall (g p cls) (s : State) : (noteStall g p cls s).frz = s.frz := by rfl

@[simp] theorem frz_sendItem (g p kind args body) (s : State) : (sendItem g p kind args body s).frz = s.frz := by
  unfold sendItem
  split <;> simp -implicitDefEqProofs

@[simp] theorem frz_sendPole (g p kind args body) (s : State) : (sendPole g p kind args body s).frz = s.frz := by
  unfold sendPole
  simp -implicitDefEqProofs

/-! ### Machine/Slates.lean -/

@[simp] theorem frz_setSources (s : State) (h l) : (s.setSources h l).frz = s.frz := by rfl

@[simp] theorem frz_modDerate (s : State) (h f) : (s.modDerate h f).frz = s.frz := by rfl

@[simp] theorem frz_skipEvents (s : State) : (skipEvents s).frz = s.frz := by
  unfold skipEvents
  dsimp only
  split
  · rfl
  · refine (frz_foldl (fun u k => ?_) _ _).trans rfl
    split
    · rfl
    · refine frz_foldl (fun v e => ?_) _ u
      split
      · split
        · rfl
        · rfl
      · rfl

@[simp] theorem frz_stepEnd (h st) (s : State) : (stepEnd h st s).frz = s.frz := by
  unfold stepEnd
  split
  · rfl
  · dsimp only
    split
    · rfl
    · rfl

@[simp] theorem frz_advance (h) (s : State) : (advance h s).1.frz = s.frz := by
  refine foldl_keeps _ (fun p : State × List (LSrc × Nat) => p.1.frz) _ (fun p x _ => ?_) _
  split
  · exact frz_stepEnd ..
  · split
    · exact frz_stepEnd ..
    · rfl

@[simp] theorem frz_composeOne (h w) (s : State) : (composeOne h w s).1.frz = s.frz := by
  have hsources : ((advance h s).1.setSources h ((advance h s).2.map (·.1))).frz = s.frz := (frz_setSources ..).trans (frz_advance h s)
  unfold composeOne
  dsimp only
  split
  · exact hsources
  · exact hsources

@[simp] theorem frz_backlog (s : State) : (backlog s).frz = s.frz := by
  unfold backlog
  refine (frz_foldl (fun u e => ?_) _ _).trans rfl
  split
  · rfl
  · rfl

@[simp] theorem frz_derateStep (s : State) : (derateStep s).frz = s.frz := by
  unfold derateStep
  refine frz_foldl (fun u e => ?_) _ s
  extract_lets d target
  clear_value target
  cases target with
  | none => rfl
  | some g => simp -implicitDefEqProofs

/-! ### Machine/Lamps.lean -/

@[simp] theorem frz_modChan (s : State) (h f) : (s.modChan h f).frz = s.frz := (sentOnly_modChan ..).frz

/-! ### Machine/Air.lean -/

@[simp] theorem frz_airQueue (e) (s : State) : (airQueue e s).frz = s.frz := by rfl

@[simp] theorem frz_modTx (s : State) (id f) : (s.modTx id f).frz = s.frz := by rfl

@[simp] theorem frz_queueLight (h code act payer) (s : State) : (queueLight h code act payer s).frz = s.frz := by
  unfold queueLight
  split <;> simp -implicitDefEqProofs

@[simp] theorem frz_airLightQueue (s : State) : (airLightQueue s).frz = s.frz := by
  unfold airLightQueue
  simp -implicitDefEqProofs

/-! ### Machine/Attrib.lean -/

theorem frz_at' (s : State) {f : Attrib → Attrib} (active : (f s.att).active = s.att.active := by rfl)
    (dither : (f s.att).dither = s.att.dither := by rfl) : (s.at' f).frz = s.frz := by
  simp only [State.frz, State.at', active, dither]

@[simp] theorem frz_periodAt (f) (s : State) : (periodAt f s).frz = s.frz := by
  unfold periodAt
  split
  · exact frz_at' s
  · split
    · rfl
    · exact frz_at' s

@[simp] theorem frz_bookOne (f h k code) (s : State) : (bookOne f h k code s).frz = s.frz := by
  unfold bookOne
  exact frz_at' s

@[simp] theorem frz_attribBook (f code late) (s : State) : (attribBook f code late s).frz = s.frz := by
  unfold attribBook
  split
  · rfl
  · refine (frz_foldl (fun u e => ?_) _ _).trans (frz_periodAt f s)
    split
    · rfl
    · exact frz_foldl (fun v i => frz_bookOne ..) _ u

@[simp] theorem frz_trackCodes (f) (s : State) : (trackCodes f s).frz = s.frz := by
  unfold trackCodes
  exact frz_foldl (fun u e => frz_at' u) _ s

@[simp] theorem frz_attribRegs (s : State) : (attribRegs s).frz = s.frz := by
  unfold attribRegs
  simp -implicitDefEqProofs

/-! ### Machine/Wakes.lean -/

@[simp] theorem frz_wk (s : State) (f) : (s.wk f).frz = s.frz := by rfl

@[simp] theorem frz_startTail (cls) (s : State) (k) : (startTail cls s k).frz = s.frz := by
  unfold startTail
  simp -implicitDefEqProofs

@[simp] theorem frz_wakeFinal (carried) (s : State) : (wakeFinal carried s).frz = s.frz := by
  unfold wakeFinal
  extract_lets s1 s2 s3
  have h3 : s3.frz = s.frz := (frz_foldl (fun u e => by exact frz_foldl (frz_startTail _) _ u) _ s2).trans rfl
  exact (frz_wk ..).trans h3

@[simp] theorem frz_wakeRegs (s : State) : (wakeRegs s).frz = s.frz := by
  unfold wakeRegs
  simp -implicitDefEqProofs

/-! ### Machine/Urgent.lean -/

@[simp] theorem frz_noteSent (f h code) (s : State) : (noteSent f h code s).frz = s.frz := (sentOnly_noteSent ..).frz

/-! ### Machine/Freeze.lean -/

@[simp] theorem frz_noteCodes (hs) (s : State) : (noteCodes hs s).frz = s.frz := by
  unfold noteCodes
  simp -implicitDefEqProofs

@[simp] theorem frz_sendFrame (g p q) (s : State) : (sendFrame g p q s).frz = s.frz := by
  unfold sendFrame
  simp -implicitDefEqProofs

@[simp] theorem frz_leaveFrame (g p q) (s : State) : (leaveFrame g p q s).frz = s.frz := by rfl

@[simp] theorem frz_dispatchPole (unsent) (s : State) (gp) : (dispatchPole unsent s gp).frz = s.frz := by
  unfold dispatchPole
  split <;> simp -implicitDefEqProofs

@[simp] theorem frz_dispatchAll (unsent) (s : State) : (dispatchAll unsent s).frz = s.frz := by
  unfold dispatchAll
  simp -implicitDefEqProofs

@[simp] theorem frz_sendHints (granted) (s : State) : (sendHints granted s).frz = s.frz := by
  unfold sendHints
  simp -implicitDefEqProofs

@[simp] theorem frz_slateRegs (s : State) : (slateRegs s).frz = s.frz := by
  unfold slateRegs
  simp -implicitDefEqProofs

/-! ### Composition (R252, R258, R276, R277) -/

/-- From `s` to `t` composition has changed the back slate and the inrush queue alone; of a handle outside `hs` the code stands, and no switch of it
has joined the queue. -/
def ComposedAt (hs : Nat → Prop) (s t : State) : Prop :=
  ∃ b q, t.frz = { s.frz with back := b, queue := q } ∧
    ∀ h, ¬hs h → tgetD b h hold = s.backCode h ∧ ∀ w ∈ q, w.handle = h → w ∈ s.slt.queue

theorem ComposedAt.of_frz {hs : Nat → Prop} {s t : State} (h : t.frz = s.frz) : ComposedAt hs s t :=
  ⟨_, _, h, fun _ _ => ⟨rfl, fun _ hw _ => hw⟩⟩

theorem ComposedAt.trans {hs : Nat → Prop} {s t u : State} (h : ComposedAt hs s t) (k : ComposedAt hs t u) : ComposedAt hs s u := by
  obtain ⟨b, q, hst, hkept⟩ := h
  obtain ⟨b', q', htu, hkept'⟩ := k
  have hb : t.slt.back = b := congrArg FreezeView.back hst
  have hq : t.slt.queue = q := congrArg FreezeView.queue hst
  refine ⟨b', q', by rw [htu, hst], fun x hx => ?_⟩
  obtain ⟨hcode, hjoin⟩ := hkept x hx
  obtain ⟨hcode', hjoin'⟩ := hkept' x hx
  refine ⟨hcode'.trans ?_, fun w hw hwx => hjoin w (hq ▸ hjoin' w hw hwx) hwx⟩
  unfold State.backCode
  rw [hb, hcode]
  rfl

theorem ComposedAt.mono {hs hs' : Nat → Prop} {s t : State} (h : ComposedAt hs s t) (hle : ∀ x, hs x → hs' x) : ComposedAt hs' s t := by
  obtain ⟨b, q, hst, hkept⟩ := h
  exact ⟨b, q, hst, fun x hx => hkept x fun hh => hx (hle x hh)⟩

theorem ComposedAt.foldl {α : Type} {hs : Nat → Prop} {f : State → α → State} {l : List α}
    (h : ∀ u, ∀ x ∈ l, ComposedAt hs u (f u x)) (s : State) : ComposedAt hs s (l.foldl f s) := by
  induction l generalizing s with
  | nil => exact .of_frz rfl
  | cons x l ih => exact (h s x (.head l)).trans (ih (fun u y hy => h u y (.tail x hy)) (f s x))

theorem ComposedAt.mem_queue {hs : Nat → Prop} {s t : State} (h : ComposedAt hs s t) {w : Switch} (hw : w ∈ t.slt.queue) (hout : ¬hs w.handle) :
    w ∈ s.slt.queue := by
  obtain ⟨b, q, hst, hkept⟩ := h
  have hq : t.slt.queue = q := congrArg FreezeView.queue hst
  exact (hkept w.handle hout).2 w (hq ▸ hw) rfl

/-- A handle's code alone is composed where its own is set. -/
theorem composedAt_setBack (s : State) (h c : Nat) : ComposedAt (· = h) s (s.setBack h c) :=
  ⟨_, _, rfl, fun _ hx => ⟨tgetD_tput_ne hold _ c hx, fun _ hw _ => hw⟩⟩

/-- A switch leaves the inrush queue. -/
theorem composedAt_unqueue {hs : Nat → Prop} (s : State) (p : Switch → Bool) :
    ComposedAt hs s (s.sl (fun t => { t with queue := t.queue.filter p })) :=
  ⟨_, _, rfl, fun _ _ => ⟨rfl, fun _ hw _ => List.mem_of_mem_filter hw⟩⟩

theorem mem_enqSwitch {w x : Switch} {q : List Switch} (h : x ∈ enqSwitch w q) : x = w ∨ x ∈ q := by
  induction q with
  | nil => exact .inl (List.mem_singleton.1 h)
  | cons y q ih =>
    unfold enqSwitch at h
    split at h
    · exact .inr h
    · split at h
      · simpa using h
      · rcases List.mem_cons.1 h with rfl | hx
        · exact .inr (.head q)
        · exact (ih hx).imp_right (.tail y)

/-- A channel that is composed leaves the inrush queue, joins it, or keeps its place (R276). -/
theorem composedAt_place (s : State) (h : Nat) {P Q R : Prop} [Decidable P] [Decidable Q] [Decidable R] :
    ComposedAt (· = h) s (if P then s.sl (fun t => { t with queue := t.queue.filter (fun w => w.handle != h) }) else if Q then s
      else if R then s.sl (fun t => { t with queue := enqSwitch ⟨s.circuit h, s.frm.now, h⟩ t.queue }) else s) := by
  split
  · exact composedAt_unqueue s _
  · split
    · exact .of_frz rfl
    · split
      · refine ⟨_, _, rfl, fun x hx => ⟨rfl, fun w hw hwx => (mem_enqSwitch hw).resolve_left ?_⟩⟩
        rintro rfl
        exact hx hwx.symm
      · exact .of_frz rfl

/-- One channel is composed at its own handle (R252, R258, R276). -/
theorem composedAt_composeInto (lift : Nat → Nat) (s : State) (h : Nat) : ComposedAt (· = h) s (composeInto lift s h) := by
  have hone : ComposedAt (· = h) s (composeOne h (lift h) s).1 := .of_frz (frz_composeOne ..)
  have hlifted (u : State) (l : Slates → List Nat) : ComposedAt (· = h) u (u.sl (fun t => { t with lifted := l t })) := .of_frz rfl
  unfold composeInto
  dsimp only
  split
  · exact hone.trans (composedAt_unqueue _ _)
  · exact ((hone.trans (hlifted _ _)).trans (composedAt_place _ h)).trans (composedAt_setBack ..)

/-- Lighting channels alone are composed (R252, R280). -/
theorem composedAt_composeAll (lift : Nat → Nat) (unfinished : List Nat) (s : State) :
    ComposedAt (s.isLamp · = true) s (composeAll lift unfinished s) := by
  have hstart : ComposedAt (s.isLamp · = true) s
      (s.sl (fun t => { t with lifted := [], queue := t.queue.filter (fun w => (tget t.srcs w.handle).isSome) })) :=
    ⟨_, _, rfl, fun _ _ => ⟨rfl, fun _ hw _ => List.mem_of_mem_filter hw⟩⟩
  refine hstart.trans (.foldl (fun u h hh => ?_) _)
  have hwork := (List.mem_filter.1 (List.mem_of_mem_filter hh)).2
  exact (composedAt_composeInto lift u h).mono fun x hx => hx ▸ (Bool.and_eq_true_iff.1 hwork).1

/-- The handles that still wait are dark (R277). -/
theorem composedAt_darkQueue {s t : State} (h : ComposedAt (fun _ => False) s t) :
    ComposedAt (fun x => ∃ w ∈ s.slt.queue, w.handle = x) s (t.slt.queue.foldl (fun s w => s.setBack w.handle 0) t) := by
  refine (h.mono fun _ hf => hf.elim).trans (.foldl (fun u w hw => (composedAt_setBack u w.handle 0).mono ?_) t)
  rintro _ rfl
  exact ⟨w, h.mem_queue hw id, rfl⟩

/-- Admission composes the handles that wait for it (R277). -/
theorem composedAt_inrushAdmit (s : State) : ComposedAt (fun x => ∃ w ∈ s.slt.queue, w.handle = x) s (inrushAdmit s).1 := by
  have hturn (u : State) (n) : ComposedAt (fun _ => False) u (u.sl (fun t => { t with turn := n })) := .of_frz rfl
  unfold inrushAdmit
  refine composedAt_darkQueue ((hturn s _).trans (.foldl (fun u k _ => ?_) _))
  exact ⟨_, _, rfl, fun _ _ => ⟨rfl, fun _ hw _ => List.mem_of_mem_filter hw⟩⟩

/-! ### Dither (R401) -/

/-- Composition by dither: it changes the back slate and what is dithered (R401). -/
def Dithered (s t : State) : Prop := ∃ b a, t.frz = { s.frz with back := b, dithered := a }

theorem Dithered.of_frz {s t : State} (h : t.frz = s.frz) : Dithered s t := ⟨_, _, h⟩

theorem Dithered.trans {s t u : State} (h : Dithered s t) (k : Dithered t u) : Dithered s u := by
  obtain ⟨b, a, hst⟩ := h
  obtain ⟨b', a', htu⟩ := k
  exact ⟨b', a', by rw [htu, hst]⟩

theorem Dithered.foldl {α : Type} {f : State → α → State} (h : ∀ u x, Dithered u (f u x)) (l : List α) (s : State) :
    Dithered s (l.foldl f s) := by
  induction l generalizing s with
  | nil => exact .of_frz rfl
  | cons x l ih => exact (h s x).trans (ih _)

theorem dithered_ditherReturn (f : Nat) (s : State) : Dithered s (ditherReturn f s) := by
  unfold ditherReturn
  refine .foldl (fun u e => ?_) _ s
  dsimp only
  split
  · exact ⟨_, _, rfl⟩
  · split
    · split
      · exact ⟨_, _, rfl⟩
      · exact ⟨_, _, rfl⟩
    · exact ⟨_, _, rfl⟩

theorem dithered_ditherStep (f : Nat) (s : State) : Dithered s (ditherStep f s) := by
  have hreturn : Dithered s (trackCodes f (ditherReturn f s)) := (dithered_ditherReturn f s).trans (.of_frz (frz_trackCodes ..))
  unfold ditherStep
  dsimp only
  split
  · exact hreturn
  · refine hreturn.trans (.foldl (fun u k => ?_) _ _)
    split
    · exact .of_frz rfl
    · exact ⟨_, _, rfl⟩

/-- Without dither, and with none to return, the back slate stays. -/
theorem frz_ditherStep_off (f : Nat) {s : State} (hoff : s.frz.dithers = false) (hnone : s.frz.dithered = []) : (ditherStep f s).frz = s.frz := by
  have hreturn : ditherReturn f s = s := by
    unfold ditherReturn
    rw [show s.att.active = [] from hnone]
    rfl
  have htrack : (trackCodes f s).att.dither.1 = false := (congrArg FreezeView.dithers (frz_trackCodes f s)).trans hoff
  unfold ditherStep
  rw [hreturn, if_pos (by simp [htrack])]
  exact frz_trackCodes f s

/-! ### The freeze (R109, R117) -/

/-- What waits for the local date leaves the channels as they are fitted. -/
theorem isLamp_skipEvents (s : State) (h : Nat) : (skipEvents s).isLamp h = s.isLamp h := by
  unfold skipEvents
  dsimp only
  split
  · rfl
  · refine (foldl_keeps _ (State.isLamp · h) _ (fun u k _ => ?_) _).trans rfl
    split
    · rfl
    · refine foldl_keeps _ (State.isLamp · h) _ (fun v e _ => ?_) u
      split
      · split
        · rfl
        · rfl
      · rfl

/-- Composition and admission reach lighting channels, and handles for which a switch waits. -/
theorem composedAt_admitted (unfinished : List Nat) (s : State) :
    ComposedAt (fun x => s.isLamp x = true ∨ ∃ w ∈ s.slt.queue, w.handle = x) s
      (inrushAdmit (composeAll s.wakeLift unfinished (skipEvents s))).1 := by
  have hall := composedAt_composeAll s.wakeLift unfinished (skipEvents s)
  simp only [isLamp_skipEvents] at hall
  have hcomposed : ComposedAt (s.isLamp · = true) s (composeAll s.wakeLift unfinished (skipEvents s)) :=
    ComposedAt.trans (.of_frz (frz_skipEvents s)) hall
  refine (hcomposed.mono fun _ hx => .inl hx).trans ((composedAt_inrushAdmit _).mono ?_)
  rintro _ ⟨w, hw, rfl⟩
  by_cases hlamp : s.isLamp w.handle = true
  · exact .inl hlamp
  · exact .inr ⟨w, hcomposed.mem_queue hw hlamp, rfl⟩

/-- Composition freezes the back slate. A handle that is no lighting channel, and for which no switch waits, keeps its code where no dither runs. -/
theorem frz_composeFrame (unfinished : List Nat) (s : State) :
    ∃ b q a, (composeFrame unfinished s).1.frz = { s.frz with back := b, queue := q, dithered := a, frozen := true } ∧
      (s.att.dither.1 = false → s.att.active = [] → ∀ h, s.isLamp h = false → (∀ w ∈ s.slt.queue, w.handle ≠ h) →
        tgetD b h hold = s.backCode h) := by
  obtain ⟨b, q, hadmit, hkept⟩ := composedAt_admitted unfinished s
  generalize hi : (inrushAdmit (composeAll s.wakeLift unfinished (skipEvents s))).1 = i at hadmit
  obtain ⟨b', a, hdither⟩ := dithered_ditherStep i.frm.now i
  have hframe : (composeFrame unfinished s).1.frz = { (derateStep (backlog (ditherStep i.frm.now i))).frz with frozen := true } := by
    have hfrozen (u : State) (n : Nat) : (u.sl (fun t => { t with frozen := true, composed := n })).frz = { u.frz with frozen := true } := rfl
    subst hi
    unfold composeFrame
    exact hfrozen ..
  refine ⟨b', q, a, ?_, fun hoff hnone h hlamp hq => ?_⟩
  · rw [hframe, frz_derateStep, frz_backlog, hdither, hadmit]
  · have hoff' : i.frz.dithers = false := (congrArg FreezeView.dithers hadmit).trans hoff
    have hnone' : i.frz.dithered = [] := (congrArg FreezeView.dithered hadmit).trans hnone
    have hb : b' = b := congrArg FreezeView.back (hdither.symm.trans ((frz_ditherStep_off _ hoff' hnone').trans hadmit))
    rw [hb]
    refine (hkept h ?_).1
    rintro (hl | ⟨w, hw, hwh⟩)
    · simp [hl] at hlamp
    · exact hq w hw hwh

/-- What is carried over is named (R117). -/
theorem frz_noteCarry (hs : List Nat) (fires : List (Nat × Nat)) (n : Nat) (s : State) :
    (noteCarry hs fires n s).frz = { s.frz with carried := hs } := by
  unfold noteCarry
  dsimp only
  split
  · rfl
  · rfl

/-- Without an update no bank leaves. -/
theorem bankLeaves_idle {s : State} (h : s.boot.act = none) : bankLeaves s = s := by
  have hturn : s.turnOf = none := by
    unfold State.turnOf
    rw [h]
    rfl
  unfold bankLeaves
  rw [if_neg (by simp [hturn])]

/-- A bank that leaves for an update changes the start and nothing else. -/
theorem frz_bankLeaves {s : State} {v : FreezeView} (h : s.frz = v) :
    ∃ boot, (v.boot.act = none → boot = v.boot) ∧ (bankLeaves s).frz = { v with boot := boot } := by
  subst h
  refine ⟨(bankLeaves s).boot, fun h => by rw [bankLeaves_idle h]; rfl, ?_⟩
  unfold bankLeaves
  split
  · rfl
  · rfl

/-- What follows composition, the leaving of a bank apart: attribution, dispatch and the sensors keep the slates (R109, R117 to R119). -/
theorem frz_afterCompose (hs : List Nat) (fires : List (Nat × Nat)) (n f : Nat) (code : Nat → Nat) (late : Nat → Option Nat)
    (granted unsent ns : List Nat) (s : State) : (slateRegs (attribRegs (wakeRegs (wakeFinal ns (airLightQueue (sendHints granted (dispatchAll unsent
      (attribBook f code late (noteCarry hs fires n s))))))))).frz = { s.frz with carried := hs } := by
  simp -implicitDefEqProofs [frz_noteCarry]

/-- The freeze: composition, what is carried over, and the start where a bank leaves (R109, R117). -/
theorem frz_freeze (unfinished unsent nodes : List Nat) (s : State) : ∃ boot, (s.boot.act = none → boot = s.boot) ∧
    (freeze unfinished unsent nodes s).frz = { (composeFrame unfinished s).1.frz with carried := s.carriedOf unfinished, boot := boot } := by
  obtain ⟨b, q, a, hframe, -⟩ := frz_composeFrame unfinished s
  unfold freeze
  generalize composeFrame unfinished s = p at hframe ⊢
  obtain ⟨c, granted⟩ := p
  rw [← show c.boot = s.boot from congrArg FreezeView.boot hframe]
  exact frz_bankLeaves (frz_afterCompose ..)

end Sys2Proof.Machine
end

section
/-!
SUPPORT. Packets are checked, frames tick and the back slate freezes (R109 to R111, R115, R117, R118, R136 to R138, R252).
-/
namespace Sys2Proof.Machine

/-- Settles O25: a packet's checks are followed to its reply; the tick keeps the view in which it turned; composition alone changes the back slate. -/
theorem packetsAreCheckedAndFramesTick : Obligations.PacketsAreCheckedAndFramesTick := by
  refine ⟨?unknown, ?fault, ?again, ?accepted, ?tick, ?tickOff, ?tickUnserved, ?freeze, ?freezeIdle⟩
  case unknown =>
    intro f k b s h
    cases f with
    | false => exact done_eq_next (openPacket_none (s := { s with out := [] }) h) rfl
    | true => exact done_eq_next (openPacket_none (s := { s with out := [] }) h) rfl
  case fault =>
    rintro k b a _ st s ha hup rfl hfault
    have heff := (openPacket_normal (s := { s with out := [] }) ha hup).trans (checkPacket_fault hfault _)
    exact ⟨_, done_eq_next heff rfl, rfl, ⟨_, rfl, rfl, rfl, rfl⟩, rfl⟩
  case again =>
    rintro k b a _ s ha hup rfl hpass hseq
    have heff := (openPacket_normal (s := { s with out := [] }) ha hup).trans (checkPacket_again hpass hseq _)
    exact ⟨_, done_eq_next heff rfl, rfl, rfl⟩
  case accepted =>
    intro k b a a' op cid ch nd tlvs i c s s1 s2 ha hup ha' hpass hseq hopen hitems hop hearly hs1 hsub
    obtain rfl : a' = a.record s.frm.now b := ha'
    have ha1 : s1.assoc? k = some ((a.record s.frm.now b).take (u b 8 4)) := by
      rw [hs1, assoc?_modAssoc, assoc?_modAssoc, show ({ s with out := [] } : State).assoc? k = some a from ha]
      rfl
    have hrun : runPacket false k b s1 = owe k b true [.wait c.uid] { s2 with frm := { s2.frm with accepted := s2.frm.accepted ++ [c] } } := by
      simp only [runPacket, hitems, List.foldl_cons, List.foldl_nil, runItem_accepted ha1 hop hearly hsub]
    obtain ⟨l, v, rfl⟩ := submit_ok_frame hsub
    subst hs1
    have heff := (openPacket_normal (s := { s with out := [] }) ha hup).trans ((checkPacket_fresh hpass hseq hopen _).trans hrun)
    exact ⟨_, done_eq_next heff rfl, rfl, ⟨_, rfl, rfl, rfl, rfl, rfl⟩, rfl⟩
  case tick =>
    intro r i s hs hl hdue hacc hact _ _ hstep
    have hv := tick_frameTick_light r i (s := { s with out := [] }) hl hdue hacc hact hstep
    refine ⟨_, done_next (guardS_true hs _ _), congrArg TickView.now hv, congrArg TickView.beat hv, congrArg TickView.due hv,
      congrArg TickView.cap hv, congrArg TickView.front hv, congrArg TickView.frontNo hv, congrArg TickView.frozen hv, congrArg TickView.inputW hv,
      fun v c hc => ?_, congrArg TickView.geo hv⟩
    have hget : tget (frameTick r i { s with out := [] }).ten.vctls v = some (refill (s.frm.now + 1) s.capacity (settleRates c)) := by
      rw [show (frameTick r i { s with out := [] }).ten.vctls = _ from congrArg TickView.vctls hv]
      exact tget_turned_vctls i hc
    obtain ⟨hspent, hrate, hallow⟩ := refill_settleRates (s.frm.now + 1) s.capacity c
    unfold State.vctl?
    dsimp only
    rw [hget]
    exact ⟨congrArg some hspent, congrArg some hrate, congrArg some hallow⟩
  case tickOff =>
    intro r i s hs hoff hdue hacc hact
    have hv := clock_frameTick_off r i (s := { s with out := [] }) hoff hdue hacc hact
    exact ⟨_, done_next (guardS_true hs _ _), congrArg (·.1) hv, congrArg (·.2.1) hv, congrArg (·.2.2.1) hv⟩
  case tickUnserved =>
    intro r i s hs
    exact done_eq_next (guardS_false hs _ _) rfl
  case freeze =>
    intro x y n s hl hbeat hfrozen
    have hguard : (s.inLight && s.frm.beat == 64 && !s.slt.frozen) = true := by simp [hl, hbeat, hfrozen]
    obtain ⟨b, q, a, hframe, hkept⟩ := frz_composeFrame x { s with out := [] }
    obtain ⟨boot, hidle, hv⟩ := frz_freeze x y n { s with out := [] }
    rw [hframe] at hv
    generalize heff : freeze x y n { s with out := [] } = t at hv
    refine ⟨_, done_next ((guardS_true hguard _ _).trans heff), congrArg FreezeView.frozen hv, congrArg FreezeView.front hv,
      congrArg FreezeView.carried hv, fun hoff hnone h hlamp hq => ?_, congrArg FreezeView.geo hv,
      fun hact => (congrArg FreezeView.boot hv).trans (hidle hact), congrArg FreezeView.pw hv, congrArg FreezeView.accepted hv⟩
    have hback : t.backCode h = tgetD b h hold := congrArg (fun v : FreezeView => tgetD v.back h hold) hv
    exact hback.trans (hkept hoff hnone h hlamp fun w hw => by simpa using List.all_eq_true.1 hq w hw)
  case freezeIdle =>
    intro x y n s h
    refine done_eq_next (guardS_false ?_ _ _) rfl
    show (s.inLight && s.frm.beat == 64 && !s.slt.frozen) = false
    rcases h with h | h | h <;> simp [h]

end Sys2Proof.Machine
end

section
/-!
SUPPORT. A command of any row of an opcode that is discarded or refused: no effect but its reply and the count of TOKENS_EXHAUSTED refusals
(R136, R141, R187).
-/
namespace Sys2Proof.Machine

/-- A refusal names its command, and leaves the state but for the count in SYS_VCTL_REFUSE (R141, R187). -/
theorem submit_error_frame {i : OpInfo} {key : AssocKey} {seq cmdid : Nat} {nd : Bool} {fl : Nat} {a : Assoc} {tlvs : List Tlv} {s s1 : State}
    {r : Reply} (h : submit i key seq cmdid nd fl a tlvs s = (s1, .error r)) :
    r.op = i.op ∧ r.cmdid = cmdid ∧ ∃ v, s1 = { s with ten := { s.ten with vctls := v } } := by
  unfold submit at h
  split at h
  · cases h
    exact ⟨rfl, rfl, s.ten.vctls, rfl⟩
  · split at h
    · cases h
      refine ⟨rfl, rfl, ?_⟩
      unfold State.countRefusal
      split
      · exact ⟨_, rfl⟩
      · exact ⟨s.ten.vctls, rfl⟩
    · cases h

theorem AfterReply.pending_eq {u t : State} (h : AfterReply u t) : t.pending = u.pending := by rw [h.frame]

/-- A record of no OPEN association, or on a path that carries nothing, is discarded (R136, R525). -/
theorem runOp_discarded {i : OpInfo} {src : Src} {tlvs : List Tlv} {s : State}
    (h : ∀ a, s.assoc? src.key = some a → a.phase = .awaitOpen ∨ s.pathUp a.path = false) : runOp i src tlvs s = s := by
  unfold runOp runAs
  cases ha : s.assoc? src.key with
  | none => rfl
  | some a =>
    refine if_pos ?_
    obtain hp | hp := h a ha
    · rw [hp]
      rfl
    · rw [hp]
      exact Bool.or_true _

/-- A command that its examination or its tokens refuse is answered at once (R141). -/
theorem runOp_refused {i : OpInfo} {src : Src} {tlvs : List Tlv} {s s1 : State} {a : Assoc} {r : Reply} (ha : s.assoc? src.key = some a)
    (hopen : a.phase = .opened) (hup : s.pathUp a.path = true)
    (h : submit i src.key src.seq src.cmdid src.noData 0 a tlvs (s.modAssoc src.key (fun a => { a with lastRx := s.frm.now })) = (s1, .error r)) :
    runOp i src tlvs s = answer 3 src (.done r) s1 := by
  simp [runOp, runAs, ha, hopen, hup, h]

/-- Settles O4: a command that is discarded leaves the state, and one that is refused changes the count of refusals and is answered. -/
theorem refusedCommandsHaveNoEffect : Obligations.RefusedCommandsHaveNoEffect := by
  constructor
  · intro x i src tlvs s hrow hno
    rw [exec_opRow hrow]
    exact done_eq_next (runOp_discarded (s := { s with out := [] }) hno) rfl
  · intro x i src tlvs s s1 a r hrow ha hopen hup hsub
    obtain ⟨hop, hcmdid, v, hs1⟩ := submit_error_frame hsub
    have hqueue : (answer 3 src (.done r) s1).pending = s.pending := by
      rw [(afterReply_answer ..).pending_eq, hs1]
      rfl
    have hexec : exec x s = .next (answer 3 src (.done r) s1) :=
      (exec_opRow hrow s).trans (done_eq_next (runOp_refused (s := { s with out := [] }) ha hopen hup hsub) hqueue)
    refine ⟨hop, hcmdid, _, hexec, afterReply_answer 3 src r s1, replied_answer 3 src r s1, ?_⟩
    subst hs1
    exact ⟨rfl, rfl, rfl, rfl, rfl, rfl, rfl⟩

end Sys2Proof.Machine
end

section
/-!
SUPPORT. What a packet sent on a path leaves of the sessions, and the DTLS handshakes from ClientHello to Finished (R130 to R134). The order in which the
module prefers suites and groups and the alert for nothing in common are the model's choice (log 84).
-/
namespace Sys2Proof.Machine

/-! ### Packets on a path -/

theorem LinksOnly.ses {s t : State} (h : LinksOnly s t) : t.ses = s.ses := by
  obtain ⟨e, w, o, rfl, -, -⟩ := h
  rfl

@[simp] theorem ses_spTo (a ty ttl src : Nat) (urgent : Bool) (args : List Nat) (body : Bytes) (s : State) :
    (spTo a ty ttl src urgent args body s).ses = s.ses := by
  unfold spTo
  split
  · split
    · exact (linksOnly_spTx ..).ses
    · rfl
  · rfl

/-- A path carries a packet without a change of the sessions. -/
@[simp] theorem ses_sendVia (p : Path) (k : Nat) (o : Out) (s : State) : (sendVia p k o s).ses = s.ses := by
  cases p with
  | service => rfl
  | ux1 => rfl
  | uplink u => exact (apply_ite State.ses ..).trans (ite_self _)
  | spine =>
    unfold sendVia
    dsimp only
    split
    · rfl
    · split
      · split
        · exact ses_spTo ..
        · rfl
      · rfl

/-- The service link and UX1 carry a packet as it is (R129). -/
theorem sendVia_service {p : Path} (h : isServicePath p = true) (k : Nat) (o : Out) (s : State) : sendVia p k o s = s.emit o := by
  cases p with
  | service => rfl
  | ux1 => rfl
  | uplink u => cases h
  | spine => cases h

/-! ### ClientHello (R130 to R134) -/

theorem firstOf_single {x : Nat} {l : List Nat} (h : x ∈ l) : firstOf [x] l = some x := by
  simp [firstOf, h]

/-- A client of DTLS 1.3 that takes the module's signature scheme gets the first suite and the first group that both have (R130, log 84). -/
theorem selectHello_shared {x : Hello} {cs g : Nat} (hver : 0xFEFC ∈ x.versions) (hsig : 0x0503 ∈ x.sigs)
    (hcs : firstOf [0x1302, 0x1301] x.suites = some cs) (hg : firstOf [23, 24] x.groups = some g) : selectHello x = some (cs, g) := by
  simp only [selectHello, firstOf_single hver, firstOf_single hsig, hcs, hg]

/-- The client's connection identifier is kept beside the one the module issues, which takes a free value (R130). -/
theorem issueCid_cases (x : Hello) (s : State) :
    (issueCid x s).1.map (·.1) = x.cid ∧ ∃ n, (issueCid x s).2 = { s with free := n } := by
  unfold issueCid
  cases x.cid with
  | none => exact ⟨rfl, s.free, rfl⟩
  | some c => exact ⟨rfl, s.free + 1, rfl⟩

theorem clientHello_down {id : Nat} {x : Hello} {p : Path} {c : Bool} {s : State} (h : s.pathUp p = false) : clientHello id x p c s = s := by
  simp [clientHello, h]

/-- Without a cookie a ClientHello is answered, and no state is held (R134). -/
theorem clientHello_retry {id : Nat} {x : Hello} {p : Path} {s : State} (h : s.pathUp p = true) :
    clientHello id x p false s = s.send .dtlsHelloRetry (nameCode (nameOn p (helloName x.name))) := by
  simp [clientHello, h]

/-- With a cookie it starts a handshake, where the path is up. -/
theorem clientHello_cookie {id : Nat} {x : Hello} {p : Path} {s : State} (h : s.pathUp p = true) :
    clientHello id x p true s = startHs id x p s := by
  simp [clientHello, h]

/-- A further handshake of a name within 40 frames is discarded (R133). -/
theorem startHs_tooSoon {id : Nat} {x : Hello} {p : Path} {s : State} (h : s.tooSoon (nameOn p (helloName x.name)) = true) : startHs id x p s = s :=
  if_pos h

/-- A client that shares nothing with the module gets an alert (R130, log 84). -/
theorem startHs_alert {id : Nat} {x : Hello} {p : Path} {s : State} (h : s.tooSoon (nameOn p (helloName x.name)) = false)
    (hsel : selectHello x = none) : startHs id x p s = s.send .dtlsAlert (nameCode (nameOn p (helloName x.name))) [helloAlert x] := by
  simp [startHs, h, hsel]

/-- The handshake that a ClientHello starts (R130, R134). -/
def helloStart (x : Hello) (p : Path) (cs g : Nat) (s : State) : Handshake :=
  { name := nameOn p (helloName x.name), path := p, sel := ⟨cs, g, (issueCid x s).1⟩, hello := s.frm.now, flightSent := false,
    lastFlight := s.frm.now, finished := none }

/-- Any other ClientHello with a cookie starts its handshake and marks the start of its name (R130, R133, R134). -/
theorem startHs_starts {id : Nat} {x : Hello} {p : Path} {cs g : Nat} {s : State} (h : s.tooSoon (nameOn p (helloName x.name)) = false)
    (hsel : selectHello x = some (cs, g)) :
    ∃ n, startHs id x p s = { s with
      free := n
      ses := { s.ses with
        hs := tset s.ses.hs id (helloStart x p cs g s)
        lastHs := if nameOn p (helloName x.name) = .missing then s.ses.lastHs
          else tset s.ses.lastHs (nameCode (nameOn p (helloName x.name))) s.frm.now } } := by
  obtain ⟨-, n, hcid⟩ := issueCid_cases x s
  refine ⟨n, ?_⟩
  simp only [startHs, h, hsel, hcid, helloStart]
  rfl

/-! ### From the server flight to the end of a handshake (R131, R132, R134) -/

@[simp] theorem tget_modHs (s : State) (id : Nat) (f : Handshake → Handshake) : tget (s.modHs id f).ses.hs id = (tget s.ses.hs id).map f :=
  tget_tmod_self ..

/-- The server flight of a handshake, which carries the certificate that its name gets (R131). -/
abbrev flightOut (s : State) (h : Handshake) : Out :=
  .msg .dtlsServerFlight (s.flightCert h.path h.name).1
    [(s.flightCert h.path h.name).2.1, b2n (!(s.flightCert h.path h.name).2.2), h.sel.suite, h.sel.group] ((h.sel.cid.map (·.2)).getD [])

theorem serverFlight_eq (id : Nat) (h : Handshake) (s : State) :
    serverFlight id h s = sendVia h.path (nameCode h.name) (flightOut s h) (s.modHs id (fun h => { h with flightSent := true })) := rfl

/-- From beat 0 of the 40th frame on the flight is due once (R132). -/
theorem execServerFlight_due {id : Nat} {h : Handshake} {s : State} (hid : tget s.ses.hs id = some h) (hbeat : s.frm.beat = 0)
    (hsent : h.flightSent = false) (hdue : h.hello + 40 ≤ s.frm.now) :
    execServerFlight id s = .next (serverFlight id h { s with out := [] }) := by
  have hd : State.flightDue { s with out := [] } h = true := by simp [State.flightDue, hbeat, hsent, hdue]
  refine done_eq_next ?_ ((afterReply_sendVia ..).pending_eq)
  simp only [hid]
  exact guardS_true hd _ _

theorem execClientFinished_open {id : Nat} {key : Bytes} {h : Handshake} {s : State} (hid : tget s.ses.hs id = some h) (hsent : h.flightSent = true)
    (hfin : h.finished = none) :
    execClientFinished id key s = .next (({ s with out := [] } : State).modHs id
      (fun h => { h with finished := some (s.accepts h.path h.name key), lastFlight := s.frm.now })) := by
  refine done_eq_next ?_ rfl
  simp only [hid]
  exact guardS_true (by simp [hsent, hfin]) _ _

/-- A flight that the client has not answered is sent again at a beat 0 (R132). -/
theorem execDtlsRetransmit_open {id : Nat} {h : Handshake} {s : State} (hid : tget s.ses.hs id = some h) (hbeat : s.frm.beat = 0)
    (hsent : h.flightSent = true) (hfin : h.finished = none) :
    execDtlsRetransmit id s =
      .next (sendVia h.path (nameCode h.name) (.msg .dtlsRetransmit (nameCode h.name) [] []) { s with out := [] }) := by
  refine done_eq_next ?_ ((afterReply_sendVia ..).pending_eq)
  simp only [hid]
  exact guardS_true (by simp [hbeat, hsent, hfin]) _ _

/-- After 6,000 frames without a client flight the handshake is discarded (R134). -/
theorem execHandshakeTimeout_late {id : Nat} {h : Handshake} {s : State} (hid : tget s.ses.hs id = some h) (hfin : h.finished = none)
    (hlate : h.lastFlight + 6000 ≤ s.frm.now) :
    execHandshakeTimeout id s = .next { s with ses := { s.ses with hs := terase s.ses.hs id }, out := [] } := by
  refine done_eq_next ?_ rfl
  simp only [hid]
  exact guardS_true (by simp [State.hsLate, hfin, hlate]) _ _

/-- Settles O22: each row is a case of the ClientHello, the flight, the Finished or the end of a handshake above. -/
theorem handshakesRunAsDtlsSays : Obligations.HandshakesRunAsDtlsSays := by
  refine ⟨?_, ?_, ?_, ?_, ?_, ?_, ?_, ?_, ?_⟩
  · intro id x p s hup
    exact done_eq_next (clientHello_retry (s := { s with out := [] }) hup) rfl
  · rintro id x p n cs g s hup rfl hsoon hver hsig hcs hg
    obtain ⟨f, hstart⟩ := startHs_starts (id := id) (s := { s with out := [] }) hsoon (selectHello_shared hver hsig hcs hg)
    refine ⟨_, done_eq_next ((clientHello_cookie (s := { s with out := [] }) hup).trans hstart) rfl, ⟨_, tget_tset_self .., rfl, ?_⟩, ?_, rfl⟩
    · exact (issueCid_cases x { s with out := [] }).1
    · intro hn
      dsimp only
      rw [if_neg hn]
      exact tget_tset_self ..
  · rintro id x p n s hup rfl hsoon hsel
    exact done_eq_next ((clientHello_cookie (s := { s with out := [] }) hup).trans (startHs_alert hsoon hsel)) rfl
  · intro id x p c s h
    refine done_eq_next ?_ rfl
    by_cases hup : s.pathUp p = true
    · obtain hdown | ⟨rfl, hsoon⟩ := h
      · rw [hup] at hdown
        cases hdown
      · exact (clientHello_cookie (s := { s with out := [] }) hup).trans (startHs_tooSoon hsoon)
    · exact clientHello_down (s := { s with out := [] }) (Bool.eq_false_iff.2 hup)
  · intro id h s hid hbeat hsent hdue
    have hses : (serverFlight id h { s with out := [] }).ses = (s.modHs id (fun h => { h with flightSent := true })).ses := ses_sendVia ..
    refine ⟨_, execServerFlight_due hid hbeat hsent hdue, ?_, fun hpath => ?_, ?_⟩
    · rw [hses, tget_modHs, hid]
      rfl
    · rw [serverFlight_eq, sendVia_service hpath]
      exact ⟨rfl, rfl⟩
    · rw [hses]
      exact afterReply_sendVia ..
  · intro id k h s hid hsent hfin
    refine ⟨_, execClientFinished_open hid hsent hfin, ?_, rfl⟩
    rw [tget_modHs]
    simp only [hid]
    rfl
  · exact fun id s => rfl
  · intro id h s hid hbeat hsent hfin hpath
    exact (execDtlsRetransmit_open hid hbeat hsent hfin).trans (congrArg Host.Outcome.next (sendVia_service hpath ..))
  · exact fun id h s => execHandshakeTimeout_late

end Sys2Proof.Machine
end

section
/-!
SUPPORT. What paying for a command and answering it change of its association, and how associations open, renew their keys and end (R133, R134, R156,
R157). A SESSION_OPEN without CAPS offers no capability, which is the model's choice (log 84).
-/
namespace Sys2Proof.Machine

/-! ### Every entry of a key -/

/-- Every entry that a table lists under the key `n` satisfies `P`; a table with rising keys lists at most one. -/
def EntriesAt {α : Type} (t : Tbl α) (n : Nat) (P : α → Prop) : Prop := ∀ e ∈ t, e.1 = n → P e.2

section
variable {α : Type} {t : Tbl α} {n : Nat} {P Q : α → Prop}

theorem entriesAt_of_twf (hwf : twf t = true) {v : α} (hv : tget t n = some v) (hP : P v) : EntriesAt t n P := by
  rintro e he rfl
  rw [tget_of_mem hwf he] at hv
  cases hv
  exact hP

theorem EntriesAt.tset (h : EntriesAt t n P) (k : Nat) {v : α} (hv : P v) : EntriesAt (tset t k v) n P := by
  intro e he hn
  obtain rfl | he := mem_tset t k v e he
  · exact hv
  · exact h e he hn

theorem EntriesAt.tmod (h : EntriesAt t n P) {f : α → α} (hf : ∀ a, P a → Q (f a)) : EntriesAt (tmod t n f) n Q := by
  intro e he hn
  obtain ⟨x, hx, rfl⟩ := List.mem_map.1 he
  by_cases hk : x.1 = n
  · rw [if_pos hk]
    exact hf _ (h x hx hk)
  · rw [if_neg hk] at hn
    exact absurd hn hk

theorem tmod_tmod (t : Tbl α) (k : Nat) (f g : α → α) : tmod (tmod t k f) k g = tmod t k (fun a => g (f a)) := by
  unfold tmod
  rw [List.map_map]
  refine List.map_congr_left fun e _ => ?_
  by_cases hk : e.1 = k <;> simp [hk]

theorem exists_mem_of_tget {v : α} (h : tget t n = some v) : ∃ e ∈ t, e.1 = n := by
  induction t with
  | nil => cases h
  | cons e l ih =>
    by_cases hk : e.1 = n
    · exact ⟨e, List.mem_cons_self .., hk⟩
    · obtain ⟨x, hx, hn⟩ := ih ((if_neg hk).symm.trans h)
      exact ⟨x, List.mem_cons_of_mem _ hx, hn⟩

end

/-! ### The command that is accepted -/

/-- What it takes that a row is accepted at a beat 0: an association in its phase on a path that carries packets, a command that passes with its tokens
paid, and a right that still holds (R136, R141, R170). -/
theorem acceptedIn_inv {ph : Phase → Bool} {i : OpInfo} {src : Src} {tlvs : List Tlv} {s s1 : State} {c : Cmd}
    (h : acceptedIn ph i src tlvs s = some (s1, c)) :
    ∃ a, s.assoc? src.key = some a ∧ ph a.phase = true ∧ s.pathUp a.path = true ∧ s.frm.beat = 0 ∧
      submit i src.key src.seq src.cmdid src.noData 0 a tlvs
        (({ s with out := [] } : State).modAssoc src.key (fun a => { a with lastRx := s.frm.now })) = (s1, .ok c) ∧
      (i.early || (roleHeld i c s1 && rightHeld i c s1)) = true := by
  unfold acceptedIn at h
  cases ha : s.assoc? src.key with
  | none =>
    rw [ha] at h
    cases h
  | some a =>
    simp only [ha] at h
    split at h
    · rename_i hg
      simp only [Bool.and_eq_true, beq_iff_eq] at hg
      obtain ⟨⟨hph, hup⟩, hbeat⟩ := hg
      split at h
      · split at h
        · cases h
          exact ⟨a, rfl, hph, hup, hbeat, ‹_›, ‹_›⟩
        · cases h
      · cases h
    · cases h

/-- A command that passes has passed its examination, and its cost is debited (R141). -/
theorem submit_ok_inv {i : OpInfo} {key : AssocKey} {seq cmdid : Nat} {nd : Bool} {fl : Nat} {a : Assoc} {tlvs : List Tlv} {s s1 : State} {c : Cmd}
    (h : submit i key seq cmdid nd fl a tlvs s = (s1, .ok c)) :
    examine i key seq cmdid nd fl s.frm.uid a tlvs s = .ok c ∧ s1.ses = (s.debit c (i.cost c)).ses := by
  unfold submit at h
  split at h
  · cases h
  · split at h
    · cases h
    · cases h
      exact ⟨‹_›, rfl⟩

theorem assoc_debit (s : State) (c : Cmd) (k : Nat) :
    (s.debit c k).ses.assoc = tmod s.ses.assoc (assocIx c.key) (fun a => { a with accepted := a.accepted + 1 }) := by
  unfold State.debit
  dsimp only
  split
  · rfl
  · rfl

/-- An association of which one command is accepted in frame `now` (R116, R134). -/
def Assoc.paid (now : Nat) (a : Assoc) : Assoc := { a with lastRx := now, accepted := a.accepted + 1 }

/-- An accepted command leaves the association table but for the record and the count of its association (R116, R134). -/
theorem acceptedIn_assoc {ph : Phase → Bool} {i : OpInfo} {src : Src} {tlvs : List Tlv} {s s1 : State} {c : Cmd}
    (h : acceptedIn ph i src tlvs s = some (s1, c)) : s1.ses.assoc = tmod s.ses.assoc (evKey src.key) (Assoc.paid s.frm.now) := by
  obtain ⟨-, -, hkey, -⟩ := acceptedIn_frame h
  obtain ⟨a, -, -, -, -, hsub, -⟩ := acceptedIn_inv h
  obtain ⟨-, hses⟩ := submit_ok_inv hsub
  rw [hses, assoc_debit, hkey]
  exact tmod_tmod s.ses.assoc (evKey src.key) (fun a => { a with lastRx := s.frm.now }) (fun a => { a with accepted := a.accepted + 1 })

/-- What a row does whose command is accepted: the answer to the commit (R111, R141, R142). -/
theorem runAs_eq_answer {ph : Phase → Bool} {i : OpInfo} {m : Nat} {src : Src} {tlvs : List Tlv} {s s1 : State} {c : Cmd}
    (h : acceptedIn ph i src tlvs s = some (s1, c)) :
    runAs i ph m src tlvs { s with out := [] } = answer m src (.done (i.commit c s1).2) (i.commit c s1).1 := by
  obtain ⟨a, ha, hph, hup, hbeat, hsub, hheld⟩ := acceptedIn_inv h
  have ha' : State.assoc? { s with out := [] } src.key = some a := ha
  have hup' : State.pathUp { s with out := [] } a.path = true := hup
  have hperform : perform i c s1 = i.commit c s1 := by
    unfold perform commitWith
    cases hearly : i.early with
    | false =>
      rw [hearly, Bool.false_or] at hheld
      simp [hheld]
    | true => rfl
  simp [runAs, ha', hph, hup', hsub, hbeat, hperform]

/-! ### What an answer changes of its association -/

theorem emitOn_assoc {s : State} {k : AssocKey} {a : Assoc} (ha : s.assoc? k = some a) (o : Out) :
    (s.emitOn k o).ses = { s.ses with assoc := tset s.ses.assoc (evKey k) { a with sent := a.sent + 1 } } := by
  unfold State.emitOn
  rw [show tget s.ses.assoc (evKey k) = some a from ha]
  exact ses_sendVia ..

/-- Nothing of the association's own asks for more after its replies: neither its end nor a KeyUpdate is due (R134, R514, R581). -/
def Assoc.Calm (a : Assoc) : Prop := a.closing = false ∧ a.kuDue = false

/-- The parts of a reply count under the traffic key of their association, and change nothing else of it. -/
theorem sendReply_assoc {key : AssocKey} (ver : Nat × Nat) (seq : Nat) (parts : List (List Reply)) {s : State} {a : Assoc}
    (ha : s.assoc? key = some a) (hcalm : EntriesAt s.ses.assoc (evKey key) Assoc.Calm) (hc : a.Calm) :
    ∃ n, (sendReply key ver seq parts s).assoc? key = some { a with sent := n } ∧
      EntriesAt (sendReply key ver seq parts s).ses.assoc (evKey key) Assoc.Calm := by
  unfold sendReply
  generalize parts.length = len
  generalize parts.zipIdx = l
  induction l generalizing s a with
  | nil => exact ⟨a.sent, ha, hcalm⟩
  | cons p l ih =>
    have hses := emitOn_assoc ha (.packet key (replyPacket key ver seq p.2 (p.2 + 1 < len) p.1))
    refine ih (a := { a with sent := a.sent + 1 }) ?_ ?_ hc
    · unfold State.assoc?
      rw [hses]
      exact tget_tset_self ..
    · rw [hses]
      exact hcalm.tset _ hc

/-- A closed session is gone, and every other stays. -/
theorem tget_closeSession (m n : Nat) (s : State) :
    tget (closeSession m s).ses.assoc n = if n = m then none else tget s.ses.assoc n := by
  unfold closeSession
  by_cases hn : n = m
  · subst n
    rw [if_pos rfl]
    split
    · exact tget_terase_self ..
    · assumption
  · rw [if_neg hn]
    split
    · exact (tget_terase_ne _ hn).trans (congrArg (fun x : Sessions => tget x.assoc n) (ses_sendVia ..))
    · rfl

/-- A KeyUpdate is sent on an association that stands, and on no other (R134). -/
theorem tget_sendKeyUpdate (m n : Nat) (s : State) : tget (sendKeyUpdate m s).ses.assoc n =
    if n = m then (tget s.ses.assoc n).map (fun a => { a with kuDue := false, keyUpdate := true, sent := a.sent + 1 }) else tget s.ses.assoc n := by
  unfold sendKeyUpdate
  by_cases hn : n = m
  · subst n
    rw [if_pos rfl]
    split
    · rename_i a ha
      rw [ses_sendVia, ha]
      exact tget_tset_self ..
    · rename_i ha
      rw [ha]
      rfl
  · rw [if_neg hn]
    split
    · rw [ses_sendVia]
      exact tget_tset_ne _ _ hn
    · rfl

/-- What follows the replies of a beat 0 for one entry of the association table (R134, R514, R581). -/
def settleOne (s : State) (e : Nat × Assoc) : State := if e.2.closing then closeSession e.1 s else if e.2.kuDue then sendKeyUpdate e.1 s else s

theorem settle_eq_foldl (s : State) : settle s = s.ses.assoc.foldl settleOne s := rfl

/-- An association that asks for nothing stays as it is. -/
theorem settle_keeps {n : Nat} {s : State} (h : EntriesAt s.ses.assoc n Assoc.Calm) : tget (settle s).ses.assoc n = tget s.ses.assoc n := by
  rw [settle_eq_foldl]
  suffices g : ∀ (l : Tbl Assoc) (u : State), EntriesAt l n Assoc.Calm → tget (l.foldl settleOne u).ses.assoc n = tget u.ses.assoc n from g _ s h
  intro l
  induction l with
  | nil => exact fun u _ => rfl
  | cons e l ih =>
    intro u hl
    refine (ih _ fun x hx => hl x (List.mem_cons_of_mem _ hx)).trans ?_
    by_cases hn : e.1 = n
    · obtain ⟨hclosing, hdue⟩ := hl e (List.mem_cons_self ..) hn
      simp [settleOne, hclosing, hdue]
    · unfold settleOne
      split
      · rw [tget_closeSession, if_neg (Ne.symm hn)]
      · split
        · rw [tget_sendKeyUpdate, if_neg (Ne.symm hn)]
        · rfl

theorem settleOne_none {n : Nat} {s : State} (e : Nat × Assoc) (h : tget s.ses.assoc n = none) : tget (settleOne s e).ses.assoc n = none := by
  unfold settleOne
  split
  · rw [tget_closeSession, h, ite_self]
  · split
    · rw [tget_sendKeyUpdate, h]
      exact ite_self _
    · exact h

/-- An association that closes is gone after the replies (R134). -/
theorem settle_closes {n : Nat} {s : State} (h : EntriesAt s.ses.assoc n (·.closing = true)) : tget (settle s).ses.assoc n = none := by
  rw [settle_eq_foldl]
  suffices g : ∀ (l : Tbl Assoc) (u : State), EntriesAt l n (·.closing = true) → (tget u.ses.assoc n = none ∨ ∃ e ∈ l, e.1 = n) →
      tget (l.foldl settleOne u).ses.assoc n = none by
    refine g _ s h ?_
    cases ht : tget s.ses.assoc n with
    | none => exact .inl rfl
    | some a => exact .inr (exists_mem_of_tget ht)
  intro l
  induction l with
  | nil => exact fun u _ hu => hu.resolve_right fun ⟨_, he, _⟩ => nomatch he
  | cons e l ih =>
    intro u hl hu
    refine ih _ (fun x hx => hl x (List.mem_cons_of_mem _ hx)) ?_
    by_cases hn : e.1 = n
    · left
      unfold settleOne
      rw [if_pos (hl e (List.mem_cons_self ..) hn), tget_closeSession, if_pos hn.symm]
    · obtain hu | ⟨x, hx, hxn⟩ := hu
      · exact .inl (settleOne_none e hu)
      · obtain rfl | hx := List.mem_cons.1 hx
        · exact absurd hxn hn
        · exact .inr ⟨x, hx, hxn⟩

/-- The answer to any command but SESSION_CLOSE counts its records, and leaves the rest of its association. -/
theorem answer_keeps_assoc (m : Nat) {src : Src} {r : Reply} {u : State} {a : Assoc} (ha : u.assoc? src.key = some a)
    (hcalm : EntriesAt u.ses.assoc (evKey src.key) Assoc.Calm) (hc : a.Calm) (hop : r.op ≠ 2) :
    ∃ n, (answer m src (.done r) u).assoc? src.key = some { a with sent := n } := by
  unfold answer
  split
  · rename_i r' b hr hbeat hb
    cases hr
    cases ha.symm.trans hb
    obtain ⟨n, hn, hrest⟩ := sendReply_assoc (u.verFor src.key m) src.seq (packReply a [r]) ha hcalm hc
    refine ⟨n, (Eq.trans ?_ hn)⟩
    have hnote : noteClose src.key [r] (sendReply src.key (u.verFor src.key m) src.seq (packReply a [r]) u) =
        sendReply src.key (u.verFor src.key m) src.seq (packReply a [r]) u := if_neg (by simp [hop])
    rw [hnote]
    exact settle_keeps hrest
  · rename_i hb
    cases ha.symm.trans hb
  · exact ⟨a.sent, ha⟩

/-- The answer to an accepted SESSION_CLOSE ends its association (R134). -/
theorem answer_closes (m : Nat) {src : Src} {r : Reply} {u : State} (hbeat : u.frm.beat = 0) (hop : r.op = 2) (hst : r.status = stOk) :
    (answer m src (.done r) u).assoc? src.key = none := by
  unfold answer
  cases ha : u.assoc? src.key with
  | none =>
    simp only [hbeat]
    exact ha
  | some a =>
    simp only [hbeat]
    generalize sendReply src.key (u.verFor src.key m) src.seq (packReply a [r]) u = v
    have hnote : noteClose src.key [r] v = v.modAssoc src.key (fun a => { a with closing := true }) := if_pos (by simp [hop, hst])
    rw [hnote]
    have hall : EntriesAt (tmod v.ses.assoc (evKey src.key) (fun a => { a with closing := true })) (evKey src.key) (·.closing = true) :=
      EntriesAt.tmod (P := fun _ => True) (fun _ _ _ => trivial) fun _ _ => rfl
    exact settle_closes hall

/-! ### SESSION_OPEN (R134, R156, R157, R165) -/

/-- Compacting a tenant's numbering changes its vCtl (R165). -/
theorem compactView_fst (v : Nat) (s : State) : ∃ l, (compactView v s).1 = { s with ten := { s.ten with vctls := l } } := by
  unfold compactView
  split
  · exact ⟨s.ten.vctls, rfl⟩
  · exact ⟨_, rfl⟩

/-- The capabilities that a SESSION_OPEN under major `m` negotiates (R157, log 84). -/
def openCaps (m : Nat) (c : Cmd) : Nat := if m = 3 then c.nat 0x0006 &&& moduleCaps else 0

/-- An association that SESSION_OPEN has opened (R134, R156, R157). -/
def Assoc.openAs (m caps : Nat) (a : Assoc) : Assoc := { a with phase := .opened, major := m, caps := caps }

/-- SESSION_OPEN opens its association, compacts the numbering of a tenant, and changes nothing else. -/
theorem sessionOpened_cases (m : Nat) (c : Cmd) (s : State) :
    (∃ l, (sessionOpened m c s).1 = { s.modAssoc c.key (Assoc.openAs m (openCaps m c)) with ten := { s.ten with vctls := l } }) ∧
      (sessionOpened m c s).2.op = c.op := by
  unfold sessionOpened
  dsimp only
  split
  · exact ⟨⟨s.ten.vctls, rfl⟩, rfl⟩
  · split
    · exact ⟨⟨s.ten.vctls, rfl⟩, rfl⟩
    · exact ⟨compactView_fst _ _, rfl⟩

/-- A SESSION_OPEN is accepted only where it gets a major (R156). -/
theorem sessionOpen_major {vm : Nat} {a : Assoc} {src : Src} {tlvs : List Tlv} {s s1 : State} {c : Cmd}
    (h : acceptedIn (fun _ => true) (opSessionOpen vm a tlvs) src tlvs s = some (s1, c)) : ∃ m, chooseMajor a (offered vm tlvs) = some m := by
  obtain ⟨b, -, -, -, -, hsub, -⟩ := acceptedIn_inv h
  obtain ⟨hex, -⟩ := submit_ok_inv hsub
  obtain ⟨ks, ign, -, hpass, -⟩ := examine_iff.1 hex
  have hneed : need (chooseMajor a (offered vm tlvs)).isSome (openErr a) = .ok () := hpass _ (by simp [examChecks, opSessionOpen])
  cases hm : chooseMajor a (offered vm tlvs) with
  | none =>
    rw [hm] at hneed
    cases hneed
  | some m => exact ⟨m, rfl⟩

theorem opSessionOpen_commit {vm : Nat} {a : Assoc} {tlvs : List Tlv} {m : Nat} (hm : chooseMajor a (offered vm tlvs) = some m) (c : Cmd) (s : State) :
    (opSessionOpen vm a tlvs).commit c s = sessionOpened m c s := by
  simp only [opSessionOpen, hm]

/-- An accepted SESSION_OPEN is answered on its association, which is open under the major and with the capabilities it gets. -/
theorem sessionOpen_opens {vm : Nat} {src : Src} {tlvs : List Tlv} {s s1 : State} {c : Cmd} {a : Assoc} {m : Nat} (hwf : twf s.ses.assoc = true)
    (ha : s.assoc? src.key = some a) (hc : a.Calm) (hm : chooseMajor a (offered vm tlvs) = some m)
    (h : acceptedIn (fun _ => true) (opSessionOpen vm a tlvs) src tlvs s = some (s1, c)) :
    ∃ n l t, sessionOpen vm src tlvs { s with out := [] } = t ∧
      t.assoc? src.key = some { (a.paid s.frm.now).openAs m (openCaps m c) with sent := n } ∧
      AfterReply { s1.modAssoc src.key (Assoc.openAs m (openCaps m c)) with ten := { s1.ten with vctls := l } } t := by
  obtain ⟨-, hcop, hckey, -⟩ := acceptedIn_frame h
  obtain ⟨⟨l, hstate⟩, hrop⟩ := sessionOpened_cases m c s1
  rw [hckey] at hstate
  have hassoc : s1.ses.assoc = tmod s.ses.assoc (evKey src.key) (Assoc.paid s.frm.now) := acceptedIn_assoc h
  have hopened : (sessionOpened m c s1).1.ses.assoc =
      tmod s.ses.assoc (evKey src.key) (fun a => (a.paid s.frm.now).openAs m (openCaps m c)) := by
    rw [hstate, ← tmod_tmod, ← hassoc]
    rfl
  have hcalm : EntriesAt (sessionOpened m c s1).1.ses.assoc (evKey src.key) Assoc.Calm := by
    rw [hopened]
    exact EntriesAt.tmod (entriesAt_of_twf hwf ha hc) fun b hb => hb
  have hget : (sessionOpened m c s1).1.assoc? src.key = some ((a.paid s.frm.now).openAs m (openCaps m c)) := by
    unfold State.assoc?
    rw [hopened]
    refine (tget_tmod_self ..).trans ?_
    rw [show tget s.ses.assoc (evKey src.key) = some a from ha]
    rfl
  have hop : (sessionOpened m c s1).2.op ≠ 2 := by
    rw [hrop, hcop]
    exact (by decide : (1 : Nat) ≠ 2)
  obtain ⟨n, hn⟩ := answer_keeps_assoc (if vm = 2 then 2 else 3) hget hcalm hc hop
  have hrun : sessionOpen vm src tlvs { s with out := [] } =
      answer (if vm = 2 then 2 else 3) src (.done (sessionOpened m c s1).2) (sessionOpened m c s1).1 := by
    rw [← opSessionOpen_commit hm c s1, ← runAs_eq_answer h]
    unfold sessionOpen
    rw [show State.assoc? { s with out := [] } src.key = some a from ha]
  refine ⟨n, l, _, hrun, hn, ?_⟩
  rw [← hstate]
  exact afterReply_answer ..

/-! ### Keys and ends of an association (R133, R134) -/

@[simp] theorem tget_dropAssoc_self (n : Nat) (s : State) : tget (dropAssoc n s).ses.assoc n = none := tget_terase_self ..

theorem execAssocIdleTimeout_idle {k : AssocKey} {a : Assoc} {s : State} (ha : s.assoc? k = some a) (hopen : a.phase = .opened)
    (hidle : a.lastRx + 30000 ≤ s.frm.now) : execAssocIdleTimeout k s = .next (dropAssoc (evKey k) { s with out := [] }) := by
  refine done_eq_next ?_ rfl
  rw [show State.assoc? { s with out := [] } k = some a from ha]
  exact guardS_true (by simp [State.assocIdle, hopen, hidle]) _ _

theorem execDtlsKeyUpdate_due {k : AssocKey} {a : Assoc} {s : State} (ha : s.assoc? k = some a) (hopen : a.phase = .opened)
    (hsent : 2 ^ 23 ≤ a.sent) (hku : a.keyUpdate = false) :
    execDtlsKeyUpdate k false s = .next (sendKeyUpdate (evKey k) { s with out := [] }) := by
  refine done_eq_next ?_ ((afterReply_sendKeyUpdate ..).pending_eq)
  rw [show State.assoc? { s with out := [] } k = some a from ha]
  exact guardS_true (by simp [hopen, hku]; exact hsent) _ _

theorem execDtlsKeyUpdate_acked {k : AssocKey} {a : Assoc} {s : State} (ha : s.assoc? k = some a) (hku : a.keyUpdate = true) :
    execDtlsKeyUpdate k true s = .next (({ s with out := [] } : State).modAssoc k (fun a => { a with keyUpdate := false, sent := 0 })) := by
  refine done_eq_next ?_ rfl
  rw [show State.assoc? { s with out := [] } k = some a from ha]
  exact (if_pos rfl).trans (guardS_true hku _ _)

theorem execDtlsRecordLimit_reached {k : AssocKey} {a : Assoc} {s : State} (ha : s.assoc? k = some a) (hopen : a.phase = .opened)
    (hsent : 2 ^ 24 ≤ a.sent) : execDtlsRecordLimit k s = .next (closeSession (evKey k) { s with out := [] }) := by
  refine done_eq_next ?_ ((afterReply_closeSession ..).pending_eq)
  rw [show State.assoc? { s with out := [] } k = some a from ha]
  exact guardS_true (by simp [hopen]; exact hsent) _ _

/-- On a service path a KeyUpdate counts as a record of its association and goes out, and nothing else changes (R134). -/
theorem sendKeyUpdate_service {n : Nat} {a : Assoc} {s : State} (ha : tget s.ses.assoc n = some a) (hp : isServicePath a.path = true) :
    sendKeyUpdate n s = ({ s with ses := { s.ses with
      assoc := tset s.ses.assoc n { a with kuDue := false, keyUpdate := true, sent := a.sent + 1 } } } : State).emit (.msg .dtlsKeyUpdate n [] []) := by
  simp only [sendKeyUpdate, ha]
  exact sendVia_service hp ..

/-- On a service path close_notify goes out, and the association is dropped (R134). -/
theorem closeSession_service {n : Nat} {a : Assoc} {s : State} (ha : tget s.ses.assoc n = some a) (hp : isServicePath a.path = true) :
    closeSession n s = dropAssoc n (s.emit (.msg .dtlsCloseNotify n [] [])) := by
  simp only [closeSession, ha, sendVia_service hp]

/-- Settles O23: the answer to SESSION_OPEN leaves what it negotiates, that to SESSION_CLOSE ends the association, and each row of DTLS is a case
above. -/
theorem associationsOpenAndEnd : Obligations.AssociationsOpenAndEnd := by
  refine ⟨?_, ?_, ?_, ?_, ?_, ?_⟩
  · intro vm src tlvs s s1 c a hwf ha hclosing hdue hacc
    obtain ⟨hdebit, -⟩ := acceptedIn_frame hacc
    obtain ⟨m, hm⟩ := sessionOpen_major hacc
    obtain ⟨n, l, t, hrun, hget, hafter⟩ := sessionOpen_opens hwf ha ⟨hclosing, hdue⟩ hm hacc
    have hqueue : t.pending = s.pending := hafter.pending_eq.trans hdebit.pending
    have hframe := hafter.frame
    unfold AfterDebit at hdebit
    refine ⟨t, done_eq_next hrun hqueue, ?_, ?_, ?_, ?_, ?_, ?_, ?_⟩
    · rw [hget]
      rfl
    · rw [hget, hm]
      rfl
    · rw [hget, hm]
      rfl
    all_goals
      rw [hframe, hdebit]
      rfl
  · intro src tlvs s s1 c hacc
    obtain ⟨hdebit, hop, -⟩ := acceptedIn_frame hacc
    obtain ⟨-, -, -, -, hbeat, -⟩ := acceptedIn_inv hacc
    have hqueue : (answer 3 src (.done c.ok) s1).pending = s.pending := (afterReply_answer ..).pending_eq.trans hdebit.pending
    have hbeat1 : s1.frm.beat = 0 := by
      unfold AfterDebit at hdebit
      rw [hdebit]
      exact hbeat
    exact ⟨_, done_eq_next (runAs_eq_answer hacc) hqueue, afterReply_answer .., answer_closes 3 hbeat1 hop rfl⟩
  · intro k a s ha hopen hidle
    exact ⟨_, execAssocIdleTimeout_idle ha hopen hidle, tget_dropAssoc_self .., rfl, rfl, rfl, rfl⟩
  · intro k a s ha hopen hsent hku hp
    refine ⟨_, execDtlsKeyUpdate_due ha hopen hsent hku, ?_⟩
    rw [sendKeyUpdate_service (n := evKey k) (s := { s with out := [] }) ha hp]
    refine ⟨?_, rfl, rfl⟩
    exact congrArg (Option.map Assoc.keyUpdate) (tget_tset_self ..)
  · intro k a s ha hku
    refine ⟨_, execDtlsKeyUpdate_acked ha hku, ?_, rfl⟩
    rw [assoc?_modAssoc]
    exact congrArg (Option.map _) ha
  · intro k a s ha hopen hsent hp
    refine ⟨_, execDtlsRecordLimit_reached ha hopen hsent, ?_⟩
    rw [closeSession_service (n := evKey k) (s := { s with out := [] }) ha hp]
    exact ⟨tget_dropAssoc_self .., rfl, rfl, rfl⟩

end Sys2Proof.Machine
end

section
/-!
SUPPORT. The session opcodes, the register commands and the events that are sent again (R148, R149, R153, R154). The layout of DEVICE_INFO and the
packet of its own in which EVENT_RESEND sends its records are the model's choice (logs 36 and 47).
-/
namespace Sys2Proof.Machine

/-- The row of an accepted command whose commit leaves the queue of commands: the commit, then the reply (R141, R142). -/
theorem execOp_commit {i : OpInfo} {src : Src} {tlvs : List Tlv} {s s1 u : State} {c : Cmd} {r : Reply} (h : accepted i src tlvs s = some (s1, c))
    (hcommit : i.commit c s1 = (u, r)) (hqueue : u.pending = s1.pending) :
    ∃ t, execOp i src tlvs s = .next t ∧ AfterReply u t ∧ (replyGoes u src.key = true → Replied src r t) := by
  obtain ⟨t, hexec, hafter, hreply⟩ := execOp_accepted h
  rw [hcommit] at hafter hreply
  rw [← hqueue.trans (acceptedIn_frame h).1.pending] at hafter
  exact ⟨t, hexec, hafter, hreply⟩

/-! ### Event queues (R147 to R149) -/

theorem AfterReply.queue {u t : State} (h : AfterReply u t) (k : Nat) : t.queue k = u.queue k := by
  rw [h.frame]
  rfl

theorem AfterDebit.queue {s t : State} (h : AfterDebit s t) (k : Nat) : t.queue k = s.queue k := by
  unfold AfterDebit at h
  rw [h]
  rfl

@[simp] theorem queue_modQueue_self (s : State) (k : AssocKey) (f : EvQueue → EvQueue) :
    (s.modQueue k f).queue (evKey k) = f (s.queue (evKey k)) := tgetD_tset_self ..

theorem queue_modQueue_ne (s : State) (k : AssocKey) (f : EvQueue → EvQueue) {j : Nat} (h : j ≠ evKey k) : (s.modQueue k f).queue j = s.queue j :=
  tgetD_tset_ne _ _ _ h

/-- The row of an accepted command whose commit changes the event queue of its association. -/
theorem execOp_modQueue {i : OpInfo} {src : Src} {tlvs : List Tlv} {s s1 : State} {c : Cmd} {r : Reply} {f : EvQueue → EvQueue}
    (h : accepted i src tlvs s = some (s1, c)) (hcommit : i.commit c s1 = (s1.modQueue c.key f, r)) :
    ∃ t, execOp i src tlvs s = .next t ∧ t.queue (evKey src.key) = f (s.queue (evKey src.key)) ∧
      (∀ k, k ≠ evKey src.key → t.queue k = s.queue k) ∧ AfterReply { s1 with ses := { s1.ses with evq := t.ses.evq } } t := by
  obtain ⟨hdebit, -, hkey, -⟩ := acceptedIn_frame h
  rw [hkey] at hcommit
  obtain ⟨t, hexec, hafter, -⟩ := execOp_commit h hcommit rfl
  have hevq : t.ses.evq = (s1.modQueue src.key f).ses.evq := by rw [hafter.frame]
  refine ⟨t, hexec, ?_, fun k hk => ?_, ?_⟩
  · rw [hafter.queue, queue_modQueue_self, hdebit.queue]
  · rw [hafter.queue, queue_modQueue_ne _ _ _ hk, hdebit.queue]
  · rw [hevq]
    exact hafter

/-- Queueing an event adds at most one record, and that one has never been sent (R148, R149). -/
theorem queueEv_recs (q : EvQueue) (code frame : Nat) (tlvs : List OTlv) :
    (queueEv q code frame tlvs).recs = q.recs ∨ ∃ r : QRec, r.ever = false ∧ (queueEv q code frame tlvs).recs = q.recs ++ [r] := by
  unfold queueEv
  split
  · exact .inl rfl
  · split
    · exact .inl rfl
    · exact .inr ⟨_, rfl, rfl⟩

/-- An acknowledgement leaves the records that it does not cover, and adds at most one, which has never been sent (R148). -/
theorem ackQueue_recs (e now : Nat) (q : EvQueue) :
    (ackQueue e now q).recs = q.recs.filter (fun r => !(r.ever && r.rec_.eseq ≤ e)) ∨
      ∃ r : QRec, r.ever = false ∧ (ackQueue e now q).recs = q.recs.filter (fun r => !(r.ever && r.rec_.eseq ≤ e)) ++ [r] := by
  unfold ackQueue
  dsimp only
  split
  · exact queueEv_recs ..
  · exact .inl rfl

theorem mem_ackQueue_of_kept {e now : Nat} {q : EvQueue} {r : QRec} (hr : r ∈ q.recs) (hkeep : r.ever = false ∨ e < r.rec_.eseq) :
    r ∈ (ackQueue e now q).recs := by
  have hmem : r ∈ q.recs.filter (fun r => !(r.ever && r.rec_.eseq ≤ e)) := by
    refine List.mem_filter.2 ⟨hr, ?_⟩
    obtain h | h := hkeep
    · simp [h]
    · simp [h]
  obtain h | ⟨x, -, h⟩ := ackQueue_recs e now q
  · rw [h]
    exact hmem
  · rw [h]
    exact List.mem_append_left _ hmem

/-- Of the records that have been sent only those above the acknowledged ESEQ stay (R148). -/
theorem eseq_of_mem_ackQueue {e now : Nat} {q : EvQueue} {r : QRec} (hr : r ∈ (ackQueue e now q).recs) (hever : r.ever = true) : e < r.rec_.eseq := by
  have hkept : r ∈ q.recs.filter (fun r => !(r.ever && r.rec_.eseq ≤ e)) := by
    obtain h | ⟨x, hx, h⟩ := ackQueue_recs e now q
    · rwa [h] at hr
    · rw [h] at hr
      obtain hr | hr := List.mem_append.1 hr
      · exact hr
      · rw [List.mem_singleton.1 hr, hx] at hever
        cases hever
  simpa [hever] using (List.mem_filter.1 hkept).2

/-! ### Register commands (R15, R154) -/

/-- A read of any register but LDS_NS and LDS_FRAME_LO leaves the state (R84, R86). -/
theorem readReg_fst {a : Nat} (s : State) (h : ∀ e, findReg a = some e → e.1.base ≠ aLdsNs ∧ e.1.base ≠ aLdsFrameLo) : (readReg a s).1 = s := by
  unfold readReg
  split
  · rfl
  · rename_i r n hreg
    obtain ⟨hns, hlo⟩ := h _ hreg
    exact (if_neg hns).trans (if_neg hlo)

/-- Reads of such registers give the words that each of them shows. -/
theorem readRegs_eq {l : List Nat} (s : State) (h : ∀ a ∈ l, ∀ e, findReg a = some e → e.1.base ≠ aLdsNs ∧ e.1.base ≠ aLdsFrameLo) :
    readRegs l s = (s, l.flatMap (fun a => beBytes 4 (readReg a s).2)) := by
  induction l with
  | nil => rfl
  | cons a l ih =>
    have hfst := readReg_fst s (h a (List.mem_cons_self ..))
    have hrest := ih fun b hb => h b (List.mem_cons_of_mem _ hb)
    simp only [readRegs, hfst, hrest, List.flatMap_cons]

/-- A write of a register of the blocks below 0x100000 whose fields are stored as written (R15). -/
theorem writeReg_stored {a v n : Nat} {r : RegDef} {s : State} (hreg : findReg a = some (r, n)) (hhook : writeHook r.base n v s = none)
    (ha : a < 0x100000) : (writeReg a v s).1 = s.setReg a (writeFields r.fields (s.regD a r.resetWord) v) := by
  have hlow : (decide (0x100000 ≤ a) && decide (a < 0x200000) && !s.portFitted n) = false := by
    rw [decide_eq_false (Nat.not_le.2 ha), Bool.false_and, Bool.false_and]
  simp [writeReg, hreg, hhook, hlow]

theorem AfterDebit.regD {s t : State} (h : AfterDebit s t) (a d : Nat) : t.regD a d = s.regD a d := by
  unfold AfterDebit at h
  rw [h]
  rfl

/-- A REG_WRITE of one such register stores its fields, and leaves every other register but SPN_DROP, in which the reply may be counted. -/
theorem regWrite_stored {s s1 t : State} {a v n : Nat} {r : RegDef} (hdebit : AfterDebit s s1) (hafter : AfterReply (writeRegs [(a, v)] s1).1 t)
    (hreg : findReg a = some (r, n)) (hhook : writeHook r.base n v s1 = none) (ha : a < 0x100000) (hdrop : a ≠ aSpnDrop) :
    t.regD a r.resetWord = writeFields r.fields (s.regD a r.resetWord) v % 2 ^ 32 ∧
      ∀ b d, b ≠ a → b ≠ aSpnDrop → t.regD b d = s.regD b d := by
  replace hafter : AfterReply (s1.setReg a (writeFields r.fields (s.regD a r.resetWord) v)) t := by
    rw [← hdebit.regD, ← writeReg_stored hreg hhook ha]
    exact hafter
  constructor
  · rw [hafter.regs a _ hdrop, setReg_regD]
  · intro b d hba hb
    rw [hafter.regs b d hb, setReg_regD_ne _ _ _ hba, hdebit.regD]

/-! ### Events that are sent again (R148) -/

/-- One record makes one part, and an association may always send one (R145). -/
theorem cutParts_one {α : Type} (sz : α → Nat) (room : Nat) (x : α) : cutParts sz room [x] [] 0 = [[x]] := rfl

theorem Assoc.parts_pos (a : Assoc) : 0 < a.parts := by
  unfold Assoc.parts
  split <;> decide

/-- A record of a queue that has been sent in frame `now`. -/
def QRec.sentAt (r : QRec) (now : Nat) : QRec := { r with sent := some now, ever := true }

/-- The state in which an association has sent one more event packet, and its series has the queue `q` (R147, R148). -/
def State.eventSent (s : State) (k : AssocKey) (q : EvQueue) : State :=
  { s with ses := { s.ses with
      assoc := tmod s.ses.assoc (evKey k) (fun a => { a with evSeq := a.evSeq + 1 })
      evq := tset s.ses.evq (evKey k) q } }

theorem assoc?_eventSent {s : State} {k : AssocKey} {a : Assoc} (ha : s.assoc? k = some a) (q : EvQueue) :
    (s.eventSent k q).assoc? k = some { a with evSeq := a.evSeq + 1 } := by
  have hget := tget_tmod_self s.ses.assoc (evKey k) (fun a => { a with evSeq := a.evSeq + 1 })
  rw [show tget s.ses.assoc (evKey k) = some a from ha] at hget
  exact hget

/-- The one record of a queue, where it is chosen, goes out in one packet of its open association, and is marked as sent (R147, R148). -/
theorem sendEvents_one {choose : QRec → Bool} {k : AssocKey} {a : Assoc} {q : EvQueue} {r : QRec} {s : State} (ha : s.assoc? k = some a)
    (hopen : a.phase = .opened) (hup : s.pathUp a.path = true) (hq : tget s.ses.evq (evKey k) = some q) (hrecs : q.recs = [r])
    (hr : choose r = true) :
    sendEvents choose k s = (s.eventSent k { q with recs := [r.sentAt s.frm.now] }).emitOn k
      (.packet k (eventPacket k (a.major, minorOf a.major) (a.evSeq + 1) 0 false [r.rec_])) := by
  have hparts : (cutParts (fun r => r.rec_.size) (a.room - 16) (q.recs.filter choose) [] 0).take a.parts = [[r]] := by
    have hchosen : q.recs.filter choose = [r] := by simp [hrecs, hr]
    rw [hchosen, cutParts_one]
    exact List.take_of_length_le a.parts_pos
  simp only [sendEvents, ha, hq, hparts, hopen, hup]
  simp [hrecs, QRec.sentAt, State.eventSent, State.modAssoc, assocIx]

/-- Events are sent again at a beat 0 only (R148). -/
theorem execEventResend_off {k : AssocKey} {s : State} (hbeat : s.frm.beat ≠ 0) : execEventResend k s = .next { s with out := [] } :=
  done_eq_next (if_neg (by simpa using hbeat)) rfl

/-- At a beat 0 the one overdue record of an open association is sent again (R148). -/
theorem execEventResend_one {k : AssocKey} {a : Assoc} {q : EvQueue} {r : QRec} {s : State} (hbeat : s.frm.beat = 0) (ha : s.assoc? k = some a)
    (hopen : a.phase = .opened) (hup : s.pathUp a.path = true) (hq : tget s.ses.evq (evKey k) = some q) (hrecs : q.recs = [r])
    (hr : s.overdue r = true) :
    execEventResend k s = .next ((({ s with out := [] } : State).eventSent k { q with recs := [r.sentAt s.frm.now] }).emitOn k
      (.packet k (eventPacket k (a.major, minorOf a.major) (a.evSeq + 1) 0 false [r.rec_]))) :=
  done_eq_next ((guardS_true (by simpa using hbeat) ..).trans (sendEvents_one (s := { s with out := [] }) ha hopen hup hq hrecs hr))
    (afterReply_emitOn ..).pending_eq

/-- Settles O24: each row by its commit, its queue, its registers or its one overdue record above. -/
theorem sessionAndRegisterOpcodes : Obligations.SessionAndRegisterOpcodes := by
  refine ⟨?_, ?_, ?_, ?_, ?_, ?_, ?_, ?_⟩
  · exact fun src tlvs s s1 c hacc => execOp_commit hacc rfl rfl
  · exact fun src tlvs s s1 c hacc => execOp_commit hacc rfl rfl
  · intro src tlvs s s1 c hacc
    obtain ⟨t, hexec, hqueue, hother, hafter⟩ := execOp_modQueue hacc rfl
    exact ⟨t, hexec, by rw [hqueue], by rw [hqueue], hother, hafter⟩
  · intro src tlvs s s1 c hacc
    obtain ⟨t, hexec, hqueue, hother, hafter⟩ := execOp_modQueue hacc rfl
    refine ⟨t, hexec, fun r hr hkeep => ?_, fun r hr _ hever => ?_, hother, hafter⟩
    · rw [hqueue]
      exact mem_ackQueue_of_kept hr hkeep
    · rw [hqueue] at hr
      exact eseq_of_mem_ackQueue hr hever
  · intro src tlvs s s1 c hacc
    obtain ⟨t, hexec, hafter, hreply⟩ := execOp_commit hacc rfl (pending_readRegs ..)
    refine ⟨t, hexec, hafter, fun hplain => ?_⟩
    rw [readRegs_eq s1 hplain] at hafter hreply
    exact ⟨hafter, hreply⟩
  · intro src tlvs s s1 c hacc
    obtain ⟨t, hexec, hafter, -⟩ := execOp_commit hacc rfl (pending_writeRegs ..)
    refine ⟨t, hexec, hafter, fun a v r n haddr hdata hreg hhook ha hdrop => ?_⟩
    rw [haddr, hdata] at hafter
    exact regWrite_stored (acceptedIn_frame hacc).1 hafter hreg hhook ha hdrop
  · exact fun k s => execEventResend_off
  · intro k a q r s hbeat ha hopen hup hq hrecs hr
    have hses := emitOn_assoc (assoc?_eventSent (s := { s with out := [] }) ha { q with recs := [r.sentAt s.frm.now] })
      (.packet k (eventPacket k (a.major, minorOf a.major) (a.evSeq + 1) 0 false [r.rec_]))
    refine ⟨_, execEventResend_one hbeat ha hopen hup hq hrecs hr, ?_, ?_, ?_⟩
    · unfold State.queue
      rw [hses]
      exact tgetD_tset_self ..
    · unfold State.assoc?
      rw [hses]
      exact congrArg (Option.map Assoc.evSeq) (tget_tset_self ..)
    · rw [hses]
      exact (afterReply_assoc ..).trans (afterReply_emitOn ..)

end Sys2Proof.Machine
end

section
/-!
SUPPORT. The light sources of an endpoint and its lease: what installing, ending, granting and taking them does there, and that it leaves every other
endpoint (R175 to R177, R256, R257).
-/
namespace Sys2Proof.Machine

/-! ### Work on a list of endpoints -/

/-- What the work on one element brings about, whatever went before, and the work on every other element keeps, holds after the work on a list with it. -/
theorem foldl_reaches {α β : Type} {f : β → α → β} {I P : β → Prop} {a : α} (hinv : ∀ b x, I b → I (f b x)) (hself : ∀ b, I b → P (f b a))
    (hother : ∀ b x, x ≠ a → P b → P (f b x)) {l : List α} (ha : a ∈ l) {b : β} (hb : I b) : P (l.foldl f b) := by
  induction l generalizing b with
  | nil => cases ha
  | cons x l ih =>
    by_cases hal : a ∈ l
    · exact ih hal (hinv b x hb)
    · obtain rfl : a = x := (List.mem_cons.1 ha).resolve_right hal
      exact List.foldlRecOn l f (hself b hb) fun u hu y hy => hother u y (fun h => hal (h ▸ hy)) hu

/-! ### Sources (R256, R257) -/

/-- From `s` to `t` only light sources and the starts of their programs have changed. -/
def SourcesOnly (s t : State) : Prop := t = { s with slt := { s.slt with srcs := t.slt.srcs, starts := t.slt.starts } }

theorem SourcesOnly.refl (s : State) : SourcesOnly s s := rfl

theorem SourcesOnly.trans {s u t : State} (h : SourcesOnly s u) (k : SourcesOnly u t) : SourcesOnly s t := by
  unfold SourcesOnly at *
  rw [h] at k
  exact k

theorem SourcesOnly.foldl {α : Type} {f : State → α → State} (h : ∀ u x, SourcesOnly u (f u x)) (l : List α) (s : State) :
    SourcesOnly s (l.foldl f s) := List.foldlRecOn l f (.refl s) fun u hu x _ => hu.trans (h u x)

theorem sources_setSources_self (s : State) (h : Nat) (l : List LSrc) : (s.setSources h l).sources h = l := tgetD_tput_self ..

theorem sources_setSources_ne (s : State) {h j : Nat} (l : List LSrc) (hj : j ≠ h) : (s.setSources h l).sources j = s.sources j :=
  tgetD_tput_ne _ _ _ hj

/-- The starts that end with their sources, each the change of `StepStart`s alone. -/
theorem dropStarts_eq (l : List LSrc) (s : State) :
    ∃ k, l.foldl (fun s x => dropStart x.start? s) s = s.sl (fun t => { t with starts := k }) := by
  induction l generalizing s with
  | nil => exact ⟨_, rfl⟩
  | cons x l ih =>
    obtain ⟨k, hk⟩ := ih (dropStart x.start? s)
    refine ⟨k, hk.trans ?_⟩
    unfold dropStart
    split <;> rfl

theorem endSrcs_eq (h : Nat) (p : LSrc → Bool) (s : State) :
    ∃ k, endSrcs h p s = (s.setSources h ((s.sources h).filter (fun x => !p x))).sl (fun t => { t with starts := k }) := dropStarts_eq ..

theorem sourcesOnly_endSrcs (h : Nat) (p : LSrc → Bool) (s : State) : SourcesOnly s (endSrcs h p s) := by
  obtain ⟨k, hk⟩ := endSrcs_eq h p s
  rw [hk]
  rfl

@[simp] theorem sources_endSrcs_self (h : Nat) (p : LSrc → Bool) (s : State) : (endSrcs h p s).sources h = (s.sources h).filter (fun x => !p x) := by
  obtain ⟨k, hk⟩ := endSrcs_eq h p s
  rw [hk]
  exact sources_setSources_self ..

theorem sources_endSrcs_ne (p : LSrc → Bool) (s : State) {h j : Nat} (hj : j ≠ h) : (endSrcs h p s).sources j = s.sources j := by
  obtain ⟨k, hk⟩ := endSrcs_eq h p s
  rw [hk]
  exact sources_setSources_ne s _ hj

theorem sourcesOnly_setSrc (h : Nat) (x : LSrc) (s : State) : SourcesOnly s (setSrc h x s) := (sourcesOnly_endSrcs ..).trans rfl

theorem mem_setSrc (h : Nat) (x : LSrc) (s : State) : x ∈ (setSrc h x s).sources h := by
  unfold setSrc
  rw [sources_setSources_self]
  exact List.mem_append_right _ (List.mem_singleton.2 rfl)

theorem sources_setSrc_ne (x : LSrc) (s : State) {h j : Nat} (hj : j ≠ h) : (setSrc h x s).sources j = s.sources j :=
  (sources_setSources_ne _ _ hj).trans (sources_endSrcs_ne _ s hj)

/-! ### Leases (R175 to R177) -/

/-- From `s` to `t` only leases, light sources with the starts of their programs, and events have changed. -/
def LeasesOnly (s t : State) : Prop :=
  t = { s with ten := { s.ten with leases := t.ten.leases }, slt := { s.slt with srcs := t.slt.srcs, starts := t.slt.starts },
               ses := { s.ses with evq := t.ses.evq } }

theorem LeasesOnly.refl (s : State) : LeasesOnly s s := rfl

theorem LeasesOnly.trans {s u t : State} (h : LeasesOnly s u) (k : LeasesOnly u t) : LeasesOnly s t := by
  unfold LeasesOnly at *
  rw [h] at k
  exact k

theorem LeasesOnly.foldl {α : Type} {f : State → α → State} (h : ∀ u x, LeasesOnly u (f u x)) (l : List α) (s : State) :
    LeasesOnly s (l.foldl f s) := List.foldlRecOn l f (.refl s) fun u hu x _ => hu.trans (h u x)

theorem SourcesOnly.leasesOnly {s t : State} (h : SourcesOnly s t) : LeasesOnly s t := by
  unfold SourcesOnly at h
  rw [h]
  rfl

/-- The end of a held lease, but for the event it may raise (R177). -/
def leaseEnded (h : Nat) (l : Lease) (s : State) : State :=
  endSrcs h (fun x => x.vctl == l.holder && x.rank ≤ 1) { s with ten := { s.ten with leases := terase s.ten.leases h } }

theorem endLease_none {h : Nat} {s : State} (hl : tget s.ten.leases h = none) (code : Option Nat) : endLease h code s = s := by
  unfold endLease
  rw [hl]

theorem endLease_held {h : Nat} {l : Lease} {s : State} (hl : tget s.ten.leases h = some l) (code : Option Nat) :
    ∃ q, endLease h code s = { leaseEnded h l s with ses := { (leaseEnded h l s).ses with evq := q } } := by
  unfold endLease
  simp only [hl]
  split
  · exact ⟨_, rfl⟩
  · exact ⟨_, rfl⟩

theorem leasesOnly_leaseEnded (h : Nat) (l : Lease) (s : State) : LeasesOnly s (leaseEnded h l s) :=
  LeasesOnly.trans (u := { s with ten := { s.ten with leases := terase s.ten.leases h } }) rfl (sourcesOnly_endSrcs ..).leasesOnly

theorem leases_leaseEnded (h : Nat) (l : Lease) (s : State) : (leaseEnded h l s).ten.leases = terase s.ten.leases h := by
  unfold leaseEnded
  rw [sourcesOnly_endSrcs h _ _]

theorem leasesOnly_endLease (h : Nat) (code : Option Nat) (s : State) : LeasesOnly s (endLease h code s) := by
  cases hl : tget s.ten.leases h with
  | none =>
    rw [endLease_none hl]
    exact .refl s
  | some l =>
    obtain ⟨q, hq⟩ := endLease_held hl code
    rw [hq]
    exact (leasesOnly_leaseEnded h l s).trans rfl

@[simp] theorem tget_endLease_self (h : Nat) (code : Option Nat) (s : State) : tget (endLease h code s).ten.leases h = none := by
  cases hl : tget s.ten.leases h with
  | none =>
    rw [endLease_none hl]
    exact hl
  | some l =>
    obtain ⟨q, hq⟩ := endLease_held hl code
    rw [hq]
    exact (congrArg (fun t => tget t h) (leases_leaseEnded h l s)).trans (tget_terase_self ..)

/-- The lease of an endpoint and its sources. -/
def State.heldOn (s : State) (h : Nat) : Option Lease × List LSrc := (tget s.ten.leases h, s.sources h)

theorem heldOn_endLease_ne (code : Option Nat) (s : State) {h j : Nat} (hj : j ≠ h) : (endLease h code s).heldOn j = s.heldOn j := by
  cases hl : tget s.ten.leases h with
  | none => rw [endLease_none hl]
  | some l =>
    obtain ⟨q, hq⟩ := endLease_held hl code
    rw [hq]
    refine Prod.ext ?_ ?_
    · exact (congrArg (fun t => tget t j) (leases_leaseEnded h l s)).trans (tget_terase_ne _ hj)
    · exact sources_endSrcs_ne _ _ hj

/-- The state in which `v` has been granted the lease of `h` for a number of frames, or for good (R175). -/
def leaseGranted (v h frames : Nat) (s : State) : State :=
  { s with ten := { s.ten with leases := tset s.ten.leases h ⟨v, if frames = 0 then none else some (s.frm.now + frames)⟩ } }

/-- What asking for a lease comes to: another vCtl's lease stands, or the lease is granted, the owner taking it from its holder first (R175, R177). -/
theorem acquireLease_cases (v h frames : Nat) (s : State) :
    ((∃ l, tget s.ten.leases h = some l ∧ l.holder ≠ v ∧ v ≠ 0) ∧ (acquireLease v h frames s).1 = s) ∨
      ((∀ l, tget s.ten.leases h = some l → l.holder = v ∨ v = 0) ∧
        ((acquireLease v h frames s).1 = leaseGranted v h frames s ∨ (acquireLease v h frames s).1 = leaseGranted v h frames (endLease h (some 1) s))) := by
  unfold acquireLease
  cases hl : tget s.ten.leases h with
  | none => exact .inr ⟨fun _ h => (nomatch h), .inl rfl⟩
  | some l =>
    by_cases hv : l.holder = v
    · exact .inr ⟨fun _ h => .inl (Option.some.inj h ▸ hv), .inl (congrArg Prod.fst (if_pos hv))⟩
    · by_cases h0 : v = 0
      · exact .inr ⟨fun _ _ => .inr h0, .inr (congrArg Prod.fst ((if_neg hv).trans (if_pos h0)))⟩
      · exact .inl ⟨⟨l, rfl, hv, h0⟩, congrArg Prod.fst ((if_neg hv).trans (if_neg h0))⟩

theorem leasesOnly_acquireLease (v h frames : Nat) (s : State) : LeasesOnly s (acquireLease v h frames s).1 := by
  obtain ⟨-, e⟩ | ⟨-, e | e⟩ := acquireLease_cases v h frames s
  · rw [e]
    exact .refl s
  · rw [e]
    rfl
  · rw [e]
    exact (leasesOnly_endLease h (some 1) s).trans rfl

theorem heldOn_acquireLease_ne (v frames : Nat) (s : State) {h j : Nat} (hj : j ≠ h) : (acquireLease v h frames s).1.heldOn j = s.heldOn j := by
  have hgrant (u : State) : (leaseGranted v h frames u).heldOn j = u.heldOn j := Prod.ext (tget_tset_ne _ _ hj) rfl
  obtain ⟨-, e⟩ | ⟨-, e | e⟩ := acquireLease_cases v h frames s
  · rw [e]
  · rw [e, hgrant]
  · rw [e, hgrant, heldOn_endLease_ne _ _ hj]

/-- A lease that no other vCtl holds, or that the owner asks for, is granted (R175, R177). -/
theorem tget_acquireLease_self {v h : Nat} {s : State} (frames : Nat) (hfree : ∀ l, tget s.ten.leases h = some l → l.holder = v ∨ v = 0) :
    tget (acquireLease v h frames s).1.ten.leases h = some ⟨v, if frames = 0 then none else some (s.frm.now + frames)⟩ := by
  obtain ⟨⟨l, hl, hv, h0⟩, -⟩ | ⟨-, e | e⟩ := acquireLease_cases v h frames s
  · exact absurd (hfree l hl) (by simp [hv, h0])
  · rw [e]
    exact tget_tset_self ..
  · rw [e]
    have hnow : (endLease h (some 1) s).frm = s.frm := by rw [leasesOnly_endLease h (some 1) s]
    unfold leaseGranted
    rw [hnow]
    exact tget_tset_self ..

/-- A lease of another vCtl stands where a tenant asks for it (R175). -/
theorem acquireLease_refused {v h : Nat} {l : Lease} {s : State} (frames : Nat) (hl : tget s.ten.leases h = some l) (hv : l.holder ≠ v) (h0 : v ≠ 0) :
    (acquireLease v h frames s).1 = s := by
  obtain ⟨-, e⟩ | ⟨hfree, -⟩ := acquireLease_cases v h frames s
  · exact e
  · exact absurd (hfree l hl) (by simp [hv, h0])

end Sys2Proof.Machine
end

section
/-!
SUPPORT. Level, fade, emergency and lease commands (R175 to R177, R254, R256, R257, R262, R265, R281, R282).
-/
namespace Sys2Proof.Machine

/-! ### What payment and reply leave -/

theorem AfterReply.slt {u t : State} (h : AfterReply u t) : t.slt = u.slt := by rw [h.frame]

theorem AfterReply.ten {u t : State} (h : AfterReply u t) : t.ten = u.ten := by rw [h.frame]

theorem AfterReply.sources {u t : State} (h : AfterReply u t) (n : Nat) : t.sources n = u.sources n := by
  unfold State.sources
  rw [h.slt]

theorem AfterDebit.slt {s t : State} (h : AfterDebit s t) : t.slt = s.slt := by
  unfold AfterDebit at h
  rw [h]

theorem AfterDebit.sources {s t : State} (h : AfterDebit s t) (n : Nat) : t.sources n = s.sources n := by
  unfold State.sources
  rw [h.slt]

theorem AfterDebit.isLamp {s t : State} (h : AfterDebit s t) (n : Nat) : t.isLamp n = s.isLamp n := by
  unfold AfterDebit at h
  rw [h]
  rfl

theorem AfterDebit.leases {s t : State} (h : AfterDebit s t) : t.ten.leases = s.ten.leases := by
  unfold AfterDebit at h
  rw [h]

theorem AfterDebit.holdsLease {s t : State} (h : AfterDebit s t) (v n : Nat) : t.holdsLease v n = s.holdsLease v n := by
  unfold State.holdsLease
  rw [h.leases]

theorem AfterDebit.now {s t : State} (h : AfterDebit s t) : t.frm.now = s.frm.now := by
  unfold AfterDebit at h
  rw [h]

theorem AfterDebit.fadeProg {s t : State} (h : AfterDebit s t) (n goal frames : Nat) : t.fadeProg n goal frames = s.fadeProg n goal frames := by
  unfold State.fadeProg State.frontCode
  rw [h.slt]

theorem SourcesOnly.fadeProg {s t : State} (h : SourcesOnly s t) (n goal frames : Nat) : t.fadeProg n goal frames = s.fadeProg n goal frames := by
  unfold SourcesOnly at h
  rw [h]
  rfl

theorem SourcesOnly.pending {s t : State} (h : SourcesOnly s t) : t.pending = s.pending := by
  unfold SourcesOnly at h
  rw [h]

/-! ### The work of a command on the sources of its endpoints -/

/-- The work on one endpoint changes light sources alone, and those of that endpoint. -/
structure OwnSources (f : Nat → State → State) : Prop where
  /-- sources alone -/
  only : ∀ h u, SourcesOnly u (f h u)
  /-- no other endpoint -/
  other : ∀ h u j, j ≠ h → (f h u).sources j = u.sources j

theorem ownSources_setSrc (x : Nat → State → LSrc) : OwnSources (fun h s => setSrc h (x h s) s) :=
  ⟨fun h u => sourcesOnly_setSrc h _ u, fun _ u _ hj => sources_setSrc_ne _ u hj⟩

theorem ownSources_endSrcs (p : LSrc → Bool) : OwnSources (fun h s => endSrcs h p s) :=
  ⟨fun h u => sourcesOnly_endSrcs h p u, fun _ u _ hj => sources_endSrcs_ne p u hj⟩

section
variable {f : Nat → State → State} (hf : OwnSources f) (l : List Nat) (s : State)
include hf

theorem OwnSources.sourcesOnly : SourcesOnly s (l.foldl (fun s h => f h s) s) := .foldl (fun u h => hf.only h u) l s

theorem OwnSources.sources_of_not_mem {h : Nat} (hl : h ∉ l) : (l.foldl (fun s h => f h s) s).sources h = s.sources h :=
  foldl_keeps _ (fun u : State => u.sources h) l (fun u x hx => hf.other x u h fun e => hl (e ▸ hx)) s

/-- What the work on an endpoint makes of its sources, whatever sources there are, it has made of them at the end. -/
theorem OwnSources.sources_of_mem {h : Nat} (hl : h ∈ l) {P : List LSrc → Prop} (hP : ∀ u, SourcesOnly s u → P ((f h u).sources h)) :
    P ((l.foldl (fun s h => f h s) s).sources h) := by
  refine foldl_reaches (I := SourcesOnly s) (P := fun u => P (u.sources h)) (fun u x hu => hu.trans (hf.only x u)) hP (fun u x hx hu => ?_) hl (.refl s)
  rw [hf.other x u h (Ne.symm hx)]
  exact hu

end

/-- The endpoints that a level-setting command works on: the lighting channels it names that are leased to it (R176, R253, R262). -/
def State.lightTargets (s : State) (c : Cmd) : List Nat :=
  ((s.targets c).filter (fun h => !c.has 0x0002 || s.isLamp h)).filter (fun h => c.vctl == 0 || s.holdsLease c.vctl h)

theorem mem_lightTargets {s : State} {c : Cmd} {h : Nat} (hmem : h ∈ s.targets c) (hlamp : s.isLamp h = true)
    (hlease : c.vctl = 0 ∨ s.holdsLease c.vctl h = true) : h ∈ s.lightTargets c := by
  simp only [State.lightTargets, List.mem_filter, Bool.or_eq_true, beq_iff_eq]
  exact ⟨⟨hmem, .inr hlamp⟩, hlease⟩

theorem mem_targets_of_mem_lightTargets {s : State} {c : Cmd} {h : Nat} (hmem : h ∈ s.lightTargets c) : h ∈ s.targets c :=
  (List.mem_filter.1 (List.mem_filter.1 hmem).1).1

/-- Choosing elements with their places by what they are is choosing the elements. -/
theorem map_fst_filter_zipIdx {α : Type} (p : α → Bool) (l : List α) : (l.zipIdx.filter (fun e => p e.1)).map (·.1) = l.filter p := by
  conv_rhs => rw [← List.zipIdx_map_fst 0 l, List.filter_map]
  rfl

theorem onTargets_fst (c : Cmd) (s : State) (rank : Nat) (tlvs : List OTlv) (f : Nat → State → State) :
    (onTargets c s rank tlvs f).1 = (s.lightTargets c).foldl (fun s h => f h s) s := by
  unfold State.lightTargets
  rw [← map_fst_filter_zipIdx]
  rfl

/-- An accepted level-setting command has worked on the sources of each lighting channel it names that is leased to it, and on no other's. -/
theorem execOp_onTargets {i : OpInfo} {src : Src} {tlvs : List Tlv} {s s1 : State} {c : Cmd} {rank : Nat} {l : List OTlv} {f : Nat → State → State}
    (hf : OwnSources f) (hacc : accepted i src tlvs s = some (s1, c)) (hcommit : i.commit c s1 = onTargets c s1 rank l f) :
    ∃ t, execOp i src tlvs s = .next t ∧
      (∀ h (P : List LSrc → Prop), h ∈ s1.targets c → s.isLamp h = true → c.vctl = 0 ∨ s.holdsLease c.vctl h = true →
        (∀ u, SourcesOnly s1 u → P ((f h u).sources h)) → P (t.sources h)) ∧
      (∀ h, h ∉ s1.targets c → t.sources h = s.sources h) ∧
      AfterReply { s1 with slt := { s1.slt with srcs := t.slt.srcs, starts := t.slt.starts } } t := by
  obtain ⟨hdebit, -⟩ := acceptedIn_frame hacc
  have honly : SourcesOnly s1 (i.commit c s1).1 := by
    rw [hcommit, onTargets_fst]
    exact hf.sourcesOnly ..
  obtain ⟨t, hexec, hafter, -⟩ := execOp_commit (u := (i.commit c s1).1) hacc rfl honly.pending
  have hsources (h : Nat) : t.sources h = ((s1.lightTargets c).foldl (fun s h => f h s) s1).sources h := by
    rw [hafter.sources, hcommit, onTargets_fst]
  refine ⟨t, hexec, fun h P hmem hlamp hlease hP => ?_, fun h hmem => ?_, ?_⟩
  · rw [hsources]
    rw [← hdebit.isLamp] at hlamp
    rw [← hdebit.holdsLease] at hlease
    exact hf.sources_of_mem _ _ (mem_lightTargets hmem hlamp hlease) hP
  · rw [hsources, ← hdebit.sources]
    exact hf.sources_of_not_mem _ _ fun h => hmem (mem_targets_of_mem_lightTargets h)
  · rw [hafter.slt]
    unfold SourcesOnly at honly
    rw [← honly]
    exact hafter

/-! ### LIGHT_LEVEL, LIGHT_LEVEL_X and LIGHT_FADE (R254, R256, R257, R265) -/

/-- A level command on one endpoint. -/
def levelStep (c : Cmd) (h : Nat) (s : State) : State :=
  if c.has 0x0170 then endSrcs h (fun x => x.vctl == c.vctl && x.rank == rankOf c.vctl && !x.pin) s
  else setSrc h { rank := rankOf c.vctl, vctl := c.vctl, prog := .level ((if c.op = 0x0101 then c.level? else c.nat? 0x0003).getD 0) } s

theorem levelCommit_eq (c : Cmd) (s : State) : levelCommit c s = onTargets c s (rankOf c.vctl) [] (levelStep c) := rfl

theorem ownSources_levelStep (c : Cmd) : OwnSources (levelStep c) := by
  unfold levelStep
  cases c.has 0x0170 with
  | true => exact ownSources_endSrcs _
  | false => exact ownSources_setSrc fun _ _ => _

/-- A released source is ended, but for the EMERG input's (R257). -/
theorem pin_of_mem_released {v rank : Nat} {l : List LSrc} {y : LSrc}
    (hy : y ∈ l.filter (fun x => !(x.vctl == v && x.rank == rank && !x.pin))) (hrank : y.rank = rank) (hv : y.vctl = v) : y.pin = true := by
  have hkept := (List.mem_filter.1 hy).2
  simpa [hrank, hv] using hkept

/-- The row of an accepted LIGHT_LEVEL or LIGHT_LEVEL_X. -/
theorem execOp_levelCommit {i : OpInfo} {src : Src} {tlvs : List Tlv} {s s1 : State} {c : Cmd} {lv : Option Nat}
    (hacc : accepted i src tlvs s = some (s1, c)) (hcommit : i.commit = levelCommit) (hlv : (if c.op = 0x0101 then c.level? else c.nat? 0x0003) = lv) :
    ∃ t, execOp i src tlvs s = .next t ∧ LevelTaken lv c s s1 t := by
  obtain ⟨t, hexec, hself, hother, hafter⟩ := execOp_onTargets (ownSources_levelStep c) hacc (by rw [hcommit, levelCommit_eq])
  refine ⟨t, hexec, fun h hmem hlamp hlease hset => ?_, fun h hmem hlamp hlease hrel => ?_, hother, hafter⟩
  · refine hself h (fun l => ∃ y ∈ l, y.rank = rankOf c.vctl ∧ y.vctl = c.vctl ∧ y.prog = .level (lv.getD 0)) hmem hlamp hlease fun u _ => ?_
    unfold levelStep
    rw [hset, if_neg Bool.false_ne_true, hlv]
    exact ⟨_, mem_setSrc .., rfl, rfl, rfl⟩
  · refine hself h (fun l => ∀ y ∈ l, y.rank = rankOf c.vctl → y.vctl = c.vctl → y.pin = true) hmem hlamp hlease fun u _ y hy hrank hv => ?_
    unfold levelStep at hy
    rw [hrel, if_pos rfl, sources_endSrcs_self] at hy
    exact pin_of_mem_released hy hrank hv

/-! ### LIGHT_EMERGENCY (R256, R257, R281, R282) -/

/-- The lighting channels that a command names. -/
def State.lamps (s : State) (c : Cmd) : List Nat := (s.targets c).filter s.isLamp

theorem mem_lamps {s : State} {c : Cmd} {h : Nat} : h ∈ s.lamps c ↔ h ∈ s.targets c ∧ s.isLamp h = true := List.mem_filter

/-- The EMERGENCY source of a LIGHT_EMERGENCY. -/
def Cmd.emergencySrc (c : Cmd) : LSrc := { rank := 4, vctl := c.vctl, prog := .level ((c.level?).getD 0) }

/-- CODE 0 installs the source, CODE 1 ends it, CODE 2 writes the preset, and CODE 3 makes it invalid. -/
theorem emergencyCommit_fst (c : Cmd) (s : State) : (emergencyCommit c s).1 =
    if c.nat 0x000D = 0 then (s.lamps c).foldl (fun s h => setSrc h c.emergencySrc s) s
    else if c.nat 0x000D = 1 then (s.lamps c).foldl (fun s h => endSrcs h (fun x => x.rank == 4 && x.vctl == c.vctl && !x.pin) s) s
    else if c.nat 0x000D = 2 then s.sl (fun t => { t with preset := (s.lamps c).foldl (fun p h => tset p h ((c.level?).getD 0, true)) t.preset })
    else s.sl (fun t => { t with preset := tmap t.preset (fun _ e => (e.1, false)) }) := by
  unfold emergencyCommit
  split
  · rename_i h0
    rw [h0]
    rfl
  · rename_i h1
    rw [h1]
    rfl
  · rename_i h2
    rw [h2]
    rfl
  · rename_i h0 h1 h2
    rw [if_neg h0, if_neg h1, if_neg h2]

/-- CODE 0 and 1 change sources alone, and only those of the channels named. -/
theorem emergencyCommit_sources {c : Cmd} (s : State) (hcode : c.nat 0x000D ≤ 1) :
    ∃ f, OwnSources f ∧ (emergencyCommit c s).1 = (s.lamps c).foldl (fun s h => f h s) s := by
  obtain h0 | h1 : c.nat 0x000D = 0 ∨ c.nat 0x000D = 1 := by omega
  · exact ⟨_, ownSources_setSrc fun _ _ => c.emergencySrc, (emergencyCommit_fst c s).trans (if_pos h0)⟩
  · exact ⟨_, ownSources_endSrcs _, (emergencyCommit_fst c s).trans ((if_neg (by omega)).trans (if_pos h1))⟩

/-- CODE 2 and 3 change the preset alone. -/
theorem emergencyCommit_preset {c : Cmd} (s : State) (hcode : 2 ≤ c.nat 0x000D) :
    ∃ p, (emergencyCommit c s).1 = s.sl (fun t => { t with preset := p }) := by
  rw [emergencyCommit_fst, if_neg (by omega), if_neg (by omega)]
  split
  · exact ⟨_, rfl⟩
  · exact ⟨_, rfl⟩

theorem emergencyCommit_frame (c : Cmd) (s : State) : (emergencyCommit c s).1 =
    { s with slt := { s.slt with srcs := (emergencyCommit c s).1.slt.srcs, starts := (emergencyCommit c s).1.slt.starts,
                                 preset := (emergencyCommit c s).1.slt.preset } } := by
  by_cases hcode : c.nat 0x000D ≤ 1
  · obtain ⟨f, hf, he⟩ := emergencyCommit_sources s hcode
    have honly := hf.sourcesOnly (s.lamps c) s
    unfold SourcesOnly at honly
    rw [he, honly]
  · obtain ⟨p, he⟩ := emergencyCommit_preset s (by omega : 2 ≤ c.nat 0x000D)
    rw [he]
    rfl

theorem emergencyCommit_srcs {c : Cmd} (s : State) (hcode : 2 ≤ c.nat 0x000D) : (emergencyCommit c s).1.slt.srcs = s.slt.srcs := by
  obtain ⟨p, he⟩ := emergencyCommit_preset s hcode
  rw [he]
  rfl

theorem emergencyCommit_presetKept {c : Cmd} (s : State) (hcode : c.nat 0x000D ≤ 1) : (emergencyCommit c s).1.slt.preset = s.slt.preset := by
  obtain ⟨f, hf, he⟩ := emergencyCommit_sources s hcode
  have honly := hf.sourcesOnly (s.lamps c) s
  unfold SourcesOnly at honly
  rw [he, honly]

theorem emergencyCommit_other {c : Cmd} {s : State} {h : Nat} (hmem : h ∉ s.targets c) : (emergencyCommit c s).1.sources h = s.sources h := by
  by_cases hcode : c.nat 0x000D ≤ 1
  · obtain ⟨f, hf, he⟩ := emergencyCommit_sources s hcode
    rw [he]
    exact hf.sources_of_not_mem _ _ fun hl => hmem (mem_lamps.1 hl).1
  · unfold State.sources
    rw [emergencyCommit_srcs s (by omega)]

theorem emergencySrc_mem {c : Cmd} {s : State} {h : Nat} (hcode : c.nat 0x000D = 0) (hmem : h ∈ s.lamps c) :
    c.emergencySrc ∈ (emergencyCommit c s).1.sources h := by
  rw [emergencyCommit_fst, if_pos hcode]
  exact (ownSources_setSrc fun _ _ => c.emergencySrc).sources_of_mem _ _ hmem (P := (c.emergencySrc ∈ ·)) fun u _ => mem_setSrc ..

theorem emergencyCommit_ends {c : Cmd} {s : State} {h : Nat} (hcode : c.nat 0x000D = 1) (hmem : h ∈ s.lamps c) {y : LSrc}
    (hy : y ∈ (emergencyCommit c s).1.sources h) (hrank : y.rank = 4) (hv : y.vctl = c.vctl) : y.pin = true := by
  rw [emergencyCommit_fst, if_neg (by omega), if_pos hcode] at hy
  refine (ownSources_endSrcs fun x => x.rank == 4 && x.vctl == c.vctl && !x.pin).sources_of_mem _ s hmem
    (P := fun l => ∀ y ∈ l, y.rank = 4 → y.vctl = c.vctl → y.pin = true) (fun u _ y hy hrank hv => ?_) y hy hrank hv
  rw [sources_endSrcs_self] at hy
  simpa [hrank, hv] using (List.mem_filter.1 hy).2

theorem tget_preset_of_mem {c : Cmd} {s : State} {h : Nat} (hcode : c.nat 0x000D = 2) (hmem : h ∈ s.lamps c) :
    tget (emergencyCommit c s).1.slt.preset h = some ((c.level?).getD 0, true) := by
  rw [emergencyCommit_fst, if_neg (by omega), if_neg (by omega), if_pos hcode]
  refine foldl_reaches (f := fun p h => tset p h ((c.level?).getD 0, true)) (I := fun _ => True)
    (P := fun p => tget p h = some ((c.level?).getD 0, true)) (fun _ _ _ => trivial)
    (fun _ _ => tget_tset_self ..) (fun p x hx hp => ?_) hmem trivial
  rw [tget_tset_ne _ _ (Ne.symm hx)]
  exact hp

theorem preset_invalid {c : Cmd} {s : State} (hcode : c.nat 0x000D = 3) {e : Nat × Nat × Bool} (he : e ∈ (emergencyCommit c s).1.slt.preset) :
    e.2.2 = false := by
  rw [emergencyCommit_fst, if_neg (by omega), if_neg (by omega), if_neg (by omega)] at he
  obtain ⟨x, -, rfl⟩ := List.mem_map.1 he
  rfl

/-! ### LIGHT_LEASE (R175 to R177) -/

/-- A work on the elements of a list with their places that uses the elements alone is the work on the elements. -/
theorem foldl_zipIdx_fst {α β : Type} (f : β → α → β) (l : List α) (b : β) : l.zipIdx.foldl (fun b e => f b e.1) b = l.foldl f b := by
  conv_rhs => rw [← List.zipIdx_map_fst 0 l, List.foldl_map]

/-- The release of a lease by its holder. -/
def releaseLease (v : Nat) (s : State) (h : Nat) : State := if s.holdsLease v h then endLease h none s else s

/-- The asking for one lease, with the places of those refused so far. -/
def askLease (c : Cmd) (p : State × List Nat) (e : Nat × Nat) : State × List Nat :=
  ((acquireLease c.vctl e.1 (c.nat 0x0004) p.1).1, if (acquireLease c.vctl e.1 (c.nat 0x0004) p.1).2 then p.2 else p.2 ++ [e.2])

/-- CODE 1 gives the leases up that the vCtl holds; any other asks for them. -/
theorem opLightLease_commit (c : Cmd) (s : State) : (opLightLease.commit c s).1 =
    if c.nat 0x000D = 1 then (s.targets c).foldl (releaseLease c.vctl) s
    else (s.targets c).foldl (fun u h => (acquireLease c.vctl h (c.nat 0x0004) u).1) s := by
  unfold opLightLease
  dsimp only
  split
  · exact foldl_zipIdx_fst (releaseLease c.vctl) ..
  · rw [← foldl_zipIdx_fst (fun (u : State) h => (acquireLease c.vctl h (c.nat 0x0004) u).1)]
    exact (List.foldl_hom Prod.fst (g₁ := askLease c) fun _ _ => rfl).symm

theorem holdsLease_endLease_self (v h : Nat) (code : Option Nat) (s : State) : (endLease h code s).holdsLease v h = false := by
  unfold State.holdsLease
  rw [tget_endLease_self]

theorem holdsLease_releaseLease_self (v h : Nat) (s : State) : (releaseLease v s h).holdsLease v h = false := by
  unfold releaseLease
  split
  · exact holdsLease_endLease_self ..
  · rename_i hh
    exact Bool.eq_false_iff.2 hh

theorem leasesOnly_releaseLease (v : Nat) (s : State) (h : Nat) : LeasesOnly s (releaseLease v s h) := by
  unfold releaseLease
  split
  · exact leasesOnly_endLease ..
  · exact .refl s

theorem heldOn_releaseLease_ne (v : Nat) (s : State) {h j : Nat} (hj : j ≠ h) : (releaseLease v s h).heldOn j = s.heldOn j := by
  unfold releaseLease
  split
  · exact heldOn_endLease_ne _ _ hj
  · rfl

theorem holdsLease_of_heldOn {s t : State} {h : Nat} (e : t.heldOn h = s.heldOn h) (v : Nat) : t.holdsLease v h = s.holdsLease v h := by
  unfold State.holdsLease
  rw [show tget t.ten.leases h = tget s.ten.leases h from congrArg Prod.fst e]

theorem opLightLease_leasesOnly (c : Cmd) (s : State) : LeasesOnly s (opLightLease.commit c s).1 := by
  rw [opLightLease_commit]
  split
  · exact .foldl (fun u h => leasesOnly_releaseLease c.vctl u h) _ s
  · exact .foldl (fun u h => leasesOnly_acquireLease c.vctl h _ u) _ s

theorem opLightLease_other {c : Cmd} {s : State} {h : Nat} (hmem : h ∉ s.targets c) : (opLightLease.commit c s).1.heldOn h = s.heldOn h := by
  rw [opLightLease_commit]
  split
  · exact foldl_keeps _ (fun u : State => u.heldOn h) _ (fun u x hx => heldOn_releaseLease_ne _ u fun e => hmem (e ▸ hx)) s
  · exact foldl_keeps _ (fun u : State => u.heldOn h) _ (fun u x hx => heldOn_acquireLease_ne _ _ u fun e => hmem (e ▸ hx)) s

theorem opLightLease_releases {c : Cmd} {s : State} {h : Nat} (hcode : c.nat 0x000D = 1) (hmem : h ∈ s.targets c) :
    (opLightLease.commit c s).1.holdsLease c.vctl h = false := by
  rw [opLightLease_commit, if_pos hcode]
  refine foldl_reaches (I := fun _ => True) (P := fun u : State => u.holdsLease c.vctl h = false) (fun _ _ _ => trivial)
    (fun u _ => holdsLease_releaseLease_self ..) (fun u x hx hu => ?_) hmem trivial
  rw [holdsLease_of_heldOn (heldOn_releaseLease_ne _ u (Ne.symm hx))]
  exact hu

/-- The lease of `h` is free to the vCtl `v`: no other vCtl holds it, or `v` is the owner (R175, R177). -/
def State.leaseFree (s : State) (v h : Nat) : Prop := ∀ l, tget s.ten.leases h = some l → l.holder = v ∨ v = 0

theorem leaseFree_acquireLease {v h : Nat} {s : State} (x frames : Nat) (hfree : s.leaseFree v h) : (acquireLease v x frames s).1.leaseFree v h := by
  by_cases hx : h = x
  · subst hx
    intro l hl
    rw [tget_acquireLease_self frames hfree] at hl
    exact .inl (Option.some.inj hl ▸ rfl)
  · intro l hl
    exact hfree l ((congrArg Prod.fst (heldOn_acquireLease_ne v frames s hx)).symm.trans hl)

theorem opLightLease_grants {c : Cmd} {s : State} {h : Nat} (hcode : c.nat 0x000D = 0) (hmem : h ∈ s.targets c) (hfree : s.leaseFree c.vctl h) :
    tget (opLightLease.commit c s).1.ten.leases h =
      some ⟨c.vctl, if c.nat 0x0004 = 0 then none else some (s.frm.now + c.nat 0x0004)⟩ := by
  rw [opLightLease_commit, if_neg (by omega)]
  refine foldl_reaches (I := fun u : State => LeasesOnly s u ∧ u.leaseFree c.vctl h)
    (P := fun u : State => tget u.ten.leases h = some ⟨c.vctl, if c.nat 0x0004 = 0 then none else some (s.frm.now + c.nat 0x0004)⟩)
    (fun u x hu => ⟨hu.1.trans (leasesOnly_acquireLease ..), leaseFree_acquireLease _ _ hu.2⟩) (fun u hu => ?_) (fun u x hx hu => ?_) hmem
    ⟨.refl s, hfree⟩
  · have hnow : u.frm = s.frm := by rw [hu.1]
    rw [tget_acquireLease_self _ hu.2, hnow]
  · exact (congrArg Prod.fst (heldOn_acquireLease_ne _ _ u (Ne.symm hx))).trans hu

theorem opLightLease_refuses {c : Cmd} {s : State} {h : Nat} {l : Lease} (hcode : c.nat 0x000D = 0) (hl : tget s.ten.leases h = some l)
    (hv : l.holder ≠ c.vctl) (h0 : c.vctl ≠ 0) : tget (opLightLease.commit c s).1.ten.leases h = some l := by
  rw [opLightLease_commit, if_neg (by omega)]
  refine List.foldlRecOn (motive := fun u : State => tget u.ten.leases h = some l) _ _ hl fun u hu x _ => ?_
  by_cases hx : h = x
  · subst hx
    rw [acquireLease_refused _ hu hv h0]
    exact hu
  · exact (congrArg Prod.fst (heldOn_acquireLease_ne _ _ u hx)).trans hu

/-- Settles O18: a level command is the work of its source on each channel it serves, and a lease command the asking or the release on each endpoint. -/
theorem levelLeaseAndEmergencyCommands : Obligations.LevelLeaseAndEmergencyCommands := by
  refine ⟨?level, ?levelX, ?fade, ?emergency, ?lease⟩
  case level =>
    intro src tlvs s s1 c hacc
    exact execOp_levelCommit hacc rfl (if_pos (acceptedIn_frame hacc).2.1)
  case levelX =>
    intro src tlvs s s1 c hacc
    have hop : c.op = 0x1101 := (acceptedIn_frame hacc).2.1
    exact execOp_levelCommit hacc rfl (if_neg (by rw [hop]; decide))
  case fade =>
    intro src tlvs s s1 c hacc
    obtain ⟨hdebit, -⟩ := acceptedIn_frame hacc
    obtain ⟨t, hexec, hself, hother, hafter⟩ := execOp_onTargets (i := opLightFade) (ownSources_setSrc fun h s =>
      { rank := rankOf c.vctl, vctl := c.vctl, prog := s.fadeProg h ((c.level?).getD 0) (c.nat 0x0004) }) hacc rfl
    refine ⟨t, hexec, fun h hmem hlamp hlease => ?_, hother, hafter⟩
    refine hself h (fun l => ∃ y ∈ l, y.rank = rankOf c.vctl ∧ y.vctl = c.vctl ∧ y.prog = s.fadeProg h ((c.level?).getD 0) (c.nat 0x0004))
      hmem hlamp hlease fun u hu => ⟨_, mem_setSrc .., rfl, rfl, ?_⟩
    exact (hu.fadeProg ..).trans (hdebit.fadeProg ..)
  case emergency =>
    intro src tlvs s s1 c hacc
    obtain ⟨hdebit, -⟩ := acceptedIn_frame hacc
    obtain ⟨t, hexec, hafter, -⟩ := execOp_commit (u := (emergencyCommit c s1).1) hacc rfl (pending_emergencyCommit ..)
    have hlamps {h : Nat} (hmem : h ∈ s1.targets c) (hlamp : s.isLamp h = true) : h ∈ s1.lamps c :=
      mem_lamps.2 ⟨hmem, (hdebit.isLamp h).trans hlamp⟩
    refine ⟨t, hexec, fun h hcode hmem hlamp => ?_, fun h hcode hmem hlamp y hy => ?_, fun h hcode hmem hlamp => ?_, fun hcode e he => ?_,
      fun hcode => ?_, fun hcode => ?_, fun h hmem => ?_, ?_⟩
    · rw [hafter.sources]
      exact ⟨_, emergencySrc_mem hcode (hlamps hmem hlamp), rfl, rfl, rfl, rfl⟩
    · rw [hafter.sources] at hy
      exact emergencyCommit_ends hcode (hlamps hmem hlamp) hy
    · rw [hafter.slt]
      exact tget_preset_of_mem hcode (hlamps hmem hlamp)
    · rw [hafter.slt] at he
      exact preset_invalid hcode he
    · rw [hafter.slt, emergencyCommit_srcs s1 hcode, hdebit.slt]
    · rw [hafter.slt, emergencyCommit_presetKept s1 hcode, hdebit.slt]
    · rw [hafter.sources, emergencyCommit_other hmem, hdebit.sources]
    · rw [hafter.slt, ← emergencyCommit_frame]
      exact hafter
  case lease =>
    intro src tlvs s s1 c hacc
    obtain ⟨hdebit, -⟩ := acceptedIn_frame hacc
    obtain ⟨t, hexec, hafter, -⟩ := execOp_commit (u := (opLightLease.commit c s1).1) hacc rfl (pending_opLightLease ..)
    refine ⟨t, hexec, fun h hcode hmem hfree => ?_, fun h l hcode hl hv h0 => ?_, fun h hcode hmem => ?_, fun h hmem => ⟨?_, ?_⟩, ?_⟩
    · rw [hafter.ten, ← hdebit.now]
      refine opLightLease_grants hcode hmem fun l hl => hfree l ?_
      rw [← hdebit.leases]
      exact hl
    · rw [hafter.ten]
      rw [← hdebit.leases] at hl
      exact opLightLease_refuses hcode hl hv h0
    · unfold State.holdsLease
      rw [hafter.ten]
      exact opLightLease_releases hcode hmem
    · rw [hafter.ten, ← hdebit.leases]
      exact congrArg Prod.fst (opLightLease_other hmem)
    · rw [hafter.sources, ← hdebit.sources]
      exact congrArg Prod.snd (opLightLease_other hmem)
    · have honly := opLightLease_leasesOnly c s1
      have hevq : t.ses.evq = (opLightLease.commit c s1).1.ses.evq := by rw [hafter.frame]
      unfold LeasesOnly at honly
      rw [hafter.slt, hafter.ten, hevq, ← honly]
      exact hafter

end Sys2Proof.Machine
end

section
/-!
SUPPORT. What an accepted command has passed is still so at its commit: the payment changes tokens and counts alone, and no check of the tenancy
opcodes reads them (R141, R171 to R174).
-/
namespace Sys2Proof.Machine

/-! ### Tables -/

theorem tmap_tmod {α β : Type} (t : Tbl α) (k : Nat) {f : α → α} {g : Nat → α → β} (hfg : ∀ n a, g n (f a) = g n a) : tmap (tmod t k f) g = tmap t g := by
  unfold tmap tmod
  rw [List.map_map]
  refine List.map_congr_left fun e _ => ?_
  by_cases hk : e.1 = k <;> simp [hk, hfg]

theorem tmod_tmap {α β : Type} (t : Tbl α) (k : Nat) {f : α → α} {f' : β → β} {g : α → β} (hfg : ∀ a, f' (g a) = g (f a)) :
    tmod (tmap t (fun _ => g)) k f' = tmap (tmod t k f) (fun _ => g) := by
  unfold tmap tmod
  rw [List.map_map, List.map_map]
  refine List.map_congr_left fun e _ => ?_
  by_cases hk : e.1 = k <;> simp [hk, hfg]

theorem tset_tmap {α : Type} (t : Tbl α) (k : Nat) (v : α) (g : α → α) : tset (tmap t (fun _ => g)) k (g v) = tmap (tset t k v) (fun _ => g) := by
  induction t with
  | nil => rfl
  | cons e l ih =>
    obtain ⟨j, w⟩ := e
    simp only [tmap, List.map_cons, tset] at ih ⊢
    by_cases hlt : k < j
    · simp [hlt]
    · by_cases heq : j = k
      · simp [heq]
      · simp [hlt, heq, ih]

/-! ### The state apart from payments -/

/-- A vCtl apart from its tokens and what it has spent of its allowance. -/
def VCtl.unspent (c : VCtl) : VCtl := { c with tokens := 0, spent := 0 }

/-- A state apart from what the acceptance of a command changes: the outputs, the associations, the tokens and the count of commands. -/
def State.unpaid (s : State) : State :=
  { s with out := [], ses := { s.ses with assoc := [] }, ten := { s.ten with vctls := tmap s.ten.vctls (fun _ => VCtl.unspent) },
           frm := { s.frm with uid := 0 } }

theorem unpaid_debit (s : State) (c : Cmd) (k n : Nat) : ({ s.debit c k with frm := { s.frm with uid := n } } : State).unpaid = s.unpaid := by
  unfold State.debit
  dsimp only
  split
  · rfl
  · have hv : tmap (tmod s.ten.vctls c.vctl (fun v => { v with tokens := v.tokens - k, spent := v.spent + k })) (fun _ => VCtl.unspent) =
        tmap s.ten.vctls (fun _ => VCtl.unspent) := tmap_tmod _ _ fun _ _ => rfl
    simp only [State.unpaid, State.modVctl, hv]

theorem unpaid_submit {i : OpInfo} {key : AssocKey} {seq cmdid : Nat} {nd : Bool} {fl : Nat} {a : Assoc} {tlvs : List Tlv} {s s1 : State} {c : Cmd}
    (h : submit i key seq cmdid nd fl a tlvs s = (s1, .ok c)) : s1.unpaid = s.unpaid := by
  unfold submit at h
  split at h
  · cases h
  · split at h
    · cases h
    · cases h
      exact unpaid_debit ..

/-- What passing the examination says of the format, the ranges and the state conditions (R139, R141). -/
theorem examine_passed {i : OpInfo} {key : AssocKey} {seq cmdid : Nat} {nd : Bool} {fl uid : Nat} {a : Assoc} {tlvs : List Tlv} {s : State} {c : Cmd}
    (h : examine i key seq cmdid nd fl uid a tlvs s = .ok c) :
    i.accept c s = .ok () ∧ checkRanges i c = .ok () ∧ ∃ ign, checkFormat i tlvs = .ok (c.tlvs, ign) := by
  obtain ⟨ks, ign, hformat, hpass, rfl⟩ := examine_iff.1 h
  exact ⟨hpass _ (by simp [examChecks]), hpass _ (by simp [examChecks]), ign, hformat⟩

/-- An accepted command has passed the checks of its row, and only its payment lies between them and its commit. -/
theorem accepted_passed {i : OpInfo} {src : Src} {tlvs : List Tlv} {s s1 : State} {c : Cmd} (h : accepted i src tlvs s = some (s1, c)) :
    s1.unpaid = s.unpaid ∧ ∃ u, u.unpaid = s.unpaid ∧ i.accept c u = .ok () ∧ checkRanges i c = .ok () ∧
      ∃ ign, checkFormat i tlvs = .ok (c.tlvs, ign) := by
  obtain ⟨a, -, -, -, -, hsub, -⟩ := acceptedIn_inv h
  obtain ⟨hex, -⟩ := submit_ok_inv hsub
  refine ⟨(unpaid_submit hsub).trans rfl, _, ?_, examine_passed hex⟩
  rfl

/-- A check made at the acceptance that reads nothing of the payments passes at the commit. -/
theorem check_at_commit {i : OpInfo} {src : Src} {tlvs : List Tlv} {s s1 : State} {c : Cmd} {p : State → Except Err Unit}
    (h : accepted i src tlvs s = some (s1, c)) (hacc : ∀ u, i.accept c u = .ok () → p u = .ok ()) (hp : ∀ u : State, p u.unpaid = p u) :
    p s1 = .ok () := by
  obtain ⟨hpay, u, hu, hpass, -⟩ := accepted_passed h
  rw [← hp, hpay, ← hu, hp]
  exact hacc u hpass

/-- A format that passes names every identity that its row requires (R139). -/
theorem exists_mem_of_required {i : OpInfo} {tlvs : List Tlv} {ks : List (Nat × Bytes)} {ign : List Nat} {sp : TSpec}
    (h : checkFormat i tlvs = .ok (ks, ign)) (hsp : sp ∈ i.specs) (hreq : sp.req = true) : ∃ t ∈ ks, t.1 = sp.id := by
  unfold checkFormat at h
  dsimp only at h
  split at h
  · cases h
  · split at h
    · cases h
    · split at h
      · cases h
      · split at h
        · cases h
        · rename_i hmissing
          simp only [Except.ok.injEq, Prod.mk.injEq] at h
          rw [← h.1]
          have hany := List.find?_eq_none.1 hmissing sp hsp
          simp only [hreq, Bool.true_and, Bool.not_eq_true, Bool.not_eq_false', List.any_eq_true, beq_iff_eq] at hany
          obtain ⟨t, ht, hid⟩ := hany
          exact ⟨(t.id, t.val), List.mem_map_of_mem ht, hid⟩

/-- Where the ranges pass, each TLV is within the range that its row gives its identity (R141). -/
theorem rangeOk_of_checkRanges {i : OpInfo} {c : Cmd} {sp : TSpec} {x : Nat × Bytes} (h : checkRanges i c = .ok ()) (hsp : sp ∈ i.specs)
    (hx : x ∈ c.tlvs) (hid : sp.id = x.1) : rangeOk sp x.2 = true := by
  unfold checkRanges at h
  split at h
  · cases h
  · rename_i hok
    have hall := List.find?_eq_none.1 hok x hx
    simp only [List.any_eq_true, not_exists, Bool.and_eq_true, Bool.not_eq_true', not_and] at hall
    exact Bool.eq_true_of_not_eq_false (hall sp hsp (beq_iff_eq.2 hid))

/-- A number that a row requires, in a TLV of at most 8 bytes, lies within its range. -/
theorem accepted_nat_range {i : OpInfo} {src : Src} {tlvs : List Tlv} {s s1 : State} {c : Cmd} {sp : TSpec} {n : Nat}
    (h : accepted i src tlvs s = some (s1, c)) (hsp : sp ∈ i.specs) (hreq : sp.req = true) (hshape : sp.shape = .fixed n) (hn : n ≤ 8) :
    sp.lo ≤ c.nat sp.id ∧ c.nat sp.id ≤ sp.hi := by
  obtain ⟨-, w, -, -, hranges, ign, hformat⟩ := accepted_passed h
  obtain ⟨t, ht, hid⟩ := exists_mem_of_required hformat hsp hreq
  cases hfind : c.tlvs.find? (fun t => t.1 == sp.id) with
  | none => exact absurd hid (by simpa using List.find?_eq_none.1 hfind t ht)
  | some x =>
    have hx : x.1 = sp.id := by simpa using List.find?_some hfind
    have hrange := rangeOk_of_checkRanges hranges hsp (List.mem_of_find?_eq_some hfind) hx.symm
    have hnat : c.nat sp.id = beNat x.2 := by simp [Cmd.nat, Cmd.nat?, Cmd.tlv?, hfind]
    rw [hnat]
    unfold rangeOk at hrange
    rw [hshape] at hrange
    simpa [Nat.not_lt.2 hn] using hrange

/-! ### Readings that payments leave -/

section
variable (s : State) (v : Nat)

@[simp] theorem vctl?_unpaid : s.unpaid.vctl? v = (s.vctl? v).map VCtl.unspent :=
  tget_tmap s.ten.vctls (fun _ => VCtl.unspent) v

/-- What a vCtl has apart from its tokens is as before a payment. -/
theorem vctl?_map_of_unpaid {s t : State} (h : t.unpaid = s.unpaid) {α : Type} {g : VCtl → α} (hg : ∀ c, g c.unspent = g c) (v : Nat) :
    (t.vctl? v).map g = (s.vctl? v).map g := by
  have hu (u : State) : (u.vctl? v).map g = (u.unpaid.vctl? v).map g := by
    rw [vctl?_unpaid, Option.map_map]
    exact congrArg (fun f => (u.vctl? v).map f) (funext fun c => (hg c).symm)
  rw [hu t, hu s, h]

theorem modVctl_unpaid {f : VCtl → VCtl} (hf : ∀ c : VCtl, f c.unspent = (f c).unspent) : s.unpaid.modVctl v f = (s.modVctl v f).unpaid := by
  simp only [State.unpaid, State.modVctl, tmod_tmap _ _ hf]

@[simp] theorem active_unpaid : s.unpaid.active v = s.active v := by
  unfold State.active
  rw [vctl?_unpaid]
  cases s.vctl? v <;> rfl

@[simp] theorem epRights_unpaid (h : Nat) : s.unpaid.epRights v h = s.epRights v h := by
  unfold State.epRights
  rw [vctl?_unpaid]
  cases s.vctl? v <;> rfl

@[simp] theorem quotasOf_unpaid : s.unpaid.quotasOf v = s.quotasOf v := by
  unfold State.quotasOf
  rw [vctl?_unpaid]
  cases s.vctl? v <;> rfl

@[simp] theorem rateOf_unpaid : s.unpaid.rateOf v = s.rateOf v := by
  unfold State.rateOf
  rw [vctl?_unpaid]
  cases s.vctl? v <;> rfl

@[simp] theorem rateGranted_unpaid : s.unpaid.rateGranted v = s.rateGranted v := by
  unfold State.rateGranted
  rw [vctl?_unpaid]
  cases s.vctl? v <;> rfl

theorem tokLoad_unpaid (k : Nat) (x : Option Nat) : s.unpaid.tokLoad k x = s.tokLoad k x := List.foldl_map

@[simp] theorem choosePhase_unpaid (refill logP : Nat) : s.unpaid.choosePhase v refill logP = s.choosePhase v refill logP := by
  have hload : s.unpaid.phaseLoad = s.phaseLoad := by
    funext v refill logP ph
    simp only [State.phaseLoad, tokLoad_unpaid]
  unfold State.choosePhase
  rw [hload]

@[simp] theorem quotaSum_unpaid (f : Quotas → Nat) : s.unpaid.quotaSum v f = s.quotaSum v f := List.foldl_map

@[simp] theorem stringTags_unpaid (g : Nat) : s.unpaid.stringTags g = s.stringTags g := List.foldl_map

@[simp] theorem tenantStrings_unpaid : s.unpaid.tenantStrings = s.tenantStrings := congrArg sortNat (List.flatMap_map ..)

@[simp] theorem attached_unpaid : s.unpaid.attached v = s.attached v := rfl

@[simp] theorem portRate_unpaid (p : Nat) : s.unpaid.portRate p = s.portRate p := rfl

@[simp] theorem committed_unpaid (p : Nat) : s.unpaid.committed p = s.committed p := by
  have hkeys : s.unpaid.ten.vctls.map (·.1) = s.ten.vctls.map (·.1) := List.map_map
  have hrate : s.unpaid.rateGranted = s.rateGranted := funext fun w => rateGranted_unpaid s w
  simp only [State.committed, hkeys, attached_unpaid, hrate]

@[simp] theorem tenRes_unpaid : s.unpaid.tenRes = s.tenRes := by
  have hports (w : Nat) : s.unpaid.reservedPorts w = s.reservedPorts w := rfl
  have hallow (w p : Nat) : s.unpaid.allowance w p = s.allowance w p := by
    unfold State.allowance
    rw [rateOf_unpaid]
    rfl
  have hlist : s.unpaid.ten.vctls.map (fun e => ((s.unpaid.reservedPorts e.1).map (fun p => s.unpaid.allowance e.1 p)).foldl (· + ·) 0) =
      s.ten.vctls.map (fun e => ((s.reservedPorts e.1).map (fun p => s.allowance e.1 p)).foldl (· + ·) 0) := by
    simp only [hports, hallow]
    exact List.map_map
  unfold State.tenRes
  rw [hlist]

end

/-! ### Checks that payments leave (R162, R171, R172) -/

theorem targetActive_unpaid (c : Cmd) (s : State) : targetActive c s.unpaid = targetActive c s := by
  unfold targetActive
  rw [active_unpaid]

theorem quotaLimits_unpaid (v : Nat) (q : Quotas) (b : Bool) (s : State) : quotaLimits v q b s.unpaid = quotaLimits v q b s := by
  have hmod : s.unpaid.modVctl v (fun c => { c with q := q, rateNow := max c.rateNow q.rate }) =
      (s.modVctl v (fun c => { c with q := q, rateNow := max c.rateNow q.rate })).unpaid := modVctl_unpaid s v fun _ => rfl
  simp only [quotaLimits, hmod, choosePhase_unpaid, quotaSum_unpaid, quotasOf_unpaid, tenantStrings_unpaid, stringTags_unpaid, attached_unpaid,
    committed_unpaid, portRate_unpaid, tenRes_unpaid]

theorem createCheck_unpaid (c : Cmd) (s : State) : createCheck c s.unpaid = createCheck c s := by
  have hnew : s.unpaid.tn (fun t => { t with vctls := tset t.vctls c.target {} }) =
      (s.tn (fun t => { t with vctls := tset t.vctls c.target {} })).unpaid := by
    have hset := tset_tmap s.ten.vctls c.target {} VCtl.unspent
    simp only [State.unpaid, State.tn, ← hset]
    rfl
  simp only [createCheck, hnew, quotaLimits_unpaid, vctl?_unpaid, Option.isNone_map]

theorem removeCheck_unpaid (c : Cmd) (s : State) : removeCheck c s.unpaid = removeCheck c s := by
  unfold removeCheck
  rw [active_unpaid]

theorem quotaUse_unpaid (c : Cmd) (v : Nat) (q : Quotas) (s : State) : quotaUse c v q s.unpaid = quotaUse c v q s := rfl

theorem quotaSetCheck_unpaid (c : Cmd) (s : State) : quotaSetCheck c s.unpaid = quotaSetCheck c s := by
  simp only [quotaSetCheck, targetActive_unpaid, quotasOf_unpaid, quotaUse_unpaid, quotaLimits_unpaid]

theorem credCheck_unpaid (c : Cmd) (s : State) : credCheck c s.unpaid = credCheck c s := by
  unfold credCheck
  rw [targetActive_unpaid]

theorem regwinCheck_unpaid (c : Cmd) (s : State) : regwinCheck c s.unpaid = regwinCheck c s := by
  have hwindows : (s.unpaid.vctl? c.target).map (·.windows) = (s.vctl? c.target).map (·.windows) := by
    rw [vctl?_unpaid, Option.map_map]
    rfl
  simp only [regwinCheck, active_unpaid, hwindows]

end Sys2Proof.Machine
end

section
/-!
SUPPORT. What the end of a right or of a vCtl leaves alone: its leases, sources, groups, streams, domains and semaphores end, and strings, slates, boot,
frame and sessions stay (R163, R164, R170, R177, R247, R323, R429).
-/
namespace Sys2Proof.Machine

/-! ### Changes beside tenancy and slates -/

/-- From `s` to `t` only registers, events, the bridge, lamp checks, Geode, Quarry, the air unit, Flint, HBM, Lodestone and the outputs have changed. -/
def Aside (s t : State) : Prop :=
  t = { s with out := t.out, regs := t.regs, lds := t.lds, ses := { s.ses with evq := t.ses.evq }, brg := t.brg, lmp := t.lmp, geo := t.geo, qry := t.qry,
               air := t.air, flt := t.flt, thm := t.thm }

theorem Aside.refl (s : State) : Aside s s := rfl

theorem Aside.trans {s u t : State} (h : Aside s u) (k : Aside u t) : Aside s t := by
  unfold Aside at *
  rw [h] at k
  exact k

theorem Aside.foldl {α : Type} {f : State → α → State} (h : ∀ u x, Aside u (f u x)) (l : List α) (s : State) : Aside s (l.foldl f s) :=
  List.foldlRecOn l f (.refl s) fun u hu x _ => hu.trans (h u x)

theorem aside_raise (s : State) (key code : Nat) (tlvs : List OTlv) : Aside s (s.raise key code tlvs) := rfl

theorem aside_result (s : State) (key seq cmdid status : Nat) (tlvs : List OTlv) : Aside s (s.result key seq cmdid status tlvs) := rfl

theorem aside_modGbr (s : State) (g : Nat) (f : GrainBr → GrainBr) : Aside s (s.modGbr g f) := rfl

theorem aside_setFlag (s : State) (a k : Nat) : Aside s (s.setFlag a k) := rfl

theorem aside_setField (s : State) (a lo w x : Nat) : Aside s (s.setField a lo w x) := rfl

theorem aside_send (s : State) (k : Msg) (dst : Nat) (args : List Nat) (data : Bytes) : Aside s (s.send k dst args data) := rfl

theorem aside_qr (s : State) (f : Quarry → Quarry) : Aside s (s.qr f) := rfl

theorem aside_lm (s : State) (f : Lamps → Lamps) : Aside s (s.lm f) := rfl

theorem aside_raiseAon (v code : Nat) (mk : Nat → List OTlv) (s : State) : Aside s (raiseAon v code mk s) := by
  unfold raiseAon
  dsimp only
  split <;> rfl

/-! ### Semaphores (R243 to R247) -/

theorem aside_serveEntries (g fuel : Nat) (s : State) : Aside s (serveEntries g fuel s) := by
  induction fuel generalizing s with
  | zero => exact .refl s
  | succ fuel ih =>
    unfold serveEntries
    dsimp only
    split
    · exact .refl s
    · split
      · exact .refl s
      · refine Aside.trans ?_ (ih _)
        (repeat' split) <;> rfl

theorem aside_passSem (g h block : Nat) (s : State) : Aside s (passSem g h block s) := by
  unfold passSem
  split
  · exact .refl s
  · extract_lets free u
    have hrefused : Aside s u := .foldl (fun u w => aside_result u ..) _ s
    refine hrefused.trans ?_
    split
    · rfl
    · exact (aside_modGbr ..).trans (aside_serveEntries ..)

theorem aside_breakSem (g h block : Nat) (s : State) : Aside s (breakSem g h block s) := by
  unfold breakSem
  split
  · exact .refl s
  · exact (aside_modGbr ..).trans ((aside_setFlag ..).trans (aside_passSem ..))

theorem aside_semRemove (v : Nat) (s : State) : Aside s (semRemove v s) := by
  refine .foldl (fun u g => ?_) _ s
  dsimp only
  exact ((aside_modGbr u g _).trans (.foldl (fun w x => aside_breakSem _ _ _ w) _ _)).trans (aside_modGbr ..)

/-! ### Domains (R429) -/

theorem aside_programSlots (hs : List Nat) (s : State) : Aside s (programSlots hs s) := .foldl (fun u _ => aside_send u ..) hs s

theorem aside_dropMembers (k : Nat) (eps uplinks : List Nat) (s : State) : Aside s (dropMembers k eps uplinks s) := by
  unfold dropMembers
  split
  · exact .refl s
  · exact (aside_qr ..).trans (aside_programSlots ..)

theorem aside_detachAll (v : Nat) (s : State) : Aside s (detachAll v s) := .foldl (fun u _ => aside_dropMembers _ _ _ u) _ s

theorem aside_detachEps (v : Nat) (hs : List Nat) (s : State) : Aside s (detachEps v hs s) := .foldl (fun u _ => aside_dropMembers _ _ _ u) _ s

/-! ### Changes that reach the light too -/

/-- From `s` to `t` leases and light sources have changed besides. -/
def LightEnds (s t : State) : Prop :=
  t = { s with out := t.out, regs := t.regs, lds := t.lds, ses := { s.ses with evq := t.ses.evq }, brg := t.brg, lmp := t.lmp, geo := t.geo, qry := t.qry,
               air := t.air, flt := t.flt, thm := t.thm, ten := { s.ten with leases := t.ten.leases },
               slt := { s.slt with srcs := t.slt.srcs, starts := t.slt.starts } }

theorem LightEnds.refl (s : State) : LightEnds s s := rfl

theorem LightEnds.trans {s u t : State} (h : LightEnds s u) (k : LightEnds u t) : LightEnds s t := by
  unfold LightEnds at *
  rw [h] at k
  exact k

theorem LightEnds.foldl {α : Type} {f : State → α → State} (h : ∀ u x, LightEnds u (f u x)) (l : List α) (s : State) : LightEnds s (l.foldl f s) :=
  List.foldlRecOn l f (.refl s) fun u hu x _ => hu.trans (h u x)

theorem Aside.lightEnds {s t : State} (h : Aside s t) : LightEnds s t := by
  unfold Aside at h
  rw [h]
  rfl

theorem LeasesOnly.lightEnds {s t : State} (h : LeasesOnly s t) : LightEnds s t := by
  unfold LeasesOnly at h
  rw [h]
  rfl

theorem SourcesOnly.lightEnds {s t : State} (h : SourcesOnly s t) : LightEnds s t := h.leasesOnly.lightEnds

/-- A change of a vCtl beforehand is no part of it. -/
theorem LightEnds.modVctl {s t : State} (h : LightEnds s t) (v : Nat) (f : VCtl → VCtl) : LightEnds (s.modVctl v f) (t.modVctl v f) := by
  unfold LightEnds at h
  rw [h]
  rfl

theorem LightEnds.vctls {s t : State} (h : LightEnds s t) : t.ten.vctls = s.ten.vctls := by
  unfold LightEnds at h
  rw [h]

theorem LightEnds.vctl? {s t : State} (h : LightEnds s t) (v : Nat) : t.vctl? v = s.vctl? v := by
  unfold State.vctl?
  rw [h.vctls]

/-! ### All-or-none groups (R323 to R326) -/

theorem sourcesOnly_syncFail (v : Nat) (s : State) (h : Nat) : SourcesOnly s (syncFail v s h) := by
  unfold syncFail
  split
  · split
    · exact .refl s
    · exact sourcesOnly_setSrc ..
  · exact sourcesOnly_endSrcs ..

theorem lightEnds_unlatch (v g code : Nat) (s : State) : LightEnds s (unlatch v g code s) := by
  unfold unlatch
  split
  · exact .refl s
  · split
    · exact .refl s
    · extract_lets st s1 s2
      have hsync : SourcesOnly s1 s2 := .foldl (fun u h => sourcesOnly_syncFail v u h) _ s1
      exact ((aside_lm s _).lightEnds.trans hsync.lightEnds).trans ((aside_setFlag ..).trans (aside_raiseAon ..)).lightEnds

theorem lightEnds_unflag (v g code : Nat) (s : State) : LightEnds s (unflag v g code s) := by
  unfold unflag
  exact (lightEnds_unlatch v g code s).trans (aside_lm ..).lightEnds

theorem lightEnds_aonLeft (v g h : Nat) (s : State) : LightEnds s (aonLeft v g h s) := by
  unfold aonLeft
  split
  · exact .refl s
  · have hsync := (sourcesOnly_syncFail v s h).lightEnds
    dsimp only
    split
    · exact (hsync.trans (aside_raise ..).lightEnds).trans (lightEnds_unflag ..)
    · exact hsync.trans (aside_raise ..).lightEnds

/-! ### Rights (R164, R167 to R170) -/

/-- The rights table after each change of a list, in its order. -/
def putRights (l : List (Nat × Nat × Nat)) (r : Tbl Nat) : Tbl Nat := l.foldl (fun r e => tput 0 r e.1 e.2.2) r

theorem tgetD_putRights {l : List (Nat × Nat × Nat)} {g : Nat → Nat} (hl : ∀ e ∈ l, e.2.2 = g e.1) (h : Nat) (r : Tbl Nat) :
    tgetD (putRights l r) h 0 = if h ∈ l.map (·.1) then g h else tgetD r h 0 := by
  induction l generalizing r with
  | nil => rfl
  | cons e l ih =>
    refine (ih (fun x hx => hl x (List.mem_cons_of_mem _ hx)) _).trans ?_
    simp only [List.map_cons, List.mem_cons]
    by_cases hmem : h ∈ l.map (·.1)
    · rw [if_pos hmem, if_pos (.inr hmem)]
    · rw [if_neg hmem]
      by_cases he : h = e.1
      · rw [if_pos (.inl he), he, tgetD_tput_self, hl e (List.mem_cons_self ..)]
      · rw [if_neg (not_or.2 ⟨he, hmem⟩), tgetD_tput_ne _ _ _ he]

theorem tmod_id {α : Type} (t : Tbl α) (k : Nat) : tmod t k (fun a => a) = t := by
  refine (List.map_congr_left fun e _ => ?_).trans (List.map_id t)
  split <;> rfl

theorem modVctl_modVctl (s : State) (v : Nat) (f g : VCtl → VCtl) : (s.modVctl v f).modVctl v g = s.modVctl v (fun c => g (f c)) := by
  simp only [State.modVctl, tmod_tmod]

theorem modVctl_id (s : State) (v : Nat) : s.modVctl v (fun c => c) = s := by
  simp only [State.modVctl, tmod_id]

theorem lightEnds_loseRights (v h old new : Nat) (s : State) :
    LightEnds (s.modVctl v (fun c => { c with rights := tput 0 c.rights h new })) (loseRights v h old new s) := by
  unfold loseRights
  extract_lets lost s1 groups s2 s3 s4
  have hlease : LightEnds s s1 := by
    unfold s1
    split
    · exact (leasesOnly_endLease ..).lightEnds
    · exact .refl s
  have hgroups : LightEnds s2 s3 := by
    unfold s3
    split
    · exact .foldl (fun u g => lightEnds_aonLeft ..) _ _
    · exact .refl s2
  have hstreams : LightEnds s3 s4 := by
    unfold s4
    split <;> rfl
  refine (((hlease.modVctl v _).trans hgroups).trans hstreams).trans ?_
  split
  · exact (aside_detachEps ..).lightEnds
  · exact .refl s4

theorem lightEnds_loseRights_foldl (v : Nat) (l : List (Nat × Nat × Nat)) (s : State) :
    LightEnds (s.modVctl v (fun c => { c with rights := putRights l c.rights })) (l.foldl (fun s e => loseRights v e.1 e.2.1 e.2.2 s) s) := by
  induction l generalizing s with
  | nil =>
    rw [show s.modVctl v (fun c => { c with rights := putRights [] c.rights }) = s from modVctl_id s v]
    exact .refl s
  | cons e l ih =>
    refine LightEnds.trans ?_ (ih (loseRights v e.1 e.2.1 e.2.2 s))
    have hfirst := (lightEnds_loseRights v e.1 e.2.1 e.2.2 s).modVctl v (fun c => { c with rights := putRights l c.rights })
    rw [modVctl_modVctl] at hfirst
    exact hfirst

/-- The new numbering of a view is all that its change touches, but for its event (R164). -/
theorem changeView_cases (v : Nat) (gone new : List Nat) (s : State) :
    ∃ w : VCtl → List LocalEp, LightEnds (s.modVctl v (fun c => { c with view := w c })) (changeView v gone new s) := by
  unfold changeView
  have hkeep : LightEnds (s.modVctl v (fun c => { c with view := c.view })) s := by
    rw [modVctl_id]
    exact .refl s
  split
  · exact ⟨_, hkeep⟩
  · split
    · exact ⟨_, hkeep⟩
    · exact ⟨fun _ => _, rfl⟩

/-- The changes of rights that `mk` makes on a list of handles. -/
def State.rightsChange (s : State) (v : Nat) (hs : List Nat) (mk : Nat → Nat) : List (Nat × Nat × Nat) :=
  (hs.map (fun h => (h, s.epRights v h, mk (s.epRights v h)))).filter (fun e => e.2.1 != e.2.2)

theorem setEpRights_cases (v : Nat) (hs : List Nat) (mk : Nat → Nat) (s : State) :
    ∃ w : VCtl → List LocalEp, LightEnds (s.modVctl v (fun c => { c with rights := putRights (s.rightsChange v hs mk) c.rights, view := w c }))
      (setEpRights v hs mk s) := by
  have hlose := lightEnds_loseRights_foldl v (s.rightsChange v hs mk) s
  obtain ⟨w, hview⟩ := changeView_cases v (((s.rightsChange v hs mk).filter (fun e => bit e.2.1 0 && !bit e.2.2 0)).map (·.1))
    (((s.rightsChange v hs mk).filter (fun e => !bit e.2.1 0 && bit e.2.2 0)).map (·.1))
    ((s.rightsChange v hs mk).foldl (fun s e => loseRights v e.1 e.2.1 e.2.2 s) s)
  refine ⟨fun c => w { c with rights := putRights (s.rightsChange v hs mk) c.rights }, ?_⟩
  have hboth := (hlose.modVctl v (fun c => { c with view := w c })).trans hview
  rw [modVctl_modVctl] at hboth
  exact hboth

end Sys2Proof.Machine
end

section
/-!
SUPPORT. What the answer to a command and the grant of quotas leave alone, what the checks of the owner's commands say of the TARGET, and the effects of
VCTL_CREATE, QUOTA_SET and the end of REMOVING (R142, R161 to R163, R171 to R173, R580, R581).
-/
namespace Sys2Proof.Machine

theorem AfterReply.geo {u t : State} (h : AfterReply u t) : t.geo = u.geo := by rw [h.frame]

theorem AfterReply.brg {u t : State} (h : AfterReply u t) : t.brg = u.brg := by rw [h.frame]

theorem AfterReply.boot {u t : State} (h : AfterReply u t) : t.boot = u.boot := by rw [h.frame]

theorem AfterReply.vctl? {u t : State} (h : AfterReply u t) (v : Nat) : t.vctl? v = u.vctl? v := by
  unfold State.vctl?
  rw [h.ten]

theorem AfterDebit.geo {s t : State} (h : AfterDebit s t) : t.geo = s.geo := by
  unfold AfterDebit at h
  rw [h]

theorem AfterDebit.brg {s t : State} (h : AfterDebit s t) : t.brg = s.brg := by
  unfold AfterDebit at h
  rw [h]

theorem AfterDebit.boot {s t : State} (h : AfterDebit s t) : t.boot = s.boot := by
  unfold AfterDebit at h
  rw [h]

theorem AfterDebit.strs {s t : State} (h : AfterDebit s t) : t.strs = s.strs := by
  unfold AfterDebit at h
  rw [h]

theorem AfterDebit.incarn {s t : State} (h : AfterDebit s t) : t.ten.incarn = s.ten.incarn := by
  unfold AfterDebit at h
  rw [h]

/-! ### Associations through an answer (R134, R142, R581) -/

section
variable {α : Type} {t : Tbl α} {n : Nat} {P : α → Prop}

theorem mem_of_tget {v : α} (h : tget t n = some v) : (n, v) ∈ t := by
  induction t with
  | nil => cases h
  | cons e l ih =>
    obtain ⟨j, w⟩ := e
    by_cases hk : j = n
    · cases (if_pos hk).symm.trans h
      rw [hk]
      exact List.mem_cons_self ..
    · exact List.mem_cons_of_mem _ (ih ((if_neg hk).symm.trans h))

theorem tget_tmod_of_none (k : Nat) (f : α → α) (h : tget t n = none) : tget (tmod t k f) n = none := by
  by_cases hk : n = k
  · subst hk
    rw [tget_tmod_self, h]
    rfl
  · rw [tget_tmod_ne _ _ hk, h]

/-- A change that keeps `P` keeps it for the entries of every key. -/
theorem entriesAt_tmod (h : EntriesAt t n P) (k : Nat) {f : α → α} (hf : ∀ a, P a → P (f a)) : EntriesAt (tmod t k f) n P := by
  intro e he hn
  obtain ⟨x, hx, rfl⟩ := List.mem_map.1 he
  by_cases hk : x.1 = k
  · rw [if_pos hk] at hn ⊢
    exact hf _ (h x hx hn)
  · rw [if_neg hk] at hn ⊢
    exact h x hx hn

end

theorem emitOn_absent {n : Nat} {s : State} (k : AssocKey) (o : Out) (h : tget s.ses.assoc n = none) : tget (s.emitOn k o).ses.assoc n = none := by
  unfold State.emitOn
  split
  · rename_i a ha
    have hn : n ≠ evKey k := by
      rintro rfl
      rw [h] at ha
      cases ha
    rw [ses_sendVia]
    exact (tget_tset_ne _ _ hn).trans h
  · exact h

theorem emitOn_closing {n : Nat} {s : State} (k : AssocKey) (o : Out) (h : EntriesAt s.ses.assoc n (·.closing = true)) :
    EntriesAt (s.emitOn k o).ses.assoc n (·.closing = true) := by
  unfold State.emitOn
  split
  · rename_i a ha
    rw [ses_sendVia]
    intro e he hn
    obtain rfl | he := mem_tset _ _ _ _ he
    · exact h (evKey k, a) (mem_of_tget ha) hn
    · exact h e he hn
  · exact h

theorem sendReply_absent {n : Nat} {s : State} (key : AssocKey) (ver : Nat × Nat) (seq : Nat) (parts : List (List Reply))
    (h : tget s.ses.assoc n = none) : tget (sendReply key ver seq parts s).ses.assoc n = none :=
  List.foldlRecOn (motive := fun v : State => tget v.ses.assoc n = none) _ _ h fun _ hv _ _ => emitOn_absent _ _ hv

theorem sendReply_closing {n : Nat} {s : State} (key : AssocKey) (ver : Nat × Nat) (seq : Nat) (parts : List (List Reply))
    (h : EntriesAt s.ses.assoc n (·.closing = true)) : EntriesAt (sendReply key ver seq parts s).ses.assoc n (·.closing = true) :=
  List.foldlRecOn (motive := fun v : State => EntriesAt v.ses.assoc n (·.closing = true)) _ _ h fun _ hv _ _ => emitOn_closing _ _ hv

theorem noteClose_absent {n : Nat} {s : State} (k : AssocKey) (rs : List Reply) (h : tget s.ses.assoc n = none) :
    tget (noteClose k rs s).ses.assoc n = none := by
  unfold noteClose
  split
  · exact tget_tmod_of_none (evKey k) (fun a => { a with closing := true }) h
  · exact h

theorem noteClose_closing {n : Nat} {s : State} (k : AssocKey) (rs : List Reply) (h : EntriesAt s.ses.assoc n (·.closing = true)) :
    EntriesAt (noteClose k rs s).ses.assoc n (·.closing = true) := by
  unfold noteClose
  split
  · exact entriesAt_tmod h (evKey k) (f := fun a => { a with closing := true }) fun _ _ => rfl
  · exact h

/-- An answer opens no association. -/
theorem answer_absent (m : Nat) {src : Src} {r : Reply} {n : Nat} {u : State} (h : tget u.ses.assoc n = none) :
    tget (answer m src (.done r) u).ses.assoc n = none := by
  unfold answer
  split
  · rw [settle_eq_foldl]
    exact List.foldlRecOn (motive := fun v : State => tget v.ses.assoc n = none) _ _
      (noteClose_absent _ _ (sendReply_absent _ _ _ _ h)) fun _ hv e _ => settleOne_none e hv
  · exact h
  · exact h

/-- The answer to a command at a beat 0 ends every association that closes (R134, R581). -/
theorem answer_ends (m : Nat) {src : Src} {r : Reply} {n : Nat} {u : State} (hbeat : u.frm.beat = 0) (ha : (u.assoc? src.key).isSome = true)
    (h : EntriesAt u.ses.assoc n (·.closing = true)) : tget (answer m src (.done r) u).ses.assoc n = none := by
  obtain ⟨a, ha⟩ := Option.isSome_iff_exists.1 ha
  unfold answer
  simp only [hbeat, ha]
  exact settle_closes (noteClose_closing _ _ (sendReply_closing _ _ _ _ h))

/-- An accepted command whose commit leaves the queue is answered in the state of its commit. -/
theorem execOp_answer {i : OpInfo} {src : Src} {tlvs : List Tlv} {s s1 u : State} {c : Cmd} {r : Reply} (h : accepted i src tlvs s = some (s1, c))
    (hcommit : i.commit c s1 = (u, r)) (hqueue : u.pending = s1.pending) : execOp i src tlvs s = .next (answer 3 src (.done r) u) := by
  have hrun := runAs_eq_answer (m := 3) h
  rw [hcommit] at hrun
  exact done_eq_next hrun ((afterReply_answer ..).pending_eq.trans (hqueue.trans (acceptedIn_frame h).1.pending))

/-! ### What the checks of the owner's commands say (R162, R580) -/

theorem need_ok {p : Bool} {e : Err} (h : need p e = .ok ()) : p = true := by
  by_contra hp
  rw [need_false e (Bool.eq_false_iff.2 hp)] at h
  cases h

theorem need_bind_ok {α : Type} {p : Bool} {e : Err} {f : Unit → Except Err α} {x : α} (h : (need p e >>= f) = .ok x) : p = true := by
  by_contra hp
  rw [need_false e (Bool.eq_false_iff.2 hp)] at h
  cases h

theorem exists_of_active {s : State} {v : Nat} (h : s.active v = true) : ∃ x, s.vctl? v = some x ∧ x.st = .active := by
  unfold State.active at h
  split at h
  · exact ⟨_, ‹_›, beq_iff_eq.1 h⟩
  · cases h

theorem active_of_unpaid {s t : State} (h : t.unpaid = s.unpaid) (v : Nat) : t.active v = s.active v := by
  rw [← active_unpaid t, h, active_unpaid]

theorem quotasOf_of_unpaid {s t : State} (h : t.unpaid = s.unpaid) (v : Nat) : t.quotasOf v = s.quotasOf v := by
  rw [← quotasOf_unpaid t, h, quotasOf_unpaid]

theorem vctl?_isNone_of_unpaid {s t : State} (h : t.unpaid = s.unpaid) (v : Nat) : (t.vctl? v).isNone = (s.vctl? v).isNone := by
  have hmap := vctl?_map_of_unpaid h (g := fun _ => ()) (fun _ => rfl) v
  rw [← Option.isNone_map (f := fun _ : VCtl => ()), hmap, Option.isNone_map]

theorem createCheck_ok {c : Cmd} {s : State} (h : createCheck c s = .ok ()) : 2 ≤ c.target ∧ s.vctl? c.target = none := by
  simpa using need_bind_ok h

theorem removeCheck_ok {c : Cmd} {s : State} (h : removeCheck c s = .ok ()) : 2 ≤ c.target ∧ s.active c.target = true := by
  simpa using need_ok h

theorem targetActive_ok {c : Cmd} {s : State} (h : targetActive c s = .ok ()) : s.active c.target = true := need_ok h

theorem quotaSetCheck_ok {c : Cmd} {s : State} (h : quotaSetCheck c s = .ok ()) : s.active c.target = true := need_bind_ok h

/-! ### Grants of quotas (R171 to R173) -/

/-- From `s` to `t` only events, the bridge, the workspace pages, the DMA channels and the timer pool have changed. -/
def PoolsOnly (s t : State) : Prop :=
  t = { s with brg := t.brg, qry := t.qry, thm := t.thm, lds := t.lds, ses := { s.ses with evq := t.ses.evq } }

theorem PoolsOnly.refl (s : State) : PoolsOnly s s := rfl

theorem PoolsOnly.trans {s u t : State} (h : PoolsOnly s u) (k : PoolsOnly u t) : PoolsOnly s t := by
  unfold PoolsOnly at *
  rw [h] at k
  exact k

theorem PoolsOnly.foldl {α : Type} {f : State → α → State} (h : ∀ u x, PoolsOnly u (f u x)) (l : List α) (s : State) : PoolsOnly s (l.foldl f s) :=
  List.foldlRecOn l f (.refl s) fun u hu x _ => hu.trans (h u x)

theorem poolsOnly_unwriteMib (s : State) (p : Nat) : PoolsOnly s (s.unwriteMib p) := rfl

theorem poolsOnly_qr (s : State) (f : Quarry → Quarry) : PoolsOnly s (s.qr f) := rfl

theorem poolsOnly_setWorkspace (v n : Nat) (s : State) : PoolsOnly s (setWorkspace v n s) := by
  have hlost : PoolsOnly s (((s.pages v).drop n).foldl (fun s p => s.unwriteMib p) s) := .foldl (fun u p => poolsOnly_unwriteMib u p) _ s
  exact hlost.trans rfl

theorem poolsOnly_setTimers (v n : Nat) (s : State) : PoolsOnly s (setTimers v n s) := rfl

theorem poolsOnly_setDmaChans (v n : Nat) (s : State) : PoolsOnly s (setDmaChans v n s) := by
  unfold setDmaChans
  exact (PoolsOnly.foldl (fun u _ => poolsOnly_qr u _) _ s).trans (.foldl (fun u _ => poolsOnly_qr u _) _ _)

theorem poolsOnly_bridgeForce (v : Nat) (s : State) : PoolsOnly s (bridgeForce v s) := rfl

/-- Quotas in force: a new refill takes its phase, and a lower rate or share waits (R172, R173, R577). -/
def VCtl.granted (q : Quotas) (phase : Option Nat) (c : VCtl) : VCtl :=
  { c with q := q, phase := phase.getD c.phase, rateNow := max c.rateNow q.rate, dwellNow := max c.dwellNow q.dwell }

/-- A grant gives the vCtl its quotas and changes the pools beside. -/
theorem giveQuotas_cases (v : Nat) (q : Quotas) (refillSet : Bool) (s : State) :
    ∃ ph, PoolsOnly (s.modVctl v (VCtl.granted q ph)) (giveQuotas v q refillSet s) := by
  refine ⟨if refillSet then some (s.choosePhase v q.refill q.logP).1 else none, ?_⟩
  have hpools (u : State) : PoolsOnly u (setDmaChans v q.dmaCh (setTimers v q.timers (setWorkspace v q.workspace u))) :=
    (poolsOnly_setWorkspace ..).trans ((poolsOnly_setTimers ..).trans (poolsOnly_setDmaChans ..))
  cases refillSet with
  | true => exact hpools _
  | false => exact hpools _

end Sys2Proof.Machine
end

section
/-!
SUPPORT. The effects of VCTL_CREATE, QUOTA_SET, REGWIN_GRANT and of the end of REMOVING (R161 to R163, R171 to R173, R185, R582). Model's choices: what counts
as use of a quota, that a COUNT of 0 removes every window at its address (log 28), and when a removed vCtl is gone (log 31).
-/
namespace Sys2Proof.Machine

theorem vctl?_modVctl_self (s : State) (v : Nat) (f : VCtl → VCtl) : (s.modVctl v f).vctl? v = (s.vctl? v).map f := tget_tmod_self ..

theorem vctl?_modVctl_ne (s : State) {v w : Nat} (f : VCtl → VCtl) (h : w ≠ v) : (s.modVctl v f).vctl? w = s.vctl? w := tget_tmod_ne _ _ h

section
variable {src : Src} {tlvs : List Tlv} {s s1 : State} {c : Cmd}

theorem vctlCreate_commits (h : createCheck c s = .ok ()) :
    opVctlCreate.commit c s = (createVctl c.target (c.quotas tenantQuotas) s, c.ok) := by
  simp only [opVctlCreate, h]

theorem vctlRemove_commits (h : removeCheck c s = .ok ()) : opVctlRemove.commit c s = (removeVctl c.target s, c.ok) := by
  simp only [opVctlRemove, h]

theorem quotaSet_commits (h : quotaSetCheck c s = .ok ()) : opQuotaSet.commit c s =
    (quotaChanged c.target (giveQuotas c.target (c.quotas (s.quotasOf c.target)) (c.has 0x0110) s), c.ok) := by
  simp only [opQuotaSet, h]

theorem rightsSet_commits (h : rightsCheck c s = .ok ()) : opRightsSet.commit c s = (applyRights c s, c.ok) := by
  simp only [opRightsSet, h]

theorem credSet_commits (h : credCheck c s = .ok ()) : opCredSet.commit c s = (c.tlvs.foldl (credTlv c.target) s, c.ok) := by
  simp only [opCredSet, h]

theorem regwinGrant_commits (h : regwinCheck c s = .ok ()) : opRegwinGrant.commit c s =
    (s.modVctl c.target (fun x => { x with windows := putWindow (c.nat 0x0011) (c.nat 0x000F) x.windows }), c.ok) := by
  simp only [opRegwinGrant, h]

end

/-! ### VCTL_CREATE (R161, R162, R173) -/

/-- The state with the number listed, before its quotas. -/
def State.opened (s : State) (v : Nat) : State :=
  { s with ten := { s.ten with vctls := tset s.ten.vctls v {}, incarn := tset s.ten.incarn v ((tgetD s.ten.incarn v 0 + 1) % 2 ^ 32) },
           ses := { s.ses with evq := terase s.ses.evq v } }

/-- A creation lists a new entry with its quotas and a new incarnation; beside it events and pools change. -/
theorem createVctl_cases (v : Nat) (q : Quotas) (s : State) : ∃ ph, PoolsOnly ((s.opened v).modVctl v (VCtl.granted q ph)) (createVctl v q s) := by
  obtain ⟨ph, hgive⟩ := giveQuotas_cases v q true (s.opened v)
  exact ⟨ph, hgive.trans (u := giveQuotas v q true (s.opened v)) rfl⟩

/-! ### QUOTA_SET (R171, R172, R186) -/

theorem poolsOnly_quotaChanged (v : Nat) (s : State) : PoolsOnly s (quotaChanged v s) := by
  unfold quotaChanged
  split
  · rfl
  · exact .refl s

theorem quotaChanged_giveQuotas_cases (v : Nat) (q : Quotas) (b : Bool) (s : State) :
    ∃ ph, PoolsOnly (s.modVctl v (VCtl.granted q ph)) (quotaChanged v (giveQuotas v q b s)) := by
  obtain ⟨ph, hgive⟩ := giveQuotas_cases v q b s
  exact ⟨ph, hgive.trans (poolsOnly_quotaChanged ..)⟩

/-! ### The end of REMOVING (R162, R163, R577) -/

/-- The state with the number taken from the list. -/
def State.absent (s : State) (v : Nat) : State := s.tn (fun t => { t with vctls := terase t.vctls v })

theorem endRemoval_cases (v : Nat) (s : State) : PoolsOnly (s.absent v) (endRemoval v s) := by
  have hpools : PoolsOnly s (setDmaChans v 0 (setTimers v 0 (setWorkspace v 0 (bridgeForce v s)))) :=
    (poolsOnly_bridgeForce ..).trans ((poolsOnly_setWorkspace ..).trans ((poolsOnly_setTimers ..).trans (poolsOnly_setDmaChans ..)))
  unfold endRemoval
  extract_lets u w
  have habsent : PoolsOnly (s.absent v) w := by
    unfold PoolsOnly at hpools
    unfold w u
    rw [hpools]
    rfl
  exact habsent.trans rfl

/-- No event of a removed vCtl stays; its own end is told to the owner alone (R163, R186). -/
theorem evq_endRemoval {v : Nat} (hv : v ≠ 0) (s : State) : tget (endRemoval v s).ses.evq v = none :=
  (tget_tset_ne _ _ hv).trans (tget_terase_self ..)

section
variable {s t : State} (h : PoolsOnly s t)
include h

theorem PoolsOnly.ten : t.ten = s.ten := by
  unfold PoolsOnly at h
  rw [h]

theorem PoolsOnly.vctl? (v : Nat) : t.vctl? v = s.vctl? v := by
  unfold State.vctl?
  rw [h.ten]

theorem PoolsOnly.pending : t.pending = s.pending := by
  unfold PoolsOnly at h
  rw [h]

theorem PoolsOnly.slt : t.slt = s.slt := by
  unfold PoolsOnly at h
  rw [h]

theorem PoolsOnly.geo : t.geo = s.geo := by
  unfold PoolsOnly at h
  rw [h]

theorem PoolsOnly.strs : t.strs = s.strs := by
  unfold PoolsOnly at h
  rw [h]

theorem PoolsOnly.boot : t.boot = s.boot := by
  unfold PoolsOnly at h
  rw [h]

end

/-! ### The four commands -/

section
variable {src : Src} {tlvs : List Tlv} {s s1 : State} {c : Cmd}

/-- An accepted VCTL_CREATE lists the new number with its quotas (R161, R162, R173). -/
theorem vctlCreate_creates (h : accepted opVctlCreate src tlvs s = some (s1, c)) :
    ∃ t, execOp opVctlCreate src tlvs s = .next t ∧ s.vctl? c.target = none ∧ 2 ≤ c.target ∧
      tget t.ten.incarn c.target = some ((tgetD s.ten.incarn c.target 0 + 1) % 2 ^ 32) ∧
      (∃ ph, t.vctl? c.target = some (VCtl.granted (c.quotas tenantQuotas) ph {})) ∧
      (∀ w, w ≠ c.target → t.vctl? w = s1.vctl? w) ∧ t.slt = s.slt ∧ t.geo = s.geo ∧ t.strs = s.strs ∧ t.boot = s.boot := by
  have hcheck := check_at_commit h (fun u hu => hu) (createCheck_unpaid c)
  obtain ⟨htwo, hnone⟩ := createCheck_ok hcheck
  obtain ⟨hdebit, -⟩ := acceptedIn_frame h
  obtain ⟨hpay, -⟩ := accepted_passed h
  obtain ⟨ph, hpools⟩ := createVctl_cases c.target (c.quotas tenantQuotas) s1
  obtain ⟨t, hexec, hafter, -⟩ := execOp_commit h (vctlCreate_commits hcheck) (pending_createVctl ..)
  have hvctl (w : Nat) := (hafter.vctl? w).trans (hpools.vctl? w)
  refine ⟨t, hexec, ?_, htwo, ?_, ⟨ph, ?_⟩, fun w hw => ?_, ?_, ?_, ?_, ?_⟩
  · rw [← Option.isNone_iff_eq_none, ← vctl?_isNone_of_unpaid hpay, hnone]
    rfl
  · rw [hafter.ten, hpools.ten, ← hdebit.incarn]
    exact tget_tset_self ..
  · rw [hvctl, vctl?_modVctl_self]
    exact congrArg (Option.map _) (tget_tset_self ..)
  · rw [hvctl, vctl?_modVctl_ne _ _ hw]
    exact tget_tset_ne _ _ hw
  · exact hafter.slt.trans (hpools.slt.trans hdebit.slt)
  · exact hafter.geo.trans (hpools.geo.trans hdebit.geo)
  · exact hafter.strs.trans (hpools.strs.trans hdebit.strs)
  · exact hafter.boot.trans (hpools.boot.trans hdebit.boot)

/-- An accepted QUOTA_SET gives an ACTIVE vCtl its quotas over those in force (R171, R172). -/
theorem quotaSet_sets (h : accepted opQuotaSet src tlvs s = some (s1, c)) :
    ∃ t, execOp opQuotaSet src tlvs s = .next t ∧ s.active c.target = true ∧
      (t.vctl? c.target).map (·.q) = some (c.quotas (s.quotasOf c.target)) ∧
      (∀ w, w ≠ c.target → t.vctl? w = s1.vctl? w) ∧ t.slt = s.slt ∧ t.geo = s.geo ∧ t.strs = s.strs ∧ t.boot = s.boot := by
  have hcheck := check_at_commit h (fun u hu => hu) (quotaSetCheck_unpaid c)
  have hactive := quotaSetCheck_ok hcheck
  obtain ⟨x, hx, -⟩ := exists_of_active hactive
  obtain ⟨hdebit, -⟩ := acceptedIn_frame h
  obtain ⟨hpay, -⟩ := accepted_passed h
  obtain ⟨ph, hpools⟩ := quotaChanged_giveQuotas_cases c.target (c.quotas (s1.quotasOf c.target)) (c.has 0x0110) s1
  obtain ⟨t, hexec, hafter, -⟩ := execOp_commit h (quotaSet_commits hcheck) hpools.pending
  have hvctl (w : Nat) := (hafter.vctl? w).trans (hpools.vctl? w)
  refine ⟨t, hexec, ?_, ?_, fun w hw => ?_, ?_, ?_, ?_, ?_⟩
  · rw [← active_of_unpaid hpay, hactive]
  · rw [hvctl, vctl?_modVctl_self, hx, ← quotasOf_of_unpaid hpay]
    rfl
  · rw [hvctl, vctl?_modVctl_ne _ _ hw]
  · exact hafter.slt.trans (hpools.slt.trans hdebit.slt)
  · exact hafter.geo.trans (hpools.geo.trans hdebit.geo)
  · exact hafter.strs.trans (hpools.strs.trans hdebit.strs)
  · exact hafter.boot.trans (hpools.boot.trans hdebit.boot)

/-- An accepted REGWIN_GRANT changes the windows of the TARGET, and nothing else (R185, R582). -/
theorem regwinGrant_grants (h : accepted opRegwinGrant src tlvs s = some (s1, c)) :
    ∃ t, execOp opRegwinGrant src tlvs s = .next t ∧
      t.vctl? c.target = (s1.vctl? c.target).map (fun x => { x with windows := putWindow (c.nat 0x0011) (c.nat 0x000F) x.windows }) ∧
      (∀ w, w ≠ c.target → t.vctl? w = s1.vctl? w) ∧ AfterReply { s1 with ten := { s1.ten with vctls := t.ten.vctls } } t := by
  have hcheck := check_at_commit h (fun u hu => hu) (regwinCheck_unpaid c)
  obtain ⟨t, hexec, hafter, -⟩ := execOp_commit h (regwinGrant_commits hcheck) rfl
  refine ⟨t, hexec, ?_, fun w hw => ?_, ?_⟩
  · rw [hafter.vctl?, vctl?_modVctl_self]
  · rw [hafter.vctl?, vctl?_modVctl_ne _ _ hw]
  · rw [hafter.ten]
    exact hafter

end

/-- A REMOVING that is due ends: the number is ABSENT and its events are gone (R162, R163, R577). -/
theorem vctlRemovalEnd_due {v : Nat} {s : State} (h : s.removalDue v = true) :
    ∃ t, exec (.vctlRemovalEnd v) s = .next t ∧ t.vctl? v = none ∧ (∀ w, w ≠ v → t.vctl? w = s.vctl? w) ∧ (v ≠ 0 → tget t.ses.evq v = none) ∧
      t.slt = s.slt ∧ t.geo = s.geo ∧ t.boot = s.boot := by
  have hpools := endRemoval_cases v { s with out := [] }
  refine ⟨_, done_next (guardS_true h _ _), (hpools.vctl? v).trans (tget_terase_self ..), fun w hw => (hpools.vctl? w).trans (tget_terase_ne _ hw),
    fun hv => evq_endRemoval hv _, hpools.slt, hpools.geo, hpools.boot⟩

end Sys2Proof.Machine
end

section
/-!
SUPPORT. What VCTL_REMOVE takes away: the session, the light with its leases, and the credentials (R163). The rest of what the vCtl has is bridge
operations, semaphores, domains, keys, pools and reports beside them. That its urgent overlay ends at once is the model's choice (log 67).
-/
namespace Sys2Proof.Machine

/-! ### The session (R163) -/

/-- From `s` to `t` only outputs, sessions and what the frame holds of packets and commands have changed. -/
def SessionOnly (s t : State) : Prop :=
  t = { s with out := t.out, ses := t.ses,
               frm := { s.frm with accepted := t.frm.accepted, urgQ := t.frm.urgQ, pkts := t.frm.pkts, dups := t.frm.dups } }

theorem sessionOnly_removeSession (v : Nat) (s : State) : SessionOnly s (removeSession v s) := by
  unfold removeSession
  split <;> rfl

theorem assoc_removeSession (v : Nat) (s : State) : tget (removeSession v s).ses.assoc v = none := tget_terase_self ..

/-! ### Leases and sources (R163, R177) -/

theorem tget_isSome_of_mem {α : Type} {t : Tbl α} {e : Nat × α} (h : e ∈ t) : (tget t e.1).isSome = true := by
  induction t with
  | nil => cases h
  | cons x l ih =>
    unfold tget
    split
    · rfl
    · rename_i hne
      obtain rfl | h := List.mem_cons.1 h
      · exact absurd rfl hne
      · exact ih h

/-- Ending a lease leaves only leases of other endpoints, each as it was. -/
theorem mem_leases_endLease {h : Nat} {code : Option Nat} {s : State} {e : Nat × Lease} (he : e ∈ (endLease h code s).ten.leases) :
    e ∈ s.ten.leases ∧ e.1 ≠ h := by
  cases hl : tget s.ten.leases h with
  | none =>
    rw [endLease_none hl] at he
    refine ⟨he, ?_⟩
    rintro rfl
    have hsome := tget_isSome_of_mem he
    rw [hl] at hsome
    cases hsome
  | some l =>
    obtain ⟨q, hq⟩ := endLease_held hl code
    rw [hq] at he
    have hmem : e ∈ terase s.ten.leases h := leases_leaseEnded h l s ▸ he
    simpa [terase] using hmem

theorem mem_leases_endLease_foldl {code : Option Nat} {l : List (Nat × Lease)} {s : State} {e : Nat × Lease}
    (he : e ∈ (l.foldl (fun s x => endLease x.1 code s) s).ten.leases) : e ∈ s.ten.leases ∧ ∀ x ∈ l, e.1 ≠ x.1 := by
  induction l generalizing s with
  | nil => exact ⟨he, fun _ hx => nomatch hx⟩
  | cons x l ih =>
    obtain ⟨hmem, hrest⟩ := ih he
    obtain ⟨hmem, hx⟩ := mem_leases_endLease hmem
    exact ⟨hmem, List.forall_mem_cons.2 ⟨hx, hrest⟩⟩

theorem sources_eq_nil {s : State} {h : Nat} (hh : h ∉ s.slt.srcs.map (·.1)) : s.sources h = [] := by
  unfold State.sources tgetD
  cases hg : tget s.slt.srcs h with
  | none => rfl
  | some l => exact absurd (List.mem_map_of_mem (mem_of_tget hg)) hh

/-- The sources of `v` are gone on every endpoint where they end wherever there are sources. -/
theorem sources_endSrcs_all (v : Nat) (s : State) (h : Nat) :
    ∀ y ∈ ((s.slt.srcs.map (·.1)).foldl (fun s h => endSrcs h (fun x => x.vctl == v) s) s).sources h, y.vctl ≠ v := by
  have hown := ownSources_endSrcs (fun x : LSrc => x.vctl == v)
  by_cases hh : h ∈ s.slt.srcs.map (·.1)
  · refine hown.sources_of_mem _ s hh (P := fun l => ∀ y ∈ l, y.vctl ≠ v) fun u _ y hy => ?_
    rw [sources_endSrcs_self] at hy
    simpa using (List.mem_filter.1 hy).2
  · rw [hown.sources_of_not_mem _ s hh, sources_eq_nil hh]
    exact fun _ hy => nomatch hy

/-- The vCtl `v` holds no lease, and no source is its own. -/
def State.Unlit (s : State) (v : Nat) : Prop := (∀ e ∈ s.ten.leases, e.2.holder ≠ v) ∧ ∀ h, ∀ y ∈ s.sources h, y.vctl ≠ v

/-- What `v` keeps of overlays, step tables, groups and schedules is dropped (R163). -/
def Slates.without (v : Nat) (t : Slates) : Slates :=
  { t with overlay := tkeep t.overlay (fun _ e => e.vctl != v), tables := tkeep t.tables (fun k _ => k / 16 != v),
           starts := tkeep t.starts (fun _ x => x.vctl != v), groups := tkeep t.groups (fun k _ => k / 1024 != v),
           scheds := tkeep t.scheds (fun k _ => k / 256 != v) }

theorem removeLight_cases (v : Nat) (s : State) : ∃ u, LightEnds s u ∧ u.Unlit v ∧ removeLight v s = u.sl (Slates.without v) := by
  let s1 := (s.lmp.aon.filter (fun e => e.1 / 1024 == v)).foldl (fun s e => unflag v (e.1 % 1024) 2 s) s
  let s2 := (s1.ten.leases.filter (fun e => e.2.holder == v)).foldl (fun s e => endLease e.1 none s) s1
  let s3 := (s2.slt.srcs.map (·.1)).foldl (fun s h => endSrcs h (fun x => x.vctl == v) s) s2
  have hgroups : LightEnds s s1 := .foldl (fun u e => lightEnds_unflag v _ 2 u) _ s
  have hleases : LeasesOnly s1 s2 := .foldl (fun u _ => leasesOnly_endLease _ none u) _ s1
  have hsources : SourcesOnly s2 s3 := .foldl (fun u h => sourcesOnly_endSrcs h _ u) _ s2
  refine ⟨s3, (hgroups.trans hleases.lightEnds).trans hsources.lightEnds, ⟨fun e he hv => ?_, sources_endSrcs_all v s2⟩, rfl⟩
  have hten : s3.ten = s2.ten := by
    unfold SourcesOnly at hsources
    rw [hsources]
  rw [hten] at he
  obtain ⟨hmem, hrest⟩ := mem_leases_endLease_foldl he
  exact hrest e (List.mem_filter.2 ⟨hmem, beq_iff_eq.2 hv⟩) rfl

/-! ### The removal (R163) -/

/-- A vCtl whose removal began in frame `now`. -/
def VCtl.removed (now : Nat) (c : VCtl) : VCtl := { c with st := .removing now, windows := [], clientKey := none, cert := none }

theorem aside_modDch (s : State) (n : Nat) (f : DmaCh → DmaCh) : Aside s (s.modDch n f) := rfl

theorem aside_unwriteMib (s : State) (p : Nat) : Aside s (s.unwriteMib p) := rfl

theorem aside_bridgeRemove (v : Nat) (s : State) : Aside s (bridgeRemove v s) := rfl

theorem aside_flintRemove (v : Nat) (s : State) : Aside s (flintRemove v s) := rfl

theorem aside_ar (s : State) (f : Air → Air) : Aside s (s.ar f) := rfl

theorem aside_geo' (s : State) (f : Geode → Geode) : Aside s (s.geo' f) := rfl

theorem aside_lds (s : State) (l : Lodestone) : Aside s { s with lds := l } := rfl

/-- After session and light, a removal changes the entry of the vCtl and what lies beside tenancy, slate, strings and boot. -/
theorem removeVctl_cases (v : Nat) (s : State) :
    ∃ w, Aside (removeLight v (removeSession v s)) w ∧ removeVctl v s = vctlState v 2 (w.modVctl v (VCtl.removed w.frm.now)) := by
  unfold removeVctl
  extract_lets u u1 u2 u3 u4 u5 u6 u7 u8 u9 l u10
  have hbridge : Aside u u1 := (aside_semRemove v u).trans (aside_bridgeRemove ..)
  have hdma : Aside u1 u2 := .foldl (fun s n => aside_modDch s n stopDma) _ u1
  have hkeys : Aside u2 u3 := (aside_flintRemove v u2).trans (aside_detachAll ..)
  have htimers : Aside u3 u4 := .foldl (fun s n => aside_setField s (aLdsTmrCtl n) 0 1 0) _ u3
  have hair : Aside u4 u5 := aside_ar ..
  have hpages : Aside u5 u6 := .foldl (fun s p => aside_unwriteMib s p) _ u5
  have hreports : Aside u6 u8 := (aside_lm ..).trans (aside_geo' ..)
  have hstamps : Aside u8 u10 := (aside_qr ..).trans (aside_lds ..)
  exact ⟨u10, (((hbridge.trans hdma).trans (hkeys.trans htimers)).trans (hair.trans hpages)).trans (hreports.trans hstamps), rfl⟩

/-- What of tenancy, slate, strings and boot no end of a right, a lease or a session changes. -/
def State.lasting (s : State) := (s.ten.vctls, s.slt.back, s.strs, s.boot, s.frm.now)

theorem LightEnds.lasting {s t : State} (h : LightEnds s t) : t.lasting = s.lasting := by
  unfold LightEnds at h
  rw [h]
  rfl

theorem LightEnds.assoc {s t : State} (h : LightEnds s t) : t.ses.assoc = s.ses.assoc := by
  unfold LightEnds at h
  rw [h]

theorem Aside.assoc {s t : State} (h : Aside s t) : t.ses.assoc = s.ses.assoc := h.lightEnds.assoc

theorem Aside.ten {s t : State} (h : Aside s t) : t.ten = s.ten := by
  unfold Aside at h
  rw [h]

theorem Aside.slt {s t : State} (h : Aside s t) : t.slt = s.slt := by
  unfold Aside at h
  rw [h]

theorem SessionOnly.lasting {s t : State} (h : SessionOnly s t) : t.lasting = s.lasting := by
  unfold SessionOnly at h
  rw [h]
  rfl

/-- What a removal takes away, and what of tenancy, slate, strings and boot it leaves. -/
theorem removeVctl_removes (v : Nat) (s : State) :
    tget (removeVctl v s).ses.assoc v = none ∧ (removeVctl v s).Unlit v ∧ (∃ x : Slates, (removeVctl v s).slt = x.without v) ∧
      (removeVctl v s).lasting = (s.modVctl v (VCtl.removed s.frm.now)).lasting := by
  obtain ⟨w, haside, he⟩ := removeVctl_cases v s
  obtain ⟨u, hlight, hunlit, hremoved⟩ := removeLight_cases v (removeSession v s)
  have hlasting : w.lasting = s.lasting := by
    have hsl : (u.sl (Slates.without v)).lasting = u.lasting := rfl
    rw [haside.lightEnds.lasting, hremoved, hsl, hlight.lasting, (sessionOnly_removeSession v s).lasting]
  rw [hremoved] at haside
  have hten : w.ten = u.ten := haside.ten
  have hslate : w.slt = u.slt.without v := haside.slt
  rw [he]
  refine ⟨?_, ⟨?_, fun h => ?_⟩, ⟨u.slt, hslate⟩, ?_⟩
  · refine (congrArg (fun x => tget x v) (haside.assoc.trans hlight.assoc)).trans ?_
    exact assoc_removeSession v s
  · exact fun e h => hunlit.1 e (hten ▸ h)
  · have hsources : w.sources h = u.sources h := by
      unfold State.sources
      rw [hslate]
      rfl
    exact fun y hy => hunlit.2 h y (hsources ▸ hy)
  · simp only [State.lasting, Prod.mk.injEq] at hlasting ⊢
    obtain ⟨hvctls, hback, hstrs, hboot, hnow⟩ := hlasting
    exact ⟨by rw [hnow]; exact congrArg (fun x => tmod x v _) hvctls, hback, hstrs, hboot, hnow⟩

section
variable {v : Nat} {x : Slates}

theorem ne_of_mem_groups_without {e} (h : e ∈ (x.without v).groups) : e.1 / 1024 ≠ v := by
  simpa using (List.mem_filter.1 h).2

theorem ne_of_mem_scheds_without {e} (h : e ∈ (x.without v).scheds) : e.1 / 256 ≠ v := by
  simpa using (List.mem_filter.1 h).2

theorem ne_of_mem_overlay_without {e} (h : e ∈ (x.without v).overlay) : e.2.vctl ≠ v := by
  simpa using (List.mem_filter.1 h).2

end

section
variable {src : Src} {tlvs : List Tlv} {s s1 : State} {c : Cmd}

/-- An accepted VCTL_REMOVE takes session, light, windows and credentials of an ACTIVE vCtl (R162, R163). -/
theorem vctlRemove_removes (h : accepted opVctlRemove src tlvs s = some (s1, c)) :
    ∃ t, execOp opVctlRemove src tlvs s = .next t ∧ 2 ≤ c.target ∧ s.active c.target = true ∧
      (∃ x, t.vctl? c.target = some (VCtl.removed s.frm.now x)) ∧
      t.assoc? (.vctl c.target) = none ∧ t.Unlit c.target ∧ (∃ x : Slates, t.slt = x.without c.target) ∧
      t.strs = s.strs ∧ t.boot = s.boot ∧ t.slt.back = s.slt.back := by
  have hcheck := check_at_commit h (fun u hu => hu) (removeCheck_unpaid c)
  obtain ⟨htwo, hactive⟩ := removeCheck_ok hcheck
  obtain ⟨x, hx, -⟩ := exists_of_active hactive
  obtain ⟨hdebit, -⟩ := acceptedIn_frame h
  obtain ⟨hpay, -⟩ := accepted_passed h
  obtain ⟨hassoc, hunlit, hslate, hlasting⟩ := removeVctl_removes c.target s1
  simp only [State.lasting, Prod.mk.injEq] at hlasting
  obtain ⟨hvctls, hback, hstrs, hboot, -⟩ := hlasting
  have hafter := afterReply_answer 3 src c.ok (removeVctl c.target s1)
  refine ⟨_, execOp_answer h (vctlRemove_commits hcheck) (pending_removeVctl ..), htwo, ?_, ⟨x, ?_⟩, answer_absent 3 hassoc, ?_, ?_, ?_, ?_, ?_⟩
  · rw [← active_of_unpaid hpay, hactive]
  · rw [hafter.vctl?, ← hdebit.now]
    refine (congrArg (fun t => tget t c.target) hvctls).trans ?_
    refine (vctl?_modVctl_self s1 c.target _).trans ?_
    rw [hx]
    rfl
  · refine ⟨?_, fun k => ?_⟩
    · rw [hafter.ten]
      exact hunlit.1
    · rw [hafter.sources]
      exact hunlit.2 k
  · rw [hafter.slt]
    exact hslate
  · exact hafter.strs.trans (hstrs.trans hdebit.strs)
  · exact hafter.boot.trans (hboot.trans hdebit.boot)
  · rw [hafter.slt, hback]
    exact congrArg Slates.back hdebit.slt

end

end Sys2Proof.Machine
end

section
/-!
SUPPORT. What RIGHTS_SET changes of the TARGET (R164, R166 to R170), and why its check at the commit passes as at the acceptance.
-/
namespace Sys2Proof.Machine

/-! ### Endpoint rights -/

/-- EP_RIGHTS after a RIGHTS_SET. -/
def Cmd.newEp (c : Cmd) (old : Nat) : Nat := if c.has 0x0122 then epAfter (c.nat 0x0124) (c.nat 0x0122 % 32) old else old

/-- MOD_RIGHTS of the TARGET after a RIGHTS_SET. -/
def State.newMod (s : State) (c : Cmd) : Nat :=
  let old := ((s.vctl? c.target).map (·.modRights)).getD 0
  if c.has 0x0123 then modAfter (c.nat 0x0124) (c.nat 0x0123 % 128) old else old

theorem rightsChange_congr {s t : State} {v : Nat} (h : ∀ k, t.epRights v k = s.epRights v k) (hs : List Nat) (mk : Nat → Nat) :
    t.rightsChange v hs mk = s.rightsChange v hs mk := by
  unfold State.rightsChange
  simp only [h]

theorem epRights_of_vctl? {s : State} {v : Nat} {x : VCtl} (hv : v ≠ 0) (h : s.vctl? v = some x) (k : Nat) : s.epRights v k = tgetD x.rights k 0 := by
  unfold State.epRights
  rw [if_neg hv, h]

theorem epRights_of_rights_eq {s t : State} {v : Nat} (h : (t.vctl? v).map (·.rights) = (s.vctl? v).map (·.rights)) (k : Nat) :
    t.epRights v k = s.epRights v k := by
  have hcases (u : State) : u.epRights v k = if v = 0 then 31 else ((u.vctl? v).map (fun x => tgetD x.rights k 0)).getD 0 := by
    unfold State.epRights
    cases u.vctl? v <;> rfl
  have hmap (u : State) : (u.vctl? v).map (fun x => tgetD x.rights k 0) = ((u.vctl? v).map (·.rights)).map (fun r => tgetD r k 0) := by
    rw [Option.map_map]
    rfl
  rw [hcases t, hcases s, hmap t, hmap s, h]

/-- The rights of the handles listed are what `mk` makes of them, and the others stay. -/
theorem tgetD_rightsChange {s : State} {v : Nat} {x : VCtl} (hv : v ≠ 0) (hx : s.vctl? v = some x) (hs : List Nat) (mk : Nat → Nat) (h : Nat) :
    tgetD (putRights (s.rightsChange v hs mk) x.rights) h 0 = if h ∈ hs then mk (s.epRights v h) else s.epRights v h := by
  have hvalue : ∀ e ∈ s.rightsChange v hs mk, e.2.2 = mk (s.epRights v e.1) := by
    intro e he
    obtain ⟨k, -, rfl⟩ := List.mem_map.1 (List.mem_filter.1 he).1
    rfl
  have hmem : h ∈ (s.rightsChange v hs mk).map (·.1) ↔ h ∈ hs ∧ s.epRights v h ≠ mk (s.epRights v h) := by
    simp [State.rightsChange]
  rw [tgetD_putRights (g := fun k => mk (s.epRights v k)) hvalue, ← epRights_of_vctl? hv hx]
  by_cases hh : h ∈ hs
  · by_cases hsame : s.epRights v h = mk (s.epRights v h)
    · rw [if_neg (fun hc => (hmem.1 hc).2 hsame), if_pos hh]
      exact hsame
    · rw [if_pos (hmem.2 ⟨hh, hsame⟩), if_pos hh]
  · rw [if_neg (fun hc => hh (hmem.1 hc).1), if_neg hh]

/-! ### RIGHTS_SET -/

/-- A RIGHTS_SET changes the entry of its TARGET: the rights listed, the module-wide rights, and nothing of the quotas. -/
theorem applyRights_cases (c : Cmd) (s : State) :
    ∃ f : VCtl → VCtl, LightEnds (s.modVctl c.target f) (applyRights c s) ∧
      ∀ x, (f x).rights = putRights (s.rightsChange c.target c.handles c.newEp) x.rights ∧ (f x).modRights = s.newMod c ∧ (f x).q = x.q := by
  unfold applyRights
  extract_lets v mode hs mk changed oldMod mod s1 s2 s3
  have hdetach : Aside s1 s2 := by
    unfold s2
    split
    · exact aside_detachAll v s1
    · exact .refl s1
  have haside : LightEnds s1 s3 := (hdetach.trans (aside_raise ..)).lightEnds
  have hrights : (s3.vctl? v).map (·.rights) = (s.vctl? v).map (·.rights) := by
    rw [haside.vctl?, vctl?_modVctl_self, Option.map_map]
    rfl
  obtain ⟨w, hset⟩ := setEpRights_cases v hs mk s3
  rw [rightsChange_congr (epRights_of_rights_eq hrights)] at hset
  have hboth := (haside.modVctl v (fun x => { x with rights := putRights (s.rightsChange v hs mk) x.rights, view := w x })).trans hset
  unfold s1 at hboth
  rw [modVctl_modVctl] at hboth
  exact ⟨_, hboth, fun x => ⟨rfl, rfl, rfl⟩⟩

/-! ### The check of RIGHTS_SET through a payment -/

/-- What each vCtl brings to the tag quotas of the strings: its rights and its tags. -/
def State.claims (s : State) : Tbl (Tbl Nat × Nat) := tmap s.ten.vctls (fun _ x => (x.rights, x.q.tags))

theorem stringTags_of_claims {s t : State} (h : t.claims = s.claims) (g : Nat) : t.stringTags g = s.stringTags g := by
  have hfold (u : State) : u.stringTags g = u.claims.foldl (fun n e =>
      if e.1 = 0 || e.2.1.any (fun r => hRealm r.1 == 0 && hString r.1 == g && r.2 != 0) then n + e.2.2 else n) 0 := by
    unfold State.claims tmap
    rw [List.foldl_map]
    rfl
  rw [hfold t, hfold s, h]

theorem claims_unpaid (s : State) : s.unpaid.claims = s.claims := List.map_map

theorem claims_applyRights (c : Cmd) (s : State) :
    (applyRights c s).claims = tmod s.claims c.target (fun p => (putRights (s.rightsChange c.target c.handles c.newEp) p.1, p.2)) := by
  obtain ⟨f, hlight, hf⟩ := applyRights_cases c s
  unfold State.claims
  rw [hlight.vctls]
  refine (tmod_tmap s.ten.vctls c.target fun x => ?_).symm
  obtain ⟨hrights, -, hq⟩ := hf x
  rw [hrights, hq]

theorem rightsCheck_unpaid (c : Cmd) (s : State) : rightsCheck c s.unpaid = rightsCheck c s := by
  have hclaims : (applyRights c s.unpaid).claims = (applyRights c s).claims := by
    rw [claims_applyRights, claims_applyRights, claims_unpaid, rightsChange_congr (epRights_unpaid s c.target)]
  simp only [rightsCheck, targetActive_unpaid, stringTags_of_claims hclaims, stringTags_unpaid]

theorem rightsCheck_ok {c : Cmd} {s : State} (h : rightsCheck c s = .ok ()) : s.active c.target = true := need_bind_ok h

theorem opRightsSet_accept_ok {c : Cmd} {s : State} (h : opRightsSet.accept c s = .ok ()) : rightsCheck c s = .ok () := by
  change (checkReach s c.handles 0x0121 >>= fun _ => rightsCheck c s) = .ok () at h
  cases hreach : checkReach s c.handles 0x0121 with
  | error e =>
    rw [hreach] at h
    cases h
  | ok u =>
    rw [hreach] at h
    exact h

/-- An accepted RIGHTS_SET changes rights by their mode, those of its TARGET alone (R167 to R170). -/
theorem rightsSet_sets {src : Src} {tlvs : List Tlv} {s s1 : State} {c : Cmd} (h : accepted opRightsSet src tlvs s = some (s1, c)) :
    ∃ t, execOp opRightsSet src tlvs s = .next t ∧ 2 ≤ c.target ∧
      (∀ k, t.epRights c.target k = if k ∈ c.handles then c.newEp (s.epRights c.target k) else s.epRights c.target k) ∧
      (∃ x, s.vctl? c.target = some x ∧ (t.vctl? c.target).map (·.modRights) = some (s.newMod c)) ∧
      (∀ w, w ≠ c.target → (t.vctl? w).map (fun x => (x.rights, x.modRights)) = (s.vctl? w).map (fun x => (x.rights, x.modRights))) ∧
      t.slt.back = s.slt.back ∧ t.strs = s.strs ∧ t.boot = s.boot := by
  have hcheck := check_at_commit h (fun u => opRightsSet_accept_ok) (rightsCheck_unpaid c)
  obtain ⟨x, hx, -⟩ := exists_of_active (rightsCheck_ok hcheck)
  obtain ⟨hdebit, -⟩ := acceptedIn_frame h
  obtain ⟨hpay, -⟩ := accepted_passed h
  have htwo : 2 ≤ c.target := (accepted_nat_range (sp := (tFix 0x0120 2 2 4095).must) h (List.mem_cons_self ..) rfl rfl (by decide)).1
  have hne : c.target ≠ 0 := by omega
  have hep (k : Nat) : s1.epRights c.target k = s.epRights c.target k := by rw [← epRights_unpaid s1, hpay, epRights_unpaid]
  have hmod : s1.newMod c = s.newMod c := by
    unfold State.newMod
    rw [vctl?_map_of_unpaid hpay (g := (·.modRights)) (fun _ => rfl)]
  obtain ⟨f, hlight, hf⟩ := applyRights_cases c s1
  obtain ⟨hrights, hmodRights, -⟩ := hf x
  obtain ⟨t, hexec, hafter, -⟩ := execOp_commit h (rightsSet_commits hcheck) (pending_applyRights ..)
  have hlasting := hlight.lasting
  simp only [State.lasting, Prod.mk.injEq] at hlasting
  obtain ⟨-, hback, hstrs, hboot, -⟩ := hlasting
  have htarget : t.vctl? c.target = some (f x) := by
    rw [hafter.vctl?, hlight.vctl?, vctl?_modVctl_self, hx]
    rfl
  refine ⟨t, hexec, htwo, fun k => ?_, ?_, fun w hw => ?_, ?_, ?_, ?_⟩
  · rw [epRights_of_vctl? hne htarget, hrights, tgetD_rightsChange hne hx, hep]
  · have hs : (s.vctl? c.target).isNone = false := by
      rw [← vctl?_isNone_of_unpaid hpay, hx]
      rfl
    obtain ⟨y, hy⟩ := Option.isSome_iff_exists.1 (Option.isNone_eq_false_iff.1 hs)
    exact ⟨y, hy, by rw [htarget, ← hmod, ← hmodRights]; rfl⟩
  · rw [hafter.vctl?, hlight.vctl?, vctl?_modVctl_ne _ _ hw]
    exact vctl?_map_of_unpaid hpay (fun _ => rfl) w
  · rw [hafter.slt, hback, ← hdebit.slt]
    rfl
  · exact hafter.strs.trans (hstrs.trans hdebit.strs)
  · exact hafter.boot.trans (hboot.trans hdebit.boot)

end Sys2Proof.Machine
end

section
/-!
SUPPORT. What CRED_SET changes (R499, R537, R580, R581), and the owner's commands on vCtls, rights, quotas and credentials together.
-/
namespace Sys2Proof.Machine

/-! ### CRED_SET -/

/-- What no TLV of CRED_SET changes. -/
def State.uncredited (s : State) := (s.slt, s.geo, s.strs, s.brg, s.frm)

theorem uncredited_credTlv (v : Nat) (s : State) (x : Nat × Bytes) : (credTlv v s x).uncredited = s.uncredited := by
  unfold credTlv
  dsimp only
  (repeat' split) <;> rfl

theorem isSome_tget_tmod {α : Type} (t : Tbl α) (k n : Nat) (f : α → α) : (tget (tmod t k f) n).isSome = (tget t n).isSome := by
  by_cases hn : n = k
  · rw [hn, tget_tmod_self, Option.isSome_map]
  · rw [tget_tmod_ne _ _ hn]

theorem isSome_assoc_modAssoc (s : State) (k : AssocKey) (f : Assoc → Assoc) (n : Nat) :
    (tget (s.modAssoc k f).ses.assoc n).isSome = (tget s.ses.assoc n).isSome := isSome_tget_tmod s.ses.assoc (evKey k) n f

theorem closing_modAssoc (s : State) (k : AssocKey) :
    EntriesAt (s.modAssoc k (fun a => { a with closing := true })).ses.assoc (evKey k) (·.closing = true) :=
  EntriesAt.tmod (t := s.ses.assoc) (P := fun _ => True) (f := fun a => { a with closing := true }) (fun _ _ _ => trivial) fun _ _ => rfl

/-- CRED_SET opens and drops no association; the ones it ends close after the replies. -/
theorem isSome_assoc_credTlv (n v : Nat) (s : State) (x : Nat × Bytes) : (tget (credTlv v s x).ses.assoc n).isSome = (tget s.ses.assoc n).isSome := by
  unfold credTlv
  dsimp only
  split
  · split
    · rfl
    · exact isSome_assoc_modAssoc ..
  · split
    · rfl
    · split
      · rfl
      · split
        · split
          · exact isSome_assoc_modAssoc ..
          · rfl
        · rfl

theorem credTlv_target (v : Nat) (s : State) (b : Bytes) : credTlv v s (0x0120, b) = s := by simp [credTlv]

theorem credTlv_imageKey (v : Nat) (s : State) (b : Bytes) : credTlv v s (0x0261, b) = { s with boot := { s.boot with imageKey := some b } } := by
  simp [credTlv]

/-- The state with a client key registered. -/
def State.keyed (s : State) (v : Nat) (k : Bytes) : State := s.modVctl v (fun x => { x with clientKey := some k })

/-- The key that stands changes nothing of its association; another ends it (R581). -/
theorem credTlv_clientKey (v : Nat) (s : State) (k : Bytes) : credTlv v s (0x0268, k) =
    if (s.vctl? v).bind (·.clientKey) = some k then s.keyed v k else (s.keyed v k).modAssoc (.vctl v) (fun a => { a with closing := true }) := if_pos rfl

theorem vctl?_credTlv_clientKey (v : Nat) (s : State) (k : Bytes) :
    (credTlv v s (0x0268, k)).vctl? v = (s.vctl? v).map (fun x => { x with clientKey := some k }) := by
  rw [credTlv_clientKey]
  split
  · exact vctl?_modVctl_self ..
  · exact vctl?_modVctl_self ..

theorem closing_credTlv_clientKey {v : Nat} {s : State} {k : Bytes} (h : (s.vctl? v).bind (·.clientKey) ≠ some k) :
    EntriesAt (credTlv v s (0x0268, k)).ses.assoc v (·.closing = true) := by
  rw [credTlv_clientKey, if_neg h]
  exact closing_modAssoc _ (.vctl v)

theorem credTlv_grant {b : Bytes} (h : u b 1 1 % 8 ≠ 0) (v : Nat) (s : State) :
    (credTlv v s (0x0260, b)).boot.creds = tset s.boot.creds (u b 0 1) ⟨u b 1 1 % 8, b.drop 4⟩ :=
  congrArg (fun x : State => x.boot.creds) (if_neg h)

/-- The state without a service credential, whose association closes (R537, R581). -/
theorem credTlv_revoke {b : Bytes} (h : u b 1 1 % 8 = 0) (v : Nat) (s : State) : credTlv v s (0x0260, b) =
    ({ s with boot := { s.boot with creds := terase s.boot.creds (u b 0 1) },
              ses := { s.ses with evq := terase s.ses.evq (0x10000 + u b 0 1) } } : State).modAssoc (.svc (u b 0 1)) (fun a => { a with closing := true }) :=
  if_pos h

/-- An accepted CRED_SET works through its TLVs, and its answer ends what closes. -/
theorem credSet_answers {src : Src} {tlvs : List Tlv} {s s1 : State} {c : Cmd} (h : accepted opCredSet src tlvs s = some (s1, c)) :
    ∃ t, execOp opCredSet src tlvs s = .next t ∧ AfterReply (c.tlvs.foldl (credTlv c.target) s1) t ∧
      (∀ n, EntriesAt (c.tlvs.foldl (credTlv c.target) s1).ses.assoc n (·.closing = true) → tget t.ses.assoc n = none) ∧
      t.slt = s.slt ∧ t.geo = s.geo ∧ t.strs = s.strs ∧ t.brg = s.brg := by
  have hcheck := check_at_commit h (fun _ hu => hu) (credCheck_unpaid c)
  obtain ⟨hdebit, -⟩ := acceptedIn_frame h
  obtain ⟨a, ha, -, -, hbeat, -⟩ := acceptedIn_inv h
  have hqueue : (c.tlvs.foldl (credTlv c.target) s1).pending = s1.pending := foldl_keeps _ State.pending _ (fun w x _ => pending_credTlv _ w x) s1
  have hkept : (c.tlvs.foldl (credTlv c.target) s1).uncredited = s1.uncredited :=
    foldl_keeps _ State.uncredited _ (fun w x _ => uncredited_credTlv _ w x) s1
  have hopen : (tget (c.tlvs.foldl (credTlv c.target) s1).ses.assoc (evKey src.key)).isSome = true := by
    rw [foldl_keeps _ (fun w : State => (tget w.ses.assoc (evKey src.key)).isSome) _ (fun w x _ => isSome_assoc_credTlv _ _ w x) s1, acceptedIn_assoc h,
      isSome_tget_tmod]
    exact Option.isSome_iff_exists.2 ⟨a, ha⟩
  simp only [State.uncredited, Prod.mk.injEq] at hkept
  obtain ⟨hslt, hgeo, hstrs, hbrg, hfrm⟩ := hkept
  have hafter := afterReply_answer 3 src c.ok (c.tlvs.foldl (credTlv c.target) s1)
  refine ⟨_, execOp_answer h (credSet_commits hcheck) hqueue, hafter, fun n hn => answer_ends 3 ?_ hopen hn, ?_, ?_, ?_, ?_⟩
  · rw [hfrm, hdebit]
    exact hbeat
  · exact hafter.slt.trans (hslt.trans hdebit.slt)
  · exact hafter.geo.trans (hgeo.trans hdebit.geo)
  · exact hafter.strs.trans (hstrs.trans hdebit.strs)
  · exact hafter.brg.trans (hbrg.trans hdebit.brg)

/-- A CRED_SET of a client key gives it to the TARGET, and ends the association of another key (R581). -/
theorem credSet_clientKey {src : Src} {tlvs : List Tlv} {s s1 t : State} {c : Cmd} {b k : Bytes} (h : accepted opCredSet src tlvs s = some (s1, c))
    (hafter : AfterReply (c.tlvs.foldl (credTlv c.target) s1) t)
    (hends : ∀ n, EntriesAt (c.tlvs.foldl (credTlv c.target) s1).ses.assoc n (·.closing = true) → tget t.ses.assoc n = none)
    (hc : c.tlvs = [(0x0120, b), (0x0268, k)]) :
    (t.vctl? c.target).bind (·.clientKey) = some k ∧ ((s.vctl? c.target).bind (·.clientKey) ≠ some k → t.assoc? (.vctl c.target) = none) := by
  have hcheck : credCheck c s1 = .ok () := check_at_commit h (fun _ hu => hu) (credCheck_unpaid c)
  obtain ⟨hpay, -⟩ := accepted_passed h
  have hhas : c.has 0x0120 = true := by simp [Cmd.has, Cmd.tlv?, hc]
  have hactive : s1.active c.target = true := by
    unfold credCheck at hcheck
    rw [if_pos hhas] at hcheck
    exact targetActive_ok hcheck
  obtain ⟨x, hx, -⟩ := exists_of_active hactive
  have hfold : c.tlvs.foldl (credTlv c.target) s1 = credTlv c.target s1 (0x0268, k) := by
    rw [hc, List.foldl_cons, List.foldl_cons, List.foldl_nil, credTlv_target]
  rw [hfold] at hafter hends
  refine ⟨?_, fun hnew => hends _ (closing_credTlv_clientKey ?_)⟩
  · rw [hafter.vctl?, vctl?_credTlv_clientKey, hx]
    rfl
  · have hold : (s1.vctl? c.target).map (·.clientKey) = (s.vctl? c.target).map (·.clientKey) := vctl?_map_of_unpaid hpay (fun _ => rfl) _
    have hbind (o : Option VCtl) : o.bind (·.clientKey) = (o.map (·.clientKey)).bind id := by cases o <;> rfl
    rw [hbind] at hnew ⊢
    rwa [hold]

theorem newMod_of_has {s : State} {c : Cmd} {x : VCtl} (hx : s.vctl? c.target = some x) (h : c.has 0x0123 = true) :
    s.newMod c = modAfter (c.nat 0x0124) (c.nat 0x0123 % 128) x.modRights := by
  unfold State.newMod
  rw [if_pos h, hx]
  rfl

theorem newMod_of_not_has {s : State} {c : Cmd} {x : VCtl} (hx : s.vctl? c.target = some x) (h : c.has 0x0123 = false) : s.newMod c = x.modRights := by
  unfold State.newMod
  rw [hx, h]
  rfl

/-- Settles O27: each command is its commit on the TARGET, whose checks have passed at the acceptance and pass again, and its answer. -/
theorem tenantsRightsAndQuotas : Obligations.TenantsRightsAndQuotas := by
  refine ⟨fun src tlvs s s1 c h => ?create, fun src tlvs s s1 c h => ?remove, fun v s h => ?removalEnd, fun v s h => ?notDue,
    fun src tlvs s s1 c h => ?rights, fun src tlvs s s1 c h => ?quota, fun src tlvs s s1 c h => ?cred, fun src tlvs s s1 c h => ?regwin⟩
  case create =>
    obtain ⟨t, hexec, hnone, htwo, hincarn, ⟨ph, hnew⟩, hrest⟩ := vctlCreate_creates h
    refine ⟨t, hexec, hnone, htwo, hincarn, ?_, hrest⟩
    rw [hnew]
    rfl
  case remove =>
    obtain ⟨t, hexec, htwo, hactive, ⟨x, hx⟩, hassoc, ⟨hleases, hsources⟩, ⟨y, hslate⟩, hstrs, hboot, hback⟩ := vctlRemove_removes h
    refine ⟨t, hexec, htwo, hactive, ?_, hassoc, hleases, hsources, ?_, ?_, ?_, hstrs, hboot, hback⟩
    · rw [hx]
      rfl
    · rw [hslate]
      exact fun _ => ne_of_mem_groups_without
    · rw [hslate]
      exact fun _ => ne_of_mem_scheds_without
    · rw [hslate]
      exact fun _ => ne_of_mem_overlay_without
  case removalEnd =>
    obtain ⟨t, hexec, hnone, hothers, hrest⟩ := vctlRemovalEnd_due h
    exact ⟨t, hexec, hnone, fun w hw => congrArg (Option.map _) (hothers w hw), hrest⟩
  case notDue => exact done_eq_next (guardS_false h _ _) rfl
  case rights =>
    obtain ⟨t, hexec, htwo, hep, ⟨x, hx, hmod⟩, hothers, hrest⟩ := rightsSet_sets h
    refine ⟨t, hexec, htwo, fun k hk hhas => ?_, fun k hk => ?_, fun hhas => ?_, fun hhas => ?_, hothers, hrest⟩
    · rw [hep, if_pos hk, Cmd.newEp, if_pos hhas]
    · rw [hep, if_neg hk]
    · rw [hmod, newMod_of_has hx hhas, hx]
      rfl
    · rw [hmod, newMod_of_not_has hx hhas, hx]
      rfl
  case quota => exact quotaSet_sets h
  case cred =>
    obtain ⟨t, hexec, hafter, hends, hrest⟩ := credSet_answers h
    refine ⟨t, hexec, fun k hc => credSet_clientKey h hafter hends hc, fun b hc hroles => ?_, fun b hc hroles => ?_, fun b hc => ?_, hrest⟩
    all_goals rw [hc, List.foldl_cons, List.foldl_nil] at hafter hends
    · rw [hafter.boot, credTlv_grant hroles]
      exact tget_tset_self ..
    · rw [credTlv_revoke hroles] at hafter hends
      exact ⟨(congrArg (fun x : Boot => tget x.creds _) hafter.boot).trans (tget_terase_self ..), hends _ (closing_modAssoc _ (.svc _))⟩
    · obtain ⟨hdebit, -⟩ := acceptedIn_frame h
      rw [hafter.boot, credTlv_imageKey, ← hdebit.boot]
  case regwin => exact regwinGrant_grants h

end Sys2Proof.Machine
end
